-- ==== Sys2Proof/Word.lean ====
section
/-! DEFINITION. The word and byte types and the type of a sparse map: R9 and R11 of 00_scope.md. -/
namespace Sys2Proof

/-- A 32-bit word: a register, a general register, a word of memory (R14). -/
abbrev Word := BitVec 32

/-- A byte of memory (R9). -/
abbrev Byte := BitVec 8

/-- Sparse data by key.  `Machine/Map.lean` gives its reads and writes and its one canonical form. -/
abbrev SMap (α : Type) := List (Nat × α)

/-- The word of a natural number, taken modulo 2^32. -/
abbrev w32 (n : Nat) : Word := BitVec.ofNat 32 n

end Sys2Proof
end

