-- ==== Sys2Proof/Syntax.lean ====
section
/-! DEFINITION. The commands of the block: one constructor for each row of spec/opcode_table.json, in the table's order. -/
namespace Sys2Proof

/-- Who makes a register access: the code of a loop, or a HAP session (R40). -/
inductive Who where
  | loop (l : Nat)
  | session (sid : Nat)
  deriving DecidableEq, Repr

/-- The number of a general register, g0 to g31 (R59). -/
abbrev Reg := BitVec 5

/-- What an access finds in the ECC-protected memory it reaches (R35): no error, a single-bit error, or a double-bit
error. -/
inductive Ecc where
  | ok
  | single
  | double
  deriving DecidableEq, Repr

/-- What a front-end channel measures in one visit to an input (R211, R217, R222 to R224): the quantity of Table 6.1 before
calibration as FP32, the cold-junction temperature or lead resistance, the common-mode voltage, the acquisition samples of
each enabled spot in ascending code order, in nanovolts, whether a lead is open (compliance reached or the last
open-circuit test failed), and whether the drive current or excitation limit was reached. -/
structure FeMeas where
  raw : Word
  aux : Word
  cmv : Word
  spots : List (List Int)
  leadOpen : Bool
  limit : Bool
  deriving DecidableEq, Repr

/-- A frame on a trunk (Table 8.6): BRS, ESI, the 24-bit arbitration field, the payload, and the
DTB of its SOF. -/
structure LatFrame where
  brs : Bool
  esi : Bool
  arb : Nat
  payload : List Byte
  sof : Nat
  deriving DecidableEq, Repr

/-- What a trunk reads of a frame that ends in an error (R298 to R301, Table 8.13): the bits from SOF on, the transmitter delay measured
for the data phase in quanta (R278), the bits read from the first bit of the trunk's own flag on, whether a dominant bit was read right
after the receiver's own flag (or during a passive flag of a transmitter), and how many further runs of dominant bits followed the flag. -/
structure LatError where
  bits : List Bool
  tdc : Nat
  after : List Bool
  dominant : Bool
  runs : Nat
  deriving DecidableEq, Repr

/-- A bus error at a CAN port (R335, Table 8.13): the LEC code, whether the port was the transmitter, the DTB of the frame's SOF, whether a dominant bit was read
right after the receiver's own flag (or during a passive flag of a transmitter), and how many further runs of dominant bits followed. -/
structure PortError where
  lec : Nat
  tx : Bool
  sof : Nat
  dominant : Bool
  runs : Nat
  deriving DecidableEq, Repr

/-- A CAN frame received without error (R338): BRS, FDF, IDE, the identifier with a base identifier in [28:18], ESI, whether
it is a remote frame, the DLC, the payload, and the DTB of its SOF. -/
structure CanFrame where
  brs : Bool
  fdf : Bool
  ide : Bool
  id : Nat
  esi : Bool
  remote : Bool
  dlc : Nat
  payload : List Byte
  sof : Nat
  deriving DecidableEq, Repr

/-- What a frame on a host link carries (R438): what its command says, or in its place an IPv4 fragment, an IPv4 datagram with options,
or another protocol. -/
inductive FrameKind where
  | plain
  | fragment
  | options
  | other
  deriving DecidableEq, Repr

/-- An Ethernet frame on a host link (R434): its VID (0: untagged), its size in bytes and what it carries. -/
structure HostFrame where
  vid : Nat
  size : Nat
  kind : FrameKind
  deriving DecidableEq, Repr

/-- A UDP datagram that carries a HAP request (R434, R438, Table 13.3): the link it arrived on, its frame, addresses and destination
port; the header fields, where `type` is one in place of the command's; how many of the body bytes that the command's operands spell
are missing at their end, and the bytes in their place; and the TAG. -/
structure HapMsg where
  link : Nat
  frame : HostFrame
  dst : Word
  src : Word
  port : Nat
  magic : Nat
  ver : Nat
  type : Option Nat
  sid : Nat
  seq : Nat
  len : Nat
  cut : Nat
  extra : List Byte
  tag : List Byte
  deriving DecidableEq, Repr

/-- The mode operand of SKIM, LEARN, and what the reads of the word played back and of the word learned on find (R35, R125). -/
structure SkimOp where
  learn : Bool
  ecc : Ecc
  learnEcc : Ecc
  deriving DecidableEq, Repr

/-- The address written to HWK_SUBMIT, and what the arbiter's reads of the descriptors find, by address (R35, R184). -/
structure Submission where
  addr : Word
  ecc : List (Nat × Ecc)
  deriving DecidableEq, Repr

/-- A pair whose cores differ, or whose access to local memory at an address finds an error (R35, R53). -/
structure PairFault where
  pair : Nat
  ecc : Ecc
  addr : Nat
  deriving DecidableEq, Repr

/-- The kind of a grant, and what the arbiter finds in its state (R35, R188). -/
structure GrantCheck where
  kind : Nat
  ecc : Ecc
  deriving DecidableEq, Repr

/-- The tag of a transaction, and the source addresses at which its reads find an error (R30, R35). -/
structure TagReads where
  tag : Nat
  ecc : List (Nat × Ecc)
  deriving DecidableEq, Repr

/-- A frame as its receiver hears it: the bits of the wire, and the instant of SOF. -/
structure RxBits where
  bits : List Bool
  sof : Nat
  deriving DecidableEq, Repr

/-- FIELD in 10 mV and the temperature of the field side, in degrees C (R391). -/
structure FieldAt where
  volt : Nat
  temp : Nat
  deriving DecidableEq, Repr

/-- A voltage in 10 mV, and the ns for which it has held what its rule asks. -/
structure VoltFor where
  v : Int
  ns : Nat
  deriving DecidableEq, Repr

/-- The voltage of the FIELD bus in 10 mV, its current in 10 mA and the ns that the current has lasted (R480). -/
structure LoadFor where
  v : Int
  cur : Nat
  ns : Nat
  deriving DecidableEq, Repr

/-- The commands: each takes as operands what its rule leaves to the sender (an accessor, an address, a value, a
measurement, a received frame). -/
inductive Instr where
  /-- REGISTER_WRITE (R16): A write to a register that has no row of its own sets RW and staged shadow fields and
  clears W1C bits as its access codes state. -/
  | registerWrite (w : Who) (a : Nat) (v : Word)
  /-- APPLY (R45): A write of 0x5A to BLOCK_APPLY checks the page's shadow set against its agreement rules and makes
  the page pending or rejects it. -/
  | apply (w : Who) (page : Nat)
  /-- DISCARD (R50): A write of 0xD1 to BLOCK_APPLY resets every shadow copy of a page that is not pending to its
  active value. -/
  | discard (w : Who) (page : Nat)
  /-- APPLY_UNKNOWN_CMD (R44): A BLOCK_APPLY write with an unknown CMD takes no action and sets STAGE.BADCMD. -/
  | applyUnknownCmd (w : Who) (page : Nat) (cmd : Nat)
  /-- APPLY_TAKES_EFFECT (R46): At the block's apply point a pending page takes its shadow values in one CLK_FAB
  cycle, clears PENDING, sets DONE and advances COUNT. -/
  | applyTakesEffect (page : Nat)
  /-- FRAME_BOUNDARY (R46): At each 10,000 ns DTB multiple the module runs the apply points, slot releases and other
  actions placed at a frame boundary. -/
  | frameBoundary
  /-- PERIOD_BOUNDARY (R32): At a loop's period boundary the actuation blocks take up the loop's output slot values. -/
  | periodBoundary (l : Nat)
  /-- LOOP_DISPATCH (R100): The placer dispatches a due loop on its pair, resuming after its WAIT with gd = j, PER
  advanced and TBL/TBH set. -/
  | loopDispatch (l : Nat)
  /-- ADD (R73): Integer add of two registers with Z N C V flags. -/
  | add (l : Nat) (d : Reg) (a : Reg) (b : Reg)
  /-- SUB (R73): Integer subtract of two registers with Z N C V flags. -/
  | sub (l : Nat) (d : Reg) (a : Reg) (b : Reg)
  /-- AND (R73): Bitwise AND of two registers. -/
  | andI (l : Nat) (d : Reg) (a : Reg) (b : Reg)
  /-- OR (R73): Bitwise OR of two registers. -/
  | orI (l : Nat) (d : Reg) (a : Reg) (b : Reg)
  /-- XOR (R73): Bitwise XOR of two registers. -/
  | xor (l : Nat) (d : Reg) (a : Reg) (b : Reg)
  /-- SHL (R73): Shift left by the low 5 bits of gb. -/
  | shl (l : Nat) (d : Reg) (a : Reg) (b : Reg)
  /-- SHR (R73): Logical shift right by the low 5 bits of gb. -/
  | shr (l : Nat) (d : Reg) (a : Reg) (b : Reg)
  /-- SAR (R73): Arithmetic shift right by the low 5 bits of gb. -/
  | sar (l : Nat) (d : Reg) (a : Reg) (b : Reg)
  /-- SLT (R73): Set gd to 1 where ga is less than gb signed. -/
  | slt (l : Nat) (d : Reg) (a : Reg) (b : Reg)
  /-- SLTU (R73): Set gd to 1 where ga is less than gb unsigned. -/
  | sltu (l : Nat) (d : Reg) (a : Reg) (b : Reg)
  /-- MUL (R73): Low 32 bits of the product. -/
  | mul (l : Nat) (d : Reg) (a : Reg) (b : Reg)
  /-- MULH (R73): High 32 bits of the signed product. -/
  | mulh (l : Nat) (d : Reg) (a : Reg) (b : Reg)
  /-- MULHU (R73): High 32 bits of the unsigned product. -/
  | mulhu (l : Nat) (d : Reg) (a : Reg) (b : Reg)
  /-- DIV (R74): Signed division truncated toward zero, with the divide-by-zero and overflow cases setting V. -/
  | div (l : Nat) (d : Reg) (a : Reg) (b : Reg)
  /-- DIVU (R74): Unsigned division, returning 0 and setting V on division by zero. -/
  | divu (l : Nat) (d : Reg) (a : Reg) (b : Reg)
  /-- REM (R74): Signed remainder with the stated special cases. -/
  | rem (l : Nat) (d : Reg) (a : Reg) (b : Reg)
  /-- REMU (R74): Unsigned remainder with the stated special cases. -/
  | remu (l : Nat) (d : Reg) (a : Reg) (b : Reg)
  /-- MIN (R73): Signed minimum of two registers. -/
  | min (l : Nat) (d : Reg) (a : Reg) (b : Reg)
  /-- MAX (R73): Signed maximum of two registers. -/
  | max (l : Nat) (d : Reg) (a : Reg) (b : Reg)
  /-- ADDI (R73): Add a sign-extended 15-bit immediate. -/
  | addi (l : Nat) (d : Reg) (a : Reg) (imm : BitVec 15)
  /-- ANDI (R73): AND with a zero-extended immediate. -/
  | andi (l : Nat) (d : Reg) (a : Reg) (imm : BitVec 15)
  /-- ORI (R73): OR with a zero-extended immediate. -/
  | ori (l : Nat) (d : Reg) (a : Reg) (imm : BitVec 15)
  /-- XORI (R73): XOR with a zero-extended immediate. -/
  | xori (l : Nat) (d : Reg) (a : Reg) (imm : BitVec 15)
  /-- SHLI (R73): Shift left by an immediate amount. -/
  | shli (l : Nat) (d : Reg) (a : Reg) (n : BitVec 5)
  /-- SHRI (R73): Logical shift right by an immediate amount. -/
  | shri (l : Nat) (d : Reg) (a : Reg) (n : BitVec 5)
  /-- SARI (R73): Arithmetic shift right by an immediate amount. -/
  | sari (l : Nat) (d : Reg) (a : Reg) (n : BitVec 5)
  /-- LUI (R73): Load a 20-bit immediate into bits [31:12]. -/
  | lui (l : Nat) (d : Reg) (imm : BitVec 20)
  /-- SLTI (R73): Set gd to 1 where ga is less than the sign-extended immediate. -/
  | slti (l : Nat) (d : Reg) (a : Reg) (imm : BitVec 15)
  /-- FADD (R75): FP32 addition under the module's IEEE 754 choices. -/
  | fadd (l : Nat) (d : Reg) (a : Reg) (b : Reg)
  /-- FSUB (R75): FP32 subtraction. -/
  | fsub (l : Nat) (d : Reg) (a : Reg) (b : Reg)
  /-- FMUL (R75): FP32 multiplication. -/
  | fmul (l : Nat) (d : Reg) (a : Reg) (b : Reg)
  /-- FDIV (R75): FP32 division. -/
  | fdiv (l : Nat) (d : Reg) (a : Reg) (b : Reg)
  /-- FSQRT (R75): FP32 square root. -/
  | fsqrt (l : Nat) (d : Reg) (a : Reg)
  /-- FMA (R76): Fused multiply-add gd = gd + ga × gb, rounded once. -/
  | fma (l : Nat) (d : Reg) (a : Reg) (b : Reg)
  /-- FMIN (R76): FP32 minimum with the stated NaN and signed-zero cases. -/
  | fmin (l : Nat) (d : Reg) (a : Reg) (b : Reg)
  /-- FMAX (R76): FP32 maximum with the stated NaN and signed-zero cases. -/
  | fmax (l : Nat) (d : Reg) (a : Reg) (b : Reg)
  /-- FABS (R76): Clear the sign bit. -/
  | fabs (l : Nat) (d : Reg) (a : Reg)
  /-- FNEG (R76): Invert the sign bit. -/
  | fneg (l : Nat) (d : Reg) (a : Reg)
  /-- FCMP (R77): FP32 compare setting Z, N and V. -/
  | fcmp (l : Nat) (a : Reg) (b : Reg)
  /-- FCVTI (R78): Saturating conversion of FP32 to integer. -/
  | fcvti (l : Nat) (d : Reg) (a : Reg)
  /-- FCVTF (R76): Conversion of an integer to FP32. -/
  | fcvtf (l : Nat) (d : Reg) (a : Reg)
  /-- LDW (R79): Load a word from the effective address. -/
  | ldw (l : Nat) (d : Reg) (a : Reg) (imm : BitVec 15) (ecc : Ecc)
  /-- LDH (R79): Load a sign-extended halfword. -/
  | ldh (l : Nat) (d : Reg) (a : Reg) (imm : BitVec 15) (ecc : Ecc)
  /-- LDHU (R79): Load a zero-extended halfword. -/
  | ldhu (l : Nat) (d : Reg) (a : Reg) (imm : BitVec 15) (ecc : Ecc)
  /-- LDB (R79): Load a sign-extended byte. -/
  | ldb (l : Nat) (d : Reg) (a : Reg) (imm : BitVec 15) (ecc : Ecc)
  /-- LDBU (R79): Load a zero-extended byte. -/
  | ldbu (l : Nat) (d : Reg) (a : Reg) (imm : BitVec 15) (ecc : Ecc)
  /-- STW (R79): Store a word, posted where it goes to cell shared data. -/
  | stw (l : Nat) (d : Reg) (a : Reg) (imm : BitVec 15) (ecc : Ecc)
  /-- STH (R79): Store a halfword. -/
  | sth (l : Nat) (d : Reg) (a : Reg) (imm : BitVec 15) (ecc : Ecc)
  /-- STB (R79): Store a byte. -/
  | stb (l : Nat) (d : Reg) (a : Reg) (imm : BitVec 15) (ecc : Ecc)
  /-- POSTED_STORE_ACCEPTED (R67): The store at the head of a pair's posted-store queue is accepted by its memory and
  leaves the queue. -/
  | postedStoreAccepted (p : Nat)
  /-- REGISTER_ACCESS_TIMEOUT (R72): A register access unanswered for 4,096 CLK_FAB cycles ends with the bus-error
  trap. -/
  | registerAccessTimeout (l : Nat) (word : Word) (addr : Nat)
  /-- BEQ (R82): Branch where ga equals gb. -/
  | beq (l : Nat) (a : Reg) (b : Reg) (off : BitVec 15)
  /-- BNE (R82): Branch where ga differs from gb. -/
  | bne (l : Nat) (a : Reg) (b : Reg) (off : BitVec 15)
  /-- BLT (R82): Branch where ga is less than gb signed. -/
  | blt (l : Nat) (a : Reg) (b : Reg) (off : BitVec 15)
  /-- BGE (R82): Branch where ga is at least gb signed. -/
  | bge (l : Nat) (a : Reg) (b : Reg) (off : BitVec 15)
  /-- BLTU (R82): Branch where ga is less than gb unsigned. -/
  | bltu (l : Nat) (a : Reg) (b : Reg) (off : BitVec 15)
  /-- BGEU (R82): Branch where ga is at least gb unsigned. -/
  | bgeu (l : Nat) (a : Reg) (b : Reg) (off : BitVec 15)
  /-- BFS (R82): Branch where FLG bit n is set. -/
  | bfs (l : Nat) (n : BitVec 5) (off : BitVec 15)
  /-- BFC (R82): Branch where FLG bit n is clear. -/
  | bfc (l : Nat) (n : BitVec 5) (off : BitVec 15)
  /-- JAL (R82): Jump relative and link. -/
  | jal (l : Nat) (d : Reg) (off : BitVec 20)
  /-- JALR (R82): Jump to a register address and link. -/
  | jalr (l : Nat) (d : Reg) (a : Reg) (imm : BitVec 15)
  /-- NOP (R84): No operation. -/
  | nop (l : Nat)
  /-- WAIT (R99): End the period's work: drain stores and OUTs and write the checkpoint before retiring. -/
  | wait (l : Nat) (d : Reg)
  /-- WAIT_RETIRE (R99): WAIT retires once stores are accepted, OUTs reached and the checkpoint written, and the
  checkpoint buffer in force changes. -/
  | waitRetire (l : Nat)
  /-- TRAP (R84): Raise the user trap with code n. -/
  | trap (l : Nat) (n : BitVec 5)
  /-- MFS (R62): Read a special register or selector value into gd. -/
  | mfs (l : Nat) (d : Reg) (sel : BitVec 5)
  /-- MTF (R84): Write FLG from ga, masked. -/
  | mtf (l : Nat) (a : Reg)
  /-- ILLEGAL_INSTRUCTION (R69): A word with an unlisted OP, FN, selector or non-zero must-be-0 field raises the
  illegal-instruction trap. -/
  | illegalInstruction (l : Nat) (word : Word)
  /-- PIDS (R111): One PID step on a PID block with anti-windup, tracking, init and region-change handling. -/
  | pids (l : Nat) (d : Reg) (a : Reg) (b : Reg) (c : Reg) (m : BitVec 5)
  /-- MINS (R116): Minimum selection among candidate PID blocks with hysteresis, writing tracking values to the
  losers. -/
  | mins (l : Nat) (d : Reg) (a : Reg)
  /-- INTF (R119): One step of an integrator with freeze and limits. -/
  | intf (l : Nat) (d : Reg) (a : Reg) (b : Reg) (c : Reg)
  /-- SCHED (R123): Resolve the gain-schedule region and on a change copy gains into the target PID block and set RCQ. -/
  | sched (l : Nat) (d : Reg) (a : Reg) (b : Reg) (c : Reg)
  /-- SKIM (R125): Repetitive control step: play back a learned correction and optionally learn. -/
  | skim (l : Nat) (d : Reg) (a : Reg) (b : Reg) (m : SkimOp)
  /-- SLEW (R127): Rate-limit a target toward the last output, or reset to it. -/
  | slew (l : Nat) (d : Reg) (a : Reg) (b : Reg) (m : Bool)
  /-- CLMP (R89): Clamp a value between two bounds with the stated NaN cases. -/
  | clmp (l : Nat) (d : Reg) (a : Reg) (b : Reg) (c : Reg)
  /-- PLAUS (R129): Debounced plausibility verdict of a measurement against an expected value. -/
  | plaus (l : Nat) (d : Reg) (a : Reg) (b : Reg) (c : Reg)
  /-- TAP (R98): Write a trace entry to every buffer for which the tap point is armed. -/
  | tap (l : Nat) (m : BitVec 5) (a : Reg) (b : Reg)
  /-- FIR (R92): Copy one 64-byte field-image line into the data segment and return its status. -/
  | fir (l : Nat) (d : Reg) (a : Reg) (b : Reg) (m : BitVec 5) (ecc : Ecc)
  /-- OUT (R95): Write an FP32 value to an owned output slot for the next period boundary. -/
  | out (l : Nat) (a : Reg) (b : Reg)
  /-- DEADLINE_TRAP (R102): A loop that has not retired WAIT by its deadline or WCET takes the deadline trap at the
  next instruction boundary. -/
  | deadlineTrap (l : Nat)
  /-- LOCKSTEP_MISMATCH (R53): A difference between the two cores of a pair stops the pair, informs the placer and
  starts migration. -/
  | lockstepMismatch (p : PairFault)
  /-- PIN_SECONDARY_RESTORED (R163): A standby pair becomes the new secondary of a degraded pinned loop from the
  primary's next checkpoint. -/
  | pinSecondaryRestored (l : Nat)
  /-- PAIR_SELF_TEST (R165): A stopped pair repeats its self-comparison 10 ms after the mismatch and becomes STANDBY,
  SPARE or FAILED. -/
  | pairSelfTest (p : Nat) (pass : Bool)
  /-- STANDBY_SELF_TEST (R161): Each STANDBY pair repeats the self-comparison check every 1 s. -/
  | standbySelfTest (p : Nat) (pass : Bool)
  /-- REPLAN (R158): The placer runs a queued re-plan for a mismatch, tier change, load, reset, grant apply, PLC_CFG
  apply or ENGINE_OVER. -/
  | replan (e : Ecc)
  /-- PLANNED_MOVE (R157): A loop is transferred to another pair in its idle interval. -/
  | plannedMove (l : Nat)
  /-- IMAGE_PLACE (R153): The placer verifies, statically checks and places an image's loops all or none, giving a
  load result. -/
  | imagePlace (cell : Nat)
  /-- ENGINE_LOAD_CHECK (R155): Every 100 ms the placer takes measured engine loading and sets ENGOVER and ENGINE_OVER
  above 0.95 of capacity. -/
  | engineLoadCheck
  /-- CELL_RESET (R173): PLC_CCMD RESET advances the incarnation, stops the cell's loops and starts the cell reset
  sequence. -/
  | cellReset (w : Who)
  /-- CELL_RESET_ZEROED (R173): Shared data zeroing and data segment reload complete and the cell returns to RUNNING
  or SUSPENDED. -/
  | cellResetZeroed (cell : Nat)
  /-- CELL_SUSPEND (R168): PLC_CCMD SUSPEND suspends every loop of the cell at its next period end and releases its
  slots. -/
  | cellSuspend (w : Who)
  /-- CELL_RESUME (R168): PLC_CCMD RESUME resumes a cell suspended by command from its checkpoints. -/
  | cellResume (w : Who)
  /-- CELL_UNLOAD (R168): PLC_CCMD UNLOAD resets the cell's loops and frees its placements and memory. -/
  | cellUnload (w : Who)
  /-- CELL_CMD_BAD (R176): An unknown PLC_CCMD code takes no action and sets RES = BADCMD. -/
  | cellCmdBad (w : Who) (cmd : Nat)
  /-- LOOP_RESTART (R166): PLC_LCMD RESTART resumes a stopped loop from its latest checkpoint at its next boundary. -/
  | loopRestart (w : Who)
  /-- LOOP_STOP (R170): PLC_LCMD STOP stops a loop at its next period end or at once. -/
  | loopStop (w : Who)
  /-- GRANT_SELECT_WRITE (R176): A write to PLC_GSEL selects the cell of the grant page, or is refused with SELBLK
  while the page is dirty or pending. -/
  | grantSelectWrite (w : Who) (cell : Nat)
  /-- HWK_SUBMIT (R184): A write to HWK_SUBMIT checks a descriptor sequence and either takes tags and queues it or
  refuses it. -/
  | hwkSubmit (w : Who) (addr : Submission)
  /-- HWK_CANCEL (R193): A write to HWK_CANCEL cancels a queued request sequence of the cell or reports RUNNING or
  NOTYOURS. -/
  | hwkCancel (w : Who) (v : Word)
  /-- CREDIT_REFILL (R186): At each window instant pending HWK pages apply, counters refill to their caps and
  arbitration runs. -/
  | creditRefill
  /-- ENGINE_GRANT (R188): A free engine is granted to the selected waiting request and its counter charged. -/
  | engineGrant (k : GrantCheck)
  /-- XFER_COPY (R183): A granted COPY transaction copies bytes from a view or shared data into cell shared data. -/
  | xferCopy (t : TagReads)
  /-- XFER_FILL (R183): A granted FILL transaction writes a pattern word to every destination word. -/
  | xferFill (t : Nat)
  /-- TRANSACTION_COMPLETE (R189): A transaction ends, STATUS is written DONE or ERROR with TDONE, and its tag is
  freed. -/
  | transactionComplete (t : Nat)
  /-- ENGINE_WATCHDOG (R190): A transaction that has run 4 × TMAX is ended with TIMEOUT, the engine reset and
  ENGINE_FAULT recorded. -/
  | engineWatchdog (e : Nat)
  /-- HWK_FREEZE_WRITE (R197): A write to HWK_FRZ freezes or thaws engines and records ENGINE_FREEZE. -/
  | hwkFreezeWrite (w : Who) (v : Word)
  /-- ENGINE_DRAINED (R197): A frozen engine with nothing running sets its DRAINED bit. -/
  | engineDrained (e : Nat)
  /-- INPUT_SLOT_START (R207): A front-end channel begins switching its multiplexer to its next input and starts
  settling. -/
  | inputSlotStart (ch : Nat)
  /-- CONVERSION_BOUNDARY (R208): At the end of an input's last acquisition the channel demodulates, linearises and
  writes the entry lines. -/
  | conversionBoundary (ch : Nat) (m : FeMeas)
  /-- DIEL_OVERLOAD (R210): An amplifier output beyond 90 % of full scale abandons the spot, resets for 2 µs and
  repeats it once. -/
  | dielOverload (ch : Nat) (spot : Nat)
  /-- TERMINAL_OVERVOLTAGE (R223): A terminal outside −12 V to +14 V opens the input for the rest of the slot and sets
  OVP. -/
  | terminalOvervoltage (ch : Nat)
  /-- PROBE_REMOVED (R225): A plug-detect sample showing the contact open switches off and invalidates both probe
  inputs. -/
  | probeRemoved (sock : Nat)
  /-- PROBE_INSERTED (R226): A contact closed in every sample for 200 ms brings the probe inputs back into the scan. -/
  | probeInserted (sock : Nat)
  /-- REF_AVERAGE (R228): At each whole second the reference monitor forms 1 s deviations and updates suspect runs,
  drift switches and recovery. -/
  | refAverage (va : Nat) (vb : Nat) (vx : Nat)
  /-- REF_FAIL (R230): A reference whose window comparator trips or whose 1 ms deviation exceeds 1 % is marked FAILED
  and, if selected, replaced. -/
  | refFail (r : Nat) (trip : Bool) (va : Nat) (vb : Nat) (vx : Nat)
  /-- FE_CALSEL_WRITE (R233): A write to FE_CALSEL selects an input for calibration or, with SEL 0, aborts. -/
  | feCalselWrite (w : Who) (v : Word)
  /-- POINTLO (R234): FE_CALCMD POINTLO starts averaging 16 conversions against the low standard. -/
  | pointlo (w : Who)
  /-- POINTHI (R234): FE_CALCMD POINTHI starts averaging 16 conversions against the high standard. -/
  | pointhi (w : Who)
  /-- CAL_POINT_DONE (R234): The 16th conversion of a point ends it as held or UNSTABLE. -/
  | calPointDone
  /-- COMMIT (R237): FE_CALCMD COMMIT computes the corrections, checks them and starts the calibration set store. -/
  | commit (w : Who)
  /-- ABORT (R237): FE_CALCMD ABORT discards the points and returns the calibration to idle. -/
  | abortI (w : Who)
  /-- CAL_BAD_CMD (R233): An unknown FE_CALCMD code takes no action and sets RES = BADCMD. -/
  | calBadCmd (w : Who) (v : Word)
  /-- COLUMN_UPDATE (R253): At each whole second the column-model engine samples inputs and advances, scores and
  writes every enabled column. -/
  | columnUpdate (us : Nat)
  /-- COLUMN_INPUT_WRITE (R247): A write to COL_INdd_x sets a register input and its age for the next update. -/
  | columnInputWrite (w : Who) (d : Nat) (x : Nat) (v : Word)
  /-- PREDICT (R264): A granted COL PREDICT runs H steps from the latest column state and writes the discharge
  moistures to DST. -/
  | predict (t : Nat)
  /-- FRAME_SELECTION (R310): A trunk controller selects the eligible frame with the lowest arbitration field to offer
  at bus idle. -/
  | frameSelection (n : Nat)
  /-- TIME_FRAME_DUE (R304): At each 10 ms multiple a TIME frame falls due, SEQ advances and an unsent previous frame
  is abandoned. -/
  | timeFrameDue (n : Nat)
  /-- TIME (R305): The module sends a TIME frame carrying the previous frame's SOF stamp. -/
  | time (n : Nat) (sof : Nat)
  /-- CENSUS (R293): The module sends a CENSUS command frame starting a census of a junction range. -/
  | census (n : Nat) (sof : Nat)
  /-- SWEEP_OPEN (R290): The module sends SWEEP_OPEN with threshold, NMAX and time limit and clears the sweep list. -/
  | sweepOpen (n : Nat) (sof : Nat)
  /-- SWEEP_CLOSE (R291): The module closes an open sweep with SWEEP_CLOSE on NMAX, drain or time limit. -/
  | sweepClose (n : Nat) (sof : Nat)
  /-- SWEEP_DRAINED (R291): The bus idle for 16 arbitration bits after an intermission during a sweep ends it as
  drained. -/
  | sweepDrained (n : Nat)
  /-- SWEEP_TIME_LIMIT (R291): The sweep's time limit passes since the end of SWEEP_OPEN. -/
  | sweepTimeLimit (n : Nat)
  /-- RATE (R302): A RATE frame from the transmit queue ends and starts the 1 ms quiet interval. -/
  | rate (n : Nat) (sof : Nat)
  /-- NODE_CMD (R313): A NODE_CMD frame from the transmit queue is sent to a node or junction. -/
  | nodeCmd (n : Nat) (sof : Nat)
  /-- PRIVATE (R285): A class 14 frame from the transmit queue is sent. -/
  | privateI (n : Nat) (sof : Nat)
  /-- QUIET_INTERVAL_END (R302): The 1 ms quiet interval after a RATE frame ends and every source may send again. -/
  | quietIntervalEnd (n : Nat)
  /-- TX_ENTRY_RETURN (R314): A transmit entry returns to firmware DONE, FAILED or CANCELLED with its result written. -/
  | txEntryReturn (n : Nat)
  /-- LAT_TXQ_WRITE (R313): A write to LAT_TXQn checks and queues firmware-owned transmit entries. -/
  | latTxqWrite (w : Who) (n : Nat) (v : Word)
  /-- LAT_TXCAN_WRITE (R315): A write to LAT_TXCANn cancels queued entries or marks those in transmission. -/
  | latTxcanWrite (w : Who) (n : Nat) (v : Word)
  /-- LAT_RXACK_WRITE (R318): A write to LAT_RXACKn returns the oldest receive entries to the controller. -/
  | latRxackWrite (w : Who) (n : Nat) (v : Word)
  /-- HOT (R320): A received class 2 sweep report is decoded into the sender's node entry and the sweep list. -/
  | hot (n : Nat) (f : RxBits)
  /-- WET (R320): A received class 3 sweep report is decoded into the sender's node entry and the sweep list. -/
  | wet (n : Nat) (f : RxBits)
  /-- CENSUS_BATCH (R322): A received class 8 census frame writes its 16 records into node entries. -/
  | censusBatch (n : Nat) (f : RxBits)
  /-- JSTAT (R320): A received class 4 END or PRESENT frame updates the junction table. -/
  | jstat (n : Nat) (f : RxBits)
  /-- REPLY (R317): A received class 5 reply is offered to the acceptance filters and receive queue. -/
  | reply (n : Nat) (f : RxBits)
  /-- BUS_ERROR (R299): A detected bus error sends an error flag, voids the frame and changes the error counts. -/
  | busError (n : Nat) (e : LatError)
  /-- RECOVER (R329): LAT_CMDn RECOVER starts counting bus-off recovery runs. -/
  | recover (w : Who) (n : Nat)
  /-- LAT_BUSOFF_END (R329): After 128 runs of 11 recessive bits the trunk leaves bus-off with zero counts. -/
  | latBusoffEnd (n : Nat)
  /-- CENSUS_DUE (R325): A scheduled census instant falls due on a trunk and is run or held. -/
  | censusDue (n : Nat)
  /-- CENSUS_END (R326): A census ends on all END frames, 1 ms idle or 100 ms silence, and missing junctions are
  marked. -/
  | censusEnd (n : Nat) (idle : Bool)
  /-- ALARM_SWEEP_DUE (R327): An alarm sweep falls due at each APER multiple. -/
  | alarmSweepDue (n : Nat)
  /-- SWEEP (R328): A granted SWP SWEEP request enters the trunk's request queue. -/
  | sweep (t : Nat)
  /-- CENSUS_REQUEST (R328): A granted SWP CENSUS request enters the trunk's request queue. -/
  | censusRequest (t : Nat)
  /-- LINE (R328): A granted SWP LINE writes a firmware line into line 3 of a node entry. -/
  | line (t : TagReads)
  /-- LAT_WIRE_FAULT (R303): A trunk wiring fault is detected, its flag set and recorded. -/
  | latWireFault (n : Nat) (f : Nat)
  /-- LAT_WIRE_OK (R303): A wiring flag clears at the first measurement without its condition and is recorded. -/
  | latWireOk (n : Nat) (f : Nat)
  /-- CAN_TX_REQUEST (R337): CAN_TXCMDn REQ requests transmit buffers, or rejects them on the stated cases. -/
  | canTxRequest (w : Who) (n : Nat) (v : Word)
  /-- CAN_TX_CANCEL (R337): CAN_TXCMDn CANCEL cancels requested buffers as R315 states. -/
  | canTxCancel (w : Who) (n : Nat) (v : Word)
  /-- CAN_FRAME_SENT (R337): A CAN port's transmit buffer frame ends and the buffer returns to firmware. -/
  | canFrameSent (n : Nat) (sof : Nat)
  /-- CAN_FRAME_RECEIVED (R338): A received CAN frame is accepted into RXB or the shadow, replacing the shadow when
  both are full. -/
  | canFrameReceived (n : Nat) (f : CanFrame)
  /-- CAN_RXREL (R338): A write to CAN_RXRELn releases RXB and moves the shadow frame into it. -/
  | canRxrel (w : Who) (n : Nat)
  /-- CAN_BUSOFF (R340): A CAN port enters bus-off and records it. -/
  | canBusoff (n : Nat)
  /-- CAN_RECOVER (R340): CAN_CMDn RECOVER starts bus-off recovery counting. -/
  | canRecover (w : Who) (n : Nat)
  /-- CAN_BUSOFF_END (R340): A CAN port leaves bus-off after its recovery runs. -/
  | canBusoffEnd (n : Nat)
  /-- CAN_WIRE_FAULT (R336): A CAN port wiring fault sets its flag and is recorded. -/
  | canWireFault (n : Nat) (f : Nat)
  /-- PULL_IN_START (R346): A pending channel is admitted and starts its pull-in when bank and boost rail allow. -/
  | pullInStart (n : Nat)
  /-- SV_MOVEMENT_DIP (R348): A current sample DIPTH below the running maximum marks armature movement and starts
  TPOST. -/
  | svMovementDip (n : Nat) (t : Nat) (cur : Nat)
  /-- PULL_IN_END (R345): A pull-in ends at TPOST after the dip or at TPULL and the channel holds. -/
  | pullInEnd (n : Nat) (cur : Nat)
  /-- SV_SHORT (R353): A failed drain check or 5 µs in current limit turns the channel off and records a short. -/
  | svShort (n : Nat) (check : Bool)
  /-- SV_SHORT_RETRY (R353): 100 ms after a short a channel still commanded on retries, latching after RETRY failures. -/
  | svShortRetry (n : Nat)
  /-- COIL_MODEL_STEP (R351): Every 10 ms the coil thermal model advances and trips the channel at TTRIP. -/
  | coilModelStep (n : Nat) (i2 : Word)
  /-- SV_OVERLOAD (R352): A mean-square current over 1 s above the limit turns the channel off. -/
  | svOverload (n : Nat) (ms : Word)
  /-- BANK_TEST (R354): Every 10 ms the bank current balance and off-channel terminals are tested for open coils and
  shorts to ground. -/
  | bankTest (b : Nat) (hs : Nat) (cur : List Nat) (low : List Nat)
  /-- BANK_RETEST (R354): While HSOFF is set HSk closes every 1 s for 100 µs and the test repeats. -/
  | bankRetest (b : Nat) (hs : Nat) (low : List Nat)
  /-- SV_BANK_OFF (R355): HSk 5 µs in current limit opens the bank and sets HSOFF. -/
  | svBankOff (b : Nat) (hs : Nat)
  /-- BANK_RETRY (R355): HSk retries after 100 ms, latching after BRETRY failures. -/
  | bankRetry (b : Nat) (hs : Nat) (ok : Bool)
  /-- BANKCLR (R355): SV_GCMD BANKCLR clears a bank's HSLATCH and retries it. -/
  | bankclr (w : Who) (v : Word)
  /-- SV_CLEAR (R374): SV_CMDnn CLEAR clears SHORTLATCH and, where allowed, THERMLATCH. -/
  | svClear (w : Who) (n : Nat)
  /-- BOOST_SOFT_START (R356): The boost rail soft-starts toward 48 V. -/
  | boostSoftStart
  /-- BOOST_READY (R356): The boost rail reaches 45 V and becomes ready, releasing pending boost channels. -/
  | boostReady (v : Nat)
  /-- SV_BOOST_SHORT (R357): A rail short opens the output switch and starts hiccup. -/
  | svBoostShort (v : Nat)
  /-- BOOST_HICCUP_RESTART (R357): After 180 ms of hiccup the rail soft-starts again. -/
  | boostHiccupRestart
  /-- SV_HOLD_END (R359): A channel in posture HOLD turns off after HOLDT × 10 ms. -/
  | svHoldEnd (n : Nat)
  /-- FAN_RELOAD (R364): In the last tick of each PWM period the channel loads PER and duty for the next period by
  Table 10.3. -/
  | fanReload (n : Nat) (fb : Word)
  /-- FAN_FAIL (R366): Speed or feedback out of bounds for TFAIL sets FAILED and can put the group to full speed. -/
  | fanFail (n : Nat)
  /-- FAN_OK (R366): 5 s within bounds clears FAILED. -/
  | fanOk (n : Nat)
  /-- FAN_FAIL_KICK (R366): Every 10 s while failed a kick starts. -/
  | fanFailKick (n : Nat)
  /-- FAN_TS_SAMPLE (R369): Every 100 ms the thermistor is measured and the autonomous table evaluated. -/
  | fanTsSample (n : Nat) (t : Word)
  /-- FAN_OUT_FAULT (R371): An output held in current limit turns off or limits and sets OUTFLT. -/
  | fanOutFault (n : Nat)
  /-- FAN_OUT_RETRY (R371): A faulted PWM output retries after 100 ms. -/
  | fanOutRetry (n : Nat)
  /-- FAN_SUP_FAULT (R371): A supply output 1 ms in current limit turns off and sets SUPFLT. -/
  | fanSupFault (n : Nat)
  /-- FAN_SUP_RETRY (R371): A faulted supply output retries every 1 s. -/
  | fanSupRetry (n : Nat)
  /-- FAN_HOLD_END (R370): Posture HOLD ends after HOLDT × 10 ms and the channel goes OFF. -/
  | fanHoldEnd (n : Nat)
  /-- FAN_CLEAR (R375): FAN_CMDnn CLEAR clears FAILED and restarts monitoring. -/
  | fanClear (w : Who) (n : Nat)
  /-- KEY_DOWNSTREAM_FRAME (R391): Every 20 µs the logic side samples slots and configuration and sends a downstream
  Key-link frame. -/
  | keyDownstreamFrame
  /-- KEY_FIELD_APPLY (R393): At the field apply instant a valid downstream frame's records, then values and POST
  bits, act on the field side; `flips` are the bits the barrier inverted. -/
  | keyFieldApply (flips : List Nat)
  /-- KEY_FIELD_LOSS (R395): With no valid downstream frame for LOSS frame times every output takes its posture and
  SAFE is set. -/
  | keyFieldLoss
  /-- KEY_UPSTREAM_FRAME (R379): A valid upstream frame updates the input, count, frequency and status registers:
  the bits the barrier inverted, runs of raw input samples by channel, and what the field side measured. -/
  | keyUpstreamFrame (flips : List Nat) (raws : List (Nat × List (Bool × Nat))) (outs neg : Nat) (at' : FieldAt)
  /-- DIO_LINK_LOSS (R397): The upstream stream becomes invalid after LOSS frames without a valid frame. -/
  | dioLinkLoss
  /-- COUNTER_GATE_END (R381): At each gate end the field side forms the counter's frequency. -/
  | counterGateEnd (n : Nat)
  /-- DIO_SHORT (R387): An output failing its check or 20 µs in current limit turns off and sets SHORT. -/
  | dioShort (n : Nat) (check : Bool)
  /-- DIO_SHORT_RETRY (R387): After 10 ms a shorted output still commanded on retries, latching after RETRY failures. -/
  | dioShortRetry (n : Nat)
  /-- DIO_OPEN_LOAD_TEST (R388): Every 10 ms the field side tests outputs for open load and shorts to a supply. -/
  | dioOpenLoadTest (n : Nat) (r : Nat)
  /-- DIO_OT (R385): An output switch reaches thermal shutdown and stays off until cooled. -/
  | dioOt (n : Nat)
  /-- DIO_HOLD_END (R389): An output in HOLD turns off after HOLDT × 10 ms. -/
  | dioHoldEnd (n : Nat)
  /-- FIELD_SIDE_START (R398): FIELD rising above 16.0 V starts the field side in OFF posture. -/
  | fieldSideStart (v : Nat)
  /-- FIELD_SIDE_STOP (R398): FIELD falling below 15.0 V stops the field side and turns every output off. -/
  | fieldSideStop (v : Nat)
  /-- DIO_CLEAR (R400): DIO_CMDnn CLEAR clears SHORTLATCH and COUNT via the next downstream frame. -/
  | dioClear (w : Who) (n : Nat)
  /-- EVENT_ACCEPT (R406): An event handed to the recorder passes or fails its token bucket and is stamped and staged. -/
  | eventAccept
  /-- TOKEN_BUCKET_TICK (R407): A bucket's gain clock ticks, adds a token and writes a REC_SUMMARY if occurrences were
  suppressed. -/
  | tokenBucketTick (bucket : Nat)
  /-- REC_OVERFLOW (R409): After drops, once room exists, one REC_OVERFLOW is written into the reserve. -/
  | recOverflow
  /-- LOG_GROUP_RELEASE (R410): At t0 + 1,020 µs a group of staged records is released in SEQ order with CONC marks. -/
  | logGroupRelease
  /-- LOG_LINE_WRITE (R412): A 256-byte log line of released records is written to the MRAM ring. -/
  | logLineWrite
  /-- FLUSH (R412): REC_CMD FLUSH writes every staged record at once, ending with REC_FLUSH and a marker. -/
  | flush (w : Who)
  /-- FLUSH_COMPLETE (R412): A flush ends with REC_FLUSH and a marker written. -/
  | flushComplete
  /-- MARKER_WRITE (R413): Every 60 s the recorder writes a marker slot. -/
  | markerWrite
  /-- NVERASE (R418): REC_CMD NVERASE by cell 0 erases a cell's non-volatile area. -/
  | nverase (w : Who) (cell : Nat)
  /-- OLDEST (R415): REC_CURSOR OLDEST fills the window from the oldest record of the view. -/
  | cursorOldest (w : Who)
  /-- AT (R415): REC_CURSOR AT fills the window from the record with SEQ REC_CSEQ. -/
  | cursorAt (w : Who)
  /-- AFTER (R415): REC_CURSOR AFTER fills the window from the record after REC_CSEQ. -/
  | cursorAfter (w : Who)
  /-- NEWEST (R415): REC_CURSOR NEWEST fills the window with the newest records of the view. -/
  | cursorNewest (w : Who)
  /-- WINDOW_FILL_COMPLETE (R415): A window fill ends, setting COUNT, BYTES, WFIRST, WNEXT, MORE and READY. -/
  | windowFillComplete (cell : Nat)
  /-- READ (R418): A granted NVS READ copies bytes of the cell's area to shared data. -/
  | nvsRead (t : Nat) (bad : Bool)
  /-- WRITE (R418): A granted NVS WRITE writes bytes to the cell's area atomically. -/
  | nvsWrite (t : TagReads)
  /-- EMIT (R404): A granted NVS EMIT hands a firmware event to the recorder. -/
  | nvsEmit (t : TagReads)
  /-- NVS_STORE_START (R420): A store of a set starts, reading active values and writing the bank not in force. -/
  | nvsStoreStart (set : Nat) (fail : Nat)
  /-- NVS_STORE_PENDING_START (R421): A pending store starts at the end of the second after the last store. -/
  | nvsStorePendingStart (set : Nat) (fail : Nat)
  /-- STORE_COMMIT (R420): A store's commit record is written and read back and the new set is in force. -/
  | storeCommit (set : Nat) (fail : Bool)
  /-- SET (R427): An RTC apply with OP SET loads the count at the next tick and clears OSCSTOP and BKLOST. -/
  | rtcSet
  /-- SHIFT (R427): An RTC apply with OP SHIFT changes the count by RTC_SHIFT ticks. -/
  | rtcShift
  /-- TRIM_CHANGE (R427): An RTC apply with OP NONE changes only TRIM and starts a store of set 7. -/
  | trimChange
  /-- RTC_FRAC_READ (R426): A read of RTC_FRAC returns the fraction and latches the seconds into the reader's shadow. -/
  | rtcFracRead (w : Who)
  /-- RTC_OSC_STOP (R428): No crystal edge for 250 µs sets OSCSTOP. -/
  | rtcOscStop
  /-- RTC_BACKUP_SWITCH (R429): A switch of the backup domain to VBAK latches the count and increments SWCNT. -/
  | rtcBackupSwitch
  /-- BKRAM_READ (R430): A read of backup RAM returns data and records a parity error where one is found. -/
  | bkramRead (w : Who) (j : Nat) (bad : Nat)
  /-- CLRPERR (R433): RTC_CMD CLRPERR clears the parity error bits. -/
  | clrperr (w : Who)
  /-- CLRSW (R433): RTC_CMD CLRSW clears the switch-over record. -/
  | clrsw (w : Who)
  /-- HST_LINK_UP (R437): A host link comes up and is recorded. -/
  | hstLinkUp (l : Nat) (pol : Bool)
  /-- HST_LINK_DOWN (R437): A host link goes down and is recorded with its reason. -/
  | hstLinkDown (l : Nat)
  /-- CABLE_DIAGNOSTIC (R436): Every 1 s while down the PHY runs a cable diagnostic and sets or clears fault bits. -/
  | cableDiagnostic (l : Nat) (faults : Nat) (dist : Nat)
  /-- ARP_REQUEST (R438): The module answers an ARP request. -/
  | arpRequest (l : Nat) (frame : HostFrame) (target : Word) (sender : Word)
  /-- ICMP_ECHO (R438): The module answers an ICMP echo request. -/
  | icmpEcho (l : Nat) (frame : HostFrame) (target : Word) (sender : Word) (data : List Byte)
  /-- ANNOUNCE (R441): A received gPTP Announce feeds master selection. -/
  | announce (l : Nat) (prio : Nat) (gm : Nat) (interval : Nat)
  /-- SYNC_MESSAGE (R443): A received Sync with its Follow_Up gives an offset that rate-corrects or steps the DTB. -/
  | syncMessage (l : Nat) (ingress : Nat) (interval : Nat) (origin : Int) (corr : Int)
  /-- PDELAY_REQ_SEND (R441): Every 1 s the module initiates a peer delay measurement. -/
  | pdelayReqSend (l : Nat)
  /-- PDELAY_RESP (R441): A received Pdelay_Resp and Follow_Up complete a peer delay measurement. -/
  | pdelayResp (l : Nat) (t2 : Nat) (t3 : Nat) (t4 : Nat) (cap : Bool)
  /-- PDELAY_REQ (R441): The module responds to a received Pdelay_Req. -/
  | pdelayReq (l : Nat) (t2 : Nat)
  /-- SYNC_TIMEOUT (R442): Missing Announce or Sync messages end an instance's synchronisation and may start holdover. -/
  | syncTimeout (l : Nat)
  /-- HAP_OPEN (R449): An OPEN request authenticates a credential and opens a session with a derived key. -/
  | hapOpen (m : HapMsg) (cred : Nat) (nonce : List Byte)
  /-- HAP_CLOSE (R451): A CLOSE request closes the session. -/
  | hapClose (m : HapMsg)
  /-- PING (R447): A PING returns the DTB and PTP status. -/
  | ping (m : HapMsg)
  /-- RD (R452): An RD request reads registers with the session cell's rights. -/
  | rd (m : HapMsg) (addrs : List Word)
  /-- WR (R452): A WR request writes registers with the session cell's rights. -/
  | wr (m : HapMsg) (pairs : List (Word × Word))
  /-- EVT (R453): An EVT request reads records of the session's event view from its own cursor. -/
  | evt (m : HapMsg) (mode : Nat) (start : Nat)
  /-- HAP_TIME (R447): A TIME request returns the DTB, latched RTC and PTP offset. -/
  | hapTime (m : HapMsg)
  /-- HAP_CELL (R447): A CELL request carries a cell command as PLC_CCMD. -/
  | hapCell (m : HapMsg) (cell : Nat) (cmd : Nat)
  /-- IMG_BEGIN (R455): IMG_BEGIN reserves image area for a cell image load. -/
  | imgBegin (m : HapMsg) (cell : Nat) (total : Nat)
  /-- IMG_DATA (R455): IMG_DATA writes image bytes at an offset. -/
  | imgData (m : HapMsg) (off : Nat) (data : List Byte)
  /-- IMG_END (R455): IMG_END hands a complete image to the placer. -/
  | imgEnd (m : HapMsg)
  /-- IMG_STATUS (R447): IMG_STATUS returns the load state and result. -/
  | imgStatus (m : HapMsg)
  /-- IMG_LOAD_TIMEOUT (R455): A load without IMG_DATA for 120 s before IMG_END is abandoned. -/
  | imgLoadTimeout (sid : Nat)
  /-- KEY_SET (R456): KEY_SET writes or clears a key slot and replies after set 8 commits. -/
  | keySet (m : HapMsg) (slot : Nat) (key : List Word)
  /-- CRED_SET (R457): CRED_SET writes a credential and replies after set 9 commits. -/
  | credSet (m : HapMsg) (cred : Nat) (rights : Nat) (cell : Nat) (enc : List Byte)
  /-- HAP_IDLE_TIMEOUT (R451): A session without a valid request for IDLE seconds closes. -/
  | hapIdleTimeout (sid : Nat)
  /-- CRED_BLOCK_END (R449): A credential's 60 s block after failed OPENs ends. -/
  | credBlockEnd (cred : Nat)
  /-- INVENTORY (R459): The tag answers an ISO/IEC 15693 Inventory. -/
  | inventory
  /-- GET_SYSTEM_INFORMATION (R459): The tag answers Get System Information. -/
  | getSystemInformation
  /-- EXTENDED_READ_SINGLE_BLOCK (R461): A field read returns one block's last committed copy. -/
  | extendedReadSingleBlock (b : Nat)
  /-- EXTENDED_READ_MULTIPLE_BLOCKS (R461): A field read returns up to 16 blocks. -/
  | extendedReadMultipleBlocks (b : Nat) (n : Nat)
  /-- EXTENDED_WRITE_SINGLE_BLOCK (R461): A field write holds a writable block until it commits. -/
  | extendedWriteSingleBlock (b : Nat) (data : List Byte)
  /-- FIELD_WRITE_COMMIT (R461): A field write commits within 3 ms, ends the hold and the response is sent. -/
  | fieldWriteCommit
  /-- TAG_WCMD (R462): A TAG_WCMD GO writes TAG_WBUF to a notes block or is refused BUSY or AREA. -/
  | tagWcmd (w : Who) (v : Word)
  /-- WIRED_COMMIT_COMPLETE (R461): A wired tag write commits and TAG_WRES shows OK. -/
  | wiredCommitComplete
  /-- TAG_COMMISSION (R463): The mailbox is read at start or on LOCAL entry and its secret and addresses applied. -/
  | tagCommission
  /-- TAG_STATUS_WRITE (R460): Every 10 s the module writes the tag status area. -/
  | tagStatusWrite
  /-- TAG_ANT_CHECK (R464): At start and every 10 s the antenna resonance is checked. -/
  | tagAntCheck (bad : Bool)
  /-- ACK (R465): A debounced ACK key press acknowledges the alarm. -/
  | ack
  /-- SILENCE (R465): A debounced SILENCE key press is counted and recorded. -/
  | silence
  /-- LOCAL (R465): A LOCAL key press starts the 2 s hold. -/
  | localI
  /-- TEST (R465): A TEST key press starts the 3 s LED test. -/
  | test
  /-- FACE_LOCAL (R466): A LOCAL held for 2 s toggles LOCAL mode. -/
  | faceLocal
  /-- FACE_KEY_STUCK (R465): A key held for more than 30 s is stuck. -/
  | faceKeyStuck (k : Nat)
  /-- LED_TEST_END (R465): The 3 s LED test ends. -/
  | ledTestEnd
  /-- LOCAL_TIMEOUT (R466): LOCAL mode ends after LOCALTO minutes without a key press. -/
  | localTimeout
  /-- ALARM_WRITE (R467): A write to HST_ALARM raises or clears ACTIVE and acknowledges the alarm. -/
  | alarmWrite (w : Who) (v : Word)
  /-- TRC_TRIG (R142): TRC_CTLn TRIG triggers a buffer. -/
  | trcTrig (w : Who) (n : Nat)
  /-- TRC_CLEAR (R144): TRC_CTLn CLEAR resets a buffer's indexes and restarts capture. -/
  | trcClear (w : Who) (n : Nat)
  /-- DIP_BEGIN (R488): VIN crossing 17.5 V begins a supply dip. -/
  | dipBegin (a : List Nat) (b : List Nat)
  /-- PWR_DIP (R491): VIN above 18.5 V for 50 ms ends a dip and records PWR_DIP. -/
  | pwrDip (a : List Nat) (b : List Nat)
  /-- TIER_TAKE_EFFECT (R487): A demanded tier takes effect and its functions are shed. -/
  | tierTakeEffect (a : List Nat) (b : List Nat)
  /-- TIER_RESTORE (R490): A tier with no demand is restored, one per 10 ms in descending order. -/
  | tierRestore
  /-- PWR_THERMAL (R493): TB at a threshold for 1 s raises, or 10 s below lowers, the thermal demand. -/
  | pwrThermal (tb : Int) (tj : Int)
  /-- THERMAL_RESTART (R493): After a thermal T5, TB falling to 110 °C starts the module as from power-on. -/
  | thermalRestart (tb : Int)
  /-- PWR_FORCE_WRITE (R494): A write to PWR_FORCE sets the forced tier demand. -/
  | pwrForceWrite (w : Who) (v : Word)
  /-- PWR_INPUT_REV (R479): A LOGIC input below −1.0 V is blocked and recorded. -/
  | pwrInputRev (k : Nat) (v : Int)
  /-- PWR_INPUT_LOST (R479): A LOGIC input below 6.0 V is marked ABSENT. -/
  | pwrInputLost (k : Nat) (v : Int)
  /-- PWR_INPUT_OV (R479): A LOGIC input above 38.0 V opens its series switch. -/
  | pwrInputOv (k : Nat) (v : Int)
  /-- PWR_INPUT_OK (R479): A LOGIC input returns and its flags clear. -/
  | pwrInputOk (k : Nat) (v : VoltFor)
  /-- PWR_FIELD_UV (R481): FIELD below 16.0 V for 1 ms removes supply from the FGND loads. -/
  | pwrFieldUv (v : VoltFor)
  /-- PWR_FIELD_OV (R479): FIELD above 36.0 V opens the field switch. -/
  | pwrFieldOv (v : Int)
  /-- PWR_FIELD_REV (R479): FIELD reversed is blocked and recorded. -/
  | pwrFieldRev (v : Int)
  /-- PWR_FIELD_TRIP (R480): The field switch trips on current limit, overcurrent or failed soft start, latching after
  5 trips. -/
  | pwrFieldTrip (v : LoadFor)
  /-- FIELD_SWITCH_RETRY (R480): 1 s after a trip the field switch soft-starts again. -/
  | fieldSwitchRetry
  /-- PWR_FIELD_OK (R481): FIELD in range for 10 ms restores the FGND loads. -/
  | pwrFieldOk (v : VoltFor)
  /-- FRETRY (R480): PWR_CMD FRETRY releases a latched field switch. -/
  | fretry (w : Who)
  /-- HUTEST (R483): PWR_CMD HUTEST starts a hold-up store test. -/
  | hutest (w : Who)
  /-- HOLDUP_TEST (R483): Every 24 h the hold-up store is tested and HUTIME projected. -/
  | holdupTest (t : Nat) (vst : Nat)
  /-- HOLDUP_CHARGED (R483): The hold-up store reaches charge and HUREADY is set. -/
  | holdupCharged (vst : Nat)
  /-- VBAK_TEST (R479): Every 10 s VBAK is measured under load and its flags updated. -/
  | vbakTest (v : Int)
  /-- PLL_LOCK_LOSS (R503): Out-of-band lock checks declare a loss of lock and start a relock. -/
  | pllLockLoss (checks : List Nat)
  /-- RELOCK (R504): CLK_CMD RELOCK starts a relock on CLK_SAFE. -/
  | relock (w : Who)
  /-- CLK_RELOCK (R504): 64 consecutive in-band checks return every clock to the PLL at a coincident edge. -/
  | clkRelock (checks : List Nat)
  /-- RELOCK_ATTEMPT_TIMEOUT (R504): Step 5 incomplete 2 ms after restart repeats the attempt, failing after three. -/
  | relockAttemptTimeout
  /-- CLK_ROOT_FAIL (R507): The root oscillator stops or deviates and the island acts. -/
  | clkRootFail (kind : Nat) (dev : Int)
  /-- ISLAND_RETRY (R508): Every 1 s the island retries the root and PLL and releases the reset when healthy. -/
  | islandRetry (rootOk : Bool) (pllOk : Bool)
  /-- POWER_ON_RESET_RELEASE (R520): Power-on reset is released and the start-up sequence begins. -/
  | powerOnResetRelease (a : Int) (b : Int) (stable : Nat) (lost : Bool) (failed : List Nat)
  /-- SYS (R510): CTL_RESET SYS starts a system reset sequence. -/
  | sys (w : Who)
  /-- FULL (R510): CTL_RESET FULL starts a reset sequence ending in a power-on reset. -/
  | full (w : Who)
  /-- CTL_BRST_WRITE (R510): A write to CTL_BRST resets the named blocks. -/
  | ctlBrstWrite (w : Who) (v : Word)
  /-- RESET_ASSERT (R510): After the flush, reset is asserted in every block of the scope and pending applies dropped. -/
  | resetAssert
  /-- RESET_RELEASE (R510): Reset is released 100 µs after it is asserted. -/
  | resetRelease (failed : List Nat)
  /-- CTL_WDKICK_WRITE (R512): A write to CTL_WDKICK arms or restarts the watchdog, or records CTL_WDKICK_BAD. -/
  | ctlWdkickWrite (w : Who) (v : Word)
  /-- CTL_WATCHDOG (R512): The watchdog expires and a system reset follows. -/
  | ctlWatchdog
  /-- CTL_WEDGE (R513): No placer heartbeat for 1 ms declares the fabric wedged and a system reset follows. -/
  | ctlWedge
  /-- ISLAND_ACT (R517): The safety island performs the operations its trigger calls for. -/
  | islandAct
  /-- CTL_START (R520): Every house loop has retired WAIT in period 0 and start-up step 13 is recorded. -/
  | ctlStart
  /-- CTL_CENSUS_LATE (R520): The first full census not complete within 3 s is recorded. -/
  | ctlCensusLate
  /-- RTC_TICK (R425): Each crystal tick advances the RTC fraction with carry, adds or omits TRIM ticks every 16 s and
  latches RTC_PPSL and RTC_PPSH at each seconds tick. -/
  | rtcTick
  /-- CAN_WIRE_OK (R336): A CAN port wiring flag clears at the first measurement without its condition and CAN_WIRE_OK
  is recorded. -/
  | canWireOk (n : Nat) (f : Nat)
  /-- CAN_PORT_ERROR (R335): A CAN port detects a bus error, sends its error flag and changes TEC, REC and LEC under
  ISO 11898-1 error confinement. -/
  | canPortError (n : Nat) (e : PortError)
  /-- PRIVATE_RECEIVED (R285): A class 14 frame, or a frame of class 6, 7, 9 to 13 or 15, received without error from
  another station is offered to the acceptance filters and receive queue. -/
  | privateReceived (n : Nat) (f : RxBits)
  /-- FILTERED_EDGE (R380): A filtered rising or falling edge on IO00 to IO15 with CMODE set advances the field-side
  COUNT and its edge stamps: `runs` are runs of raw samples up to now, which the filter turns into edges. -/
  | filteredEdge (n : Nat) (runs : List (Bool × Nat))
  /-- TACHOMETER_PULSE (R366): A pulse on a fan tachometer input updates the pulse intervals from which the channel's
  speed is taken. -/
  | tachometerPulse (n : Nat)
  /-- RAIL_NOT_READY (R356): The boost rail falls below 42 V while ready, becomes not ready, sets NRDY and running
  boost pull-ins move to FIELD. -/
  | railNotReady (v : Nat)
  /-- DIO_OT_RESTART (R385): An output switch in thermal shutdown that has cooled by 15 °C may turn on again. -/
  | dioOtRestart (n : Nat)
  /-- READER_FIELD (R460): An NFC reader field appears at or leaves the tag, changing TAG_STAT.FIELD and the NFC LED. -/
  | readerField (present : Bool)
  /-- KEY_RELEASED (R465): A front-face key is released, clearing its DOWN bit, ending a LOCAL hold before 2 s and,
  after 100 ms, ending a stuck state. -/
  | keyReleased (k : Nat)
  /-- CLK_DTBL_READ (R524): A read of CLK_DTBL returns DTB bits [31:0] and latches bits [63:32] for the reading loop
  or HAP session. -/
  | clkDtblRead (w : Who)
  /-- ENGINE_RESET_END (R190): An engine reset by its watchdog ends within 10 µs, its RST bit clears and it takes
  grants again. -/
  | engineResetEnd (e : Nat)
  /-- KEY_RECEIVER_SEARCH (R394): A Key-link receiver in lock meets its third consecutive invalid frame and returns to
  SEARCH at the bit after the expected end of the last one. -/
  | keyReceiverSearch (up : Bool)
  deriving DecidableEq, Repr

end Sys2Proof
end

