-- ==== Sys2Proof/Decode.lean ====
section
/-! DEFINITION. The words of the block's commands: `decodeTableWord` (no row of the opcode table has bits), and the
encodings of the Mbarov instructions, read and written (R68, R69 and Tables 2.5, 2.7 to 2.13 of 02_mbarov_isa.md). -/
namespace Sys2Proof

/-- The command a word spells by the opcode table's bits: no row of the table gives any. -/
def decodeTableWord (_nbits _w : Nat) : Option Instr := none

/-! ### Formats (Table 2.5) -/

def fmtA (op fn : Nat) (d a b : Reg) : Word :=
  w32 (op * 0x2000000 + d.toNat * 0x100000 + a.toNat * 0x8000 + b.toNat * 0x400 + fn)
def fmtB (op : Nat) (d a : Reg) (imm : BitVec 15) : Word :=
  w32 (op * 0x2000000 + d.toNat * 0x100000 + a.toNat * 0x8000 + imm.toNat)
def fmtC (op : Nat) (d : Reg) (imm : BitVec 20) : Word := w32 (op * 0x2000000 + d.toNat * 0x100000 + imm.toNat)
def fmtL (op : Nat) (d a b c m : BitVec 5) : Word :=
  w32 (op * 0x2000000 + d.toNat * 0x100000 + a.toNat * 0x8000 + b.toNat * 0x400 + c.toNat * 0x20 + m.toNat)

/-- The word of a Mbarov instruction; 0, which no instruction has, for every other command. -/
def encodeInstr : Instr → Word
  | .add _ d a b => fmtA 0x01 0x000 d a b
  | .sub _ d a b => fmtA 0x01 0x001 d a b
  | .andI _ d a b => fmtA 0x01 0x002 d a b
  | .orI _ d a b => fmtA 0x01 0x003 d a b
  | .xor _ d a b => fmtA 0x01 0x004 d a b
  | .shl _ d a b => fmtA 0x01 0x005 d a b
  | .shr _ d a b => fmtA 0x01 0x006 d a b
  | .sar _ d a b => fmtA 0x01 0x007 d a b
  | .slt _ d a b => fmtA 0x01 0x008 d a b
  | .sltu _ d a b => fmtA 0x01 0x009 d a b
  | .mul _ d a b => fmtA 0x01 0x00A d a b
  | .mulh _ d a b => fmtA 0x01 0x00B d a b
  | .mulhu _ d a b => fmtA 0x01 0x00C d a b
  | .div _ d a b => fmtA 0x01 0x00D d a b
  | .divu _ d a b => fmtA 0x01 0x00E d a b
  | .rem _ d a b => fmtA 0x01 0x00F d a b
  | .remu _ d a b => fmtA 0x01 0x010 d a b
  | .min _ d a b => fmtA 0x01 0x011 d a b
  | .max _ d a b => fmtA 0x01 0x012 d a b
  | .addi _ d a imm => fmtB 0x02 d a imm
  | .andi _ d a imm => fmtB 0x03 d a imm
  | .ori _ d a imm => fmtB 0x04 d a imm
  | .xori _ d a imm => fmtB 0x05 d a imm
  | .slti _ d a imm => fmtB 0x0A d a imm
  | .shli _ d a n => fmtB 0x06 d a (n.setWidth 15)
  | .shri _ d a n => fmtB 0x07 d a (n.setWidth 15)
  | .sari _ d a n => fmtB 0x08 d a (n.setWidth 15)
  | .lui _ d imm => fmtC 0x09 d imm
  | .fadd _ d a b => fmtA 0x10 0x000 d a b
  | .fsub _ d a b => fmtA 0x10 0x001 d a b
  | .fmul _ d a b => fmtA 0x10 0x002 d a b
  | .fdiv _ d a b => fmtA 0x10 0x003 d a b
  | .fma _ d a b => fmtA 0x10 0x005 d a b
  | .fmin _ d a b => fmtA 0x10 0x006 d a b
  | .fmax _ d a b => fmtA 0x10 0x007 d a b
  | .fsqrt _ d a => fmtA 0x10 0x004 d a 0
  | .fabs _ d a => fmtA 0x10 0x008 d a 0
  | .fneg _ d a => fmtA 0x10 0x009 d a 0
  | .fcvti _ d a => fmtA 0x10 0x00B d a 0
  | .fcvtf _ d a => fmtA 0x10 0x00C d a 0
  | .fcmp _ a b => fmtA 0x10 0x00A 0 a b
  | .ldw _ d a imm _ => fmtB 0x20 d a imm
  | .ldh _ d a imm _ => fmtB 0x21 d a imm
  | .ldhu _ d a imm _ => fmtB 0x22 d a imm
  | .ldb _ d a imm _ => fmtB 0x23 d a imm
  | .ldbu _ d a imm _ => fmtB 0x24 d a imm
  | .stw _ d a imm _ => fmtB 0x28 d a imm
  | .sth _ d a imm _ => fmtB 0x29 d a imm
  | .stb _ d a imm _ => fmtB 0x2A d a imm
  | .beq _ a b off => fmtB 0x30 a b off
  | .bne _ a b off => fmtB 0x31 a b off
  | .blt _ a b off => fmtB 0x32 a b off
  | .bge _ a b off => fmtB 0x33 a b off
  | .bltu _ a b off => fmtB 0x34 a b off
  | .bgeu _ a b off => fmtB 0x35 a b off
  | .bfs _ n off => fmtB 0x36 n 0 off
  | .bfc _ n off => fmtB 0x37 n 0 off
  | .jal _ d off => fmtC 0x38 d off
  | .jalr _ d a imm => fmtB 0x39 d a imm
  | .nop _ => fmtA 0x3C 0x000 0 0 0
  | .wait _ d => fmtA 0x3C 0x001 d 0 0
  | .trap _ n => fmtA 0x3C 0x002 0 0 n
  | .mfs _ d sel => fmtA 0x3C 0x003 d sel 0
  | .mtf _ a => fmtA 0x3C 0x004 0 a 0
  | .pids _ d a b c m => fmtL 0x40 d a b c m
  | .mins _ d a => fmtL 0x41 d a 0 0 0
  | .intf _ d a b c => fmtL 0x42 d a b c 0
  | .sched _ d a b c => fmtL 0x43 d a b c 0
  | .skim _ d a b m => fmtL 0x44 d a b 0 (if m.learn then 1 else 0)
  | .slew _ d a b m => fmtL 0x45 d a b 0 (if m then 1 else 0)
  | .clmp _ d a b c => fmtL 0x46 d a b c 0
  | .plaus _ d a b c => fmtL 0x47 d a b c 0
  | .tap _ m a b => fmtL 0x48 0 a b 0 m
  | .fir _ d a b m _ => fmtL 0x49 d a b 0 m
  | .out _ a b => fmtL 0x4A 0 a b 0 0
  | .illegalInstruction _ w => w
  | .registerAccessTimeout _ w _ => w
  | _ => 0

/-- The MFS selectors of Table 2.3. -/
def mfsListed (sel : Nat) : Bool := sel ≤ 4 || (decide (8 ≤ sel) && decide (sel ≤ 13))

/-- The integer instructions of OP 0x01, by FN (Table 2.7). -/
def decodeInteger (l fn : Nat) (d a b : Reg) : Option Instr :=
  match fn with
  | 0 => some (.add l d a b)
  | 1 => some (.sub l d a b)
  | 2 => some (.andI l d a b)
  | 3 => some (.orI l d a b)
  | 4 => some (.xor l d a b)
  | 5 => some (.shl l d a b)
  | 6 => some (.shr l d a b)
  | 7 => some (.sar l d a b)
  | 8 => some (.slt l d a b)
  | 9 => some (.sltu l d a b)
  | 10 => some (.mul l d a b)
  | 11 => some (.mulh l d a b)
  | 12 => some (.mulhu l d a b)
  | 13 => some (.div l d a b)
  | 14 => some (.divu l d a b)
  | 15 => some (.rem l d a b)
  | 16 => some (.remu l d a b)
  | 17 => some (.min l d a b)
  | 18 => some (.max l d a b)
  | _ => none

/-- The FP32 instructions of OP 0x10, by FN (Table 2.8): a field that must be g0 is. -/
def decodeFp (l fn : Nat) (d a b : Reg) : Option Instr :=
  match fn with
  | 0 => some (.fadd l d a b)
  | 1 => some (.fsub l d a b)
  | 2 => some (.fmul l d a b)
  | 3 => some (.fdiv l d a b)
  | 4 => if b = 0 then some (.fsqrt l d a) else none
  | 5 => some (.fma l d a b)
  | 6 => some (.fmin l d a b)
  | 7 => some (.fmax l d a b)
  | 8 => if b = 0 then some (.fabs l d a) else none
  | 9 => if b = 0 then some (.fneg l d a) else none
  | 10 => if d = 0 then some (.fcmp l a b) else none
  | 11 => if b = 0 then some (.fcvti l d a) else none
  | 12 => if b = 0 then some (.fcvtf l d a) else none
  | _ => none

/-- The system instructions of OP 0x3C, by FN (Table 2.11). -/
def decodeSystem (l fn : Nat) (d a b : Reg) : Option Instr :=
  match fn with
  | 0 => if d = 0 ∧ a = 0 ∧ b = 0 then some (.nop l) else none
  | 1 => if a = 0 ∧ b = 0 then some (.wait l d) else none
  | 2 => if d = 0 ∧ a = 0 then some (.trap l b) else none
  | 3 => if b = 0 ∧ mfsListed a.toNat then some (.mfs l d a) else none
  | 4 => if d = 0 ∧ b = 0 then some (.mtf l a) else none
  | _ => none

/-- The instructions of formats B, C and D, by OP, and the law instructions of format L (Tables 2.7, 2.9, 2.10, 2.13). -/
def decodeOther (l op : Nat) (d a b c m : BitVec 5) (imm : BitVec 15) (imm20 : BitVec 20) : Option Instr :=
  match op with
  | 0x02 => some (.addi l d a imm)
  | 0x03 => some (.andi l d a imm)
  | 0x04 => some (.ori l d a imm)
  | 0x05 => some (.xori l d a imm)
  | 0x0A => some (.slti l d a imm)
  | 0x06 => if imm.toNat < 32 then some (.shli l d a m) else none
  | 0x07 => if imm.toNat < 32 then some (.shri l d a m) else none
  | 0x08 => if imm.toNat < 32 then some (.sari l d a m) else none
  | 0x09 => some (.lui l d imm20)
  | 0x20 => some (.ldw l d a imm .ok)
  | 0x21 => some (.ldh l d a imm .ok)
  | 0x22 => some (.ldhu l d a imm .ok)
  | 0x23 => some (.ldb l d a imm .ok)
  | 0x24 => some (.ldbu l d a imm .ok)
  | 0x28 => some (.stw l d a imm .ok)
  | 0x29 => some (.sth l d a imm .ok)
  | 0x2A => some (.stb l d a imm .ok)
  | 0x30 => some (.beq l d a imm)
  | 0x31 => some (.bne l d a imm)
  | 0x32 => some (.blt l d a imm)
  | 0x33 => some (.bge l d a imm)
  | 0x34 => some (.bltu l d a imm)
  | 0x35 => some (.bgeu l d a imm)
  | 0x36 => if a = 0 then some (.bfs l d imm) else none
  | 0x37 => if a = 0 then some (.bfc l d imm) else none
  | 0x38 => some (.jal l d imm20)
  | 0x39 => some (.jalr l d a imm)
  | 0x40 => if m.toNat / 8 < 3 then some (.pids l d a b c m) else none
  | 0x41 => if b = 0 ∧ c = 0 ∧ m = 0 then some (.mins l d a) else none
  | 0x42 => if m = 0 then some (.intf l d a b c) else none
  | 0x43 => if m = 0 then some (.sched l d a b c) else none
  | 0x44 => if c = 0 ∧ m.toNat < 2 then some (.skim l d a b ⟨m == 1, .ok, .ok⟩) else none
  | 0x45 => if c = 0 ∧ m.toNat < 2 then some (.slew l d a b (m == 1)) else none
  | 0x46 => if m = 0 then some (.clmp l d a b c) else none
  | 0x47 => if m = 0 then some (.plaus l d a b c) else none
  | 0x48 => if d = 0 ∧ c = 0 then some (.tap l m a b) else none
  | 0x49 => if c = 0 ∧ m.toNat / 8 < 3 then some (.fir l d a b m .ok) else none
  | 0x4A => if d = 0 ∧ c = 0 ∧ m = 0 then some (.out l a b) else none
  | _ => none

/-- The Mbarov instruction a word spells for loop `l`; none where the word raises the illegal-instruction trap (R69).
A load, store or FIR is read as one that meets no memory error. -/
def decodeMbarov (l : Nat) (w : Word) : Option Instr :=
  let n := w.toNat
  let op := n / 0x2000000
  let d : BitVec 5 := BitVec.ofNat 5 (n / 0x100000)
  let a : BitVec 5 := BitVec.ofNat 5 (n / 0x8000)
  let b : BitVec 5 := BitVec.ofNat 5 (n / 0x400)
  let c : BitVec 5 := BitVec.ofNat 5 (n / 0x20)
  let m : BitVec 5 := BitVec.ofNat 5 n
  let fn := n % 0x400
  if op = 0x01 then decodeInteger l fn d a b
  else if op = 0x10 then decodeFp l fn d a b
  else if op = 0x3C then decodeSystem l fn d a b
  else decodeOther l op d a b c m (BitVec.ofNat 15 n) (BitVec.ofNat 20 n)

end Sys2Proof
end

