-- ==== Sys2Proof/Machine/Bits.lean ====
section
/-! DEFINITION. Reading and writing bit fields (R9 of 00_scope.md) and two's complement values (R11). -/
namespace Sys2Proof.Machine

/-- Bits `[hi:lo]` of a word as a number (R9). -/
def fld (w : Word) (hi lo : Nat) : Nat := w.toNat / 2 ^ lo % 2 ^ (hi - lo + 1)

/-- Bit `i` of a word. -/
def bitAt (w : Word) (i : Nat) : Bool := w.toNat / 2 ^ i % 2 == 1

/-- A word with bits `[hi:lo]` replaced by `v`, which is taken modulo the field's width. -/
def setFld (w : Word) (hi lo v : Nat) : Word :=
  w32 (w.toNat - fld w hi lo * 2 ^ lo + v % 2 ^ (hi - lo + 1) * 2 ^ lo)

/-- A word with bit `i` set to `b`. -/
def setBit (w : Word) (i : Nat) (b : Bool) : Word := setFld w i i b.toNat

/-- The value of the low `n` bits of a number, read as two's complement. -/
def sext (n v : Nat) : Int := if v % 2 ^ n < 2 ^ (n - 1) then (v % 2 ^ n : Int) else (v % 2 ^ n : Int) - 2 ^ n

/-- The word of an integer, modulo 2^32. -/
def wOfInt (i : Int) : Word := BitVec.ofInt 32 i

/-- The smaller of a count and its holding value (R24). -/
def sat (max n : Nat) : Nat := if n ≤ max then n else max

end Sys2Proof.Machine
end

