-- ==== Sys2Proof/Machine/Fp.lean ====
section
/-! DEFINITION. FP32 arithmetic: IEEE 754 binary32 with the choices of R75 of 02_mbarov_isa.md.  Each operation yields
its result and raises the sticky flags of Table 2.2. -/
namespace Sys2Proof.Machine

/-- A computation that raises sticky flags. -/
abbrev FpM (α : Type) := StateM Nat α

/-- The sticky flags, at their places in FLG (Table 2.2). -/
def flNV : Nat := 0x200
def flDZ : Nat := 0x100
def flOF : Nat := 0x080
def flUF : Nat := 0x040
def flNX : Nat := 0x020

/-- The NaN every instruction produces (R75), the infinities, zero and one. -/
def fpNaN : Word := 0x7FC00000
def fpInf : Word := 0x7F800000
def fpNegInf : Word := 0xFF800000
def fpZero : Word := 0
def fpOne : Word := 0x3F800000

/-- Raise flags. -/
def raise (f : Nat) : FpM Unit := modify fun x => x ||| f

/-- An operand as R75 reads it: a subnormal is a zero of its sign. -/
inductive FpVal where
  | nan (signalling : Bool)
  | inf (neg : Bool)
  | zero (neg : Bool)
  /-- plus or minus `m * 2^e` with `m` of 24 bits -/
  | fin (neg : Bool) (m : Nat) (e : Int)
  deriving DecidableEq, Repr

/-- An operand read (R75). -/
def fpRead (w : Word) : FpVal :=
  let neg := bitAt w 31
  let ex := fld w 30 23
  let fr := fld w 22 0
  if ex = 255 then (if fr = 0 then .inf neg else .nan (!bitAt w 22))
  else if ex = 0 then .zero neg
  else .fin neg (0x800000 + fr) ((ex : Int) - 150)

def fpIsNaN (w : Word) : Bool := match fpRead w with
  | .nan _ => true
  | _ => false

def fpIsInf (w : Word) : Bool := match fpRead w with
  | .inf _ => true
  | _ => false

def fpIsFinite (w : Word) : Bool := !fpIsNaN w && !fpIsInf w

/-- A word of a sign, a biased exponent and a fraction. -/
def fpPack (neg : Bool) (ex fr : Nat) : Word := w32 (neg.toNat * 0x80000000 + ex * 0x800000 + fr)

def fpZeroOf (neg : Bool) : Word := fpPack neg 0 0
def fpInfOf (neg : Bool) : Word := fpPack neg 255 0

/-- The magnitude `m * 2^e`, or a little more where `sticky`, rounded to 24 bits, ties to even: its 24-bit significand,
its exponent and whether it was inexact.  Where `sticky`, `m` has at least 25 bits. -/
def fpRound24 (m : Nat) (e : Int) (sticky : Bool) : Nat × Int × Bool :=
  let bits := Nat.log2 m + 1
  if bits ≤ 24 then (m * 2 ^ (24 - bits), e - (24 - bits : Nat), sticky)
  else
    let k := bits - 24
    let q := m / 2 ^ k
    let r := m % 2 ^ k
    let half := 2 ^ (k - 1)
    let up := decide (half < r) || (r == half && (sticky || q % 2 == 1))
    let q' := if up then q + 1 else q
    let inexact := r != 0 || sticky
    if q' = 0x1000000 then (0x800000, e + (k : Int) + 1, inexact) else (q', e + (k : Int), inexact)

/-- A nonzero magnitude delivered as FP32 (R75): tininess judged after rounding and flushed to zero with UF and NX;
overflow to infinity with OF and NX. -/
def fpDeliver (neg : Bool) (m : Nat) (e : Int) (sticky : Bool) : FpM Word :=
  let (q, e', inexact) := fpRound24 m e sticky
  let ex := e' + 150
  if 255 ≤ ex then do raise (flOF ||| flNX); pure (fpInfOf neg)
  else if ex ≤ 0 then do raise (flUF ||| flNX); pure (fpZeroOf neg)
  else do
    if inexact then raise flNX
    pure (fpPack neg ex.toNat (q - 0x800000))

/-- A NaN result: NV where an operand signals. -/
def fpNaNOf (signalling : Bool) : FpM Word := do
  if signalling then raise flNV
  pure fpNaN

/-- An invalid operation. -/
def fpInvalid : FpM Word := do raise flNV; pure fpNaN

def FpVal.isSignalling : FpVal → Bool
  | .nan true => true
  | _ => false

/-- The exact sum of two signed magnitudes delivered; an exact zero is +0, or -0 where both are negative. -/
def fpSum (n1 : Bool) (m1 : Nat) (e1 : Int) (n2 : Bool) (m2 : Nat) (e2 : Int) : FpM Word :=
  let e := min e1 e2
  let a : Int := (m1 : Int) * 2 ^ (e1 - e).toNat * (if n1 then -1 else 1)
  let b : Int := (m2 : Int) * 2 ^ (e2 - e).toNat * (if n2 then -1 else 1)
  let s := a + b
  if s = 0 then pure (fpZeroOf (n1 && n2)) else fpDeliver (decide (s < 0)) s.natAbs e false

/-- The sum of two read operands, neither a NaN. -/
def fpAddVal : FpVal → FpVal → FpM Word
  | .nan s, _ => fpNaNOf s
  | _, .nan s => fpNaNOf s
  | .inf a, .inf b => if a = b then pure (fpInfOf a) else fpInvalid
  | .inf a, _ => pure (fpInfOf a)
  | _, .inf b => pure (fpInfOf b)
  | .zero a, .zero b => pure (fpZeroOf (a && b))
  | .zero _, .fin n m e => fpDeliver n m e false
  | .fin n m e, .zero _ => fpDeliver n m e false
  | .fin n1 m1 e1, .fin n2 m2 e2 => fpSum n1 m1 e1 n2 m2 e2

/-- Two operands of which one is a NaN: a quiet NaN, and NV where either signals (R75); otherwise the operation. -/
def fpBinary (a b : Word) (op : FpVal → FpVal → FpM Word) : FpM Word :=
  let x := fpRead a
  let y := fpRead b
  if fpIsNaN a || fpIsNaN b then fpNaNOf (x.isSignalling || y.isSignalling) else op x y

/-- Addition (R75). -/
def fadd (a b : Word) : FpM Word := fpBinary a b fpAddVal

/-- A word with its sign bit inverted. -/
def fpNegate (w : Word) : Word := w ^^^ 0x80000000

/-- A word with its sign bit clear. -/
def fpAbs (w : Word) : Word := w &&& 0x7FFFFFFF

/-- Subtraction (R75). -/
def fsub (a b : Word) : FpM Word := fpBinary a b fun x y => fpAddVal x (neg y)
where
  neg : FpVal → FpVal
    | .inf s => .inf (!s)
    | .zero s => .zero (!s)
    | .fin s m e => .fin (!s) m e
    | v => v

/-- Multiplication (R75). -/
def fmul (a b : Word) : FpM Word := fpBinary a b mulVal
where
  mulVal : FpVal → FpVal → FpM Word
    | .nan s, _ => fpNaNOf s
    | _, .nan s => fpNaNOf s
    | .inf _, .zero _ => fpInvalid
    | .zero _, .inf _ => fpInvalid
    | .inf a, .inf b => pure (fpInfOf (a != b))
    | .inf a, .fin b _ _ => pure (fpInfOf (a != b))
    | .fin a _ _, .inf b => pure (fpInfOf (a != b))
    | .zero a, .zero b => pure (fpZeroOf (a != b))
    | .zero a, .fin b _ _ => pure (fpZeroOf (a != b))
    | .fin a _ _, .zero b => pure (fpZeroOf (a != b))
    | .fin n1 m1 e1, .fin n2 m2 e2 => fpDeliver (n1 != n2) (m1 * m2) (e1 + e2) false

/-- Division (R75): DZ where a finite nonzero value is divided by zero. -/
def fdiv (a b : Word) : FpM Word := fpBinary a b divVal
where
  divVal : FpVal → FpVal → FpM Word
    | .nan s, _ => fpNaNOf s
    | _, .nan s => fpNaNOf s
    | .inf _, .inf _ => fpInvalid
    | .zero _, .zero _ => fpInvalid
    | .inf a, .zero b => pure (fpInfOf (a != b))
    | .inf a, .fin b _ _ => pure (fpInfOf (a != b))
    | .zero a, .inf b => pure (fpZeroOf (a != b))
    | .zero a, .fin b _ _ => pure (fpZeroOf (a != b))
    | .fin a _ _, .inf b => pure (fpZeroOf (a != b))
    | .fin a _ _, .zero b => do raise flDZ; pure (fpInfOf (a != b))
    | .fin n1 m1 e1, .fin n2 m2 e2 =>
      let n := m1 * 2 ^ 50
      fpDeliver (n1 != n2) (n / m2) (e1 - e2 - 50) (n % m2 != 0)

/-- The integer square root of `n`, bit by bit from bit `b - 1` down, on a root found so far. -/
def isqrtBits (n : Nat) : Nat → Nat → Nat
  | 0, r => r
  | b + 1, r => if (r + 2 ^ b) * (r + 2 ^ b) ≤ n then isqrtBits n b (r + 2 ^ b) else isqrtBits n b r

/-- Square root (R75). -/
def fsqrt (a : Word) : FpM Word :=
  match fpRead a with
  | .nan s => fpNaNOf s
  | .zero n => pure (fpZeroOf n)
  | .inf n => if n then fpInvalid else pure fpInf
  | .fin n m e =>
    if n then fpInvalid
    else
      let (m1, e1) := if e % 2 = 0 then (m, e) else (2 * m, e - 1)
      let x := m1 * 2 ^ 52
      let r := isqrtBits x 40 0
      fpDeliver false r ((e1 - 52) / 2) (r * r != x)

/-- Fused multiply-add `c + a * b`, rounded once (R76). -/
def ffma (c a b : Word) : FpM Word :=
  let z := fpRead c
  let x := fpRead a
  let y := fpRead b
  let sig := x.isSignalling || y.isSignalling || z.isSignalling
  match x, y with
  | .inf _, .zero _ => fpInvalid
  | .zero _, .inf _ => fpInvalid
  | _, _ =>
    if fpIsNaN a || fpIsNaN b || fpIsNaN c then fpNaNOf sig
    else match x, y, z with
      | .fin n1 m1 e1, .fin n2 m2 e2, .fin n3 m3 e3 => fpSum (n1 != n2) (m1 * m2) (e1 + e2) n3 m3 e3
      | .fin n1 m1 e1, .fin n2 m2 e2, .zero _ => fpDeliver (n1 != n2) (m1 * m2) (e1 + e2) false
      | .fin _ _ _, .fin _ _ _, .inf s => pure (fpInfOf s)
      | .inf s1, y, z => fpAddVal (.inf (s1 != sign y)) z
      | x, .inf s2, z => fpAddVal (.inf (sign x != s2)) z
      | x, y, z => fpAddVal (.zero (sign x != sign y)) z
where
  sign : FpVal → Bool
    | .nan _ => false
    | .inf s => s
    | .zero s => s
    | .fin s _ _ => s

/-- The outcome of a comparison (R77). -/
inductive FpOrd where
  | lt
  | eq
  | gt
  | unordered
  deriving DecidableEq, Repr

/-- The value of a finite operand scaled by 2^149, as an integer. -/
def fpScaled : FpVal → Int
  | .fin n m e => (m : Int) * 2 ^ (e + 149).toNat * (if n then -1 else 1)
  | _ => 0

/-- The order of two read operands. -/
def fpOrdVal : FpVal → FpVal → FpOrd
  | .nan _, _ => .unordered
  | _, .nan _ => .unordered
  | .inf a, .inf b => if a = b then .eq else if a then .lt else .gt
  | .inf a, _ => if a then .lt else .gt
  | _, .inf b => if b then .gt else .lt
  | x, y => if fpScaled x < fpScaled y then .lt else if fpScaled x = fpScaled y then .eq else .gt

/-- Comparison, with NV on a signalling NaN (R77). -/
def fcmp (a b : Word) : FpM FpOrd := do
  if (fpRead a).isSignalling || (fpRead b).isSignalling then raise flNV
  pure (fpOrdVal (fpRead a) (fpRead b))

/-- Comparisons without flags, false where an operand is NaN. -/
def fpLt (a b : Word) : Bool := fpOrdVal (fpRead a) (fpRead b) == .lt
def fpLe (a b : Word) : Bool := let o := fpOrdVal (fpRead a) (fpRead b); o == .lt || o == .eq
def fpGt (a b : Word) : Bool := fpLt b a
def fpGe (a b : Word) : Bool := fpLe b a
def fpEq (a b : Word) : Bool := fpOrdVal (fpRead a) (fpRead b) == .eq

/-- An operand with a subnormal read as a zero of its sign (R75). -/
def fpFlush (w : Word) : Word := match fpRead w with
  | .zero n => fpZeroOf n
  | _ => w

/-- Minimum and maximum (R76): the other operand where exactly one is NaN, and of two zeros -0 and +0. -/
def fminmax (wantMin : Bool) (a b : Word) : FpM Word := do
  if (fpRead a).isSignalling || (fpRead b).isSignalling then raise flNV
  if fpIsNaN a && fpIsNaN b then pure fpNaN
  else if fpIsNaN a then pure (fpFlush b)
  else if fpIsNaN b then pure (fpFlush a)
  else match fpOrdVal (fpRead a) (fpRead b) with
    | .lt => pure (fpFlush (if wantMin then a else b))
    | .gt => pure (fpFlush (if wantMin then b else a))
    | _ =>
      let x := fpFlush a
      let y := fpFlush b
      pure (if bitAt x 31 == wantMin then x else y)

def fmin (a b : Word) : FpM Word := fminmax true a b
def fmax (a b : Word) : FpM Word := fminmax false a b

/-- Saturating conversion to an integer, truncated toward zero (R78). -/
def fcvti (a : Word) : FpM Word :=
  match fpRead a with
  | .nan _ => do raise flNV; pure 0
  | .inf n => do raise flNV; pure (if n then 0x80000000 else 0x7FFFFFFF)
  | .zero _ => pure 0
  | .fin n m e =>
    let mag := if 0 ≤ e then m * 2 ^ e.toNat else m / 2 ^ (-e).toNat
    let exact := decide (0 ≤ e) || m % 2 ^ (-e).toNat == 0
    if !n && decide (0x80000000 ≤ mag) then do raise flNV; pure 0x7FFFFFFF
    else if n && (decide (0x80000000 < mag) || (mag == 0x80000000 && !exact)) then do raise flNV; pure 0x80000000
    else do
      if !exact then raise flNX
      pure (if n then w32 (0x100000000 - mag) else w32 mag)

/-- Conversion of an integer (R76). -/
def fpOfInt (i : Int) : FpM Word :=
  if i = 0 then pure fpZero else fpDeliver (decide (i < 0)) i.natAbs 0 false

/-- Conversion of a word read as a signed integer (FCVTF). -/
def fcvtf (a : Word) : FpM Word := fpOfInt a.toInt

/-- A rational number `n / d` rounded to nearest. -/
def fpOfRat (neg : Bool) (n d : Nat) : FpM Word :=
  if n = 0 then pure (fpZeroOf neg)
  else
    let k := 64 + Nat.log2 d
    let x := n * 2 ^ k
    fpDeliver neg (x / d) (-(k : Int)) (x % d != 0)

/-- A computation run from no flags: its value and the flags it raises. -/
def fpRun {α : Type} (m : FpM α) : α × Nat := m.run 0

/-- A computation's value without its flags. -/
def fpVal {α : Type} (m : FpM α) : α := (fpRun m).1

/-- A computation's flags. -/
def fpFlags {α : Type} (m : FpM α) : Nat := (fpRun m).2

/-- The FP32 of a natural number, and of a rational. -/
def fpNat (n : Nat) : Word := fpVal (fpOfInt n)
def fpRat (n d : Nat) : Word := fpVal (fpOfRat false n d)
def fpRatInt (n : Int) (d : Nat) : Word := fpVal (fpOfRat (decide (n < 0)) n.natAbs d)

/-- The integer part of a finite FP32 value times `k`, rounded to nearest with ties away, not below 0. -/
def fpToNatScaled (w : Word) (k : Nat) : Nat :=
  match fpRead w with
  | .fin false m e =>
    if 0 ≤ e then m * k * 2 ^ e.toNat
    else (2 * m * k + 2 ^ (-e).toNat) / (2 * 2 ^ (-e).toNat)
  | _ => 0

end Sys2Proof.Machine
end

