-- ==== Sys2Proof/Config.lean ====
section
/-! DEFINITION. What the spec leaves open, as constants with no body: nothing can be proved of their values. -/
namespace Sys2Proof.Config

/-- A fresh open value, by its position in the run: cycle counts inside a range of R71 and other values the spec leaves
to the hardware. -/
opaque freeNat : Nat → Nat

/-- The temperature of a platinum element, degrees C, of its SUB code and resistance: the inverse of IEC 60751, which R217
names and the spec does not print. -/
opaque rtdTemp : Nat → Word → Word

/-- The reference functions of IEC 60584-1, which R217 names and the spec does not print, by thermocouple type: the EMF in mV at
a temperature, the temperature of an EMF, and the ends of the range of a type in degrees C. -/
opaque tcEmf : Nat → Word → Word
opaque tcTemp : Nat → Word → Word
opaque tcLow : Nat → Int
opaque tcHigh : Nat → Int

/-- The factory nominal correction of a front-end input (Table 6.9, UNCAL), by correction item; the spec gives no value. -/
opaque feNominal : Nat → Word

/-- Which of the values within 2 units in the last place exp, ln and pow deliver (R254), by operation and operands, and what pow
delivers of a negative base, which the spec does not state. -/
opaque ulpOf : Nat → Word → Word → Nat
opaque powNegative : Word → Word → Word

/-- HMAC-SHA-256 (R446, R449, R457) by key and message, as 32 bytes, and the Ed25519 verification of R169 by public key, message
and signature: algorithms the spec names and does not print. -/
opaque hmac : List Byte → List Byte → Nat → Byte
opaque ed25519 : List Byte → List Byte → List Byte → Bool

/-- The tag's identity area (R460), and its answers to Inventory and Get System Information (R459): the values of one unit. -/
opaque tagIdentity : Nat → Byte
opaque tagInventory : List Byte
opaque tagSystem : List Byte

/-- A module nonce (16 bytes) and the MAC address of a link, of one unit or one run. -/
opaque nonce : Nat → Nat → Byte
opaque macAddr : Nat → Nat → Byte

end Sys2Proof.Config
end

