-- ==== Sys2Proof/Machine/Codes.lean ====
section
/-! DEFINITION. The event codes of R405: Table 12.2 of 12_recorder_rtc.md, Table 13.10, Table 14.9 and Table 15.9. -/
namespace Sys2Proof.Machine.Ev

def PAIR_MISMATCH : Nat := 0x300
def PAIR_STATE : Nat := 0x301
def LOOP_TRAP : Nat := 0x302
def LOOP_STOPPED : Nat := 0x303
def CELL_LOAD : Nat := 0x304
def CELL_RESET : Nat := 0x305
def CELL_RESET_DRAINED : Nat := 0x306
def STANDBY_LOW : Nat := 0x307
def PIN_DEGRADED : Nat := 0x308
def MIGRATE_NO_STANDBY : Nat := 0x309
def PLACE_TIER_OVER : Nat := 0x30A
def ENGINE_OVER : Nat := 0x30B
def PAGE_DENIED : Nat := 0x30C
def ENGINE_FAULT : Nat := 0x400
def ENGINE_FREEZE : Nat := 0x401
def HWK_TAGFULL : Nat := 0x402
def FE_INPUT_FAULT : Nat := 0x500
def FE_INPUT_OK : Nat := 0x501
def PROBE_REMOVED : Nat := 0x502
def PROBE_INSERTED : Nat := 0x503
def FE_DIEL_SHED : Nat := 0x504
def FE_REF_SWITCH : Nat := 0x505
def FE_REF_SUSPECT : Nat := 0x506
def FE_REF_DISAGREE : Nat := 0x507
def FE_CAL_COMMIT : Nat := 0x508
def COL_STATE : Nat := 0x600
def COL_EXTRAP : Nat := 0x601
def COL_FAST : Nat := 0x602
def COL_CONDENSE : Nat := 0x603
def COL_PROBE_FAIL : Nat := 0x604
def COL_PROBE_OK : Nat := 0x605
def COL_FIT_COMMIT : Nat := 0x606
def LAT_WIRE_FAULT : Nat := 0x700
def LAT_WIRE_OK : Nat := 0x701
def LAT_KEY_COLLIDE : Nat := 0x702
def LAT_RX_OVERFLOW : Nat := 0x703
def LAT_JUNCTION_MISS : Nat := 0x704
def LAT_BUSOFF : Nat := 0x705
def LAT_BUSOFF_END : Nat := 0x706
def CAN_WIRE_FAULT : Nat := 0x800
def CAN_WIRE_OK : Nat := 0x801
def CAN_RX_OVERRUN : Nat := 0x802
def CAN_BUSOFF : Nat := 0x803
def CAN_BUSOFF_END : Nat := 0x804
def SV_SHORT : Nat := 0x900
def SV_SHORT_LATCH : Nat := 0x901
def SV_SHORT_GND : Nat := 0x902
def SV_OPEN : Nat := 0x903
def SV_NO_MOVE : Nat := 0x904
def SV_THERMAL : Nat := 0x905
def SV_OVERLOAD : Nat := 0x906
def SV_BANK_OFF : Nat := 0x907
def SV_BANK_OK : Nat := 0x908
def SV_BOOST_SHORT : Nat := 0x909
def SV_BOOST_OK : Nat := 0x90A
def SV_BOOST_NOT_READY : Nat := 0x90B
def FAN_FAIL : Nat := 0xA00
def FAN_OK : Nat := 0xA01
def FAN_GROUP_FULL : Nat := 0xA02
def FAN_TS_FAULT : Nat := 0xA03
def FAN_OUT_FAULT : Nat := 0xA04
def FAN_SUP_FAULT : Nat := 0xA05
def DIO_SHORT : Nat := 0xB00
def DIO_SHORT_LATCH : Nat := 0xB01
def DIO_OPEN : Nat := 0xB02
def DIO_VSHORT : Nat := 0xB03
def DIO_OT : Nat := 0xB04
def DIO_INNEG : Nat := 0xB05
def DIO_LINK_LOSS : Nat := 0xB06
def DIO_LINK_OK : Nat := 0xB07
def DIO_FIELD_SAFE : Nat := 0xB08
def REC_SUMMARY : Nat := 0xC00
def REC_OVERFLOW : Nat := 0xC01
def REC_START : Nat := 0xC02
def REC_FLUSH : Nat := 0xC03
def NVS_COMMIT : Nat := 0xC04
def NVS_STORE_FAIL : Nat := 0xC05
def NVS_SET_FALLBACK : Nat := 0xC06
def NVS_WEAR : Nat := 0xC07
def RTC_SET : Nat := 0xC08
def RTC_SHIFT : Nat := 0xC09
def RTC_OSC_STOP : Nat := 0xC0A
def RTC_BACKUP_SWITCH : Nat := 0xC0B
def RTC_BKRAM_PARITY : Nat := 0xC0C
def RTC_BACKUP_LOST : Nat := 0xC0D
def STAGE_REJECT : Nat := 0xE00
def STAGE_LOCKED_WRITE : Nat := 0xE01
def ECC_CORRECTED : Nat := 0xE02
def ECC_UNCORRECTABLE : Nat := 0xE03
def HST_LINK_UP : Nat := 0xD00
def HAP_AUTH_FAIL : Nat := 0xD09
def HST_LINK_DOWN : Nat := 0xD01
def HAP_IMAGE : Nat := 0xD0A
def HST_CABLE_FAULT : Nat := 0xD02
def HAP_KEY_SET : Nat := 0xD0B
def HST_SYNC : Nat := 0xD03
def HAP_CRED_SET : Nat := 0xD0C
def HST_SYNC_LOST : Nat := 0xD04
def FACE_KEY : Nat := 0xD0D
def HST_GM_CHANGE : Nat := 0xD05
def FACE_KEY_STUCK : Nat := 0xD0E
def HST_DTB_STEP : Nat := 0xD06
def FACE_LOCAL : Nat := 0xD0F
def HAP_OPEN : Nat := 0xD07
def TAG_COMMISSION : Nat := 0xD10
def HAP_CLOSE : Nat := 0xD08
def TAG_ANT_FAULT : Nat := 0xD11
def PWR_DIP : Nat := 0x100
def PWR_FIELD_REV : Nat := 0x109
def PWR_BROWNOUT : Nat := 0x101
def PWR_FIELD_TRIP : Nat := 0x10A
def PWR_INPUT_LOST : Nat := 0x102
def PWR_FIELD_LATCH : Nat := 0x10B
def PWR_INPUT_OK : Nat := 0x103
def PWR_VBAK_LOW : Nat := 0x10C
def PWR_INPUT_OV : Nat := 0x104
def PWR_VBAK_OK : Nat := 0x10D
def PWR_INPUT_REV : Nat := 0x105
def PWR_HOLDUP_LOW : Nat := 0x10E
def PWR_FIELD_UV : Nat := 0x106
def PWR_THERMAL : Nat := 0x10F
def PWR_FIELD_OK : Nat := 0x107
def PWR_THERMAL_OFF : Nat := 0x110
def PWR_FIELD_OV : Nat := 0x108
def PWR_FORCE : Nat := 0x111
def CTL_RESET : Nat := 0x000
def CTL_START : Nat := 0x001
def CTL_HOUSE_FAIL : Nat := 0x002
def CTL_WATCHDOG : Nat := 0x003
def CTL_WEDGE : Nat := 0x004
def CTL_ISLAND : Nat := 0x005
def CTL_POSTURE_RELEASE : Nat := 0x006
def CTL_WDKICK_BAD : Nat := 0x007
def CTL_CENSUS_LATE : Nat := 0x008
def CLK_CHANGE : Nat := 0x200
def CLK_UNLOCK : Nat := 0x201
def CLK_RELOCK : Nat := 0x202
def CLK_LOCK_FAIL : Nat := 0x203
def CLK_ROOT_FAIL : Nat := 0x204
def CLK_ROOT_OK : Nat := 0x205

end Sys2Proof.Machine.Ev
end

