-- ==== Sys2Proof/Machine/Map.lean ====
section
/-! DEFINITION. Reading and writing sparse maps: one entry per key, keys strictly rising, and no entry equal to what
an unlisted key reads as, so that equal contents are equal data. -/
namespace Sys2Proof.Machine

/-- The value a map holds for a key: the first entry with that key, else the value an unlisted key reads as. -/
def mget {α : Type} (d : α) (k : Nat) : SMap α → α
  | [] => d
  | (j, v) :: t => if j = k then v else mget d k t

/-- A map without its entries for a key. -/
def mdel {α : Type} (k : Nat) : SMap α → SMap α
  | [] => []
  | (j, v) :: t => if j = k then mdel k t else (j, v) :: mdel k t

/-- An entry put at its place by key in a map that holds none for the key. -/
def mins {α : Type} (k : Nat) (v : α) : SMap α → SMap α
  | [] => [(k, v)]
  | (j, w) :: t => if k < j then (k, v) :: (j, w) :: t else (j, w) :: mins k v t

/-- The map with a key's value replaced; writing the value an unlisted key reads as removes the entry. -/
def mset {α : Type} [DecidableEq α] (d : α) (k : Nat) (v : α) (m : SMap α) : SMap α :=
  if v = d then mdel k m else mins k v (mdel k m)

/-- The keys of a map are strictly rising from `lo`. -/
def mRising {α : Type} : Nat → SMap α → Bool
  | _, [] => true
  | lo, (k, _) :: t => decide (lo ≤ k) && mRising (k + 1) t

/-- The canonical form: strictly rising keys and no entry equal to the unlisted value. -/
def mWf {α : Type} [DecidableEq α] (d : α) (m : SMap α) : Bool :=
  mRising 0 m && m.all fun e => decide (e.2 ≠ d)

/-- Whether the map has an entry for a key. -/
def mhas {α : Type} (k : Nat) (m : SMap α) : Bool := m.any fun e => e.1 == k

/-- A map of consecutive keys written from a list of values. -/
def msetList {α : Type} [DecidableEq α] (d : α) : Nat → List α → SMap α → SMap α
  | _, [], m => m
  | k, v :: t, m => msetList d (k + 1) t (mset d k v m)

/-- The values of `n` consecutive keys. -/
def mgetList {α : Type} (d : α) (k : Nat) : Nat → SMap α → List α
  | 0, _ => []
  | n + 1, m => mget d k m :: mgetList d (k + 1) n m

end Sys2Proof.Machine
end

