-- ==== Sys2Proof/Machine/RegAddr.lean ====
section
/-! DEFINITION. The byte address of every register, under the spec's own register name (R13, R39 of
01_architecture.md, and the register sections of each block chapter).  A register with an index takes it as an
argument.  Addresses are absolute in the register area. -/
namespace Sys2Proof.Machine.Reg

def CTL_INFO : Nat := 0x40000000
def CTL_RCAUSE : Nat := 0x40000004
def CTL_RCNT : Nat := 0x40000008
def CTL_TSTART : Nat := 0x4000000C
def CTL_TCENS : Nat := 0x40000010
def CTL_RESET : Nat := 0x40000020
def CTL_BRST : Nat := 0x40000024
def CTL_WDKICK : Nat := 0x40000028
def CTL_ISTAT : Nat := 0x4000002C
def CTL_POST (n : Nat) : Nat := 0x40000030 + 0x4 * n
def CTL_WDREM : Nat := 0x40000040
def CTL_CFG : Nat := 0x40001000
def CTL_PERM (n : Nat) : Nat := 0x40001010 + 0x4 * n
def PWR_INFO : Nat := 0x40010000
def PWR_STAT : Nat := 0x40010004
def PWR_INSTAT (n : Nat) : Nat := 0x40010010 + 0x4 * n
def PWR_FSTAT : Nat := 0x40010018
def PWR_FCUR : Nat := 0x4001001C
def PWR_VBAK : Nat := 0x40010020
def PWR_TEMP : Nat := 0x40010024
def PWR_HU : Nat := 0x40010028
def PWR_POWER : Nat := 0x4001002C
def PWR_DIPV : Nat := 0x40010030
def PWR_DIPT : Nat := 0x40010034
def PWR_DIPCNT : Nat := 0x40010038
def PWR_CMD : Nat := 0x40010040
def PWR_FORCE : Nat := 0x40010044
def PWR_CFG : Nat := 0x40011000
def CLK_INFO : Nat := 0x40020000
def CLK_CFG : Nat := 0x40020004
def CLK_STAT : Nat := 0x40020008
def CLK_CMD : Nat := 0x4002000C
def CLK_LCNT : Nat := 0x40020010
def CLK_VCODEV : Nat := 0x40020014
def CLK_ROOTDEV : Nat := 0x40020018
def CLK_DTBL : Nat := 0x40020020
def CLK_DTBH : Nat := 0x40020024
def PLC_INFO : Nat := 0x40030000
def PLC_CFG : Nat := 0x40030004
def PLC_STAT : Nat := 0x40030008
def PLC_PSTAT (n : Nat) : Nat := 0x40030010 + 0x4 * n
def PLC_MIG : Nat := 0x40030020
def PLC_MISCNT : Nat := 0x40030024
def PLC_CSEL : Nat := 0x40031000
def PLC_CCMD : Nat := 0x40031004
def PLC_CSTAT : Nat := 0x40031008
def PLC_CRES : Nat := 0x4003100C
def PLC_CTAGS : Nat := 0x40031010
def PLC_GSEL : Nat := 0x40032000
def PLC_GERR : Nat := 0x40032004
def PLC_GMEM : Nat := 0x40032010
def PLC_GQUOTA : Nat := 0x40032014
def PLC_GSLOT (n : Nat) : Nat := 0x40032020 + 0x4 * n
def PLC_GFE (n : Nat) : Nat := 0x40032030 + 0x4 * n
def PLC_GCOL : Nat := 0x40032048
def PLC_GNBASE (n : Nat) : Nat := 0x40032080 + 0x8 * n
def PLC_GNCNT (n : Nat) : Nat := 0x40032084 + 0x8 * n
def PLC_GPAGE (n : Nat) : Nat := 0x40032400 + 0x4 * n
def PLC_LSEL : Nat := 0x40033000
def PLC_LSTAT : Nat := 0x40033004
def PLC_LOWN : Nat := 0x40033008
def PLC_LPER : Nat := 0x4003300C
def PLC_LTRAP : Nat := 0x40033010
def PLC_LCMD : Nat := 0x40033014
def PLC_LRES : Nat := 0x40033018
def PLC_LCYC : Nat := 0x4003301C
def HWK_INFO : Nat := 0x40040000
def HWK_CFG : Nat := 0x40040004
def HWK_UNIT (n : Nat) : Nat := 0x40040010 + 0x4 * n
def HWK_CAP (n : Nat) : Nat := 0x40040030 + 0x4 * n
def HWK_LOAD (n : Nat) : Nat := 0x40040040 + 0x4 * n
def HWK_WC (c : Nat) : Nat := if c < 512 then 0x40041000 + 4 * c else 0x40042000 + 4 * (c - 512)
def HWK_SUBMIT : Nat := 0x40043000
def HWK_CANCEL : Nat := 0x40043004
def HWK_SRES : Nat := 0x40043008
def HWK_MYCR (n : Nat) : Nat := 0x40043010 + 0x4 * n
def HWK_MYTAGS : Nat := 0x40043020
def HWK_FRZ : Nat := 0x40044000
def HWK_FSTAT : Nat := 0x40044004
def HWK_STAT : Nat := 0x40044008
def HWK_ISEL : Nat := 0x40044010
def HWK_ICR (n : Nat) : Nat := 0x40044020 + 0x4 * n
def HWK_ISTAT : Nat := 0x40044030
def HWK_ENG (n : Nat) : Nat := 0x40045000 + 0x8 * n
def HWK_ENCNT (n : Nat) : Nat := 0x40045004 + 0x8 * n
def FE_INFO : Nat := 0x40100000
def FE_GSTAT : Nat := 0x40100004
def FE_STAT (n : Nat) : Nat := 0x40100C00 + 0x10 * n
def FE_SCAN (n : Nat) : Nat := 0x40100C04 + 0x10 * n
def FE_CONV (n : Nat) : Nat := 0x40100C08 + 0x10 * n
def FE_CHCFG (n : Nat) : Nat := 0x40101000 + 0x1000 * n
def FE_INCFG (n i : Nat) : Nat := 0x40101010 + 0x1000 * n + 0x10 * i
def FE_INSET (n i : Nat) : Nat := 0x40101014 + 0x1000 * n + 0x10 * i
def FE_INCM (n i : Nat) : Nat := 0x40101018 + 0x1000 * n + 0x10 * i
def FE_REFCFG : Nat := 0x40131000
def FE_REFSTAT : Nat := 0x40131004
def FE_REFDEV (n : Nat) : Nat := 0x40131008 + 0x4 * n
def FE_REFEVT : Nat := 0x40131014
def FE_CALSEL : Nat := 0x40132000
def FE_CALREF : Nat := 0x40132004
def FE_CALREFI : Nat := 0x40132008
def FE_CALCMD : Nat := 0x4013200C
def FE_CALSTAT : Nat := 0x40132010
def FE_CALSEQ : Nat := 0x40132014
def FE_PC (p c : Nat) : Nat := 0x40133000 + 0x1000 * (p / 8) + 0x100 * (p % 8) + 4 * c
def FE_PFREQ (p : Nat) : Nat := 0x40133064 + 0x1000 * (p / 8) + 0x100 * (p % 8)
def FE_PKL (p : Nat) : Nat := 0x40133068 + 0x1000 * (p / 8) + 0x100 * (p % 8)
def FE_PBOX (p c : Nat) : Nat := 0x4013306C + 0x1000 * (p / 8) + 0x100 * (p % 8) + 4 * c
def FE_PID (p : Nat) : Nat := 0x40133084 + 0x1000 * (p / 8) + 0x100 * (p % 8)
def COL_INFO : Nat := 0x40180000
def COL_GSTAT : Nat := 0x40180004
def COL_UTIME : Nat := 0x40180008
def COL_FITSEQ : Nat := 0x4018000C
def COL_CCFG (n : Nat) : Nat := 0x40181000 + 0x1000 * n
def COL_ZB (n : Nat) : Nat := 0x40181004 + 0x1000 * n
def COL_SRC (n : Nat) : Nat := 0x40181008 + 0x1000 * n
def COL_TPSRC (n : Nat) : Nat := 0x4018100C + 0x1000 * n
def COL_TIME (n : Nat) : Nat := 0x40181010 + 0x1000 * n
def COL_AGE (n : Nat) : Nat := 0x40181014 + 0x1000 * n
def COL_PAR (n i : Nat) : Nat := 0x40181020 + 0x1000 * n + 0x4 * i
def COL_AE (n i : Nat) : Nat := 0x40181060 + 0x1000 * n + 0x4 * i
def COL_TE (n i : Nat) : Nat := 0x40181084 + 0x1000 * n + 0x4 * i
def COL_PB (n i : Nat) : Nat := 0x40181100 + 0x1000 * n + 0x10 * i
def COL_PBAND (n i : Nat) : Nat := 0x40181104 + 0x1000 * n + 0x10 * i
def COL_PCNT (n i : Nat) : Nat := 0x40181108 + 0x1000 * n + 0x10 * i
def COL_IN (n i : Nat) : Nat := 0x40191000 + 0x1000 * n + 0x4 * i
def COL_SSTAT (n : Nat) : Nat := 0x40191020 + 0x1000 * n
def COL_SCONF (n : Nat) : Nat := 0x40191024 + 0x1000 * n
def COL_SFCAST (n : Nat) : Nat := 0x40191028 + 0x1000 * n
def COL_SSEQ (n : Nat) : Nat := 0x4019102C + 0x1000 * n
def COL_SVERD (n : Nat) : Nat := 0x40191030 + 0x1000 * n
def COL_SIN (n : Nat) : Nat := 0x40191034 + 0x1000 * n
def COL_SEVT (n : Nat) : Nat := 0x40191038 + 0x1000 * n
def COL_FIT (n i j : Nat) : Nat := 0x401A1000 + 0x1000 * n + 0x10 * i + 0x4 * j
def COL_FCTL (n i : Nat) : Nat := 0x401A100C + 0x1000 * n + 0x10 * i
def LAT_CFG (n : Nat) : Nat := 0x40200000 + 0x1000 * n
def LAT_BTA (n : Nat) : Nat := 0x40200004 + 0x1000 * n
def LAT_BTD (n : Nat) : Nat := 0x40200008 + 0x1000 * n
def LAT_CS (n : Nat) : Nat := 0x4020000C + 0x1000 * n
def LAT_AL (n : Nat) : Nat := 0x40200010 + 0x1000 * n
def LAT_AS (n : Nat) : Nat := 0x40200014 + 0x1000 * n
def LAT_FVAL (n i : Nat) : Nat := 0x40200040 + 0x1000 * n + 0x8 * i
def LAT_FMSK (n i : Nat) : Nat := 0x40200044 + 0x1000 * n + 0x8 * i
def LAT_STAT (n : Nat) : Nat := 0x40200100 + 0x1000 * n
def LAT_ERR (n : Nat) : Nat := 0x40200104 + 0x1000 * n
def LAT_TXQ (n : Nat) : Nat := 0x40200108 + 0x1000 * n
def LAT_TXCAN (n : Nat) : Nat := 0x4020010C + 0x1000 * n
def LAT_TXST (n : Nat) : Nat := 0x40200110 + 0x1000 * n
def LAT_TXRES (n : Nat) : Nat := 0x40200114 + 0x1000 * n
def LAT_RXST (n : Nat) : Nat := 0x40200118 + 0x1000 * n
def LAT_RXACK (n : Nat) : Nat := 0x4020011C + 0x1000 * n
def LAT_RXLOST (n : Nat) : Nat := 0x40200120 + 0x1000 * n
def LAT_CMD (n : Nat) : Nat := 0x40200124 + 0x1000 * n
def LAT_SWSTAT (n : Nat) : Nat := 0x40200128 + 0x1000 * n
def LAT_SWTAG (n : Nat) : Nat := 0x4020012C + 0x1000 * n
def LAT_CENS (n : Nat) : Nat := 0x40200130 + 0x1000 * n
def LAT_STRAY (n : Nat) : Nat := 0x40200134 + 0x1000 * n
def LAT_INFO : Nat := 0x40220000
def LAT_GSTAT : Nat := 0x40220004
def LAT_BOFF : Nat := 0x40220008
def LAT_HIST : Nat := 0x40220010
def LAT_TX (n i : Nat) : Nat := 0x40240000 + 0x1000 * n + 0x4 * i
def LAT_RX (n i : Nat) : Nat := 0x40240500 + 0x1000 * n + 0x4 * i
def LAT_SWL (n i : Nat) : Nat := 0x40260000 + 0x1000 * n + 0x4 * i
def LAT_JT (n i : Nat) : Nat := 0x40260800 + 0x1000 * n + 0x4 * i
def CAN_CFG (n : Nat) : Nat := 0x40300000 + 0x1000 * n
def CAN_NBT (n : Nat) : Nat := 0x40300004 + 0x1000 * n
def CAN_DBT (n : Nat) : Nat := 0x40300008 + 0x1000 * n
def CAN_FID (n i : Nat) : Nat := 0x40300040 + 0x1000 * n + 0x8 * i
def CAN_FMSK (n i : Nat) : Nat := 0x40300044 + 0x1000 * n + 0x8 * i
def CAN_STAT (n : Nat) : Nat := 0x40300100 + 0x1000 * n
def CAN_ERR (n : Nat) : Nat := 0x40300104 + 0x1000 * n
def CAN_TXCMD (n : Nat) : Nat := 0x40300108 + 0x1000 * n
def CAN_TXST (n : Nat) : Nat := 0x4030010C + 0x1000 * n
def CAN_RXST (n : Nat) : Nat := 0x40300110 + 0x1000 * n
def CAN_RXREL (n : Nat) : Nat := 0x40300114 + 0x1000 * n
def CAN_CMD (n : Nat) : Nat := 0x40300118 + 0x1000 * n
def CAN_TXB (n i j : Nat) : Nat := 0x40300200 + 0x1000 * n + 0x50 * i + 0x4 * j
def CAN_RXB (n i : Nat) : Nat := 0x40300400 + 0x1000 * n + 0x4 * i
def CAN_INFO : Nat := 0x40310000
def SV_INFO : Nat := 0x40400000
def SV_BCFG : Nat := 0x40400004
def SV_BSTAT : Nat := 0x40400008
def SV_BHCNT : Nat := 0x4040000C
def SV_BKSTAT (n : Nat) : Nat := 0x40400010 + 0x4 * n
def SV_GCMD : Nat := 0x40400020
def SV_PULL : Nat := 0x40400024
def SV_CFG (n : Nat) : Nat := 0x40401000 + 0x1000 * n
def SV_CUR (n : Nat) : Nat := 0x40401004 + 0x1000 * n
def SV_TIME (n : Nat) : Nat := 0x40401008 + 0x1000 * n
def SV_THM (n : Nat) : Nat := 0x4040100C + 0x1000 * n
def SV_THM2 (n : Nat) : Nat := 0x40401010 + 0x1000 * n
def SV_STAT (n : Nat) : Nat := 0x40401100 + 0x1000 * n
def SV_MEAS (n : Nat) : Nat := 0x40401104 + 0x1000 * n
def SV_TEMP (n : Nat) : Nat := 0x40401108 + 0x1000 * n
def SV_PCNT (n : Nat) : Nat := 0x4040110C + 0x1000 * n
def SV_CMD (n : Nat) : Nat := 0x40401110 + 0x1000 * n
def FAN_INFO : Nat := 0x40480000
def FAN_GSTAT : Nat := 0x40480004
def FAN_CFG (n : Nat) : Nat := 0x40481000 + 0x1000 * n
def FAN_PWM (n : Nat) : Nat := 0x40481004 + 0x1000 * n
def FAN_KICK (n : Nat) : Nat := 0x40481008 + 0x1000 * n
def FAN_MON (n : Nat) : Nat := 0x4048100C + 0x1000 * n
def FAN_FB (n : Nat) : Nat := 0x40481010 + 0x1000 * n
def FAN_TAB (n i : Nat) : Nat := 0x40481020 + 0x1000 * n + 0x4 * i
def FAN_STAT (n : Nat) : Nat := 0x40481100 + 0x1000 * n
def FAN_SPD (n : Nat) : Nat := 0x40481104 + 0x1000 * n
def FAN_TS (n : Nat) : Nat := 0x40481108 + 0x1000 * n
def FAN_OUT (n : Nat) : Nat := 0x4048110C + 0x1000 * n
def FAN_CMD (n : Nat) : Nat := 0x40481110 + 0x1000 * n
def DIO_INFO : Nat := 0x40500000
def DIO_KCFG : Nat := 0x40500004
def DIO_KSTAT : Nat := 0x40500008
def DIO_KCNT : Nat := 0x4050000C
def DIO_FKCNT : Nat := 0x40500010
def DIO_FIELD : Nat := 0x40500014
def DIO_IN (n : Nat) : Nat := 0x40500020 + 0x4 * n
def DIO_INSEQ : Nat := 0x40500028
def DIO_INDTB : Nat := 0x4050002C
def DIO_CFG (n : Nat) : Nat := 0x40501000 + 0x1000 * n
def DIO_TIM (n : Nat) : Nat := 0x40501004 + 0x1000 * n
def DIO_STAT (n : Nat) : Nat := 0x40501100 + 0x1000 * n
def DIO_CNT (n : Nat) : Nat := 0x40501104 + 0x1000 * n
def DIO_FREQ (n : Nat) : Nat := 0x40501108 + 0x1000 * n
def DIO_CMD (n : Nat) : Nat := 0x40501110 + 0x1000 * n
def REC_INFO : Nat := 0x40600000
def REC_STAT : Nat := 0x40600004
def REC_SEQ : Nat := 0x40600008
def REC_HOURS : Nat := 0x4060000C
def REC_PCC : Nat := 0x40600010
def REC_DROP : Nat := 0x40600014
def REC_SUPP : Nat := 0x40600018
def REC_WEAR : Nat := 0x4060001C
def REC_CMD : Nat := 0x40600020
def REC_FLUSHT : Nat := 0x40600024
def REC_RL (n : Nat) : Nat := 0x40601000 + 0x4 * n
def REC_CSEQ : Nat := 0x40602000
def REC_CURSOR : Nat := 0x40602004
def REC_WSTAT : Nat := 0x40602008
def REC_WFIRST : Nat := 0x4060200C
def REC_WNEXT : Nat := 0x40602010
def REC_WIN (n : Nat) : Nat := 0x40603000 + 0x4 * n
def REC_SSEQ (n : Nat) : Nat := 0x40604000 + 0x8 * n
def REC_SSTAT (n : Nat) : Nat := 0x40604004 + 0x8 * n
def RTC_FRAC : Nat := 0x40680000
def RTC_SECL : Nat := 0x40680004
def RTC_SECH : Nat := 0x40680008
def RTC_STAT : Nat := 0x4068000C
def RTC_SWL : Nat := 0x40680010
def RTC_SWH : Nat := 0x40680014
def RTC_SWCNT : Nat := 0x40680018
def RTC_PPSH : Nat := 0x40680024
def RTC_PPSL : Nat := 0x40680020
def RTC_SETL : Nat := 0x40680040
def RTC_SETH : Nat := 0x40680044
def RTC_SHIFT : Nat := 0x40680048
def RTC_TRIM : Nat := 0x4068004C
def RTC_CTL : Nat := 0x40680050
def RTC_CMD : Nat := 0x40680060
def RTC_BK (n : Nat) : Nat := 0x40681000 + 0x4 * n
def RTC_BKPERR (n : Nat) : Nat := 0x40681080 + 0x4 * n
def HST_INFO : Nat := 0x40700000
def HST_LSTAT (n : Nat) : Nat := 0x40700010 + 0x4 * n
def HST_LCNT (n : Nat) : Nat := 0x40700018 + 0x4 * n
def HST_PTPSTAT : Nat := 0x40700020
def HST_OFFSET : Nat := 0x40700024
def HST_RATE : Nat := 0x40700028
def HST_GMID (n : Nat) : Nat := 0x4070002C + 0x4 * n
def HST_HAPCNT : Nat := 0x40700034
def HST_LCFG (n : Nat) : Nat := 0x40701000 + 0x10 * n
def HST_IP (n : Nat) : Nat := 0x40701004 + 0x10 * n
def HST_MASK (n : Nat) : Nat := 0x40701008 + 0x10 * n
def HST_GW (n : Nat) : Nat := 0x4070100C + 0x10 * n
def HST_UDP : Nat := 0x40701020
def HST_HAPCFG : Nat := 0x40701024
def HST_PTPCFG : Nat := 0x40701028
def HST_FKEY : Nat := 0x40702000
def HST_FKCNT : Nat := 0x40702004
def HST_ALARM : Nat := 0x40702008
def HST_LED : Nat := 0x4070200C
def HST_KEY (n i : Nat) : Nat := 0x40703000 + 0x20 * n + 0x4 * i
def HST_CRED (n : Nat) : Nat := 0x40703200 + 0x4 * n
def TAG_INFO : Nat := 0x40780000
def TAG_STAT : Nat := 0x40780004
def TAG_FCNT : Nat := 0x40780008
def TAG_WBUF (n : Nat) : Nat := 0x40780010 + 0x4 * n
def TAG_WCMD : Nat := 0x40780020
def TAG_WRES : Nat := 0x40780024
def TAG_WIN (n : Nat) : Nat := 0x40781000 + 0x4 * n
def TRC_CFG (n : Nat) : Nat := 0x40800000 + 0x1000 * n
def TRC_CTL (n : Nat) : Nat := 0x40800004 + 0x1000 * n
def TRC_STAT (n : Nat) : Nat := 0x40800008 + 0x1000 * n
def TRC_LOST (n : Nat) : Nat := 0x4080000C + 0x1000 * n
def TRC_TIDX (n : Nat) : Nat := 0x40800010 + 0x1000 * n
def TRC_SLOOP (n i : Nat) : Nat := 0x40800100 + 0x1000 * n + 0x8 * i
def TRC_SMASK (n i : Nat) : Nat := 0x40800104 + 0x1000 * n + 0x8 * i
def TRC_INFO : Nat := 0x40810000
def TRC_GSTAT : Nat := 0x40810004

end Sys2Proof.Machine.Reg
end

