-- ==== Sys2Proof/Machine/RegTable.lean ====
section
/-! DEFINITION. The register table: for every register of the spec its address pattern, the bits of each access code
(R16 of 00_scope.md) and its reset value (R20), as the register sections of the block chapters give them.  A field
marked NV carries here the value its chapter gives where no stored set holds it (R422 of 12_recorder_rtc.md). -/
namespace Sys2Proof.Machine

/-- One line of a register section: the registers at `base + i * s1 + j * s2` for `i < n1`, `j < n2`, with the bit
masks of the access codes S, RW and W1C, the bits a read returns (all but WO and reserved ones), the staged bits kept
in a stored set (NV) and the reset value. -/
structure RegRow where
  base : Nat
  n1 : Nat
  s1 : Nat
  n2 : Nat
  s2 : Nat
  staged : Nat
  rw : Nat
  w1c : Nat
  readable : Nat
  nv : Nat
  reset : Nat
  deriving DecidableEq, Repr

/-- The registers of the CTL block (15_clocks_reset_startup.md). -/
def regsCTL : List RegRow :=
  [
    /- CTL_INFO -/ ⟨0x40000000, 1, 0x1000, 1, 0x4, 0x0, 0x0, 0x0, 0xFFFF, 0x0, 0x40A⟩,
    /- CTL_RCAUSE -/ ⟨0x40000004, 1, 0x1000, 1, 0x4, 0x0, 0x0, 0x0, 0xFF0003FF, 0x0, 0x0⟩,
    /- CTL_RCNT -/ ⟨0x40000008, 1, 0x1000, 1, 0x4, 0x0, 0x0, 0x0, 0xFFFFFFFF, 0x0, 0x0⟩,
    /- CTL_TSTART -/ ⟨0x4000000C, 1, 0x1000, 1, 0x4, 0x0, 0x0, 0x0, 0xFFFFFFFF, 0x0, 0x0⟩,
    /- CTL_TCENS -/ ⟨0x40000010, 1, 0x1000, 1, 0x4, 0x0, 0x0, 0x0, 0xFFFF, 0x0, 0x0⟩,
    /- CTL_RESET -/ ⟨0x40000020, 1, 0x1000, 1, 0x4, 0x0, 0x0, 0x0, 0x0, 0x0, 0x0⟩,
    /- CTL_BRST -/ ⟨0x40000024, 1, 0x1000, 1, 0x4, 0x0, 0x0, 0x0, 0x0, 0x0, 0x0⟩,
    /- CTL_WDKICK -/ ⟨0x40000028, 1, 0x1000, 1, 0x4, 0x0, 0x0, 0x0, 0x0, 0x0, 0x0⟩,
    /- CTL_ISTAT -/ ⟨0x4000002C, 1, 0x1000, 1, 0x4, 0x0, 0x0, 0xE, 0xFF00000E, 0x0, 0x0⟩,
    /- CTL_POST -/ ⟨0x40000030, 1, 0x4, 1, 0x4, 0x0, 0x0, 0x0, 0xFFFFFFFF, 0x0, 0xFFFFFFFF⟩,
    /- CTL_POST -/ ⟨0x40000034, 1, 0x4, 1, 0x4, 0x0, 0x0, 0x0, 0xFFFFFFFF, 0x0, 0xFFFFFFFF⟩,
    /- CTL_POST -/ ⟨0x40000038, 1, 0x4, 1, 0x4, 0x0, 0x0, 0x0, 0xFFFFFFFF, 0x0, 0xFFFFFFFF⟩,
    /- CTL_POST -/ ⟨0x4000003C, 1, 0x4, 1, 0x4, 0x0, 0x0, 0x0, 0xFFFFFFFF, 0x0, 0xFF⟩,
    /- CTL_WDREM -/ ⟨0x40000040, 1, 0x1000, 1, 0x4, 0x0, 0x0, 0x0, 0xFFFFFFFF, 0x0, 0xFFFFFFFF⟩,
    /- CTL_CFG -/ ⟨0x40001000, 1, 0x1000, 1, 0x4, 0xFFFF0001, 0x0, 0x0, 0xFFFF0001, 0xFFFF0001, 0x1⟩,
    /- CTL_PERM -/ ⟨0x40001010, 4, 0x4, 1, 0x4, 0x8000007F, 0x0, 0x0, 0x8000007F, 0x8000007F, 0x0⟩]

/-- The registers of the PWR block (14_power.md). -/
def regsPWR : List RegRow :=
  [
    /- PWR_INFO -/ ⟨0x40010000, 1, 0x1000, 1, 0x4, 0x0, 0x0, 0x0, 0xFFFFFFFF, 0x0, 0x5243728⟩,
    /- PWR_STAT -/ ⟨0x40010004, 1, 0x1000, 1, 0x4, 0x0, 0x0, 0xFC, 0xFFFFC0FC, 0x0, 0x0⟩,
    /- PWR_INSTAT -/ ⟨0x40010010, 2, 0x4, 1, 0x4, 0x0, 0x0, 0x0, 0xFFFF000F, 0x0, 0x0⟩,
    /- PWR_FSTAT -/ ⟨0x40010018, 1, 0x1000, 1, 0x4, 0x0, 0x0, 0xF0, 0xFFFFFFF0, 0x0, 0x0⟩,
    /- PWR_FCUR -/ ⟨0x4001001C, 1, 0x1000, 1, 0x4, 0x0, 0x0, 0x0, 0xFFFF, 0x0, 0x0⟩,
    /- PWR_VBAK -/ ⟨0x40010020, 1, 0x1000, 1, 0x4, 0x0, 0x0, 0x0, 0xFFFF000F, 0x0, 0x0⟩,
    /- PWR_TEMP -/ ⟨0x40010024, 1, 0x1000, 1, 0x4, 0x0, 0x0, 0x0, 0xFFFFFFFF, 0x0, 0x0⟩,
    /- PWR_HU -/ ⟨0x40010028, 1, 0x1000, 1, 0x4, 0x0, 0x0, 0x0, 0xFFFFFFFF, 0x0, 0x0⟩,
    /- PWR_POWER -/ ⟨0x4001002C, 1, 0x1000, 1, 0x4, 0x0, 0x0, 0x0, 0xFFFFFFFF, 0x0, 0x0⟩,
    /- PWR_DIPV -/ ⟨0x40010030, 1, 0x1000, 1, 0x4, 0x0, 0x0, 0x0, 0xFFFFFFFF, 0x0, 0x0⟩,
    /- PWR_DIPT -/ ⟨0x40010034, 1, 0x1000, 1, 0x4, 0x0, 0x0, 0x0, 0xFFFF0007, 0x0, 0x0⟩,
    /- PWR_DIPCNT -/ ⟨0x40010038, 1, 0x1000, 1, 0x4, 0x0, 0x0, 0x0, 0xFFFFFFFF, 0x0, 0x0⟩,
    /- PWR_CMD -/ ⟨0x40010040, 1, 0x1000, 1, 0x4, 0x0, 0x0, 0x0, 0x0, 0x0, 0x0⟩,
    /- PWR_FORCE -/ ⟨0x40010044, 1, 0x1000, 1, 0x4, 0x0, 0x7, 0x0, 0x7, 0x0, 0x0⟩,
    /- PWR_CFG -/ ⟨0x40011000, 1, 0x1000, 1, 0x4, 0xF0000000, 0x0, 0x0, 0xF0000000, 0xF0000000, 0x0⟩]

/-- The registers of the CLK block (15_clocks_reset_startup.md). -/
def regsCLK : List RegRow :=
  [
    /- CLK_INFO -/ ⟨0x40020000, 1, 0x1000, 1, 0x4, 0x0, 0x0, 0x0, 0xFFFFFF00, 0x0, 0x17701900⟩,
    /- CLK_CFG -/ ⟨0x40020004, 1, 0x1000, 1, 0x4, 0x3, 0x0, 0x0, 0x3, 0x0, 0x0⟩,
    /- CLK_STAT -/ ⟨0x40020008, 1, 0x1000, 1, 0x4, 0x0, 0x0, 0xF0, 0xFC0000F0, 0x0, 0xC000000⟩,
    /- CLK_CMD -/ ⟨0x4002000C, 1, 0x1000, 1, 0x4, 0x0, 0x0, 0x0, 0x0, 0x0, 0x0⟩,
    /- CLK_LCNT -/ ⟨0x40020010, 1, 0x1000, 1, 0x4, 0x0, 0x0, 0x0, 0xFFFFFFFF, 0x0, 0x0⟩,
    /- CLK_VCODEV -/ ⟨0x40020014, 1, 0x1000, 1, 0x4, 0x0, 0x0, 0x0, 0xFFFFFFFF, 0x0, 0x0⟩,
    /- CLK_ROOTDEV -/ ⟨0x40020018, 1, 0x1000, 1, 0x4, 0x0, 0x0, 0x0, 0xFFFFFFFF, 0x0, 0x0⟩,
    /- CLK_DTBL -/ ⟨0x40020020, 1, 0x1000, 1, 0x4, 0x0, 0x0, 0x0, 0xFFFFFFFF, 0x0, 0x0⟩,
    /- CLK_DTBH -/ ⟨0x40020024, 1, 0x1000, 1, 0x4, 0x0, 0x0, 0x0, 0xFFFFFFFF, 0x0, 0x0⟩]

/-- The registers of the PLC block (04_placement_cells.md). -/
def regsPLC : List RegRow :=
  [
    /- PLC_INFO -/ ⟨0x40030000, 1, 0x1000, 1, 0x4, 0x0, 0x0, 0x0, 0xFFFF3FFF, 0x0, 0x20042000⟩,
    /- PLC_CFG -/ ⟨0x40030004, 1, 0x1000, 1, 0x4, 0xFF03, 0x0, 0x0, 0xFF03, 0x0, 0x800⟩,
    /- PLC_STAT -/ ⟨0x40030008, 1, 0x1000, 1, 0x4, 0x0, 0x0, 0x3E, 0x3F0F3F3F, 0x0, 0x0⟩,
    /- PLC_PSTAT -/ ⟨0x40030010, 4, 0x4, 1, 0x4, 0x0, 0x0, 0x0, 0xFFFFFFFF, 0x0, 0x66666666⟩,
    /- PLC_MIG -/ ⟨0x40030020, 1, 0x1000, 1, 0x4, 0x0, 0x0, 0x0, 0xFFC0FFFF, 0x0, 0x0⟩,
    /- PLC_MISCNT -/ ⟨0x40030024, 1, 0x1000, 1, 0x4, 0x0, 0x0, 0x0, 0xFFFF, 0x0, 0x0⟩,
    /- PLC_CSEL -/ ⟨0x40031000, 1, 0x1000, 1, 0x4, 0x0, 0x3FF, 0x0, 0x3FF, 0x0, 0x0⟩,
    /- PLC_CCMD -/ ⟨0x40031004, 1, 0x1000, 1, 0x4, 0x0, 0x0, 0x0, 0x0, 0x0, 0x0⟩,
    /- PLC_CSTAT -/ ⟨0x40031008, 1, 0x1000, 1, 0x4, 0x0, 0x0, 0x0, 0xFFFF001F, 0x0, 0x0⟩,
    /- PLC_CRES -/ ⟨0x4003100C, 1, 0x1000, 1, 0x4, 0x0, 0x0, 0x0, 0xF, 0x0, 0x0⟩,
    /- PLC_CTAGS -/ ⟨0x40031010, 1, 0x1000, 1, 0x4, 0x0, 0x0, 0x0, 0x1FFFF, 0x0, 0x0⟩,
    /- PLC_GSEL -/ ⟨0x40032000, 1, 0x1000, 1, 0x4, 0x0, 0x3FF, 0x0, 0x3FF, 0x0, 0x0⟩,
    /- PLC_GERR -/ ⟨0x40032004, 1, 0x1000, 1, 0x4, 0x0, 0x0, 0x1, 0x1, 0x0, 0x0⟩,
    /- PLC_GMEM -/ ⟨0x40032010, 1, 0x1000, 1, 0x4, 0x1FFF1FFF, 0x0, 0x0, 0x1FFF1FFF, 0x1FFF1FFF, 0x0⟩,
    /- PLC_GQUOTA -/ ⟨0x40032014, 1, 0x1000, 1, 0x4, 0xFFF3FFF, 0x0, 0x0, 0xFFF3FFF, 0xFFF3FFF, 0x0⟩,
    /- PLC_GSLOT -/ ⟨0x40032020, 4, 0x4, 1, 0x4, 0xFFFFFFFF, 0x0, 0x0, 0xFFFFFFFF, 0xFFFFFFFF, 0x0⟩,
    /- PLC_GFE -/ ⟨0x40032030, 6, 0x4, 1, 0x4, 0xFFFFFFFF, 0x0, 0x0, 0xFFFFFFFF, 0xFFFFFFFF, 0x0⟩,
    /- PLC_GCOL -/ ⟨0x40032048, 1, 0x1000, 1, 0x4, 0xFFFF, 0x0, 0x0, 0xFFFF, 0xFFFF, 0x0⟩,
    /- PLC_GNBASE -/ ⟨0x40032080, 16, 0x8, 1, 0x4, 0x800FFFFF, 0x0, 0x0, 0x800FFFFF, 0x800FFFFF, 0x0⟩,
    /- PLC_GNCNT -/ ⟨0x40032084, 16, 0x8, 1, 0x4, 0x1FFFFF, 0x0, 0x0, 0x1FFFFF, 0x1FFFFF, 0x0⟩,
    /- PLC_GPAGE -/ ⟨0x40032400, 128, 0x4, 1, 0x4, 0xFFFFFFFF, 0x0, 0x0, 0xFFFFFFFF, 0xFFFFFFFF, 0x0⟩,
    /- PLC_LSEL -/ ⟨0x40033000, 1, 0x1000, 1, 0x4, 0x0, 0x1FFF, 0x0, 0x1FFF, 0x0, 0x0⟩,
    /- PLC_LSTAT -/ ⟨0x40033004, 1, 0x1000, 1, 0x4, 0x0, 0x0, 0x0, 0x7FF01FF, 0x0, 0x0⟩,
    /- PLC_LOWN -/ ⟨0x40033008, 1, 0x1000, 1, 0x4, 0x0, 0x0, 0x0, 0x1FFF03FF, 0x0, 0x0⟩,
    /- PLC_LPER -/ ⟨0x4003300C, 1, 0x1000, 1, 0x4, 0x0, 0x0, 0x0, 0xFFFFFFFF, 0x0, 0x0⟩,
    /- PLC_LTRAP -/ ⟨0x40033010, 1, 0x1000, 1, 0x4, 0x0, 0x0, 0x0, 0xFFFFFFFF, 0x0, 0x0⟩,
    /- PLC_LCMD -/ ⟨0x40033014, 1, 0x1000, 1, 0x4, 0x0, 0x0, 0x0, 0x0, 0x0, 0x0⟩,
    /- PLC_LRES -/ ⟨0x40033018, 1, 0x1000, 1, 0x4, 0x0, 0x0, 0x0, 0xF, 0x0, 0x0⟩,
    /- PLC_LCYC -/ ⟨0x4003301C, 1, 0x1000, 1, 0x4, 0x0, 0x0, 0x0, 0xFFFFFFFF, 0x0, 0x0⟩]

/-- The registers of the HWK block (05_arbiter_engines.md). -/
def regsHWK : List RegRow :=
  [
    /- HWK_INFO -/ ⟨0x40040000, 1, 0x1000, 1, 0x4, 0x0, 0x0, 0x0, 0xFFF1FFFF, 0x0, 0x8410000⟩,
    /- HWK_CFG -/ ⟨0x40040004, 1, 0x1000, 1, 0x4, 0x1FFF03FF, 0x0, 0x0, 0x1FFF03FF, 0x0, 0x40000A⟩,
    /- HWK_UNIT -/ ⟨0x40040010, 1, 0x4, 1, 0x4, 0xFFFFF, 0x0, 0x0, 0xFFFFF, 0x0, 0x80058⟩,
    /- HWK_UNIT -/ ⟨0x40040014, 1, 0x4, 1, 0x4, 0xFFFFF, 0x0, 0x0, 0xFFFFF, 0x0, 0x80001⟩,
    /- HWK_UNIT -/ ⟨0x40040018, 1, 0x4, 1, 0x4, 0xFFFFF, 0x0, 0x0, 0xFFFFF, 0x0, 0x80005⟩,
    /- HWK_UNIT -/ ⟨0x4004001C, 1, 0x4, 1, 0x4, 0xFFFFF, 0x0, 0x0, 0xFFFFF, 0x0, 0x8000B⟩,
    /- HWK_CAP -/ ⟨0x40040030, 1, 0x4, 1, 0x4, 0x0, 0x0, 0x0, 0xFFFFFFFF, 0x0, 0x36EE80⟩,
    /- HWK_CAP -/ ⟨0x40040034, 1, 0x4, 1, 0x4, 0x0, 0x0, 0x0, 0xFFFFFFFF, 0x0, 0xAFC8⟩,
    /- HWK_CAP -/ ⟨0x40040038, 1, 0x4, 1, 0x4, 0x0, 0x0, 0x0, 0xFFFFFFFF, 0x0, 0x36EE8⟩,
    /- HWK_CAP -/ ⟨0x4004003C, 1, 0x4, 1, 0x4, 0x0, 0x0, 0x0, 0xFFFFFFFF, 0x0, 0x6DDD0⟩,
    /- HWK_LOAD -/ ⟨0x40040040, 4, 0x4, 1, 0x4, 0x0, 0x0, 0x0, 0xFFFFFFFF, 0x0, 0x0⟩,
    /- HWK_WC -/ ⟨0x40041000, 2, 0x1000, 512, 0x4, 0x3FF, 0x0, 0x0, 0x3FF, 0x3FF, 0x0⟩,
    /- HWK_SUBMIT -/ ⟨0x40043000, 1, 0x1000, 1, 0x4, 0x0, 0x0, 0x0, 0x0, 0x0, 0x0⟩,
    /- HWK_CANCEL -/ ⟨0x40043004, 1, 0x1000, 1, 0x4, 0x0, 0x0, 0x0, 0x0, 0x0, 0x0⟩,
    /- HWK_SRES -/ ⟨0x40043008, 1, 0x1000, 1, 0x4, 0x0, 0x0, 0x0, 0xFFFFF, 0x0, 0x0⟩,
    /- HWK_MYCR -/ ⟨0x40043010, 4, 0x4, 1, 0x4, 0x0, 0x0, 0x0, 0xFFFFFFFF, 0x0, 0x0⟩,
    /- HWK_MYTAGS -/ ⟨0x40043020, 1, 0x1000, 1, 0x4, 0x0, 0x0, 0x0, 0x1FFF, 0x0, 0x0⟩,
    /- HWK_FRZ -/ ⟨0x40044000, 1, 0x1000, 1, 0x4, 0x0, 0x7FF, 0x0, 0x7FF, 0x0, 0x0⟩,
    /- HWK_FSTAT -/ ⟨0x40044004, 1, 0x1000, 1, 0x4, 0x0, 0x0, 0x0, 0x7FF07FF, 0x0, 0x0⟩,
    /- HWK_STAT -/ ⟨0x40044008, 1, 0x1000, 1, 0x4, 0x0, 0x0, 0xC0000000, 0xC001FFFF, 0x0, 0x0⟩,
    /- HWK_ISEL -/ ⟨0x40044010, 1, 0x1000, 1, 0x4, 0x0, 0x3FF, 0x0, 0x3FF, 0x0, 0x0⟩,
    /- HWK_ICR -/ ⟨0x40044020, 4, 0x4, 1, 0x4, 0x0, 0x0, 0x0, 0xFFFFFFFF, 0x0, 0x0⟩,
    /- HWK_ISTAT -/ ⟨0x40044030, 1, 0x1000, 1, 0x4, 0x0, 0x0, 0x0, 0xFFFF9FFF, 0x0, 0x0⟩,
    /- HWK_ENG -/ ⟨0x40045000, 11, 0x8, 1, 0x4, 0x0, 0x0, 0x0, 0xF3FFFFFF, 0x0, 0x0⟩,
    /- HWK_ENCNT -/ ⟨0x40045004, 11, 0x8, 1, 0x4, 0x0, 0x0, 0x0, 0xFFFFFFFF, 0x0, 0x0⟩]

/-- The registers of the FE block (06_front_end.md). -/
def regsFE : List RegRow :=
  [
    /- FE_INFO -/ ⟨0x40100000, 1, 0x1000, 1, 0x4, 0x0, 0x0, 0x0, 0xFFFFFFFF, 0x0, 0x30C0400F⟩,
    /- FE_GSTAT -/ ⟨0x40100004, 1, 0x1000, 1, 0x4, 0x0, 0x0, 0x0, 0xC0000003, 0x0, 0x0⟩,
    /- FE_STAT -/ ⟨0x40100C00, 48, 0x10, 1, 0x4, 0x0, 0x0, 0xFF00, 0x8000FF0F, 0x0, 0x0⟩,
    /- FE_SCAN -/ ⟨0x40100C04, 48, 0x10, 1, 0x4, 0x0, 0x0, 0x0, 0xFFFFFFFF, 0x0, 0x0⟩,
    /- FE_CONV -/ ⟨0x40100C08, 48, 0x10, 1, 0x4, 0x0, 0x0, 0x0, 0xFFFFFFFF, 0x0, 0x0⟩,
    /- FE_CHCFG -/ ⟨0x40101000, 48, 0x1000, 1, 0x4, 0xFF, 0x0, 0x0, 0xFF, 0xFF, 0x0⟩,
    /- FE_INCFG -/ ⟨0x40101010, 48, 0x1000, 4, 0x10, 0xFFFFFF00, 0x0, 0x0, 0xFFFFFF00, 0xFFFFFF00, 0x0⟩,
    /- FE_INSET -/ ⟨0x40101014, 48, 0x1000, 4, 0x10, 0x7FFFFFFF, 0x0, 0x0, 0x7FFFFFFF, 0x7FFFFFFF, 0x0⟩,
    /- FE_INCM -/ ⟨0x40101018, 48, 0x1000, 4, 0x10, 0xFFFF, 0x0, 0x0, 0xFFFF, 0xFFFF, 0x0⟩,
    /- FE_REFCFG -/ ⟨0x40131000, 1, 0x1000, 1, 0x4, 0x7, 0x0, 0x0, 0x7, 0x7, 0x0⟩,
    /- FE_REFSTAT -/ ⟨0x40131004, 1, 0x1000, 1, 0x4, 0x0, 0x0, 0x0, 0x3F00FF, 0x0, 0x0⟩,
    /- FE_REFDEV -/ ⟨0x40131008, 3, 0x4, 1, 0x4, 0x0, 0x0, 0x0, 0xFFFFFFFF, 0x0, 0x0⟩,
    /- FE_REFEVT -/ ⟨0x40131014, 1, 0x1000, 1, 0x4, 0x0, 0x0, 0xF, 0xF, 0x0, 0x0⟩,
    /- FE_CALSEL -/ ⟨0x40132000, 1, 0x1000, 1, 0x4, 0x0, 0x800000FF, 0x0, 0x800000FF, 0x0, 0x0⟩,
    /- FE_CALREF -/ ⟨0x40132004, 1, 0x1000, 1, 0x4, 0x0, 0xFFFFFFFF, 0x0, 0xFFFFFFFF, 0x0, 0x0⟩,
    /- FE_CALREFI -/ ⟨0x40132008, 1, 0x1000, 1, 0x4, 0x0, 0xFFFFFFFF, 0x0, 0xFFFFFFFF, 0x0, 0x0⟩,
    /- FE_CALCMD -/ ⟨0x4013200C, 1, 0x1000, 1, 0x4, 0x0, 0x0, 0x0, 0x0, 0x0, 0x0⟩,
    /- FE_CALSTAT -/ ⟨0x40132010, 1, 0x1000, 1, 0x4, 0x0, 0x0, 0x0, 0xFF000003, 0x0, 0x0⟩,
    /- FE_CALSEQ -/ ⟨0x40132014, 1, 0x1000, 1, 0x4, 0x0, 0x0, 0x0, 0xFFFFFFFF, 0x0, 0x0⟩,
    /- FE_PC -/ ⟨0x40133000, 8, 0x100, 25, 0x4, 0xFFFFFFFF, 0x0, 0x0, 0xFFFFFFFF, 0xFFFFFFFF, 0x0⟩,
    /- FE_PC -/ ⟨0x40134000, 8, 0x100, 25, 0x4, 0xFFFFFFFF, 0x0, 0x0, 0xFFFFFFFF, 0xFFFFFFFF, 0x0⟩,
    /- FE_PC -/ ⟨0x40135000, 8, 0x100, 25, 0x4, 0xFFFFFFFF, 0x0, 0x0, 0xFFFFFFFF, 0xFFFFFFFF, 0x0⟩,
    /- FE_PC -/ ⟨0x40136000, 8, 0x100, 25, 0x4, 0xFFFFFFFF, 0x0, 0x0, 0xFFFFFFFF, 0xFFFFFFFF, 0x0⟩,
    /- FE_PC -/ ⟨0x40137000, 8, 0x100, 25, 0x4, 0xFFFFFFFF, 0x0, 0x0, 0xFFFFFFFF, 0xFFFFFFFF, 0x0⟩,
    /- FE_PC -/ ⟨0x40138000, 8, 0x100, 25, 0x4, 0xFFFFFFFF, 0x0, 0x0, 0xFFFFFFFF, 0xFFFFFFFF, 0x0⟩,
    /- FE_PC -/ ⟨0x40139000, 8, 0x100, 25, 0x4, 0xFFFFFFFF, 0x0, 0x0, 0xFFFFFFFF, 0xFFFFFFFF, 0x0⟩,
    /- FE_PC -/ ⟨0x4013A000, 8, 0x100, 25, 0x4, 0xFFFFFFFF, 0x0, 0x0, 0xFFFFFFFF, 0xFFFFFFFF, 0x0⟩,
    /- FE_PFREQ -/ ⟨0x40133064, 8, 0x100, 1, 0x4, 0x800000FF, 0x0, 0x0, 0x800000FF, 0x800000FF, 0x0⟩,
    /- FE_PFREQ -/ ⟨0x40134064, 8, 0x100, 1, 0x4, 0x800000FF, 0x0, 0x0, 0x800000FF, 0x800000FF, 0x0⟩,
    /- FE_PFREQ -/ ⟨0x40135064, 8, 0x100, 1, 0x4, 0x800000FF, 0x0, 0x0, 0x800000FF, 0x800000FF, 0x0⟩] ++
  [
    /- FE_PFREQ -/ ⟨0x40136064, 8, 0x100, 1, 0x4, 0x800000FF, 0x0, 0x0, 0x800000FF, 0x800000FF, 0x0⟩,
    /- FE_PFREQ -/ ⟨0x40137064, 8, 0x100, 1, 0x4, 0x800000FF, 0x0, 0x0, 0x800000FF, 0x800000FF, 0x0⟩,
    /- FE_PFREQ -/ ⟨0x40138064, 8, 0x100, 1, 0x4, 0x800000FF, 0x0, 0x0, 0x800000FF, 0x800000FF, 0x0⟩,
    /- FE_PFREQ -/ ⟨0x40139064, 8, 0x100, 1, 0x4, 0x800000FF, 0x0, 0x0, 0x800000FF, 0x800000FF, 0x0⟩,
    /- FE_PFREQ -/ ⟨0x4013A064, 8, 0x100, 1, 0x4, 0x800000FF, 0x0, 0x0, 0x800000FF, 0x800000FF, 0x0⟩,
    /- FE_PKL -/ ⟨0x40133068, 8, 0x100, 1, 0x4, 0xFFFFFFFF, 0x0, 0x0, 0xFFFFFFFF, 0xFFFFFFFF, 0x0⟩,
    /- FE_PKL -/ ⟨0x40134068, 8, 0x100, 1, 0x4, 0xFFFFFFFF, 0x0, 0x0, 0xFFFFFFFF, 0xFFFFFFFF, 0x0⟩,
    /- FE_PKL -/ ⟨0x40135068, 8, 0x100, 1, 0x4, 0xFFFFFFFF, 0x0, 0x0, 0xFFFFFFFF, 0xFFFFFFFF, 0x0⟩,
    /- FE_PKL -/ ⟨0x40136068, 8, 0x100, 1, 0x4, 0xFFFFFFFF, 0x0, 0x0, 0xFFFFFFFF, 0xFFFFFFFF, 0x0⟩,
    /- FE_PKL -/ ⟨0x40137068, 8, 0x100, 1, 0x4, 0xFFFFFFFF, 0x0, 0x0, 0xFFFFFFFF, 0xFFFFFFFF, 0x0⟩,
    /- FE_PKL -/ ⟨0x40138068, 8, 0x100, 1, 0x4, 0xFFFFFFFF, 0x0, 0x0, 0xFFFFFFFF, 0xFFFFFFFF, 0x0⟩,
    /- FE_PKL -/ ⟨0x40139068, 8, 0x100, 1, 0x4, 0xFFFFFFFF, 0x0, 0x0, 0xFFFFFFFF, 0xFFFFFFFF, 0x0⟩,
    /- FE_PKL -/ ⟨0x4013A068, 8, 0x100, 1, 0x4, 0xFFFFFFFF, 0x0, 0x0, 0xFFFFFFFF, 0xFFFFFFFF, 0x0⟩,
    /- FE_PBOX -/ ⟨0x4013306C, 8, 0x100, 6, 0x4, 0xFFFFFFFF, 0x0, 0x0, 0xFFFFFFFF, 0xFFFFFFFF, 0x0⟩,
    /- FE_PBOX -/ ⟨0x4013406C, 8, 0x100, 6, 0x4, 0xFFFFFFFF, 0x0, 0x0, 0xFFFFFFFF, 0xFFFFFFFF, 0x0⟩,
    /- FE_PBOX -/ ⟨0x4013506C, 8, 0x100, 6, 0x4, 0xFFFFFFFF, 0x0, 0x0, 0xFFFFFFFF, 0xFFFFFFFF, 0x0⟩,
    /- FE_PBOX -/ ⟨0x4013606C, 8, 0x100, 6, 0x4, 0xFFFFFFFF, 0x0, 0x0, 0xFFFFFFFF, 0xFFFFFFFF, 0x0⟩,
    /- FE_PBOX -/ ⟨0x4013706C, 8, 0x100, 6, 0x4, 0xFFFFFFFF, 0x0, 0x0, 0xFFFFFFFF, 0xFFFFFFFF, 0x0⟩,
    /- FE_PBOX -/ ⟨0x4013806C, 8, 0x100, 6, 0x4, 0xFFFFFFFF, 0x0, 0x0, 0xFFFFFFFF, 0xFFFFFFFF, 0x0⟩,
    /- FE_PBOX -/ ⟨0x4013906C, 8, 0x100, 6, 0x4, 0xFFFFFFFF, 0x0, 0x0, 0xFFFFFFFF, 0xFFFFFFFF, 0x0⟩,
    /- FE_PBOX -/ ⟨0x4013A06C, 8, 0x100, 6, 0x4, 0xFFFFFFFF, 0x0, 0x0, 0xFFFFFFFF, 0xFFFFFFFF, 0x0⟩,
    /- FE_PID -/ ⟨0x40133084, 8, 0x100, 1, 0x4, 0xFFFFFFFF, 0x0, 0x0, 0xFFFFFFFF, 0xFFFFFFFF, 0x0⟩,
    /- FE_PID -/ ⟨0x40134084, 8, 0x100, 1, 0x4, 0xFFFFFFFF, 0x0, 0x0, 0xFFFFFFFF, 0xFFFFFFFF, 0x0⟩,
    /- FE_PID -/ ⟨0x40135084, 8, 0x100, 1, 0x4, 0xFFFFFFFF, 0x0, 0x0, 0xFFFFFFFF, 0xFFFFFFFF, 0x0⟩,
    /- FE_PID -/ ⟨0x40136084, 8, 0x100, 1, 0x4, 0xFFFFFFFF, 0x0, 0x0, 0xFFFFFFFF, 0xFFFFFFFF, 0x0⟩,
    /- FE_PID -/ ⟨0x40137084, 8, 0x100, 1, 0x4, 0xFFFFFFFF, 0x0, 0x0, 0xFFFFFFFF, 0xFFFFFFFF, 0x0⟩,
    /- FE_PID -/ ⟨0x40138084, 8, 0x100, 1, 0x4, 0xFFFFFFFF, 0x0, 0x0, 0xFFFFFFFF, 0xFFFFFFFF, 0x0⟩,
    /- FE_PID -/ ⟨0x40139084, 8, 0x100, 1, 0x4, 0xFFFFFFFF, 0x0, 0x0, 0xFFFFFFFF, 0xFFFFFFFF, 0x0⟩,
    /- FE_PID -/ ⟨0x4013A084, 8, 0x100, 1, 0x4, 0xFFFFFFFF, 0x0, 0x0, 0xFFFFFFFF, 0xFFFFFFFF, 0x0⟩]

/-- The registers of the COL block (07_column_model.md). -/
def regsCOL : List RegRow :=
  [
    /- COL_INFO -/ ⟨0x40180000, 1, 0x1000, 1, 0x4, 0x0, 0x0, 0x0, 0xFF0FFFFF, 0x0, 0x10010040⟩,
    /- COL_GSTAT -/ ⟨0x40180004, 1, 0x1000, 1, 0x4, 0x0, 0x0, 0x0, 0x8000FFFF, 0x0, 0x0⟩,
    /- COL_UTIME -/ ⟨0x40180008, 1, 0x1000, 1, 0x4, 0x0, 0x0, 0x0, 0xFFFF, 0x0, 0x0⟩,
    /- COL_FITSEQ -/ ⟨0x4018000C, 1, 0x1000, 1, 0x4, 0x0, 0x0, 0x0, 0xFFFFFFFF, 0x0, 0x0⟩,
    /- COL_CCFG -/ ⟨0x40181000, 16, 0x1000, 1, 0x4, 0xF0000000, 0x0, 0x0, 0xF0000000, 0xF0000000, 0x0⟩,
    /- COL_ZB -/ ⟨0x40181004, 16, 0x1000, 1, 0x4, 0xFFFFFF, 0x0, 0x0, 0xFFFFFF, 0xFFFFFF, 0x0⟩,
    /- COL_SRC -/ ⟨0x40181008, 16, 0x1000, 1, 0x4, 0xFFFF, 0x0, 0x0, 0xFFFF, 0xFFFF, 0x0⟩,
    /- COL_TPSRC -/ ⟨0x4018100C, 16, 0x1000, 1, 0x4, 0xFFFFFFFF, 0x0, 0x0, 0xFFFFFFFF, 0xFFFFFFFF, 0x0⟩,
    /- COL_TIME -/ ⟨0x40181010, 16, 0x1000, 1, 0x4, 0xFFFFFFFF, 0x0, 0x0, 0xFFFFFFFF, 0xFFFFFFFF, 0x0⟩,
    /- COL_AGE -/ ⟨0x40181014, 16, 0x1000, 1, 0x4, 0xFFFF, 0x0, 0x0, 0xFFFF, 0xFFFF, 0x0⟩,
    /- COL_PAR -/ ⟨0x40181020, 16, 0x1000, 11, 0x4, 0xFFFFFFFF, 0x0, 0x0, 0xFFFFFFFF, 0xFFFFFFFF, 0x0⟩,
    /- COL_AE -/ ⟨0x40181060, 16, 0x1000, 9, 0x4, 0xFFFFFFFF, 0x0, 0x0, 0xFFFFFFFF, 0xFFFFFFFF, 0x0⟩,
    /- COL_TE -/ ⟨0x40181084, 16, 0x1000, 9, 0x4, 0xFFFFFFFF, 0x0, 0x0, 0xFFFFFFFF, 0xFFFFFFFF, 0x0⟩,
    /- COL_PB -/ ⟨0x40181100, 16, 0x1000, 8, 0x10, 0xE0FFFF00, 0x0, 0x0, 0xE0FFFF00, 0xE0FFFF00, 0x0⟩,
    /- COL_PBAND -/ ⟨0x40181104, 16, 0x1000, 8, 0x10, 0xFFFFFFFF, 0x0, 0x0, 0xFFFFFFFF, 0xFFFFFFFF, 0x0⟩,
    /- COL_PCNT -/ ⟨0x40181108, 16, 0x1000, 8, 0x10, 0xFFFFFFFF, 0x0, 0x0, 0xFFFFFFFF, 0xFFFFFFFF, 0x0⟩,
    /- COL_IN -/ ⟨0x40191000, 16, 0x1000, 6, 0x4, 0x0, 0xFFFFFFFF, 0x0, 0xFFFFFFFF, 0x0, 0x0⟩,
    /- COL_SSTAT -/ ⟨0x40191020, 16, 0x1000, 1, 0x4, 0x0, 0x0, 0x0, 0xFFFFFFFF, 0x0, 0x0⟩,
    /- COL_SCONF -/ ⟨0x40191024, 16, 0x1000, 1, 0x4, 0x0, 0x0, 0x0, 0xFFFFFFFF, 0x0, 0x0⟩,
    /- COL_SFCAST -/ ⟨0x40191028, 16, 0x1000, 1, 0x4, 0x0, 0x0, 0x0, 0xFFFFFFFF, 0x0, 0x7FC00000⟩,
    /- COL_SSEQ -/ ⟨0x4019102C, 16, 0x1000, 1, 0x4, 0x0, 0x0, 0x0, 0xFFFFFFFF, 0x0, 0x0⟩,
    /- COL_SVERD -/ ⟨0x40191030, 16, 0x1000, 1, 0x4, 0x0, 0x0, 0x0, 0xFFFFFFFF, 0x0, 0xFFFF⟩,
    /- COL_SIN -/ ⟨0x40191034, 16, 0x1000, 1, 0x4, 0x0, 0x0, 0x0, 0x3F3F, 0x0, 0x3F3F⟩,
    /- COL_SEVT -/ ⟨0x40191038, 16, 0x1000, 1, 0x4, 0x0, 0x0, 0x3F, 0x3F, 0x0, 0x0⟩,
    /- COL_FIT -/ ⟨0x401A1000, 16, 0x1000, 64, 0x10, 0xFFFFFFFF, 0x0, 0x0, 0xFFFFFFFF, 0xFFFFFFFF, 0x0⟩,
    /- COL_FIT -/ ⟨0x401A1004, 16, 0x1000, 64, 0x10, 0xFFFFFFFF, 0x0, 0x0, 0xFFFFFFFF, 0xFFFFFFFF, 0x0⟩,
    /- COL_FIT -/ ⟨0x401A1008, 16, 0x1000, 64, 0x10, 0xFFFFFFFF, 0x0, 0x0, 0xFFFFFFFF, 0xFFFFFFFF, 0x0⟩,
    /- COL_FCTL -/ ⟨0x401A100C, 16, 0x1000, 64, 0x10, 0x8000FFFF, 0x0, 0x0, 0x8000FFFF, 0x8000FFFF, 0x0⟩]

/-- The registers of the LAT block (09_lathline_controller.md). -/
def regsLAT : List RegRow :=
  [
    /- LAT_CFG -/ ⟨0x40200000, 32, 0x1000, 1, 0x4, 0xFC000000, 0x0, 0x0, 0xFC000000, 0xFC000000, 0x0⟩,
    /- LAT_BTA -/ ⟨0x40200004, 32, 0x1000, 1, 0x4, 0xFFF00000, 0x0, 0x0, 0xFFF00000, 0xFFF00000, 0x0⟩,
    /- LAT_BTD -/ ⟨0x40200008, 32, 0x1000, 1, 0x4, 0xFFFFF800, 0x0, 0x0, 0xFFFFF800, 0xFFFFF800, 0x0⟩,
    /- LAT_CS -/ ⟨0x4020000C, 32, 0x1000, 1, 0x4, 0x3F3FFF, 0x0, 0x0, 0x3F3FFF, 0x3F3FFF, 0x0⟩,
    /- LAT_AL -/ ⟨0x40200010, 32, 0x1000, 1, 0x4, 0xFFFFFFFF, 0x0, 0x0, 0xFFFFFFFF, 0xFFFFFFFF, 0x0⟩,
    /- LAT_AS -/ ⟨0x40200014, 32, 0x1000, 1, 0x4, 0xFFFFFF03, 0x0, 0x0, 0xFFFFFF03, 0xFFFFFF03, 0x0⟩,
    /- LAT_FVAL -/ ⟨0x40200040, 32, 0x1000, 8, 0x8, 0x80FFFFFF, 0x0, 0x0, 0x80FFFFFF, 0x80FFFFFF, 0x0⟩,
    /- LAT_FMSK -/ ⟨0x40200044, 32, 0x1000, 8, 0x8, 0xFFFFFF, 0x0, 0x0, 0xFFFFFF, 0xFFFFFF, 0x0⟩,
    /- LAT_STAT -/ ⟨0x40200100, 32, 0x1000, 1, 0x4, 0x0, 0x0, 0xFE, 0xFC7F00FE, 0x0, 0x0⟩,
    /- LAT_ERR -/ ⟨0x40200104, 32, 0x1000, 1, 0x4, 0x0, 0x0, 0x0, 0xF1FF01FF, 0x0, 0x0⟩,
    /- LAT_TXQ -/ ⟨0x40200108, 32, 0x1000, 1, 0x4, 0x0, 0x0, 0x0, 0x0, 0x0, 0x0⟩,
    /- LAT_TXCAN -/ ⟨0x4020010C, 32, 0x1000, 1, 0x4, 0x0, 0x0, 0x0, 0x0, 0x0, 0x0⟩,
    /- LAT_TXST -/ ⟨0x40200110, 32, 0x1000, 1, 0x4, 0x0, 0x0, 0xFFFF, 0xFFFFFFFF, 0x0, 0x0⟩,
    /- LAT_TXRES -/ ⟨0x40200114, 32, 0x1000, 1, 0x4, 0x0, 0x0, 0x0, 0xFFFFFFFF, 0x0, 0x0⟩,
    /- LAT_RXST -/ ⟨0x40200118, 32, 0x1000, 1, 0x4, 0x0, 0x0, 0x0, 0x1F3F, 0x0, 0x0⟩,
    /- LAT_RXACK -/ ⟨0x4020011C, 32, 0x1000, 1, 0x4, 0x0, 0x0, 0x0, 0x0, 0x0, 0x0⟩,
    /- LAT_RXLOST -/ ⟨0x40200120, 32, 0x1000, 1, 0x4, 0x0, 0x0, 0x0, 0xFFFFFFFF, 0x0, 0x0⟩,
    /- LAT_CMD -/ ⟨0x40200124, 32, 0x1000, 1, 0x4, 0x0, 0x0, 0x0, 0x0, 0x0, 0x0⟩,
    /- LAT_SWSTAT -/ ⟨0x40200128, 32, 0x1000, 1, 0x4, 0x0, 0x0, 0x0, 0xFFF801FF, 0x0, 0x0⟩,
    /- LAT_SWTAG -/ ⟨0x4020012C, 32, 0x1000, 1, 0x4, 0x0, 0x0, 0x0, 0xFFFF, 0x0, 0xFFFF⟩,
    /- LAT_CENS -/ ⟨0x40200130, 32, 0x1000, 1, 0x4, 0x0, 0x0, 0x0, 0xFFFFFFFF, 0x0, 0x0⟩,
    /- LAT_STRAY -/ ⟨0x40200134, 32, 0x1000, 1, 0x4, 0x0, 0x0, 0x0, 0xFFFFFFFF, 0x0, 0x0⟩,
    /- LAT_INFO -/ ⟨0x40220000, 1, 0x1000, 1, 0x4, 0x0, 0x0, 0x0, 0xFFFFFFFF, 0x0, 0x20102008⟩,
    /- LAT_GSTAT -/ ⟨0x40220004, 1, 0x1000, 1, 0x4, 0x0, 0x0, 0x0, 0x80000000, 0x0, 0x0⟩,
    /- LAT_BOFF -/ ⟨0x40220008, 1, 0x1000, 1, 0x4, 0x0, 0x0, 0x0, 0xFFFFFFFF, 0x0, 0x0⟩,
    /- LAT_HIST -/ ⟨0x40220010, 1, 0x1000, 1, 0x4, 0xFFFF, 0x0, 0x0, 0xFFFF, 0xFFFF, 0x0⟩,
    /- LAT_TX -/ ⟨0x40240000, 32, 0x1000, 320, 0x4, 0x0, 0xFFFFFFFF, 0x0, 0xFFFFFFFF, 0x0, 0x0⟩,
    /- LAT_RX -/ ⟨0x40240500, 32, 0x1000, 640, 0x4, 0x0, 0x0, 0x0, 0xFFFFFFFF, 0x0, 0x0⟩,
    /- LAT_SWL -/ ⟨0x40260000, 32, 0x1000, 512, 0x4, 0x0, 0x0, 0x0, 0xFFFFFFFF, 0x0, 0x0⟩,
    /- LAT_JT -/ ⟨0x40260800, 32, 0x1000, 128, 0x4, 0x0, 0x0, 0x0, 0xFFFFFFFF, 0x0, 0x0⟩]

/-- The registers of the CAN block (09_lathline_controller.md). -/
def regsCAN : List RegRow :=
  [
    /- CAN_CFG -/ ⟨0x40300000, 4, 0x1000, 1, 0x4, 0xFF000000, 0x0, 0x0, 0xFF000000, 0xFF000000, 0x0⟩,
    /- CAN_NBT -/ ⟨0x40300004, 4, 0x1000, 1, 0x4, 0xFFFFFFE0, 0x0, 0x0, 0xFFFFFFE0, 0xFFFFFFE0, 0x0⟩,
    /- CAN_DBT -/ ⟨0x40300008, 4, 0x1000, 1, 0x4, 0xFFFFFF00, 0x0, 0x0, 0xFFFFFF00, 0xFFFFFF00, 0x0⟩,
    /- CAN_FID -/ ⟨0x40300040, 4, 0x1000, 16, 0x8, 0xBFFFFFFF, 0x0, 0x0, 0xBFFFFFFF, 0xBFFFFFFF, 0x0⟩,
    /- CAN_FMSK -/ ⟨0x40300044, 4, 0x1000, 16, 0x8, 0x1FFFFFFF, 0x0, 0x0, 0x1FFFFFFF, 0x1FFFFFFF, 0x0⟩,
    /- CAN_STAT -/ ⟨0x40300100, 4, 0x1000, 1, 0x4, 0x0, 0x0, 0x1E, 0xE07F001E, 0x0, 0x0⟩,
    /- CAN_ERR -/ ⟨0x40300104, 4, 0x1000, 1, 0x4, 0x0, 0x0, 0x0, 0xF1FF01FF, 0x0, 0x0⟩,
    /- CAN_TXCMD -/ ⟨0x40300108, 4, 0x1000, 1, 0x4, 0x0, 0x0, 0x0, 0x0, 0x0, 0x0⟩,
    /- CAN_TXST -/ ⟨0x4030010C, 4, 0x1000, 1, 0x4, 0x0, 0x0, 0x70, 0x3FE00777, 0x0, 0x0⟩,
    /- CAN_RXST -/ ⟨0x40300110, 4, 0x1000, 1, 0x4, 0x0, 0x0, 0x20000000, 0xE000FFFF, 0x0, 0x0⟩,
    /- CAN_RXREL -/ ⟨0x40300114, 4, 0x1000, 1, 0x4, 0x0, 0x0, 0x0, 0x0, 0x0, 0x0⟩,
    /- CAN_CMD -/ ⟨0x40300118, 4, 0x1000, 1, 0x4, 0x0, 0x0, 0x0, 0x0, 0x0, 0x0⟩,
    /- CAN_TXB -/ ⟨0x40300200, 4, 0x1000, 18, 0x4, 0x0, 0xFFFFFFFF, 0x0, 0xFFFFFFFF, 0x0, 0x0⟩,
    /- CAN_TXB -/ ⟨0x40300250, 4, 0x1000, 18, 0x4, 0x0, 0xFFFFFFFF, 0x0, 0xFFFFFFFF, 0x0, 0x0⟩,
    /- CAN_TXB -/ ⟨0x403002A0, 4, 0x1000, 18, 0x4, 0x0, 0xFFFFFFFF, 0x0, 0xFFFFFFFF, 0x0, 0x0⟩,
    /- CAN_RXB -/ ⟨0x40300400, 4, 0x1000, 20, 0x4, 0x0, 0x0, 0x0, 0xFFFFFFFF, 0x0, 0x0⟩,
    /- CAN_INFO -/ ⟨0x40310000, 1, 0x1000, 1, 0x4, 0x0, 0x0, 0x0, 0xFFFFFF00, 0x0, 0x4031000⟩]

/-- The registers of the SV block (10_actuation.md). -/
def regsSV : List RegRow :=
  [
    /- SV_INFO -/ ⟨0x40400000, 1, 0x1000, 1, 0x4, 0x0, 0x0, 0x0, 0xFFFFFF00, 0x0, 0x18043000⟩,
    /- SV_BCFG -/ ⟨0x40400004, 1, 0x1000, 1, 0x4, 0xF03, 0x0, 0x0, 0xF03, 0xF03, 0x0⟩,
    /- SV_BSTAT -/ ⟨0x40400008, 1, 0x1000, 1, 0x4, 0x0, 0x0, 0x4000000, 0xFC00FFFF, 0x0, 0x0⟩,
    /- SV_BHCNT -/ ⟨0x4040000C, 1, 0x1000, 1, 0x4, 0x0, 0x0, 0x0, 0xFFFFFFFF, 0x0, 0x0⟩,
    /- SV_BKSTAT -/ ⟨0x40400010, 4, 0x4, 1, 0x4, 0x0, 0x0, 0x18, 0xFFFF00FF, 0x0, 0x0⟩,
    /- SV_GCMD -/ ⟨0x40400020, 1, 0x1000, 1, 0x4, 0x0, 0x0, 0x0, 0x0, 0x0, 0x0⟩,
    /- SV_PULL -/ ⟨0x40400024, 1, 0x1000, 1, 0x4, 0x0, 0x0, 0x0, 0xFFFF, 0x0, 0x0⟩,
    /- SV_CFG -/ ⟨0x40401000, 24, 0x1000, 1, 0x4, 0xFCFF07FF, 0x0, 0x0, 0xFCFF07FF, 0xFCFF07FF, 0x0⟩,
    /- SV_CUR -/ ⟨0x40401004, 24, 0x1000, 1, 0x4, 0xFFFFFFFF, 0x0, 0x0, 0xFFFFFFFF, 0xFFFFFFFF, 0x0⟩,
    /- SV_TIME -/ ⟨0x40401008, 24, 0x1000, 1, 0x4, 0xFFFF, 0x0, 0x0, 0xFFFF, 0xFFFF, 0x0⟩,
    /- SV_THM -/ ⟨0x4040100C, 24, 0x1000, 1, 0x4, 0xFFFFFFFF, 0x0, 0x0, 0xFFFFFFFF, 0xFFFFFFFF, 0x0⟩,
    /- SV_THM2 -/ ⟨0x40401010, 24, 0x1000, 1, 0x4, 0xFFFF00FF, 0x0, 0x0, 0xFFFF00FF, 0xFFFF00FF, 0x0⟩,
    /- SV_STAT -/ ⟨0x40401100, 24, 0x1000, 1, 0x4, 0x0, 0x0, 0x3FC, 0xFFC003FC, 0x0, 0x60000000⟩,
    /- SV_MEAS -/ ⟨0x40401104, 24, 0x1000, 1, 0x4, 0x0, 0x0, 0x0, 0xFFFFFFFF, 0x0, 0xFFFF⟩,
    /- SV_TEMP -/ ⟨0x40401108, 24, 0x1000, 1, 0x4, 0x0, 0x0, 0x0, 0xFFFFFFFF, 0x0, 0x7FC00000⟩,
    /- SV_PCNT -/ ⟨0x4040110C, 24, 0x1000, 1, 0x4, 0x0, 0x0, 0x0, 0xFFFFFFFF, 0x0, 0x0⟩,
    /- SV_CMD -/ ⟨0x40401110, 24, 0x1000, 1, 0x4, 0x0, 0x0, 0x0, 0x0, 0x0, 0x0⟩]

/-- The registers of the FAN block (10_actuation.md). -/
def regsFAN : List RegRow :=
  [
    /- FAN_INFO -/ ⟨0x40480000, 1, 0x1000, 1, 0x4, 0x0, 0x0, 0x0, 0xFFFF0000, 0x0, 0x10080000⟩,
    /- FAN_GSTAT -/ ⟨0x40480004, 1, 0x1000, 1, 0x4, 0x0, 0x0, 0x0, 0xFFFFFF, 0x0, 0x0⟩,
    /- FAN_CFG -/ ⟨0x40481000, 16, 0x1000, 1, 0x4, 0xFFFCFF00, 0x0, 0x0, 0xFFFCFF00, 0xFFFCFF00, 0x0⟩,
    /- FAN_PWM -/ ⟨0x40481004, 16, 0x1000, 1, 0x4, 0x7FFFF, 0x0, 0x0, 0x7FFFF, 0x7FFFF, 0x0⟩,
    /- FAN_KICK -/ ⟨0x40481008, 16, 0x1000, 1, 0x4, 0xFFFFFFFF, 0x0, 0x0, 0xFFFFFFFF, 0xFFFFFFFF, 0x0⟩,
    /- FAN_MON -/ ⟨0x4048100C, 16, 0x1000, 1, 0x4, 0xFFFFFFFF, 0x0, 0x0, 0xFFFFFFFF, 0xFFFFFFFF, 0x0⟩,
    /- FAN_FB -/ ⟨0x40481010, 16, 0x1000, 1, 0x4, 0xFFFF, 0x0, 0x0, 0xFFFF, 0xFFFF, 0x0⟩,
    /- FAN_TAB -/ ⟨0x40481020, 16, 0x1000, 8, 0x4, 0xFFFFFFFF, 0x0, 0x0, 0xFFFFFFFF, 0xFFFFFFFF, 0x0⟩,
    /- FAN_STAT -/ ⟨0x40481100, 16, 0x1000, 1, 0x4, 0x0, 0x0, 0xFE, 0xFC0000FE, 0x0, 0x0⟩,
    /- FAN_SPD -/ ⟨0x40481104, 16, 0x1000, 1, 0x4, 0x0, 0x0, 0x0, 0xFFFFFFFF, 0x0, 0x7FC00000⟩,
    /- FAN_TS -/ ⟨0x40481108, 16, 0x1000, 1, 0x4, 0x0, 0x0, 0x0, 0xFFFFFFFF, 0x0, 0x7FC00000⟩,
    /- FAN_OUT -/ ⟨0x4048110C, 16, 0x1000, 1, 0x4, 0x0, 0x0, 0x0, 0xFFFFFFFF, 0x0, 0x0⟩,
    /- FAN_CMD -/ ⟨0x40481110, 16, 0x1000, 1, 0x4, 0x0, 0x0, 0x0, 0x0, 0x0, 0x0⟩]

/-- The registers of the DIO block (11_isolated_io.md). -/
def regsDIO : List RegRow :=
  [
    /- DIO_INFO -/ ⟨0x40500000, 1, 0x1000, 1, 0x4, 0x0, 0x0, 0x0, 0xFFFFFF00, 0x0, 0x40101400⟩,
    /- DIO_KCFG -/ ⟨0x40500004, 1, 0x1000, 1, 0x4, 0xFF1FFF, 0x0, 0x0, 0xFF1FFF, 0xFF1FFF, 0xA0005⟩,
    /- DIO_KSTAT -/ ⟨0x40500008, 1, 0x1000, 1, 0x4, 0x0, 0x0, 0xE0, 0xFE0000E0, 0x0, 0x20000000⟩,
    /- DIO_KCNT -/ ⟨0x4050000C, 1, 0x1000, 1, 0x4, 0x0, 0x0, 0x0, 0xFFFFFFFF, 0x0, 0x0⟩,
    /- DIO_FKCNT -/ ⟨0x40500010, 1, 0x1000, 1, 0x4, 0x0, 0x0, 0x0, 0xFFFFFFFF, 0x0, 0x0⟩,
    /- DIO_FIELD -/ ⟨0x40500014, 1, 0x1000, 1, 0x4, 0x0, 0x0, 0x0, 0xFFFFFFFF, 0x0, 0x0⟩,
    /- DIO_IN -/ ⟨0x40500020, 2, 0x4, 1, 0x4, 0x0, 0x0, 0x0, 0xFFFFFFFF, 0x0, 0x0⟩,
    /- DIO_INSEQ -/ ⟨0x40500028, 1, 0x1000, 1, 0x4, 0x0, 0x0, 0x0, 0xFFFF, 0x0, 0x0⟩,
    /- DIO_INDTB -/ ⟨0x4050002C, 1, 0x1000, 1, 0x4, 0x0, 0x0, 0x0, 0xFFFFFFFF, 0x0, 0x0⟩,
    /- DIO_CFG -/ ⟨0x40501000, 64, 0x1000, 1, 0x4, 0xFFFFFF07, 0x0, 0x0, 0xFFFFFF07, 0xFFFFFF07, 0x0⟩,
    /- DIO_TIM -/ ⟨0x40501004, 64, 0x1000, 1, 0x4, 0xF007FFFF, 0x0, 0x0, 0xF007FFFF, 0xF007FFFF, 0x0⟩,
    /- DIO_STAT -/ ⟨0x40501100, 64, 0x1000, 1, 0x4, 0x0, 0x0, 0x1FE, 0xFF0001FE, 0x0, 0x0⟩,
    /- DIO_CNT -/ ⟨0x40501104, 64, 0x1000, 1, 0x4, 0x0, 0x0, 0x0, 0xFFFFFFFF, 0x0, 0x0⟩,
    /- DIO_FREQ -/ ⟨0x40501108, 64, 0x1000, 1, 0x4, 0x0, 0x0, 0x0, 0xFFFFFFFF, 0x0, 0x0⟩,
    /- DIO_CMD -/ ⟨0x40501110, 64, 0x1000, 1, 0x4, 0x0, 0x0, 0x0, 0x0, 0x0, 0x0⟩]

/-- The registers of the REC block (12_recorder_rtc.md). -/
def regsREC : List RegRow :=
  [
    /- REC_INFO -/ ⟨0x40600000, 1, 0x1000, 1, 0x4, 0x0, 0x0, 0x0, 0xFFFFFFFF, 0x0, 0x400200⟩,
    /- REC_STAT -/ ⟨0x40600004, 1, 0x1000, 1, 0x4, 0x0, 0x0, 0xF000, 0xF000F3FF, 0x0, 0x30000000⟩,
    /- REC_SEQ -/ ⟨0x40600008, 1, 0x1000, 1, 0x4, 0x0, 0x0, 0x0, 0xFFFFFFFF, 0x0, 0x0⟩,
    /- REC_HOURS -/ ⟨0x4060000C, 1, 0x1000, 1, 0x4, 0x0, 0x0, 0x0, 0xFFFFFFFF, 0x0, 0x0⟩,
    /- REC_PCC -/ ⟨0x40600010, 1, 0x1000, 1, 0x4, 0x0, 0x0, 0x0, 0xFFFFFFFF, 0x0, 0x0⟩,
    /- REC_DROP -/ ⟨0x40600014, 1, 0x1000, 1, 0x4, 0x0, 0x0, 0x0, 0xFFFFFFFF, 0x0, 0x0⟩,
    /- REC_SUPP -/ ⟨0x40600018, 1, 0x1000, 1, 0x4, 0x0, 0x0, 0x0, 0xFFFFFFFF, 0x0, 0x0⟩,
    /- REC_WEAR -/ ⟨0x4060001C, 1, 0x1000, 1, 0x4, 0x0, 0x0, 0x0, 0xFF, 0x0, 0x0⟩,
    /- REC_CMD -/ ⟨0x40600020, 1, 0x1000, 1, 0x4, 0x0, 0x0, 0x0, 0x0, 0x0, 0x0⟩,
    /- REC_FLUSHT -/ ⟨0x40600024, 1, 0x1000, 1, 0x4, 0x0, 0x0, 0x0, 0xFFFF, 0x0, 0x0⟩,
    /- REC_RL -/ ⟨0x40601000, 16, 0x4, 1, 0x4, 0xFFFFFF, 0x0, 0x0, 0xFFFFFF, 0x0, 0x100064⟩,
    /- REC_CSEQ -/ ⟨0x40602000, 1, 0x1000, 1, 0x4, 0x0, 0xFFFFFFFF, 0x0, 0xFFFFFFFF, 0x0, 0x0⟩,
    /- REC_CURSOR -/ ⟨0x40602004, 1, 0x1000, 1, 0x4, 0x0, 0x0, 0x0, 0x0, 0x0, 0x0⟩,
    /- REC_WSTAT -/ ⟨0x40602008, 1, 0x1000, 1, 0x4, 0x0, 0x0, 0x0, 0xFFFFFFFF, 0x0, 0x0⟩,
    /- REC_WFIRST -/ ⟨0x4060200C, 1, 0x1000, 1, 0x4, 0x0, 0x0, 0x0, 0xFFFFFFFF, 0x0, 0x0⟩,
    /- REC_WNEXT -/ ⟨0x40602010, 1, 0x1000, 1, 0x4, 0x0, 0x0, 0x0, 0xFFFFFFFF, 0x0, 0x0⟩,
    /- REC_WIN -/ ⟨0x40603000, 1024, 0x4, 1, 0x4, 0x0, 0x0, 0x0, 0xFFFFFFFF, 0x0, 0x0⟩,
    /- REC_SSEQ -/ ⟨0x40604000, 16, 0x8, 1, 0x4, 0x0, 0x0, 0x0, 0xFFFFFFFF, 0x0, 0x0⟩,
    /- REC_SSTAT -/ ⟨0x40604004, 16, 0x8, 1, 0x4, 0x0, 0x0, 0x10000, 0xF801FFFF, 0x0, 0x0⟩]

/-- The registers of the RTC block (12_recorder_rtc.md). -/
def regsRTC : List RegRow :=
  [
    /- RTC_FRAC -/ ⟨0x40680000, 1, 0x1000, 1, 0x4, 0x0, 0x0, 0x0, 0xFFFF, 0x0, 0x0⟩,
    /- RTC_SECL -/ ⟨0x40680004, 1, 0x1000, 1, 0x4, 0x0, 0x0, 0x0, 0xFFFFFFFF, 0x0, 0x0⟩,
    /- RTC_SECH -/ ⟨0x40680008, 1, 0x1000, 1, 0x4, 0x0, 0x0, 0x0, 0xFFFF, 0x0, 0x0⟩,
    /- RTC_STAT -/ ⟨0x4068000C, 1, 0x1000, 1, 0x4, 0x0, 0x0, 0xC, 0xF, 0x0, 0x3⟩,
    /- RTC_SWL -/ ⟨0x40680010, 1, 0x1000, 1, 0x4, 0x0, 0x0, 0x0, 0xFFFFFFFF, 0x0, 0x0⟩,
    /- RTC_SWH -/ ⟨0x40680014, 1, 0x1000, 1, 0x4, 0x0, 0x0, 0x0, 0xFFFFFFFF, 0x0, 0x0⟩,
    /- RTC_SWCNT -/ ⟨0x40680018, 1, 0x1000, 1, 0x4, 0x0, 0x0, 0x0, 0xFFFF, 0x0, 0x0⟩,
    /- RTC_PPSH -/ ⟨0x40680024, 1, 0x1000, 1, 0x4, 0x0, 0x0, 0x0, 0xFFFFFFFF, 0x0, 0x0⟩,
    /- RTC_PPSL -/ ⟨0x40680020, 1, 0x1000, 1, 0x4, 0x0, 0x0, 0x0, 0xFFFFFFFF, 0x0, 0x0⟩,
    /- RTC_SETL -/ ⟨0x40680040, 1, 0x1000, 1, 0x4, 0xFFFFFFFF, 0x0, 0x0, 0xFFFFFFFF, 0x0, 0x0⟩,
    /- RTC_SETH -/ ⟨0x40680044, 1, 0x1000, 1, 0x4, 0xFFFFFFFF, 0x0, 0x0, 0xFFFFFFFF, 0x0, 0x0⟩,
    /- RTC_SHIFT -/ ⟨0x40680048, 1, 0x1000, 1, 0x4, 0x1FFFF, 0x0, 0x0, 0x1FFFF, 0x0, 0x0⟩,
    /- RTC_TRIM -/ ⟨0x4068004C, 1, 0x1000, 1, 0x4, 0xFF, 0x0, 0x0, 0xFF, 0x0, 0x0⟩,
    /- RTC_CTL -/ ⟨0x40680050, 1, 0x1000, 1, 0x4, 0x3, 0x0, 0x0, 0x3, 0x0, 0x0⟩,
    /- RTC_CMD -/ ⟨0x40680060, 1, 0x1000, 1, 0x4, 0x0, 0x0, 0x0, 0x0, 0x0, 0x0⟩,
    /- RTC_BK -/ ⟨0x40681000, 32, 0x4, 1, 0x4, 0x0, 0xFFFFFFFF, 0x0, 0xFFFFFFFF, 0x0, 0x0⟩,
    /- RTC_BKPERR -/ ⟨0x40681080, 4, 0x4, 1, 0x4, 0x0, 0x0, 0xFFFFFFFF, 0xFFFFFFFF, 0x0, 0x0⟩]

/-- The registers of the HST block (13_host_service.md). -/
def regsHST : List RegRow :=
  [
    /- HST_INFO -/ ⟨0x40700000, 1, 0x1000, 1, 0x4, 0x0, 0x0, 0x0, 0xFFFFFFFF, 0x0, 0x2401010⟩,
    /- HST_LSTAT -/ ⟨0x40700010, 2, 0x4, 1, 0x4, 0x0, 0x0, 0x0, 0xF83EFFFF, 0x0, 0x0⟩,
    /- HST_LCNT -/ ⟨0x40700018, 2, 0x4, 1, 0x4, 0x0, 0x0, 0x0, 0xFFFFFFFF, 0x0, 0x0⟩,
    /- HST_PTPSTAT -/ ⟨0x40700020, 1, 0x1000, 1, 0x4, 0x0, 0x0, 0x0, 0xE000FFFF, 0x0, 0x0⟩,
    /- HST_OFFSET -/ ⟨0x40700024, 1, 0x1000, 1, 0x4, 0x0, 0x0, 0x0, 0xFFFFFFFF, 0x0, 0x0⟩,
    /- HST_RATE -/ ⟨0x40700028, 1, 0x1000, 1, 0x4, 0x0, 0x0, 0x0, 0xFFFFFFFF, 0x0, 0x0⟩,
    /- HST_GMID -/ ⟨0x4070002C, 2, 0x4, 1, 0x4, 0x0, 0x0, 0x0, 0xFFFFFFFF, 0x0, 0x0⟩,
    /- HST_HAPCNT -/ ⟨0x40700034, 1, 0x1000, 1, 0x4, 0x0, 0x0, 0x0, 0xFF00FFFF, 0x0, 0x0⟩,
    /- HST_LCFG -/ ⟨0x40701000, 2, 0x10, 1, 0x4, 0xC0000FFF, 0x0, 0x0, 0xC0000FFF, 0xC0000FFF, 0x80000000⟩,
    /- HST_IP -/ ⟨0x40701004, 2, 0x10, 1, 0x4, 0xFFFFFFFF, 0x0, 0x0, 0xFFFFFFFF, 0xFFFFFFFF, 0xA9FE0A02⟩,
    /- HST_MASK -/ ⟨0x40701008, 2, 0x10, 1, 0x4, 0xFFFFFFFF, 0x0, 0x0, 0xFFFFFFFF, 0xFFFFFFFF, 0xFFFFFF00⟩,
    /- HST_GW -/ ⟨0x4070100C, 2, 0x10, 1, 0x4, 0xFFFFFFFF, 0x0, 0x0, 0xFFFFFFFF, 0xFFFFFFFF, 0x0⟩,
    /- HST_UDP -/ ⟨0x40701020, 1, 0x1000, 1, 0x4, 0xFFFF, 0x0, 0x0, 0xFFFF, 0xFFFF, 0xB7A2⟩,
    /- HST_HAPCFG -/ ⟨0x40701024, 1, 0x1000, 1, 0x4, 0xFFFF00FF, 0x0, 0x0, 0xFFFF00FF, 0xFFFF00FF, 0x3C001E⟩,
    /- HST_PTPCFG -/ ⟨0x40701028, 1, 0x1000, 1, 0x4, 0xBFFFFFFF, 0x0, 0x0, 0xBFFFFFFF, 0xBFFFFFFF, 0x800F4240⟩,
    /- HST_FKEY -/ ⟨0x40702000, 1, 0x1000, 1, 0x4, 0x0, 0x0, 0xF, 0x1FFF, 0x0, 0x0⟩,
    /- HST_FKCNT -/ ⟨0x40702004, 1, 0x1000, 1, 0x4, 0x0, 0x0, 0x0, 0xFFFFFFFF, 0x0, 0x0⟩,
    /- HST_ALARM -/ ⟨0x40702008, 1, 0x1000, 1, 0x4, 0x0, 0x5, 0x0, 0x7, 0x0, 0x0⟩,
    /- HST_LED -/ ⟨0x4070200C, 1, 0x1000, 1, 0x4, 0x0, 0x3, 0x0, 0x3, 0x0, 0x0⟩,
    /- HST_KEY -/ ⟨0x40703000, 16, 0x20, 8, 0x4, 0x0, 0x0, 0x0, 0xFFFFFFFF, 0x0, 0x0⟩,
    /- HST_CRED -/ ⟨0x40703200, 64, 0x4, 1, 0x4, 0x0, 0x0, 0x0, 0xC0003FFF, 0x0, 0x0⟩]

/-- The registers of the TAG block (13_host_service.md). -/
def regsTAG : List RegRow :=
  [
    /- TAG_INFO -/ ⟨0x40780000, 1, 0x1000, 1, 0x4, 0x0, 0x0, 0x0, 0xFFFFFFFF, 0x0, 0x2000010⟩,
    /- TAG_STAT -/ ⟨0x40780004, 1, 0x1000, 1, 0x4, 0x0, 0x0, 0x7, 0xF1FF0007, 0x0, 0x0⟩,
    /- TAG_FCNT -/ ⟨0x40780008, 1, 0x1000, 1, 0x4, 0x0, 0x0, 0x0, 0xFFFFFFFF, 0x0, 0x0⟩,
    /- TAG_WBUF -/ ⟨0x40780010, 4, 0x4, 1, 0x4, 0x0, 0xFFFFFFFF, 0x0, 0xFFFFFFFF, 0x0, 0x0⟩,
    /- TAG_WCMD -/ ⟨0x40780020, 1, 0x1000, 1, 0x4, 0x0, 0x0, 0x0, 0x0, 0x0, 0x0⟩,
    /- TAG_WRES -/ ⟨0x40780024, 1, 0x1000, 1, 0x4, 0x0, 0x0, 0x0, 0xF0001FFF, 0x0, 0x0⟩,
    /- TAG_WIN -/ ⟨0x40781000, 2048, 0x4, 1, 0x4, 0x0, 0x0, 0x0, 0xFFFFFFFF, 0x0, 0x0⟩]

/-- The registers of the TRC block (03_control_laws.md). -/
def regsTRC : List RegRow :=
  [
    /- TRC_CFG -/ ⟨0x40800000, 16, 0x1000, 1, 0x4, 0xFFF87FFF, 0x0, 0x0, 0xFFF87FFF, 0x0, 0x0⟩,
    /- TRC_CTL -/ ⟨0x40800004, 16, 0x1000, 1, 0x4, 0x0, 0x0, 0x0, 0x0, 0x0, 0x0⟩,
    /- TRC_STAT -/ ⟨0x40800008, 16, 0x1000, 1, 0x4, 0x0, 0x0, 0xC00000, 0xFE3FFF, 0x0, 0x0⟩,
    /- TRC_LOST -/ ⟨0x4080000C, 16, 0x1000, 1, 0x4, 0x0, 0x0, 0x0, 0xFFFFFFFF, 0x0, 0x0⟩,
    /- TRC_TIDX -/ ⟨0x40800010, 16, 0x1000, 1, 0x4, 0x0, 0x0, 0x0, 0x3FFF, 0x0, 0x0⟩,
    /- TRC_SLOOP -/ ⟨0x40800100, 16, 0x1000, 8, 0x8, 0xC0001FFF, 0x0, 0x0, 0xC0001FFF, 0x0, 0x0⟩,
    /- TRC_SMASK -/ ⟨0x40800104, 16, 0x1000, 8, 0x8, 0xFFFFFFFF, 0x0, 0x0, 0xFFFFFFFF, 0x0, 0x0⟩,
    /- TRC_INFO -/ ⟨0x40810000, 1, 0x1000, 1, 0x4, 0x0, 0x0, 0x0, 0xFFFFFF, 0x0, 0x104000⟩,
    /- TRC_GSTAT -/ ⟨0x40810004, 1, 0x1000, 1, 0x4, 0x0, 0x0, 0x0, 0xFFFF, 0x0, 0x0⟩]

end Sys2Proof.Machine
end

