-- ==== Sys2Proof/Machine/State.lean ====
section
/-! DEFINITION. The state of the module as plain data, the reasons a step can stop, and the state after reset.
Sparse maps hold what differs from the value an unlisted key reads as. -/
namespace Sys2Proof.Machine

/-- A pending apply of a register page (R45, R46): the instant it was accepted and the cell that wrote APPLY. -/
structure Pend where
  acceptedAt : Nat
  cell : Nat
  deriving DecidableEq, Repr

/-- A checkpoint of a loop (R99): its registers, the PC after the WAIT, FLG, PER and the data segment, with the register
named by the WAIT and the start of the period in which it retired; `initial` marks the state of R57, to which no WAIT
belongs. -/
structure Ckpt where
  g : SMap Word
  pc : Nat
  flg : Word
  per : Nat
  data : SMap Byte
  gd : Nat
  start : Nat
  initial : Bool
  deriving DecidableEq, Repr

/-- The states of PLC_LSTAT.STATE (0 to 5). -/
inductive LoopState where
  | free
  | running
  | suspended
  | stopped
  | migrating
  | awaiting
  deriving DecidableEq, Repr

/-- A loop declaration (Table 4.1), with the initial contents of its data segment. -/
structure Decl where
  pin : Bool
  pidx : Nat
  lid : Nat
  dl : Nat
  wcet : Nat
  entry : Nat
  cseg : Nat
  dsize : Nat
  init : SMap Byte
  slots : List Nat
  ratio : Nat
  inner : Nat
  xps : Nat
  sps : Nat
  nps : Nat
  cps : Nat
  deriving DecidableEq, Repr

/-- A loop instance: its declaration and placement, the registers and data segment its code works on, its two
checkpoint buffers, and what the placer keeps of it (R56 to R106, R147 to R170). -/
structure Loop where
  state : LoopState
  cell : Nat
  decl : Decl
  /-- the loop's code segment (R64) and its size in bytes -/
  code : SMap Byte
  codeSize : Nat
  pair : Nat
  pair2 : Option Nat
  g : SMap Word
  pc : Nat
  flg : Word
  per : Nat
  data : SMap Byte
  /-- bits [63:32] latched by NOWL in this period (Table 2.3) -/
  nowh : Word
  /-- the loop has been dispatched for a period and has neither retired WAIT nor trapped -/
  inPeriod : Bool
  /-- a WAIT in progress, with its register (R99) -/
  waiting : Option Nat
  /-- start of the current period (TBL, TBH) -/
  start : Nat
  /-- start of period 0 (R149) -/
  period0 : Nat
  /-- the next instant at which the loop may be dispatched -/
  due : Nat
  /-- the next period boundary to take up slot values (R32) -/
  boundary : Nat
  /-- the two checkpoint buffers (R160) and which is in force -/
  ckptA : Ckpt
  ckptB : Ckpt
  useB : Bool
  cycles : Nat
  maxCycles : Nat
  consec : Nat
  total : Nat
  cause : Nat
  /-- slots written by OUT in this period (R104) -/
  outs : List Nat
  /-- the loop was stopped by TRAPLIM or a STOP, and runs again only after a RESTART or a reset of its cell (R166, R170) -/
  halted : Bool
  /-- a command, T4 and a STOP wait to suspend or stop the loop at its period end (R170) -/
  cmdSusp : Bool
  t4Susp : Bool
  stopReq : Bool
  deriving DecidableEq, Repr

/-- A store posted to cell shared data and not yet accepted (R67). -/
structure Posted where
  loop : Nat
  cell : Nat
  inc : Nat
  offset : Nat
  bytes : List Byte
  deriving DecidableEq, Repr

/-- A lockstep pair (Table 4.7): its state code, its mismatches since power-on reset, the instant it stopped, the loop
it is executing, its queue of posted stores, and whether it has been powered up after T4 and awaits its check (R170). -/
structure Pair where
  state : Nat
  misses : Nat
  stoppedAt : Nat
  running : Option Nat
  queue : List Posted
  check : Bool
  deriving DecidableEq, Repr

/-- A value that reached an output slot (R32, R96): the DTB at which it did, the period index of the loop that wrote it, and the
value. -/
structure SlotWrite where
  arrived : Nat
  per : Nat
  value : Word
  deriving DecidableEq, Repr

/-- An output slot (R31, R32): its owner, the value in force (none while its channel is in posture), the values that reached it and
wait for a period boundary, oldest first, and the instant of a release that waits for its frame boundary (R46, R167). -/
structure Slot where
  owner : Option Nat
  value : Option Word
  next : List SlotWrite
  released : Option Nat
  deriving DecidableEq, Repr

/-- A cell image container (R169): its bytes and its length. -/
structure Image where
  bytes : SMap Byte
  len : Nat
  deriving DecidableEq, Repr

/-- A cell (Tables 4.9 and 4.12): its state code, incarnation, what suspends it, the image it runs and the one being
loaded, its shared data with the words that hold an uncorrectable error, its allocation in 64 KiB units, and when a reset in
progress was accepted, and whether it ends in an unload. -/
structure Cell where
  state : Nat
  inc : Nat
  csusp : Bool
  t4 : Bool
  image : Option Image
  loading : Option Image
  shared : SMap Byte
  badWords : List Nat
  mem : Nat
  fast : Nat
  resetAt : Nat
  unloading : Bool
  /-- tags of earlier incarnations in flight at the last reset (R174) -/
  staleSeen : Nat
  /-- the image being loaded came by HAP (R455) -/
  viaHap : Bool
  deriving DecidableEq, Repr

/-- An event a re-plan answers (R158). -/
inductive ReplanWhy where
  | mismatch (pair : Nat)
  | tier (n : Nat) (shed : Bool)
  | load (cell : Nat)
  | unload (cell : Nat)
  | cellReset (cell : Nat)
  | grant (cell : Nat)
  | config
  | engineOver (kind : Nat)
  deriving DecidableEq, Repr

/-- A migration whose affected loops due at step 6 of Table 4.8 have not all retired WAIT: the stopped pair, the pair that took
over, the instant of the mismatch, and those loops. -/
structure Migration where
  src : Nat
  dst : Nat
  since : Nat
  todo : List Nat
  deriving DecidableEq, Repr

/-- The placer (R153 to R170): queued re-plans in order, the first one running; planned moves not yet made (loop, old pair, new
pair); the kinds of engine that refuse new images; degraded pinned loops, each with the period start of the checkpoint then in force;
whether fewer than 4 pairs are STANDBY; the migrations that run; and the last check of engine loading. -/
structure Placer where
  replans : List ReplanWhy
  moves : List (Nat × Nat × Nat)
  engineRefused : List Nat
  degraded : List (Nat × Nat)
  low : Bool
  migs : List Migration
  lastLoadCheck : Nat
  deriving DecidableEq, Repr

/-- The state of R57: every register, FLG and PER 0, at the entry address, the data segment as the image gives it. -/
def Ckpt.start0 (entry : Nat) (init : SMap Byte) : Ckpt := ⟨[], entry, 0, 0, init, 0, 0, true⟩

def Decl.none : Decl := ⟨false, 0, 0, 0, 0, 0, 0, 0, [], [], 0, 0, 0, 0, 0, 0⟩

/-- A free loop number. -/
def Loop.free : Loop :=
  { state := .free, cell := 0, decl := Decl.none, code := [], codeSize := 0, pair := 0, pair2 := none, g := [], pc := 0,
    flg := 0, per := 0, data := [], nowh := 0, inPeriod := false, waiting := none, start := 0, period0 := 0, due := 0,
    boundary := 0, ckptA := Ckpt.start0 0 [], ckptB := Ckpt.start0 0 [], useB := false, cycles := 0, maxCycles := 0,
    consec := 0, total := 0, cause := 0, outs := [], halted := false, cmdSusp := false, t4Susp := false, stopReq := false }

/-- A pair not yet through its start-up check (state STARTING). -/
def Pair.starting : Pair := ⟨6, 0, 0, none, [], false⟩

/-- A slot no loop owns, its channel in posture (R502). -/
def Slot.empty : Slot := ⟨none, none, [], none⟩

/-- A cell with no image. -/
def Cell.empty : Cell :=
  { state := 0, inc := 0, csusp := false, t4 := false, image := none, loading := none, shared := [], badWords := [],
    mem := 0, fast := 0, resetAt := 0, unloading := false, staleSeen := 0, viaHap := false }

def Placer.reset : Placer := ⟨[], [], [], [], false, [], 0⟩

/-- A trace buffer (R139 to R145): its memory by word (entry i at words 4i to 4i + 3), the entries waiting to be written,
the entries still to capture after a trigger, the entries captured since the last CLEAR, and whether the next entry
carries GAP. -/
structure Trace where
  mem : SMap Word
  waiting : List (List Word)
  post : Option Nat
  captured : Nat
  gap : Bool
  deriving DecidableEq, Repr

def Trace.empty : Trace := ⟨[], [], none, 0, false⟩

/-- What an internal requester's transaction is for (R187): a log line or a marker of the recorder, an access of the store of a set,
bytes of an image that a session loads, or an access of the reading of the house image. -/
inductive InternalReq where
  | logLine
  | marker
  | store (set : Nat)
  | image (sid : Nat)
  | house
  deriving DecidableEq, Repr

/-- A transaction tag (R181): its cell and incarnation at acceptance, kind, engine once granted, the copied descriptor
words 0x00 to 0x1C, the descriptor's address, its position and head tag in a locked sequence, whether its operation
has been carried out, with the ERR it ends with, and what an internal one is for. -/
structure Tag where
  used : Bool
  internal : Bool
  cell : Nat
  inc : Nat
  kind : Nat
  engine : Option Nat
  desc : List Word
  addr : Nat
  seq : Nat
  head : Nat
  count : Nat
  ran : Bool
  err : Nat
  op : Option InternalReq
  deriving DecidableEq, Repr

/-- A shared engine (R179): the tag of the transaction running, the tags of its sequence still to run, the instant the
transaction started, and the instant a watchdog reset began. -/
structure Engine where
  running : Option Nat
  rest : List Nat
  since : Nat
  resetAt : Option Nat
  deriving DecidableEq, Repr

/-- Hawk (R179 to R202): tags, the head tags of waiting requests of cells and the tags of waiting internal requests, in order of
acceptance, the internal requests that wait for a reserved tag, the accesses left of the house image's reading, the signed credit
counters
C(c,k) at 4 * c + k, the engines, internal grants taken in this window by kind, the kinds whose engine is shed, the next
refill instant, whether HWK_TAGFULL has been recorded in this window, and engine time spent on cell transactions (ns) by
kind in each of the last ten 100 ms, newest first. -/
structure HwkSt where
  tags : SMap Tag
  waiting : List Nat
  iwaiting : List Nat
  owed : List InternalReq
  houseLeft : Nat
  credit : SMap Int
  engines : SMap Engine
  taken : SMap Nat
  shedKinds : List Nat
  nextRefill : Nat
  tagfullDone : Bool
  busy : List (List Nat)
  deriving DecidableEq, Repr

def Tag.free : Tag := ⟨false, false, 0, 0, 0, none, [], 0, 0, 0, 0, false, 0, none⟩
def Engine.idle : Engine := ⟨none, [], 0, none⟩
def HwkSt.reset : HwkSt := ⟨[], [], [], [], 0, [], [], [], [], 100000, false, []⟩

/-- An input slot of a front-end channel (Table 6.3): its input, mode and SUB, the instant it began and its conversion boundary,
the reference it converts under, the spots repeated after an overload and the spots overloaded twice, whether a
terminal overvoltage opened it, and the crop profile's words where an apply replaced them during the conversion
(R47). -/
structure FeSlot where
  input : Nat
  start : Nat
  due : Nat
  ref : Nat
  repeated : List Nat
  overloaded : List Nat
  ovp : Bool
  susp : Bool
  profile : Option (List Word)
  deriving DecidableEq, Repr

/-- A front-end channel: the slot in progress, the inputs of the current scan still to visit, the start of the scan, and
the end of the test window after the last boundary. -/
structure FeChan where
  slot : Option FeSlot
  todo : List Nat
  scanStart : Option Nat
  freeAt : Nat
  deriving DecidableEq, Repr

/-- A front-end input: SEQ, the next history record, OVLCNT, whether its next value is the first after enable or plug-in,
conversions to discard (R226), and whether its latest entry has VALID 1. -/
structure FeInput where
  seq : Nat
  hidx : Nat
  ovl : Nat
  first : Bool
  discard : Nat
  valid : Bool
  deriving DecidableEq, Repr

/-- A held calibration point (R234): the average of its 16 conversions, one pair for a non-dielectric mode and one per
enabled spot for DIEL, and the values of its standard. -/
structure FePoint where
  avg : List (Word × Word)
  ref : Word
  refi : Word
  deriving DecidableEq, Repr

/-- The calibration (R233 to R238): the selected input, the point being measured (true: high), its conversions so far, and
the points held. -/
structure FeCal where
  sel : Option Nat
  measuring : Option Bool
  samples : List (List (Word × Word))
  lo : Option FePoint
  hi : Option FePoint
  deriving DecidableEq, Repr

/-- The front end beside its registers and entries: channels, inputs, the state of each plug contact is FE_STAT.PLUGGED,
consecutive averages of a DRIFT reference within 0.05 %, whether a REFDIS condition stands, the next second's instant,
the calibration, corrections computed by a COMMIT that are not yet in force and their input, the last sample of each plug
contact that showed it open or the start of its sampling, and the state of VREF_X before XFIT was cleared. -/
structure FeSt where
  chans : SMap FeChan
  ins : SMap FeInput
  recov : SMap Nat
  disagree : Bool
  nextAvg : Nat
  cal : FeCal
  newCorr : SMap Word
  commit : Option Nat
  opened : SMap Nat
  xHeld : Nat
  deriving DecidableEq, Repr

def FeChan.idle : FeChan := ⟨none, [], none, 0⟩
def FeInput.reset : FeInput := ⟨0, 0, 0, false, 0, false⟩
def FeCal.idle : FeCal := ⟨none, none, [], none, none⟩
def FeSt.reset : FeSt := ⟨[], [], [], false, 1000000000, FeCal.idle, [], none, [], 0⟩

/-- A layer of a column after an update (R254, Table 7.6): moisture U, grain temperature, temperature and humidity ratio of
the air leaving it, projected discharge moisture, water removed, and whether the air condenses. -/
structure ColLayer where
  u : Word
  th : Word
  tao : Word
  xao : Word
  proj : Word
  du : Word
  cond : Bool
  deriving DecidableEq, Repr

/-- The inputs of an update as sampled (Table 7.1). -/
structure ColIn where
  min : Word
  gin : Word
  tp : List Word
  q : Word
  air : List Word
  xa : Word
  deriving DecidableEq, Repr

/-- A column (R244 to R263): its state code, layers, current region, RHOS, the verdict and count of each binding with its NOD
bit, the summary of the last update that advanced it (STAT, FCAST, MDIS, TEXH), SEQ, DTB and CONF of its lines, the inputs
last sampled, the instant its HOLD began and whether in WARM, the instant it was initialised, whether it waits for
initialisation, and the instants its register inputs were last written. -/
structure Col where
  state : Nat
  layers : List ColLayer
  region : Word
  rhos : Word
  verds : List (Nat × Nat × Bool)
  stat : Word
  fcast : Word
  mdis : Word
  texh : Word
  verdWord : Word
  seq : Nat
  dtb : Nat
  conf : Word
  ins : ColIn
  holdAt : Nat
  holdWarm : Bool
  initAt : Nat
  needInit : Bool
  flags : List Word
  written : List (Option Nat)
  deriving DecidableEq, Repr

/-- The column-model engine: the columns, and the next update instant (R253). -/
structure ColSt where
  cols : SMap Col
  nextUpd : Nat
  deriving DecidableEq, Repr

def ColLayer.zero : ColLayer := ⟨0, 0, 0, 0, 0, 0, false⟩

/-- A column before its first update: OFF, its lines as R263 gives them. -/
def Col.off : Col :=
  { state := 0, layers := List.replicate 256 ColLayer.zero, region := 0xFFFFFFFF, rhos := 0x3F800000,
    verds := List.replicate 8 (0, 0, false), stat := 0, fcast := 0x7FC00000, mdis := 0, texh := 0, verdWord := 0, seq := 0,
    dtb := 0, conf := 0, ins := ⟨0, 0, [0, 0, 0, 0], 0, [0, 0, 0, 0], 0⟩, holdAt := 0, holdWarm := false, initAt := 0,
    needInit := true, flags := List.replicate 256 0, written := List.replicate 6 none }

def ColSt.reset : ColSt := ⟨[], 1000000000⟩

/-- What a trunk has selected to send (Table 9.1). -/
inductive LatSrc where
  | time
  | engine
  | entry (e : Nat)
  deriving DecidableEq, Repr

/-- A request of the sweep engine (R327): a sweep with its kind (true: wet), threshold, NMAX, time limit and tag, or a census
of a junction range. -/
inductive LatReq where
  | sweep (wet : Bool) (threshold nmax limit tag : Nat)
  | census (first last : Nat)
  deriving DecidableEq, Repr

/-- The command frame the sweep engine has to send; whether a census was asked for through the arbiter. -/
inductive LatCmd where
  | census (first last : Nat) (asked : Bool)
  | sweepOpen (wet : Bool) (threshold nmax limit tag : Nat)
  | sweepClose
  deriving DecidableEq, Repr

/-- An open sweep (R291, R327): kind, NMAX, the instant of its time limit, the latch instant, and the close reason once it is to
close. -/
structure LatSweep where
  wet : Bool
  nmax : Nat
  stop : Nat
  latch : Nat
  closing : Option Nat
  deriving DecidableEq, Repr

/-- A running census (R325): its range, the latch instant, the SOF of its CENSUS frame, the instant of the last class 8 or
END frame, and the junctions that have sent END. -/
structure LatCensus where
  first : Nat
  last : Nat
  latch : Nat
  sof : Nat
  active : Option Nat
  ends : List Nat
  deriving DecidableEq, Repr

/-- A Lathline trunk beside its registers (R304 to R332): the TIME generator (SEQ, a frame due, the stamp of the frame for
SEQ - 1 and whether it is valid, the stamp of the present frame once it ended, the STEP flag, a step since the last
instant, the next instant); the frame selected; entries marked by a cancel and SOFs sent per entry; the end of the quiet
interval; the sweep engine (command to send, sweep, census, due alarm sweep and census, the next alarm kind, the request queue,
numbers last used, the next instants); nodes written in this census or sweep; the last error-ended arbitration field and TB with
its run; the start of bus-off and of recovery counting; the last frame sent; whether a full census has completed since
the last reset (R520); the payload of the TIME frame selected and whether the DTB was stepped after its SOF; frames without ACK in a row
(R303); and the bits that the station last drove onto the wire. -/
structure Trunk where
  seq : Nat
  due : Bool
  prev : Nat
  prevOk : Bool
  sent : Option Nat
  step : Bool
  stepped : Bool
  nextTime : Nat
  sel : Option LatSrc
  marked : List Nat
  attempts : SMap Nat
  quietEnd : Nat
  cmd : Option LatCmd
  sweep : Option LatSweep
  census : Option LatCensus
  alarmDue : Bool
  censusDue : Bool
  nextWet : Bool
  reqs : List LatReq
  sweepNum : Nat
  censusNum : Nat
  nextCensus : Nat
  nextAlarm : Nat
  seen : List Nat
  collide : Nat × Nat × Nat
  offAt : Nat
  recovAt : Nat
  out : Option LatFrame
  fullDone : Bool
  pay : List Byte
  stepTx : Bool
  noAck : Nat
  wire : List Bool
  deriving DecidableEq, Repr

def Trunk.reset : Trunk :=
  { seq := 0, due := false, prev := 0, prevOk := false, sent := none, step := false, stepped := false,
    nextTime := 10000000, sel := none, marked := [], attempts := [], quietEnd := 0, cmd := none, sweep := none,
    census := none, alarmDue := false, censusDue := false, nextWet := false, reqs := [], sweepNum := 0, censusNum := 0,
    nextCensus := 0, nextAlarm := 0, seen := [], collide := (0, 0, 0), offAt := 0, recovAt := 0, out := none,
    fullDone := false, pay := [], stepTx := false, noAck := 0, wire := [] }

/-- A CAN port beside its registers (R337 to R340): the buffer in transmission, buffers marked by a cancel, the shadow
buffer's words, the start of bus-off and of recovery counting, the instant of the selection, and frames without ACK in a row (R336). -/
structure CanPort where
  sel : Option Nat
  marked : List Nat
  shadow : List Word
  offAt : Nat
  recovAt : Nat
  selAt : Nat
  noAck : Nat
  deriving DecidableEq, Repr

def CanPort.reset : CanPort := ⟨none, [], [], 0, 0, 0, 0⟩

/-- A solenoid channel beside its registers (R342 to R360): its command and the instant of its last on command; the start of
its pull-in, whether it runs from the boost rail and the SV_CUR and SV_TIME words it runs under; the running maximum of the
current, the dip, and whether the dip was decided; whether this turn-on is a retry and the end of a retry wait; off until a
new on command; tests in a row that found an open coil or a short to ground; DT; and the instant its HOLD posture began. -/
structure SvChan where
  cmd : Bool
  cmdAt : Nat
  start : Nat
  boost : Bool
  cur : Word
  time : Word
  peak : Nat
  dip : Option Nat
  judged : Bool
  retry : Bool
  waitTill : Option Nat
  tripped : Bool
  opens : Nat
  gnds : Nat
  dt : Word
  holdAt : Int
  shortAt : Option Nat
  deriving DecidableEq, Repr

/-- A solenoid bank beside its registers (R354, R355): whether a short to ground opened it, and the next retest or retry. -/
structure SvBank where
  ground : Bool
  nextTry : Nat
  deriving DecidableEq, Repr

/-- The solenoid drive: channels, banks, whether SV_BOOST_NOT_READY has been recorded in this interval, whether the rail is in
a run of hiccups, the start of the last one, and whether SV_BOOST_OK is still to come for a run (R356 to R358). -/
structure SvSt where
  chans : SMap SvChan
  banks : SMap SvBank
  notified : Bool
  hiccup : Bool
  hicAt : Nat
  owesOk : Bool
  deriving DecidableEq, Repr

def SvChan.reset : SvChan :=
  { cmd := false, cmdAt := 0, start := 0, boost := false, cur := 0, time := 0, peak := 0, dip := none, judged := false,
    retry := false, waitTill := none, tripped := false, opens := 0, gnds := 0, dt := 0, holdAt := 0, shortAt := none }
def SvBank.reset : SvBank := ⟨false, 0⟩
def SvSt.reset : SvSt := ⟨[], [], false, false, 0, false⟩

/-- A fan channel beside its registers (R361 to R372): the command in force (none: posture) and the one that reached the
channel after it, the start of its HOLD posture and whether it has ended; the output in force, the output under rows 6 to 8 and the last
under row 7 or 8; the kick running, one asked for and one that ended early; the instants the output rose above STOPTH and
the last kick started, since when the channel is out of or within bounds, and the next kick of a failed channel; the
table's value; the last pulse intervals and the last pulse; output and supply faults; and the next reload tick. -/
structure FanChan where
  cmd : Option Word
  next : Option (Nat × Option Word)
  holdAt : Option Int
  holdOver : Bool
  out : Word
  base : Word
  last : Word
  kick : Option Nat
  kickReq : Bool
  kickEnd : Bool
  restart : Bool
  aboveAt : Nat
  lastKick : Nat
  badSince : Option Nat
  goodSince : Option Nat
  kickDue : Nat
  tab : Word
  gaps : List Nat
  lastPulse : Option Nat
  outOff : Option Nat
  supOff : Option Nat
  reloadAt : Nat
  deriving DecidableEq, Repr

def FanChan.reset : FanChan :=
  { cmd := none, next := none, holdAt := none, holdOver := false, out := 0, base := 0, last := 0, kick := none,
    kickReq := false, kickEnd := false, restart := false, aboveAt := 0, lastKick := 0, badSince := none, goodSince := none,
    kickDue := 0, tab := 0, gaps := [], lastPulse := none, outOff := none, supOff := none, reloadAt := 0 }

/-- A place in a Key-link stream at which a receiver tests frames (R394): the bits of the frame under way, the latest first, and
their number; the frames that passed in a row, the SEQ of the last one, and how many of them in a row carried RUN 1. -/
structure KeyCand where
  n : Nat
  got : List Bool
  passes : Nat
  seq : Nat
  run : Nat
  deriving DecidableEq, Repr

/-- A Key-link receiver (R392, R394): in SEARCH the bits seen, up to 32, the last 32 of them and the candidates; in lock the
frame under way and the invalid frames in a row. -/
structure KeyRx where
  seen : Nat
  reg : Nat
  cands : List KeyCand
  lock : Option KeyCand
  bad : Nat
  deriving DecidableEq, Repr

def KeyRx.reset : KeyRx := ⟨0, 0, [], none, 0⟩

/-- A downstream frame (Table 11.6): SEQ, its start, RUN, APPLY, POST and q by channel, DIO_KCFG, the 16 CFG slots (channel,
DIO_CFG, DIO_TIM, or none), and the channels whose CLEAR goes with it. -/
structure KeyFrame where
  seq : Nat
  start : Nat
  run : Bool
  apply : Bool
  outs : List (Bool × Nat)
  common : Word
  slots : List (Option (Nat × Word × Word))
  clears : List Nat
  deriving DecidableEq, Repr

/-- What the field side puts into an upstream frame at its sample instant (Table 11.7), beside what it measures there: the
filtered states are those of the inputs that count edges; `cfgs` and `common` are the DIO_CFG words and COMMON in force then. -/
structure UpFrame where
  seq : Nat
  start : Nat
  echo : Nat
  locked : Bool
  checked : Bool
  safe : Bool
  levels : List (Nat × Bool)
  cfgs : List Word
  common : Word
  chst : List Nat
  counts : List Word
  freqs : List Word
  dcrc : Nat
  safeCnt : Nat
  deriving DecidableEq, Repr

/-- What the field side measures for an upstream frame (Table 11.7): the states, FIELD in 10 mV, its temperature and the status
words. -/
structure UpValues where
  ins : Nat
  fv : Nat
  temp : Nat
  chst : List Nat
  deriving DecidableEq, Repr

/-- A channel on the field side (R378 to R389): its DIO_CFG and DIO_TIM; the command of the last frame and q; whether the
switch is to be on and is on; whether OMODE PWM is in force, its next reload and the PER, PSC and duty loaded;
posture with its start and, in HOLD, its length, ns; the short, latch, failed retries, whether this turn-on is a retry and the end of a retry wait; the
other faults; and the counter: COUNT, the edges of this gate with the first, the last and the latest instant, the last
frequency, FOVR and whether a gate has ended, and the last gate end; the instant the switch turned on; and the input filter: the
filtered state, the last sample, the samples in a row that differ from the filtered state, and the instant samples are known to. -/
structure FieldChan where
  cfg : Word
  tim : Word
  cmdOn : Bool
  q : Nat
  want : Bool
  on : Bool
  pwm : Bool
  reloadAt : Nat
  loaded : Nat × Nat × Nat
  inPost : Bool
  holdAt : Int
  holdNs : Option Nat
  short : Bool
  latch : Bool
  fails : Nat
  retry : Bool
  waitTill : Option Nat
  opened : Bool
  vshort : Bool
  ot : Bool
  count : Word
  edges : Nat
  tFirst : Nat
  tLast : Nat
  latest : Option Nat
  freq : Word
  fovr : Bool
  gated : Bool
  lastGate : Nat
  onAt : Nat
  level : Bool
  raw : Bool
  diff : Nat
  smpAt : Nat
  deriving DecidableEq, Repr

/-- The field side (R385 to R398): whether it is powered, its receiver, the frames of a Key-link check, whether outputs follow
frames and since when, SAFE with its count, CRC failures, the last valid frame applied, COMMON, its channels, its frame count, the SEQ of the
last valid frame, and since when it runs. -/
structure FieldSide where
  powered : Bool
  rx : KeyRx
  run : Nat
  checked : Bool
  checkAt : Nat
  safe : Bool
  safeCnt : Nat
  dcrc : Nat
  lastValid : Nat
  common : Word
  chans : SMap FieldChan
  seq : Nat
  echo : Nat
  upAt : Nat
  deriving DecidableEq, Repr

/-- The Key link and the field side (R390 to R398): SEQ and the instant of the next downstream frame, whether the DIO block is
held in reset, the island's frames (1: its first is due, 2: it has gone), COMMON as last active, the frames under way, CLEARs to carry,
channels whose apply took effect at this frame, the upstream frames under way, the logic side's receiver, when it entered lock, its last valid frame and whether the stream was
lost after being valid, the status words of that frame, the applies that restart a counter's gate, since when the receiver runs,
and the field side. -/
structure DioSt where
  seq : Nat
  nextDown : Nat
  held : Bool
  island : Nat
  common : Word
  flight : List KeyFrame
  clears : List Nat
  applied : List Nat
  up : List UpFrame
  rx : KeyRx
  lockAt : Nat
  lastAt : Nat
  lastSeq : Nat
  lost : Bool
  chst : List Nat
  regate : SMap Nat
  rxFrom : Nat
  field : FieldSide
  deriving DecidableEq, Repr

def FieldChan.off : FieldChan :=
  { cfg := 0, tim := 0, cmdOn := false, q := 0, want := false, on := false, pwm := false, reloadAt := 0, loaded := (0, 0, 0), inPost := true,
    holdAt := 0, holdNs := none, short := false, latch := false, fails := 0, retry := false, waitTill := none, opened := false, vshort := false,
    ot := false, count := 0, edges := 0, tFirst := 0, tLast := 0, latest := none, freq := 0, fovr := false, gated := false,
    lastGate := 0, onAt := 0, level := false, raw := false, diff := 0, smpAt := 0 }

/-- DIO_KCFG where no I/O set is stored (R400): LOSS 5 and PSPER 10. -/
def keyCommonReset : Word := 0x000A0005

/-- A field side without power. -/
def FieldSide.dark : FieldSide :=
  { powered := false, rx := KeyRx.reset, run := 0, checked := false, checkAt := 0, safe := false, safeCnt := 0, dcrc := 0,
    lastValid := 0, common := 0, chans := [], seq := 0, echo := 0, upAt := 0 }

def DioSt.reset : DioSt :=
  { seq := 0, nextDown := 0, held := false, island := 0, common := keyCommonReset, flight := [], clears := [], applied := [], up := [],
    rx := KeyRx.reset, lockAt := 0, lastAt := 0, lastSeq := 0, lost := false, chst := [], regate := [], rxFrom := 0, field := FieldSide.dark }

/-- An event handed to the recorder (R404): its code, the cell it concerns, its origin stamp, the instant it was
handed over and the words of its body. -/
structure Event where
  code : Nat
  cell : Nat
  stamp : Nat
  handedAt : Nat
  body : List Word
  deriving DecidableEq, Repr

/-- An accepted record (Table 12.1); `flags` holds CONC, LATE, STEP and FLUSHED. -/
structure Record where
  code : Nat
  cell : Nat
  flags : Nat
  seq : Nat
  stamp : Nat
  hours : Nat
  pcc : Nat
  adtb : Nat
  body : List Word
  /-- the cells a REC_SUMMARY names in its pair words (R408, R414); empty for every other record -/
  named : List Nat
  deriving DecidableEq, Repr

/-- A token bucket (R407, R408): tokens spent, gain ticks taken since the bucket's clock started, occurrences
suppressed with their first and last stamps, lowest and highest code, and their count by cell. -/
structure Bucket where
  spent : Nat
  ticks : Nat
  supp : Nat
  first : Nat
  last : Nat
  lowCode : Nat
  highCode : Nat
  cells : SMap Nat
  deriving DecidableEq, Repr

/-- The records dropped since the last REC_OVERFLOW (R409). -/
structure Drops where
  count : Nat
  bytes : Nat
  first : Nat
  last : Nat
  lowCode : Nat
  highCode : Nat
  deriving DecidableEq, Repr

/-- A released record at its place in the log (R412): its CRC as stored and the bytes of the log data it covers. -/
structure LogRec where
  record : Record
  crc : Word
  start : Nat
  stop : Nat
  deriving DecidableEq, Repr

/-- One slot of the marker ring (R413). -/
structure Marker where
  hours : Nat
  pcc : Nat
  next : Nat
  clean : Bool
  crcOk : Bool
  deriving DecidableEq, Repr

/-- A read-window fill in progress (R415): its REC_CURSOR mode and the REC_CSEQ it starts from. -/
structure Fill where
  mode : Nat
  cseq : Nat
  deriving DecidableEq, Repr

/-- A commit record of a stored set (R419): its bank, sequence number, the length and CRC of the bank content, and
whether its own CRC passes. -/
structure Commit where
  bank : Bool
  seq : Nat
  len : Nat
  crc : Word
  ownOk : Bool
  deriving DecidableEq, Repr

/-- A stored set (R419 to R422): the contents of banks A and B, the commit ring newest first, the sequence number and
bank in force, whether FALLBACK shows, a store
asked for and not yet started, a store pending to the end of its second, the snapshot of a store running with the accesses of its
steps 2 and 3 still to run and the step that meets an error (0: none), and the instant the last store started. -/
structure NvSet where
  bankA : SMap Word
  bankB : SMap Word
  ring : List Commit
  seq : Nat
  bank : Bool
  fallback : Bool
  requested : Bool
  pending : Bool
  storing : Option (SMap Word)
  left : Nat
  failing : Nat
  lastStart : Option Nat
  deriving DecidableEq, Repr

/-- Why a flush runs (R412). -/
inductive FlushWhy where
  | command
  | tierT5
  | reset
  | island
  deriving DecidableEq, Repr

/-- The recorder and the non-volatile store (R402 to R424). -/
structure RecSt where
  /-- events handed over and not yet accepted, in order of arrival (R404, R413) -/
  handed : List Event
  /-- accepted records not yet released, in order of SEQ (R406, R410) -/
  staged : List Record
  /-- token buckets by code; those of range 0xF by 4096 + cell (R407) -/
  buckets : SMap Bucket
  /-- the instant each range's gain clocks started: the reset or its last apply (R407) -/
  rlBase : SMap Nat
  drops : Drops
  /-- the latest t0 of a group already released (R410) -/
  releasedT0 : Option Nat
  /-- the next record accepted carries STEP (R410) -/
  stepNext : Bool
  /-- released records of the log ring in log order (R411, R412) -/
  log : List LogRec
  /-- bytes of record data placed in the log so far -/
  logPos : Nat
  /-- log lines written so far; line n is slot n mod 180,224 of the ring -/
  linesWritten : Nat
  flush : Option FlushWhy
  flushStart : Nat
  /-- bytes of the log written when the flush in progress started -/
  flushFrom : Nat
  markers : List Marker
  lastMarker : Nat
  /-- window fills in progress, by cell (R415) -/
  fills : SMap Fill
  /-- the stored sets 0 to 15 (R419) -/
  sets : SMap NvSet
  /-- the cell areas: byte `offset` of cell c at key 4096 * c + offset (R417, R418) -/
  cellNv : SMap Byte
  /-- while a locked sequence of WRITEs runs, its head tag and the cell areas before it (R418) -/
  nvUndo : Option (Nat × SMap Byte)
  /-- the flag word of the last REC_START (R413, R460) -/
  startFlags : Nat
  /-- line writes to the cell pool so far (R424) -/
  poolWrites : Nat
  /-- the instant the operating hours last advanced (R413) -/
  hoursAt : Nat
  deriving DecidableEq, Repr

/-- The backup domain beside its registers (R425 to R431): the count in ticks of 1/65,536 s, the ticks since the last
TRIM adjustment, ticks still to omit, the DTB of the last crystal edge, RTC_SWCNT at the previous start, and the bytes
of backup RAM whose parity fails. -/
structure RtcSt where
  ticks : Nat
  trimPhase : Nat
  toOmit : Nat
  lastEdge : Nat
  swcntAtStart : Nat
  badParity : SMap Bool
  deriving DecidableEq, Repr

/-- A full bucket with nothing suppressed, as after reset (R407). -/
def Bucket.full : Bucket := ⟨0, 0, 0, 0, 0, 0, 0, []⟩

/-- No drops (R409). -/
def Drops.none : Drops := ⟨0, 0, 0, 0, 0, 0⟩

/-- A set that has never been stored (R422). -/
def NvSet.absent : NvSet := ⟨[], [], [], 0, false, false, false, false, Option.none, 0, 0, Option.none⟩

/-- The recorder of a module that has never recorded anything (R413). -/
def RecSt.reset : RecSt :=
  { handed := [], staged := [], buckets := [], rlBase := [], drops := Drops.none, releasedT0 := none,
    stepNext := false, log := [], logPos := 0, linesWritten := 0, flush := none, flushStart := 0,
    flushFrom := 0, markers := [], lastMarker := 0, fills := [], sets := [], cellNv := [],
    nvUndo := none, startFlags := 0, poolWrites := 0, hoursAt := 0 }

/-- The backup domain after a loss of all its power (R431). -/
def RtcSt.reset : RtcSt :=
  { ticks := 0, trimPhase := 0, toOmit := 0, lastEdge := 0, swcntAtStart := 0, badParity := [] }

/-- An image load of a session (R455, Table 13.4): its target cell, TOTAL, the bytes written and where, whether IMG_END has been
accepted and the load has ended (the state of IMG_STATUS), its result, and the instant of the last IMG_DATA. -/
structure HapLoad where
  cell : Nat
  total : Nat
  bytes : SMap Byte
  written : List (Nat × Nat)
  state : Nat
  result : Nat
  lastData : Nat
  deriving DecidableEq, Repr

/-- A change of a stored set that waits for its commit (R456, R457): the set, the session, SEQ, links and message type of the request,
the code and body of the record that goes with it, and whether the store that holds it has started. -/
structure HapWait where
  set : Nat
  sid : Nat
  seq : Nat
  links : List Nat
  type : Nat
  code : Nat
  body : List Word
  started : Bool
  deriving DecidableEq, Repr

/-- A HAP session (R449 to R453): the cell and rights of its credential at opening, the session key, the highest SEQ executed,
the SEQ values executed at or below it, the replies of the 8 latest executed (none while one waits for a store), the last valid request, and its image load. -/
structure Session where
  cell : Nat
  rights : Nat
  key : List Byte
  high : Option Nat
  done : List Nat
  cache : List (Nat × Option (List Byte))
  lastAt : Nat
  load : Option HapLoad
  deriving DecidableEq, Repr

/-- A gPTP instance (R441, R442): asCapable, the last Announce with its interval, the grandmaster's priority vector and
identity, the last Sync with its interval and the run of intervals that had one, the mean link delay, the egress time
of the last Pdelay_Req, and whether the instance is synchronised. -/
structure Ptp where
  capable : Bool
  annAt : Option Nat
  annInt : Nat
  prio : Nat
  gm : Nat
  syncAt : Option Nat
  syncInt : Nat
  run : Nat
  delay : Int
  reqAt : Option Nat
  nextReq : Nat
  synced : Bool
  deriving DecidableEq, Repr

def Ptp.reset : Ptp := ⟨false, none, 0, 0, 0, none, 0, 0, 0, none, 0, false⟩

/-- What the module last sent on a link or through the tag: the port (0 HL-A, 1 HL-B, 2 the tag), the kind of message and its
bytes. -/
structure Sent where
  port : Nat
  kind : Nat
  bytes : List Byte
  deriving DecidableEq, Repr

/-- The host links beside their registers (R434 to R445): the instances, the disciplining link, the rate correction's remainder (in 1e-9 ns), the next cable
diagnostics, failed OPENs by credential with their instants, the end of each block, the key and credential values that wait for a
commit by register key, the requests that wait for it, the reason for which each link went down last, and the last message sent. -/
structure HostSt where
  ptps : SMap Ptp
  disc : Option Nat
  rateAcc : Int
  nextDiag : SMap Nat
  fails : SMap (List Nat)
  blocked : SMap Nat
  newVals : SMap Word
  waits : List HapWait
  upReason : SMap Nat
  sent : Option Sent
  deriving DecidableEq, Repr

def HostSt.reset : HostSt := ⟨[], none, 0, [], [], [], [], [], [], none⟩

/-- The front face beside its registers (R465 to R468): the instants each key went down and was released, the start of a LOCAL
hold, the start of the LED test, the last press, and the last plug-in recognised. -/
structure FaceSt where
  downAt : SMap Nat
  upAt : SMap Nat
  localAt : Option Nat
  testAt : Option Nat
  lastPress : Nat
  probeAt : Option Nat
  deriving DecidableEq, Repr

def FaceSt.reset : FaceSt := ⟨[], [], none, none, 0, none⟩

/-- The service tag (R459 to R464): its memory, the block the field holds with its data and the end of the write command, the wired write running, whether
the mailbox is to be read, the heads written to the status ring with the place in the log where the newest ends, and the next status write and antenna
check. -/
structure TagSt where
  mem : SMap Byte
  hold : Option (Nat × List Byte × Nat)
  wired : Option (Nat × List Byte × Nat)
  mbxDue : Bool
  heads : Nat
  headPos : Nat
  nextStatus : Nat
  nextCheck : Nat
  deriving DecidableEq, Repr

def TagSt.reset : TagSt := ⟨[], none, none, false, 0, 0, 0, 0⟩

/-- The field switch (R479 to R481): the three miswiring cases that hold, the latch, the trip whose retry is awaited, the instant since
which the switch has been closed, and whether the loads have their supply. -/
structure FieldSw where
  rev : Bool
  ov : Bool
  uv : Bool
  latched : Bool
  tripAt : Option Nat
  startAt : Option Nat
  on : Bool
  deriving DecidableEq, Repr

def FieldSw.reset : FieldSw := ⟨false, false, false, false, none, none, false⟩

/-- The power manager beside its registers (R478 to R494): the number of tiers in force (T1 to T<deepest>); of the dip in progress its
start, the minimum of VIN (10 mV) with its instant, the minima of LOGIC-A and LOGIC-B, its deepest tier, whether a thermal and
a forced demand stood, and the last instant a sample was at or below 18.5 V; the next restoration; the instants since which TB has been at or above
each threshold, and 5 degrees below that of the tier demanded; the highest TB and TJ and the deepest tier of the thermal episode; the cause of a power-down
and whether a thermal one holds power-on reset; the field switch; a hold-up test under way and the last one; the next VBAK measurement;
the latest two samples of VIN in the dip (R478); the instant of the first sample (R489), and the sample in which a tier last took effect
(R487). -/
structure PwrSt where
  deepest : Nat
  dipStart : Nat
  dipMin : Nat
  dipMinAt : Nat
  minA : Nat
  minB : Nat
  dipDeep : Nat
  dipThermal : Bool
  dipForced : Bool
  lastLow : Nat
  nextRestore : Nat
  rise : List (Option Nat)
  fall : Option Nat
  hiTb : Int
  hiTj : Int
  thDeep : Nat
  down : Option Nat
  thermalHold : Bool
  field : FieldSw
  testAt : Option Nat
  testedAt : Option Nat
  nextVbak : Nat
  hist : List Nat
  sampleAt : Int
  tierAt : Option Int
  deriving DecidableEq, Repr

def PwrSt.reset : PwrSt :=
  { deepest := 0, dipStart := 0, dipMin := 0, dipMinAt := 0, minA := 0, minB := 0, dipDeep := 0, dipThermal := false,
    dipForced := false, lastLow := 0, nextRestore := 0, rise := [none, none, none, none, none], fall := none, hiTb := 0,
    hiTj := 0, thDeep := 0, down := none, thermalHold := false, field := FieldSw.reset, testAt := none, testedAt := none,
    nextVbak := 0, hist := [], sampleAt := 0, tierAt := none }

/-- A relock (R504): the instant it started, that of the present attempt's restart, and the attempts begun. -/
structure Relock where
  since : Nat
  tried : Nat
  tries : Nat
  deriving DecidableEq, Repr

/-- A reset sequence (R510, R511): its scope (0 power-on, 1 system, 2 block), first cause, the mask of causes merged, the blocks of
a block reset, whether its flush is done, whether reset is asserted, and whether CTL_RESET has been recorded for it. -/
structure ResetRun where
  scope : Nat
  cause : Nat
  mask : Nat
  blocks : Nat
  flushed : Bool
  asserted : Bool
  recorded : Bool
  deriving DecidableEq, Repr

/-- An action of the safety island (R517 to R519): its trigger, the instant, the operations asked for and not begun, those begun, the
blocks whose channels they name (4 SV, 5 FAN, 6 DIO), whether a flush runs for it, the µs that the operations begun took (3 apart), and
whether CTL_ISLAND has been recorded. -/
structure IslandAct where
  trig : Nat
  since : Nat
  todo : List Nat
  begun : List Nat
  blocks : List Nat
  flushing : Bool
  took : List (Nat × Nat)
  recorded : Bool
  deriving DecidableEq, Repr

/-- Clocks, resets, the safety island and start-up (R499 to R526): a relock; what is left to the watchdog's expiry, ns, while armed; the
last heartbeat; the reset sequence and the island's action in progress; a power-on reset in force with its cause, whether the
island holds it, the next retry and the instant of the failure; whether the RTC has been handed over; the instants of the last
release, of step 5 and of step 12; whether steps 13 and the lateness of step 14 have been recorded; and the blocks whose reset
postures stand (R515). -/
structure CtlSt where
  relock : Option Relock
  wdLeft : Option Nat
  beat : Nat
  run : Option ResetRun
  island : Option IslandAct
  por : Option Nat
  held : Bool
  nextRetry : Nat
  failAt : Nat
  rtcHanded : Bool
  relAt : Nat
  tSets : Nat
  house : Option Nat
  live : Bool
  late : Bool
  posts : List Nat
  deriving DecidableEq, Repr

/-- The state at power-on: the reset is in force, with cause VIN. -/
def CtlSt.reset : CtlSt :=
  { relock := none, wdLeft := none, beat := 0, run := none, island := none, por := some 0, held := false, nextRetry := 0,
    failAt := 0, rtcHanded := false, relAt := 0, tSets := 0, house := none, live := false, late := false, posts := [] }

/-- Reasons a step can stop with a fault.  No command of this block raises one: the type is kept for the host's
interface.  Safe. -/
inductive Fault where
  /-- Raised by no command.  Safe. -/
  | none
  deriving DecidableEq, Repr

/-- Reasons a step can be refused. -/
inductive Refusal where
  /-- The command has no meaning in the model yet; raised by `exec` alone.  Safe. -/
  | notModelled (mnemonic : String)
  deriving DecidableEq, Repr

/-- The module.  Every register of the register area is in `act` (active values) and `shd` (shadow values that have been
written since the last apply or discard, R43), by absolute address; a register that a block banks by cell, loop or
session is kept at `address + (bank + 1) * 2^32`. -/
structure State where
  /-- commands waiting, first in, first out -/
  pending : List Instr
  /-- the device timebase, ns (R23) -/
  dtb : Nat
  /-- active register values that differ from their reset values -/
  act : SMap Word
  /-- shadow values of staged registers written since the last apply or discard -/
  shd : SMap Word
  /-- register pages with a pending apply, by page base -/
  pend : SMap Pend
  /-- the next frame boundary to act (R46) -/
  nextFrame : Nat
  /-- the value the last register read returned to its reader -/
  answer : Word
  /-- free values drawn so far: the model's own field, by which each open value is a fresh one -/
  drawn : Nat
  loops : SMap Loop
  pairs : SMap Pair
  slots : SMap Slot
  cells : SMap Cell
  placer : Placer
  /-- the field image (R28) by word: node entry a at 128 * a, front-end entry i at 2^27 + 128 * i, column d at
  2^28 + 4096 * d -/
  image : SMap Word
  /-- lines of the field image marked under R30, by line: word key / 16 -/
  marked : SMap Bool
  hwk : HwkSt
  traces : SMap Trace
  pwr : PwrSt
  sessions : SMap Session
  fe : FeSt
  col : ColSt
  trunks : SMap Trunk
  /-- the latch instant plus 1 of each node's last history record (R323) -/
  nodeHist : SMap Nat
  ports : SMap CanPort
  sv : SvSt
  fans : SMap FanChan
  dio : DioSt
  host : HostSt
  face : FaceSt
  svcTag : TagSt
  recd : RecSt
  rtc : RtcSt
  ctl : CtlSt
  deriving DecidableEq, Repr

/-- The module right after reset (R16, R20, R509): every register at its reset value, a power-on reset in force that
`POWER_ON_RESET_RELEASE` releases, memories with nothing listed, no command waiting. -/
def State.reset : State :=
  { pending := [], dtb := 0, act := [], shd := [], pend := [], nextFrame := 10000, answer := 0, drawn := 0,
    loops := [], pairs := [], slots := [], cells := [], placer := Placer.reset, image := [], marked := [],
    hwk := HwkSt.reset, traces := [], pwr := PwrSt.reset, sessions := [],
    fe := FeSt.reset, col := ColSt.reset, trunks := [], nodeHist := [], ports := [], sv := SvSt.reset, fans := [], dio := DioSt.reset,
    host := HostSt.reset, face := FaceSt.reset, svcTag := TagSt.reset, recd := RecSt.reset, rtc := RtcSt.reset,
    ctl := CtlSt.reset }

end Sys2Proof.Machine
end

