-- ==== Sys2Proof/Machine/Ops.lean ====
section
/-! DEFINITION. The named operations every block shares: reading and writing registers by address, register banks,
bytes and words of memories, frame boundaries, handing an event to the recorder. -/
namespace Sys2Proof.Machine

/-- The outcome of a command that takes the machine to a next state. -/
abbrev Out := Host.Outcome State Fault Refusal

/-! ### Registers -/

/-- The key of register `a` in bank `b`: a cell, a loop or a session for which a block keeps its own copy. -/
def bk (b a : Nat) : Nat := a + (b + 1) * 0x100000000

/-- The banked registers of a reader that has not read yet (R184, R426, R524). -/
def State.freshBank (s : State) (b : Nat) : State :=
  { s with act := [Reg.RTC_SECL, Reg.RTC_SECH, Reg.CLK_DTBH, Reg.HWK_SRES].foldl (fun m a => mdel (bk b a) m) s.act }

/-- The address of a register key, with its bank taken away. -/
def addrOf (k : Nat) : Nat := k % 0x100000000

/-- The bank of a register key: 0 where the register is not banked, else the bank number plus 1. -/
def bankOf (k : Nat) : Nat := k / 0x100000000

/-- Whether a line of the register table covers an address. -/
def RegRow.covers (r : RegRow) (a : Nat) : Bool :=
  let d := a - r.base
  let e := d % r.s1
  decide (r.base ≤ a) && decide (d / r.s1 < r.n1) && (e % r.s2 == 0) && decide (e / r.s2 < r.n2)

/-- The register table of the block that holds an address (Table 1.6). -/
def blockRegs (a : Nat) : List RegRow :=
  if a < 0x40000000 then []
  else if a < 0x40010000 then regsCTL
  else if a < 0x40020000 then regsPWR
  else if a < 0x40030000 then regsCLK
  else if a < 0x40040000 then regsPLC
  else if a < 0x40050000 then regsHWK
  else if a < 0x40100000 then []
  else if a < 0x40180000 then regsFE
  else if a < 0x40200000 then regsCOL
  else if a < 0x40300000 then regsLAT
  else if a < 0x40400000 then regsCAN
  else if a < 0x40480000 then regsSV
  else if a < 0x40500000 then regsFAN
  else if a < 0x40600000 then regsDIO
  else if a < 0x40680000 then regsREC
  else if a < 0x40700000 then regsRTC
  else if a < 0x40780000 then regsHST
  else if a < 0x40800000 then regsTAG
  else if a < 0x41000000 then regsTRC
  else []

/-- The line of the register table for an address, where a register occupies it (R19). -/
def regRow (a : Nat) : Option RegRow := (blockRegs a).find? fun r => r.covers a

/-- The weight and priority a cell has where no arbiter table is stored (R202): weight 1 and priority 0, and for cell
0 weight 16 and priority 3. -/
def weightReset (a : Nat) : Word := if a = 0x40041000 then 0x310 else 0x001

/-- The grant of a cell where none is stored (R172): cell 0 holds every register page, slot, entry and column, node
range 0 over all nodes, 4,096 memory units, 8,192 loops, 255 pins and key slot 0; every other cell holds nothing. -/
def grantReset (k : Nat) : Word :=
  let a := addrOf k
  if bankOf k ≠ 1 then 0
  else if a = Reg.PLC_GMEM then 0x1000
  else if a = Reg.PLC_GQUOTA then 0x00FF2000
  else if a < Reg.PLC_GSLOT 3 then 0xFFFFFFFF
  else if a = Reg.PLC_GSLOT 3 then 0xFF
  else if a ≤ Reg.PLC_GFE 5 then 0xFFFFFFFF
  else if a = Reg.PLC_GCOL then 0xFFFF
  else if a = Reg.PLC_GNBASE 0 then 0x80000000
  else if a = Reg.PLC_GNCNT 0 then 0x00100000
  else if Reg.PLC_GPAGE 0 ≤ a && decide (a ≤ Reg.PLC_GPAGE 127) then 0xFFFFFFFF
  else 0

/-- The reset value of the register with a given key (R20), or the value it takes where no stored set gives it; HL-B's address is
169.254.11.2 (R470), and credential 0 always has cell 0 and rights 0xF (R448). -/
def resetOf (k : Nat) : Word :=
  let a := addrOf k
  if 0x40041000 ≤ a && decide (a < 0x40042800) && decide (a % 0x1000 < 0x800) then weightReset a
  else if 0x40032010 ≤ a && decide (a < 0x40032600) then grantReset k
  else if a = Reg.HST_IP 1 then 0xA9FE0B02
  else if a = Reg.HST_CRED 0 then 0x3C00
  else match regRow a with
    | some r => w32 r.reset
    | none => 0

/-- The active value of a register. -/
def State.reg (s : State) (k : Nat) : Word := mget (resetOf k) k s.act

/-- The state with a register's active value replaced. -/
def State.setReg (s : State) (k : Nat) (w : Word) : State := { s with act := mset (resetOf k) k w s.act }

/-- The shadow value of a staged register: what was written since the last apply or discard, else the active value
(R43). -/
def State.shadow (s : State) (k : Nat) : Word := mget (s.reg k) k s.shd

/-- The state with a register's shadow value replaced. -/
def State.setShadow (s : State) (k : Nat) (w : Word) : State := { s with shd := mins k w (mdel k s.shd) }

/-- A field of a register's active value. -/
def State.regF (s : State) (k hi lo : Nat) : Nat := fld (s.reg k) hi lo

/-- A bit of a register's active value. -/
def State.regB (s : State) (k i : Nat) : Bool := bitAt (s.reg k) i

/-- The state with a field of a register replaced. -/
def State.setRegF (s : State) (k hi lo v : Nat) : State := s.setReg k (setFld (s.reg k) hi lo v)

/-- The state with a bit of a register replaced. -/
def State.setRegB (s : State) (k i : Nat) (b : Bool) : State := s.setReg k (setBit (s.reg k) i b)

/-- A counting register advanced by `n`, holding at `max`. -/
def State.countReg (s : State) (k hi lo max n : Nat) : State :=
  s.setRegF k hi lo (sat max (s.regF k hi lo + n))

/-! ### Memories -/

/-- The little-endian word at a byte address of a byte memory (R9). -/
def memWord (m : SMap Byte) (a : Nat) : Word :=
  w32 ((mget 0 a m).toNat + 0x100 * (mget 0 (a + 1) m).toNat + 0x10000 * (mget 0 (a + 2) m).toNat
    + 0x1000000 * (mget 0 (a + 3) m).toNat)

/-- `n` bytes of a value, low byte first. -/
def bytesOf : Nat → Nat → List Byte
  | 0, _ => []
  | n + 1, v => BitVec.ofNat 8 v :: bytesOf n (v / 256)

/-- The number whose little-endian bytes are given. -/
def ofBytes : List Byte → Nat
  | [] => 0
  | b :: t => b.toNat + 256 * ofBytes t

/-- The bytes of words, each low byte first. -/
def wordBytes (ws : List Word) : List Byte := ws.flatMap fun w => bytesOf 4 w.toNat

/-- A memory with a word written at a byte address. -/
def memSetWord (m : SMap Byte) (a : Nat) (w : Word) : SMap Byte := msetList 0 a (bytesOf 4 w.toNat) m

/-! ### Time and events -/

/-- The first frame boundary after an instant (R46). -/
def frameAfter (t : Nat) : Nat := (t / 10000 + 1) * 10000

/-- Whether the next frame boundary after an event has come. -/
def State.boundaryPast (s : State) (t : Nat) : Bool := decide (frameAfter t ≤ s.dtb)

/-- An event decided at `stamp` and handed to the recorder now (R404). -/
def State.emitAt (s : State) (stamp code cell : Nat) (body : List Word) : State :=
  { s with recd := { s.recd with handed := s.recd.handed ++ [⟨code, cell, stamp, s.dtb, body⟩] } }

/-- An event decided and handed to the recorder now. -/
def State.emit (s : State) (code cell : Nat) (body : List Word) : State := s.emitAt s.dtb code cell body

/-- The two words of a DTB value, low word first (R403). -/
def dtbWords (t : Nat) : List Word := [w32 t, w32 (t / 0x100000000)]

/-! ### Parts of the state by number -/

def State.loop (s : State) (l : Nat) : Loop := mget Loop.free l s.loops
def State.setLoop (s : State) (l : Nat) (x : Loop) : State := { s with loops := mset Loop.free l x s.loops }
def State.pair (s : State) (p : Nat) : Pair := mget Pair.starting p s.pairs
def State.setPair (s : State) (p : Nat) (x : Pair) : State := { s with pairs := mset Pair.starting p x s.pairs }
def State.slot (s : State) (n : Nat) : Slot := mget Slot.empty n s.slots
def State.setSlot (s : State) (n : Nat) (x : Slot) : State := { s with slots := mset Slot.empty n x s.slots }
def State.cell (s : State) (c : Nat) : Cell := mget Cell.empty c s.cells
def State.setCell (s : State) (c : Nat) (x : Cell) : State := { s with cells := mset Cell.empty c x s.cells }

/-- Pairs, loops, cells and slots of the module (Table 0.5, R33). -/
def allPairs : List Nat := List.range 32
def slotCount : Nat := 104

/-- The loops that are not free, by number. -/
def State.liveLoops (s : State) : List (Nat × Loop) := s.loops.filter fun e => e.2.state != .free

/-- The loops of a cell. -/
def State.loopsOf (s : State) (c : Nat) : List (Nat × Loop) := s.liveLoops.filter fun e => e.2.cell == c

/-- A free value (R71 and others): the state advances past it, so each is a fresh one. -/
def State.free (s : State) : Nat := Config.freeNat s.drawn
def State.draw (s : State) : State := { s with drawn := s.drawn + 1 }

/-- Whether the PLL is out of use: a relock runs and the clocks are CLK_SAFE (R504, R505). -/
def State.onSafe (s : State) : Bool := s.regF Reg.CLK_STAT 31 30 != 0

/-- Whether tier Tn is shed. -/
def State.shed (s : State) (n : Nat) : Bool := decide (n ≤ s.pwr.deepest)

end Sys2Proof.Machine
end

