-- ==== Sys2Proof/Machine/Stipple.lean ====
section
/-! DEFINITION. Trace capture, Stipple (R98 of 02_mbarov_isa.md; R139 to R146 of 03_control_laws.md). -/
namespace Sys2Proof.Machine

def State.trace (s : State) (n : Nat) : Trace := mget Trace.empty n s.traces
def State.setTrace (s : State) (n : Nat) (x : Trace) : State := { s with traces := mset Trace.empty n x s.traces }

/-- The 16 buffers, their 8 selectors and the entries of one (R139). -/
def allTraces : List Nat := List.range 16
def allSelectors : List Nat := List.range 8
def traceEntries : Nat := 16384

/-- MODE of a buffer (R142): 0 off, 1 wrap, 2 one-shot, 3 triggered. -/
def State.trcMode (s : State) (n : Nat) : Nat := s.regF (Reg.TRC_CFG n) 31 30

/-- Whether a buffer is capturing: a mode in force, neither full nor stopped by T1. -/
def State.trcCapturing (s : State) (n : Nat) : Bool :=
  s.trcMode n != 0 && !s.regB (Reg.TRC_STAT n) 20 && !s.regB (Reg.TRC_STAT n) 21

/-- STAT.RUN of a buffer and its bit of TRC_GSTAT brought up to date. -/
def State.trcRun (s : State) (n : Nat) : State :=
  let b := s.trcCapturing n
  (s.setRegB (Reg.TRC_STAT n) 18 b).setRegB Reg.TRC_GSTAT n b

/-- Capture ends with FULL (R142). -/
def State.trcFull (s : State) (n : Nat) : State := (s.setRegB (Reg.TRC_STAT n) 20 true).trcRun n

/-- The enabled selectors of a buffer that name a loop. -/
def State.trcNaming (s : State) (n l : Nat) : List Nat :=
  allSelectors.filter fun k => s.regB (Reg.TRC_SLOOP n k) 31 && s.regF (Reg.TRC_SLOOP n k) 12 0 == l

/-- The selectors of a buffer for which tap point `m` of a loop is armed (R140). -/
def State.trcArmed (s : State) (n l m : Nat) : List Nat :=
  if !s.shed 1 && s.trcCapturing n && (s.loop l).cell == s.regF (Reg.TRC_CFG n) 28 19 then
    (s.trcNaming n l).filter fun k => s.regB (Reg.TRC_SMASK n k) m
  else []

/-- A trigger of a buffer in triggered mode, the first since CLEAR: TIDX is recorded and POST more entries are captured;
POST 0 stops capture at once (R142).  DESIGN CHOICE (log 93): a trigger that comes while T1 is shed is not taken. -/
def State.trcTrigger (s : State) (n idx : Nat) : State :=
  if s.trcMode n != 3 || s.regB (Reg.TRC_STAT n) 19 || !s.trcCapturing n then s
  else
    let post := s.regF (Reg.TRC_CFG n) 14 0
    let s1 := (s.setRegB (Reg.TRC_STAT n) 19 true).setRegF (Reg.TRC_TIDX n) 13 0 idx
    let s2 := s1.setTrace n { s1.trace n with post := some post }
    if post = 0 then s2.trcFull n else s2

/-- WIDX of a buffer. -/
def State.trcWidx (s : State) (n : Nat) : Nat := s.regF (Reg.TRC_STAT n) 13 0

/-- The index the next captured entry will have. -/
def State.trcNextIdx (s : State) (n : Nat) : Nat := (s.trcWidx n + (s.trace n).waiting.length) % traceEntries

/-- One entry captured by a buffer: it waits to be written; with more than 64 waiting it is dropped and counted (R141).  The
captured entries are counted against one-shot capture and POST (R142). -/
def State.trcPut (s : State) (n : Nat) (entry : List Word) : State :=
  let x := s.trace n
  if 64 < x.waiting.length then
    ((s.setTrace n { x with gap := true }).countReg (Reg.TRC_LOST n) 31 0 0xFFFFFFFF 1).setRegB (Reg.TRC_STAT n) 22 true
  else
    let e := match entry with
      | [a, b, c, d] => [a, b, setBit c 18 x.gap, d]
      | e => e
    let post := x.post.map fun p => p - 1
    let s1 := s.setTrace n { x with waiting := x.waiting ++ [e], gap := false, post := post, captured := x.captured + 1 }
    if post == some 0 || (s.trcMode n == 2 && decide (traceEntries ≤ x.captured + 1)) then s1.trcFull n else s1

/-- The words of a trace entry (Table 3.12), GAP clear. -/
def traceEntry (a b : Word) (m l dtb : Nat) : List Word := [a, b, w32 (m * 0x2000 + l % 0x2000), w32 dtb]

/-- A TAP offered to one buffer (R140, R142): a triggering TAP triggers before it is captured, so with POST 0 it writes
no entry. -/
def State.trcTap (l m : Nat) (a b : Word) (s : State) (n : Nat) : State :=
  let sel := s.trcArmed n l m
  if sel.isEmpty then s
  else
    let s1 := if sel.any fun k => s.regB (Reg.TRC_SLOOP n k) 30 then s.trcTrigger n (s.trcNextIdx n) else s
    if s1.trcCapturing n then s1.trcPut n (traceEntry a b m l s.dtb) else s1

/-- Whether a tap point is armed in some buffer (R140). -/
def State.tapArmed (s : State) (l m : Nat) : Bool := allTraces.any fun n => !(s.trcArmed n l m).isEmpty

/-- A LOOP_TRAP of a loop named by an enabled selector of a buffer with TRAPTRIG set is a trigger (R142). -/
def State.trapTrigger (s : State) (l : Nat) : State :=
  allTraces.foldl (fun s n =>
    if s.regB (Reg.TRC_CFG n) 29 && !(s.trcNaming n l).isEmpty then s.trcTrigger n (s.trcWidx n) else s) s

/-- The waiting entries of a buffer written at WIDX, which advances modulo 16,384 (R141). -/
def State.trcDrain (s : State) (n : Nat) : State :=
  let x := s.trace n
  x.waiting.foldl (fun s e =>
    let i := s.trcWidx n
    let y := s.trace n
    let s1 := s.setTrace n { y with mem := msetList 0 (4 * i) e y.mem, waiting := y.waiting.drop 1 }
    let s2 := s1.setRegF (Reg.TRC_STAT n) 13 0 ((i + 1) % traceEntries)
    if i + 1 = traceEntries then s2.setRegB (Reg.TRC_STAT n) 17 true else s2) s

/-- CLEAR of a buffer (R144).  DESIGN CHOICE (log 94): entries that wait to be written are discarded, uncounted, and a GAP owed to the
next entry is dropped. -/
def State.trcClear (s : State) (n : Nat) : State :=
  let st := s.reg (Reg.TRC_STAT n)
  let st1 := setFld (setFld (setFld st 23 22 0) 20 17 0) 13 0 0
  let s1 := ((s.setReg (Reg.TRC_STAT n) st1).setReg (Reg.TRC_LOST n) 0).setReg (Reg.TRC_TIDX n) 0
  (s1.setTrace n { s1.trace n with waiting := [], post := none, captured := 0, gap := false }).trcRun n

/-- Whether an enabled selector of a buffer names a loop of a cell other than OWNER (R146). -/
def State.trcOther (s : State) (n k : Nat) : Bool :=
  let L := s.loop (s.regF (Reg.TRC_SLOOP n k) 12 0)
  s.regB (Reg.TRC_SLOOP n k) 31 && L.state != .free && L.cell != s.regF (Reg.TRC_CFG n) 28 19

/-- Whether a buffer has such a selector. -/
def State.trcMismatch (s : State) (n : Nat) : Bool := allSelectors.any (s.trcOther n)

/-- XCELL set where such a mismatch arises. -/
def State.trcXcell (s : State) (n : Nat) : State :=
  if s.trcMismatch n then s.setRegB (Reg.TRC_STAT n) 23 true else s

/-- What an apply of a buffer page does (R144, R146): a changed MODE or OWNER clears the buffer. -/
def State.trcApplied (old s : State) (n : Nat) : State :=
  let w (x : State) : Nat × Nat := (x.trcMode n, x.regF (Reg.TRC_CFG n) 28 19)
  ((if w old = w s then s else s.trcClear n).trcXcell n).trcRun n

/-- A write to TRC_CTLn: where TRIG and CLEAR come together, CLEAR acts first. -/
def State.trcCtl (s : State) (n : Nat) (v : Word) : State :=
  let s1 := if bitAt v 0 then s.trcClear n else s
  if bitAt v 1 then s1.trcTrigger n (s1.trcWidx n) else s1

/-- T1 shed or restored (R143): capture stops with SHED, or resumes with GAP in the first entry. -/
def State.trcShed (s : State) (shed : Bool) : State :=
  allTraces.foldl (fun s n =>
    let s1 := s.setRegB (Reg.TRC_STAT n) 21 shed
    (if shed then s1 else s1.setTrace n { s1.trace n with gap := true }).trcRun n) s

/-- The agreement rules of a buffer page (R146): 0, or the lowest rule that fails. -/
def State.trcAgree (s : State) (n : Nat) : Nat :=
  let sh (k : Nat) : Word := s.shadow (Reg.TRC_SLOOP n k)
  let twice := allSelectors.any fun i => allSelectors.any fun j =>
    decide (i < j) && bitAt (sh i) 31 && bitAt (sh j) 31 && fld (sh i) 12 0 == fld (sh j) 12 0
  if traceEntries < fld (s.shadow (Reg.TRC_CFG n)) 14 0 then 1 else if twice then 2 else 0

/-- A word of a trace window (R145). -/
def State.trcWindow (s : State) (a : Nat) : Word :=
  let d := a - 0x40C00000
  mget 0 (d % 0x40000 / 4) (s.trace (d / 0x40000)).mem

end Sys2Proof.Machine
end

