-- ==== Sys2Proof/Machine/Crc.lean ====
section
/-! DEFINITION. The CRC-32 of R392 of 11_isolated_io.md (IEEE 802.3: generator 0x04C1_1DB7, reflected, initial value
0xFFFF_FFFF, final inversion). -/
namespace Sys2Proof.Machine

/-- One bit of the reflected CRC: 0xEDB8_8320 is the generator 0x04C1_1DB7 reflected. -/
def crcBit (c : Nat) : Nat := if c % 2 = 1 then (c / 2) ^^^ 0xEDB88320 else c / 2

/-- The CRC register after one byte. -/
def crcByte (c : Nat) (b : Byte) : Nat :=
  let x := c ^^^ b.toNat
  crcBit (crcBit (crcBit (crcBit (crcBit (crcBit (crcBit (crcBit x)))))))

/-- The CRC-32 of a string of bytes. -/
def crc32 (bs : List Byte) : Word := BitVec.ofNat 32 (bs.foldl crcByte 0xFFFFFFFF ^^^ 0xFFFFFFFF)

end Sys2Proof.Machine
end

