-- ==== Sys2Proof/Machine/Internal.lean ====
section
/-! DEFINITION. Tags and engines of the arbiter, and the requests of its internal requesters (R181, R187, R195 of
05_arbiter_engines.md). -/
namespace Sys2Proof.Machine

def State.tag (s : State) (t : Nat) : Tag := mget Tag.free t s.hwk.tags
def State.setTag (s : State) (t : Nat) (x : Tag) : State :=
  { s with hwk := { s.hwk with tags := mset Tag.free t x s.hwk.tags } }
def State.engine (s : State) (e : Nat) : Engine := mget Engine.idle e s.hwk.engines
def State.setEngine (s : State) (e : Nat) (x : Engine) : State :=
  { s with hwk := { s.hwk with engines := mset Engine.idle e x s.hwk.engines } }

/-- The blocks of a mask. -/
def blocksOf (mask : Nat) : List Nat := (List.range 10).filter fun b => mask / 2 ^ b % 2 == 1

/-- The stored sets of a block. -/
def blockSets (b : Nat) : List Nat := [[0], [1], [2], [2], [3], [3], [4], [8, 9], [], []].getD b []

/-- Whether a block is held in reset (R510). -/
def State.blockHeld (s : State) (b : Nat) : Bool := s.ctl.por.isSome || match s.ctl.run with
  | none => false
  | some r => r.asserted && (decide (r.scope < 2) || (blocksOf r.blocks).contains b)

/-- Whether the block that an internal request is for is shed by a tier or held in reset: it is masked (Table 5.5). -/
def State.reqMasked (s : State) (r : InternalReq) : Bool :=
  match r with
  | .store n => (n == 1 && s.shed 3) || (List.range 10).any fun b => (blockSets b).contains n && s.blockHeld b
  | .image _ => s.blockHeld 7
  | _ => false

/-- A free reserved tag, where one is left (R181). -/
def State.freeReserved (s : State) : Option Nat :=
  (List.range 1024).map (fun i => 0xFC00 + i) |>.find? fun t => !(s.tag t).used

/-- The kind an internal transaction uses: XFER for the bytes of an image, NVS for every access to the store. -/
def InternalReq.kind : InternalReq → Nat
  | .image _ => 0
  | _ => 2

/-- Whether an internal requester has a transaction that waits or runs. -/
def State.hasInternal (s : State) (r : InternalReq) : Bool := s.hwk.owed.contains r || s.hwk.tags.any fun e => e.2.op == some r

/-- Whether a requester asks for its transactions one after another (log 38); each IMG_DATA asks for its own. -/
def InternalReq.single : InternalReq → Bool
  | .image _ => false
  | _ => true

/-- An internal request takes a reserved tag and waits in order of acceptance; where every reserved tag is in use it waits for one
(R181, R187). -/
def State.takeReserved (s : State) (r : InternalReq) : State :=
  match s.freeReserved with
  | none => { s with hwk := { s.hwk with owed := s.hwk.owed ++ [r] } }
  | some t =>
    let s1 := s.setTag t { Tag.free with used := true, internal := true, kind := r.kind, head := t, count := 1, op := some r }
    { s1 with hwk := { s1.hwk with iwaiting := s1.hwk.iwaiting ++ [t] } }

/-- An internal request accepted (R181, R187). -/
def State.askInternal (s : State) (r : InternalReq) : State := if r.single && s.hasInternal r then s else s.takeReserved r

/-- The oldest internal request that waits for a reserved tag takes one that has been freed. -/
def State.payOwed (s : State) : State :=
  match s.hwk.owed with
  | [] => s
  | r :: t => if s.freeReserved.isNone then s else ({ s with hwk := { s.hwk with owed := t } }).takeReserved r

/-- Waiting internal requests withdrawn, their tags freed (Table 5.5). -/
def State.withdrawInternal (s : State) (p : InternalReq → Bool) : State :=
  let ts := s.hwk.iwaiting.filter fun t => match (s.tag t).op with
    | some r => p r
    | none => false
  let s1 := ts.foldl (fun s t => s.setTag t Tag.free)
    { s with hwk := { s.hwk with
      iwaiting := s.hwk.iwaiting.filter fun t => !ts.contains t, owed := s.hwk.owed.filter fun r => !p r } }
  ts.foldl (fun s _ => s.payOwed) s1

end Sys2Proof.Machine
end

