-- ==== Sys2Proof/Machine/Recorder.lean ====
section
/-! DEFINITION. The event recorder: from event to staging, log order, flushing, markers, the read window
(R402 to R416 of 12_recorder_rtc.md). -/
namespace Sys2Proof.Machine

/-! ### Records -/

/-- A body padded with zero words to a multiple of 16 bytes, 16 zero bytes where it is empty (R403). -/
def padBody (ws : List Word) : List Word :=
  if ws.isEmpty then [0, 0, 0, 0] else ws ++ List.replicate ((4 - ws.length % 4) % 4) 0

/-- The size of a record in bytes: a 32-byte head and its body (R402). -/
def Record.size (r : Record) : Nat := 32 + 4 * r.body.length

/-- Head words 0x00 to 0x18 of a record (Table 12.1). -/
def Record.headWords (r : Record) : List Word :=
  [w32 (r.code % 4096 * 0x100000 + (r.body.length / 4 - 1) % 16 * 0x10000 + r.cell % 1024 * 64 + r.flags % 64),
   w32 r.seq, w32 r.stamp, w32 (r.stamp / 0x100000000), w32 r.hours, w32 r.pcc, w32 r.adtb]

/-- The CRC of a record, over head bytes 0x00 to 0x1B and then over the body (R402). -/
def Record.crc (r : Record) : Word := crc32 (wordBytes (r.headWords ++ r.body))

/-- The words of a record as stored (Table 12.1). -/
def LogRec.words (r : LogRec) : List Word := r.record.headWords ++ r.crc :: r.record.body

/-- Flag bits of a record head (Table 12.1). -/
def flagConc : Nat := 1
def flagLate : Nat := 2
def flagStep : Nat := 4
def flagFlushed : Nat := 8

/-- A record with a flag set that it does not carry yet. -/
def Record.withFlag (r : Record) (f : Nat) : Record := { r with flags := r.flags ||| f }

/-! ### The staging buffer and the log -/

/-- The staging buffer, its reserve, and the largest record (R409), in bytes. -/
def stagingBytes : Nat := 524288
def stagingReserve : Nat := 8192
def largestRecord : Nat := 288

/-- Lines of the log ring, and bytes of record data in a line (R412, Table 12.3). -/
def ringLines : Nat := 180224
def lineData : Nat := 252

/-- Bytes held in staging: records not yet released, and released data whose line is not yet written. -/
def RecSt.occupied (r : RecSt) : Nat :=
  (r.staged.map Record.size).sum + (r.logPos - lineData * r.linesWritten)

/-- The recorder asks for the next log line where released data waits for it (R187, R412). -/
def State.askLine (s : State) : State :=
  if lineData * s.recd.linesWritten < s.recd.logPos then s.askInternal .logLine else s

/-- REC_STAT.FILL brought up to date, and the next log line asked for. -/
def State.recFill (s : State) : State := (s.setRegF Reg.REC_STAT 9 0 (s.recd.occupied / 1024)).askLine

/-- A record placed at the end of the log (R410, R411). -/
def RecSt.toLog (r : RecSt) (x : Record) : RecSt :=
  { r with log := r.log ++ [⟨x, x.crc, r.logPos, r.logPos + x.size⟩], logPos := r.logPos + x.size }

/-- The width of a group of origin stamps, and the delay from its first stamp to its release (R410), ns. -/
def groupSpan : Nat := 20000
def groupDelay : Nat := 1020000

/-- The earliest origin stamp of a list of records. -/
def firstStamp : List Record → Option Nat
  | [] => none
  | r :: t => match firstStamp t with
    | none => some r.stamp
    | some m => some (min r.stamp m)

/-- The group that the earliest unreleased stamp opens, in ascending SEQ, each record with CONC where there are two or
more, and `extra` set on each (R410). -/
def groupOf (t0 : Nat) (extra : Nat) (rs : List Record) : List Record :=
  let g := rs.filter fun r => decide (r.stamp ≤ t0 + groupSpan)
  let conc := if 2 ≤ g.length then flagConc else 0
  g.map fun r => r.withFlag (conc ||| extra)

/-- One group released: its records placed in the log and its t0 remembered (R410). -/
def RecSt.releaseGroup (r : RecSt) (t0 extra : Nat) : RecSt :=
  let r1 := (groupOf t0 extra r.staged).foldl RecSt.toLog r
  { r1 with staged := r.staged.filter (fun x => decide (t0 + groupSpan < x.stamp)), releasedT0 := some t0 }

/-- Every staged record released, group by group; with `mark`, groups not due at `now` carry FLUSHED (R410, R412). -/
def RecSt.releaseAll (now : Nat) (mark : Bool) : Nat → RecSt → RecSt
  | 0, r => r
  | n + 1, r => match firstStamp r.staged with
    | none => r
    | some t0 =>
      let extra := if mark && decide (now < t0 + groupDelay) then flagFlushed else 0
      RecSt.releaseAll now mark n (r.releaseGroup t0 extra)

/-- A record accepted: SEQ, HOURS, PCC and ADTB stamped, and placed in staging, or released at once with LATE where its
group or a later one has been released (R406, R410). -/
def State.acceptRecord (s : State) (stamp code cell : Nat) (body : List Word) (named : List Nat) : State :=
  let seq := (s.reg Reg.REC_SEQ).toNat
  let flags := if s.recd.stepNext then flagStep else 0
  let x : Record := ⟨code, cell, flags, seq, stamp, (s.reg Reg.REC_HOURS).toNat, (s.reg Reg.REC_PCC).toNat,
    s.dtb % 0x100000000, padBody body, named⟩
  let late := match s.recd.releasedT0 with
    | none => false
    | some t0 => decide (stamp ≤ t0 + groupSpan)
  let s1 := s.setReg Reg.REC_SEQ (w32 (seq + 1))
  let r := { s1.recd with stepNext := false }
  let s2 := if late then ({ s1 with recd := r.toLog (x.withFlag flagLate) }).setRegB Reg.REC_STAT 13 true
    else { s1 with recd := { r with staged := r.staged ++ [x] } }
  s2.recFill

/-! ### Token buckets -/

/-- The bucket that limits an event: one for each code, and for range 0xF one for each cell (R407). -/
def bucketKey (code cell : Nat) : Nat := if code / 256 = 15 then 4096 + cell else code

/-- The range of a bucket. -/
def bucketRange (key : Nat) : Nat := if 4096 ≤ key then 15 else key / 256

/-- BURST and IVL of a range, from REC_RLb. -/
def State.burst (s : State) (range : Nat) : Nat := s.regF (Reg.REC_RL range) 23 16
def State.ivl (s : State) (range : Nat) : Nat := s.regF (Reg.REC_RL range) 15 0

/-- Whether a code is never limited (R407). -/
def neverLimited (code : Nat) : Bool :=
  code == Ev.REC_SUMMARY || code == Ev.REC_OVERFLOW || code == Ev.REC_START || code == Ev.REC_FLUSH

def RecSt.bucket (r : RecSt) (key : Nat) : Bucket := mget Bucket.full key r.buckets

def State.setBucket (s : State) (key : Nat) (b : Bucket) : State :=
  { s with recd := { s.recd with buckets := mset Bucket.full key b s.recd.buckets } }

/-- The first millisecond at or after the start of a range's gain clocks, from which their ticks are counted (R407). -/
def State.gainBase (s : State) (range : Nat) : Nat :=
  (mget 0 range s.recd.rlBase + 999999) / 1000000 * 1000000

/-- The pair words of a summary, those of the cells with the most occurrences first, ties to the lower cell (R408). -/
def insertPair (e : Nat × Nat) : List (Nat × Nat) → List (Nat × Nat)
  | [] => [e]
  | f :: t => if f.2 < e.2 || (f.2 == e.2 && decide (e.1 < f.1)) then e :: f :: t else f :: insertPair e t

def sortPairs (m : List (Nat × Nat)) : List (Nat × Nat) := m.foldr insertPair []

/-- The REC_SUMMARY of a bucket (R408): its body and the cells its pair words name. -/
def summaryBody (key : Nat) (b : Bucket) : List Word × List Nat :=
  let ps := sortPairs b.cells
  let top := ps.take 8
  let rest := ((ps.drop 8).map Prod.snd).sum
  let codeWord := if 4096 ≤ key then 0x80000000 + b.highCode % 4096 * 0x10000 + b.lowCode % 4096 else key
  (w32 codeWord :: w32 (sat 0xFFFFFFFF b.supp) :: dtbWords b.first ++ dtbWords b.last ++
    (top.map fun p => w32 (p.1 % 1024 + sat 0x3FFFFF p.2 * 1024)) ++ [w32 (sat 0xFFFFFFFF rest)],
   top.map Prod.fst)

/-- Whether a record of a size fits outside the reserve (R409). -/
def State.fits (s : State) (size : Nat) : Bool := decide (s.recd.occupied + size + stagingReserve ≤ stagingBytes)

/-- After drops, once the largest record would fit outside the reserve, one REC_OVERFLOW goes into the reserve before any other record
(R409). -/
def State.overflow (s : State) : State :=
  let d := s.recd.drops
  if d.count = 0 || !s.fits largestRecord then s
  else
    ({ s with recd := { s.recd with drops := Drops.none } }).acceptRecord s.dtb Ev.REC_OVERFLOW 0
      ([w32 (sat 0xFFFFFFFF d.count), w32 (sat 0xFFFFFFFF d.bytes)] ++ dtbWords d.first ++ dtbWords d.last ++
        [w32 d.lowCode, w32 d.highCode]) []

/-- A record written outside the rate limits, into the reserve where it fits (R407, R409). -/
def State.writeSystem (s : State) (code : Nat) (body : List Word) (named : List Nat) : State :=
  s.overflow.acceptRecord s.dtb code 0 body named

/-- A bucket that has gained a token writes its REC_SUMMARY where it holds suppressed occurrences, and clears its
counts (R408). -/
def State.summarise (s : State) (key : Nat) : State :=
  let b := s.recd.bucket key
  if b.supp = 0 then s
  else
    let s1 := s.setBucket key { b with supp := 0, first := 0, last := 0, lowCode := 0, highCode := 0, cells := [] }
    s1.writeSystem Ev.REC_SUMMARY (summaryBody key b).1 (summaryBody key b).2

/-- An occurrence that finds no token is suppressed: counted, its stamp kept, and counted against its cell (R407). -/
def State.suppress (s : State) (e : Event) : State :=
  let key := bucketKey e.code e.cell
  let b := s.recd.bucket key
  let first := if b.supp = 0 then e.stamp else b.first
  let low := if b.supp = 0 then e.code else min b.lowCode e.code
  let b1 := { b with supp := b.supp + 1, first := first, last := e.stamp, lowCode := low,
                     highCode := max b.highCode e.code, cells := mset 0 e.cell (mget 0 e.cell b.cells + 1) b.cells }
  ((s.setBucket key b1).countReg Reg.REC_SUPP 31 0 0xFFFFFFFF 1).setRegB Reg.REC_STAT 14 true

/-- A record that would leave less than the reserve free is dropped and counted (R409). -/
def State.dropEvent (s : State) (e : Event) (size : Nat) : State :=
  let d := s.recd.drops
  let d1 : Drops := if d.count = 0 then ⟨1, size, e.stamp, e.stamp, e.code, e.code⟩
    else ⟨d.count + 1, d.bytes + size, min d.first e.stamp, max d.last e.stamp, min d.lowCode e.code,
      max d.highCode e.code⟩
  (({ s with recd := { s.recd with drops := d1 } }).countReg Reg.REC_DROP 31 0 0xFFFFFFFF 1).setRegB Reg.REC_STAT 15 true

/-- The bytes an event takes as a record (R402). -/
def Event.size (e : Event) : Nat := 32 + 4 * (padBody e.body).length

/-- An event that has passed its rate limit is staged, or dropped where staging has no room (R406, R409). -/
def State.stage (s : State) (e : Event) : State :=
  let s1 := s.overflow
  if s1.fits e.size then s1.acceptRecord e.stamp e.code e.cell e.body [] else s1.dropEvent e e.size

/-- An event met by its token bucket (R407).  A full bucket's past ticks gained nothing, so its tick count is brought up
to now before a token is taken. -/
def State.limit (s : State) (e : Event) : State :=
  let key := bucketKey e.code e.cell
  let range := bucketRange key
  if neverLimited e.code || s.ivl range == 0 then s.stage e
  else
    let b := s.recd.bucket key
    if s.burst range ≤ b.spent then s.suppress e
    else
      let ticks := if b.spent = 0 then (s.dtb - s.gainBase range) / (s.ivl range * 1000000) else b.ticks
      (s.setBucket key { b with spent := b.spent + 1, ticks := ticks }).stage e

/-- The event that is accepted next: of those handed over in the same instant as the earliest, the lowest code and then
the lowest cell (R406). -/
def nextEvent : List Event → Option Event
  | [] => none
  | e :: t => match nextEvent t with
    | none => some e
    | some f => if f.handedAt == e.handedAt && (decide (f.code < e.code) || (f.code == e.code && decide (f.cell < e.cell)))
        then some f else some e

/-- The recorder holds what it is handed while it is starting (R413). -/
def State.recStarting (s : State) : Bool := s.regF Reg.REC_STAT 31 28 == 3

/-- EVENT_ACCEPT (R406, R407, R409). -/
def execEventAccept (s : State) : Out :=
  if s.recStarting then .next s
  else match nextEvent s.recd.handed with
    | none => .next s
    | some e => .next (({ s with recd := { s.recd with handed := s.recd.handed.erase e } }).limit e)

/-- TOKEN_BUCKET_TICK (R407, R408): the bucket's next gain tick, once it is due. -/
def execTokenBucketTick (key : Nat) (s : State) : Out :=
  let range := bucketRange key
  let b := s.recd.bucket key
  let due := s.gainBase range + (b.ticks + 1) * s.ivl range * 1000000
  if s.ivl range == 0 || decide (s.dtb < due) then .next s
  else
    let s1 := s.setBucket key { b with ticks := b.ticks + 1, spent := b.spent - 1 }
    .next (if b.spent = 0 then s1 else s1.summarise key)

/-- An apply that changes a range's fields fills its buckets and restarts their gain clocks; the refill counts as a gain
(R407). -/
def State.refillRange (s : State) (range : Nat) : State :=
  let keys := (s.recd.buckets.map Prod.fst).filter fun k => bucketRange k == range
  let s1 := keys.foldl State.summarise s
  { s1 with recd := { s1.recd with rlBase := mset 0 range s1.dtb s1.recd.rlBase,
                                   buckets := s1.recd.buckets.filter fun e => bucketRange e.1 != range } }

/-- REC_OVERFLOW (R409). -/
def execRecOverflow (s : State) : Out := .next s.overflow

/-- LOG_GROUP_RELEASE (R410): the earliest group, once its release instant has come. -/
def execLogGroupRelease (s : State) : Out :=
  match firstStamp s.recd.staged with
  | none => .next s
  | some t0 => if s.dtb < t0 + groupDelay then .next s
    else .next ({ s with recd := s.recd.releaseGroup t0 0 }).recFill

/-- One log line written: the ring takes the next 252 bytes of released data and overwrites its oldest line when full
(R412).  A line that released data does not fill is padded: the next record starts in the line after it. -/
def RecSt.writeLine (r : RecSt) : RecSt :=
  let n := r.linesWritten + 1
  { r with linesWritten := n, logPos := max r.logPos (lineData * n),
           log := r.log.filter fun x => decide (lineData * (n - ringLines) ≤ x.start) }

/-! ### Flushing and markers -/

/-- A marker written into the ring of 64 slots (R413). -/
def State.writeMarker (s : State) (clean : Bool) : State :=
  let m : Marker := ⟨(s.reg Reg.REC_HOURS).toNat, (s.reg Reg.REC_PCC).toNat, (s.reg Reg.REC_SEQ).toNat, clean, true⟩
  { s with recd := { s.recd with markers := (m :: s.recd.markers).take 64, lastMarker := s.dtb } }

/-- Every staged record released, those of groups not yet due with FLUSHED (R412). -/
def State.releaseStaged (s : State) : State := { s with recd := s.recd.releaseAll s.dtb true s.recd.staged.length }

/-- A flush starts: every staged record is released (R412). -/
def State.startFlush (s : State) (why : FlushWhy) : State :=
  let s1 := s.releaseStaged
  let s2 := { s1 with recd := { s1.recd with
    flush := some why, flushStart := s.dtb, flushFrom := lineData * s1.recd.linesWritten } }
  (s2.setRegF Reg.REC_STAT 31 28 1).recFill

/-- Every event handed over accepted (R406). -/
def State.acceptAll : Nat → State → State
  | 0, s => s
  | n + 1, s => match nextEvent s.recd.handed with
    | none => s
    | some e => State.acceptAll n (({ s with recd := { s.recd with handed := s.recd.handed.erase e } }).limit e)

/-- A flush asked for by the island or a reset: it starts, or it continues one under way with the records staged since (R519). -/
def State.flushOn (s : State) (why : FlushWhy) : State :=
  let t := s.acceptAll (s.recd.handed.length)
  match t.recd.flush with
  | none => t.startFlush why
  | some _ =>
    let t1 := t.releaseStaged
    ({ t1 with recd := { t1.recd with flush := some why } }).recFill

/-- Of two 32-bit sequence numbers, whether the first is the newer (R419). -/
def seqNewer (a b : Nat) : Bool :=
  let d := (a + 0x100000000 - b % 0x100000000) % 0x100000000
  decide (1 ≤ d) && decide (d < 0x80000000)

/-- The first and the last SEQ of the records of which a flush writes some part, or `seq` for both where it writes none (R412). -/
def RecSt.flushSpan (r : RecSt) (seq : Nat) : Nat × Nat :=
  match (r.log.filter fun x => decide (r.flushFrom < x.stop)).map fun x => x.record.seq with
  | [] => (seq, seq)
  | q :: qs => qs.foldl (fun a x => (if seqNewer a.1 x then x else a.1, if seqNewer x a.2 then x else a.2)) (q, q)

/-- REC_FLUSH, the last record of a flush: the records accepted since its start go before it (R412). -/
def State.flushRecord (s : State) : State :=
  let s1 := s.overflow.releaseStaged
  let span := s1.recd.flushSpan (s1.reg Reg.REC_SEQ).toNat
  ((s1.writeSystem Ev.REC_FLUSH [w32 span.1, w32 span.2] []).releaseStaged).recFill

/-- The end of a flush, every line and the marker written (R412). -/
def State.endFlush (s : State) (why : FlushWhy) : State :=
  let s2 := { s with recd := { s.recd with flush := none } }
  let s3 := s2.setRegF Reg.REC_STAT 31 28 (if why == .tierT5 then 2 else 0)
  ((s3.setRegF Reg.REC_FLUSHT 15 0 (sat 0xFFFF ((s.dtb - s.recd.flushStart) / 1000))).recFill).overflow

/-- The record with the newest SEQ of those whose CRC passes. -/
def newestRec (log : List LogRec) : Option LogRec :=
  log.foldl (fun best x =>
    if x.crc ≠ x.record.crc then best
    else match best with
      | none => some x
      | some y => if seqNewer x.record.seq y.record.seq then some x else some y) none

/-- The values a start continues from (R413): HOURS, PCC, SEQ, UNCLEAN, NOMARK. -/
def RecSt.startValues (r : RecSt) : Nat × Nat × Nat × Bool × Bool :=
  let newest := newestRec r.log
  match r.markers.find? (fun m => m.crcOk), newest with
  | some m, none => (m.hours, sat 0xFFFFFFFF (m.pcc + 1), m.next, !m.clean, false)
  | some m, some x =>
    let past := (x.record.seq + 1) % 0x100000000
    (m.hours, sat 0xFFFFFFFF (m.pcc + 1), if seqNewer past m.next then past else m.next, !m.clean, false)
  | none, some x =>
    (x.record.hours, sat 0xFFFFFFFF (x.record.pcc + 1), (x.record.seq + 1) % 0x100000000, false, true)
  | none, none => (0, 1, 0, false, true)

/-- What a start of the recorder keeps of it: the MRAM.  Staged records, and released data whose line was not written,
are lost (R413). -/
def RecSt.afterReset (r : RecSt) (now : Nat) : RecSt :=
  { RecSt.reset with
    log := r.log.filter fun x => decide (x.stop ≤ lineData * r.linesWritten)
    logPos := lineData * r.linesWritten, linesWritten := r.linesWritten, markers := r.markers, sets := r.sets,
    cellNv := (r.nvUndo.map Prod.snd).getD r.cellNv, poolWrites := r.poolWrites, handed := r.handed, lastMarker := now, hoursAt := now }

/-- The endurance of the cell pool consumed by a number of line writes, % (R424). -/
def poolUsed (writes : Nat) : Nat := writes * 100 / (32768 * 1000000000)

/-- REC_WEAR brought up to date. -/
def State.showWear (s : State) : State := s.setRegF Reg.REC_WEAR 7 0 (min 255 (poolUsed s.recd.poolWrites))

/-- Events held while the recorder was starting lie in the staging buffer in order of arrival: those that did not fit are dropped and
counted (R409, R413). -/
def State.holdLimit (s : State) : State :=
  let r := s.recd.handed.foldl (fun (a : Nat × List Event × List Event) e =>
    if a.1 + e.size + stagingReserve ≤ stagingBytes then (a.1 + e.size, a.2.1 ++ [e], a.2.2) else (a.1, a.2.1, a.2.2 ++ [e]))
    (s.recd.occupied, [], [])
  r.2.2.foldl (fun s e => s.dropEvent e e.size) { s with recd := { s.recd with handed := r.2.1 } }

/-- The recorder starts: HOURS, PCC and SEQ continue and REC_START is written as the first record (R413). -/
def State.recStart (s : State) (ticks : Nat) : State :=
  let (hours, pcc, seq, unclean, nomark) := s.recd.startValues
  let s1 := ((s.setReg Reg.REC_HOURS (w32 hours)).setReg Reg.REC_PCC (w32 pcc)).setReg Reg.REC_SEQ (w32 seq)
  let s2 := (s1.setRegF Reg.REC_STAT 31 28 0).showWear.holdLimit
  let flags := unclean.toNat + 2 * (s.regB Reg.RTC_STAT 0).toNat + 4 * (s.regB Reg.RTC_STAT 1).toNat + 8 * nomark.toNat
  let sec := ticks / 65536
  ({ s2 with recd := { s2.recd with startFlags := flags } }).acceptRecord s.dtb Ev.REC_START 0
    ([w32 pcc, w32 hours, w32 sec, w32 (sec / 0x100000000), w32 (ticks % 65536)] ++ dtbWords s.dtb ++ [w32 flags]) []

/-- Every staged record is released and ordering starts afresh when the DTB is stepped (R410). -/
def State.recDtbStep (s : State) : State :=
  let r := s.recd.releaseAll s.dtb false s.recd.staged.length
  ({ s with recd := { r with stepNext := true, releasedT0 := none } }).recFill

/-! ### The read window -/

/-- Whether a released record is in the ring with its last line written (R414). -/
def RecSt.written (r : RecSt) : List LogRec :=
  r.log.filter fun x => decide (x.stop ≤ lineData * r.linesWritten)

/-- Whether a record is in a cell's event view (R414). -/
def inView (cell : Nat) (x : LogRec) : Bool :=
  cell == 0 || x.record.cell == cell || x.record.named.contains cell

/-- The progress of a scan: records copied (newest first), their bytes, bytes scanned, records skipped, SEQ of the last
record scanned. -/
structure Scan where
  copied : List LogRec
  bytes : Nat
  scanned : Nat
  skip : Nat
  last : Option Nat
  deriving DecidableEq, Repr

/-- Whole records of the view copied in order until the next would not fit in `limit` bytes or 64 KiB have been scanned (R415); answers
the scan and the records left. -/
def scanLog (limit cell : Nat) : List LogRec → Scan → Scan × List LogRec
  | [], c => (c, [])
  | x :: t, c =>
    let size := x.record.size
    if 65536 < c.scanned + size then (c, x :: t)
    else if x.crc ≠ x.record.crc then
      scanLog limit cell t { c with scanned := c.scanned + size, skip := c.skip + 1, last := some x.record.seq }
    else if !inView cell x then
      scanLog limit cell t { c with scanned := c.scanned + size, last := some x.record.seq }
    else if limit < c.bytes + size then (c, x :: t)
    else scanLog limit cell t { c with
      copied := x :: c.copied, bytes := c.bytes + size, scanned := c.scanned + size, last := some x.record.seq }

/-- The records a scan meets: after one whose CRC fails it resumes at the next line with a head (R415). -/
def met : Option Nat → List LogRec → List LogRec
  | _, [] => []
  | bad, x :: t =>
    let line := x.start / lineData
    if bad = some line then met bad t
    else x :: met (if x.crc = x.record.crc then none else some line) t

/-- Where a fill starts (R415): the records from its start on, and GAP. -/
def fillStart (mode cseq : Nat) (ring : List LogRec) : List LogRec × Bool :=
  let from' := ring.dropWhile fun x => x.record.seq != cseq
  if mode = 0 then (ring, false)
  else if from'.isEmpty then (ring, true)
  else if mode = 1 then (from', false)
  else (from'.drop 1, false)

/-- The window words of a cell cleared. -/
def State.clearWindow (s : State) (cell : Nat) : State :=
  { s with act := s.act.filter fun e => !(bk cell (Reg.REC_WIN 0) ≤ e.1 && decide (e.1 ≤ bk cell (Reg.REC_WIN 1023))) }

/-- Words written to a cell's window from word `i`. -/
def State.putWindow (cell : Nat) : Nat → List Word → State → State
  | _, [], s => s
  | i, w :: t, s => State.putWindow cell (i + 1) t (s.setReg (bk cell (Reg.REC_WIN i)) w)

/-- What a fill gives (R415): the records copied, SKIP, BYTES, GAP, MORE, and the SEQ of WNEXT. -/
structure FillRes where
  recs : List LogRec
  skip : Nat
  bytes : Nat
  gap : Bool
  more : Bool
  next : Nat
  deriving DecidableEq, Repr

/-- A fill of a cell's event view in a mode from a SEQ, up to a number of bytes (R415). -/
def State.runFill (s : State) (limit cell mode cseq : Nat) : FillRes :=
  let ring := s.recd.written
  let start : Scan := ⟨[], 0, 0, 0, none⟩
  let newest := match ring.getLast? with
    | some x => x.record.seq
    | none => ((s.reg Reg.REC_SEQ).toNat + 0xFFFFFFFF) % 0x100000000
  let gapRes := if mode = 3 then (ring, false) else fillStart mode cseq ring
  let back := scanLog limit cell (met none ring).reverse start
  let (recs, c, left) :=
    if mode = 3 then (back.1.copied, { back.1 with last := ring.getLast?.map fun x => x.record.seq }, back.2)
    else
      let fwd := scanLog limit cell (met none gapRes.1) start
      (fwd.1.copied.reverse, fwd.1, fwd.2)
  let none' := if mode = 1 || mode = 2 then cseq else newest
  let more := (mode != 3 && left.any (inView cell)) || !left.isEmpty && decide (65536 < c.scanned + (left.head?.map fun x => x.record.size).getD 0)
  ⟨recs, c.skip, c.bytes, gapRes.2, more, c.last.getD none'⟩

/-- A completed fill: the window and COUNT, BYTES, SKIP, GAP, MORE, READY, WFIRST and WNEXT (R415). -/
def State.finishFill (s : State) (cell : Nat) (f : Fill) : State :=
  let r := s.runFill 4096 cell f.mode f.cseq
  let first := match r.recs with
    | [] => 0
    | x :: _ => x.record.seq
  let s1 := State.putWindow cell 0 (r.recs.flatMap LogRec.words) (s.clearWindow cell)
  let w := setBit (setBit (setBit (setFld (setFld (setFld 0 28 22 r.recs.length) 21 13 (sat 511 r.skip)) 12 0 r.bytes)
    29 r.gap) 30 r.more) 31 true
  let s2 := ((s1.setReg (bk cell Reg.REC_WSTAT) w).setReg (bk cell Reg.REC_WFIRST) (w32 first)).setReg
    (bk cell Reg.REC_WNEXT) (w32 r.next)
  { s2 with recd := { s2.recd with fills := s2.recd.fills.filter fun e => e.1 != cell } }

/-- A write to REC_CURSOR: READY clears and a fill starts, in place of one in progress (R415, R416). -/
def State.startFill (s : State) (cell mode : Nat) : State :=
  let s1 := s.setRegB (bk cell Reg.REC_WSTAT) 31 false
  { s1 with recd := { s1.recd with
      fills := mins cell ⟨mode, (s.reg (bk cell Reg.REC_CSEQ)).toNat⟩ (mdel cell s1.recd.fills) } }

/-- WINDOW_FILL_COMPLETE (R415). -/
def execWindowFillComplete (cell : Nat) (s : State) : Out :=
  match s.recd.fills.find? fun e => e.1 == cell with
  | none => .next s
  | some e => .next (s.finishFill cell e.2)

end Sys2Proof.Machine
end

