-- ==== Sys2Proof/Machine/HapReply.lean ====
section
/-! DEFINITION. Messages the module sends: on the links and through the tag, and the replies of HAP requests (R439, R446, R450 of
13_host_service.md). -/
namespace Sys2Proof.Machine

def State.setHost (s : State) (x : HostSt) : State := { s with host := x }

/-- A message sent. -/
def State.send (s : State) (port kind : Nat) (bytes : List Byte) : State := s.setHost { s.host with sent := some ⟨port, kind, bytes⟩ }

/-- Kinds of message sent on a link. -/
def sentArp : Nat := 1
def sentEcho : Nat := 2
def sentPdelayReq : Nat := 3
def sentPdelayResp : Nat := 4
def sentHap : Nat := 5
def sentTag : Nat := 6

/-! ### Sessions -/

/-- A session by its SID; a SID that names none reads as a session of cell 0 without rights. -/
def Session.none : Session := ⟨0, 0, [], Option.none, [], [], 0, Option.none⟩
def State.session (s : State) (sid : Nat) : Session := mget Session.none sid s.sessions
def State.setSession (s : State) (sid : Nat) (x : Session) : State := { s with sessions := mins sid x (mdel sid s.sessions) }

/-- Message types (Table 13.4). -/
def hapOpen : Nat := 1
def hapClose : Nat := 2
def hapPing : Nat := 3
def hapRd : Nat := 4
def hapWr : Nat := 5
def hapEvt : Nat := 6
def hapTime : Nat := 7
def hapCell : Nat := 8
def hapImgBegin : Nat := 9
def hapImgData : Nat := 10
def hapImgEnd : Nat := 11
def hapImgStatus : Nat := 12
def hapKeySet : Nat := 13
def hapCredSet : Nat := 14

/-- Results (Table 13.5). -/
def hapOk : Nat := 0
def hapAccess : Nat := 1
def hapFormat : Nat := 2
def hapLocked : Nat := 3
def hapNoperm : Nat := 4
def hapBusy : Nat := 5
def hapState : Nat := 6
def hapNospace : Nat := 7
def hapStore : Nat := 8

/-- HMAC-SHA-256, its first `n` bytes. -/
def hmacBytes (key msg : List Byte) (n : Nat) : List Byte := (List.range n).map (Config.hmac key msg)

/-- A reply as sent (Table 13.3): header, body and TAG. -/
def hapBytes (key : List Byte) (type sid seq result : Nat) (body : List Byte) : List Byte :=
  let m := bytesOf 2 0x4148 ++ bytesOf 1 1 ++ bytesOf 1 type ++ bytesOf 4 sid ++ bytesOf 4 seq ++ bytesOf 2 body.length ++
    bytesOf 1 result ++ bytesOf 1 1 ++ body
  m ++ hmacBytes key m 16

/-- A HAP message sent on a link, where the link is up and no relock runs (R440, Table 15.3). -/
def State.hapSend (s : State) (link : Nat) (bytes : List Byte) : State :=
  if s.regF (Reg.HST_LSTAT link) 31 30 = 1 && !s.onSafe then s.send link sentHap bytes else s

/-- The reply of a request executed: cached while its SEQ is among the 8 latest executed, and sent on the links on which the request
came (R439, R450). -/
def State.hapReply (s : State) (links : List Nat) (sid seq type result : Nat) (body : List Byte) : State :=
  let x := s.session sid
  let bytes := hapBytes x.key type sid seq result body
  links.foldl (fun s l => s.hapSend l bytes)
    (s.setSession sid { x with cache := x.cache.map fun e => if e.1 = seq then (seq, some bytes) else e })

/-- The reply of a request that waited for a store, where its session is still open. -/
def State.waitReply (s : State) (w : HapWait) (result : Nat) : State :=
  if mhas w.sid s.sessions then s.hapReply w.links w.sid w.seq w.type result [] else s

/-- A further copy of a request that waits for a store: its reply goes to that copy's link too (R439, R458). -/
def State.hapJoin (s : State) (link sid seq : Nat) : State :=
  s.setHost { s.host with waits := s.host.waits.map fun (w : HapWait) =>
    if w.sid = sid ∧ w.seq = seq ∧ link ∉ w.links then { w with links := w.links ++ [link] } else w }

/-- The changes that wait for a store of a set dropped, the requests answered STORE: those whose store has started, or with `every` all
of them. -/
def State.failWaits (s : State) (set : Nat) (every : Bool) : State :=
  let gone (w : HapWait) : Bool := w.set == set && (every || w.started)
  let ws := s.host.waits.filter gone
  let s1 := s.setHost { s.host with waits := s.host.waits.filter fun w => !gone w }
  ws.foldl (fun s w => s.waitReply w hapStore) s1

/-- The requests of a committed store recorded and answered (R456, R457). -/
def State.endWaits (s : State) (set : Nat) : State :=
  let done (w : HapWait) : Bool := w.set == set && w.started
  let ws := s.host.waits.filter done
  let s1 := s.setHost { s.host with waits := s.host.waits.filter fun w => !done w }
  ws.foldl (fun s w => (s.emit w.code 0 w.body).waitReply w hapOk) s1

end Sys2Proof.Machine
end

