-- ==== Sys2Proof/Machine/Store.lean ====
section
/-! DEFINITION. Stored sets and the dual-bank procedure (R419 to R423 of 12_recorder_rtc.md). -/
namespace Sys2Proof.Machine

/-- Keys above this one hold calibration corrections and other stored values that no register shows: value `i` of stored
set `n` at `hiddenKey n i`. -/
def hiddenKey (n i : Nat) : Nat := 0x4000000000000000 + n * 0x1000000000000 + i

/-- The stored set that keeps the register with a given key (Table 12.5 and the block chapters), where one does. -/
def nvSetOf (k : Nat) : Option Nat :=
  if 0x4000000000000000 ≤ k then some ((k - 0x4000000000000000) / 0x1000000000000)
  else
    let a := addrOf k
    if a = Reg.RTC_TRIM then some 7
    else if Reg.HST_KEY 0 0 ≤ a && decide (a ≤ Reg.HST_KEY 15 7) then some 8
    else if Reg.HST_CRED 0 ≤ a && decide (a ≤ Reg.HST_CRED 63) then some 9
    else match regRow a with
      | none => none
      | some r =>
        if r.nv = 0 then none
        else if a < 0x40010000 then some 12
        else if a < 0x40020000 then some 10
        else if a < 0x40040000 then some 5
        else if a < 0x40050000 then some 6
        else if a < 0x40180000 then some 0
        else if a < 0x40200000 then some 1
        else if a < 0x40400000 then some 2
        else if a < 0x40500000 then some 3
        else if a < 0x40600000 then some 4
        else if 0x40700000 ≤ a && decide (a < 0x40780000) then some 8
        else none

def State.nvSet (s : State) (n : Nat) : NvSet := mget NvSet.absent n s.recd.sets

/-- STATE of a set's REC_SSTATs. -/
def NvSet.stateCode (x : NvSet) : Nat :=
  if x.storing.isSome then 4 else if x.requested || x.pending then 3 else if x.fallback then 2
  else if x.seq = 0 then 0 else 1

/-- The state with a stored set replaced, and its REC_SSEQ and REC_SSTAT brought up to date. -/
def State.setNvSet (s : State) (n : Nat) (x : NvSet) : State :=
  let s1 := { s with recd := { s.recd with sets := mset NvSet.absent n x s.recd.sets } }
  let s2 := s1.setReg (Reg.REC_SSEQ n) (w32 x.seq)
  (s2.setRegF (Reg.REC_SSTAT n) 31 28 x.stateCode).setRegB (Reg.REC_SSTAT n) 27 x.bank

/-- The house image as set 11 holds it (R521, R525): its length, then its bytes. -/
def State.houseWords (s : State) : SMap Word :=
  match (s.cell 0).image with
  | none => []
  | some i => (hiddenKey 11 0, w32 i.len) :: i.bytes.map fun (e : Nat × Byte) => (hiddenKey 11 (1 + e.1), w32 e.2.toNat)

/-- The active values of every field a set holds (R420 step 1), and in set 0 the corrections of a COMMIT (R237), in
sets 8 and 9 the keys and credentials that wait for the commit (R456, R457). -/
def State.setImage (s : State) (n : Nat) : SMap Word :=
  let m := s.act.filter fun e => nvSetOf e.1 == some n
  if n = 11 then s.houseWords
  else if n = 0 then s.fe.newCorr.foldl (fun m e => mins e.1 e.2 (mdel e.1 m)) m
  else if n = 8 ∨ n = 9 then
    (s.host.newVals.filter fun e => nvSetOf e.1 == some n).foldl (fun m (e : Nat × Word) => mins e.1 e.2 (mdel e.1 m)) m
  else m

/-- The bytes of a set's content, key by key, over which its CRC runs. -/
def imageBytes (m : SMap Word) : List Byte := m.flatMap fun e => bytesOf 8 e.1 ++ bytesOf 4 e.2.toNat

/-- One second and the instants of R421, ns. -/
def second : Nat := 1000000000

/-- Whether a set may start a store now: none runs, and 1 s has passed since the last one started (R421). -/
def NvSet.free (x : NvSet) (now : Nat) : Bool :=
  x.storing.isNone && match x.lastStart with
    | none => true
    | some t => decide (t + second ≤ now)

/-- An apply asks for a store of a set (R421): one starts, or the set is marked pending. -/
def State.storeReq (s : State) (n : Nat) : State :=
  let x := s.nvSet n
  s.setNvSet n (if x.free s.dtb then { x with requested := true } else { x with pending := true })

/-- The bank of a set that is not in force. -/
def NvSet.other (x : NvSet) : Bool := if x.seq = 0 then x.bank else !x.bank

def NvSet.content (x : NvSet) (b : Bool) : SMap Word := if b then x.bankB else x.bankA

def NvSet.setContent (x : NvSet) (b : Bool) (m : SMap Word) : NvSet :=
  if b then { x with bankB := m } else { x with bankA := m }

/-- The keys and credentials that wait for a store of a set, without those that `m` holds with the same value. -/
def State.dropNew (s : State) (n : Nat) (m : SMap Word) : State :=
  if n = 8 ∨ n = 9 then
    s.setHost { s.host with newVals := s.host.newVals.filter fun (e : Nat × Word) =>
      !(nvSetOf e.1 == some n && mhas e.1 m && decide (mget 0 e.1 m = e.2)) }
  else s

/-- The corrections of a COMMIT dropped (R237). -/
def State.dropCorr (s : State) : State := { s with fe := { s.fe with newCorr := [], commit := none } }

/-- A store ends in an error at a step: the previous set stays in force and NVS_STORE_FAIL is recorded (R420).  Keys and credentials
that waited for it are dropped. -/
def State.storeFail (s : State) (n step : Nat) : State :=
  let s0 := ((if n = 0 then s.dropCorr else s).dropNew n ((s.nvSet n).storing.getD [])).failWaits n false
  let s1 := s0.setNvSet n { s0.nvSet n with storing := none, left := 0, failing := 0 }
  let s2 := (s1.setRegB (Reg.REC_SSTAT n) 16 true).setRegB Reg.REC_STAT 12 true
  s2.emit Ev.NVS_STORE_FAIL 0 [w32 n, w32 step]

/-- A store that is not made (R521): what a request waits for is not stored either, and a store under way goes on. -/
def State.storeRefused (s : State) (n step : Nat) : State :=
  let s1 := s.setNvSet n { s.nvSet n with requested := false, pending := false }
  ((s1.setRegB (Reg.REC_SSTAT n) 16 true).setRegB Reg.REC_STAT 12 true).emit Ev.NVS_STORE_FAIL 0 [w32 n, w32 step]

/-- Accesses of up to 256 bytes that the content of a set takes (R179, R420), as the model lays it out (log 38). -/
def accessesOf (m : SMap Word) : Nat := max 1 ((12 * m.length + 255) / 256)

/-- A store starts (R420): step 1 takes the active values, which steps 2 and 3 write to the bank not in force and read back in internal
transactions, and step 4 takes two more, for its commit record; `fail` is the step of these that meets an error, 0 for none. -/
def State.storeStart (s : State) (n fail : Nat) : State :=
  let x := s.nvSet n
  let m := s.setImage n
  let s0 := { s with host := { s.host with waits := s.host.waits.map fun (w : HapWait) =>
    if w.set = n then { w with started := true } else w } }
  (s0.setNvSet n { x.setContent x.other m with
    requested := false, pending := false, storing := some m, left := 2 * accessesOf m + 2, failing := fail,
    lastStart := some s.dtb }).askInternal (.store n)

/-- The sequence number one newer than that of the set in force, or 1 where the set is absent (R420). -/
def NvSet.nextSeq (x : NvSet) : Nat := if x.seq = 0 then 1 else (x.seq + 1) % 0x100000000

/-- The keys and credentials that a committed image of set 8 or 9 holds are in force, and their requests recorded and answered (R456,
R457). -/
def State.takeNew (s : State) (n : Nat) (m : SMap Word) : State :=
  let waits (k : Nat) : Bool := nvSetOf k == some n && mhas k s.host.newVals
  if n = 8 ∨ n = 9 then
    ((m.filter fun e => waits e.1).foldl (fun s (e : Nat × Word) => s.setReg e.1 e.2) (s.dropNew n m)).endWaits n
  else s

/-- The step of R420 that a store is in: 2 while the bank is written, 3 while it is read back, then 4. -/
def NvSet.step (x : NvSet) : Nat :=
  if x.left ≤ 2 then 4 else if accessesOf (x.storing.getD []) + 2 < x.left then 2 else 3

/-- A store whose request is returned to its block as not done (Table 5.5).  DESIGN CHOICE (log 104): it is dropped, with no record. -/
def State.storeDropped (s : State) (n : Nat) : State :=
  ((if n = 0 then s.dropCorr else s).withdrawInternal fun r => r == .store n).setNvSet n
    { s.nvSet n with storing := none, left := 0, failing := 0 }

/-- The store of a block that is shed or put in reset, where its request waits (Table 5.5). -/
def State.storeUndone (s : State) (n : Nat) : State :=
  if s.hwk.owed.contains (.store n) || s.hwk.iwaiting.any fun t => (s.tag t).op == some (.store n) then s.storeDropped n else s

/-- Step 4 and the new set in force (R420), without the record. -/
def State.storeCommit (s : State) (n : Nat) : State :=
  let x := s.nvSet n
  match x.storing with
  | none => s
  | some m =>
    let c : Commit := ⟨x.other, x.nextSeq, (imageBytes m).length, crc32 (imageBytes m), true⟩
    let s1 := s.setNvSet n { x with ring := (c :: x.ring).take 8, bank := x.other, seq := x.nextSeq,
                                    fallback := false, storing := none, left := 0, failing := 0 }
    (s1.countReg (Reg.REC_SSTAT n) 15 0 0xFFFF 1).takeNew n m

/-- Whether a commit record's bank content matches its length and CRC (R422). -/
def NvSet.matches (x : NvSet) (c : Commit) : Bool :=
  let b := imageBytes (x.content c.bank)
  c.ownOk && (b.length == c.len) && (crc32 b == c.crc)

/-- A set decided at start (R422): the newest commit record that qualifies is in force; NVS_SET_FALLBACK is recorded
where a newer one was rejected. -/
def State.decideSet (s : State) (n : Nat) : State :=
  let x := { s.nvSet n with
    storing := none, left := 0, failing := 0, requested := false, pending := false, lastStart := none, fallback := false }
  let good := x.ring.find? x.matches
  let newest := x.ring.find? fun c => c.ownOk
  match good, newest with
  | some c, some d =>
    let fb := seqNewer d.seq c.seq
    let s1 := s.setNvSet n { x with seq := c.seq, bank := c.bank, fallback := fb }
    if fb then s1.emit Ev.NVS_SET_FALLBACK 0 [w32 n, w32 c.seq, w32 d.seq] else s1
  | none, some d => (s.setNvSet n { x with seq := 0, bank := false }).emit Ev.NVS_SET_FALLBACK 0 [w32 n, 0, w32 d.seq]
  | _, none => s.setNvSet n { x with seq := 0, bank := false }

/-- The registers of a set loaded from the set in force; where the set is absent they take their reset values (R422). -/
def State.loadSet (s : State) (n : Nat) : State :=
  let x := s.nvSet n
  let rest := s.act.filter fun e => nvSetOf e.1 != some n
  let img := if x.seq = 0 then [] else x.content x.bank
  { s with act := img.foldl (fun m e => mins e.1 e.2 (mdel e.1 m)) rest
           shd := s.shd.filter fun e => nvSetOf e.1 != some n }

/-- The sets numbered from 0 to 15. -/
def allSets : List Nat := List.range 16

/-- A store abandoned before step 4 by a reset whose scope includes REC (R423). -/
def State.abandonStores (s : State) : State :=
  allSets.foldl (fun s n => (if (s.nvSet n).storing.isSome then s.storeFail n 0 else s).failWaits n true) s

end Sys2Proof.Machine
end

