-- ==== Sys2Proof/Machine/Loops.lean ====
section
/-! DEFINITION. Loop instances on their pairs: general registers, periods, slots, and taking a trap (R56 to R62, R99 to
R106 of 02_mbarov_isa.md; R166, R167, R170 of 04_placement_cells.md). -/
namespace Sys2Proof.Machine

/-! ### General registers -/

/-- The value of a general register; g0 reads 0 (R59). -/
def Loop.rg (L : Loop) (r : Reg) : Word := if r = 0 then 0 else mget 0 r.toNat L.g

/-- A general register written; a write to g0 has no effect (R59). -/
def Loop.wg (L : Loop) (r : Reg) (v : Word) : Loop := if r = 0 then L else { L with g := mset 0 r.toNat v L.g }

/-! ### Periods -/

/-- The period table (Table 4.2), in units of the 10 µs frame base. -/
def periodTable : List Nat :=
  [10, 20, 25, 50, 100, 200, 250, 500, 1000, 2000, 2500, 5000, 10000, 20000, 25000, 50000, 100000, 200000, 250000,
   500000, 1000000, 2000000, 2500000, 5000000, 10000000]

/-- The period of an index, ns. -/
def periodNs (pidx : Nat) : Nat := (periodTable.getD pidx 10) * 10000

def Loop.period (L : Loop) : Nat := periodNs L.decl.pidx

/-- A loop's period in seconds, as FP32 (Table 2.3, TS). -/
def Loop.ts (L : Loop) : Word := fpRat L.period 1000000000

/-- The first boundary of a period after an instant (R149). -/
def nextBoundary (period t : Nat) : Nat := (t / period + 1) * period

/-- The start of the period that an instant lies in. -/
def periodStart (period t : Nat) : Nat := t / period * period

/-- Whether a loop has passed its deadline, or executed its WCET, without retiring WAIT (R102, R151).  WCET includes the
WAIT and its checkpoint, so a WAIT in progress may reach it.  No deadline trap is raised during a relock (Table 15.3). -/
def State.overdueAt (s : State) (L : Loop) (now : Nat) : Bool :=
  L.inPeriod && !s.onSafe && (decide (L.start + L.decl.dl * 1000 ≤ now) ||
    (if L.waiting.isSome then decide (L.decl.wcet < L.cycles) else decide (L.decl.wcet ≤ L.cycles)))

/-- Whether a loop has passed its deadline, or executed its WCET, now. -/
def State.overdue (s : State) (L : Loop) : Bool := s.overdueAt L s.dtb

/-- The checkpoint in force (R160). -/
def Loop.ckpt (L : Loop) : Ckpt := if L.useB then L.ckptB else L.ckptA

/-! ### Slots -/

/-- A slot released: it keeps no value, and its channel takes its posture from the next frame boundary (R167). -/
def State.releaseSlot (s : State) (n : Nat) : State :=
  s.setSlot n { s.slot n with owner := none, next := [], released := some s.dtb }

/-- Every slot of a loop released. -/
def State.releaseSlots (s : State) (L : Loop) : State := L.decl.slots.foldl State.releaseSlot s

/-- The OUTs of one period of a loop withdrawn (R104): `outs` are the slots written in it, `per` its index.  A value that reached
a slot in an earlier period stays. -/
def State.withdrawOuts (s : State) (per : Nat) (outs : List Nat) : State :=
  outs.foldl (fun s n => s.setSlot n { s.slot n with next := (s.slot n).next.filter fun w => w.per != per }) s

/-! ### The end of a period -/

/-- PLC_MIG of a migration whose step 7 has come (Table 4.8). -/
def State.showMig (s : State) (m : Migration) : State :=
  s.setReg Reg.PLC_MIG (setFld (setFld (w32 (sat 0xFFFF ((s.dtb - m.since) / 1000))) 31 27 m.dst) 26 22 m.src)

/-- What a loop that goes on shows: that it awaits period 0 while that is ahead (PLC_LSTAT). -/
def State.live (s : State) (L : Loop) : LoopState := if s.dtb < L.period0 then .awaiting else .running

/-- The end of a migration (step 7 of Table 4.8): PLC_MIG shows it, and no loop of its new pair is migrating any more. -/
def State.migDone (s : State) (m : Migration) : State :=
  let s1 := s.showMig m
  { s1 with loops := s1.loops.map fun e =>
      if e.2.pair = m.dst ∧ e.2.state = .migrating then (e.1, { e.2 with state := s.live e.2 }) else e }

/-- A loop that a migration waits for has ended its period. -/
def State.migEnded (s : State) (l : Nat) : State :=
  let ms := s.placer.migs.map fun m => { m with todo := m.todo.filter fun k => k != l }
  let s1 := { s with placer := { s.placer with migs := ms.filter fun m => !m.todo.isEmpty } }
  (ms.filter fun m => m.todo.isEmpty).foldl State.migDone s1

/-- A pair free of a loop it executed. -/
def State.freePair (l : Nat) (s : State) (p : Nat) : State :=
  if (s.pair p).running = some l then s.setPair p { s.pair p with running := none } else s

/-- The pairs a loop runs on: two where it is pinned (R154). -/
def Loop.onPairs (L : Loop) : List Nat := match L.pair2 with
  | none => [L.pair]
  | some q => [L.pair, q]

/-- The pairs of a loop no longer execute it. -/
def State.leavePair (s : State) (l : Nat) (L : Loop) : State := (L.onPairs.foldl (State.freePair l) s).migEnded l

/-- A suspension or a stop takes effect at a period end of the loop (R170). -/
def State.periodEnd (s : State) (l : Nat) : State :=
  let L := s.loop l
  if L.stopReq then (s.setLoop l { L with state := .stopped, halted := true, stopReq := false }).releaseSlots L
  else if L.cmdSusp || L.t4Susp then (s.setLoop l { L with state := .suspended }).releaseSlots L
  else s

/-- A suspension or stop asked for: at once where the loop awaits its boundary, else at its period end (R170). -/
def State.suspendLoop (s : State) (l : Nat) : State := if (s.loop l).inPeriod then s else s.periodEnd l

/-! ### Traps -/

/-- A trap as it arises: its cause (Table 2.16), SUB and ADDR (Table 2.17). -/
structure Trap where
  cause : Nat
  sub : Nat
  addr : Nat
  deriving DecidableEq, Repr

/-- The causes of Table 2.16. -/
def trapIllegal : Nat := 1
def trapAccess : Nat := 2
def trapAlign : Nat := 3
def trapBus : Nat := 4
def trapValue : Nat := 5
def trapUser : Nat := 6
def trapDeadline : Nat := 7

/-- The trap record, one word for each field of Table 2.17 (R403). -/
def State.trapRecord (s : State) (l : Nat) (L : Loop) (t : Trap) (dl : Bool) (word : Word) : List Word :=
  [w32 t.cause, w32 t.sub, w32 dl.toNat, w32 l, w32 L.cell, w32 (s.cell L.cell).inc, w32 L.per, w32 L.pc, word,
   w32 t.addr] ++ dtbWords s.dtb

/-- TRAPLIM (R166). -/
def State.trapLimit (s : State) : Nat := s.regF Reg.PLC_CFG 15 8

/-- The placer's answer to a trapped period: the loop stops when its consecutive trapped periods reach TRAPLIM (R166),
else a suspension waiting for the period end takes effect (R170). -/
def State.placerTrap (s : State) (l : Nat) : State :=
  let L := s.loop l
  if s.trapLimit ≤ L.consec then
    let s1 := (s.setLoop l { L with state := .stopped, halted := true, stopReq := false }).releaseSlots L
    s1.emit Ev.LOOP_STOPPED L.cell
      [w32 l, w32 L.cell, w32 (s.cell L.cell).inc, w32 L.per, w32 L.cause, w32 s.trapLimit]
  else s.periodEnd l

/-- Taking a trap (R104): the period stops, its OUTs are withdrawn, LOOP_TRAP is recorded (once for each pair a pinned
loop runs on, R106), a trace buffer may take it as its trigger (R142) and the placer is informed.  The loop resumes from its latest checkpoint at its next dispatch. -/
def State.takeTrap (s : State) (l : Nat) (t : Trap) (dl : Bool) (word : Word) : State :=
  let L := s.loop l
  let L1 := { L with inPeriod := false, waiting := none, outs := [], cause := t.cause, consec := sat 255 (L.consec + 1),
                     total := sat 0xFFFF (L.total + 1), maxCycles := max L.maxCycles L.cycles }
  let s1 := ((s.withdrawOuts L.per L.outs).setLoop l L1).leavePair l L
  let body := s.trapRecord l L t dl word
  let s2 := s1.emit Ev.LOOP_TRAP L.cell body
  let s3 := if L.pair2.isSome then s2.emit Ev.LOOP_TRAP L.cell body else s2
  (s3.trapTrigger l).placerTrap l

/-- The word at the PC of a loop's code segment. -/
def Loop.wordAt (L : Loop) (pc : Nat) : Word := memWord L.code pc

/-- CLK_CORE in MHz (Table 15.1): 1,500, 1,000 or 750 by CORE of CLK_STAT, and 25 while the PLL is out of use. -/
def State.coreMHz (s : State) : Nat := if s.onSafe then 25 else [1500, 1000, 750].getD (s.regF Reg.CLK_STAT 29 28) 1500

/-- The absolute deadline of a loop's period (R102), ns. -/
def Loop.deadline (L : Loop) : Nat := L.start + L.decl.dl * 1000

/-- Whether the deadline of a loop passes while an instruction of `cycles` is in progress, or its WCET is reached (R102, R151): DL of
a trap that the instruction raises.  No deadline counts during a relock (Table 15.3). -/
def State.late (s : State) (L : Loop) (cycles : Nat) : Bool :=
  decide (L.decl.wcet ≤ L.cycles + cycles) || (!s.onSafe && decide (L.deadline * s.coreMHz ≤ s.dtb * s.coreMHz + cycles * 1000))

/-- The deadline trap (R102): its record names the first instruction not retired. -/
def State.takeDeadline (s : State) (l : Nat) : State :=
  s.takeTrap l ⟨trapDeadline, 0, 0⟩ true ((s.loop l).wordAt (s.loop l).pc)

/-! ### Executing one instruction -/

/-- What an instruction does when it does not trap: the state after it, with the loop's PC as the instruction leaves
it. -/
abbrev InstrRes := Except Trap State

/-- Whether a loop is executing instructions: dispatched, with no WAIT in progress (R56, R99). -/
def Loop.executing (L : Loop) : Bool := L.inPeriod && L.waiting.isNone

/-- One instruction of a loop, with its word and its cycle count (R70): the deadline trap is taken at the boundary before
it (R102); a fetch outside the code segment raises the access trap (R38); otherwise the instruction acts, or raises its
trap and changes nothing (R103).  A loop that is not executing runs no instruction.  DESIGN CHOICE (log 84): the record of a fetch
outside the code segment, where no word lies at PC, holds WORD 0 and DL 0. -/
def State.runInstr (s : State) (l : Nat) (word : Word) (cycles : Nat) (act : State → InstrRes) : State :=
  let L := s.loop l
  if !L.executing then s
  else if s.overdue L then s.takeDeadline l
  else if L.codeSize ≤ L.pc then s.takeTrap l ⟨trapAccess, 1, L.pc⟩ false 0
  else match act s with
    | .ok t => t.setLoop l { t.loop l with cycles := L.cycles + cycles }
    | .error t => s.takeTrap l t (s.late L cycles) word

/-- A loop's registers changed by an instruction and its PC moved past it. -/
def State.stepLoop (s : State) (l : Nat) (f : Loop → Loop) : State :=
  let L := f (s.loop l)
  s.setLoop l { L with pc := (L.pc + 4) % 0x100000000 }

/-- An instruction that only computes on the loop's registers and never traps. -/
def State.compute (s : State) (l : Nat) (word : Word) (cycles : Nat) (f : Loop → Loop) : State :=
  s.runInstr l word cycles fun s => .ok (s.stepLoop l f)

end Sys2Proof.Machine
end

