-- ==== Sys2Proof/Machine/FieldImage.lean ====
section
/-! DEFINITION. The field image, the cell's grants and its views of the image (R28 to R30, R37 of 01_architecture.md;
R91, R92 of 02_mbarov_isa.md; R172 of 04_placement_cells.md). -/
namespace Sys2Proof.Machine

/-! ### Grants -/

/-- Whether a cell is granted a node (R172): it lies in an enabled range. -/
def State.nodeGranted (s : State) (c a : Nat) : Bool :=
  (List.range 16).any fun r =>
    let b := s.reg (bk c (Reg.PLC_GNBASE r))
    let base := fld b 19 0
    bitAt b 31 && decide (base ≤ a) && decide (a < base + s.regF (bk c (Reg.PLC_GNCNT r)) 20 0)

/-- Whether a cell is granted a front-end entry. -/
def State.feGranted (s : State) (c i : Nat) : Bool := decide (i < 192) && s.regB (bk c (Reg.PLC_GFE (i / 32))) (i % 32)

/-- Whether a cell is granted a model column. -/
def State.colGranted (s : State) (c d : Nat) : Bool := decide (d < 16) && s.regB (bk c Reg.PLC_GCOL) d

/-- Whether a cell is granted an output slot. -/
def State.slotGranted (s : State) (c n : Nat) : Bool :=
  decide (n < 104) && s.regB (bk c (Reg.PLC_GSLOT (n / 32))) (n % 32)

/-- Whether a cell is granted the register page of an address (R40). -/
def State.pageGranted (s : State) (c a : Nat) : Bool :=
  let p := (a - 0x40000000) / 0x1000
  s.regB (bk c (Reg.PLC_GPAGE (p / 32))) (p % 32)

/-! ### Lines -/

/-- The first word of a node entry, a front-end entry and a column in the field image (R28). -/
def fiNode (a : Nat) : Nat := 128 * a
def fiFe (i : Nat) : Nat := 0x8000000 + 128 * i
def fiCol (d : Nat) : Nat := 0x10000000 + 4096 * d

/-- What an unlisted word of the field image reads as: NaN for TEMP and MOIST of a node entry and 0 elsewhere, which is
what the sweep engine writes after reset (R324). -/
def fiDefault (k : Nat) : Word := if k < 0x8000000 && decide (k % 128 < 2) then fpNaN else 0

/-- A word of the field image as stored. -/
def State.fiWord (s : State) (k : Nat) : Word := mget (fiDefault k) k s.image

/-- The field image with a word changed. -/
def State.setFi (s : State) (k : Nat) (w : Word) : State := { s with image := mset (fiDefault k) k w s.image }

/-- The field image with consecutive words changed. -/
def State.setFis (s : State) : Nat → List Word → State
  | _, [] => s
  | k, w :: t => (s.setFi k w).setFis (k + 1) t

/-- A line written in one write by its writing block: its mark under R30 goes (R29, R30). -/
def State.writeLine (s : State) (k : Nat) (ws : List Word) : State :=
  let s1 := s.setFis k ws
  { s1 with marked := mset false (k / 16) false s1.marked }

/-- Whether a line is marked under R30. -/
def State.isMarked (s : State) (k : Nat) : Bool := mget false (k / 16) s.marked

/-- A word of the field image as a read delivers it (R30): in a marked line 0 of a node or front-end entry, the VALID bit
of STAT reads 0. -/
def State.fiRead (s : State) (k : Nat) : Word :=
  let w := s.fiWord k
  if s.isMarked k && decide (k < 0x10000000) && k % 128 == 2 then setBit w 0 false else w

/-- The region of a field-image word (Table 2.14), its entry index and its line. -/
def fiRegion (k : Nat) : Nat := if k < 0x8000000 then 0 else if k < 0x10000000 then 1 else 2
def fiEntry (k : Nat) : Nat :=
  if k < 0x8000000 then k / 128 else if k < 0x10000000 then (k - 0x8000000) / 128 else (k - 0x10000000) / 128
def fiLine (k : Nat) : Nat := k % 128 / 16

/-- A DRAM read of a line finds an uncorrectable error: the line is marked, and recorded once for the marking (R30). -/
def State.markLine (s : State) (k cell : Nat) : State :=
  if s.isMarked k then s
  else ({ s with marked := mset false (k / 16) true s.marked }).emit Ev.ECC_UNCORRECTABLE cell
    [2, w32 (4 * k), w32 cell, w32 (fiRegion k), w32 (fiEntry k), w32 (fiLine k)]

/-- A single-bit error corrected on access and written back; the event is counted in the record (R35). -/
def State.eccCorrected (s : State) (mem addr : Nat) (pair : Option Nat) : State :=
  s.emit Ev.ECC_CORRECTED 0 [w32 mem, w32 addr, match pair with
    | some p => w32 p
    | none => 0xFFFFFFFF]

/-- What a read of a field-image word meets in DRAM. -/
def State.fiEcc (s : State) (k cell : Nat) (pair : Option Nat) (e : Ecc) : State :=
  match e with
  | .ok => s
  | .single => s.eccCorrected 2 (4 * k) pair
  | .double => s.markLine k cell

/-! ### Views (Table 1.5, R37) -/

/-- The field-image word behind a view address, where it holds an entry and the cell is granted it. -/
def State.viewKey (s : State) (c a : Nat) : Option Nat :=
  if a < 0x20000000 then
    let n := (a - 0x10000000) / 0x100
    if s.nodeGranted c n then some (fiNode n + a % 0x100 / 4) else none
  else
    let d := a - 0x30000000
    if d < 0x18000 then (if s.feGranted c (d / 0x200) then some (fiFe (d / 0x200) + d % 0x200 / 4) else none)
    else if 0x100000 ≤ d && decide (d < 0x140000) then
      let m := d - 0x100000
      if s.colGranted c (m / 0x4000) then some (fiCol (m / 0x4000) + m % 0x4000 / 4) else none
    else none

/-- The word a view gives at an address (R37). -/
def State.viewWord (s : State) (c a : Nat) : Word :=
  match s.viewKey c a with
  | none => 0
  | some k => s.fiRead k

/-! ### Cell shared data (R38) -/

def sharedBase : Nat := 0x20000000

/-- The bytes a cell's shared data allocation holds. -/
def Cell.sharedSize (c : Cell) : Nat := c.mem * 0x10000

/-- Whether `size` bytes at an address lie in the cell's shared data below its allocation end. -/
def Cell.inShared (c : Cell) (a size : Nat) : Bool :=
  decide (sharedBase ≤ a) && decide (a + size ≤ sharedBase + c.sharedSize)

/-- The memory that holds a byte of shared data: 1 shared SRAM for the fast part, 2 LPDDR5 (R160). -/
def Cell.sharedMem (c : Cell) (off : Nat) : Nat := if off < c.fast * 0x10000 then 1 else 2

/-- Bytes written to shared data; a word wholly written anew loses its uncorrectable mark (R35). -/
def Cell.writeShared (c : Cell) (off : Nat) (bs : List Byte) : Cell :=
  { c with shared := msetList 0 off bs c.shared,
           badWords := if bs.length = 4 then c.badWords.filter (fun w => w != off / 4) else c.badWords }

/-- A word of shared data by offset. -/
def Cell.sharedWord (c : Cell) (off : Nat) : Word := memWord c.shared off

/-- What an access to cell shared data at an address finds in its memory (R35): a single-bit error is corrected and counted, and a word
with a double-bit error is bad from then on. -/
def State.sharedEcc (s : State) (c a : Nat) (e : Ecc) : State :=
  let x := s.cell c
  let off := a - sharedBase
  match e with
  | .ok => s
  | .single => s.eccCorrected (x.sharedMem off) a none
  | .double => s.setCell c { x with badWords := off / 4 :: x.badWords.filter fun w => w != off / 4 }

end Sys2Proof.Machine
end

