-- ==== Sys2Proof/Machine/Access.lean ====
section
/-! DEFINITION. Who makes a register access, and which accesses reach a block (R14, R36, R39, R40 of 01_architecture.md). -/
namespace Sys2Proof.Machine

/-- The cell an accessor acts for. -/
def State.whoCell (s : State) : Who → Nat
  | .loop l => (s.loop l).cell
  | .session sid => (s.session sid).cell

/-- The bank of an accessor's own latches and copies. -/
def whoBank : Who → Nat
  | .loop l => l
  | .session sid => 8192 + sid

/-- Whether an address of the register area lies in the extent of a block (Table 1.6). -/
def inExtent (a : Nat) : Bool :=
  (decide (0x40000000 ≤ a) && decide (a < 0x40050000)) || (decide (0x40100000 ≤ a) && decide (a < 0x41000000))

/-- An access refused under R40: recorded with the cell and the address. -/
def State.pageDenied (s : State) (cell a : Nat) : State := s.emit Ev.PAGE_DENIED cell [w32 cell, w32 a]

/-- The access trap of a register access (R14, R36, R40): taken by a loop that executes; a session has none to take. -/
def State.accessTrap (s : State) (w : Who) (sub a : Nat) : State :=
  match w with
  | .session _ => s
  | .loop l =>
    let L := s.loop l
    if L.executing then s.takeTrap l ⟨trapAccess, sub, a⟩ (s.late L 20) (L.wordAt L.pc) else s

/-- An accessor's access to the register at an address: outside every block it raises the access trap, and so does one to a page not
granted to the accessor's cell, which is recorded (R36, R40); any other acts. -/
def State.access (s : State) (w : Who) (a : Nat) (f : State → State) : State :=
  if !inExtent a || a % 4 != 0 then s.accessTrap w 3 a
  else if !s.pageGranted (s.whoCell w) a then (s.pageDenied (s.whoCell w) a).accessTrap w 4 a
  else f s

/-- Whether the page of a register is granted to an accessor's cell. -/
def State.granted (s : State) (w : Who) (a : Nat) : Bool := s.pageGranted (s.whoCell w) a

end Sys2Proof.Machine
end

