-- ==== Sys2Proof/Machine/FpPlain.lean ====
section
/-! DEFINITION. FP32 values without flags, for the blocks that compute in FP32, and exact comparisons of an FP32 value with
a rational (R11 of 00_scope.md, R75 of 02_mbarov_isa.md). -/
namespace Sys2Proof.Machine

def addF (a b : Word) : Word := fpVal (fadd a b)
def subF (a b : Word) : Word := fpVal (fsub a b)
def mulF (a b : Word) : Word := fpVal (fmul a b)
def divF (a b : Word) : Word := fpVal (fdiv a b)

/-- The exact value of a finite FP32 word, scaled by 2^149. -/
def fpExact (w : Word) : Int := fpScaled (fpRead w)

/-- The scale of `fpExact`. -/
def fpScale : Int := 2 ^ 149

/-- A value compared with `n / d`: below it; false for NaN. -/
def fpLtRat (w : Word) (n : Int) (d : Nat) : Bool :=
  match fpRead w with
  | .nan _ => false
  | .inf neg => neg
  | v => decide (fpScaled v * d < n * fpScale)

/-- A value compared with `n / d`: above it; false for NaN. -/
def fpGtRat (w : Word) (n : Int) (d : Nat) : Bool :=
  match fpRead w with
  | .nan _ => false
  | .inf neg => !neg
  | v => decide (n * fpScale < fpScaled v * d)

/-- The value of a rational rounded to FP32. -/
def ratF (n : Int) (d : Nat) : Word := fpRatInt n d

/-- An exact value scaled by 2^149, divided by `d` and rounded to FP32. -/
def exactF (n : Int) (d : Nat) : Word := ratF n (2 ^ 149 * d)

/-- The FP32 nearest pi. -/
def piF : Word := 0x40490FDB

end Sys2Proof.Machine
end

