-- ==== Sys2Proof/Machine/StagingCore.lean ====
section
/-! DEFINITION. Staged configuration: what every block shares (R42 to R52 of 01_architecture.md). -/
namespace Sys2Proof.Machine

/-- The register page of a key; the banks of a page share it. -/
def pageOf (k : Nat) : Nat := addrOf k / 0x1000 * 0x1000

/-- The STAGE register of a page (R44). -/
def stageOf (page : Nat) : Nat := page + 0xFFC

/-- Every staged field of a page takes its shadow value, PENDING clears, DONE is set and COUNT advances (R46).  DIRTY
clears with the shadow copies (R43). -/
def State.commitPage (s : State) (page : Nat) : State :=
  let mine := s.shd.filter fun e => pageOf e.1 == page
  let s1 := mine.foldl (fun s e => s.setReg e.1 e.2) s
  let s2 := { s1 with shd := s1.shd.filter (fun e => pageOf e.1 != page), pend := mdel page s1.pend }
  let w := s2.reg (stageOf page)
  s2.setReg (stageOf page) (setFld (setBit (setBit (setBit w 0 false) 2 false) 4 true) 31 16 (fld w 31 16 + 1))

/-- Whether a page is pending (R45). -/
def State.isPending (s : State) (page : Nat) : Bool := mhas page s.pend

/-- Whether a page is pending by an APPLY accepted before this instant: one accepted in the cycle of an apply point waits for the next
(R46). -/
def State.acceptedBefore (s : State) (page : Nat) : Bool := s.isPending page && decide ((mget ⟨0, 0⟩ page s.pend).acceptedAt < s.dtb)

/-- A DISCARD (R49, R50). -/
def State.discard (s : State) (page : Nat) : State :=
  if s.isPending page then s.setRegB (stageOf page) 6 true
  else ({ s with shd := s.shd.filter fun e => pageOf e.1 != page }).setRegB (stageOf page) 2 false

/-- A write to staged bits of a register (R42, R48): on a pending page it performs no write, sets LOCKWR and is
recorded; otherwise it changes the shadow copy alone and sets DIRTY. -/
def State.writeStaged (s : State) (k mask : Nat) (v : Word) (cell : Nat) : State :=
  let page := pageOf k
  if s.isPending page then
    (s.setRegB (stageOf page) 6 true).emit Ev.STAGE_LOCKED_WRITE cell [w32 (addrOf k), w32 cell]
  else
    let w := (s.shadow k &&& ~~~ w32 mask) ||| (v &&& w32 mask)
    (s.setShadow k w).setRegB (stageOf page) 2 true

end Sys2Proof.Machine
end

