-- ==== Sys2Proof/Machine/FrontEnd.lean ====
section
/-! DEFINITION. The sensor front end (R203 to R243 of 06_front_end.md): scan, conversions, entries, probes, references and
calibration. -/
namespace Sys2Proof.Machine

/-! ### Modes and times -/

/-- Mode codes of Table 6.1. -/
def feDiel : Nat := 1
def feTc : Nat := 5
def feMa : Nat := 6
def feV : Nat := 7
def fePot : Nat := 8

/-- Whether a mode is an RTD mode. -/
def feIsRtd (m : Nat) : Bool := m == 2 || m == 3 || m == 4

/-- Whether a mode's conversion is followed by the open-circuit test window (R224). -/
def feHasTest (m : Nat) : Bool := m == 5 || m == 7 || m == 8

def State.feChan (s : State) (c : Nat) : FeChan := mget FeChan.idle c s.fe.chans
def State.setFeChan (s : State) (c : Nat) (x : FeChan) : State :=
  { s with fe := { s.fe with chans := mset FeChan.idle c x s.fe.chans } }
def State.feIn (s : State) (i : Nat) : FeInput := mget FeInput.reset i s.fe.ins
def State.setFeIn (s : State) (i : Nat) (x : FeInput) : State :=
  { s with fe := { s.fe with ins := mset FeInput.reset i x s.fe.ins } }

/-- Samples of an acquisition code (Table 6.2); one sample is 32 ns. -/
def feSamples (acq : Nat) : Nat := [1000, 4000, 16000, 64000, 256000, 625000, 520833, 3125000].getD acq 1000

/-- Samples per cycle of a spot code (Table 6.4). -/
def spotS (c : Nat) : Nat := [1560, 1000, 625, 500, 250, 200, 125, 100, 50, 40, 25, 20, 16, 10, 8].getD c 8

/-- The frequency of a spot, Hz, is 31,250,000 / S. -/
def spotRate : Nat := 31250000

/-- The spot codes of a SPOTS mask, ascending. -/
def spotsOf (mask : Nat) : List Nat := (List.range 15).filter fun c => mask / 2 ^ c % 2 == 1

/-- The time of a spot: lead-in of 8 cycles, at least 2.048 us, and whole cycles of acquisition (Table 6.3), ns. -/
def spotNs (acq c : Nat) : Nat :=
  let S := spotS c
  max (8 * S * 32) 2048 + (feSamples acq + S - 1) / S * S * 32

/-- The time from the start of a slot to the end of settling (Table 6.3), ns. -/
def settleNs (settle : Nat) : Nat := 200 + settle * 1000

/-- The time of the acquisition itself, ns: that of the spots with the reset switch closed between them in mode DIEL. -/
def acquireNs (mode acq : Nat) (spots : List Nat) : Nat :=
  if mode = feDiel then (spots.map (spotNs acq)).sum + 2000 * (spots.length - 1) else feSamples acq * 32

/-- The time from the start of a slot to its conversion boundary (Table 6.3), ns. -/
def slotNs (mode acq settle : Nat) (spots : List Nat) : Nat :=
  settleNs settle + (if mode = feDiel then 1000 else 0) + acquireNs mode acq spots

/-! ### Configuration of an input -/

def feMode (w : Word) : Nat := fld w 31 28
def feAcq (w : Word) : Nat := fld w 27 25
def feSub (w : Word) : Nat := fld w 24 22
def feTin (w : Word) : Nat := fld w 21 14
def feProf (w : Word) : Nat := fld w 13 8

/-- Registers of input `i` (0 to 191). -/
def feCfgK (i : Nat) : Nat := Reg.FE_INCFG (i / 4) (i % 4)
def feSetK (i : Nat) : Nat := Reg.FE_INSET (i / 4) (i % 4)
def feCmK (i : Nat) : Nat := Reg.FE_INCM (i / 4) (i % 4)

def State.feModeOf (s : State) (i : Nat) : Nat := feMode (s.reg (feCfgK i))
def State.feSpots (s : State) (i : Nat) : List Nat := spotsOf (s.regF (feSetK i) 30 16)
def State.feOn (s : State) (i : Nat) : Bool := s.regB (Reg.FE_CHCFG (i / 4)) (i % 4) && s.feModeOf i != 0

/-- Whether an input belongs to a front-face probe socket (R204). -/
def feOnSocket (i : Nat) : Bool := decide (i < 64) && decide (i % 4 < 2)

/-- Whether a socket input has no probe (R225). -/
def State.feUnplugged (s : State) (i : Nat) : Bool := feOnSocket i && !s.regB (Reg.FE_STAT (i / 4)) 31

/-- Whether tier T2 sheds dielectric measurement (R216). -/
def State.dielShed (s : State) : Bool := s.regB Reg.FE_GSTAT 31

/-- Whether a channel converts an input now (R205). -/
def State.feEligible (s : State) (i : Nat) : Bool :=
  s.feOn i && !s.feUnplugged i && !(s.feModeOf i == feDiel && s.dielShed)

/-- The selected reference, and the state of a reference: 0 GOOD, 1 DRIFT, 2 FAILED, 3 ABSENT. -/
def State.refSel (s : State) : Nat := s.regF Reg.FE_GSTAT 1 0
def State.refState (s : State) (r : Nat) : Nat := s.regF Reg.FE_REFSTAT (17 + 2 * r) (16 + 2 * r)
def State.setRefState (s : State) (r v : Nat) : State := s.setRegF Reg.FE_REFSTAT (17 + 2 * r) (16 + 2 * r) v

/-- Whether some reference is GOOD or DRIFT (R220). -/
def State.refUsable (s : State) : Bool := [0, 1, 2].any fun r => decide (s.refState r ≤ 1)

/-! ### Entries (R219 to R221) -/

/-- STAT bits of Table 6.9. -/
def fsUncal : Nat := 0x400000
def fsEmpty : Nat := 0x8000
def fsCal : Nat := 0x4000
def fsTcomp : Nat := 0x2000
def fsUnplugged : Nat := 0x1000
def fsOvp : Nat := 0x800
def fsCm : Nat := 0x400
def fsReversed : Nat := 0x200
def fsShort : Nat := 0x100
def fsOpen : Nat := 0x80
def fsOver : Nat := 0x40
def fsRange : Nat := 0x20
def fsRefdis : Nat := 0x10
def fsRefsusp : Nat := 0x08
def fsFirst : Nat := 0x04
def fsStale : Nat := 0x02
def fsValid : Nat := 0x01

/-- The bits that clear VALID (R220). -/
def fsBad : Nat := 0xFFC0

/-- The calibration correction `j` of an input: 1 and 2 the gain and offset, 4 + 2s and 5 + 2s the complex gain of spot s,
40 + s the empty-cell capacitance computed at spot s (R236). -/
def corrKey (i j : Nat) : Nat := hiddenKey 0 (64 * i + j)

/-- Whether the calibration set holds corrections for an input (UNCAL clear). -/
def State.feCalibrated (s : State) (i : Nat) : Bool := s.reg (corrKey i 0) != 0

/-- A correction in force: as stored, or the factory nominal value. -/
def State.feCorr (s : State) (i j : Nat) : Word :=
  if s.feCalibrated i && (decide (j < 4) || s.reg (corrKey i (if j < 40 then j / 2 + 38 else j)) != 0)
  then s.reg (corrKey i j) else Config.feNominal j

/-- Line 0 of an entry written; the flags of its channel's FE_STAT and INERR follow, and a transition of VALID is
recorded once (R221). -/
def State.writeEntry0 (s : State) (i : Nat) (ws : List Word) : State :=
  let stat := ws.getD 2 0
  let valid := bitAt stat 0
  let x := s.feIn i
  let s1 := (s.writeLine (fiFe i) ws).setFeIn i { x with valid := valid }
  let st := Reg.FE_STAT (i / 4)
  let s2 := s1.setReg st (setBit (s1.reg st ||| w32 (fld stat 11 6 * 0x100)) (i % 4) (!valid))
  if valid = x.valid then s2
  else s2.emit (if valid then Ev.FE_INPUT_OK else Ev.FE_INPUT_FAULT) 0
    [w32 i, stat, ws.getD 4 0, ws.getD 5 0]

/-- Line 0 as written at reset and when an input is disabled (R221). -/
def State.writeBlank (s : State) (i : Nat) : State :=
  let un := if s.feCalibrated i then 0 else fsUncal
  let s1 := s.setFeIn i { s.feIn i with seq := 0, first := false }
  s1.writeEntry0 i ([fpNaN, 0, w32 (un + s.feModeOf i * 0x10000)] ++ List.replicate 13 0)

/-- Line 0 of an entry with its STAT, and VALUE, changed and nothing else. -/
def State.remarkEntry (s : State) (i : Nat) (f : Nat → Nat) (value : Option Word) : State :=
  let ws := mgetList 0 (fiFe i) 16 s.image
  let ws1 := ws.set 2 (w32 (f (ws.getD 2 0).toNat))
  s.writeEntry0 i (match value with
    | some v => ws1.set 0 v
    | none => ws1)

/-! ### Scan -/

/-- The inputs of a channel that it converts now. -/
def State.feScan (s : State) (c : Nat) : List Nat := ([0, 1, 2, 3].map fun k => 4 * c + k).filter s.feEligible

/-- A channel with no conversion in progress and none to come (R205): nothing separates it from a frame boundary. -/
def State.feIdle (s : State) (c : Nat) : Bool := (s.feChan c).slot.isNone && (s.feScan c).isEmpty

/-- The length of an input's slot up to its conversion boundary, ns. -/
def State.slotLength (s : State) (i : Nat) : Nat :=
  slotNs (s.feModeOf i) (feAcq (s.reg (feCfgK i))) (s.regF (feSetK i) 15 0) (s.feSpots i)

/-- A slot begun. -/
def State.startSlot (s : State) (c i : Nat) (rest : List Nat) (scanStart : Nat) : State :=
  s.setFeChan c { s.feChan c with
    slot := some ⟨i, s.dtb, s.dtb + s.slotLength i, s.refSel, [], [], false, false, none⟩, todo := rest, scanStart := some scanStart }

/-- INPUT_SLOT_START (R205, R207): the next input of the scan, or a new scan from the lowest; SCAN is written when a scan
is complete. -/
def execInputSlotStart (c : Nat) (s : State) : Out :=
  let x := s.feChan c
  if 48 ≤ c ∨ x.slot.isSome ∨ s.dtb < x.freeAt ∨ s.onSafe then .next s
  else match x.todo.filter s.feEligible with
    | i :: rest => .next (s.startSlot c i rest (x.scanStart.getD s.dtb))
    | [] =>
      let s1 := match x.scanStart with
        | some t => s.setReg (Reg.FE_SCAN c) (w32 (sat 0xFFFFFFFF ((s.dtb - t) / 1000)))
        | none => s
      match s.feScan c with
      | i :: rest => .next (s1.startSlot c i rest s.dtb)
      | [] => .next (s1.setFeChan c { x with todo := [], scanStart := none })

/-- The length of what remains of a DIEL slot after a spot, from the end of the reset interval. -/
def spotsAfter (acq c : Nat) (spots : List Nat) : Nat :=
  ((spots.filter fun d => decide (c < d)).map fun d => spotNs acq d + 2000).sum

/-- DIEL_OVERLOAD (R210): the spot is abandoned and repeated once after 2.0 us; a second overload marks it.  DESIGN CHOICE
(log 112): after the second overload 2.0 us pass, and then what remains of the slot. -/
def execDielOverload (c spot : Nat) (s : State) : Out :=
  let x := s.feChan c
  match x.slot with
  | none => .next s
  | some sl =>
    let cfg := s.reg (feCfgK sl.input)
    let spots := s.feSpots sl.input
    if feMode cfg ≠ feDiel ∨ !spots.contains spot ∨ sl.overloaded.contains spot then .next s
    else if sl.repeated.contains spot then
      .next (s.setFeChan c { x with slot := some { sl with
        overloaded := spot :: sl.overloaded, due := s.dtb + 2000 + spotsAfter (feAcq cfg) spot spots } })
    else
      let y := s.feIn sl.input
      let s1 := s.setFeIn sl.input { y with ovl := (y.ovl + 1) % 0x100000000 }
      .next (s1.setFeChan c { x with slot := some { sl with
        repeated := spot :: sl.repeated, due := s.dtb + 2000 + spotNs (feAcq cfg) spot + spotsAfter (feAcq cfg) spot spots } })

/-- TERMINAL_OVERVOLTAGE (R223). -/
def execTerminalOvervoltage (c : Nat) (s : State) : Out :=
  let x := s.feChan c
  match x.slot with
  | none => .next s
  | some sl => .next (s.setFeChan c { x with slot := some { sl with ovp := true } })

/-! ### Measuring -/

/-- CF in pF and VEXC in tenths of a volt of a channel. -/
def cfPf (code : Nat) : Nat := [10, 47, 220, 1000].getD code 10
def vexc (code : Nat) : Word := ([0x3F000000, 0x3F800000, 0x40000000, 0x40800000] : List Word).getD code 0x3F000000

/-- The scale of the cosines of R211, the scale they are computed at, and 2 pi at that. -/
def cosScale : Int := 2 ^ 100
def cosFine : Int := 2 ^ 120
def twoPi : Int := 8351785813007552717653752915327115494

/-- The terms of the cosine series from the `n`-th on, `x2` the square of the angle and `t` the `n`-th term, at `cosFine`. -/
def cosTerms (x2 : Int) : Nat → Nat → Int → Int
  | 0, _, _ => 0
  | f + 1, n, t => t + cosTerms x2 f (n + 1) (-(t * x2 / cosFine) / ((2 * n + 1) * (2 * n + 2) : Nat))

/-- cos(2 pi j / S) at `cosScale`, to the nearest: the width of the integer arithmetic of R211 is open (log 39). -/
def cosAt (S j : Nat) : Int :=
  let x := twoPi * (if 2 * j ≤ S then j else S - j : Nat) / S
  (cosTerms (x * x / cosFine) 40 0 cosFine + 0x80000) / 0x100000

/-- sin(2 pi j / S), as the cosine a quarter of a turn back. -/
def sinAt (S j : Nat) : Int := cosAt (4 * S) ((4 * j + 3 * S) % (4 * S))

/-- The exact sum of samples times the values of `f` at their places in a cycle of `S` samples. -/
def spotSum (S : Nat) (f : Nat → Int) (xs : List Int) : Int := (xs.zipIdx.map fun e => e.1 * f (e.2 % S)).sum

/-- The samples of the acquisition of a spot: whole cycles, at least the acquisition time (Table 6.3). -/
def spotCount (acq c : Nat) : Nat := (feSamples acq + spotS c - 1) / spotS c * spotS c

/-- I and Q of a spot in volts (R211): exact sums over its samples in nanovolts, each rounded once to FP32. -/
def spotIq (acq c : Nat) (xs : List Int) : Word × Word :=
  let K := spotCount acq c
  let d := K * (cosScale * 1000000000).toNat
  (ratF (2 * spotSum (spotS c) (cosAt (spotS c)) (xs.take K)) d, ratF (-2 * spotSum (spotS c) (sinAt (spotS c)) (xs.take K)) d)

/-- Z of a spot (R211). -/
def State.spotZ (s : State) (i : Nat) (iq : Word × Word) : Word × Word :=
  let c := s.reg (Reg.FE_CHCFG (i / 4))
  let f (x : Word) : Word := fpNegate (divF (mulF (fpNat (cfPf (fld c 5 4))) x) (vexc (fld c 7 6)))
  (f iq.1, f iq.2)

/-- A complex product, each operation rounded. -/
def cmulF (a b : Word × Word) : Word × Word :=
  (subF (mulF a.1 b.1) (mulF a.2 b.2), addF (mulF a.1 b.2) (mulF a.2 b.1))

/-- The permittivity of a spot (R211): X = G * Z over C0. -/
def State.spotEps (s : State) (i code : Nat) (z : Word × Word) : Word × Word :=
  let x := cmulF (s.feCorr i (4 + 2 * code), s.feCorr i (5 + 2 * code)) z
  let c0 := s.feCorr i (40 + code)
  (divF x.1 c0, fpNegate (divF x.2 c0))

/-- The square of |z|, exact, scaled by 2^298. -/
def absSq (z : Word × Word) : Int := fpExact z.1 * fpExact z.1 + fpExact z.2 * fpExact z.2

/-- The moisture function of R212; none where the cell is empty. -/
def fePsi (kl e1r e2r e2i : Word) : Option Word :=
  let a := subF e1r fpOne
  let c := subF e2r fpOne
  let p05 : Word := 0x3D4CCCCD
  if fpLt a p05 || fpLt c p05 then none
  else
    let t1 := divF (subF e1r e2r) a
    let t2 := divF e2i c
    some (addF t1 (mulF kl t2))

/-- One row of the polynomial: four Horner steps (R213). -/
def feRow (C : List Word) (psi : Word) (i : Nat) : Word :=
  [3, 2, 1, 0].foldl (fun r j => addF (mulF r psi) (C.getD (5 * i + j) 0)) (C.getD (5 * i + 4) 0)

/-- The moisture polynomial (R213). -/
def feMoisture (C : List Word) (T psi : Word) : Word :=
  [3, 2, 1, 0].foldl (fun m i => addF (mulF m T) (feRow C psi i)) (feRow C psi 4)

/-- The words of a crop profile as registered: 25 coefficients, FREQ, KL and the six limits. -/
def State.profileWords (s : State) (p : Nat) : List Word :=
  ((List.range 25).map fun c => s.reg (Reg.FE_PC p c)) ++ [s.reg (Reg.FE_PFREQ p), s.reg (Reg.FE_PKL p)] ++
    ((List.range 6).map fun b => s.reg (Reg.FE_PBOX p b))

/-- A value outside a fitted range (R215). -/
def outside (v lo hi : Word) : Bool := fpLt v lo || fpGt v hi

/-- The common-mode window of a mode (Table 6.10), in tenths of a volt: maximum and default. -/
def cmTable (mode : Nat) : (Int × Int) × (Int × Int) :=
  if mode = feDiel then ((-5, 5), (-5, 5))
  else if feIsRtd mode then ((-10, 35), (-10, 35))
  else if mode = feTc then ((-100, 100), (-25, 25))
  else if mode = feMa then ((-100, 120), (-20, 120))
  else if mode = feV then ((-100, 120), (-10, 110))
  else ((-5, 30), (-5, 30))

/-- The common-mode window in force (R222). -/
def cmWindow (mode : Nat) (w : Word) : Int × Int :=
  if fld w 15 0 = 0 then (cmTable mode).2 else (sext 8 (fld w 7 0), sext 8 (fld w 15 8))

/-- A flag where a condition holds. -/
def flagIf (b : Bool) (f : Nat) : Nat := if b then f else 0

/-- Flags of a non-dielectric conversion with corrected quantity `q` and value `v`: each detection of Table 6.11 by itself, and
OVER for a quantity or value outside Table 6.5 on a side that no detection names. -/
def wiringFlags (mode sub : Nat) (q v : Word) (m : FeMeas) : Nat :=
  if feIsRtd mode then
    let k : Nat := if sub = 1 then 10 else 1
    let short := fpLtRat q (15 * k) 1
    flagIf m.leadOpen fsOpen ||| flagIf short fsShort ||| flagIf (mode != 2 && fpLtRat m.aux (-1) 1) fsReversed |||
      flagIf (fpGtRat q (400 * k) 1 || fpGtRat v 850 1 || (!short && fpLtRat v (-200) 1)) fsOver
  else if mode = feTc then
    flagIf m.leadOpen fsOpen ||| flagIf (fpLtRat v (-60) 1) fsReversed |||
      flagIf (fpGtRat v (min 1000 (Config.tcHigh sub)) 1 || fpLtRat v (Config.tcLow sub) 1 || fpGtRat q 80 1 ||
        fpLtRat q (-10) 1) fsOver
  else if mode = feMa then
    flagIf (fpLtRat q 18 5) fsOpen ||| flagIf (fpLtRat q (-1) 5) fsReversed ||| flagIf (fpGtRat q 25 1) fsShort |||
      flagIf (!fpIsNaN q && !fpLtRat q 21 1 && !fpGtRat q 25 1) fsOver
  else if mode = feV then
    flagIf m.leadOpen fsOpen ||| flagIf (fpGtRat q 54 5) fsOver ||| flagIf (fpLtRat q (-3) 10) fsReversed
  else
    flagIf m.leadOpen fsOpen ||| flagIf m.limit fsShort ||| flagIf (fpLtRat q 0 1 || fpGtRat q 1 1) fsOver

/-- What a conversion yields before the entry is written: VALUE, RAW, STAT flags, AUX, the four words E1R to E2I, the profile
number, the pairs of line 1, the spot codes, and the calibration sample. -/
structure FeResult where
  value : Word
  raw : Word
  flags : Nat
  aux : Word
  e4 : List Word
  prof : Nat
  pairs : List Word
  codes : List Nat
  sample : List (Word × Word)
  deriving DecidableEq, Repr

/-- The value of a corrected quantity (R217): a thermocouple's cold-junction EMF is added before inversion. -/
def feLinear (mode sub : Nat) (q aux : Word) : Word :=
  if feIsRtd mode then Config.rtdTemp sub q
  else if mode = feTc then Config.tcTemp sub (addF q (Config.tcEmf sub aux))
  else q

/-- A non-dielectric conversion (R217, R235). -/
def State.convertPlain (s : State) (i : Nat) (m : FeMeas) : FeResult :=
  let cfg := s.reg (feCfgK i)
  let mode := feMode cfg
  let q0 := if mode = 3 then subF m.raw m.aux else m.raw
  let q := addF (mulF (s.feCorr i 1) q0) (s.feCorr i 2)
  let v := feLinear mode (feSub cfg) q m.aux
  { value := v, raw := q0, flags := wiringFlags mode (feSub cfg) q v m,
    aux := if mode = feTc || mode == 3 then m.aux else 0, e4 := [0, 0, 0, 0], prof := 0,
    pairs := [], codes := [], sample := [(q0, 0)] }

/-- A dielectric conversion (R211 to R215). -/
def State.convertDiel (s : State) (i : Nat) (sl : FeSlot) (m : FeMeas) : FeResult :=
  let cfg := s.reg (feCfgK i)
  let codes := s.feSpots i
  let zs := (codes.zip m.spots).map fun p => s.spotZ i (spotIq (feAcq cfg) p.1 p.2)
  let eps := (codes.zip zs).map fun p => (p.1, s.spotEps i p.1 p.2)
  let P := sl.profile.getD (s.profileWords (feProf cfg))
  let freq := P.getD 25 0
  let at' (c : Nat) : Word × Word := match eps.find? fun e => e.1 == c with
    | some e => e.2
    | none => (fpNaN, fpNaN)
  let e1 := at' (fld freq 3 0)
  let e2 := at' (fld freq 7 4)
  let tk := fiFe (feTin cfg)
  let t := s.fiRead tk
  let stamp := (s.fiRead (tk + 4)).toNat + (s.fiRead (tk + 5)).toNat * 0x100000000
  let tcomp := !bitAt (s.fiRead (tk + 2)) 0 || decide (stamp + 10000000000 < s.dtb)
  let psi := (fePsi (P.getD 26 0) e1.1 e2.1 e2.2).filter fun p => !fpIsNaN p
  let v := match psi with
    | some p => if tcomp then fpNaN else feMoisture P t p
    | none => fpNaN
  let allOver := !codes.isEmpty && codes.all sl.overloaded.contains
  let isOpen := !zs.isEmpty && (codes.zip zs).all fun p =>
    let c0 := fpExact (s.feCorr i (40 + p.1))
    decide (100 * absSq p.2 < c0 * c0)
  let box (b : Nat) : Word := P.getD (27 + b) 0
  let range := (!tcomp && outside t (box 0) (box 1)) || outside (psi.getD fpNaN) (box 2) (box 3) || outside v (box 4) (box 5)
  { value := v, raw := psi.getD fpNaN,
    flags := (if allOver || m.limit then fsShort else 0) + (if sl.overloaded.isEmpty then 0 else fsOver) +
      (if isOpen then fsOpen else 0) + (if tcomp then fsTcomp else 0) + (if psi.isNone then fsEmpty else 0) +
      (if range then fsRange else 0),
    aux := t, e4 := [e1.1, e1.2, e2.1, e2.2], prof := feProf cfg,
    pairs := eps.flatMap fun e => [e.2.1, e.2.2], codes := codes, sample := zs }

/-- Four bytes of line 2 as a word: spot codes, 0xFF where unused. -/
def codeWord (codes : List Nat) (k : Nat) : Word :=
  ([0, 1, 2, 3].map fun j => w32 (codes.getD (4 * k + j) 0xFF * 256 ^ j)).foldl (· ||| ·) 0

/-- The lines of a conversion written: line 1, line 2, the history line, line 0 (R208, R219). -/
def State.writeConversion (s : State) (i : Nat) (sl : FeSlot) (m : FeMeas) (r : FeResult) : State :=
  let x := s.feIn i
  let mode := s.feModeOf i
  let win := cmWindow mode (s.reg (feCmK i))
  let cm := fpLtRat m.cmv win.1 10 || fpGtRat m.cmv win.2 10
  let susp := s.regF Reg.FE_REFSTAT 7 0 != 0 || sl.susp
  let flags := (if sl.ovp then fsOvp else r.flags + (if cm then fsCm else 0)) +
    (if s.fe.cal.sel = some i then fsCal else 0) + (if s.fe.disagree then fsRefdis else 0) +
    (if susp then fsRefsusp else 0) + (if x.first then fsFirst else 0) +
    sl.ref * 0x100000 + mode * 0x10000 + (if s.feCalibrated i then 0 else fsUncal)
  let valid := flags / 64 % 1024 == 0 && s.refUsable
  let value := if valid then r.value else fpNaN
  let seq := (x.seq + 1) % 0x100000000
  let k := fiFe i
  let h := x.hidx
  let l1 := (r.pairs ++ List.replicate 16 0).take 16
  let l2 := [codeWord r.codes 0, codeWord r.codes 1, if mode = feDiel then w32 x.ovl else 0, w32 seq] ++ List.replicate 12 0
  let hist := ((mgetList 0 (k + 64 + 16 * (h / 8)) 16 s.image).set (2 * (h % 8)) (w32 s.dtb)).set (2 * (h % 8) + 1) value
  let l0 := [value, r.raw, w32 (flags + if valid then fsValid else 0), w32 seq, w32 s.dtb, w32 (s.dtb / 0x100000000),
    r.aux, m.cmv] ++ r.e4 ++ [w32 r.prof, s.reg Reg.FE_CALSEQ, w32 h, 0]
  let s1 := ((s.writeLine (k + 16) l1).writeLine (k + 32) l2).writeLine (k + 64 + 16 * (h / 8)) hist
  let s2 := s1.setFeIn i { x with seq := seq, hidx := (h + 1) % 32, first := false }
  let s3 := s2.writeEntry0 i l0
  let c := i / 4
  s3.setReg (Reg.FE_CONV c) (s3.reg (Reg.FE_CONV c) + 1)

/-! ### Calibration (R233 to R238) -/

/-- FE_CALSTAT.STATE codes and RES codes. -/
def State.calState (s : State) : Nat := s.regF Reg.FE_CALSTAT 31 28
def State.setCal (s : State) (st : Nat) (res : Option Nat) (c : FeCal) : State :=
  let s1 := { s with fe := { s.fe with cal := c } }
  let w := setBit (setBit (setFld (s1.reg Reg.FE_CALSTAT) 31 28 st) 1 c.hi.isSome) 0 c.lo.isSome
  let s2 := s1.setReg Reg.FE_CALSTAT (match res with
    | some r => setFld w 27 24 r
    | none => w)
  s2.setRegB Reg.FE_GSTAT 30 c.sel.isSome

/-- RES alone. -/
def State.calRes (s : State) (r : Nat) : State := s.setRegF Reg.FE_CALSTAT 27 24 r

/-- The entry of the selected input with CAL cleared (R237); its next conversion brings VALID. -/
def State.calUnmark (s : State) : State :=
  match s.fe.cal.sel with
  | none => s
  | some i => s.remarkEntry i (fun st => (st ||| fsCal) - fsCal) none

/-- The calibration ended: idle, nothing selected, points discarded, RES set (R237, R238). -/
def State.calEnd (s : State) (res : Option Nat) : State :=
  (s.calUnmark.setCal 0 res FeCal.idle).setRegB Reg.FE_CALSEL 31 false

/-- Whether the active values of set 0 differ from those in force in the store. -/
def State.feUnstored (s : State) : Bool :=
  let x := s.nvSet 0
  decide (s.setImage 0 ≠ if x.seq = 0 then [] else x.content x.bank)

/-- The store of a COMMIT stopped with nothing of the calibration stored (R238); what an apply asked for is still stored. -/
def State.calUnstore (s : State) : State :=
  let s1 := (s.withdrawInternal fun r => r == .store 0).dropCorr
  let x := s1.nvSet 0
  s1.setNvSet 0 (if x.storing.isSome then { x with storing := none, left := 0, failing := 0, pending := s1.feUnstored }
    else { x with requested := x.requested && s1.feUnstored, pending := x.pending && s1.feUnstored })

/-- Whether writes are refused: measuring or storing (R233). -/
def State.calBusy (s : State) : Bool := s.calState == 1 || s.calState == 3

/-- An event that ends a calibration of an input: nothing is stored (R238). -/
def State.calEvent (s : State) (applies : Nat → Bool) (res : Nat) : State :=
  match s.fe.cal.sel with
  | none => s
  | some i =>
    if !applies i then s else (if s.calState = 3 then s.calUnstore else s).calEnd (some res)

/-- ABORT (R237): the points are discarded; a store that runs is left. -/
def State.calAbort (s : State) : State := s.calEnd none

/-- A write to FE_CALSEL (R233). -/
def State.calSelect (s : State) (v : Word) : State :=
  if s.calBusy then s.calRes 8
  else if !bitAt v 31 then (s.calAbort).setReg Reg.FE_CALSEL (v &&& 0x7FFFFFFF)
  else if 191 < fld v 7 0 then
    (s.calEnd (some 7)).setReg Reg.FE_CALSEL (setBit v 31 false)
  else
    ((s.calUnmark.setReg Reg.FE_CALSEL v).setCal 0 (some 0) { FeCal.idle with sel := some (fld v 7 0) }).remarkEntry
      (fld v 7 0) (fun st => (st ||| fsValid) - fsValid ||| fsCal) (some fpNaN)

/-- A write to FE_CALREF or FE_CALREFI (R233). -/
def State.calRefWrite (s : State) (k : Nat) (v : Word) : State := if s.calBusy then s.calRes 8 else s.setReg k v

/-- POINTLO or POINTHI (R234). -/
def State.calPoint (s : State) (hi : Bool) : State :=
  if s.calBusy then s.calRes 8
  else if s.fe.cal.sel.isNone then s.calRes 7
  else s.setCal 1 (some 0) { s.fe.cal with measuring := some hi, samples := [] }

/-- A conversion of the selected input added to the point being measured, where it was taken under the selected reference: a change of
reference ends the point, so that all 16 share one (R234, R238).  DESIGN CHOICE (log 112): a conversion in progress at the write counts. -/
def State.calSample (s : State) (i ref : Nat) (r : FeResult) : State :=
  let c := s.fe.cal
  if c.sel == some i && c.measuring.isSome && decide (c.samples.length < 16) && ref == s.refSel then
    { s with fe := { s.fe with cal := { c with samples := c.samples ++ [r.sample] } } }
  else s

/-- The measurement range of a mode and SUB, as its span over 2 (Table 6.5). -/
def feSpan (mode sub : Nat) : Nat :=
  if feIsRtd mode then (if sub = 1 then 7700 else 770)
  else if mode = feTc then 180 else if mode = feMa then 52 else if mode = feV then 23 else 2

/-- The spread of exact values. -/
def spread (vs : List Int) : Int :=
  match vs with
  | [] => 0
  | v :: t => t.foldl max v - t.foldl min v

/-- Whether the 16 conversions of a point spread too far (R234). -/
def State.calUnstable (s : State) (i : Nat) (samples : List (List (Word × Word))) : Bool :=
  let cfg := s.reg (feCfgK i)
  let col (k : Nat) : List (Word × Word) := samples.map fun x => x.getD k (0, 0)
  let n := (samples.headD []).length
  if feMode cfg = feDiel then
    (List.range n).any fun k =>
      let zs := (col k).map fun z => (fpExact z.1, fpExact z.2)
      let sr := (zs.map Prod.fst).sum
      let si := (zs.map Prod.snd).sum
      let mean2 := sr * sr + si * si
      zs.any fun a => zs.any fun b =>
        decide (mean2 < ((a.1 - b.1) * (a.1 - b.1) + (a.2 - b.2) * (a.2 - b.2)) * (256 * 250000))
  else
    decide (feSpan (feMode cfg) (feSub cfg) * fpScale < spread ((col 0).map fun z => fpExact z.1) * 20000)

/-- The average of 16 conversions, rounded once. -/
def calAverage (samples : List (List (Word × Word))) : List (Word × Word) :=
  (List.range (samples.headD []).length).map fun k =>
    (exactF ((samples.map fun x => fpExact (x.getD k (0, 0)).1).sum) 16,
     exactF ((samples.map fun x => fpExact (x.getD k (0, 0)).2).sum) 16)

/-- CAL_POINT_DONE (R234). -/
def execCalPointDone (s : State) : Out :=
  let c := s.fe.cal
  match c.sel, c.measuring with
  | some i, some hi =>
    if c.samples.length < 16 then .next s
    else
      let bad := s.calUnstable i c.samples
      let p : FePoint := ⟨calAverage c.samples, s.reg Reg.FE_CALREF, s.reg Reg.FE_CALREFI⟩
      let c1 := { c with measuring := none, samples := [] }
      let c2 := if bad then c1 else if hi then { c1 with hi := some p } else { c1 with lo := some p }
      let st := if c2.hi.isSome || c2.lo.isSome then 2 else 0
      .next (s.setCal st (some (if bad then 2 else 1)) c2)
  | _, _ => .next s

/-- The corrections of a non-dielectric input (R235); none where a check fails. -/
def State.plainCorr (s : State) (i : Nat) (lo hi : FePoint) : Option (List (Nat × Word)) :=
  let cfg := s.reg (feCfgK i)
  let rl := (lo.avg.headD (0, 0)).1
  let rh := (hi.avg.headD (0, 0)).1
  let g := divF (subF hi.ref lo.ref) (subF rh rl)
  let o := subF lo.ref (mulF g rl)
  let span := feSpan (feMode cfg) (feSub cfg)
  if fpIsNaN g || fpIsNaN o || fpLtRat g 49 50 || fpGtRat g 51 50 || fpGtRat (fpAbs o) span 200 then none
  else some [(corrKey i 0, 1), (corrKey i 1, g), (corrKey i 2, o)]

/-- A complex quotient, each operation rounded. -/
def cdivF (a b : Word × Word) : Word × Word :=
  let d := addF (mulF b.1 b.1) (mulF b.2 b.2)
  (divF (addF (mulF a.1 b.1) (mulF a.2 b.2)) d, divF (subF (mulF a.2 b.1) (mulF a.1 b.2)) d)

/-- The limits of arg G, 0.2 rad, through its tangent. -/
def tanArg : Nat := 20271003550867248332
def tanDen : Nat := 100000000000000000000

/-- The correction of one spot of a dielectric input (R236): G and C0; none where a check fails. -/
def spotCorr (code : Nat) (zlo zhi : Word × Word) (cs gs : Word) : Option ((Word × Word) × Word) :=
  let omega := mulF (mulF 0x40000000 piF) (fpRat spotRate (spotS code))
  let xs : Word × Word := (cs, fpNegate (divF (mulF gs (fpNat 1000000)) omega))
  let G := cdivF xs zhi
  let gz := cmulF G zlo
  let c0 := gz.1
  let g2 := absSq G
  let one := fpScale * fpScale
  let re := fpExact G.1
  let im := fpExact G.2
  let bad := !fpIsFinite G.1 || !fpIsFinite G.2 || !fpIsFinite c0 || !fpIsFinite gz.2 ||
    decide (g2 * 100 < 64 * one) || decide (25 * one < 16 * g2) || decide (re ≤ 0) ||
    decide ((tanArg : Int) * re < (im.natAbs : Int) * tanDen) ||
    fpLtRat c0 1 2 || fpGtRat c0 500 1 || decide (2 * fpExact c0 < 100 * ((fpExact gz.2).natAbs : Int))
  if bad then none else some (G, c0)

/-- The corrections of a dielectric input (R236). -/
def State.dielCorr (s : State) (i : Nat) (lo hi : FePoint) : Option (List (Nat × Word)) :=
  let rs := (s.feSpots i).zipIdx.map fun p =>
    (p.1, spotCorr p.1 (lo.avg.getD p.2 (0, 0)) (hi.avg.getD p.2 (0, 0)) hi.ref hi.refi)
  if rs.any fun r => r.2.isNone then none
  else some ([(corrKey i 0, 1)] ++ (rs.flatMap fun r => match r.2 with
      | some x => [(corrKey i (4 + 2 * r.1), x.1.1), (corrKey i (5 + 2 * r.1), x.1.2), (corrKey i (40 + r.1), x.2)]
      | none => []))

/-- COMMIT (R235 to R238): the corrections are computed and checked, and the store of set 0 starts. -/
def State.calCommit (s : State) : State :=
  let c := s.fe.cal
  if (s.nvSet 0).storing.isSome || s.calBusy then s.calRes 8
  else match c.sel, c.lo, c.hi with
    | some i, some lo, some hi =>
      match (if s.feModeOf i = feDiel then s.dielCorr i lo hi else s.plainCorr i lo hi) with
      | none => s.calEnd (some 3)
      | some ks =>
        let s1 := { s with fe := { s.fe with
          newCorr := ks.foldl (fun m (e : Nat × Word) => mins e.1 e.2 (mdel e.1 m)) [], commit := some i } }
        (s1.setCal 3 none c).storeReq 0
    | _, _, _ => s.calEnd (some 11)

/-- The store of a COMMIT has failed: the previous corrections stay (R237). -/
def State.feStoreFailed (s : State) : State := if s.calState = 3 then s.calEnd (some 6) else s

/-- The commit record of set 0 is written: new corrections act, CALSEQ advances and FE_CAL_COMMIT is recorded (R237). -/
def State.feStoreDone (s : State) : State :=
  let input := s.fe.commit.getD (s.regF Reg.FE_CALSEL 7 0)
  let s1 := s.fe.newCorr.foldl (fun s e => s.setReg e.1 e.2) s
  let s2 := s1.setReg Reg.FE_CALSEQ (w32 (s1.nvSet 0).seq)
  let s3 := if s2.calState = 3 then s2.calEnd (some 1) else s2
  s3.dropCorr.emit Ev.FE_CAL_COMMIT 0 [w32 input, s3.reg Reg.FE_CALSEQ]

/-- FE_CALSEL_WRITE (R233). -/
def execFeCalselWrite (w : Who) (v : Word) (s : State) : Out :=
  .next (s.access w Reg.FE_CALSEL fun s => s.calSelect v)

/-- A write to FE_CALCMD: its four commands, or BADCMD (R233). -/
def State.calCmd (s : State) (v : Word) : State :=
  match fld v 3 0 with
  | 1 => s.calPoint false
  | 2 => s.calPoint true
  | 3 => s.calCommit
  | 4 => s.calAbort
  | _ => s.calRes 7

/-- POINTLO (R234). -/
def execPointlo (w : Who) (s : State) : Out :=
  .next (s.access w Reg.FE_CALCMD fun s => s.calPoint false)

/-- POINTHI (R234). -/
def execPointhi (w : Who) (s : State) : Out :=
  .next (s.access w Reg.FE_CALCMD fun s => s.calPoint true)

/-- COMMIT (R237). -/
def execCommit (w : Who) (s : State) : Out :=
  .next (s.access w Reg.FE_CALCMD fun s => s.calCommit)

/-- ABORT (R237). -/
def execAbortI (w : Who) (s : State) : Out :=
  .next (s.access w Reg.FE_CALCMD fun s => s.calAbort)

/-- CAL_BAD_CMD (R233): a write of an unknown code; a code of Table FE_CALCMD is that command's row. -/
def execCalBadCmd (w : Who) (v : Word) (s : State) : Out :=
  if 1 ≤ fld v 3 0 ∧ fld v 3 0 ≤ 4 then .next s else .next (s.access w Reg.FE_CALCMD fun s => s.calRes 7)

/-! ### Applies of FE pages -/

/-- The pages of channel `c`, of the references and of profile page `q` (Table 6.12). -/
def fePage (c : Nat) : Nat := 0x40101000 + 0x1000 * c
def feCommonPage : Nat := 0x40131000
def feProfilePage (q : Nat) : Nat := 0x40133000 + 0x1000 * q

/-- What an apply of a channel page does beside the new values (R221, R238, R240). -/
def State.feChannelApplied (old s : State) (c : Nat) : State :=
  let s1 := [0, 1, 2, 3].foldl (fun s k =>
    let i := 4 * c + k
    if old.feOn i && !s.feOn i then s.writeBlank i
    else if !old.feOn i && s.feOn i then s.setFeIn i { s.feIn i with first := true, ovl := 0 }
    else s) s
  let changed (i : Nat) : Bool := i / 4 == c && ([Reg.FE_CHCFG c, feCfgK i, feSetK i, feCmK i].any fun k => old.reg k != s1.reg k)
  (if s1.calState = 3 then s1 else s1.calEvent changed 9).storeReq 0

/-- Conversions in progress finish under the old profiles (R47). -/
def State.keepProfiles (s : State) (q : Nat) : State :=
  { s with fe := { s.fe with chans := s.fe.chans.map fun e =>
      (e.1, match e.2.slot with
        | some sl =>
          let p := feProf (s.reg (feCfgK sl.input))
          if p / 8 = q && sl.profile.isNone then { e.2 with slot := some { sl with profile := some (s.profileWords p) } } else e.2
        | none => e.2) } }

/-- VREF_X is ABSENT while XFIT is 0 (R227), and after that in the state it was in before: FAILED stays FAILED (R232). -/
def State.refFitted (s : State) : State :=
  if !s.regB Reg.FE_REFCFG 2 then
    let held := if s.refState 2 = 3 then s.fe.xHeld else s.refState 2
    (({ s with fe := { s.fe with xHeld := held } }).setRefState 2 3).setReg (Reg.FE_REFDEV 2) 0
  else if s.refState 2 = 3 then s.setRefState 2 s.fe.xHeld else s

/-- A run of averages beyond 0.15 % ends without a switch (R229). -/
def State.refRunEnd (s : State) (r : Nat) : State :=
  if s.regF Reg.FE_REFSTAT 7 0 = 0 then s
  else (s.setRegF Reg.FE_REFSTAT 7 0 0).emit Ev.FE_REF_SUSPECT 0 [w32 r, s.reg (Reg.FE_REFDEV r), 0]

/-- Conversions in progress carry REFSUSP where the selected reference is suspect as it is left (R229). -/
def State.suspectSlots (s : State) : State :=
  if s.regF Reg.FE_REFSTAT 7 0 = 0 then s
  else { s with fe := { s.fe with chans := s.fe.chans.map fun e =>
    (e.1, { e.2 with slot := e.2.slot.map fun sl => { sl with susp := true } }) } }

/-- What an apply of the common page does: a change of PREF selects it, and a change of reference ends a calibration, but stops no store
(R238). -/
def State.feCommonApplied (old s : State) : State :=
  let s1 := s.refFitted
  let pref := s1.regF Reg.FE_REFCFG 1 0
  if pref = old.regF Reg.FE_REFCFG 1 0 ∨ pref = s1.refSel then s1.storeReq 0
  else
    let s2 := (s1.suspectSlots.refRunEnd s1.refSel).setRegF Reg.FE_GSTAT 1 0 pref
    (if s2.calState = 3 then s2 else s2.calEvent (fun _ => true) 5).storeReq 0

/-! ### The conversion boundary -/

/-- Whether a page's apply has reached a frame boundary (Table 1.7). -/
def State.frameReached (s : State) (page : Nat) : Bool :=
  match s.pend.find? fun e => e.1 == page with
  | some e => s.boundaryPast e.2.acceptedAt
  | none => false

/-- A pending channel page takes effect (Table 1.7). -/
def State.feApplyChannel (s : State) (c : Nat) : State :=
  if s.frameReached (fePage c) then State.feChannelApplied s (s.commitPage (fePage c)) c else s

/-- CONVERSION_BOUNDARY (R208): the entry is written, or the conversion discarded after a plug-in (R226), and a pending
channel page takes effect. -/
def execConversionBoundary (c : Nat) (m : FeMeas) (s : State) : Out :=
  let x := s.feChan c
  match x.slot with
  | none => .next s
  | some sl =>
    if s.dtb < sl.due || s.onSafe then .next s
    else
      let i := sl.input
      let y := s.feIn i
      let mode := s.feModeOf i
      let r := if mode = feDiel then s.convertDiel i sl m else s.convertPlain i m
      let s1 := if 0 < y.discard then s.setFeIn i { y with discard := y.discard - 1, first := true }
        else (s.writeConversion i sl m r).calSample i sl.ref r
      let s2 := if sl.ref = s1.refSel then s1 else s1.setRegB (Reg.FE_STAT c) 14 true
      let s3 := s2.setFeChan c { s2.feChan c with slot := none, freeAt := s.dtb + if feHasTest mode then 100000 else 0 }
      .next (s3.feApplyChannel c)

/-! ### Probes (R225, R226) -/

/-- The conversion in progress of a channel abandoned where its input is among those named. -/
def State.abandonSlot (s : State) (c : Nat) (f : Nat → Bool) : State :=
  let x := s.feChan c
  match x.slot with
  | some sl => if f sl.input then s.setFeChan c { x with slot := none } else s
  | none => s

/-- Inputs taken out of the scans in progress: they rejoin at a channel's next scan. -/
def State.dropTodo (s : State) (f : Nat → Bool) : State :=
  { s with fe := { s.fe with chans := s.fe.chans.map fun e => (e.1, { e.2 with todo := e.2.todo.filter fun i => !f i }) } }

/-- PROBE_REMOVED (R225): a sample that shows the contact open; one within the 200 ms of R226 restarts their count. -/
def execProbeRemoved (n : Nat) (s : State) : Out :=
  let s0 := { s with fe := { s.fe with opened := mset 0 n s.dtb s.fe.opened } }
  if 16 ≤ n then .next s
  else if !s.regB (Reg.FE_STAT n) 31 then .next s0
  else
    let s1 := (s0.abandonSlot n fun i => decide (i % 4 < 2)).dropTodo fun i => i == 4 * n || i == 4 * n + 1
    let s2 := (s1.setRegB (Reg.FE_STAT n) 31 false).setRegB (Reg.FE_STAT n) 15 true
    let s3 := [4 * n, 4 * n + 1].foldl (fun s i =>
      (s.setFeIn i { s.feIn i with discard := 0, first := false }).remarkEntry i
        (fun st => (st ||| fsValid ||| fsFirst) - fsValid - fsFirst ||| fsUnplugged) (some fpNaN)) s2
    .next ((s3.calEvent (fun i => i == 4 * n || i == 4 * n + 1) 4).emit Ev.PROBE_REMOVED 0 [w32 n])

/-- The contact has read closed for 200 ms from the sample after the last open one (R225, R226). -/
def State.closedLong (s : State) (n : Nat) : Bool := decide (mget 0 n s.fe.opened + 10000 + 200000000 ≤ s.dtb)

/-- PROBE_INSERTED (R226). -/
def execProbeInserted (n : Nat) (s : State) : Out :=
  if 16 ≤ n ∨ s.regB (Reg.FE_STAT n) 31 ∨ !s.closedLong n then .next s
  else
    let s1 := (s.setRegB (Reg.FE_STAT n) 31 true).setRegB (Reg.FE_STAT n) 15 true
    let s2 := [4 * n, 4 * n + 1].foldl (fun s i => s.setFeIn i { s.feIn i with discard := 1 }) s1
    let s3 := if s2.dielShed && s2.feOn (4 * n) && s2.feModeOf (4 * n) == feDiel then
        s2.remarkEntry (4 * n) (fun st => (st ||| fsValid ||| fsUnplugged) - fsValid - fsUnplugged ||| fsStale) (some fpNaN)
      else s2
    let s4 := { s3 with face := { s3.face with probeAt := some s.dtb } }
    .next (s4.emit Ev.PROBE_INSERTED 0 [w32 n])

/-! ### Tier T2 (R216) -/

/-- Dielectric measurement shed. -/
def State.feShed (s : State) : State :=
  let busy := (s.fe.chans.filter fun e => match e.2.slot with
    | some sl => s.feModeOf sl.input == feDiel
    | none => false).map Prod.fst
  let s1 := (busy.foldl (fun s c => s.abandonSlot c fun _ => true) s).dropTodo fun i => s.feModeOf i == feDiel
  let on := (List.range 192).filter fun i => s.feOn i && s.feModeOf i == feDiel
  let s2 := on.foldl (fun s i => s.remarkEntry i (fun st => st ||| fsStale) none) (s1.setRegB Reg.FE_GSTAT 31 true)
  let s3 := s2.calEvent (fun i => s.feModeOf i == feDiel) 10
  s3.emit Ev.FE_DIEL_SHED 0 [w32 on.length, w32 busy.length]

/-- Dielectric measurement restored: DIEL inputs rejoin at each channel's next scan. -/
def State.feRestore (s : State) : State := s.setRegB Reg.FE_GSTAT 31 false

/-! ### References (R227 to R232) -/

/-- The references fitted. -/
def State.refsFitted (s : State) : List Nat := if s.regB Reg.FE_REFCFG 2 then [0, 1, 2] else [0, 1]

/-- The deviation of a reference from the mean of the other fitted ones, as numerator and denominator (R227). -/
def State.refDev (s : State) (v : Nat → Nat) (r : Nat) : Int × Nat :=
  let others := s.refsFitted.filter fun q => q != r
  let sum := (others.map v).sum
  ((v r * others.length : Int) - sum, sum)

/-- A deviation in parts per million, truncated toward zero. -/
def devPpm (d : Int × Nat) : Int := if d.2 = 0 then 0 else Int.tdiv (d.1 * 1000000) d.2

/-- Whether |dev| exceeds `n` / 100,000. -/
def devAbove (d : Int × Nat) (n : Nat) : Bool := decide (n * (d.2 : Int) < d.1.natAbs * 100000)

/-- Whether one |dev| is smaller than another. -/
def devLess (a b : Int × Nat) : Bool := decide (a.1.natAbs * b.2 < b.1.natAbs * a.2)

/-- Whether two references agree within 0.10 %: their difference against their mean. -/
def refAgree (a b : Nat) : Bool := decide (2000 * (max a b - min a b) ≤ a + b)

/-- Whether the other two references, both GOOD, agree, so that a decision on `r` is possible (R228, R230). -/
def State.refDecidable (s : State) (v : Nat → Nat) (r : Nat) : Bool :=
  match s.refsFitted.filter fun q => q != r with
  | [a, b] => s.refState a == 0 && s.refState b == 0 && refAgree (v a) (v b)
  | _ => false

/-- The GOOD reference with the smaller |dev| among the others. -/
def State.refBetter (s : State) (v : Nat → Nat) (r : Nat) : Option Nat :=
  (s.refsFitted.filter fun q => q != r && s.refState q == 0).foldl (fun best q => match best with
    | none => some q
    | some b => if devLess (s.refDev v q) (s.refDev v b) then some q else some b) none

/-- A switch of the selected reference (R228, R230). -/
def State.refSwitch (s : State) (v : Nat → Nat) (old new : Nat) : State :=
  let s1 := (s.setRegF Reg.FE_GSTAT 1 0 new).setRegF Reg.FE_REFSTAT 7 0 0
  (s1.calEvent (fun _ => true) 5).emit Ev.FE_REF_SWITCH 0
    [w32 old, w32 new, wOfInt (devPpm (s.refDev v old)), wOfInt (devPpm (s.refDev v new))]

/-- A REFDIS condition starts (R231). -/
def State.refDisagree (s : State) : State :=
  if s.fe.disagree then s
  else (({ s with fe := { s.fe with disagree := true } }).setRegB Reg.FE_REFEVT 2 true).emit Ev.FE_REF_DISAGREE 0
    [s.reg (Reg.FE_REFDEV 0), s.reg (Reg.FE_REFDEV 1), s.reg (Reg.FE_REFDEV 2), s.reg Reg.FE_REFSTAT]

/-- One off average of the selected reference (R228, R229). -/
def State.refOff (s : State) (v : Nat → Nat) (r : Nat) : State :=
  let n := s.regF Reg.FE_REFSTAT 7 0 + 1
  let s1 := s.setRegF Reg.FE_REFSTAT 7 0 n
  let s2 := if n = 1 then s1.emit Ev.FE_REF_SUSPECT 0 [w32 r, s1.reg (Reg.FE_REFDEV r), 1] else s1
  if n < 60 then s2
  else match s2.refBetter v r with
    | some q => ((if s2.refState r = 2 then s2 else s2.setRefState r 1).setRegB Reg.FE_REFEVT 0 true).suspectSlots.refSwitch v r q
    | none => s2

/-- Recovery of DRIFT references (R232). -/
def State.refRecover (s : State) (v : Nat → Nat) : State :=
  s.refsFitted.foldl (fun s r =>
    if s.refState r != 1 then s
    else
      let n := if devAbove (s.refDev v r) 50 then 0 else mget 0 r s.fe.recov + 1
      let s1 := { s with fe := { s.fe with recov := mset 0 r (if n = 60 then 0 else n) s.fe.recov } }
      if n = 60 then s1.setRefState r 0 else s1) s

/-- The voltages of the three references, by number. -/
def refVolts (va vb vx : Nat) (r : Nat) : Nat := if r = 0 then va else if r = 1 then vb else vx

/-- REF_AVERAGE (R227 to R232): 1 s averages of the references, in nV. -/
def execRefAverage (va vb vx : Nat) (s : State) : Out :=
  if s.dtb < s.fe.nextAvg then .next s
  else
    let v := refVolts va vb vx
    let s0 := { s with fe := { s.fe with nextAvg := (s.dtb / 1000000000 + 1) * 1000000000 } }
    let s1 := s0.refsFitted.foldl (fun s r => s.setReg (Reg.FE_REFDEV r) (wOfInt (devPpm (s.refDev v r)))) s0
    let s2 := s1.refRecover v
    let r := s2.refSel
    let beyond := devAbove (s2.refDev v r) 150
    let s3 := if !beyond then
        let s' := s2.refRunEnd r
        { s' with fe := { s'.fe with disagree := false } }
      else if s2.refDecidable v r then
        let s' := { s2 with fe := { s2.fe with disagree := false } }
        s'.refOff v r
      else (s2.refRunEnd r).refDisagree
    .next (if s3.refUsable then s3 else s3.setRegB Reg.FE_REFEVT 3 true)

/-- A slot whose acquisition is repeated under another reference, without multiplexer and settling time (R230); one that still settles
goes on to its first acquisition under that reference. -/
def State.reacquire (s : State) (q : Nat) (sl : FeSlot) : FeSlot :=
  let cfg := s.reg (feCfgK sl.input)
  let x := { sl with ref := q, repeated := [], overloaded := [], susp := false }
  if s.dtb ≤ sl.start + settleNs (s.regF (feSetK sl.input) 15 0) then x
  else { x with due := s.dtb + acquireNs (feMode cfg) (feAcq cfg) (s.feSpots sl.input) }

/-- REF_FAIL (R230): the window comparator of a reference trips, or its 1 ms deviation exceeds 1.0 % decidably.  DESIGN CHOICE (log 112):
where it was the last usable one, entries already written keep VALID until their next conversion (R231). -/
def execRefFail (r : Nat) (trip : Bool) (va vb vx : Nat) (s : State) : Out :=
  let v := refVolts va vb vx
  if 2 ≤ s.refState r ∨ !s.refsFitted.contains r ∨
      !(trip || (devAbove (s.refDev v r) 1000 && s.refDecidable v r)) then .next s
  else
    let s1 := (s.setRefState r 2).setRegB Reg.FE_REFEVT 1 true
    let s2 := if s1.refUsable then s1 else s1.setRegB Reg.FE_REFEVT 3 true
    if s2.refSel ≠ r then
      .next (s2.emit Ev.FE_REF_SWITCH 0
        [w32 r, w32 s2.refSel, wOfInt (devPpm (s.refDev v r)), wOfInt (devPpm (s.refDev v s2.refSel))])
    else match s2.refBetter v r with
      | none => .next s2.refDisagree
      | some q =>
        let s3 := s2.refSwitch v r q
        .next { s3 with fe := { s3.fe with chans := s3.fe.chans.map fun e =>
          (e.1, { e.2 with slot := e.2.slot.map (s3.reacquire q) }) } }

/-! ### Start and agreement -/

/-- The front end after a reset that includes it (R221, R232). -/
def State.feStart (s : State) : State :=
  let s1 := { s with fe := { FeSt.reset with ins := s.fe.ins.map fun (e : Nat × FeInput) => (e.1, { FeInput.reset with valid := e.2.valid }),
                                             nextAvg := (s.dtb / 1000000000 + 1) * 1000000000,
                                             opened := (List.range 16).foldl (fun m n => mset 0 n s.dtb m) [],
                                             newCorr := s.fe.newCorr, commit := s.fe.commit } }
  let s2 := s1.refFitted
  let pref := s2.regF Reg.FE_REFCFG 1 0
  let s3 := s2.setRegF Reg.FE_GSTAT 1 0 (if s2.refState pref = 0 && decide (pref < 3) then pref else
    if s2.refState 0 = 0 then 0 else if s2.refState 1 = 0 then 1 else 2)
  let s4 := (s3.setReg Reg.FE_CALSEQ (w32 (s3.nvSet 0).seq)).setRegB Reg.FE_GSTAT 31 (s3.shed 2)
  (List.range 192).foldl (fun s i =>
    let s' := s.writeBlank i
    s'.setFeIn i { s'.feIn i with first := s'.feOn i }) s4

/-- The SUB codes of a mode (Table 6.5).  DESIGN CHOICE (log 112): OFF and DIEL, for which it lists none, take 0. -/
def feSubOk (mode sub : Nat) : Bool :=
  if feIsRtd mode then decide (sub ≤ 1) else if mode = feTc then decide (sub ≤ 4) else sub == 0

/-- The agreement rules of a channel page (R241): 0, or the lowest rule that fails. -/
def State.feChannelAgree (s : State) (c : Nat) : Nat :=
  let val (k : Nat) : Word := if pageOf k = fePage c then s.shadow k else s.reg k
  let en := fld (s.shadow (Reg.FE_CHCFG c)) 3 0
  let all := [0, 1, 2, 3].map fun k => 4 * c + k
  let ins := all.filter fun i => en / 2 ^ (i % 4) % 2 == 1
  let mode (i : Nat) : Nat := feMode (val (feCfgK i))
  let sub (i : Nat) : Nat := feSub (val (feCfgK i))
  let spots (i : Nat) : List Nat := spotsOf (fld (val (feSetK i)) 30 16)
  let diel := ins.filter fun i => mode i == feDiel
  if ins.any fun i => decide (8 < mode i) || !feSubOk (mode i) (sub i) then 1
  else if diel.any fun i =>
      let fr := s.reg (Reg.FE_PFREQ (feProf (val (feCfgK i))))
      let n := (spots i).length
      decide (n < 2) || decide (8 < n) || !bitAt fr 31 || !(spots i).contains (fld fr 3 0) || !(spots i).contains (fld fr 7 4) then 2
  else if diel.any fun i =>
      let t := feTin (val (feCfgK i))
      t == i || decide (191 < t) || !(feIsRtd (mode t) || mode t == feTc) then 3
  else if all.any fun i =>
      let w := val (feCmK i)
      let win := cmWindow (mode i) w
      let mx := (cmTable (mode i)).1
      fld w 15 0 != 0 && !(decide (win.1 < win.2) &&
        (mode i == 0 || decide (8 < mode i) || (decide (mx.1 ≤ win.1) && decide (win.2 ≤ mx.2)))) then 4
  else if 10000000000 < ((ins.filter fun i => mode i != 0).map fun i =>
      slotNs (mode i) (feAcq (val (feCfgK i))) (fld (val (feSetK i)) 15 0) (spots i) +
        if feHasTest (mode i) then 100000 else 0).sum then 5
  else 0

/-- The agreement rules of the common page (R242).  DESIGN CHOICE (log 112): rule 2 is judged on the state that the reference has
before the apply, and one that is not fitted there is ABSENT. -/
def State.feCommonAgree (s : State) : Nat :=
  let w := s.shadow Reg.FE_REFCFG
  let p := fld w 1 0
  let x := bitAt w 2
  if p = 3 || (p == 2 && !x) then 1
  else if s.refState p = 2 || s.refState p == 1 then 2
  else if !x && s.regB Reg.FE_REFCFG 2 && s.refSel == 2 then 3
  else 0

/-- The agreement rules of a profile page (R243).  DESIGN CHOICE (log 112): rule 2 also refuses a used profile that was invalid before. -/
def State.feProfileAgree (s : State) (q : Nat) : Nat :=
  let ps := (List.range 8).map fun m => 8 * q + m
  let bad (p : Nat) : Bool :=
    let fr := s.shadow (Reg.FE_PFREQ p)
    let box (b : Nat) : Word := s.shadow (Reg.FE_PBOX p b)
    bitAt fr 31 && ((List.range 25).any (fun c => !fpIsFinite (s.shadow (Reg.FE_PC p c))) ||
      !fpIsFinite (s.shadow (Reg.FE_PKL p)) || fld fr 3 0 == 15 || fld fr 7 4 == 15 || fld fr 3 0 == fld fr 7 4 ||
      !fpLt (box 0) (box 1) || !fpLt (box 2) (box 3) || !fpLt (box 4) (box 5))
  let used := (List.range 192).filter fun i =>
    s.feOn i && s.feModeOf i == feDiel && feProf (s.reg (feCfgK i)) / 8 == q
  if ps.any bad then 1
  else if used.any fun i =>
      let fr := s.shadow (Reg.FE_PFREQ (feProf (s.reg (feCfgK i))))
      !bitAt fr 31 || !(s.feSpots i).contains (fld fr 3 0) || !(s.feSpots i).contains (fld fr 7 4) then 2
  else 0

end Sys2Proof.Machine
end

