-- ==== Sys2Proof/Machine/Hawk.lean ====
section
/-! DEFINITION. Hawk, the arbiter, and the shared engines (R179 to R202 of 05_arbiter_engines.md). -/
namespace Sys2Proof.Machine

/-! ### Kinds and engines (Table 5.1) -/

/-- The engines of a kind: 0 XFER, 1 COL, 2 NVS, 3 SWP. -/
def kindEngines (k : Nat) : List Nat :=
  match k with
  | 0 => [0, 1, 2, 3, 4, 5, 6, 7]
  | 1 => [8]
  | 2 => [9]
  | _ => [10]

/-- The kind of an engine. -/
def engineKind (e : Nat) : Nat := if e < 8 then 0 else e - 7

/-- TMAX of a kind, ns. -/
def tmax (k : Nat) : Nat :=
  match k with
  | 0 => 2000
  | 1 => 20000
  | 2 => 4000
  | _ => 2000

def allEngines : List Nat := List.range 11
def allKinds : List Nat := [0, 1, 2, 3]

/-- The counter C(c,k), in 1/256 credit. -/
def State.credit (s : State) (c k : Nat) : Int := mget 0 (4 * c + k) s.hwk.credit
def State.setCredit (s : State) (c k : Nat) (v : Int) : State :=
  { s with hwk := { s.hwk with credit := mset 0 (4 * c + k) v s.hwk.credit } }

/-- Weight and priority of a cell, UNIT, DEPTH, WIN and CAP (R185, HWK registers). -/
def State.weight (s : State) (c : Nat) : Nat := s.regF (Reg.HWK_WC c) 7 0
def State.priority (s : State) (c : Nat) : Nat := s.regF (Reg.HWK_WC c) 9 8
def State.unitOf (s : State) (k : Nat) : Nat := s.regF (Reg.HWK_UNIT k) 15 0
def State.depthOf (s : State) (k : Nat) : Nat := s.regF (Reg.HWK_UNIT k) 19 16
def State.window (s : State) : Nat := s.regF Reg.HWK_CFG 9 0
def capOf (k : Nat) : Nat :=
  match k with
  | 0 => 3600000
  | 1 => 45000
  | 2 => 225000
  | _ => 450000

/-- The cap of a counter: W × UNITk × DEPTHk (R186). -/
def State.creditCap (s : State) (c k : Nat) : Int := (s.weight c * s.unitOf k * s.depthOf k : Nat)

/-- Whether a cell is masked (Table 5.5). -/
def State.cellMasked (s : State) (c : Nat) : Bool :=
  let x := s.cell c
  x.state == 0 || x.state == 4 ||
    (x.state == 3 && (s.loopsOf c).all fun e => e.2.state == .suspended || e.2.state == .stopped)

/-- Whether an engine is frozen: by firmware or by the power manager (R197). -/
def State.engineFrozen (s : State) (e : Nat) : Bool := s.regB Reg.HWK_FRZ e || s.regB Reg.HWK_FSTAT (16 + e)

/-- Whether an engine can take a grant: idle, not frozen, not in reset. -/
def State.engineFree (s : State) (e : Nat) : Bool :=
  let x := s.engine e
  x.running.isNone && x.rest.isEmpty && x.resetAt.isNone && !s.engineFrozen e

/-! ### Status words -/

/-- STATE codes of the STATUS word (Table 5.3). -/
def stQueued : Nat := 1
def stGranted : Nat := 2
def stDone : Nat := 3
def stError : Nat := 4
def stCancelled : Nat := 5
def stShed : Nat := 6

/-- STATUS, FCAST and TDONE of a tag written to its descriptor together (R182); after the grant FCAST keeps what it holds (R191,
R194).  Nothing is delivered to a cell whose incarnation has moved on (R174). -/
def State.writeStatus (s : State) (t code err : Nat) (fcast : Option Nat) (tdone : Nat) : State :=
  let x := s.tag t
  let c := s.cell x.cell
  if x.internal || c.inc != x.inc || !c.inShared (x.addr + 0x20) 12 then s
  else
    let off := x.addr - sharedBase + 0x20
    let w := code * 0x10000000 + err * 0x1000000 + x.seq * 0x10000 + t
    let c1 := match fcast with
      | some f => (c.writeShared off (bytesOf 4 w)).writeShared (off + 4) (bytesOf 4 f)
      | none => c.writeShared off (bytesOf 4 w)
    s.setCell x.cell (c1.writeShared (off + 8) (bytesOf 4 tdone))

/-- The tags of a waiting request's sequence, by its head: those of a granted sequence have their engine. -/
def State.sequence (s : State) (head : Nat) : List Nat :=
  (s.hwk.tags.filter fun e => e.2.used && e.2.head == head && !e.2.internal && e.2.engine.isNone).map Prod.fst

/-! ### Internal requesters (R187) -/

/-- The internal requests of a kind that wait and are not masked, in order of acceptance. -/
def State.internals (s : State) (k : Nat) : List Nat :=
  s.hwk.iwaiting.filter fun t => (s.tag t).kind == k && !(s.tag t).op.any s.reqMasked

/-- Whether a request is the recorder's own, to which a flush gives the NVS engine alone (R412). -/
def InternalReq.recorder : InternalReq → Bool
  | .logLine => true
  | .marker => true
  | _ => false

/-- Internal transactions of a kind that go ahead of every cell in one window. -/
def State.reserve (s : State) (k : Nat) : Nat := max 1 (capOf k / 9 * s.window * 10 / 1000000)
def State.reserveLeft (s : State) (k : Nat) : Nat := s.reserve k - mget 0 k s.hwk.taken

/-! ### Selection (R188) -/

/-- Whether a waiting head tag belongs to an unmasked cell and a kind. -/
def State.selectable (s : State) (k t : Nat) : Bool :=
  let x := s.tag t
  x.used && x.kind == k && !s.cellMasked x.cell

/-- The oldest waiting request of each unmasked cell with a kind. -/
def State.heads (s : State) (k : Nat) : List Nat :=
  (s.hwk.waiting.filter (s.selectable k)).foldl
    (fun hs t => if hs.any fun h => (s.tag h).cell == (s.tag t).cell then hs else hs ++ [t]) []

/-- Whether one request goes before another: PRI descending, then C descending, then cell ascending. -/
def State.before (s : State) (k t u : Nat) : Bool :=
  let a := (s.tag t).cell
  let b := (s.tag u).cell
  if s.priority a ≠ s.priority b then decide (s.priority b < s.priority a)
  else if s.credit a k ≠ s.credit b k then decide (s.credit b k < s.credit a k)
  else decide (a < b)

/-- The first of a pool in selection order. -/
def State.firstOf (s : State) (k : Nat) : List Nat → Option Nat
  | [] => none
  | t :: ts => match s.firstOf k ts with
    | none => some t
    | some u => if s.before k u t then some u else some t

/-- What select(k) answers: an internal request, or a cell's head tag. -/
inductive Selected where
  | internal (t : Nat)
  | cellHead (t : Nat)
  | nothing
  deriving DecidableEq, Repr

/-- While a flush runs, the NVS engine goes to the recorder alone (R412). -/
def State.flushing (s : State) : Bool := s.recd.flush.isSome

/-- The oldest internal request, or nothing. -/
def oldest : List Nat → Selected
  | [] => .nothing
  | t :: _ => .internal t

def State.select (s : State) (k : Nat) : Selected :=
  let own := s.internals k
  if k == 2 && s.flushing then oldest (own.filter fun t => (s.tag t).op.any InternalReq.recorder)
  else if !own.isEmpty && decide (0 < s.reserveLeft k) then oldest own
  else
    let heads := s.heads k
    let eligible := heads.filter fun t => decide (0 < s.credit (s.tag t).cell k)
    match s.firstOf k (if eligible.isEmpty then heads else eligible) with
    | some t => .cellHead t
    | none => oldest own

/-- The transaction of a tag starts on an engine: STATUS is written GRANTED (R189, R191). -/
def State.startOn (s : State) (e t : Nat) (rest : List Nat) : State :=
  (s.setEngine e { s.engine e with running := some t, rest := rest, since := s.dtb }).writeStatus t stGranted 0 none 0

/-- An internal transaction starts on an engine, and counts against its kind's reserve (R187).  The operation of a log line is the
command LOG_LINE_WRITE, that of a marker MARKER_WRITE; the others run without one. -/
def State.startInternal (s : State) (e k t : Nat) : State :=
  let x := s.tag t
  let s1 := (s.setTag t { x with engine := some e, ran := !x.op.any InternalReq.recorder }).setEngine e
    { s.engine e with running := some t, rest := [], since := s.dtb }
  { s1 with hwk := { s1.hwk with
      iwaiting := s1.hwk.iwaiting.filter fun u => u != t
      taken := mset 0 k (mget 0 k s1.hwk.taken + 1) s1.hwk.taken } }

/-- One grant on a kind (R188): the winner takes the lowest-numbered free engine and is charged. -/
def State.grantKind (s : State) (k : Nat) : State :=
  match (kindEngines k).find? s.engineFree with
  | none => s
  | some e => match s.select k with
    | .nothing => s
    | .internal t => s.startInternal e k t
    | .cellHead t =>
      let x := s.tag t
      let charge : Int := 256 * (x.count : Int)
      let s1 := s.setCredit x.cell k (max (s.credit x.cell k - charge) (-65536))
      let s2 := { s1 with hwk := { s1.hwk with waiting := s1.hwk.waiting.filter fun u => u != t } }
      let s3 := (s.sequence t).foldl (fun s u => s.setTag u { s.tag u with engine := some e }) s2
      s3.startOn e t ((s.sequence t).filter fun u => u != t)

/-! ### The turn forecast (R194) -/

/-- The internal requests of a kind that go ahead of every cell: as many as the reserve has left, and in a flush the recorder's. -/
def State.internalsAhead (s : State) (k : Nat) : Nat :=
  if k == 2 && s.flushing then ((s.internals k).filter fun t => (s.tag t).op.any InternalReq.recorder).length
  else min (s.internals k).length (s.reserveLeft k)

/-- The requests of a kind placed ahead of a waiting request by R188. -/
def State.ahead (s : State) (k t : Nat) : Nat :=
  let c := (s.tag t).cell
  let el (c : Nat) : Bool := decide (0 < s.credit c k)
  let others := s.hwk.waiting.filter fun u => s.selectable k u && (s.tag u).cell != c &&
    ((el (s.tag u).cell && !el c) || (el (s.tag u).cell == el c && s.before k u t))
  let own := (s.hwk.waiting.takeWhile fun u => u != t).filter fun u => (s.tag u).cell == c && (s.tag u).kind == k
  others.length + own.length + s.internalsAhead k

/-- Transactions still to run in sequences already granted on a kind. -/
def State.stillToRun (s : State) (k : Nat) : Nat :=
  ((kindEngines k).map fun e => (s.engine e).rest.length + (if (s.engine e).running.isSome then 1 else 0)).sum

/-- The FCAST word of a waiting request (R194).  DEDUCED (log 36): ETA counts every request ahead, not AHEAD as it saturates. -/
def State.forecast (s : State) (t : Nat) : Nat :=
  let x := s.tag t
  let k := x.kind
  let n := ((kindEngines k).filter fun e => !s.engineFrozen e && (s.engine e).resetAt.isNone).length
  let a := s.ahead k t
  let work := tmax k / 1000 * (a + s.stillToRun k)
  let eta := if n = 0 then 65535 else sat 65535 ((work + n - 1) / n)
  ((kindEngines k).any s.engineFrozen).toNat * 0x80000000 +
    (decide (s.credit x.cell k ≤ 0)).toNat * 0x40000000 + sat 255 a * 0x10000 + eta

/-- FCAST written to every waiting request, with STATUS QUEUED. -/
def State.writeForecasts (s : State) : State :=
  s.hwk.waiting.foldl (fun s h =>
    (s.sequence h).foldl (fun s t => s.writeStatus t stQueued 0 (some (s.forecast h)) 0) s) s

/-! ### Refill (R186) -/

/-- The counters of one unmasked cell refilled. -/
def State.refillCell (s : State) (c : Nat) : State :=
  if s.cellMasked c then s
  else allKinds.foldl (fun s k =>
    s.setCredit c k (min (s.credit c k + (s.weight c * s.unitOf k : Nat)) (s.creditCap c k))) s

/-- Arbitration: grants while an engine is free and a request of its kind is selected. -/
def State.arbitrate (s : State) : State :=
  allKinds.foldl (fun s k => (kindEngines k).foldl (fun s _ => s.grantKind k) s) s

/-- The cells of the module. -/
def allCells : List Nat := List.range 1024

/-- The HWK configuration pages. -/
def hwkPages : List Nat := [0x40040000, 0x40041000, 0x40042000]

/-- A refill: pending HWK pages apply, counters refill, the arbiter arbitrates and forecasts are written. -/
def State.refill (s : State) : State :=
  let s1 := hwkPages.foldl (fun s p => if s.acceptedBefore p then
      let s' := s.commitPage p
      if p = 0x40040000 then s' else s'.storeReq 6
    else s) s
  let s2 := allCells.foldl State.refillCell { s1 with hwk := { s1.hwk with taken := [], tagfullDone := false } }
  let w := s2.window * 10000
  let s3 := { s2 with hwk := { s2.hwk with nextRefill := (s2.dtb / w + 1) * w } }
  s3.arbitrate.writeForecasts

/-- CREDIT_REFILL (R186). -/
def execCreditRefill (s : State) : Out := if s.dtb < s.hwk.nextRefill then .next s else .next s.refill

/-! ### Submission (R182, R184, Table 5.4) -/

/-- Result codes of HWK_SRES.RES. -/
def resAccepted : Nat := 1
def resNotag : Nat := 2
def resAccess : Nat := 3
def resFormat : Nat := 4
def resShed : Nat := 5
def resCancelled : Nat := 6
def resRunning : Nat := 7
def resNotyours : Nat := 8

/-- A word of a descriptor copy, by offset. -/
def descW (d : List Word) (off : Nat) : Word := d.getD (off / 4) 0
def descKind (d : List Word) : Nat := fld (descW d 0) 31 30
def descLockn (d : List Word) : Nat := fld (descW d 0) 26 24
def descOpc (d : List Word) : Nat := fld (descW d 0) 23 16
def descLen (d : List Word) : Nat := (descW d 4).toNat
def descSrc (d : List Word) : Nat := (descW d 8).toNat
def descDst (d : List Word) : Nat := (descW d 12).toNat
def descArg (d : List Word) (i : Nat) : Word := descW d (16 + 4 * i)

/-- Whether ARG words `i` to 3 are 0. -/
def argsZero (d : List Word) (i : Nat) : Bool := ((List.range 4).drop i).all fun j => descArg d j == 0

/-- Whether a region lies in one readable area of the cell's view: node view, local field view or shared data. -/
def Cell.readable (c : Cell) (a n : Nat) : Bool :=
  (decide (0x10000000 ≤ a) && decide (a + n ≤ 0x20000000)) || (decide (0x30000000 ≤ a) && decide (a + n ≤ 0x40000000)) ||
    c.inShared a n

/-- Whether a byte of a descriptor's regions lies outside the cell's rights (ACCESS), by kind.  SWP and COL regions are
those of their engines' chapters. -/
def Cell.descAccess (c : Cell) (d : List Word) : Bool :=
  let n := descLen d
  match descKind d, descOpc d with
  | 0, 1 => c.readable (descSrc d) n && c.inShared (descDst d) n
  | 0, 2 => c.inShared (descDst d) n
  | 2, 0x01 => c.inShared (descDst d) n
  | 2, 0x02 => c.inShared (descSrc d) n
  | 2, 0x10 => c.inShared (descSrc d) n
  | _, _ => true

/-- Two regions that overlap. -/
def overlap (a b n : Nat) : Bool := decide (a < b + n) && decide (b < a + n)

/-- The format of an XFER or NVS descriptor (Tables 5.2 and 12.4). -/
def xferFormat (d : List Word) : Bool :=
  let n := descLen d
  let lenOk := decide (4 ≤ n) && decide (n ≤ 4096) && n % 4 == 0
  match descOpc d with
  | 1 => lenOk && descSrc d % 4 == 0 && descDst d % 4 == 0 && argsZero d 0 && !overlap (descSrc d) (descDst d) n
  | 2 => lenOk && descSrc d == 0 && descDst d % 4 == 0 && argsZero d 1
  | _ => false

def nvsFormat (d : List Word) : Bool :=
  let n := descLen d
  let lenOk := decide (16 ≤ n) && decide (n ≤ 256) && n % 16 == 0
  let off := (descArg d 0).toNat
  match descOpc d with
  | 0x01 => lenOk && descSrc d == 0 && descDst d % 16 == 0 && off % 16 == 0 && decide (off + n ≤ 4096) && argsZero d 1
  | 0x02 => lenOk && descDst d == 0 && descSrc d % 16 == 0 && off % 16 == 0 && decide (off + n ≤ 4096) && argsZero d 1
  | 0x10 => lenOk && descDst d == 0 && descSrc d % 16 == 0 && decide (off < 256) && argsZero d 1
  | _ => false

/-- Reserved bits of a descriptor's first word. -/
def descReserved (d : List Word) : Bool := fld (descW d 0) 29 27 == 0 && fld (descW d 0) 15 0 == 0

/-- Tags a cell holds, earlier incarnations included. -/
def State.tagsOf (s : State) (c : Nat) : Nat := (s.hwk.tags.filter fun e => e.2.used && !e.2.internal && e.2.cell == c).length

/-- Tags of cells in use, and all tags in use. -/
def State.cellTags (s : State) : Nat := (s.hwk.tags.filter fun e => e.2.used && !e.2.internal).length
def State.inUse (s : State) : Nat := (s.hwk.tags.filter fun e => e.2.used).length

/-- The tags that cells share: 0x0000 to 0xFBFF. -/
def cellTagCount : Nat := 0xFC00

/-- The lowest `n` free tags of the cells' share, from tag `t`. -/
def State.freeTags (s : State) : Nat → Nat → Nat → List Nat
  | 0, _, _ => []
  | fuel + 1, t, n => if n = 0 then [] else
    if (s.tag t).used then s.freeTags fuel (t + 1) n else t :: s.freeTags fuel (t + 1) (n - 1)

/-- HWK_SRES of an accessor. -/
def State.setSres (s : State) (b res tag : Nat) : State := s.setReg (bk b Reg.HWK_SRES) (w32 (res * 0x10000 + tag))

/-- The descriptor at an offset of shared data: words 0x00 to 0x1C. -/
def Cell.descAt (c : Cell) (off : Nat) : List Word := (List.range 8).map fun i => c.sharedWord (off + 4 * i)

/-- TAGLIM. -/
def State.tagLim (s : State) : Nat := s.regF Reg.HWK_CFG 28 16

/-- A sequence accepted: one tag for each descriptor, STATUS QUEUED with FCAST (R184). -/
def State.acceptSeq (s : State) (c kind addr : Nat) (ds : List (List Word)) (ts : List Nat) : State :=
  let head := ts.headD 0
  let inc := (s.cell c).inc
  let s1 := (ts.zip ds).zipIdx.foldl (fun s p =>
    s.setTag p.1.1 ⟨true, false, c, inc, kind, none, p.1.2, addr + 64 * p.2, p.2, head, ts.length, false, 0, none⟩) s
  let s2 := { s1 with hwk := { s1.hwk with waiting := s1.hwk.waiting ++ [head] } }
  ts.foldl (fun s t => s.writeStatus t stQueued 0 (some (s.forecast head)) 0) s2

/-- The checks of a submission and its result code with the descriptors (Table 5.4), for a format test of the kinds beside XFER and
NVS. -/
def State.submitCheck (s : State) (c addr : Nat) (other : Cell → List Word → Nat) : Nat × List (List Word) :=
  let x := s.cell c
  if !x.inShared addr 64 then (resAccess, [])
  else
    let d0 := x.descAt (addr - sharedBase)
    let n := descLockn d0 + 1
    if !x.inShared addr (64 * n) then (resAccess, [])
    else
      let ds := (List.range n).map fun i => x.descAt (addr - sharedBase + 64 * i)
      let k := descKind d0
      let res (d : List Word) : Nat :=
        if descKind d = 0 then (if xferFormat d then 0 else resFormat)
        else if descKind d = 2 then (if nvsFormat d then 0 else resFormat)
        else other x d
      if ds.any fun d => !x.descAccess d || res d == resAccess then (resAccess, [])
      else if ds.any fun d => descKind d != k || !descReserved d || res d == resFormat then (resFormat, [])
      else if s.hwk.shedKinds.contains k then (resShed, [])
      else if cellTagCount < s.cellTags + n || s.tagLim < s.tagsOf c + n then (resNotag, ds)
      else (resAccepted, ds)

/-- A write to HWK_SUBMIT by accessor bank `b` of cell `c` (R184).  Of a cell in reset no new request is accepted (R173): the write does
nothing (log 97). -/
def State.submit (s : State) (b c addr : Nat) (other : Cell → List Word → Nat) : State :=
  let r := s.submitCheck c addr other
  if (s.cell c).state = 4 then s
  else if r.1 = resAccepted then
    let ts := s.freeTags (s.hwk.tags.length + 8) 0 r.2.length
    let s1 := s.acceptSeq c (descKind (r.2.headD [])) addr r.2 ts
    s1.setSres b resAccepted (ts.headD 0)
  else if r.1 = resNotag && decide (cellTagCount < s.cellTags + r.2.length) then
    let s1 := (s.setSres b resNotag 0).setRegB Reg.HWK_STAT 31 true
    if s.hwk.tagfullDone then s1
    else ({ s1 with hwk := { s1.hwk with tagfullDone := true } }).emit Ev.HWK_TAGFULL c [w32 s.inUse, w32 c]
  else s.setSres b r.1 0

/-- Tags freed. -/
def State.freeTagList (s : State) (ts : List Nat) : State := ts.foldl (fun s t => s.setTag t Tag.free) s

/-- A waiting request ended with a status, its whole sequence with it (R193, R198).  DESIGN CHOICE (log 96): FCAST is written 0. -/
def State.endWaiting (s : State) (head code : Nat) : State :=
  let ts := s.sequence head
  let s1 := ts.foldl (fun s t => s.writeStatus t code 0 (some 0) 0) s
  ({ s1 with hwk := { s1.hwk with waiting := s1.hwk.waiting.filter fun u => u != head } }).freeTagList ts

/-- A write of a tag to HWK_CANCEL (R193). -/
def State.cancel (s : State) (b c t : Nat) : State :=
  let x := s.tag t
  if !x.used || x.internal || x.cell != c || x.inc != (s.cell c).inc then s.setSres b resNotyours 0
  else if x.engine.isNone && s.hwk.waiting.contains x.head then (s.endWaiting x.head stCancelled).setSres b resCancelled t
  else s.setSres b resRunning 0

/-! ### Freeze, drain, shed and mask -/

/-- Whether an engine is frozen with nothing running. -/
def State.engineDrained (s : State) (e : Nat) : Bool :=
  let x := s.engine e
  s.engineFrozen e && x.running.isNone && x.rest.isEmpty

/-- DRAINED bits of engines that are not frozen and drained cleared. -/
def State.undrain (s : State) : State :=
  allEngines.foldl (fun s e => if s.engineDrained e then s else s.setRegB Reg.HWK_FSTAT e false) s

/-- A write to HWK_FRZ (R197): each change is recorded with the old and the new value. -/
def State.writeFreeze (s : State) (v : Word) : State :=
  let old := s.reg Reg.HWK_FRZ
  let new := v &&& 0x7FF
  if old = new then s
  else ((s.setReg Reg.HWK_FRZ new).undrain).emit Ev.ENGINE_FREEZE 0 [old, new]

/-- The power manager's freeze bit of an engine. -/
def State.pmFreeze (s : State) (e : Nat) (b : Bool) : State := (s.setRegB Reg.HWK_FSTAT (16 + e) b).undrain

/-- The queued requests of a kind written SHED, and every later submission refused: every queued COL request is written SHED, and later ones get SHED (R198). -/
def State.shedKind (s : State) (k : Nat) : State :=
  let s1 := (s.hwk.waiting.filter fun t => (s.tag t).kind == k).foldl (fun s t => s.endWaiting t stShed) s
  { s1 with hwk := { s1.hwk with shedKinds := k :: s1.hwk.shedKinds.filter fun j => j != k } }

/-- The column-model engine shed once T3 has frozen it and it is drained (R198). -/
def State.shedDrained (s : State) : State :=
  if s.shed 3 && s.regB Reg.HWK_FSTAT 24 && s.engineDrained 8 && !s.hwk.shedKinds.contains 1 then s.shedKind 1 else s

/-- ENGINE_DRAINED (R197). -/
def execEngineDrained (e : Nat) (s : State) : Out :=
  if !s.engineDrained e then .next s
  else
    let s1 := s.setRegB Reg.HWK_FSTAT e true
    .next (if e = 8 then s1.shedDrained else s1)

def State.unshedKind (s : State) (k : Nat) : State :=
  { s with hwk := { s.hwk with shedKinds := s.hwk.shedKinds.filter fun j => j != k } }

/-- A cell's waiting requests withdrawn and their tags freed, with no status written (Table 5.5). -/
def State.withdraw (s : State) (c : Nat) : State :=
  let hs := s.hwk.waiting.filter fun t => (s.tag t).cell == c
  let ts := hs.flatMap s.sequence
  ({ s with hwk := { s.hwk with waiting := s.hwk.waiting.filter fun t => (s.tag t).cell != c } }).freeTagList ts

/-- A cell's counters set to 0 (Table 5.5, at unmask). -/
def State.zeroCredits (s : State) (c : Nat) : State := allKinds.foldl (fun s k => s.setCredit c k 0) s

/-! ### Running transactions -/

/-- Whether a tag's transaction is the one running on its engine. -/
def State.isRunning (s : State) (t : Nat) : Bool :=
  match (s.tag t).engine with
  | some e => (s.engine e).running == some t
  | none => false

/-- Whether a tag's operation may run now: the running transaction, of a kind and operation, not carried out yet. -/
def State.mayRun (s : State) (t kind opc : Nat) : Bool :=
  let x := s.tag t
  s.isRunning t && !x.internal && !x.ran && x.kind == kind && descOpc x.desc == opc

/-- A tag whose operation has been carried out, with its ERR. -/
def State.ranWith (s : State) (t err : Nat) : State := s.setTag t { s.tag t with ran := true, err := err }

/-- Words written to a cell's memory under a tag; dropped at the write port where the incarnation differs (R174). -/
def State.dmaWrite (s : State) (t addr : Nat) (ws : List (Word × Bool)) : State :=
  let x := s.tag t
  let c := s.cell x.cell
  if c.inc != x.inc then s
  else s.setCell x.cell (ws.zipIdx.foldl (fun c p =>
    let off := addr - sharedBase + 4 * p.2
    let c1 := c.writeShared off (bytesOf 4 p.1.1.toNat)
    if p.1.2 then { c1 with badWords := off / 4 :: c1.badWords } else c1) c)

/-- A word of a transaction's source, and whether it carries an uncorrectable error (R183). -/
def State.dmaRead (s : State) (c a : Nat) : Word × Bool × Bool :=
  if sharedBase ≤ a && decide (a < 0x30000000) then
    let x := s.cell c
    let bad := x.badWords.contains ((a - sharedBase) / 4)
    (x.sharedWord (a - sharedBase), bad, bad)
  else (s.viewWord c a, false, match s.viewKey c a with
    | some k => s.isMarked k
    | none => false)

/-- The field-image line behind a view address, where it is granted. -/
def State.viewLine (s : State) (c a : Nat) : Option Nat := (s.viewKey c a).map fun k => k / 16

/-- The first address of a source at which a read finds an uncorrectable error: a word known bad, one in a marked line, or one where
`es` brings such an error. -/
def State.firstBad (s : State) (c lo n : Nat) (es : List (Nat × Ecc)) : Option Nat :=
  ((List.range (n / 4)).map fun i => lo + 4 * i).find? fun a =>
    (s.dmaRead c a).2.2 || es.any fun e => e.2 == .double &&
      (e.1 / 4 == a / 4 || ((s.viewLine c a).isSome && s.viewLine c e.1 == s.viewLine c a))

/-- What the reads of a transaction's source find in memory (R30, R35, R183): single-bit errors are corrected and counted, a word of
shared data with a double-bit error is bad from then on, and a field-image line is marked and recorded.  The line of the first address
found in error is in the record of the transaction and gets no second one (log 98). -/
def State.sourceEcc (s : State) (c lo n : Nat) (es : List (Nat × Ecc)) : State :=
  let mine := es.filter fun e => decide (lo ≤ e.1) && decide (e.1 < lo + n)
  let first := (s.firstBad c lo n mine).bind (s.viewLine c)
  mine.foldl (fun s e =>
    if sharedBase ≤ e.1 && decide (e.1 < 0x30000000) then s.sharedEcc c e.1 e.2
    else match s.viewKey c e.1 with
      | none => s
      | some k =>
        if e.2 = .double ∧ first = some (k / 16) then { s with marked := mset false (k / 16) true s.marked }
        else s.fiEcc k c none e.2) s

/-- The record of a transaction whose source held an uncorrectable error (R183). -/
def State.dmaUncorrectable (s : State) (c a : Nat) : State :=
  let key := s.viewKey c a
  let shared := sharedBase ≤ a && decide (a < 0x30000000)
  let mem := if shared then (s.cell c).sharedMem (a - sharedBase) else 2
  s.emit Ev.ECC_UNCORRECTABLE c ([w32 mem, w32 a, w32 c] ++ match shared, key with
    | false, some k => [w32 (fiRegion k), w32 (fiEntry k), w32 (fiLine k)]
    | _, _ => [0xFFFFFFFF, 0, 0])

/-- XFER_COPY (R183). -/
def execXferCopy (t : TagReads) (s : State) : Out :=
  if !s.mayRun t.tag 0 1 then .next s
  else
    let x := s.tag t.tag
    let n := descLen x.desc / 4
    let s0 := s.sourceEcc x.cell (descSrc x.desc) (4 * n) t.ecc
    let rs := (List.range n).map fun i => s0.dmaRead x.cell (descSrc x.desc + 4 * i)
    let s1 := s0.dmaWrite t.tag (descDst x.desc) (rs.map fun r => (r.1, r.2.1))
    match rs.findIdx? fun r => r.2.2 with
    | none => .next (s1.ranWith t.tag 0)
    | some i => .next ((s1.dmaUncorrectable x.cell (descSrc x.desc + 4 * i)).ranWith t.tag 2)

/-- XFER_FILL (R183). -/
def execXferFill (t : Nat) (s : State) : Out :=
  if !s.mayRun t 0 2 then .next s
  else
    let x := s.tag t
    let ws := List.replicate (descLen x.desc / 4) (descArg x.desc 0, false)
    .next ((s.dmaWrite t (descDst x.desc) ws).ranWith t 0)

/-- Engine time of a cell transaction added to its kind's measure. -/
def State.addBusy (s : State) (k ns : Nat) : State :=
  let cur := s.hwk.busy.headD [0, 0, 0, 0]
  let cur' := cur.zipIdx.map fun p => if p.2 = k then p.1 + ns else p.1
  { s with hwk := { s.hwk with busy := cur' :: s.hwk.busy.drop 1 } }

/-- CELL_RESET_DRAINED where the last tag of an earlier incarnation of a cell has ended (R174). -/
def State.staleTags (s : State) (c : Nat) : Nat :=
  (s.hwk.tags.filter fun e => e.2.used && !e.2.internal && e.2.cell == c && e.2.inc != (s.cell c).inc).length

def State.drained (s : State) (c inc before : Nat) : State :=
  if 0 < before && s.staleTags c == 0 then s.emit Ev.CELL_RESET_DRAINED c [w32 inc, w32 (s.cell c).staleSeen] else s

/-- The transaction running on an engine ends: STATUS DONE or ERROR with TDONE, its tag freed, and the next of its
sequence starts; after an ERROR the successors are written CANCELLED and their credit returned (R189, R191).  DESIGN CHOICE (log 99):
HWK_ENCNT counts every transaction that ends. -/
def State.endRunning (s : State) (e t code err : Nat) : State :=
  let x := s.tag t
  let eng := s.engine e
  let before := s.staleTags x.cell
  let s1 := s.writeStatus t code err none (s.dtb % 0x100000000)
  let s2 := if x.internal then s1 else s1.addBusy x.kind (s.dtb - eng.since)
  let s3 := (s2.setTag t Tag.free).setReg (Reg.HWK_ENCNT e) (s2.reg (Reg.HWK_ENCNT e) + 1)
  let s4 := s3.setEngine e { eng with running := none, rest := [] }
  let s5 := if code = stError then
      let s' := eng.rest.foldl (fun s u => (s.writeStatus u stCancelled 0 none 0).setTag u Tag.free) s4
      s'.setCredit x.cell x.kind (max (s'.credit x.cell x.kind)
        (min (s'.credit x.cell x.kind + 256 * (eng.rest.length : Int)) (s'.creditCap x.cell x.kind)))
    else match eng.rest with
      | [] => s4
      | u :: us => s4.startOn e u us
  if x.internal then s5 else (s5.drained x.cell x.inc before).shedDrained

/-- ENGINE_RESET_END (R190). -/
def execEngineResetEnd (e : Nat) (s : State) : Out :=
  if (s.engine e).resetAt.isNone then .next s else .next (s.setEngine e { s.engine e with resetAt := none })

/-! ### Registers -/

/-- HWK_ENGe (Table of HWK registers). -/
def State.engWord (s : State) (e : Nat) : Word :=
  let x := s.engine e
  let t := x.running.getD 0
  let g := s.tag t
  w32 (x.running.isSome.toNat * 0x80000000 + (x.running.isSome && decide (1 < g.count)).toNat * 0x40000000 +
    (s.engineFrozen e).toNat * 0x20000000 +
    (x.resetAt.isSome || (s.hwk.shedKinds.contains (engineKind e))).toNat * 0x10000000 +
    (if x.running.isSome && !g.internal then g.cell else 0) * 0x10000 + t)

/-- HWK_ISTAT of a cell. -/
def State.istatWord (s : State) (c : Nat) : Word :=
  w32 (sat 0xFFFF (s.hwk.waiting.filter fun t => (s.tag t).cell == c).length * 0x10000 +
    (s.cellMasked c).toNat * 0x8000 + s.tagsOf c)

/-- The inequality of R200 rule 4 for a kind, with values taken by `val`. -/
def hwkSum (val : Nat → Word) (k : Nat) : Bool :=
  let w := (allCells.map fun c => fld (val (Reg.HWK_WC c)) 7 0).sum
  decide (w * fld (val (Reg.HWK_UNIT k)) 15 0 ≤ 256 * capOf k * fld (val Reg.HWK_CFG) 9 0 / 100000)

/-- The agreement rules of the HWK pages (R200): shadow values of the page itself and of pending HWK pages, active values
otherwise. -/
def State.hwkAgree (s : State) (page : Nat) : Nat :=
  let val (k : Nat) : Word :=
    let p := k / 0x1000 * 0x1000
    if p = page || mhas p s.pend then s.shadow k else s.reg k
  if page = 0x40040000 then
    let cfg := val Reg.HWK_CFG
    let win := fld cfg 9 0
    let lim := fld cfg 28 16
    if win < 1 ∨ 1000 < win then 1
    else if lim < 1 ∨ 4096 < lim then 2
    else if allKinds.any fun k =>
      let u := val (Reg.HWK_UNIT k)
      fld u 15 0 == 0 || fld u 19 16 == 0 then 3
    else if allKinds.all (hwkSum val) then 0 else 4
  else if allKinds.all (hwkSum val) then 0 else 1

end Sys2Proof.Machine
end

