-- ==== Sys2Proof/Machine/LatWire.lean ====
section
/-! DEFINITION. Lathline frames as bits of the wire: layout, stuff bits, stuff count, CRC, classes, errors and error flags (R281 to
R286, R298 and R299 of 08_lathline_link.md). A dominant bit is false (0), a recessive bit true (1). -/
namespace Sys2Proof.Machine

/-! ### Layout (Table 8.6) -/

/-- The low `n` bits of a number, the most significant first (R284). -/
def bitsMsb : Nat → Nat → List Bool
  | 0, _ => []
  | n + 1, v => (v / 2 ^ n % 2 == 1) :: bitsMsb n v

/-- The number that bits spell, the most significant first. -/
def ofBits (bs : List Bool) : Nat := bs.foldl (fun a b => 2 * a + b.toNat) 0

/-- The bytes that bits spell, in ascending order. -/
def bytesOfBits : Nat → List Bool → List Byte
  | 0, _ => []
  | n + 1, bs => BitVec.ofNat 8 (ofBits (bs.take 8)) :: bytesOfBits n (bs.drop 8)

/-- SOF to LEN: 36 bits. -/
def headBits (f : LatFrame) : List Bool :=
  [false] ++ bitsMsb 24 f.arb ++ [true, false, f.brs, f.esi] ++ bitsMsb 7 f.payload.length

/-- SOF to the last payload bit, without stuff bits. -/
def bodyBits (f : LatFrame) : List Bool := headBits f ++ f.payload.flatMap fun b => bitsMsb 8 b.toNat

/-! ### Stuff bits, stuff count and CRC (R282, R283) -/

/-- Dynamic stuff bits inserted: `last` is the bit before, `run` how many equal bits end with it. -/
def stuffFrom : Bool → Nat → List Bool → List Bool
  | _, _, [] => []
  | last, run, b :: t =>
    let r := if b = last then run + 1 else 1
    if r = 5 then b :: (!b) :: stuffFrom (!b) 1 t else b :: stuffFrom b r t

/-- The bits with their dynamic stuff bits, from SOF on; the bus before SOF is idle. -/
def stuffed (bs : List Bool) : List Bool := stuffFrom true 0 bs

/-- The stuff count field: the count modulo 8 in Gray code, and an even-parity bit over it. -/
def stuffCount (n : Nat) : List Bool :=
  let g := n % 8 ^^^ n % 8 / 2
  let bs := bitsMsb 3 g
  bs ++ [decide (ofBits bs ∈ [1, 2, 4, 7])]

/-- One bit of the CRC-24 (generator 0x5D_6DCB). -/
def crc24Bit (c : Nat) (b : Bool) : Nat :=
  let c2 := c * 2 % 0x1000000
  if (c / 0x800000 == 1) != b then c2 ^^^ 0x5D6DCB else c2

/-- The CRC-24 of bits: initial value 0xFF_FFFF and no final inversion. -/
def crc24 (bs : List Bool) : Nat := bs.foldl crc24Bit 0xFFFFFF

/-- Groups of 4 bits, each after a fixed stuff bit that is the complement of the bit before it. -/
def fixedStuff : Nat → Bool → List Bool → List Bool
  | 0, _, _ => []
  | n + 1, last, bs => (!last) :: (bs.take 4 ++ fixedStuff n ((bs.take 4).getLast?.getD last) (bs.drop 4))

/-- The stuff count and the CRC in their seven groups, after a body. -/
def checkBits (body : List Bool) : List Bool :=
  let w := stuffed body
  let sc := stuffCount (w.length - body.length)
  fixedStuff 7 (w.getLast?.getD true) (sc ++ bitsMsb 24 (crc24 (body ++ sc)))

/-- A frame on the wire, from SOF to the end of the intermission, with the ACK slot as its transmitter sends it. -/
def frameBits (f : LatFrame) : List Bool :=
  stuffed (bodyBits f) ++ checkBits (bodyBits f) ++ List.replicate 13 true

/-- How many bits of a frame come before its ACK slot. -/
def ackPlace (f : LatFrame) : Nat := (frameBits f).length - 12

/-- Whether each bit of a frame is timed at the data rate: those after BRS up to the CRC delimiter where BRS is 1 (R281). -/
def dataPhase (f : LatFrame) : List Bool :=
  let head := (stuffed ((headBits f).take 28)).length
  let n := (frameBits f).length
  (List.range n).map fun i => f.brs && decide (head ≤ i) && decide (i + 12 < n)

/-! ### Classes (Table 8.7) -/

/-- The BRS of a class, where its row gives one. -/
def classBrs (cls : Nat) : Option Bool :=
  if cls = 0 ∨ cls = 2 ∨ cls = 3 then some false else if cls = 1 ∨ cls = 4 ∨ cls = 5 ∨ cls = 8 then some true else none

/-- Whether a class allows a LEN, and then, from payload byte 0, whether class 1 does. -/
def classLen (cls len : Nat) : Bool :=
  if cls = 0 then len == 12
  else if cls = 2 ∨ cls = 3 ∨ cls = 4 then len == 8
  else if cls = 1 ∨ cls = 5 then decide (1 ≤ len) && decide (len ≤ 64)
  else if cls = 8 then len == 64
  else decide (len ≤ 64)
def opcodeLen (cls op len : Nat) : Bool := cls != 1 || !decide (1 ≤ op ∧ op ≤ 5) || len == 8

/-- Whether a frame is one that Tables 8.6 and 8.7 allow. -/
def frameFits (f : LatFrame) : Bool :=
  let cls := f.arb / 0x100000
  decide (f.arb < 0x1000000) && (classBrs cls == none || classBrs cls == some f.brs) && classLen cls f.payload.length &&
    opcodeLen cls (f.payload.headD 0).toNat f.payload.length

/-! ### Reading a frame (R282, R298) -/

/-- LEC codes of LAT_ERRn. -/
def lecBit : Nat := 1
def lecStuff : Nat := 2
def lecForm : Nat := 3
def lecCrc : Nat := 4
def lecAck : Nat := 5

/-- What bits on the wire give: a frame, an error found at a bit (its LEC, how many bits have been read, and the place of the ACK slot
where a receiver has acknowledged), or neither yet. -/
inductive LatRead where
  | frame (f : LatFrame)
  | error (lec used : Nat) (ack : Option Nat)
  | more
  deriving DecidableEq, Repr

/-- An error after the ACK slot of a frame whose CRC was right. -/
def LatRead.acked (place : Nat) : LatRead → LatRead
  | .error l u _ => .error l u (some place)
  | r => r

/-- A reader inside the stuffed part: bits taken so far in reverse, the last bit, its run, the stuff bits removed, the bits used. -/
structure Destuff where
  out : List Bool
  last : Bool
  run : Nat
  stuffs : Nat
  used : Nat
  deriving DecidableEq, Repr

/-- `n` more bits read with stuff bits removed: the reader and the rest of the wire, or what ended the reading. -/
def readBits : List Bool → Nat → Destuff → Except LatRead (Destuff × List Bool)
  | bs, 0, d => .ok (d, bs)
  | [], _ + 1, _ => .error .more
  | [b], n + 1, d =>
    let r := if b = d.last then d.run + 1 else 1
    if r = 5 then .error .more
    else if n = 0 then .ok (⟨b :: d.out, b, r, d.stuffs, d.used + 1⟩, [])
    else .error .more
  | b :: c :: t, n + 1, d =>
    let r := if b = d.last then d.run + 1 else 1
    if r = 5 then
      if c = b then .error (.error lecStuff (d.used + 2) none)
      else readBits t n ⟨b :: d.out, c, 1, d.stuffs + 1, d.used + 2⟩
    else readBits (c :: t) n ⟨b :: d.out, b, r, d.stuffs, d.used + 1⟩

/-- The last `n` bits taken, as a number. -/
def Destuff.tail (d : Destuff) (n : Nat) : Nat := ofBits (d.out.take n).reverse

/-- Seven groups of 4 bits read, each after its fixed stuff bit: the 28 bits. -/
def readGroups : Nat → List Bool → Bool → Nat → Except LatRead (List Bool × List Bool)
  | 0, bs, _, _ => .ok ([], bs)
  | n + 1, bs, last, used =>
    match bs with
    | [] => .error .more
    | x :: t =>
      if x = last then .error (.error lecForm (used + 1) none)
      else if t.length < 4 then .error .more
      else do
        let r ← readGroups n (t.drop 4) ((t.take 4).getLast?.getD x) (used + 5)
        pure (t.take 4 ++ r.1, r.2)

/-- The bits of the frame's end read one by one: `want` gives the value of each, none where either is right. -/
def readEnd : List (Option Bool) → List Bool → Nat → Option LatRead
  | [], _, _ => none
  | _ :: _, [], _ => some .more
  | w :: ws, b :: t, used => if w = some (!b) then some (.error lecForm (used + 1) none) else readEnd ws t (used + 1)

/-- A condition, or a form error after the bits read. -/
def formIf (ok : Bool) (used : Nat) : Except LatRead Unit := if ok then .ok () else .error (.error lecForm used none)

/-- A part of the frame's end that must read as it should. -/
def endIf (r : Option LatRead) : Except LatRead Unit :=
  match r with
  | none => .ok ()
  | some e => .error e

/-- A frame read from SOF to the end of EOF, as a receiver reads it (R282, R283, R285, R298); `sof` is the DTB of its SOF. -/
def readFrame (bits : List Bool) (sof : Nat) : Except LatRead LatFrame := do
  let (d0, w0) ← readBits bits 1 ⟨[], true, 0, 0, 0⟩
  formIf (!d0.last) d0.used
  let (d1, w1) ← readBits w0 24 d0
  let arb := d1.tail 24
  let cls := arb / 0x100000
  let (d2, w2) ← readBits w1 1 d1
  formIf (d2.tail 1 == 1) d2.used
  let (d3, w3) ← readBits w2 1 d2
  formIf (d3.tail 1 == 0) d3.used
  let (d4, w4) ← readBits w3 1 d3
  let brs := d4.tail 1 == 1
  formIf (classBrs cls == none || classBrs cls == some brs) d4.used
  let (d5, w5) ← readBits w4 8 d4
  let len := d5.tail 7
  formIf (classLen cls len) d5.used
  let (d6, w6) ← readBits w5 (8 * len) d5
  let payload := bytesOfBits len (d6.out.take (8 * len)).reverse
  formIf (opcodeLen cls ((payload.headD 0).toNat) len) d6.used
  let (g, w7) ← readGroups 7 w6 d6.last d6.used
  let used := d6.used + 35
  let sc := stuffCount d6.stuffs
  endIf (readEnd [some true] w7 used)
  if g.take 4 ≠ sc ∨ ofBits (g.drop 4) ≠ crc24 (d6.out.reverse ++ sc) then
    endIf (readEnd [none, some true] (w7.drop 1) (used + 1))
    throw (.error lecCrc (used + 3) none)
  endIf ((readEnd [none, some true, some true, some true, some true, some true, some true, some true, some true] (w7.drop 1)
    (used + 1)).map (LatRead.acked (used + 1)))
  pure ⟨brs, d5.tail 8 / 128 == 1, arb, payload, sof⟩

/-- What a receiver makes of bits from SOF on. A dominant bit in the first two bits of the intermission is a form error. -/
def latRead (bits : List Bool) (sof : Nat) : LatRead :=
  match readFrame bits sof with
  | .error e => e
  | .ok f =>
    let used := (frameBits f).length - 3
    match readEnd [some true, some true] (bits.drop used) used with
    | some (.error l u _) => .error l u (some (ackPlace f))
    | _ => .frame f

/-- The arbitration field and the tie-break bytes that bits give, where they reach so far (R301). -/
def latHead (bits : List Bool) : Option (Nat × Nat) :=
  match readBits bits 52 ⟨[], true, 0, 0, 0⟩ with
  | .ok (d, _) => some (d.tail 51 / 0x8000000, d.tail 16)
  | .error _ => none

/-! ### A transmitter against the wire (R286, R298) -/

/-- The first place where two bit strings differ. -/
def firstDiff : List Bool → List Bool → Option Nat
  | a :: s, b :: t => if a = b then (firstDiff s t).map (· + 1) else some 0
  | _, _ => none

/-- What becomes of a frame sent while `read` is read from the wire. -/
inductive LatSend where
  | lost
  | error (lec used : Nat)
  | fine
  deriving DecidableEq, Repr

/-- The transmitter's judgement (R286, R298): a recessive bit of the arbitration field read dominant loses; another difference is a
bit error, but for a dominant ACK slot; an ACK slot read recessive is an ACK error.  `tdc` is the delay measured for the data phase, in
quanta (R278); in the intermission a dominant bit is a form error, and the third one is a SOF. -/
def latSend (f : LatFrame) (read : List Bool) (tdc : Nat) : LatSend :=
  let sent := frameBits f
  let arb := (stuffed ((headBits f).take 25)).length
  let ack := ackPlace f
  let data := (stuffed ((headBits f).take 28)).length
  let d := firstDiff (sent.set ack false) read
  if f.brs && decide (127 < tdc) && decide (data < read.length) && decide (data ≤ d.getD read.length) then .error lecBit (data + 1)
  else match d with
    | none => .fine
    | some i =>
      if i < arb ∧ sent.getD i false = true then .lost
      else if i = ack then .error lecAck (i + 1)
      else if i + 1 = sent.length then .fine
      else .error (if sent.length ≤ i + 3 then lecForm else lecBit) (i + 1)

/-! ### What the station drives -/

/-- The length of a passive error flag: up to the sixth of six equal bits read in a row, where bits not listed read recessive. -/
def passiveFlag : Bool → Nat → List Bool → Nat
  | last, run, [] => if last then 6 - run else 6
  | last, run, b :: t =>
    let r := if b = last then run + 1 else 1
    if 6 ≤ r then 1 else 1 + passiveFlag b r t

/-- An error flag, its delimiter and the intermission (R299): 6 dominant bits of an error-active station, and recessive bits of an
error-passive one until it has read 6 equal bits; `after` are the bits read from the flag's first on. -/
def errorFlag (passive : Bool) (after : List Bool) : List Bool :=
  (if passive then List.replicate (passiveFlag true 0 after) true else List.replicate 6 false) ++ List.replicate 11 true

/-- What a receiver drives during `n` bits: recessive bits, and a dominant ACK slot where it acknowledges. -/
def ackBits (n : Nat) (ack : Option Nat) : List Bool :=
  match ack with
  | some i => (List.replicate n true).set i false
  | none => List.replicate n true

end Sys2Proof.Machine
end

