-- ==== Sys2Proof/Machine/Lathline.lean ====
section
/-! DEFINITION. Lathline trunks: frame selection, the time master, transmit and receive queues, sweeps, census and the node
region, errors and bus-off (R285 to R334 of 08_lathline_link.md and 09_lathline_controller.md). -/
namespace Sys2Proof.Machine

def State.trunk (s : State) (n : Nat) : Trunk := mget Trunk.reset n s.trunks
def State.setTrunk (s : State) (n : Nat) (x : Trunk) : State := { s with trunks := mset Trunk.reset n x s.trunks }

def allTrunks : List Nat := List.range 32
def latPage (n : Nat) : Nat := 0x40200000 + 0x1000 * n

/-- EN and LBK of a trunk (Table 9.10), and whether it is in normal or external loopback mode. -/
def State.latEn (s : State) (n : Nat) : Bool := s.regB (Reg.LAT_CFG n) 31
def State.latLbk (s : State) (n : Nat) : Nat := s.regF (Reg.LAT_CFG n) 29 28
def State.latRuns (s : State) (n : Nat) : Bool := s.latEn n && s.latLbk n != 1

/-- ESTATE is bus-off; QUIET; REVERSED or STUCK set. -/
def State.latOff (s : State) (n : Nat) : Bool := s.regF (Reg.LAT_STAT n) 31 30 == 2
def State.latQuiet (s : State) (n : Nat) : Bool := s.regB (Reg.LAT_STAT n) 29
def State.latBlocked (s : State) (n : Nat) : Bool := s.regB (Reg.LAT_STAT n) 21 || s.regB (Reg.LAT_STAT n) 22

/-- Arbitration fields of broadcast commands of class 1 and of TIME frames (Table 8.7). -/
def arbTime : Nat := 0
def arbBroadcast : Nat := 0x17FFFF

/-! ### Transmit entries (Table 9.2) -/

/-- Word `w` of transmit entry `e`. -/
def txKey (n e w : Nat) : Nat := Reg.LAT_TX n (20 * e + w)

def State.txArb (s : State) (n e : Nat) : Nat := s.regF (txKey n e 0) 23 0
def State.txLen (s : State) (n e : Nat) : Nat := s.regF (txKey n e 0) 30 24
def State.txBrs (s : State) (n e : Nat) : Bool := s.regB (txKey n e 0) 31
def State.txByte0 (s : State) (n e : Nat) : Nat := s.regF (txKey n e 4) 7 0
def State.txOneshot (s : State) (n e : Nat) : Bool := s.regB (txKey n e 1) 0

/-- Whether the controller owns an entry. -/
def State.txOwned (s : State) (n e : Nat) : Bool := s.regB (Reg.LAT_TXST n) (16 + e)

/-- Bytes of a run of register words. -/
def State.regBytes (s : State) (k n : Nat) : List Byte := (wordBytes ((List.range 16).map fun i => s.reg (k + 4 * i))).take n

/-- The frame of an entry. -/
def State.txFrame (s : State) (n e sof : Nat) : LatFrame :=
  ⟨s.txBrs n e, s.regF (Reg.LAT_STAT n) 31 30 == 1, s.txArb n e, s.regBytes (txKey n e 4) (s.txLen n e), sof⟩

/-- An entry returned to firmware: RES and TSOF written, ownership passed, DONE set (R314). -/
def State.txReturn (s : State) (n e st reason tsof : Nat) : State :=
  let x := s.trunk n
  let att := sat 255 (mget 0 e x.attempts)
  let s1 := (s.setReg (txKey n e 2) (w32 (st * 0x10000000 + reason * 0x1000000 + att * 0x10000))).setReg (txKey n e 3)
    (w32 tsof)
  let s2 := (s1.setRegB (Reg.LAT_TXST n) (16 + e) false).setRegB (Reg.LAT_TXST n) e true
  s2.setTrunk n { x with marked := x.marked.filter fun k => k != e }

/-- The check of an entry at queuing (R313): 0, or the REJECTED reason. -/
def State.txCheck (s : State) (n e : Nat) : Nat :=
  let cls := s.txArb n e / 0x100000
  let len := s.txLen n e
  if cls = 14 then (if len ≤ 64 then 0 else 3)
  else if cls ≠ 1 then 1
  else
    let op := s.txByte0 n e
    if op ≠ 5 ∧ op ≠ 0x10 then 2
    else if !s.txBrs n e then 3
    else if op = 5 then (if len = 8 then 0 else 3)
    else if 1 ≤ len ∧ len ≤ 64 then 0 else 3

/-- One entry of a queue write (R313). -/
def State.txQueue1 (n : Nat) (s : State) (e : Nat) : State :=
  if s.txOwned n e then s.setRegB (Reg.LAT_TXRES n) e true
  else
    let r := s.txCheck n e
    if r = 0 then
      let x := s.trunk n
      let s1 := (s.setReg (txKey n e 2) 0x10000000).setReg (txKey n e 3) 0
      (s1.setRegB (Reg.LAT_TXST n) (16 + e) true).setTrunk n { x with attempts := mset 0 e 0 x.attempts }
    else s.setReg (txKey n e 2) (w32 (0x40000000 + r * 0x1000000))

/-- The bits set among the low `n` of a word. -/
def bitsOf (n : Nat) (v : Word) : List Nat := (List.range n).filter (bitAt v)

/-- A write to LAT_TXQn (R313). -/
def State.latTxq (s : State) (n : Nat) (v : Word) : State :=
  (bitsOf 16 v).foldl (State.txQueue1 n) (s.setRegF (Reg.LAT_TXRES n) 15 0 0)

/-- One entry of a cancel write (R315). -/
def State.txCancel1 (n : Nat) (s : State) (e : Nat) : State :=
  if !s.txOwned n e then s.setRegB (Reg.LAT_TXRES n) e true
  else if (s.trunk n).sel = some (.entry e) then
    let x := s.trunk n
    (s.setRegB (Reg.LAT_TXRES n) (16 + e) true).setTrunk n { x with marked := e :: x.marked.filter fun k => k != e }
  else s.txReturn n e 3 1 0

/-- A write to LAT_TXCANn (R315). -/
def State.latTxcan (s : State) (n : Nat) (v : Word) : State :=
  (bitsOf 16 v).foldl (State.txCancel1 n) (s.setReg (Reg.LAT_TXRES n) 0)

/-- A write to a word of a transmit entry: without effect while the controller owns it (R312). -/
def State.latTxWrite (s : State) (n i : Nat) (v : Word) : State :=
  if s.txOwned n (i / 20) then s.setRegB (Reg.LAT_STAT n) 6 true else s.setReg (Reg.LAT_TX n i) v

/-- LAT_TXQ_WRITE (R313). -/
def execLatTxqWrite (w : Who) (n : Nat) (v : Word) (s : State) : Out :=
  if 32 ≤ n then .next s else .next (s.access w (Reg.LAT_TXQ n) fun s => s.latTxq n v)

/-- LAT_TXCAN_WRITE (R315). -/
def execLatTxcanWrite (w : Who) (n : Nat) (v : Word) (s : State) : Out :=
  if 32 ≤ n then .next s else .next (s.access w (Reg.LAT_TXCAN n) fun s => s.latTxcan n v)

/-! ### Receive queue (R317 to R319) -/

/-- The lowest enabled filter that accepts an arbitration field, 0xFF under RXALL. -/
def State.latFilter (s : State) (n arb : Nat) : Option Nat :=
  if s.regB (Reg.LAT_CFG n) 27 then some 0xFF
  else (List.range 8).find? fun f =>
    s.regB (Reg.LAT_FVAL n f) 31 &&
      (arb ^^^ s.regF (Reg.LAT_FVAL n f) 23 0) &&& s.regF (Reg.LAT_FMSK n f) 23 0 == 0

/-- The words of consecutive bytes, `n` of them, bytes beyond the list 0. -/
def packWords (n : Nat) (bs : List Byte) : List Word := (List.range n).map fun i => w32 (ofBytes ((bs.drop (4 * i)).take 4))

/-- The state with consecutive registers written. -/
def State.setRegs (s : State) : Nat → List Word → State
  | _, [] => s
  | k, w :: t => (s.setReg k w).setRegs (k + 4) t

/-- A frame offered to the filters and, where accepted, to the receive queue. -/
def State.latReceive (s : State) (n : Nat) (f : LatFrame) (own : Bool) : State :=
  match s.latFilter n f.arb with
  | none => s
  | some i =>
    let st := Reg.LAT_RXST n
    let cnt := s.regF st 5 0
    if 32 ≤ cnt then
      let s1 := s.countReg (Reg.LAT_RXLOST n) 31 0 0xFFFFFFFF 1
      if s1.regB (Reg.LAT_STAT n) 5 then s1
      else (s1.setRegB (Reg.LAT_STAT n) 5 true).emit Ev.LAT_RX_OVERFLOW 0 [w32 n, s1.reg (Reg.LAT_RXLOST n)]
    else
      let r := (s.regF st 12 8 + cnt) % 32
      let w0 := w32 (f.brs.toNat * 0x80000000 + f.payload.length % 128 * 0x1000000 + f.arb % 0x1000000)
      let w1 := w32 (f.esi.toNat * 0x80000000 + own.toNat * 0x40000000 + i * 0x10000)
      let s1 := s.setRegs (Reg.LAT_RX n (20 * r)) ([w0, w1] ++ dtbWords f.sof ++ packWords 16 f.payload)
      s1.setRegF st 5 0 (cnt + 1)

/-- A write to LAT_RXACKn (R318). -/
def State.latRxack (s : State) (n : Nat) (v : Word) : State :=
  let st := Reg.LAT_RXST n
  let k := min (fld v 5 0) (s.regF st 5 0)
  (s.setRegF st 12 8 ((s.regF st 12 8 + k) % 32)).setRegF st 5 0 (s.regF st 5 0 - k)

/-- LAT_RXACK_WRITE (R318). -/
def execLatRxackWrite (w : Who) (n : Nat) (v : Word) (s : State) : Out :=
  if 32 ≤ n then .next s else .next (s.access w (Reg.LAT_RXACK n) fun s => s.latRxack n v)

/-! ### Error counts (R300, Table 8.13) -/

/-- TEC and REC of a trunk set, with ESTATE. -/
def State.latCounts (s : State) (n tec rec : Nat) : State :=
  let s1 := (s.setRegF (Reg.LAT_ERR n) 24 16 tec).setRegF (Reg.LAT_ERR n) 8 0 (sat 511 rec)
  let e := if 255 < tec then 2 else if 127 < tec ∨ 127 < rec then 1 else 0
  s1.setRegF (Reg.LAT_STAT n) 31 30 e

def State.latTec (s : State) (n : Nat) : Nat := s.regF (Reg.LAT_ERR n) 24 16
def State.latRec (s : State) (n : Nat) : Nat := s.regF (Reg.LAT_ERR n) 8 0

/-- A frame received without error. -/
def recAfterGood (rec : Nat) : Nat := if 127 < rec then 120 else rec - 1

/-! ### The sweep engine's choice (R327) -/

/-- The request of a due alarm sweep. -/
def State.alarmReq (s : State) (n : Nat) (wet : Bool) : LatCmd :=
  let thr := if wet then s.regF (Reg.LAT_AL n) 15 0 else s.regF (Reg.LAT_AL n) 31 16
  .sweepOpen wet thr (s.regF (Reg.LAT_AS n) 15 8 + 1) (s.regF (Reg.LAT_AS n) 23 16) 0xFFFF

/-- Whenever no census runs and no sweep is open, the first of a due alarm sweep, a due census and the oldest request
starts: its command frame waits to be sent. -/
def State.latPick (s : State) (n : Nat) : State :=
  let x := s.trunk n
  if !s.latRuns n || s.latOff n || x.cmd.isSome || x.sweep.isSome || x.census.isSome then s
  else if x.alarmDue then
    let both := s.regB (Reg.LAT_AS n) 0 && s.regB (Reg.LAT_AS n) 1
    let wet := if both then x.nextWet else s.regB (Reg.LAT_AS n) 1
    s.setTrunk n { x with cmd := some (s.alarmReq n wet), alarmDue := false, nextWet := !wet }
  else if x.censusDue then
    s.setTrunk n { x with
      cmd := some (.census (s.regF (Reg.LAT_CS n) 13 8) (s.regF (Reg.LAT_CS n) 21 16) false), censusDue := false }
  else match x.reqs with
    | [] => s
    | .census a b :: t => s.setTrunk n { x with cmd := some (.census a b true), reqs := t }
    | .sweep wet thr nmax lim tag :: t => s.setTrunk n { x with cmd := some (.sweepOpen wet thr nmax lim tag), reqs := t }

/-- SWSTAT of a closed sweep. -/
def State.sweepClosed (s : State) (n why : Nat) : State :=
  let x := s.trunk n
  let w := setFld (setFld (s.reg (Reg.LAT_SWSTAT n)) 23 22 2) 21 20 why
  ((s.setReg (Reg.LAT_SWSTAT n) w).setRegB (Reg.LAT_STAT n) 28 false).setTrunk n { x with sweep := none, cmd := none }

/-- An open sweep and a running census abandoned, without their SWEEP_CLOSE (R329, R331, R332); a command frame that waits to be sent is
held. -/
def State.latAbandon (s : State) (n : Nat) : State :=
  let s1 := if (s.trunk n).sweep.isSome then s.sweepClosed n 3 else s
  (s1.setTrunk n { s1.trunk n with census := none }).setRegB (Reg.LAT_STAT n) 27 false

/-- What the schedules have brought on a trunk that no longer runs them dropped (R325, R327): what was asked for through the arbiter is
kept. -/
def State.latUnschedule (s : State) (n : Nat) : State :=
  let x := s.trunk n
  let asked : Bool := match x.cmd with
    | some (.census _ _ a) => a
    | some (.sweepOpen _ _ _ _ tag) => tag != 0xFFFF
    | _ => false
  s.setTrunk n { x with cmd := if asked then x.cmd else none, censusDue := false, alarmDue := false }

/-- Bus-off entered (R329). -/
def State.latBusOff (s : State) (n : Nat) : State :=
  let s1 := s.latAbandon n
  let x := s1.trunk n
  let auto := s1.regB (Reg.LAT_CFG n) 26
  let s2 := s1.setTrunk n { x with sel := none, offAt := s.dtb, recovAt := s.dtb }
  let s3 := ((s2.setRegB (Reg.LAT_STAT n) 4 true).setRegB (Reg.LAT_STAT n) 26 auto).setRegB Reg.LAT_BOFF n true
  s3.emit Ev.LAT_BUSOFF 0 [w32 n, w32 (s.latTec n), w32 (s.latRec n)]

/-! ### Selection (R310, R311) -/

/-- Whether a firmware entry is eligible (Table 9.1). -/
def State.txEligible (s : State) (n e : Nat) : Bool :=
  s.txOwned n e && !(s.trunk n).marked.contains e && (s.trunk n).sweep.isNone

/-- The arbitration field, order and source of every eligible frame. -/
def State.latOffers (s : State) (n : Nat) : List (Nat × LatSrc) :=
  let x := s.trunk n
  if !s.latEn n || s.latOff n || s.latQuiet n || s.latBlocked n || s.onSafe then []
  else
    (if x.due then [(arbTime, LatSrc.time)] else []) ++
    (if x.cmd.isSome && s.latRuns n then [(arbBroadcast, LatSrc.engine)] else []) ++
    ((List.range 16).filter (s.txEligible n)).map fun e => (s.txArb n e, LatSrc.entry e)

/-- The offer with the lowest arbitration field, the earliest of equals. -/
def lowestOffer : List (Nat × LatSrc) → Option (Nat × LatSrc)
  | [] => none
  | a :: t => match lowestOffer t with
    | none => some a
    | some b => if b.1 < a.1 then some b else some a

/-- Whether the DTB is disciplined to a host link. -/
def State.gptpOn (s : State) : Bool := s.regF Reg.HST_PTPSTAT 31 30 == 1

/-- The payload of a TIME frame as its SOF leaves (Table 8.15). -/
def State.timePayload (s : State) (n : Nat) : List Byte :=
  let x := s.trunk n
  bytesOf 2 x.seq ++ bytesOf 8 x.prev ++
    bytesOf 1 (x.prevOk.toNat + 2 * (x.step || x.stepped).toNat + 4 * s.gptpOn.toNat) ++ bytesOf 1 (s.regF (Reg.LAT_BTD n) 31 30)

/-- Whether a page applies at the bus idle that follows the frame just ended (Table 1.7): no SOF comes before it. -/
def State.idleApply (s : State) (page : Nat) : Bool := s.isPending page && s.frameReached page

/-- FRAME_SELECTION (R310): the eligible frame with the lowest arbitration field, whose SOF is the next bit of bus idle. -/
def execFrameSelection (n : Nat) (s : State) : Out :=
  let x := s.trunk n
  if x.sel.isSome || s.idleApply (latPage n) then .next s
  else match lowestOffer (s.latOffers n) with
    | none => .next s
    | some o => .next (s.setTrunk n { x with sel := some o.2, pay := if o.2 = .time then s.timePayload n else x.pay })

/-! ### Command frames of the sweep engine (Table 8.8) -/

/-- ESI of the frames of a trunk: error-passive. -/
def State.latPassive (s : State) (n : Nat) : Bool := s.regF (Reg.LAT_STAT n) 31 30 == 1

/-- A broadcast command frame with bytes 1 to 7. -/
def State.cmdFrame (s : State) (n op : Nat) (rest : List Byte) (sof : Nat) : LatFrame :=
  ⟨true, s.latPassive n, arbBroadcast, bytesOf 1 op ++ (rest ++ bytesOf 7 0).take 7, sof⟩

/-- The frame of a command of the sweep engine. -/
def State.engineFrame (s : State) (n : Nat) (c : LatCmd) (sof : Nat) : LatFrame :=
  let x := s.trunk n
  match c with
  | .census a b _ => s.cmdFrame n 1 (bytesOf 1 (x.censusNum + 1) ++ bytesOf 1 a ++ bytesOf 1 b) sof
  | .sweepOpen wet thr nmax lim _ =>
    s.cmdFrame n (if wet then 3 else 2) (bytesOf 1 (x.sweepNum + 1) ++ bytesOf 2 thr ++ bytesOf 2 nmax ++ bytesOf 2 lim) sof
  | .sweepClose => s.cmdFrame n 4 (bytesOf 1 x.sweepNum) sof

/-- The frame in transmission. -/
def State.latSending (s : State) (n sof : Nat) : Option LatFrame :=
  let x := s.trunk n
  match x.sel with
  | some .time => some ⟨false, s.latPassive n, arbTime, x.pay, sof⟩
  | some .engine => x.cmd.map fun c => s.engineFrame n c sof
  | some (.entry e) => some (s.txFrame n e sof)
  | none => none

/-- One more SOF sent for the frame in transmission, which leaves transmission. -/
def State.latAttempt (s : State) (n : Nat) : State :=
  let x := s.trunk n
  match x.sel with
  | some (.entry e) =>
    s.setTrunk n { x with sel := none, stepTx := false, attempts := mset 0 e (mget 0 e x.attempts + 1) x.attempts }
  | _ => s.setTrunk n { x with sel := none, stepTx := false }

/-- An attempt that lost arbitration or ended in an error (R311, R314, R315). -/
def State.latLost (s : State) (n : Nat) : State :=
  let s1 := s.latAttempt n
  match (s.trunk n).sel with
  | some (.entry e) =>
    if (s.trunk n).marked.contains e then s1.txReturn n e 3 1 0
    else if s.txOneshot n e then s1.txReturn n e 5 1 0
    else s1
  | _ => s1

/-- TX_ENTRY_RETURN (R314): the attempt in transmission loses arbitration; an entry with ONESHOT, or marked by a cancel,
returns. -/
def execTxEntryReturn (n : Nat) (s : State) : Out := .next (s.latLost n)

/-- A wiring flag, a bit of LAT_STATn, set or cleared (R303): recorded where it changes. -/
def State.latWire (s : State) (n f : Nat) (on : Bool) : State :=
  if s.regB (Reg.LAT_STAT n) f = on then s
  else ((s.setRegB (Reg.LAT_STAT n) f on).setRegB (Reg.LAT_STAT n) 2 true).emit
    (if on then Ev.LAT_WIRE_FAULT else Ev.LAT_WIRE_OK) 0 [w32 n, w32 f]

/-- A frame that ended at its ACK slot, acknowledged or not (R303): the 16th in a row without ACK sets NOLOAD, and an acknowledged one
clears it then. -/
def State.latAcked (s : State) (n : Nat) (acked : Bool) : State :=
  let x := s.trunk n
  if acked then
    let s1 := s.setTrunk n { x with noAck := 0 }
    if 16 ≤ x.noAck then s1.latWire n 19 false else s1
  else
    let s1 := s.setTrunk n { x with noAck := sat 16 (x.noAck + 1) }
    if x.noAck = 15 then s1.latWire n 19 true else s1

/-- A frame of the controller ended without error: TEC - 1, and it is offered to the filters in loopback (R317); in internal loopback
the wire stays recessive. -/
def State.latSent (s : State) (n : Nat) (f : LatFrame) : State :=
  let s1 := s.latAttempt n
  let s2 := s1.setTrunk n { s1.trunk n with
    out := some f, collide := (0, 0, 0), wire := if s.latLbk n = 1 then [] else frameBits f }
  let s3 := (if s.latLbk n = 1 then s2 else s2.latAcked n true).latCounts n (s.latTec n - 1) (s.latRec n)
  if s.latLbk n = 0 then s3 else s3.latReceive n f true

/-! ### The time master (R304, R305) -/

/-- TIME_FRAME_DUE (R304). -/
def execTimeFrameDue (n : Nat) (s : State) : Out :=
  let x := s.trunk n
  if 32 ≤ n ∨ s.dtb < x.nextTime then .next s
  else
    let s1 := if x.due && s.latEn n then s.setRegB (Reg.LAT_STAT n) 1 true else s
    let timing := x.sel == some .time
    .next (s1.setTrunk n { x with
      seq := (x.seq + 1) % 0x10000, due := s.latEn n && !s.latQuiet n && !s.onSafe, sel := if timing then none else x.sel,
      stepTx := !timing && x.stepTx, prev := x.sent.getD 0,
      prevOk := x.sent.isSome, sent := none, step := x.stepped, stepped := false,
      nextTime := (s.dtb / 10000000 + 1) * 10000000 })

/-- TIME (R305): the TIME frame in transmission ends without error; `sof` is the DTB of its SOF, which counts where the DTB has not been
stepped since (R304).  A step before its SOF has been told by its STEP. -/
def execTime (n sof : Nat) (s : State) : Out :=
  let x := s.trunk n
  if x.sel ≠ some .time then .next s
  else
    let s1 := s.latSent n ⟨false, s.latPassive n, arbTime, x.pay, sof⟩
    .next (s1.setTrunk n { s1.trunk n with
      due := false, sent := if x.stepTx then none else some sof, stepped := x.stepTx })

/-- CENSUS (R293, R325): the CENSUS frame ends; its EOF is the latch instant. -/
def execCensus (n sof : Nat) (s : State) : Out :=
  let x := s.trunk n
  match x.sel, x.cmd with
  | some .engine, some (.census a b asked) =>
    let num := (x.censusNum + 1) % 256
    let s1 := s.latSent n (s.engineFrame n (.census a b asked) sof)
    .next ((s1.setTrunk n { s1.trunk n with
      cmd := none, census := some ⟨a, b, s.dtb, sof, none, []⟩, censusNum := num, seen := [] }).setRegB (Reg.LAT_STAT n) 27 true)
  | _, _ => .next s

/-- SWEEP_OPEN (R290, R327). -/
def execSweepOpen (n sof : Nat) (s : State) : Out :=
  let x := s.trunk n
  match x.sel, x.cmd with
  | some .engine, some (.sweepOpen wet thr nmax lim tag) =>
    let num := (x.sweepNum + 1) % 256
    let s1 := s.latSent n (s.engineFrame n (.sweepOpen wet thr nmax lim tag) sof)
    let s2 := s1.setTrunk n { s1.trunk n with
      cmd := none, sweep := some ⟨wet, nmax, s.dtb + lim * 1000000, s.dtb, none⟩, sweepNum := num, seen := [] }
    let s3 := s2.setRegs (Reg.LAT_SWL n 0) (List.replicate 512 0)
    let s4 := (s3.setReg (Reg.LAT_SWSTAT n) (w32 (num * 0x1000000 + 0x400000 + wet.toNat * 0x80000))).setReg (Reg.LAT_SWTAG n)
      (w32 tag)
    .next (s4.setRegB (Reg.LAT_STAT n) 28 true)
  | _, _ => .next s

/-- An open sweep is to be closed for a reason; the first reason stands (R291). -/
def State.closeSweep (s : State) (n why : Nat) : State :=
  let x := s.trunk n
  match x.sweep with
  | some w => if w.closing.isSome then s
    else s.setTrunk n { x with sweep := some { w with closing := some why }, cmd := some .sweepClose }
  | none => s

/-- SWEEP_DRAINED (R291). -/
def execSweepDrained (n : Nat) (s : State) : Out := .next (s.closeSweep n 1)

/-- SWEEP_TIME_LIMIT (R291). -/
def execSweepTimeLimit (n : Nat) (s : State) : Out :=
  match (s.trunk n).sweep with
  | some w => if s.dtb < w.stop then .next s else .next (s.closeSweep n 2)
  | none => .next s

/-- SWEEP_CLOSE (R291): the SWEEP_CLOSE frame ends; the sweep is closed with its reason. -/
def execSweepClose (n sof : Nat) (s : State) : Out :=
  let x := s.trunk n
  match x.sel, x.cmd, x.sweep with
  | some .engine, some .sweepClose, some w =>
    let s1 := s.latSent n (s.engineFrame n .sweepClose sof)
    .next ((s1.sweepClosed n (w.closing.getD 0)).latPick n)
  | _, _, _ => .next s

/-! ### Frames of the transmit queue -/

/-- The entry in transmission ends without error and returns DONE. -/
def State.txDone (s : State) (n e sof : Nat) : State :=
  (s.latSent n (s.txFrame n e sof)).txReturn n e 2 0 (sof % 0x100000000)

/-- The entry in transmission, where it is of a class and, for class 1, has an opcode. -/
def State.txSelected (s : State) (n cls op : Nat) : Option Nat :=
  match (s.trunk n).sel with
  | some (.entry e) => if s.txArb n e / 0x100000 = cls ∧ (cls ≠ 1 ∨ s.txByte0 n e = op) then some e else none
  | _ => none

/-- RATE (R302, R330): the quiet interval of 1 ms begins at the end of its EOF. -/
def execRate (n sof : Nat) (s : State) : Out :=
  match s.txSelected n 1 5 with
  | none => .next s
  | some e =>
    let s1 := s.txDone n e sof
    let x := s1.trunk n
    .next ((s1.setTrunk n { x with quietEnd := s.dtb + 1000000 }).setRegB (Reg.LAT_STAT n) 29 true)

/-- NODE_CMD (R313). -/
def execNodeCmd (n sof : Nat) (s : State) : Out :=
  match s.txSelected n 1 0x10 with
  | none => .next s
  | some e => .next (s.txDone n e sof)

/-- PRIVATE (R285). -/
def execPrivateI (n sof : Nat) (s : State) : Out :=
  match s.txSelected n 14 0 with
  | none => .next s
  | some e => .next (s.txDone n e sof)

/-- QUIET_INTERVAL_END (R302). -/
def execQuietIntervalEnd (n : Nat) (s : State) : Out :=
  if decide (32 ≤ n) || !s.latQuiet n || decide (s.dtb < (s.trunk n).quietEnd) then .next s else .next (s.setRegB (Reg.LAT_STAT n) 29 false)

/-! ### Node entries (R321 to R323) -/

/-- The address of node `n` of a trunk (R271). -/
def nodeAddr (trunk n : Nat) : Nat := 32768 * trunk + n

/-- STAT bits of a node entry (Table 9.4). -/
def nsValid : Nat := 1
def nsAbsent : Nat := 16
def nsJmiss : Nat := 32
def nsUnsync : Nat := 64
def nsDup : Nat := 128

/-- A 16-bit temperature and a moisture as FP32 in 1/64 units. -/
def tempF (t64 : Nat) : Word := ratF (sext 16 t64) 64
def moistF (m : Nat) : Word := ratF m 64

/-- The history record of a node, where one is due (R323): the next record of the ring is written with its line. -/
def State.nodeHistory (s : State) (a latch t64 moist : Nat) (tv mv : Bool) : State :=
  let k := fiNode a
  let last := mget 0 a s.nodeHist
  let h := if last = 0 then 0 else ((s.fiWord (k + 10)).toNat + 1) % 32
  let base := k + 64 + 16 * (h / 8)
  let line := ((List.range 16).map fun i => s.fiWord (base + i))
  let w1 := w32 ((if tv then t64 else 0x8000) + (if mv then moist else 0xFFFF) * 0x10000)
  let s1 := s.writeLine base ((line.set (2 * (h % 8)) (w32 (latch / 0x10000))).set (2 * (h % 8) + 1) w1)
  let s2 := s1.setFi (k + 10) (w32 h)
  { s2 with nodeHist := mset 0 a (latch + 1) s2.nodeHist }

/-- Line 1 of a node brought up to date (Table 9.4). -/
def State.nodeMax (s : State) (a latch : Nat) (temp moist : Option Word) (cen swp abs : Nat) : State :=
  let k := fiNode a + 16
  let old (i : Nat) : Word := s.fiWord (k + i)
  let upd (at' : Nat) (v : Option Word) : List (Nat × Word) := match v with
    | some v => if (old (at' + 2) == 0 && old (at' + 3) == 0) || fpGt v (old at') then
        [(at', v), (at' + 2, w32 latch), (at' + 3, w32 (latch / 0x100000000))] else []
    | none => []
  let changes := upd 0 temp ++ upd 4 moist ++
    [(8, old 8 + w32 cen), (9, old 9 + w32 swp), (10, old 10 + w32 abs)]
  let line := (List.range 16).map fun i => match changes.find? fun c => c.1 == i with
    | some c => c.2
    | none => old i
  s.writeLine k line

/-- A write of a present node's entry from a census record or a sweep report (R322): history where due, line 1, line 0. -/
def State.nodeWrite (s : State) (trunk node raw src latch m : Nat) (sweep unsync hist : Bool) : State :=
  let a := nodeAddr trunk node
  let k := fiNode a
  let x := s.trunk trunk
  let t64 := raw % 0x10000
  let tv := raw / 0x10000000 % 2 == 1
  let mv := raw / 0x20000000 % 2 == 1
  let fault := raw / 0x40000000 % 2
  let dup := x.seen.contains node
  let s0 := s.setTrunk trunk { x with seen := node :: x.seen.filter fun i => i != node }
  let s1 := if hist then s0.nodeHistory a latch t64 m tv mv else s0
  let temp := if tv then tempF t64 else fpNaN
  let moist := if mv then moistF m else fpNaN
  let s2 := s1.nodeMax a latch (if tv then some temp else none) (if mv then some moist else none) (!sweep).toNat sweep.toNat 0
  let stat := nsValid + 2 * tv.toNat + 4 * mv.toNat + 8 * fault + nsUnsync * unsync.toNat + nsDup * dup.toNat
  s2.writeLine k ([temp, moist, w32 stat, s2.fiWord (k + 3) + 1] ++ dtbWords latch ++ [w32 src, w32 raw] ++ dtbWords latch ++
    [s2.fiWord (k + 10), 0, 0, 0, 0, 0])

/-- A census record with PRESENT 0 for a node with VALID 1 (R322). -/
def State.nodeAbsent (s : State) (trunk node src latch : Nat) (hist : Bool) : State :=
  let a := nodeAddr trunk node
  let k := fiNode a
  let raw := (s.fiWord (k + 7)).toNat
  let x := s.trunk trunk
  let dup := x.seen.contains node
  let s0 := s.setTrunk trunk { x with seen := node :: x.seen.filter fun i => i != node }
  let s1 := if hist then s0.nodeHistory a latch (raw % 0x10000) (raw / 0x10000 % 0x1000) (raw / 0x10000000 % 2 == 1)
    (raw / 0x20000000 % 2 == 1) else s0
  let s2 := s1.nodeMax a latch none none 0 0 1
  let line := (List.range 16).map fun i => s2.fiWord (k + i)
  let stat := setBit (setBit (setBit (s2.fiWord (k + 2)) 0 false) 4 true) 7 dup
  s2.writeLine k (((((line.set 2 stat).set 3 (s2.fiWord (k + 3) + 1)).set 4 (w32 latch)).set 5
    (w32 (latch / 0x100000000))).set 6 (w32 src))

/-- Whether a census record writes a history record (R323). -/
def State.histDue (s : State) (a latch : Nat) : Bool :=
  let last := mget 0 a s.nodeHist
  last == 0 || decide (last - 1 + s.regF Reg.LAT_HIST 15 0 * 1000000000 ≤ latch)

/-- A stray frame (R320). -/
def State.latStray (s : State) (n : Nat) : State :=
  (s.countReg (Reg.LAT_STRAY n) 31 0 0xFFFFFFFF 1).setRegB (Reg.LAT_STAT n) 7 true

/-! ### Frames received -/

/-- A payload value of `n` bytes at an offset, low byte first. -/
def payAt (f : LatFrame) (off n : Nat) : Nat := ofBytes ((f.payload.drop off).take n)

/-- What every frame received without error does (R286, R317, Table 8.13): a frame of the trunk's own that was being sent has lost to
it, and the trunk acknowledges it. -/
def State.latGood (s : State) (n : Nat) (f : LatFrame) : State :=
  let s0 := s.latLost n
  let s1 := s0.latCounts n (s.latTec n) (recAfterGood (s.latRec n))
  (s1.setTrunk n { s1.trunk n with
    collide := (0, 0, 0), wire := ackBits (frameBits f).length (if s.latBlocked n then none else some (ackPlace f)) }).latReceive
      n f false

/-- Whether the trunk is a receiver of bits read: it sends nothing, or what it sends has lost arbitration to them (R286). -/
def State.latListens (s : State) (n : Nat) (bits : List Bool) : Bool :=
  match s.latSending n 0 with
  | none => true
  | some f => latSend f bits 0 == .lost

/-- The frame that a trunk receives without error: the trunk is enabled, not in internal loopback and not bus-off, and the bits from SOF
on are those of a frame. -/
def State.latHears (s : State) (n : Nat) (bits : List Bool) (sof : Nat) : Option LatFrame :=
  if n < 32 ∧ !s.onSafe ∧ s.latRuns n ∧ !s.latOff n ∧ s.latListens n bits then
    match latRead bits sof with
    | .frame f => some f
    | _ => none
  else none

/-- The frame received, where it is of a class. -/
def State.latHeard (s : State) (n cls : Nat) (bits : List Bool) (sof : Nat) : Option LatFrame :=
  (s.latHears n bits sof).filter fun f => f.arb / 0x100000 == cls

/-- A sweep report (R320, R327). -/
def State.sweepReport (s : State) (n : Nat) (f : LatFrame) (wet : Bool) : State :=
  let x := s.trunk n
  match x.sweep with
  | none => s.latStray n
  | some w =>
    if w.wet != wet || payAt f 7 1 != x.sweepNum then s.latStray n
    else
      let node := (payAt f 0 1 * 256 + payAt f 1 1) % 32768
      let t64 := payAt f 2 2
      let m := payAt f 4 2
      let fl := payAt f 6 1
      let fault := (s.fiWord (fiNode (nodeAddr n node) + 7)).toNat / 0x40000000 % 2
      let raw := 0x80000000 + fault * 0x40000000 + fl / 2 % 2 * 0x20000000 + fl % 2 * 0x10000000 + min m 4095 * 0x10000 + t64
      let src := x.sweepNum + 256 + 512 * wet.toNat
      let s1 := s.nodeWrite n node raw src w.latch m true (fl / 4 % 2 == 1) true
      let cnt := s1.regF (Reg.LAT_SWSTAT n) 8 0
      let s2 := if 256 ≤ cnt then s1
        else (s1.setRegs (Reg.LAT_SWL n (2 * cnt)) (packWords 2 f.payload)).setRegF (Reg.LAT_SWSTAT n) 8 0 (cnt + 1)
      if w.nmax ≤ cnt + 1 then s2.closeSweep n 0 else s2

/-- HOT (R320). -/
def execHot (n : Nat) (w : RxBits) (s : State) : Out :=
  match s.latHeard n 2 w.bits w.sof with
  | none => .next s
  | some f => .next ((s.latGood n f).sweepReport n f false)

/-- WET (R320). -/
def execWet (n : Nat) (w : RxBits) (s : State) : Out :=
  match s.latHeard n 3 w.bits w.sof with
  | none => .next s
  | some f => .next ((s.latGood n f).sweepReport n f true)

/-- One record of a census batch (R322). -/
def State.censusRecord (n latch num : Nat) (s : State) (p : Nat × Nat) : State :=
  let a := nodeAddr n p.1
  let hist := s.histDue a latch
  if p.2 / 0x80000000 % 2 = 1 then s.nodeWrite n p.1 p.2 num latch (p.2 / 0x10000 % 0x1000) false false hist
  else if bitAt (s.fiWord (fiNode a + 2)) 0 then s.nodeAbsent n p.1 num latch hist
  else s

/-- CENSUS_BATCH (R322). -/
def execCensusBatch (n : Nat) (w : RxBits) (s : State) : Out :=
  match s.latHeard n 8 w.bits w.sof with
  | none => .next s
  | some f =>
    let s1 := s.latGood n f
    let x := s1.trunk n
    match x.census with
    | none => .next (s1.latStray n)
    | some c =>
      let s2 := s1.setTrunk n { x with census := some { c with active := some s.dtb } }
      let first := f.arb % 32768
      .next ((List.range 16).foldl (fun s i =>
        State.censusRecord n c.latch x.censusNum s ((first + i) % 32768, payAt f (4 * i) 4)) s2)

/-- The junction table entry of a junction as two words (Table 9.8). -/
def jtKey (n j : Nat) : Nat := Reg.LAT_JT n (2 * j)

/-- JSTAT (R320): an END frame of the running census, or a PRESENT frame. -/
def execJstat (n : Nat) (w : RxBits) (s : State) : Out :=
  match s.latHeard n 4 w.bits w.sof with
  | none => .next s
  | some f =>
    let s1 := s.latGood n f
    let x := s1.trunk n
    let j := f.arb % 64
    let k := jtKey n j
    let stamp := w32 (s.dtb / 0x10000)
    if payAt f 0 1 = 1 then
      match x.census with
      | none => .next (s1.latStray n)
      | some c =>
        if payAt f 1 1 ≠ x.censusNum then .next (s1.latStray n)
        else
          let v := w32 (payAt f 1 1 + payAt f 2 1 * 0x100 + (payAt f 4 1 % 16 + 0x80) * 0x10000)
          let s2 := (s1.setReg k stamp).setReg (k + 4) v
          .next (s2.setTrunk n { x with
            census := some { c with active := some s.dtb, ends := j :: c.ends.filter fun i => i != j } })
    else if payAt f 0 1 = 2 then .next ((s1.setReg k stamp).setRegB (k + 4) 23 true)
    else .next s1

/-- REPLY (R317). -/
def execReply (n : Nat) (w : RxBits) (s : State) : Out :=
  match s.latHeard n 5 w.bits w.sof with
  | none => .next s
  | some f => .next (s.latGood n f)

/-- PRIVATE_RECEIVED (R285, R317). -/
def execPrivateReceived (n : Nat) (w : RxBits) (s : State) : Out :=
  match (s.latHears n w.bits w.sof).filter fun f => [6, 7, 9, 10, 11, 12, 13, 14, 15].contains (f.arb / 0x100000) with
  | none => .next s
  | some f => .next (s.latGood n f)

/-! ### The end of a census (R326) -/

/-- A node of a junction that missed twice: JMISS 1 and VALID 0. -/
def State.nodeJmiss (n : Nat) (s : State) (node : Nat) : State :=
  let k := fiNode (nodeAddr n node)
  let st := s.fiWord (k + 2)
  if !bitAt st 0 then s
  else
    let line := (List.range 16).map fun i => s.fiWord (k + i)
    s.writeLine k ((line.set 2 (setBit (setBit st 0 false) 5 true)).set 3 (s.fiWord (k + 3) + 1))

/-- A junction without END. -/
def State.junctionMiss (n : Nat) (s : State) (j : Nat) : State :=
  let k := jtKey n j + 4
  if s.regB k 21 then s
  else if s.regB k 22 then
    let s1 := (List.range 512).foldl (fun s i => State.nodeJmiss n s (512 * j + i)) (s.setRegB k 21 true)
    s1.emit Ev.LAT_JUNCTION_MISS 0 [w32 n, w32 j]
  else s.setRegB k 22 true

/-- CTL_TCENS once the first full census is complete on every enabled trunk (R520 step 14). -/
def State.censusDone (s : State) : State :=
  if (allTrunks.all fun n => !s.latEn n || (s.trunk n).fullDone) && s.reg Reg.CTL_TCENS == 0 then
    s.setReg Reg.CTL_TCENS (w32 (sat 0xFFFF ((s.dtb - s.ctl.relAt) / 1000000)))
  else s

/-- CENSUS_END (R325, R326): every END has arrived, or the bus has been idle for 1 ms after a census frame (`idle`), or
100 ms have passed with no census frame. -/
def execCensusEnd (n : Nat) (idle : Bool) (s : State) : Out :=
  let x := s.trunk n
  match x.census with
  | none => .next s
  | some c =>
    let range := (List.range 64).filter fun j => decide (c.first ≤ j) && decide (j ≤ c.last)
    let missing := range.filter fun j => !c.ends.contains j
    let quiet := match c.active with
      | some t => idle && decide (t + 1000000 ≤ s.dtb)
      | none => false
    if !(missing.isEmpty || quiet || decide (c.active.getD c.latch + 100000000 ≤ s.dtb)) then .next s
    else
      let s1 := missing.foldl (State.junctionMiss n) s
      let w := w32 (x.censusNum * 0x1000000 + missing.length * 0x10000 + sat 0xFFFF ((s.dtb - c.sof) / 1000000))
      let s2 := (s1.setReg (Reg.LAT_CENS n) w).setRegB (Reg.LAT_STAT n) 27 false
      let s3 := s2.setTrunk n { s2.trunk n with census := none, fullDone := x.fullDone || (c.first == 0 && c.last == 63) }
      .next (s3.censusDone.latPick n)

/-! ### Schedules (R325, R327) -/

/-- The first instant after `t` of the form k * per + off. -/
def nextInstant (t per off : Nat) : Nat := if t < off then off else (t - off) / per * per + per + off

/-- CPER, ns. -/
def State.cper (s : State) (n : Nat) : Nat := s.regF (Reg.LAT_CS n) 7 0 * 100000000

/-- CENSUS_DUE (R325). -/
def execCensusDue (n : Nat) (s : State) : Out :=
  let x := s.trunk n
  if 32 ≤ n ∨ !s.latRuns n ∨ s.cper n = 0 ∨ s.dtb < x.nextCensus then .next s
  else
    let next := nextInstant s.dtb (s.cper n) (n * 10000000)
    .next ((s.setTrunk n { x with nextCensus := next, censusDue := x.censusDue || !s.shed 1 }).latPick n)

/-- ALARM_SWEEP_DUE (R327). -/
def execAlarmSweepDue (n : Nat) (s : State) : Out :=
  let x := s.trunk n
  let per := s.regF (Reg.LAT_AS n) 31 24 * 10000000
  if 32 ≤ n ∨ !s.latRuns n ∨ per = 0 ∨ s.regF (Reg.LAT_AS n) 1 0 = 0 ∨ s.dtb < x.nextAlarm then .next s
  else .next ((s.setTrunk n { x with nextAlarm := nextInstant s.dtb per 0, alarmDue := true }).latPick n)

/-! ### Errors and bus-off (R298 to R301, R329) -/

/-- Three consecutive error-ended frames of class 2 or 3 with the same arbitration field and TB (R301). -/
def State.latCollide (s : State) (n : Nat) (head : Option (Nat × Nat)) : State :=
  let x := s.trunk n
  match head.filter fun h => h.1 / 0x100000 == 2 || h.1 / 0x100000 == 3 with
  | none => s.setTrunk n { x with collide := (0, 0, 0) }
  | some h =>
    let c := if x.collide.1 = h.1 ∧ x.collide.2.1 = h.2 then x.collide.2.2 + 1 else 1
    let s1 := s.setTrunk n { x with collide := (h.1, h.2, c) }
    if c = 3 then (s1.setRegB (Reg.LAT_STAT n) 3 true).emit Ev.LAT_KEY_COLLIDE 0 [w32 n, w32 (h.1 % 0x100000)] else s1

/-- TEC after further runs of dominant bits: a station that is bus-off counts no more (R300). -/
def tecRuns (tec : Nat) : Nat → Nat
  | 0 => tec
  | n + 1 => if 255 < tec then tec else tecRuns (tec + 8) n

/-- The counts after an error (Table 8.13). -/
def errCounts (lec : Nat) (tx dominant : Bool) (runs : Nat) (passive : Bool) (tec rec : Nat) : Nat × Nat :=
  if tx then (tecRuns (if lec = lecAck && passive && !dominant then tec else tec + 8) runs, rec)
  else (tec, rec + 1 + (if dominant then 8 else 0) + 8 * runs)

/-- An error that a trunk detects: whether as the transmitter, its LEC, and what the trunk has driven up to its flag. -/
structure LatFault where
  tx : Bool
  lec : Nat
  driven : List Bool
  deriving DecidableEq, Repr

/-- The error that a trunk detects in bits read (R298): as the transmitter of the frame selected until that loses arbitration, and as a
receiver else. -/
def State.latFault (s : State) (n : Nat) (e : LatError) : Option LatFault :=
  let heard : Option LatFault := match latRead e.bits 0 with
    | .error lec used ack => some ⟨false, lec, ackBits used (if s.latBlocked n then none else ack)⟩
    | _ => none
  match s.latSending n 0 with
  | none => heard
  | some f => match latSend f e.bits e.tdc with
    | .lost => heard
    | .error lec used => some ⟨true, lec, (frameBits f).take used⟩
    | .fine => none

/-- BUS_ERROR (R299, R300): the frame is void, the trunk sends its error flag, with no dominant bit while its transmitter is held off
(R303), and the counts change; a frame of its own goes back to its source. -/
def execBusError (n : Nat) (e : LatError) (s : State) : Out :=
  match if n < 32 ∧ !s.onSafe ∧ s.latRuns n ∧ !s.latOff n then s.latFault n e else none with
  | none => .next s
  | some x =>
    let c := errCounts x.lec x.tx e.dominant e.runs (s.latPassive n) (s.latTec n) (s.latRec n)
    let s1 := s.latLost n
    let s2 := if x.tx && x.lec == lecAck then s1.latAcked n false else s1
    let s3 := s2.latCollide n (latHead e.bits)
    let s4 := s3.setTrunk n { s3.trunk n with wire := x.driven ++ errorFlag (s.latPassive n || s.latBlocked n) e.after }
    let s5 := (s4.setRegF (Reg.LAT_ERR n) 31 28 x.lec).latCounts n c.1 c.2
    .next (if 255 < c.1 then s5.latBusOff n else s5)

/-- A write of RECOVER (R329). -/
def State.latRecover (s : State) (n : Nat) : State :=
  if s.latOff n && !s.regB (Reg.LAT_STAT n) 26 then
    (s.setRegB (Reg.LAT_STAT n) 26 true).setTrunk n { s.trunk n with recovAt := s.dtb }
  else s

/-- RECOVER (R329). -/
def execRecover (w : Who) (n : Nat) (s : State) : Out :=
  if 32 ≤ n then .next s else .next (s.access w (Reg.LAT_CMD n) fun s => s.latRecover n)

/-- The length of an arbitration-phase bit (Table 8.3), ns. -/
def arbBitNs (arate : Nat) : Nat := 8000 / 2 ^ arate

/-- LAT_BUSOFF_END (R329): after 128 runs of 11 recessive bits; a trunk reads none in a relock (Table 15.3). -/
def execLatBusoffEnd (n : Nat) (s : State) : Out :=
  let x := s.trunk n
  if decide (32 ≤ n) || s.onSafe || !s.latOff n || !s.regB (Reg.LAT_STAT n) 26 ||
      decide (s.dtb < x.recovAt + 1408 * arbBitNs (s.regF (Reg.LAT_BTA n) 31 30)) then .next s
  else
    let s1 := ((s.latCounts n 0 0).setRegB (Reg.LAT_STAT n) 26 false).setRegB Reg.LAT_BOFF n false
    .next ((s1.emit Ev.LAT_BUSOFF_END 0 [w32 n, w32 ((s.dtb - x.offAt) / 1000)]).latPick n)

/-- LAT_WIRE_FAULT (R303): the flag at bit `f` of LAT_STATn.  One that holds the transmitter off ends the frame in transmission. -/
def execLatWireFault (n f : Nat) (s : State) : Out :=
  if 32 ≤ n ∨ !s.latEn n ∨ f < 16 ∨ 22 < f then .next s
  else
    let s1 := s.latWire n f true
    .next (if s1.latBlocked n then s1.latLost n else s1)

/-- LAT_WIRE_OK (R303). -/
def execLatWireOk (n f : Nat) (s : State) : Out :=
  if 32 ≤ n ∨ f < 16 ∨ 22 < f then .next s else .next (s.latWire n f false)

/-! ### SWP transactions (R328, Table 9.7) -/

/-- Bits of a word outside a mask. -/
def otherBits (w : Word) (mask : Nat) : Bool := w &&& ~~~ w32 mask != 0

/-- The checks of a SWP descriptor: 0, or the result code it gives. -/
def State.swpFormat (s : State) (c : Nat) (x : Cell) (d : List Word) : Nat :=
  let a0 := descArg d 0
  let a1 := descArg d 1
  let a2 := descArg d 2
  let trunkOk := s.pageGranted c (0x40200000 + 0x1000 * fld a0 4 0)
  let none' := descLen d == 0 && descSrc d == 0 && descDst d == 0
  match descOpc d with
  | 1 =>
    let nmax := fld a1 24 16
    if !trunkOk then resAccess
    else if !none' || otherBits a0 0x11F || otherBits a1 0x1FFFFFF || nmax == 0 || decide (256 < nmax) || otherBits a2 0xFFFF ||
      fld a2 15 0 == 0 || descArg d 3 != 0 then resFormat else 0
  | 2 =>
    if !trunkOk then resAccess
    else if !none' || otherBits a0 0x3F3F1F || decide (fld a0 21 16 < fld a0 13 8) || !argsZero d 1 then resFormat else 0
  | 0x10 =>
    if !s.nodeGranted c (fld a0 19 0) || !x.inShared (descSrc d) 64 then resAccess
    else if descLen d ≠ 64 ∨ descDst d ≠ 0 ∨ descSrc d % 64 ≠ 0 ∨ otherBits a0 0xFFFFF ∨ !argsZero d 1 then resFormat else 0
  | _ => resFormat

/-- Whether a granted request of a trunk completes with ENGINE (R328). -/
def State.swpRefused (s : State) (n : Nat) (census : Bool) : Bool :=
  decide (4 ≤ (s.trunk n).reqs.length) || !s.latRuns n || s.latOff n || (census && s.shed 1)

/-- SWEEP (R328). -/
def execSweep (t : Nat) (s : State) : Out :=
  if !s.mayRun t 3 1 then .next s
  else
    let d := (s.tag t).desc
    let n := fld (descArg d 0) 4 0
    if s.swpRefused n false then .next (s.ranWith t 3)
    else
      let r := LatReq.sweep (bitAt (descArg d 0) 8) (fld (descArg d 1) 15 0) (fld (descArg d 1) 24 16) (fld (descArg d 2) 15 0) t
      let x := s.trunk n
      .next (((s.setTrunk n { x with reqs := x.reqs ++ [r] }).latPick n).ranWith t 0)

/-- CENSUS_REQUEST (R328). -/
def execCensusRequest (t : Nat) (s : State) : Out :=
  if !s.mayRun t 3 2 then .next s
  else
    let d := (s.tag t).desc
    let n := fld (descArg d 0) 4 0
    if s.swpRefused n true then .next (s.ranWith t 3)
    else
      let x := s.trunk n
      let r := LatReq.census (fld (descArg d 0) 13 8) (fld (descArg d 0) 21 16)
      .next (((s.setTrunk n { x with reqs := x.reqs ++ [r] }).latPick n).ranWith t 0)

/-- LINE (R328): line 3 of a node entry, written in one write; a line with an uncorrectable error is not written. -/
def execLine (t : TagReads) (s' : State) : Out :=
  if !s'.mayRun t.tag 3 0x10 then .next s'
  else
    let x := s'.tag t.tag
    let s := s'.sourceEcc x.cell (descSrc x.desc) 64 t.ecc
    let rs := (List.range 16).map fun i => s.dmaRead x.cell (descSrc x.desc + 4 * i)
    match rs.findIdx? fun r => r.2.2 with
    | some i => .next ((s.dmaUncorrectable x.cell (descSrc x.desc + 4 * i)).ranWith t.tag 2)
    | none => .next ((s.writeLine (fiNode (fld (descArg x.desc 0) 19 0) + 48) (rs.map fun r => r.1)).ranWith t.tag 0)

/-! ### Applies, tiers, steps of the DTB, reset -/

def latCommonPage : Nat := 0x40220000

/-- Every entry the controller owns returned CANCELLED with a reason. -/
def State.txCancelAll (s : State) (n reason : Nat) : State :=
  (List.range 16).foldl (fun s e => if s.txOwned n e then s.txReturn n e 3 reason 0 else s) s

/-- What an apply of a trunk page does beside the new values (R325, R331 to R333). -/
def State.latApplied (old s : State) (n : Nat) : State :=
  let s1 := if old.latEn n && !s.latEn n then
      let s' := ((s.txCancelAll n 2).latAbandon n).latUnschedule n
      let s'' := [16, 17, 18, 19, 20, 21, 22].foldl (fun s f => s.latWire n f false) s'
      let s''' := ((((s''.setRegF (Reg.LAT_STAT n) 31 30 0).setRegF (Reg.LAT_STAT n) 28 26 0).setReg (Reg.LAT_ERR n) 0).setRegB
        Reg.LAT_BOFF n false)
      s'''.setTrunk n { s'''.trunk n with sel := none, stepTx := false, due := false, noAck := 0, wire := [] }
    else if old.latLbk n != s.latLbk n then
      let s' := (s.txCancelAll n 3).latAbandon n
      let s'' := if s.latLbk n = 1 then s'.latUnschedule n else s'
      s''.setTrunk n { s''.trunk n with sel := none, stepTx := false }
    else s
  let x := s1.trunk n
  let s2 := if !old.latEn n && s1.latEn n then
      s1.setTrunk n { x with nextCensus := nextInstant s1.dtb 100000000 (n * 10000000), nextAlarm := 0 }
    else if (old.cper n != s1.cper n || (old.latLbk n == 1 && s1.latLbk n != 1)) && s1.cper n != 0 then
      s1.setTrunk n { x with nextCensus := nextInstant s1.dtb (s1.cper n) (n * 10000000) }
    else s1
  let per := s2.regF (Reg.LAT_AS n) 31 24 * 10000000
  let y := s2.trunk n
  ((if per = 0 then s2 else s2.setTrunk n { y with nextAlarm := nextInstant s2.dtb per 0 }).latPick n).storeReq 2

/-- T1 shed: no census falls due (R325). -/
def State.latShed (s : State) : State := s.setRegB Reg.LAT_GSTAT 31 true

/-- T1 restored: the next census falls due at the first instant of the schedule. -/
def State.latRestore (s : State) : State :=
  allTrunks.foldl (fun s n => if s.cper n = 0 then s
    else s.setTrunk n { s.trunk n with nextCensus := nextInstant s.dtb (s.cper n) (n * 10000000) })
    (s.setRegB Reg.LAT_GSTAT 31 false)

/-- The DTB has been stepped (R304): stamps no longer hold, the next frame carries STEP, and instants are those of the
new time. -/
def State.latStepped (s : State) : State :=
  allTrunks.foldl (fun s n =>
    let per := s.regF (Reg.LAT_AS n) 31 24 * 10000000
    s.setTrunk n { s.trunk n with
      stepped := true, sent := none, prevOk := false, stepTx := (s.trunk n).sel == some .time, nextTime := (s.dtb / 10000000 + 1) * 10000000,
      nextCensus := if s.cper n = 0 then 0 else nextInstant s.dtb (s.cper n) (n * 10000000),
      nextAlarm := if per = 0 then 0 else nextInstant s.dtb per 0 }) s

/-- The LAT block after a reset that includes it (R324, R325): the node region as R324 gives it. -/
def State.latStart (s : State) : State :=
  let s1 := { s with trunks := [], nodeHist := [], image := s.image.filter (fun e => decide (0x8000000 ≤ e.1)),
                     marked := s.marked.filter fun e => decide (0x800000 ≤ e.1) }
  let s2 := allTrunks.foldl (fun s n =>
    let per := s.regF (Reg.LAT_AS n) 31 24 * 10000000
    s.setTrunk n { Trunk.reset with
      nextTime := (s.dtb / 10000000 + 1) * 10000000, nextCensus := nextInstant s.dtb 100000000 (n * 10000000),
      nextAlarm := if per = 0 then 0 else nextInstant s.dtb per 0 }) s1
  s2.setRegB Reg.LAT_GSTAT 31 (s2.shed 1)

/-- The agreement rules of a trunk page (R280, R334): 0, or the lowest rule that fails. -/
def State.latAgree (s : State) (n : Nat) : Nat :=
  let bta := s.shadow (Reg.LAT_BTA n)
  let btd := s.shadow (Reg.LAT_BTD n)
  let asp := fld bta 28 24
  let asjw := fld bta 23 20
  let arate := fld bta 31 30
  let quanta := [125, 50, 25, 20].getD (fld btd 31 30) 125
  let lo := [75, 30, 15, 12].getD (fld btd 31 30) 75
  let hi := [112, 45, 22, 18].getD (fld btd 31 30) 112
  let dsp := fld btd 29 23
  let dsjw := fld btd 22 17
  let cs := s.shadow (Reg.LAT_CS n)
  let as := s.shadow (Reg.LAT_AS n)
  let cper := fld cs 7 0
  if asp < 15 ∨ 23 < asp ∨ asjw < 1 ∨ 8 < asjw ∨ 25 - asp < asjw then 1
  else if bitAt bta 29 ∧ (1 < arate ∨ asp < 17) then 2
  else if dsp < lo ∨ hi < dsp ∨ dsjw < 1 ∨ quanta - dsp < dsjw then 3
  else if fld (s.shadow (Reg.LAT_CFG n)) 29 28 = 3 then 5
  else if 1 ≤ cper ∧ cper ≤ 4 then 6
  else if fld cs 21 16 < fld cs 13 8 then 7
  else if fld as 31 24 ≠ 0 ∧ (fld as 1 0 = 0 ∨ fld as 23 16 = 0 ∨ fld as 31 24 * 10 ≤ fld as 23 16 + 1) then 8
  else 0

end Sys2Proof.Machine
end

