-- ==== Sys2Proof/Machine/Can.lean ====
section
/-! DEFINITION. The auxiliary CAN FD ports (R335 to R341 of 09_lathline_controller.md). -/
namespace Sys2Proof.Machine

def State.port (s : State) (n : Nat) : CanPort := mget CanPort.reset n s.ports
def State.setPort (s : State) (n : Nat) (x : CanPort) : State := { s with ports := mset CanPort.reset n x s.ports }

def canPage (n : Nat) : Nat := 0x40300000 + 0x1000 * n
def allPorts : List Nat := [0, 1, 2, 3]

def State.canEn (s : State) (n : Nat) : Bool := s.regB (Reg.CAN_CFG n) 31
def State.canFde (s : State) (n : Nat) : Bool := s.regB (Reg.CAN_CFG n) 30
def State.canSilent (s : State) (n : Nat) : Bool := s.regB (Reg.CAN_CFG n) 27
def State.canLbk (s : State) (n : Nat) : Nat := s.regF (Reg.CAN_CFG n) 26 25
def State.canOff (s : State) (n : Nat) : Bool := s.regF (Reg.CAN_STAT n) 31 30 == 2

/-- Whether the port owns a transmit buffer, and the words of a buffer. -/
def State.canOwned (s : State) (n b : Nat) : Bool := s.regB (Reg.CAN_TXST n) b
def State.canWord (s : State) (n b w : Nat) : Word := s.reg (Reg.CAN_TXB n b w)

/-- The order of frames in arbitration: the base identifier, then a base before an extended frame, then the rest of the
identifier. -/
def State.canArb (s : State) (n b : Nat) : Nat :=
  let w := s.canWord n b 0
  fld w 28 18 * 0x80000 + (bitAt w 29).toNat * 0x40000 + fld w 17 0

/-- Result codes of CAN_TXSTn. -/
def canDone : Nat := 1
def canCancelled : Nat := 2
def canFailed : Nat := 3
def canRejected : Nat := 4

/-- The result of a buffer set. -/
def State.canResult (s : State) (n b r : Nat) : State := s.setRegF (Reg.CAN_TXST n) (23 + 3 * b) (21 + 3 * b) r

/-- A buffer returned to firmware with its result (R314, R337). -/
def State.canReturn (s : State) (n b r : Nat) : State :=
  let s1 := ((s.canResult n b r).setRegB (Reg.CAN_TXST n) b false).setRegB (Reg.CAN_TXST n) (4 + b) true
  let x := s1.port n
  s1.setPort n { x with marked := x.marked.filter fun k => k != b }

/-- Whether a buffer may be sent as it stands: an FD frame only while FDE is set (Table 9.12); one that an apply of FDE 0 meets waits
(DESIGN CHOICE, log 107). -/
def State.canSendable (s : State) (n b : Nat) : Bool := s.canFde n || !bitAt (s.canWord n b 0) 30

/-- The requested buffer that would win arbitration, the lower number of equals (R337). -/
def State.canBest (s : State) (n : Nat) : Option Nat :=
  ([0, 1, 2].filter fun b => s.canOwned n b && !(s.port n).marked.contains b && s.canSendable n b).foldl (fun best b => match best with
    | none => some b
    | some c => if s.canArb n b < s.canArb n c then some b else some c) none

/-- The port selects at bus idle while nothing is in transmission (R337), and not before a page that applies there (Table 1.7). -/
def State.canPick (s : State) (n : Nat) : State :=
  let x := s.port n
  if x.sel.isSome || s.idleApply (canPage n) || s.onSafe || !s.canEn n || s.canOff n || s.canSilent n || s.regB (Reg.CAN_STAT n) 21 || s.regB (Reg.CAN_STAT n) 22 then s
  else s.setPort n { x with sel := s.canBest n, selAt := s.dtb }

/-- Whether a request is rejected (R337). -/
def State.canReject (s : State) (n b : Nat) : Bool :=
  let w := s.canWord n b 0
  (bitAt w 31 && !bitAt w 30) || (bitAt w 30 && !s.canFde n) || (!bitAt w 29 && fld w 17 0 != 0) || s.canSilent n

/-- One buffer of a request. -/
def State.canRequest1 (n : Nat) (s : State) (b : Nat) : State :=
  if s.canOwned n b then s
  else if s.canReject n b then s.canResult n b canRejected
  else (s.canResult n b 0).setRegB (Reg.CAN_TXST n) b true

/-- The REQ bits of a write to CAN_TXCMDn (R337). -/
def State.canRequest (s : State) (n : Nat) (v : Word) : State :=
  (([0, 1, 2].filter (bitAt v)).foldl (State.canRequest1 n) s).canPick n

/-- One buffer of a cancel (R315, R337). -/
def State.canCancel1 (n : Nat) (s : State) (b : Nat) : State :=
  if !s.canOwned n b then s
  else if (s.port n).sel = some b then
    let x := s.port n
    (s.setRegB (Reg.CAN_TXST n) (8 + b) true).setPort n { x with marked := b :: x.marked.filter fun k => k != b }
  else s.canReturn n b canCancelled

/-- The CANCEL bits of a write to CAN_TXCMDn. -/
def State.canCancel (s : State) (n : Nat) (v : Word) : State :=
  let bs := [0, 1, 2].filter fun b => bitAt v (4 + b)
  if bs.isEmpty then s else bs.foldl (State.canCancel1 n) (s.setRegF (Reg.CAN_TXST n) 10 8 0)

/-- A write to CAN_TXCMDn: its requests, then its cancels. -/
def State.canTxcmd (s : State) (n : Nat) (v : Word) : State := (s.canRequest n v).canCancel n v

/-- A write to a word of a transmit buffer: without effect while the port owns it (R312). -/
def State.canTxWrite (s : State) (n b w : Nat) (v : Word) : State :=
  if s.canOwned n b then s.setRegB (Reg.CAN_STAT n) 1 true else s.setReg (Reg.CAN_TXB n b w) v

/-- CAN_TX_REQUEST (R337). -/
def execCanTxRequest (w : Who) (n : Nat) (v : Word) (s : State) : Out :=
  if 4 ≤ n then .next s else .next (s.access w (Reg.CAN_TXCMD n) fun s => s.canRequest n v)

/-- CAN_TX_CANCEL (R337). -/
def execCanTxCancel (w : Who) (n : Nat) (v : Word) (s : State) : Out :=
  if 4 ≤ n then .next s else .next (s.access w (Reg.CAN_TXCMD n) fun s => s.canCancel n v)

/-! ### Reception (R338) -/

/-- The index of the lowest enabled filter that accepts a frame, 0xFF under RXALL. -/
def State.canFilter (s : State) (n : Nat) (f : CanFrame) : Option Nat :=
  if s.regB (Reg.CAN_CFG n) 24 then some 0xFF
  else (List.range 16).find? fun i =>
    s.regB (Reg.CAN_FID n i) 31 && s.regB (Reg.CAN_FID n i) 29 == f.ide &&
      (f.id ^^^ s.regF (Reg.CAN_FID n i) 28 0) &&& s.regF (Reg.CAN_FMSK n i) 28 0 == 0

/-- The length of a DLC, and the 20 words of a received frame. -/
def dlcLen (fdf : Bool) (dlc : Nat) : Nat :=
  if fdf then [0, 1, 2, 3, 4, 5, 6, 7, 8, 12, 16, 20, 24, 32, 48, 64].getD dlc 64 else min dlc 8

def canRxWords (f : CanFrame) (own : Bool) (filt : Nat) : List Word :=
  [w32 (f.brs.toNat * 0x80000000 + f.fdf.toNat * 0x40000000 + f.ide.toNat * 0x20000000 + f.id % 0x20000000),
   w32 (f.esi.toNat * 0x80000000 + own.toNat * 0x40000000 + filt * 0x10000 + f.dlc % 16)] ++ dtbWords f.sof ++
    packWords 16 (f.payload.take (dlcLen f.fdf f.dlc))

/-- An accepted frame goes to RXB, to the shadow, or in place of the shadow's frame. -/
def State.canAccept (s : State) (n : Nat) (f : CanFrame) (own : Bool) : State :=
  match s.canFilter n f with
  | none => s
  | some i =>
    let st := Reg.CAN_RXST n
    let ws := canRxWords f own i
    if !s.regB st 31 then (s.setRegs (Reg.CAN_RXB n 0) ws).setRegB st 31 true
    else
      let s1 := (s.setPort n { s.port n with shadow := ws }).setRegB st 30 true
      if !s.regB st 30 then s1
      else
        let s2 := s1.countReg st 15 0 0xFFFF 1
        if s2.regB st 29 then s2
        else (s2.setRegB st 29 true).emit Ev.CAN_RX_OVERRUN 0 [w32 n, w32 (s2.regF st 15 0)]

/-- A write of REL to CAN_RXRELn (R338). -/
def State.canRelease (s : State) (n : Nat) : State :=
  let st := Reg.CAN_RXST n
  if !s.regB st 31 then s
  else if s.regB st 30 then
    ((s.setRegs (Reg.CAN_RXB n 0) (s.port n).shadow).setRegB st 30 false).setPort n { s.port n with shadow := [] }
  else s.setRegB st 31 false

/-- CAN_RXREL (R338). -/
def execCanRxrel (w : Who) (n : Nat) (s : State) : Out :=
  if 4 ≤ n then .next s else .next (s.access w (Reg.CAN_RXREL n) fun s => s.canRelease n)

/-- The counts of a port, with ESTATE; bus-off is entered by its own row. -/
def State.canCounts (s : State) (n tec rec : Nat) : State :=
  let s1 := (s.setRegF (Reg.CAN_ERR n) 24 16 tec).setRegF (Reg.CAN_ERR n) 8 0 (sat 511 rec)
  s1.setRegF (Reg.CAN_STAT n) 31 30 (if 127 < tec ∨ 127 < rec then 1 else 0)

def State.canTec (s : State) (n : Nat) : Nat := s.regF (Reg.CAN_ERR n) 24 16
def State.canRec (s : State) (n : Nat) : Nat := s.regF (Reg.CAN_ERR n) 8 0

/-- An attempt that lost arbitration or ended in an error: a buffer marked by a cancel or with ONESHOT returns. -/
def State.canLost (s : State) (n : Nat) : State :=
  match (s.port n).sel with
  | none => s
  | some b =>
    let s1 := s.setPort n { s.port n with sel := none }
    if (s.port n).marked.contains b then s1.canReturn n b canCancelled
    else if bitAt (s.canWord n b 1) 8 then s1.canReturn n b canFailed
    else s1

/-- Another station's frame has ended: a buffer whose SOF met its SOF has lost to it; one requested during it is selected anew at the
intermission (R337), or returned where a CANCEL has named it (log 107). -/
def State.canYield (s : State) (n sof : Nat) : State :=
  if (s.port n).selAt ≤ sof then s.canLost n
  else
    let s1 := s.setPort n { s.port n with sel := none }
    match (s.port n).sel with
    | none => s1
    | some b => if (s.port n).marked.contains b then s1.canReturn n b canCancelled else s1

/-- A wiring flag, a bit of CAN_STATn, set or cleared (R336): recorded where it changes. -/
def State.canWire (s : State) (n f : Nat) (on : Bool) : State :=
  if s.regB (Reg.CAN_STAT n) f = on then s
  else ((s.setRegB (Reg.CAN_STAT n) f on).setRegB (Reg.CAN_STAT n) 2 true).emit
    (if on then Ev.CAN_WIRE_FAULT else Ev.CAN_WIRE_OK) 0 [w32 n, w32 f]

/-- A frame that ended at its ACK slot, acknowledged or not, as on a trunk (R303, R336). -/
def State.canAcked (s : State) (n : Nat) (acked : Bool) : State :=
  let x := s.port n
  if acked then
    let s1 := s.setPort n { x with noAck := 0 }
    if 16 ≤ x.noAck then s1.canWire n 19 false else s1
  else
    let s1 := s.setPort n { x with noAck := sat 16 (x.noAck + 1) }
    if x.noAck = 15 then s1.canWire n 19 true else s1

/-- CAN_FRAME_RECEIVED (R338): a remote frame is discarded and sets RTR; an FD frame is received while FDE is set. -/
def execCanFrameReceived (n : Nat) (f : CanFrame) (s : State) : Out :=
  if 4 ≤ n ∨ s.onSafe ∨ !s.canEn n ∨ s.canOff n ∨ s.canLbk n = 1 ∨ (f.fdf && !s.canFde n) then .next s
  else
    let s1 := (s.canYield n f.sof).canCounts n (s.canTec n) (recAfterGood (s.canRec n))
    .next ((if f.remote then s1.setRegB (Reg.CAN_STAT n) 4 true else s1.canAccept n f false).canPick n)

/-- The frame of a transmit buffer. -/
def State.canFrame (s : State) (n b sof : Nat) : CanFrame :=
  let w := s.canWord n b 0
  let dlc := fld (s.canWord n b 1) 3 0
  { brs := bitAt w 31, fdf := bitAt w 30, ide := bitAt w 29, id := fld w 28 0, esi := s.regF (Reg.CAN_STAT n) 31 30 == 1,
    remote := false, dlc := dlc, payload := s.regBytes (Reg.CAN_TXB n b 2) (dlcLen (bitAt w 30) dlc), sof := sof }

/-- CAN_FRAME_SENT (R337): the frame in transmission ends without error and its buffer returns DONE. -/
def execCanFrameSent (n sof : Nat) (s : State) : Out :=
  match (s.port n).sel with
  | none => .next s
  | some b =>
    let f := s.canFrame n b sof
    let s1 := (s.setPort n { s.port n with sel := none }).canReturn n b canDone
    let s2 := (if s.canLbk n = 1 then s1 else s1.canAcked n true).canCounts n (s.canTec n - 1) (s.canRec n)
    .next ((if s.canLbk n = 0 then s2 else s2.canAccept n f true).canPick n)

/-- Whether a port meets an error: it is stopped in a relock (Table 15.3), reads only itself under LBK 0b01 (R339), and is no
transmitter while it sends nothing. -/
def State.canErrs (s : State) (n : Nat) (tx : Bool) : Bool :=
  decide (n < 4) && !s.onSafe && s.canEn n && !s.canOff n && decide (s.canTec n ≤ 255) && s.canLbk n != 1 &&
    (!tx || ((s.port n).sel.isSome && !s.canSilent n))

/-- CAN_PORT_ERROR (R335): the counts change as in Table 8.13, until the TEC takes the port to bus-off. -/
def execCanPortError (n : Nat) (e : PortError) (s : State) : Out :=
  if !s.canErrs n e.tx then .next s
  else
    let c := errCounts e.lec e.tx e.dominant e.runs (s.regF (Reg.CAN_STAT n) 31 30 == 1) (s.canTec n) (s.canRec n)
    let s1 := if e.tx then s.canLost n else s.canYield n e.sof
    let s2 := if e.tx && e.lec == lecAck then s1.canAcked n false else s1
    let s3 := (s2.setRegF (Reg.CAN_ERR n) 31 28 e.lec).canCounts n c.1 c.2
    .next (if 255 < c.1 then s3 else s3.canPick n)

/-- CAN_BUSOFF (R340): a TEC above 255 takes the port to bus-off; requested buffers stay requested. -/
def execCanBusoff (n : Nat) (s : State) : Out :=
  if 4 ≤ n ∨ s.canTec n ≤ 255 ∨ s.canOff n then .next s
  else
    let auto := s.regB (Reg.CAN_CFG n) 28
    let s1 := ((s.setRegF (Reg.CAN_STAT n) 31 30 2).setRegB (Reg.CAN_STAT n) 3 true).setRegB (Reg.CAN_STAT n) 29 auto
    let s2 := s1.setPort n { s1.port n with sel := none, offAt := s.dtb, recovAt := s.dtb }
    .next (s2.emit Ev.CAN_BUSOFF 0 [w32 n, w32 (s.canTec n), w32 (s.canRec n)])

/-- A write of RECOVER (R340). -/
def State.canRecover (s : State) (n : Nat) : State :=
  if s.canOff n && !s.regB (Reg.CAN_STAT n) 29 then
    (s.setRegB (Reg.CAN_STAT n) 29 true).setPort n { s.port n with recovAt := s.dtb }
  else s

/-- CAN_RECOVER (R340). -/
def execCanRecover (w : Who) (n : Nat) (s : State) : Out :=
  if 4 ≤ n then .next s else .next (s.access w (Reg.CAN_CMD n) fun s => s.canRecover n)

/-- The nominal bit time of a port (R336), ns, from its NBT word; the data bit from its DBT word. -/
def nominalNs (w : Word) : Nat := (1 + (fld w 26 19 + 1) + (fld w 18 12 + 1)) * (fld w 31 27 + 1) * 8
def dataNs (w : Word) : Nat := (1 + (fld w 28 24 + 1) + (fld w 23 20 + 1)) * (fld w 31 29 + 1) * 8

/-- CAN_BUSOFF_END (R340): after 128 runs of 11 recessive bits. -/
def execCanBusoffEnd (n : Nat) (s : State) : Out :=
  let x := s.port n
  if decide (4 ≤ n) || s.onSafe || !s.canOff n || !s.regB (Reg.CAN_STAT n) 29 || decide (s.dtb < x.recovAt + 1408 * nominalNs (s.reg (Reg.CAN_NBT n))) then
    .next s
  else
    let s1 := (s.canCounts n 0 0).setRegB (Reg.CAN_STAT n) 29 false
    .next ((s1.emit Ev.CAN_BUSOFF_END 0 [w32 n, w32 ((s.dtb - x.offAt) / 1000)]).canPick n)

/-- CAN_WIRE_FAULT (R336): the flag at bit `f` of CAN_STATn. -/
def execCanWireFault (n f : Nat) (s : State) : Out :=
  if 4 ≤ n ∨ !s.canEn n ∨ f < 16 ∨ 22 < f then .next s else .next (s.canWire n f true)

/-- CAN_WIRE_OK (R336). -/
def execCanWireOk (n f : Nat) (s : State) : Out :=
  if 4 ≤ n ∨ f < 16 ∨ 22 < f ∨ !s.regB (Reg.CAN_STAT n) f then .next s else .next ((s.canWire n f false).canPick n)

/-- What an apply of a port page does beside the new values (R314, R333, R341): a port disabled, or whose LBK changes, returns
every requested buffer CANCELLED. -/
def State.canApplied (old s : State) (n : Nat) : State :=
  let s1 := if (old.canEn n && !s.canEn n) || old.canLbk n != s.canLbk n then
      let s' := [0, 1, 2].foldl (fun s b => if s.canOwned n b then s.canReturn n b canCancelled else s) s
      let s'' := s'.setPort n { s'.port n with sel := none }
      if s.canEn n then s''
      else
        let s3 := [16, 17, 18, 19, 20, 21, 22].foldl (fun s f => s.canWire n f false) s''
        ((s3.setPort n { s3.port n with noAck := 0 }).setRegF (Reg.CAN_STAT n) 31 29 0).setReg (Reg.CAN_ERR n) 0
    else s
  (s1.canPick n).storeReq 2

/-- The ports after a reset that includes CAN. -/
def State.canStart (s : State) : State := { s with ports := [] }

/-- The agreement rules of a port page (R341): 0, or the lowest rule that fails. -/
def State.canAgree (s : State) (n : Nat) : Nat :=
  let cfg := s.shadow (Reg.CAN_CFG n)
  let nbt := s.shadow (Reg.CAN_NBT n)
  let dbt := s.shadow (Reg.CAN_DBT n)
  if fld cfg 26 25 = 3 then 1
  else if nominalNs nbt < 1000 ∨ 8000 < nominalNs nbt ∨ fld nbt 18 12 < fld nbt 11 5 then 2
  else if bitAt cfg 30 ∧ (dataNs dbt < 200 ∨ nominalNs nbt < dataNs dbt ∨ fld dbt 23 20 < fld dbt 19 16) then 3
  else if (List.range 16).any fun i =>
      let w := s.shadow (Reg.CAN_FID n i)
      bitAt w 31 && !bitAt w 29 && fld w 17 0 != 0 then 4
  else 0

end Sys2Proof.Machine
end

