-- ==== Sys2Proof/Machine/Elementary.lean ====
section
/-! DEFINITION. exp, ln and pow of FP32 values (R254 of 07_column_model.md): each delivers some value within 2 units in the last
place of the real one, and which of them is open (log 40). -/
namespace Sys2Proof.Machine

/-- The scale of fixed-point values, and ln 2 at it. -/
def fixOne : Int := 2 ^ 200
def fixLn2 : Int := 1113844574712631719546256151097547306333272293549090750737802

/-- The terms of the exponential series from the `n`-th on, `t` the `n`-th term. -/
def expTerms (x : Int) : Nat → Nat → Int → Int
  | 0, _, _ => 0
  | f + 1, n, t => t + expTerms x f (n + 1) (t * x / fixOne / ((n + 1 : Nat) : Int))

/-- e^x as `m * 2^e`, for `x` at `fixOne`; within 2^-190 of it. -/
def fixExp (x : Int) : Nat × Int :=
  let n := x / fixLn2
  ((expTerms (x - n * fixLn2) 60 0 fixOne).toNat, n - 200)

/-- The terms of the series of the area tangent from `z^(2k+1)/(2k+1)` on, `p` the power at `fixOne`. -/
def atanhTerms (z2 : Int) : Nat → Nat → Int → Int
  | 0, _, _ => 0
  | f + 1, k, p => p / ((2 * k + 1 : Nat) : Int) + atanhTerms z2 f (k + 1) (p * z2 / fixOne)

/-- ln (m * 2^e) at `fixOne`, for `m` above 0; within 2^-190 of it. -/
def fixLn (m : Nat) (e : Int) : Int :=
  let b := Nat.log2 m
  let t : Int := if b ≤ 200 then (m : Int) * 2 ^ (200 - b) else (m : Int) / 2 ^ (b - 200)
  let z := (t - fixOne) * fixOne / (t + fixOne)
  2 * atanhTerms (z * z / fixOne) 70 0 z + (e + (b : Int)) * fixLn2

/-- A value within 2 units in the last place of the magnitude `m * 2^e`: the 24 leading bits, and a step chosen by `c` of one unit down
to two units up (R254); an overflow is an infinity and a tiny value a zero (R75). -/
def nearWord (neg : Bool) (m : Nat) (e : Int) (c : Nat) : Word :=
  if m = 0 then fpZero
  else
    let b := Nat.log2 m
    let q := if b ≤ 23 then m * 2 ^ (23 - b) else m / 2 ^ (b - 23)
    fpVal (fpDeliver neg (q + c % 4 - 1) (e + (b : Int) - 23) false)

/-- exp (R254). -/
def expF (x : Word) : Word :=
  match fpRead x with
  | .nan _ => fpNaN
  | .inf neg => if neg then fpZero else fpInf
  | .zero _ => nearWord false 1 0 (Config.ulpOf 0 x 0)
  | .fin _ _ _ =>
    let y := fixExp (fpExact x * 2 ^ 51)
    nearWord false y.1 y.2 (Config.ulpOf 0 x 0)

/-- ln (R254); of 0 minus infinity, of a negative value NaN. -/
def lnF (x : Word) : Word :=
  match fpRead x with
  | .nan _ => fpNaN
  | .inf neg => if neg then fpNaN else fpInf
  | .zero _ => fpNegInf
  | .fin neg m e =>
    if neg then fpNaN
    else
      let y := fixLn m e
      nearWord (decide (y < 0)) y.natAbs (-200) (Config.ulpOf 1 x 0)

/-- pow (R254): 0 of a base of 0, the exponential of y ln x of a positive one. -/
def powF (x y : Word) : Word :=
  match fpRead x, fpRead y with
  | .nan _, _ => fpNaN
  | _, .nan _ => fpNaN
  | .zero _, _ => fpZero
  | .fin false m e, .fin _ _ _ =>
    let p := fixExp (fixLn m e * fpExact y / fpScale)
    nearWord false p.1 p.2 (Config.ulpOf 2 x y)
  | .fin false _ _, .zero _ => nearWord false 1 0 (Config.ulpOf 2 x y)
  | _, _ => Config.powNegative x y

end Sys2Proof.Machine
end

