-- ==== Sys2Proof/Machine/Flags.lean ====
section
/-! DEFINITION. The flag computations of the integer and FP32 instructions (Table 2.2, R61, R73 to R77 of
02_mbarov_isa.md). -/
namespace Sys2Proof.Machine

/-- FLG bit numbers (Table 2.2). -/
def flagZ : Nat := 0
def flagN : Nat := 1
def flagC : Nat := 2
def flagV : Nat := 3
def flagSAT : Nat := 10
def flagFRZ : Nat := 11
def flagSEL : Nat := 12
def flagEXT : Nat := 13
def flagSTL : Nat := 14
def flagPLF : Nat := 15

/-- A loop with one flag set or cleared. -/
def Loop.setFlag (L : Loop) (i : Nat) (b : Bool) : Loop := { L with flg := setBit L.flg i b }

/-- Z and N from an integer result: Z where it is 0, N its bit 31 (R74). -/
def Loop.setZN (L : Loop) (r : Word) : Loop := (L.setFlag flagZ (r == 0)).setFlag flagN (bitAt r 31)

/-- The sticky flags of an FP32 computation added to FLG (R61). -/
def Loop.stick (L : Loop) (fl : Nat) : Loop := { L with flg := L.flg ||| w32 fl }

/-- An integer result: written to gd, with Z and N. -/
def Loop.intRes (L : Loop) (d : Reg) (r : Word) : Loop := (L.wg d r).setZN r

/-- Signed overflow of a sum: the exact value is not that of the word. -/
def addOverflow (a b : Word) : Bool := a.toInt + b.toInt != (a + b).toInt

/-- Signed overflow of a difference. -/
def subOverflow (a b : Word) : Bool := a.toInt - b.toInt != (a - b).toInt

/-- ADD and ADDI: the sum with Z, N, C (carry out) and V (R73, Table 2.2). -/
def Loop.addRes (L : Loop) (d : Reg) (a b : Word) : Loop :=
  ((L.intRes d (a + b)).setFlag flagC (decide (0x100000000 ≤ a.toNat + b.toNat))).setFlag flagV (addOverflow a b)

/-- SUB: the difference with Z, N, C (no borrow) and V (R73, Table 2.2). -/
def Loop.subRes (L : Loop) (d : Reg) (a b : Word) : Loop :=
  ((L.intRes d (a - b)).setFlag flagC (decide (b.toNat ≤ a.toNat))).setFlag flagV (subOverflow a b)

/-- The overflowing quotient of R74: 0x8000_0000 by 0xFFFF_FFFF. -/
def divOverflow (a b : Word) : Bool := a == 0x80000000 && b == 0xFFFFFFFF

/-- Quotients and remainders (R74), each with V. -/
def divS (a b : Word) : Word × Bool :=
  if b = 0 then (0, true) else if divOverflow a b then (0x80000000, true) else (wOfInt (a.toInt.tdiv b.toInt), false)
def divU (a b : Word) : Word × Bool := if b = 0 then (0, true) else (w32 (a.toNat / b.toNat), false)
def remS (a b : Word) : Word × Bool :=
  if b = 0 then (a, true) else if divOverflow a b then (0, true) else (wOfInt (a.toInt.tmod b.toInt), false)
def remU (a b : Word) : Word × Bool := if b = 0 then (a, true) else (w32 (a.toNat % b.toNat), false)

/-- The result of a division instruction, with Z, N and V. -/
def Loop.divRes (L : Loop) (d : Reg) (r : Word × Bool) : Loop := (L.intRes d r.1).setFlag flagV r.2

/-- An FP32 result: written to gd, its sticky flags added (R61, R75). -/
def Loop.fpRes (L : Loop) (d : Reg) (m : FpM Word) : Loop := (L.wg d (fpRun m).1).stick (fpRun m).2

/-- FCMP: Z, N and V from the order of the operands, and NV on a signalling NaN (R77). -/
def Loop.cmpRes (L : Loop) (m : FpM FpOrd) : Loop :=
  let o := (fpRun m).1
  (((L.setFlag flagZ (o == .eq)).setFlag flagN (o == .lt)).setFlag flagV (o == .unordered)).stick (fpRun m).2

/-- A sign-extended and a zero-extended immediate (R68). -/
def sxImm (imm : BitVec 15) : Word := imm.signExtend 32
def zxImm (imm : BitVec 15) : Word := imm.setWidth 32

end Sys2Proof.Machine
end

