-- ==== Sys2Proof/Machine/Control.lean ====
section
/-! DEFINITION. Branches, jumps and the system instructions (R82 to R84 and Tables 2.10, 2.11, 2.3 of
02_mbarov_isa.md), with WAIT (R99), its retirement, the illegal-instruction and deadline traps. -/
namespace Sys2Proof.Machine

/-- The target of a branch or jump by an offset in words (R68). -/
def Loop.target (L : Loop) (off : Int) : Nat := (((L.pc : Int) + 4 * off) % 0x100000000).toNat

/-- A taken branch or jump, with a link register: a target outside the code segment raises the access trap with SUB 1,
a misaligned one the alignment trap; gd is not written where it traps (R83). -/
def State.jump (s : State) (l : Nat) (target : Nat) (link : Option Reg) : InstrRes :=
  let L := s.loop l
  if L.codeSize ≤ target then .error ⟨trapAccess, 1, target⟩
  else if target % 4 ≠ 0 then .error ⟨trapAlign, 0, target⟩
  else
    let L1 := match link with
      | none => L
      | some d => L.wg d (w32 (L.pc + 4))
    .ok (s.setLoop l { L1 with pc := target })

/-- A branch: taken at 2 cycles, else 1 cycle and nothing checked (R82, R83). -/
def State.branch (s : State) (l : Nat) (word : Word) (off : BitVec 15) (cond : Loop → Bool) : State :=
  let L := s.loop l
  let taken := cond L
  s.runInstr l word (if taken then 2 else 1) fun s =>
    if taken then s.jump l (L.target off.toInt) none else .ok (s.stepLoop l id)

/-- BEQ: branch where ga equals gb. -/
def execBeq (l : Nat) (a b : Reg) (off : BitVec 15) (s : State) : Out :=
  .next (s.branch l (encodeInstr (.beq l a b off)) off fun L => L.rg a == L.rg b)

/-- BNE: branch where ga differs from gb. -/
def execBne (l : Nat) (a b : Reg) (off : BitVec 15) (s : State) : Out :=
  .next (s.branch l (encodeInstr (.bne l a b off)) off fun L => L.rg a != L.rg b)

/-- BLT: branch where ga is less than gb, signed. -/
def execBlt (l : Nat) (a b : Reg) (off : BitVec 15) (s : State) : Out :=
  .next (s.branch l (encodeInstr (.blt l a b off)) off fun L => (L.rg a).slt (L.rg b))

/-- BGE: branch where ga is at least gb, signed. -/
def execBge (l : Nat) (a b : Reg) (off : BitVec 15) (s : State) : Out :=
  .next (s.branch l (encodeInstr (.bge l a b off)) off fun L => !(L.rg a).slt (L.rg b))

/-- BLTU: branch where ga is less than gb, unsigned. -/
def execBltu (l : Nat) (a b : Reg) (off : BitVec 15) (s : State) : Out :=
  .next (s.branch l (encodeInstr (.bltu l a b off)) off fun L => (L.rg a).ult (L.rg b))

/-- BGEU: branch where ga is at least gb, unsigned. -/
def execBgeu (l : Nat) (a b : Reg) (off : BitVec 15) (s : State) : Out :=
  .next (s.branch l (encodeInstr (.bgeu l a b off)) off fun L => !(L.rg a).ult (L.rg b))

/-- BFS: branch where FLG bit n is set. -/
def execBfs (l : Nat) (n : BitVec 5) (off : BitVec 15) (s : State) : Out :=
  .next (s.branch l (encodeInstr (.bfs l n off)) off fun L => bitAt L.flg n.toNat)

/-- BFC: branch where FLG bit n is clear. -/
def execBfc (l : Nat) (n : BitVec 5) (off : BitVec 15) (s : State) : Out :=
  .next (s.branch l (encodeInstr (.bfc l n off)) off fun L => !bitAt L.flg n.toNat)

/-- JAL: jump relative and link. -/
def execJal (l : Nat) (d : Reg) (off : BitVec 20) (s : State) : Out :=
  .next (s.runInstr l (encodeInstr (.jal l d off)) 2 fun s => s.jump l ((s.loop l).target off.toInt) (some d))

/-- JALR: jump to ga + sext(imm15) and link. -/
def execJalr (l : Nat) (d a : Reg) (imm : BitVec 15) (s : State) : Out :=
  .next (s.runInstr l (encodeInstr (.jalr l d a imm)) 2 fun s =>
    s.jump l ((s.loop l).rg a + sxImm imm).toNat (some d))

/-- NOP. -/
def execNop (l : Nat) (s : State) : Out := .next (s.compute l (encodeInstr (.nop l)) 1 id)

/-- TRAP n: the user trap with SUB n. -/
def execTrap (l : Nat) (n : BitVec 5) (s : State) : Out :=
  .next (s.runInstr l (encodeInstr (.trap l n)) 1 fun _ => .error ⟨trapUser, n.toNat, 0⟩)

/-- The value of a selector of Table 2.3; none where it is reserved. -/
def State.selector (s : State) (l : Nat) (L : Loop) (sel : Nat) : Option Word :=
  match sel with
  | 0 => some (w32 L.pc)
  | 1 => some L.flg
  | 2 => some (w32 L.per)
  | 3 => some (w32 (L.cell % 1024))
  | 4 => some (w32 ((s.cell L.cell).inc % 0x10000))
  | 8 => some L.ts
  | 9 => some (w32 L.start)
  | 10 => some (w32 (L.start / 0x100000000))
  | 11 => some (w32 s.dtb)
  | 12 => some L.nowh
  | 13 => some (w32 l)
  | _ => none

/-- MFS: gd takes the value of the selector; NOWL latches the upper half for NOWH (Table 2.3). -/
def execMfs (l : Nat) (d : Reg) (sel : BitVec 5) (s : State) : Out :=
  let n := sel.toNat
  .next (s.runInstr l (encodeInstr (.mfs l d sel)) (if n = 11 ∨ n = 12 then 6 else 1) fun s =>
    match s.selector l (s.loop l) n with
    | none => .error ⟨trapIllegal, 0, 0⟩
    | some v => .ok (s.stepLoop l fun L =>
        let L1 := L.wg d v
        if n = 11 then { L1 with nowh := w32 (s.dtb / 0x100000000) } else L1))

/-- MTF: FLG = ga & 0x0000_FFEF. -/
def execMtf (l : Nat) (a : Reg) (s : State) : Out :=
  .next (s.compute l (encodeInstr (.mtf l a)) 1 fun L => { L with flg := L.rg a &&& 0x0000FFEF })

/-- ILLEGAL_INSTRUCTION: a word the decoder rejects raises the illegal-instruction trap (R69). -/
def execIllegalInstruction (l : Nat) (word : Word) (s : State) : Out :=
  if (decodeMbarov l word).isSome then .next s
  else .next (s.runInstr l word 1 fun _ => .error ⟨trapIllegal, 0, 0⟩)

/-- DEADLINE_TRAP (R102, R151): at an instruction boundary, or while a WAIT has not retired. -/
def execDeadlineTrap (l : Nat) (s : State) : Out :=
  if s.overdue (s.loop l) then .next (s.takeDeadline l) else .next s

/-! ### WAIT -/

/-- The checkpoint a WAIT writes (R99): g0 to g31, the PC after the WAIT, FLG, PER and the data segment. -/
def Loop.checkpoint (L : Loop) (d : Reg) : Ckpt :=
  { g := L.g, pc := L.pc + 4, flg := L.flg, per := L.per, data := L.data, gd := d.toNat, start := L.start,
    initial := false }

/-- The checkpoint buffer not in force written (R160). -/
def Loop.writeCkpt (L : Loop) (c : Ckpt) : Loop := if L.useB then { L with ckptA := c } else { L with ckptB := c }

/-- WAIT: the period's work ends; the pair writes the checkpoint into the buffer not in force (R99, R160).  It counts
1 + 48 + D/32 cycles. -/
def execWait (l : Nat) (d : Reg) (s : State) : Out :=
  let L := s.loop l
  .next (s.runInstr l (encodeInstr (.wait l d)) (49 + L.decl.dsize / 32) fun s =>
    let L := s.loop l
    .ok (s.setLoop l { L.writeCkpt (L.checkpoint d) with waiting := some d.toNat }))

/-- The stores of a loop that no memory has accepted, in program order (R67): those left in the queues of pairs it ran on before,
then those of its pair. -/
def State.postedBy (s : State) (l : Nat) : List Posted :=
  let L := s.loop l
  (allPairs.filter (fun p => p != L.pair) ++ [L.pair]).flatMap fun p =>
    (s.pair p).queue.filter fun x => x.loop == l && x.cell == L.cell

/-- Whether a loop still has posted stores (R67, R99). -/
def State.storesPosted (s : State) (l : Nat) : Bool := !(s.postedBy l).isEmpty

/-- A WAIT retires: the buffer just written comes into force, the period ends, and its trapped-period count is reset
(R99, R160, R166). -/
def State.retireWait (s : State) (l : Nat) : State :=
  let L := s.loop l
  let L1 := { L with useB := !L.useB, waiting := none, inPeriod := false, outs := [], consec := 0,
                     maxCycles := sat 0xFFFFFFFF (max L.maxCycles L.cycles) }
  ((s.setLoop l L1).leavePair l L).periodEnd l

/-- WAIT_RETIRE: once every store is accepted (R99); where the deadline has passed the WAIT is abandoned (R102). -/
def execWaitRetire (l : Nat) (s : State) : Out :=
  let L := s.loop l
  if !L.inPeriod || L.waiting.isNone then .next s
  else if s.overdue L then .next (s.takeDeadline l)
  else if s.storesPosted l then .next s
  else .next (s.retireWait l)

end Sys2Proof.Machine
end

