-- ==== Sys2Proof/Machine/Law.lean ====
section
/-! DEFINITION. The law instructions on a loop's data segment: PIDS, MINS, INTF, SCHED, SLEW, CLMP, PLAUS (R85 to R90 of
02_mbarov_isa.md; R107 to R130 of 03_control_laws.md).  Each assignment of the spec's pseudocode is one FP32 operation,
in the order written (R107). -/
namespace Sys2Proof.Machine

/-! ### The data segment and block checks -/

/-- Where the data segment starts in the loop's view (R64). -/
def dataBase : Nat := 0x10000

/-- Whether `size` bytes at an address lie wholly in the loop's data segment. -/
def Loop.inData (L : Loop) (a size : Nat) : Bool :=
  decide (dataBase ≤ a) && decide (a + size ≤ dataBase + L.decl.dsize)

/-- A word of the data segment at an address of the loop's view. -/
def Loop.dw (L : Loop) (a : Nat) : Word := memWord L.data (a - dataBase)

/-- A word of the data segment written. -/
def Loop.setDw (L : Loop) (a : Nat) (w : Word) : Loop := { L with data := memSetWord L.data (a - dataBase) w }

/-- The checks of blocks `(address, size, alignment)` (R85, R86): a block outside the data segment raises the access trap
with SUB 8, and one inside it but misaligned the alignment trap; the lower trap code is taken first (R103). -/
def Loop.checkBlocks (L : Loop) (bs : List (Nat × Nat × Nat)) : Option Trap :=
  match bs.find? fun b => !L.inData b.1 b.2.1 with
  | some b => some ⟨trapAccess, 8, b.1⟩
  | none => match bs.find? fun b => b.1 % b.2.2 != 0 with
    | some b => some ⟨trapAlign, 0, b.1⟩
    | none => none

/-- A law instruction on the loop alone: it raises its trap, or completes in full (R85). -/
def State.law (s : State) (l : Nat) (word : Word) (cycles : Nat) (f : Loop → Except Trap Loop) : State :=
  s.runInstr l word cycles fun s => match f (s.loop l) with
    | .error t => .error t
    | .ok L => .ok (s.stepLoop l fun _ => L)

/-- Words written at consecutive word addresses of the data segment. -/
def Loop.setDws (L : Loop) : Nat → List Word → Loop
  | _, [] => L
  | a, w :: t => (L.setDw a w).setDws (a + 4) t

/-! ### Clamping (R89) -/

/-- CLMP's limits (R88, R89): min(max(ga, gb), gc) with the cases of R89, and whether it was limited.  NaNs come out as the canonical
NaN and subnormals as zeros (R75). -/
def fclamp (x lo hi : Word) : FpM (Word × Bool) := do
  if (fpRead x).isSignalling || (fpRead lo).isSignalling || (fpRead hi).isSignalling then raise flNV
  let low := if fpIsNaN lo then fpNaN else fpFlush lo
  if fpIsNaN x then do raise flNV; pure (low, true)
  else if fpGt lo hi then pure (low, true)
  else do
    let m ← fmax x lo
    let r ← fmin m hi
    pure (r, fpLt x lo || fpGt x hi)

/-- CLMP (R89). -/
def execClmp (l : Nat) (d a b c : Reg) (s : State) : Out :=
  .next (s.compute l (encodeInstr (.clmp l d a b c)) 2 fun L =>
    let r := fpRun (fclamp (L.rg a) (L.rg b) (L.rg c))
    ((L.wg d r.1.1).setFlag flagSAT r.1.2).stick r.2)

/-! ### PIDS -/

/-- The PID block (Table 3.1). -/
structure PidBlk where
  kp : Word
  ki : Word
  kd : Word
  af : Word
  umin : Word
  umax : Word
  i : Word
  df : Word
  xp : Word
  up : Word
  tr : Word
  rcq : Word
  st : Word
  deriving DecidableEq, Repr

def Loop.readPid (L : Loop) (a : Nat) : PidBlk :=
  ⟨L.dw a, L.dw (a + 4), L.dw (a + 8), L.dw (a + 12), L.dw (a + 16), L.dw (a + 20), L.dw (a + 24), L.dw (a + 28),
   L.dw (a + 32), L.dw (a + 36), L.dw (a + 40), L.dw (a + 44), L.dw (a + 48)⟩

/-- PIDS writes I, DF, XP, UP, RCQ and ST (R109). -/
def Loop.writePid (L : Loop) (a : Nat) (b : PidBlk) : Loop :=
  ((((((L.setDw (a + 24) b.i).setDw (a + 28) b.df).setDw (a + 32) b.xp).setDw (a + 36) b.up).setDw (a + 44) b.rcq).setDw
    (a + 48) b.st)

/-- ST of a PID block (Table 3.2); bits [31:9] are written 0 (R110). -/
def pidSt (ini sath satl frz trk nsel nan bump bad : Bool) : Word :=
  w32 (ini.toNat + 2 * sath.toNat + 4 * satl.toNat + 8 * frz.toNat + 16 * trk.toNat + 32 * nsel.toNat + 64 * nan.toNat +
    128 * bump.toNat + 256 * bad.toNat)

/-- Values out of range in a PID block (Table 3.10). -/
def PidBlk.outOfRange (b : PidBlk) : Bool :=
  !([b.kp, b.ki, b.kd, b.af, b.umin, b.umax, b.i, b.df, b.xp, b.up].all fpIsFinite) || fpLt b.af fpZero ||
    fpGe b.af fpOne || fpGt b.umin b.umax

/-- What a PID step gives: the block, the output, FLG.SAT and FLG.FRZ. -/
structure PidRes where
  blk : PidBlk
  u : Word
  sat : Bool
  frz : Bool
  deriving DecidableEq, Repr

/-- The derivative part of a step (R111): the block with DF and XP as the step leaves them. -/
def pidDerivative (b : PidBlk) (y e h : Word) (der : Nat) (init resumed : Bool) : FpM PidBlk := do
  let xd := if der = 0 then y else e
  let df ←
    if der = 2 ∨ init ∨ resumed then
      pure (if der = 2 ∨ init then fpZero else b.df)
    else do
      let t1 ← if der = 0 then fsub b.xp xd else fsub xd b.xp
      let t2 ← fmul b.kd t1
      let t3 ← fdiv t2 h
      let t4 ← fsub b.df t3
      let t5 ← fmul b.af t4
      fadd t3 t5
  pure { b with df := df, xp := if der = 2 then b.xp else xd }

/-- The integrator part of a step (R111, R112): I and RCQ after it, whether it integrated, INI set and a bump step. -/
def pidIntegrate (b : PidBlk) (p e h lo hi : Word) (freeze track init : Bool) :
    FpM (PidBlk × Bool × Bool × Bool) := do
  let d := b.df
  let t := if fpIsNaN b.tr then b.up else b.tr
  if track then do
    let c ← fclamp t lo hi
    let s ← fsub c.1 p
    let i ← fsub s d
    pure ({ b with i := i }, false, false, false)
  else if init then do
    let i ← fsub t p
    pure ({ b with i := i }, false, true, false)
  else if b.rcq ≠ 0 then do
    let s ← fsub b.up p
    let i ← fsub s d
    pure ({ b with i := i, rcq := 0 }, false, false, true)
  else do
    let q ← fmul b.ki e
    let di ← fmul q h
    let s0 ← fadd p b.i
    let v0 ← fadd s0 d
    if freeze || (fpGe v0 hi && fpGt di fpZero) || (fpLe v0 lo && fpLt di fpZero) then pure (b, false, false, false)
    else do
      let i ← fadd b.i di
      pure ({ b with i := i }, true, false, false)

/-- The PID law (R111) with ST as R110 states for every path.  DESIGN CHOICE (log 87): on the hold path of a NaN, where no FP operation
is performed, a signalling NaN leaves NV as it was (R61, R75). -/
def pidLaw (b : PidBlk) (y r h : Word) (m : BitVec 5) : FpM PidRes := do
  let freeze := m.getLsbD 0
  let track := m.getLsbD 1
  let init := m.getLsbD 2
  let der := m.toNat / 8
  let nsel := bitAt b.st 5
  let ini0 := bitAt b.st 0
  if b.outOfRange then do
    raise flNV
    pure ⟨{ b with up := fpNaN, st := pidSt ini0 false false true false nsel false false true }, fpNaN, false, true⟩
  else if fpIsNaN y || fpIsNaN r then
    pure ⟨{ b with st := pidSt (ini0 || (init && !track)) false false true false nsel true false false }, b.up, false,
      true⟩
  else do
    let resumed := bitAt b.st 6
    let e ← fsub r y
    let p ← fmul b.kp e
    let b1 ← pidDerivative b y e h der init resumed
    let d := b1.df
    let lo := b.umin
    let hi ← if nsel then do
        let t ← fmin b.umax b.tr
        fmax lo t
      else pure b.umax
    let (b2, integrated, ini, bump) ← pidIntegrate b1 p e h lo hi freeze track init
    let s ← fadd p b2.i
    let v ← fadd s d
    let u ← fclamp v lo hi
    let sath := fpGt v hi
    let satl := fpLt v lo
    let st := pidSt (ini0 || ini) sath satl (!integrated) track nsel false bump false
    pure ⟨{ b2 with up := u.1, st := st }, u.1, sath || satl, !integrated⟩

/-- PIDS (R88, R111). -/
def execPids (l : Nat) (d a b c : Reg) (m : BitVec 5) (s : State) : Out :=
  .next (s.law l (encodeInstr (.pids l d a b c m)) 22 fun L =>
    let at' := (L.rg a).toNat
    match L.checkBlocks [(at', 64, 64)] with
    | some t => .error t
    | none =>
      let r := fpRun (pidLaw (L.readPid at') (L.rg b) (L.rg c) L.ts m)
      .ok (((((L.writePid at' r.1.blk).wg d r.1.u).setFlag flagSAT r.1.sat).setFlag flagFRZ r.1.frz).stick r.2))

/-! ### MINS -/

/-- The lowest index of the smallest value that is not NaN, scanning from index `i` with the best so far. -/
def lowestIdx : List Word → Nat → Option (Nat × Word) → Option (Nat × Word)
  | [], _, best => best
  | c :: t, i, best =>
    let best' := if fpIsNaN c then best else match best with
      | none => some (i, c)
      | some b => if fpLt c b.2 then some (i, c) else best
    lowestIdx t (i + 1) best'

/-- The selection of MINS among candidate outputs (R116): the index, its value, the tracking value, and BAD. -/
def minSelect (cs : List Word) (mi : Nat) (sel : Nat) (h : Word) : FpM (Nat × Word × Word × Bool) := do
  let pick (i : Nat) : Word := cs.getD i fpNaN
  let bad := decide (cs.length ≤ sel) || fpIsNaN h || fpLt h fpZero
  if bad then raise flNV
  let s ←
    if bad then pure mi
    else if fpIsNaN (pick sel) then pure mi
    else do
      let t ← fsub (pick sel) h
      pure (if fpLt (pick mi) t then mi else sel)
  let v := pick s
  let tr ← fadd v h
  pure (s, v, tr, bad)

/-- The status and tracking values MINS writes to its candidates, by index (R116). -/
def Loop.minsTrack (L : Loop) (sel : Nat) (tr : Word) : Nat → List Nat → Loop
  | _, [] => L
  | i, pb :: t =>
    let st := L.dw (pb + 48)
    let L1 := if i = sel then L.setDw (pb + 48) (setBit st 5 false)
      else (L.setDw (pb + 48) (setBit st 5 true)).setDw (pb + 40) tr
    L1.minsTrack sel tr (i + 1) t

/-- MINS (R90, R115, R116, R130): N outside 2 to 8 is fatal, a bad SEL or H restarts the selection. -/
def execMins (l : Nat) (d a : Reg) (s : State) : Out :=
  let n := (((s.loop l).dw ((s.loop l).rg a).toNat)).toNat
  .next (s.law l (encodeInstr (.mins l d a)) (if 2 ≤ n ∧ n ≤ 8 then 6 + 4 * n else 6) fun L =>
    let at' := (L.rg a).toNat
    match L.checkBlocks [(at', 64, 64)] with
    | some t => .error t
    | none =>
      let n := (L.dw at').toNat
      if n < 2 ∨ 8 < n then
        .ok ((((L.setDw (at' + 12) 4).wg d fpNaN).setFlag flagSEL false).stick flNV)
      else
        let pbs := (List.range n).map fun i => (L.dw (at' + 16 + 4 * i)).toNat
        match L.checkBlocks (pbs.map fun pb => (pb, 64, 64)) with
        | some t => .error t
        | none =>
          let cs := pbs.map fun pb => L.dw (pb + 36)
          match lowestIdx cs 0 none with
          | none => .ok ((((L.setDw (at' + 12) 2).wg d fpNaN).setFlag flagSEL false).stick flNV)
          | some (mi, _) =>
            let sel := (L.dw (at' + 8)).toNat
            let r := fpRun (minSelect cs mi sel (L.dw (at' + 4)))
            let (s', v, tr, bad) := r.1
            let chg := s' != sel
            let L1 := L.minsTrack s' tr 0 pbs
            let L2 := (L1.setDw (at' + 8) (w32 s')).setDw (at' + 12) (w32 (chg.toNat + 4 * bad.toNat))
            .ok (((L2.wg d v).setFlag flagSEL chg).stick r.2))

/-! ### INTF -/

/-- The integrator law (R119): the state after the step, FRZ and SAT. -/
def intLaw (k lo hi x u : Word) (f : Bool) (h : Word) : FpM (Word × Bool × Bool) := do
  let q ← fmul k u
  let dx ← fmul q h
  let limsat := !f && ((fpGe x hi && fpGt dx fpZero) || (fpLe x lo && fpLt dx fpZero))
  let x1 ← if f || limsat then pure x else fadd x dx
  let c ← fclamp x1 lo hi
  pure (c.1, f || limsat, c.2 || limsat)

/-- INTF (R119, R130). -/
def execIntf (l : Nat) (d a b c : Reg) (s : State) : Out :=
  .next (s.law l (encodeInstr (.intf l d a b c)) 8 fun L =>
    let at' := (L.rg a).toNat
    match L.checkBlocks [(at', 16, 16)] with
    | some t => .error t
    | none =>
      let k := L.dw at'
      let lo := L.dw (at' + 4)
      let hi := L.dw (at' + 8)
      let x := L.dw (at' + 12)
      if !([k, lo, hi, x].all fpIsFinite) || fpGt lo hi then
        .ok ((((L.wg d fpNaN).setFlag flagSAT false).setFlag flagFRZ true).stick flNV)
      else if fpIsNaN (L.rg b) then .ok (((L.wg d x).setFlag flagSAT false).setFlag flagFRZ true)
      else
        let r := fpRun (intLaw k lo hi x (L.rg b) (L.rg c != 0) L.ts)
        .ok (((((L.setDw (at' + 12) r.1.1).wg d r.1.1).setFlag flagSAT r.1.2.2).setFlag flagFRZ r.1.2.1).stick r.2))

/-! ### SCHED -/

/-- Whether a grid axis is out of range (Table 3.10): an edge not finite, edges not strictly increasing, a hysteresis
width NaN, negative or not below half the narrowest cell. -/
def axisBad (es : List Word) (hw : Word) : Bool :=
  !(es.all fpIsFinite) || fpIsNaN hw || fpLt hw fpZero || !fpIsFinite hw || go es
where
  go : List Word → Bool
    | a :: b :: t =>
      let w := fpScaled (fpRead b) - fpScaled (fpRead a)
      decide (w ≤ 0) || decide (w ≤ 2 * fpScaled (fpRead hw)) || go (b :: t)
    | _ => false

/-- The cell of a value on an axis (R121): the largest i in 0 to 7 with a ≥ E[i], or 0. -/
def axisCell (es : List Word) (a : Word) : Nat :=
  (List.range 8).foldl (fun best i => if fpGe a (es.getD i fpZero) then i else best) 0

/-- The index of an axis with its hysteresis (R121). -/
def axisIdx (es : List Word) (hw a : Word) (cur : Option Nat) : FpM Nat := do
  match cur with
  | none => pure (axisCell es a)
  | some c =>
    let lo ← if c = 0 then pure fpNegInf else fsub (es.getD c fpZero) hw
    let hi ← if c = 7 then pure fpInf else fadd (es.getD (c + 1) fpZero) hw
    pure (if fpGe a lo && fpLt a hi then c else axisCell es a)

/-- Whether an input lies outside the grid on an axis (R121), or is NaN (R122). -/
def axisExt (es : List Word) (a : Word) : Bool :=
  fpIsNaN a || fpLt a (es.getD 0 fpZero) || fpGe a (es.getD 8 fpZero)

/-- The region none of a schedule block. -/
def regionNone : Word := 0xFFFFFFFF

/-- The region of both axes (R121). -/
def schedRegion (ae te : List Word) (ha ht a t reg : Word) : FpM Nat := do
  let none' := reg == regionNone
  let ia ← axisIdx ae ha a (if none' then none else some (reg.toNat / 8))
  let it ← axisIdx te ht t (if none' then none else some (reg.toNat % 8))
  pure (8 * ia + it)

/-- What a SCHED gives: the loop after it, whether the region changed. -/
def Loop.sched (L : Loop) (d : Reg) (at' : Nat) (air thr : Word) : Except Trap (Loop × Bool) :=
  match L.checkBlocks [(at', 128, 64)] with
  | some t => .error t
  | none =>
    let ae := (List.range 9).map fun i => L.dw (at' + 4 * i)
    let te := (List.range 9).map fun i => L.dw (at' + 36 + 4 * i)
    let ha := L.dw (at' + 72)
    let ht := L.dw (at' + 76)
    let reg := L.dw (at' + 80)
    let gt := (L.dw (at' + 84)).toNat
    let pb := (L.dw (at' + 88)).toNat
    let st := L.dw (at' + 92)
    if axisBad ae ha || axisBad te ht || !(decide (reg.toNat ≤ 63) || reg == regionNone) then
      .ok ((((L.setDw (at' + 92) (setBit (st &&& 0x1F) 3 true)).wg d regionNone).setFlag flagEXT true).stick flNV, false)
    else match L.checkBlocks [(gt, 1024, 16), (pb, 64, 64)] with
      | some t => .error t
      | none =>
        let exta := axisExt ae air
        let extt := axisExt te thr
        let ext := exta || extt
        if fpIsNaN air || fpIsNaN thr then
          .ok (((L.setDw (at' + 92) (w32 (exta.toNat + 2 * extt.toNat + 16))).wg d reg).setFlag flagEXT ext, false)
        else
          let r := fpRun (schedRegion ae te ha ht air thr reg)
          let chg := r.1 != reg.toNat
          let L1 := if chg then
              let copied := (List.range 4).foldl (fun L k => L.setDw (pb + 4 * k) (L.dw (gt + 16 * r.1 + 4 * k))) L
              (copied.setDw (pb + 44) 1).setDw (at' + 80) (w32 r.1)
            else L
          let L2 := L1.setDw (at' + 92) (w32 (exta.toNat + 2 * extt.toNat + 4 * chg.toNat))
          .ok (((L2.wg d (w32 r.1)).setFlag flagEXT ext).stick r.2, chg)

/-- SCHED (R120 to R123, R130). -/
def execSched (l : Nat) (d a b c : Reg) (s : State) : Out :=
  let L0 := s.loop l
  let cost := match L0.sched d (L0.rg a).toNat (L0.rg b) (L0.rg c) with
    | .ok (_, true) => 22
    | _ => 12
  .next (s.law l (encodeInstr (.sched l d a b c)) cost fun L =>
    match L.sched d (L.rg a).toNat (L.rg b) (L.rg c) with
    | .error t => .error t
    | .ok r => .ok r.1)

/-! ### SLEW -/

/-- The slew law on a block in range with a target that is not NaN (R127): the output, SATR and SATF. -/
def slewLaw (rr fr last g h : Word) : FpM (Word × Bool × Bool) := do
  let up ← fmul rr h
  let dn ← fmul fr h
  let t ← fsub g last
  if fpGt t up then do
    let y ← fadd last up
    pure (y, true, false)
  else if fpLt t (fpNegate dn) then do
    let y ← fsub last dn
    pure (y, false, true)
  else pure (g, false, false)

/-- A slew step's loop: LAST, ST, gd and FLG.SAT. -/
def Loop.slewOut (L : Loop) (d : Reg) (at' : Nat) (last st gd : Word) (sat : Bool) : Loop :=
  (((L.setDw (at' + 8) last).setDw (at' + 12) st).wg d gd).setFlag flagSAT sat

/-- SLEW (R127, R128, R130); `m` is RESET. -/
def execSlew (l : Nat) (d a b : Reg) (m : Bool) (s : State) : Out :=
  .next (s.law l (encodeInstr (.slew l d a b m)) 6 fun L =>
    let at' := (L.rg a).toNat
    let g := L.rg b
    match L.checkBlocks [(at', 16, 16)] with
    | some t => .error t
    | none =>
      let rr := L.dw at'
      let fr := L.dw (at' + 4)
      let last := L.dw (at' + 8)
      if m then .ok (L.slewOut d at' g 0 g false)
      else if fpIsNaN rr || fpLe rr fpZero || fpIsNaN fr || fpLe fr fpZero || !fpIsFinite last then
        let y := if fpIsNaN g then fpNaN else g
        .ok ((L.slewOut d at' g 8 y false).stick flNV)
      else if fpIsNaN g then .ok (L.slewOut d at' last 4 last false)
      else
        let r := fpRun (slewLaw rr fr last g L.ts)
        let st := w32 (r.1.2.1.toNat + 2 * r.1.2.2.toNat)
        .ok ((L.slewOut d at' r.1.1 st r.1.1 (r.1.2.1 || r.1.2.2)).stick r.2))

/-! ### PLAUS -/

/-- The transitions of Table 3.9 for a decided input: VER and CNT after. -/
def plausNext (ver cnt : Nat) (dev : Bool) (nf nr : Nat) : Nat × Nat :=
  match ver, dev with
  | 0, false => (0, 0)
  | 0, true => if nf = 1 then (2, 0) else (1, 1)
  | 1, false => (0, 0)
  | 1, true => if nf ≤ cnt + 1 then (2, 0) else (1, cnt + 1)
  | _, true => (2, 0)
  | _, false => if nr ≤ cnt + 1 then (0, 0) else (2, cnt + 1)

/-- PLAUS (R129, R130). -/
def execPlaus (l : Nat) (d a b c : Reg) (s : State) : Out :=
  .next (s.law l (encodeInstr (.plaus l d a b c)) 10 fun L =>
    let at' := (L.rg a).toNat
    match L.checkBlocks [(at', 32, 32)] with
    | some t => .error t
    | none =>
      let band := L.dw at'
      let nf := (L.dw (at' + 4)).toNat
      let nr := (L.dw (at' + 8)).toNat
      let cnt := (L.dw (at' + 12)).toNat
      let ver := (L.dw (at' + 16)).toNat
      let st := L.dw (at' + 20)
      let x := L.rg b
      let z := L.rg c
      if !fpIsFinite band || fpLe band fpZero || nf == 0 || decide (65535 < nf) || nr == 0 || decide (65535 < nr) ||
          decide (2 < ver) then
        .ok ((((L.setDw (at' + 20) (setBit (st &&& 0x7) 2 true)).wg d 2).setFlag flagPLF true).stick flNV)
      else if fpIsNaN x || fpIsNaN z then
        .ok (((L.setDw (at' + 20) 2).wg d (w32 ver)).setFlag flagPLF (ver == 2))
      else
        let t := fpRun (fsub x z)
        let dev := fpGt (fpAbs t.1) band
        let n := plausNext ver cnt dev nf nr
        let L1 := ((L.setDw (at' + 12) (w32 n.2)).setDw (at' + 16) (w32 n.1)).setDw (at' + 20) (w32 dev.toNat)
        .ok (((L1.wg d (w32 n.1)).setFlag flagPLF (n.1 == 2)).stick t.2))

end Sys2Proof.Machine
end

