-- ==== Sys2Proof/Machine/Column.lean ====
section
/-! DEFINITION. The drying column model (R244 to R269 of 07_column_model.md). -/
namespace Sys2Proof.Machine

def State.column (s : State) (d : Nat) : Col := mget Col.off d s.col.cols
def State.setColumn (s : State) (d : Nat) (x : Col) : State :=
  { s with col := { s.col with cols := mset Col.off d x s.col.cols } }

def allColumns : List Nat := List.range 16

/-- Column states of Table 7.5. -/
def colOff : Nat := 0
def colWarm : Nat := 1
def colRun : Nat := 2
def colHold : Nat := 3
def colShedSt : Nat := 4

/-! ### Configuration -/

def State.colEn (s : State) (d : Nat) : Bool := s.regB (Reg.COL_CCFG d) 31
def State.colBatch (s : State) (d : Nat) : Bool := s.regB (Reg.COL_CCFG d) 30
def State.colNz (s : State) (d : Nat) : Nat := s.regF (Reg.COL_CCFG d) 29 28 + 1
def State.colPar (s : State) (d p : Nat) : Word := s.reg (Reg.COL_PAR d p)

/-- The first layer of each zone in use (R245). -/
def State.zoneStarts (s : State) (d : Nat) : List Nat :=
  ([0, s.regF (Reg.COL_ZB d) 7 0, s.regF (Reg.COL_ZB d) 15 8, s.regF (Reg.COL_ZB d) 23 16] : List Nat).take (s.colNz d)

/-- The zone of a layer. -/
def zoneOf (starts : List Nat) (L : Nat) : Nat := (starts.filter fun b => decide (b ≤ L)).length - 1

/-- The last layer of a zone, and its layer count. -/
def zoneEnd (starts : List Nat) (z : Nat) : Nat := starts.getD (z + 1) 256 - 1
def zoneLayers (starts : List Nat) (z : Nat) : Nat := starts.getD (z + 1) 256 - starts.getD z 0

/-- The entry numbers of MIN, GIN and TPz. -/
def State.colMinEntry (s : State) (d : Nat) : Nat := s.regF (Reg.COL_SRC d) 7 0
def State.colGinEntry (s : State) (d : Nat) : Nat := s.regF (Reg.COL_SRC d) 15 8
def State.colTpEntry (s : State) (d z : Nat) : Nat := s.regF (Reg.COL_TPSRC d) (8 * z + 7) (8 * z)

/-! ### Inputs (R246 to R248) -/

/-- INAGE, ns. -/
def State.colInage (s : State) (d : Nat) : Nat := s.regF (Reg.COL_AGE d) 15 0 * 10000000

/-- Whether a front-end entry is a valid input now. -/
def State.entryValid (s : State) (d e : Nat) : Bool :=
  let k := fiFe e
  let stamp := (s.fiRead (k + 4)).toNat + (s.fiRead (k + 5)).toNat * 0x100000000
  bitAt (s.fiRead (k + 2)) 0 && decide (s.dtb ≤ stamp + s.colInage d) && fpIsFinite (s.fiRead k)

/-- Whether a register input is valid now. -/
def State.regInValid (s : State) (d x : Nat) : Bool :=
  let v := s.reg (Reg.COL_IN d x)
  match (s.column d).written.getD x none with
  | none => false
  | some t => decide (s.dtb ≤ t + s.colInage d) && fpIsFinite v && !fpLt v fpZero

/-- COL_SINdd of a sample: the bits of used inputs that are invalid. -/
def State.colInvalid (s : State) (d : Nat) : Nat :=
  let zs := List.range (s.colNz d)
  (!s.entryValid d (s.colMinEntry d)).toNat + 2 * (!s.entryValid d (s.colGinEntry d)).toNat +
    (zs.map fun z => (!s.entryValid d (s.colTpEntry d z)).toNat * 2 ^ (2 + z)).sum +
    256 * (!s.regInValid d 0).toNat + (zs.map fun z => (!s.regInValid d (z + 1)).toNat * 2 ^ (9 + z)).sum +
    8192 * (!s.regInValid d 5).toNat

/-- The inputs as sampled. -/
def State.colSample (s : State) (d : Nat) : ColIn :=
  { min := s.fiRead (fiFe (s.colMinEntry d)), gin := s.fiRead (fiFe (s.colGinEntry d)),
    tp := [0, 1, 2, 3].map fun z => s.fiRead (fiFe (s.colTpEntry d z)), q := s.reg (Reg.COL_IN d 0),
    air := [1, 2, 3, 4].map fun x => s.reg (Reg.COL_IN d x), xa := s.reg (Reg.COL_IN d 5) }

/-- Whether an input entry in use carries UNCAL, REFSUSP, RANGE or STALE (R257). -/
def State.colInDeg (s : State) (d : Nat) : Bool :=
  ([s.colMinEntry d, s.colGinEntry d] ++ (List.range (s.colNz d)).map (s.colTpEntry d)).any fun e =>
    let st := s.fiRead (fiFe e + 2)
    bitAt st 22 || bitAt st 3 || bitAt st 5 || bitAt st 1

/-! ### Regions and fits (R251, R252) -/

def State.colAe (s : State) (d : Nat) : List Word := (List.range 9).map fun i => s.reg (Reg.COL_AE d i)
def State.colTe (s : State) (d : Nat) : List Word := (List.range 9).map fun i => s.reg (Reg.COL_TE d i)

/-- The total airflow, summed from zone 0. -/
def airSum (nz : Nat) (air : List Word) : Word := (air.take nz).foldl addF fpZero

/-- The distance between a region and a slot. -/
def fitDist (r j : Nat) : Nat := max (max (r / 8) (j / 8) - min (r / 8) (j / 8)) (max (r % 8) (j % 8) - min (r % 8) (j % 8))

/-- The slot of the fit in use for a region and its distance; none where no slot is VALID. -/
def State.fitFor (s : State) (d r : Nat) : Option (Nat × Nat) :=
  ((List.range 64).filter fun j => s.regB (Reg.COL_FCTL d j) 31).foldl (fun best j => match best with
    | none => some (j, fitDist r j)
    | some b => if fitDist r j < b.2 then some (j, fitDist r j) else some b) none

/-! ### One step of the model (R254) -/

def cF (n d : Nat) : Word := fpRat n d
def f100 : Word := cF 100 1
def f101325 : Word := cF 101325 1
def f0622 : Word := cF 622 1000
def f1006 : Word := cF 1006 1
def f2373 : Word := cF 2373 10
def f1727 : Word := cF 1727 100

/-- The saturation pressure at a temperature (Table 7.2). -/
def satPressure (t : Word) : Word :=
  mulF (cF 61078 100) (expF (divF (mulF f1727 t) (addF t f2373)))

/-- What zone(z) computes (R254). -/
structure ZoneRes where
  ma : Word
  k : Word
  en : Word
  ek : Word
  ue : Word
  tp : Word
  deriving DecidableEq, Repr

/-- The constants of a step: the column parameters HOLD to HC3 and the fit's A, B and HX. -/
structure ColConst where
  hold : Word
  cg : Word
  hfg : Word
  hc1 : Word
  hc2 : Word
  hc3 : Word
  fa : Word
  fb : Word
  fhx : Word
  starts : List Nat
  batch : Bool
  deriving DecidableEq, Repr

/-- zone(z) of R254, with `n` layers. -/
def colZone (c : ColConst) (xa tp air : Word) (n : Nat) : ZoneRes :=
  let tk := addF tp (cF 27315 100)
  let rho := divF (cF 35298 100) tk
  let still := fpEq air fpZero
  let ma := if still then fpZero else divF (mulF rho air) (fpNat n)
  let k := if still then fpZero else mulF c.fa (expF (divF (fpNegate c.fb) tk))
  let en := if still then fpOne else expF (fpNegate (divF c.fhx (mulF ma f1006)))
  let ek := expF (fpNegate k)
  let ps := satPressure tp
  let pv := divF (mulF xa f101325) (addF f0622 xa)
  let rh := fpVal (fmin (divF pv ps) (cF 99 100))
  let ue := divF (powF (divF (lnF (subF fpOne rh)) (mulF (fpNegate c.hc1) (addF tp c.hc2))) (divF fpOne c.hc3)) f100
  ⟨ma, k, en, ek, ue, tp⟩

/-- Transport (R254): qd, wd, uin, phi before and after limiting, FAST. -/
structure Transport where
  qd : Word
  wd : Word
  uin : Word
  raw : Word
  phi : Word
  fast : Bool
  deriving DecidableEq, Repr

def colTransport (c : ColConst) (x : ColIn) : Transport :=
  let qd := mulF (divF x.q (cF 36 10)) (subF fpOne (divF x.min f100))
  let wd := mulF c.hold (cF 390625 100000)
  let uin := divF x.min (subF f100 x.min)
  let raw := divF qd wd
  let fast := !c.batch && fpGt raw fpOne
  ⟨qd, wd, uin, raw, if c.batch then fpZero else if fast then fpOne else raw, fast⟩

/-- Each layer moved by `phi` toward the one above it, from the old values. -/
def moveLayers (phi : Word) (pu pth : Word) : List ColLayer → List ColLayer
  | [] => []
  | y :: t => { y with u := addF y.u (mulF phi (subF pu y.u)), th := addF y.th (mulF phi (subF pth y.th)) } ::
      moveLayers phi y.u y.th t

/-- Exchange of one layer with its zone's air (R254). -/
def exchange (c : ColConst) (xa wd : Word) (z : ZoneRes) (y : ColLayer) : ColLayer :=
  let du := mulF (subF y.u z.ue) (subF fpOne z.ek)
  let mw := mulF wd du
  let tOut := addF y.th (mulF (subF z.tp y.th) z.en)
  let q := mulF (mulF z.ma f1006) (subF z.tp tOut)
  let cgl := mulF wd (addF c.cg (mulF (cF 4186 1) y.u))
  let th := addF y.th (divF (subF q (mulF c.hfg mw)) cgl)
  let xo := if fpEq z.ma fpZero then xa else addF xa (divF mw z.ma)
  let cond := fpGt (divF (mulF xo f101325) (addF f0622 xo)) (satPressure tOut)
  ⟨subF y.u du, th, tOut, xo, y.proj, du, cond⟩

/-- The zones of a step. -/
def colZones (c : ColConst) (x : ColIn) : List ZoneRes :=
  (List.range c.starts.length).map fun z =>
    colZone c x.xa (x.tp.getD z 0) (x.air.getD z 0) (zoneLayers c.starts z)

def ZoneRes.none : ZoneRes := ⟨0, 0, 0, 0, 0, 0⟩

/-- One step of the layers (R254). -/
def colStep (c : ColConst) (x : ColIn) (ls : List ColLayer) : List ColLayer :=
  let t := colTransport c x
  let zs := colZones c x
  let moved := if c.batch then ls else moveLayers t.phi t.uin x.gin ls
  moved.zipIdx.map fun p => exchange c x.xa t.wd (zs.getD (zoneOf c.starts p.2) ZoneRes.none) p.1

/-- Wet-basis moisture (R244). -/
def wetOf (u : Word) : Word := divF (mulF f100 u) (addF fpOne u)

/-- One stretch of a projection (R255). -/
def stretch (z : ZoneRes) (u t : Word) : Word :=
  addF z.ue (mulF (subF u z.ue) (expF (mulF (fpNegate z.k) t)))

/-- The projected final moisture of a layer (R255). -/
def projOf (c : ColConst) (zs : List ZoneRes) (tau fhor : Word) (short : Bool) (L : Nat) (u : Word) : Word :=
  let z := zoneOf c.starts L
  let own := zs.getD z ZoneRes.none
  if short then wetOf (stretch own u fhor)
  else
    let u1 := stretch own u (mulF (fpNat (zoneEnd c.starts z + 1 - L)) tau)
    wetOf ((List.range c.starts.length).foldl (fun u j =>
      if z < j then stretch (zs.getD j ZoneRes.none) u (mulF (fpNat (zoneLayers c.starts j)) tau) else u) u1)

/-- TEXH (R255). -/
def texhOf (c : ColConst) (zs : List ZoneRes) (ls : List ColLayer) : Word :=
  let sums := ls.zipIdx.foldl (fun (a : Word × Word) p =>
    let z := zs.getD (zoneOf c.starts p.2) ZoneRes.none
    if fpGt z.ma fpZero then (addF a.1 (mulF z.ma p.1.tao), addF a.2 z.ma) else a) (fpZero, fpZero)
  if fpEq sums.2 fpZero then fpNaN else divF sums.1 sums.2

/-- The layer FCAST is taken from (R255). -/
def forecastLayer (fhor tau : Word) : Nat := 255 - (fpVal (fcvti (divF fhor tau))).toNat

/-- The constants of a column with a fit slot. -/
def State.colConst (s : State) (d slot : Nat) : ColConst :=
  { hold := s.colPar d 0, cg := s.colPar d 1, hfg := s.colPar d 2, hc1 := s.colPar d 3, hc2 := s.colPar d 4,
    hc3 := s.colPar d 5, fa := s.reg (Reg.COL_FIT d slot 0), fb := s.reg (Reg.COL_FIT d slot 1),
    fhx := s.reg (Reg.COL_FIT d slot 2), starts := s.zoneStarts d, batch := s.colBatch d }

/-! ### Lines (R262, R263) -/

/-- Whether an enabled binding names a layer (Table 7.6).  DESIGN CHOICE (log 113): a binding of the exhaust temperature (QTY 2) names none. -/
def State.bindsLayer (s : State) (d L : Nat) : Bool :=
  (List.range 8).any fun b => s.regB (Reg.COL_PB d b) 31 && s.regF (Reg.COL_PB d b) 30 29 != 2 &&
    s.regF (Reg.COL_PB d b) 23 16 == L

/-- LFLG of the layers after an update that advances (Table 7.6). -/
def State.layerFlags (s : State) (d : Nat) (ls : List ColLayer) : List Word :=
  ls.zipIdx.map fun p => w32 (zoneOf (s.zoneStarts d) p.2 + 4 * p.1.cond.toNat + 8 * (s.bindsLayer d p.2).toNat)

/-- The words of one model line (Table 7.6). -/
def colLine (x : Col) (L : Nat) (y : ColLayer) (off : Bool) : List Word :=
  [w32 x.seq, x.stat] ++ dtbWords x.dtb ++ [x.conf, x.fcast, x.mdis, x.texh,
    if off then 0 else wetOf y.u, y.th, y.tao, y.xao, y.proj, y.du, x.verdWord,
    x.flags.getD L 0]

/-- The 256 lines of a column written from a state of it, each as one write. -/
def State.writeLinesOf (s : State) (d : Nat) (x : Col) (off : Bool) : State :=
  x.layers.zipIdx.foldl (fun s p => s.writeLine (fiCol d + 16 * p.2) (colLine x p.2 p.1 off)) s

/-- The 256 lines of a column written. -/
def State.writeColumn (s : State) (d : Nat) (off : Bool) : State := s.writeLinesOf d (s.column d) off

/-- The status registers of a column from its last update. -/
def State.colStatus (s : State) (d : Nat) : State :=
  let x := s.column d
  ((((s.setReg (Reg.COL_SSTAT d) x.stat).setReg (Reg.COL_SCONF d) x.conf).setReg (Reg.COL_SFCAST d) x.fcast).setReg
    (Reg.COL_SSEQ d) (w32 x.seq)).setReg (Reg.COL_SVERD d) x.verdWord

/-- A change of state recorded (R260), with RUN of COL_GSTAT and the HOLD event. -/
def State.colState (s : State) (d new : Nat) : State :=
  let x := s.column d
  if x.state = new then s
  else
    let s1 := (s.setColumn d { x with state := new }).setRegB Reg.COL_GSTAT d (new == colRun)
    let s2 := if new = colHold then s1.setRegB (Reg.COL_SEVT d) 4 true else s1
    s2.emit Ev.COL_STATE 0 ([w32 d, w32 x.state, w32 new] ++ dtbWords s.dtb)

/-! ### Probe supervision (R258, R259) -/

/-- The layer value a binding compares. -/
def bindModel (qty : Nat) (y : ColLayer) (texh : Word) : Word :=
  if qty = 0 then wetOf y.u else if qty = 1 then y.th else texh

/-- The residual of a binding with a measured value. -/
def State.bindResidual (s : State) (d : Nat) (x : Col) (b : Nat) : Option Word :=
  let w := s.reg (Reg.COL_PB d b)
  let e := fld w 15 8
  if bitAt w 31 && s.entryValid d e then
    let r := subF (s.fiRead (fiFe e)) (bindModel (fld w 30 29) (x.layers.getD (fld w 23 16) ColLayer.zero) x.texh)
    if fpIsNaN r then none else some r
  else none

/-- A value inserted in ascending order. -/
def insertF (v : Word) : List Word → List Word
  | [] => [v]
  | w :: t => if fpLt v w then v :: w :: t else w :: insertF v t

/-- The update's rho (R259): the lower median of three or more, the smallest of one or two, 1.0 of none. -/
def rhoOf (rs : List Word) : Word :=
  let sorted := rs.foldr insertF []
  if 3 ≤ sorted.length then sorted.getD ((sorted.length - 1) / 2) fpOne else sorted.headD fpOne

/-- The update's rho of the residuals of a column's bindings (R259). -/
def State.rhoNow (s : State) (d : Nat) (rs : List (Option Word)) : Word :=
  rhoOf (rs.zipIdx.filterMap fun p => p.1.map fun v => divF (fpAbs v) (s.reg (Reg.COL_PBAND d p.2)))

/-- RHOS after an update. -/
def rhosNext (rhos rho : Word) : Word := addF rhos (mulF (subF rho rhos) (cF 625 10000))

/-- CONF (R257). -/
def confOf (dist : Nat) (fdecay : Word) (indeg : Bool) (rhos : Word) : Word :=
  let ff := (List.replicate dist ()).foldl (fun f _ => mulF f fdecay) fpOne
  let fi := if indeg then cF 8 10 else fpOne
  let fr := (fpVal (fclamp (divF (subF (cF 2 1) rhos) (cF 15 10)) fpZero fpOne)).1
  mulF (mulF ff fi) fr

/-- The verdict of one binding after an update, and whether it turned FAIL or turned PASS from FAIL. -/
def State.bindVerdict (s : State) (d b : Nat) (v : Nat × Nat × Bool) (r : Option Word) : Nat × Nat × Bool :=
  match r with
  | none => (v.1, v.2.1, true)
  | some r =>
    let n := plausNext v.1 v.2.1 (fpGt (fpAbs r) (s.reg (Reg.COL_PBAND d b))) (s.regF (Reg.COL_PCNT d b) 15 0)
      (s.regF (Reg.COL_PCNT d b) 31 16)
    (n.1, n.2, false)

/-- The VERD word of a column's bindings (Table 7.6). -/
def State.verdWordOf (s : State) (d : Nat) (vs : List (Nat × Nat × Bool)) : Word :=
  w32 ((vs.zipIdx.map fun p =>
    let on := s.regB (Reg.COL_PB d p.2) 31
    (if on then p.1.1 else 3) * 4 ^ p.2 + (if on && p.1.2.2 then 2 ^ (16 + p.2) else 0)).sum)

/-- The verdicts of all bindings, with their records. -/
def State.colVerdicts (s : State) (d : Nat) (judge : Bool) (rs : List (Option Word)) : State :=
  (List.range 8).foldl (fun s b =>
    if !s.regB (Reg.COL_PB d b) 31 then s
    else
      let x := s.column d
      let old := x.verds.getD b (0, 0, false)
      let r := rs.getD b none
      let new := s.bindVerdict d b old (if judge then r else none)
      let s1 := s.setColumn d { x with verds := x.verds.set b new }
      let body := [w32 d, w32 b, w32 (s.regF (Reg.COL_PB d b) 15 8), r.getD 0]
      if new.1 = 2 && old.1 != 2 then (s1.setRegB (Reg.COL_SEVT d) 5 true).emit Ev.COL_PROBE_FAIL 0 body
      else if new.1 == 0 && old.1 == 2 then s1.emit Ev.COL_PROBE_OK 0 body
      else s1) s

/-! ### The update (R253) -/

/-- Initialisation (R261). -/
def State.colInit (s : State) (d : Nat) : State :=
  let x := s.column d
  let i := s.colSample d
  let u := divF i.min (subF f100 i.min)
  let s1 := (s.setColumn d { x with
    layers := List.replicate 256 { ColLayer.zero with u := u, th := i.gin },
    rhos := fpOne, region := regionNone, needInit := false, initAt := s.dtb }).setRegB (Reg.COL_SEVT d) 0 true
  s1.colState d colWarm

/-- The STAT word of an update that advances (Table 7.7), STATE from the column. -/
def colStatWord (state r fit dist : Nat) (out fast cond indeg batch : Bool) : Word :=
  w32 (state * 0x10000000 + r % 64 * 0x400000 + fit * 0x10000 + dist * 0x2000 + (dist != 0).toNat * 0x1000 +
    out.toNat * 0x800 + fast.toNat * 0x400 + cond.toNat * 0x200 + indeg.toNat * 0x100 + batch.toNat * 0x40)

/-- An update that advances a column (R251 to R259). -/
def State.colAdvance (s : State) (d upd : Nat) : State :=
  let x := s.column d
  let i := s.colSample d
  let nz := s.colNz d
  let a := airSum nz i.air
  let r := fpVal (schedRegion (s.colAe d) (s.colTe d) (s.colPar d 9) (s.colPar d 10) a i.q x.region)
  let out := axisExt (s.colAe d) a || axisExt (s.colTe d) i.q
  let fit := (s.fitFor d r).getD (r, 0)
  let dist := min 7 (fit.2 + out.toNat)
  let c := s.colConst d fit.1
  let t := colTransport c i
  let zs := colZones c i
  let ls := colStep c i x.layers
  let short := c.batch || fpEq t.qd fpZero
  let tau := divF t.wd t.qd
  let fhor := s.colPar d 6
  let ls1 := ls.zipIdx.map fun p => { p.1 with proj := projOf c zs tau fhor short p.2 p.1.u }
  let fcast := if short then divF ((ls1.map ColLayer.proj).foldl addF fpZero) (cF 256 1)
    else (ls1.getD (forecastLayer fhor tau) ColLayer.zero).proj
  let cond := ls1.any ColLayer.cond
  let indeg := s.colInDeg d
  let x1 := { x with layers := ls1, region := w32 r, mdis := wetOf (ls1.getD 255 ColLayer.zero).u,
                     texh := texhOf c zs ls1, fcast := fcast, ins := i, flags := s.layerFlags d ls1, seq := (x.seq + 1) % 0x100000000, dtb := upd }
  let s1 := s.setColumn d x1
  let rs := (List.range 8).map (s1.bindResidual d x1)
  let rhos := rhosNext x.rhos (s.rhoNow d rs)
  let conf := if x.state != colRun || t.fast then fpZero else confOf dist (s.colPar d 8) indeg rhos
  let old := x.stat
  let s2 := s1.setColumn d { x1 with
    rhos := rhos, conf := conf,
    stat := colStatWord x.state r fit.1 dist out t.fast cond indeg c.batch }
  let s3 := s2.colVerdicts d (x.state == colRun && !fpLt conf (s.colPar d 7)) rs
  let s4 := s3.setColumn d { s3.column d with verdWord := s3.verdWordOf d (s3.column d).verds }
  let extOld := bitAt old 12
  let s5 := if extOld = (dist != 0) then s4
    else
      let s' := s4.emit Ev.COL_EXTRAP 0 [w32 d, w32 dist, w32 (dist != 0).toNat, w32 r, w32 fit.1]
      if dist = 0 then s' else s'.setRegB (Reg.COL_SEVT d) 3 true
  let s6 := if t.fast && !bitAt old 10 then (s5.setRegB (Reg.COL_SEVT d) 2 true).emit Ev.COL_FAST 0 [w32 d, t.raw] else s5
  let s7 := if cond && !bitAt old 9 then
      (s6.setRegB (Reg.COL_SEVT d) 1 true).emit Ev.COL_CONDENSE 0 [w32 d, w32 (ls1.findIdx ColLayer.cond)]
    else s6
  (s7.writeColumn d false).colStatus d

/-- An update in HOLD (R262): new SEQ and DTB, STATE HOLD, CONF 0.0 and NANIN, everything else of the model kept; the bindings are
evaluated as at each update, and NOD is set (R259). -/
def State.colHoldUpdate (s : State) (d upd : Nat) : State :=
  let x := s.column d
  let rs := (List.range 8).map fun b => if x.needInit then none else s.bindResidual d x b
  let s1 := s.setColumn d { x with
    seq := (x.seq + 1) % 0x100000000, dtb := upd, conf := fpZero, rhos := rhosNext x.rhos (s.rhoNow d rs)
    stat := setBit (setFld x.stat 31 28 colHold) 7 true }
  let s2 := s1.colVerdicts d false rs
  let s3 := s2.setColumn d { s2.column d with verdWord := s2.verdWordOf d (s2.column d).verds }
  (s3.writeColumn d false).colStatus d

/-- The update of one enabled column (R248, R260, R261). -/
def State.colUpdate (s : State) (d upd : Nat) : State :=
  let bad := s.colInvalid d
  let s0 := s.setReg (Reg.COL_SIN d) (w32 bad)
  let x := s0.column d
  if bad ≠ 0 then
    let s1 := if x.state = colHold then s0
      else (s0.setColumn d { x with holdAt := upd, holdWarm := x.state == colWarm }).colState d colHold
    s1.colHoldUpdate d upd
  else
    let stale := x.state == colHold && (x.holdWarm ||
      decide (s0.regF (Reg.COL_TIME d) 31 16 * 1000000000 < upd - x.holdAt))
    let s1 := if x.needInit || stale then s0.colInit d
      else if x.state = colHold then s0.colState d colRun
      else if x.state == colWarm && decide (x.initAt + s0.regF (Reg.COL_TIME d) 15 0 * 1000000000 ≤ s0.dtb) then
        s0.colState d colRun
      else s0
    s1.colAdvance d upd

/-- The configuration and fit pages of a column. -/
def colPage (d : Nat) : Nat := 0x40181000 + 0x1000 * d
def colFitPage (d : Nat) : Nat := 0x401A1000 + 0x1000 * d

/-- What the apply of a column's configuration changes (R261, R263).  DEDUCED (log 46): the apply that clears EN restarts SEQ and the marks
EXT, FAST and CONDENSE, and records no COL_EXTRAP for an EXT so ended. -/
def State.colApplied (old s : State) (d : Nat) : State :=
  let x := s.column d
  let reinit := old.colNz d != s.colNz d || old.reg (Reg.COL_ZB d) != s.reg (Reg.COL_ZB d) || old.colBatch d != s.colBatch d ||
    old.colPar d 0 != s.colPar d 0 || old.reg (Reg.COL_SRC d) != s.reg (Reg.COL_SRC d) || (!old.colEn d && s.colEn d)
  let s1 := s.setColumn d { x with needInit := x.needInit || reinit }
  if old.colEn d && !s.colEn d then
    let s2 := s1.colState d colOff
    let y := s2.column d
    (s2.setColumn d { Col.off with verds := y.verds, written := y.written }).writeColumn d true
  else if !old.colEn d && s.colEn d && s.shed 3 then s1.colState d colShedSt
  else s1

/-- A pending page of a column taking effect, with the store of the model set it starts (R267). -/
def State.colApplyPage (s : State) (d page : Nat) : State :=
  if s.acceptedBefore page then
    let s1 := s.commitPage page
    (if page = colPage d then State.colApplied s s1 d else s1).storeReq 1
  else s

/-- The next whole second after an upd. -/
def nextSecond (t : Nat) : Nat := (t / 1000000000 + 1) * 1000000000

/-- COLUMN_UPDATE (R253): pending pages apply, and every enabled column is updated; `us` is the time the update took. -/
def execColumnUpdate (us : Nat) (s : State) : Out :=
  if s.dtb < s.col.nextUpd ∨ s.shed 3 then .next s
  else
    let upd := s.dtb / 1000000000 * 1000000000
    let s0 := { s with col := { s.col with nextUpd := nextSecond s.dtb } }
    let s1 := allColumns.foldl (fun s d => (s.colApplyPage d (colPage d)).colApplyPage d (colFitPage d)) s0
    let s2 := allColumns.foldl (fun s d => if s.colEn d then s.colUpdate d upd else s) s1
    .next (s2.setReg Reg.COL_UTIME (w32 (sat 0xFFFF us)))

/-- A write to an input register (R247). -/
def State.colInputWrite (s : State) (d x : Nat) (v : Word) : State :=
  let c := s.column d
  (s.setReg (Reg.COL_IN d x) v).setColumn d { c with written := c.written.set x (some s.dtb) }

/-- COLUMN_INPUT_WRITE (R247). -/
def execColumnInputWrite (w : Who) (d x : Nat) (v : Word) (s : State) : Out :=
  if 16 ≤ d ∨ 6 ≤ x then .next s else .next (s.access w (Reg.COL_IN d x) fun s => s.colInputWrite d x v)

/-! ### Tier T3, reset -/

/-- T3 takes effect: every column's lines once with STATE SHED and CONF 0.0 (R262); a column that is OFF stays so (Table 7.5). -/
def State.colShed (s : State) : State :=
  let s1 := allColumns.foldl (fun s d =>
    if !s.colEn d then s.writeLinesOf d { s.column d with stat := setFld (s.column d).stat 31 28 colShedSt } true
    else
      let s' := s.colState d colShedSt
      let x := s'.column d
      ((s'.setColumn d { x with conf := fpZero, stat := setFld x.stat 31 28 colShedSt }).writeColumn d false).colStatus d) s
  s1.setRegB Reg.COL_GSTAT 31 true

/-- T3 restored: every enabled column initialises at its next update (R261). -/
def State.colRestore (s : State) : State :=
  let s1 := allColumns.foldl (fun s d => s.setColumn d { s.column d with needInit := true }) s
  ({ s1 with col := { s1.col with nextUpd := nextSecond s1.dtb } }).setRegB Reg.COL_GSTAT 31 false

/-- The column model after a reset that includes it (R263, R265). -/
def State.colStart (s : State) : State :=
  let s1 := { s with col := { cols := [], nextUpd := nextSecond s.dtb } }
  let s2 := (s1.setReg Reg.COL_FITSEQ (w32 (s1.nvSet 1).seq)).setRegB Reg.COL_GSTAT 31 (s1.shed 3)
  allColumns.foldl (fun s d => if s.colEn d then s else s.writeColumn d true) s2

/-- The commit record of the model set is written (R267). -/
def State.colStoreDone (s : State) : State :=
  let seq := (s.nvSet 1).seq
  (s.setReg Reg.COL_FITSEQ (w32 seq)).emit Ev.COL_FIT_COMMIT 0 [w32 seq]

/-! ### PREDICT (R264) -/

/-- The checks of a COL descriptor: 0, or the result code it gives. -/
def State.colFormat (s : State) (c : Nat) (x : Cell) (d : List Word) : Nat :=
  let a := (descArg d 0).toNat
  let bad (w : Word) : Bool := !fpIsFinite w || fpLt w fpZero
  if descOpc d ≠ 1 ∨ descLen d ≠ 64 ∨ descSrc d ≠ 0 ∨ descDst d % 64 ≠ 0 ∨ 0x1000 ≤ a ∨ a / 16 % 16 ≠ 0 ∨
      bad (descArg d 1) ∨ bad (descArg d 2) ∨ !fpIsFinite (descArg d 3) then
    if s.colGranted c (a % 16) && x.inShared (descDst d) 64 then resFormat else resAccess
  else if !s.colGranted c (a % 16) || !x.inShared (descDst d) 64 then resAccess
  else 0

/-- H steps, with MDIS after each. -/
def predictRun (c : ColConst) (x : ColIn) : Nat → List ColLayer → List Word
  | 0, _ => []
  | n + 1, ls =>
    let ls1 := colStep c x ls
    wetOf (ls1.getD 255 ColLayer.zero).u :: predictRun c x n ls1

/-- The inputs of a prediction: the airflow shared in the proportion last sampled, the throughput and the offset. -/
def predictIn (nz : Nat) (x : ColIn) (air q off : Word) : ColIn :=
  let tot := airSum nz x.air
  { x with q := q, tp := x.tp.map fun t => addF t off,
           air := x.air.map fun a => if fpEq tot fpZero then divF air (fpNat nz) else divF (mulF air a) tot }

/-- PREDICT (R264). -/
def execPredict (t : Nat) (s : State) : Out :=
  if !s.mayRun t 1 1 then .next s
  else
    let x := s.tag t
    let d := (descArg x.desc 0).toNat % 16
    let H := (descArg x.desc 0).toNat / 256 % 16 + 1
    let col := s.column d
    if col.state ≠ colWarm ∧ col.state ≠ colRun then .next (s.ranWith t 3)
    else
      let air := descArg x.desc 1
      let q := descArg x.desc 2
      let i := predictIn (s.colNz d) col.ins air q (descArg x.desc 3)
      let r := 8 * axisCell (s.colAe d) air + axisCell (s.colTe d) q
      let c := s.colConst d ((s.fitFor d r).getD (r, 0)).1
      let ms := predictRun c i H col.layers
      let ws := (ms ++ List.replicate 16 0).take 16
      .next ((s.dmaWrite t (descDst x.desc) (ws.map fun w => (w, false))).ranWith t 0)

/-! ### Agreement (R268, R269) -/

/-- A value of a COL page: shadow where it is on the page checked or on a pending COL page, else active. -/
def State.colVal (s : State) (page k : Nat) : Word :=
  if pageOf k = page || s.isPending (pageOf k) then s.shadow k else s.reg k

/-- Whether the active mode of an entry is DIEL, or an RTD or TC mode. -/
def State.entryDiel (s : State) (e : Nat) : Bool := decide (e < 192) && s.feModeOf e == feDiel
def State.entryTemp (s : State) (e : Nat) : Bool :=
  decide (e < 192) && (feIsRtd (s.feModeOf e) || s.feModeOf e == feTc)

/-- Whether a list rises strictly. -/
def rising (ns : List Nat) : Bool := (ns.zip (ns.drop 1)).all fun p => decide (p.1 < p.2)

/-- Edges finite and rising, and a hysteresis at least 0 and below half the narrowest cell (rule 4). -/
def edgesOk (es : List Word) (h : Word) : Bool :=
  es.all fpIsFinite && (es.zip (es.drop 1)).all (fun p => fpLt p.1 p.2) && fpIsFinite h && !fpLt h fpZero &&
    (es.zip (es.drop 1)).all fun p => decide (2 * fpExact h < fpExact p.2 - fpExact p.1)

/-- The agreement rules of a configuration page (R268): 0, or the lowest rule that fails. -/
def State.colAgree (s : State) (d : Nat) : Nat :=
  let v (k : Nat) : Word := s.colVal (colPage d) k
  let cfg := v (Reg.COL_CCFG d)
  let nz := fld cfg 29 28 + 1
  let zb := v (Reg.COL_ZB d)
  let starts := ([0, fld zb 7 0, fld zb 15 8, fld zb 23 16] : List Nat).take nz
  let src := v (Reg.COL_SRC d)
  let tps := (List.range nz).map fun z => fld (v (Reg.COL_TPSRC d)) (8 * z + 7) (8 * z)
  let par (p : Nat) : Word := v (Reg.COL_PAR d p)
  let pos (p : Nat) : Bool := fpIsFinite (par p) && fpGt (par p) fpZero
  let bad (b : Nat) : Bool :=
    let w := v (Reg.COL_PB d b)
    let e := fld w 15 8
    let q := fld w 30 29
    let n := v (Reg.COL_PCNT d b)
    let band := v (Reg.COL_PBAND d b)
    bitAt w 31 && (q == 3 || decide (191 < e) || e == fld src 7 0 || e == fld src 15 8 || tps.contains e ||
      !fpIsFinite band || !fpGt band fpZero || fld n 15 0 == 0 || fld n 31 16 == 0 ||
      (if q = 0 then !s.entryDiel e else !s.entryTemp e))
  if !rising starts then 1
  else if !(s.entryDiel (fld src 7 0) && s.entryTemp (fld src 15 8) && tps.all s.entryTemp) then 2
  else if !(pos 0 && pos 1 && pos 2 && pos 3 && pos 5 && fpIsFinite (par 4) && fpIsFinite (par 6) && !fpLt (par 6) fpZero &&
      fpGe (par 7) fpZero && fpLe (par 7) fpOne && fpGt (par 8) fpZero && fpLe (par 8) fpOne) then 3
  else if !(edgesOk ((List.range 9).map fun i => v (Reg.COL_AE d i)) (par 9) &&
      edgesOk ((List.range 9).map fun i => v (Reg.COL_TE d i)) (par 10)) then 4
  else if (List.range 8).any bad then 5
  else if bitAt cfg 31 && !(List.range 64).any (fun r => bitAt (v (Reg.COL_FCTL d r)) 31) then 6
  else if fld (v (Reg.COL_AGE d)) 15 0 = 0 then 7
  else 0

/-- The agreement rules of a fit page (R269). -/
def State.colFitAgree (s : State) (d : Nat) : Nat :=
  let v (k : Nat) : Word := s.colVal (colFitPage d) k
  let valid := (List.range 64).filter fun r => bitAt (v (Reg.COL_FCTL d r)) 31
  if valid.any fun r => [0, 1, 2].any fun p =>
      let w := v (Reg.COL_FIT d r p)
      !fpIsFinite w || !fpGt w fpZero then 1
  else if bitAt (v (Reg.COL_CCFG d)) 31 && valid.isEmpty then 2
  else 0

end Sys2Proof.Machine
end

