-- ==== Sys2Proof/Machine/Solenoid.lean ====
section
/-! DEFINITION. The solenoid channels, their banks and the boost rail (R342 to R360, R374 of 10_actuation.md). -/
namespace Sys2Proof.Machine

def State.svc (s : State) (n : Nat) : SvChan := mget SvChan.reset n s.sv.chans
def State.setSvc (s : State) (n : Nat) (x : SvChan) : State := { s with sv := { s.sv with chans := mset SvChan.reset n x s.sv.chans } }
def State.svk (s : State) (b : Nat) : SvBank := mget SvBank.reset b s.sv.banks
def State.setSvk (s : State) (b : Nat) (x : SvBank) : State := { s with sv := { s.sv with banks := mset SvBank.reset b x s.sv.banks } }

def svPage (n : Nat) : Nat := 0x40401000 + 0x1000 * n
def svCommonPage : Nat := 0x40400000
def allSv : List Nat := List.range 24

/-- The bank of a channel (Table 0.5) and the channels of a bank. -/
def svBankOf (n : Nat) : Nat := n / 6
def svOfBank (b : Nat) : List Nat := [6 * b, 6 * b + 1, 6 * b + 2, 6 * b + 3, 6 * b + 4, 6 * b + 5]

/-- Values of SV_STATnn.STATE. -/
def svOff : Nat := 0
def svPending : Nat := 1
def svPull : Nat := 2
def svHold : Nat := 3
def svPosture : Nat := 4
def svFault : Nat := 5
def svDisabled : Nat := 6

def State.svState (s : State) (n : Nat) : Nat := s.regF (Reg.SV_STAT n) 31 28
def State.svGo (s : State) (n st : Nat) : State := s.setRegF (Reg.SV_STAT n) 31 28 st
def State.svFlag (s : State) (n i : Nat) : State := s.setRegB (Reg.SV_STAT n) i true

/-- Whether a channel is energised: in pull-in, in hold or in posture HOLD. -/
def State.svOn (s : State) (n : Nat) : Bool := s.svState n == svPull || s.svState n == svHold || s.svState n == svPosture

def State.svEn (s : State) (n : Nat) : Bool := s.regB (Reg.SV_CFG n) 31
def State.svBoosts (s : State) (n : Nat) : Bool := s.regB (Reg.SV_CFG n) 30
def State.svFalls (s : State) (n : Nat) : Bool := s.regB (Reg.SV_CFG n) 29
def State.svDips (s : State) (n : Nat) : Bool := s.regB (Reg.SV_CFG n) 28
def State.svRetries (s : State) (n : Nat) : Nat := s.regF (Reg.SV_CFG n) 10 8
def State.svHsOff (s : State) (b : Nat) : Bool := s.regB (Reg.SV_BKSTAT b) 6
def State.svPar (s : State) : Bool := s.regB Reg.SV_BCFG 1
def State.boostEn (s : State) : Bool := s.regB Reg.SV_BCFG 0
def State.rail (s : State) : Nat := s.regF Reg.SV_BSTAT 31 28

/-- Whether FIELD reaches its loads: the field switch on (R480, R481). -/
def State.fieldOn (s : State) : Bool := s.regF Reg.PWR_FSTAT 15 12 == 2

/-- Whether FIELD is tripped, latched or in a miswiring case (R481). -/
def State.fieldOut (s : State) : Bool := decide (3 ≤ s.regF Reg.PWR_FSTAT 15 12)

/-- Whether an enabled CTL_PERM names a slot (R516). -/
def State.permissive (s : State) (slot : Nat) : Bool :=
  [0, 1, 2, 3].any fun k => s.regB (Reg.CTL_PERM k) 31 && s.regF (Reg.CTL_PERM k) 6 0 == slot

/-- A channel's posture: OFF where it is a permissive (R516). -/
def State.svPostureOf (s : State) (n : Nat) : Nat := if s.permissive n then 0 else s.regF (Reg.SV_CFG n) 27 26

/-! ### Admission (R346) -/

/-- IPK of the boost pull-ins running, 50 mA units (SV_PULL.IUSE). -/
def State.svInUse (s : State) : Nat :=
  allSv.foldl (fun k n => if s.svState n = svPull ∧ (s.svc n).boost then k + fld (s.svc n).cur 31 24 else k) 0

/-- The channels PENDING (SV_PULL.QUEUE). -/
def State.svQueue (s : State) : Nat := (allSv.filter fun n => s.svState n == svPending).length

/-- How a channel's pull-in may start now: from the boost rail (true), from FIELD (false), or not. -/
def State.svFrom (s : State) (n : Nat) : Option Bool :=
  if !s.svBoosts n then some false
  else if s.rail = 2 then (if s.svInUse + s.regF (Reg.SV_CUR n) 31 24 ≤ 240 then some true else none)
  else if s.boostEn && s.svFalls n then some false
  else none

/-- Whether a channel's bank lets it start: its switch closed, and no other channel of it in pull-in. -/
def State.svBankFree (s : State) (n : Nat) : Bool :=
  s.fieldOn && !s.svHsOff (svBankOf n) && (svOfBank (svBankOf n)).all fun m => m == n || s.svState m != svPull

/-- Whether a pending channel is admitted. -/
def State.svAdmits (s : State) (n : Nat) : Bool := s.svState n == svPending && s.svBankFree n && (s.svFrom n).isSome

/-- The next pending channel that is admitted: the earliest on command, ties to the lower number. -/
def State.svNext (s : State) : Option Nat :=
  (allSv.filter s.svAdmits).foldl (fun best n => match best with
    | none => some n
    | some m => if (s.svc n).cmdAt < (s.svc m).cmdAt then some n else some m) none

/-- BOOSTED of each bank brought up to date (R344, R347): COMk stays on the boost rail only while a boost pull-in of its bank
runs or one that is admitted follows. -/
def State.svCom (s : State) : State :=
  [0, 1, 2, 3].foldl (fun s b =>
    let needs (n : Nat) : Bool :=
      (s.svState n == svPull && (s.svc n).boost) || (s.svAdmits n && s.svFrom n == some true)
    s.setRegB (Reg.SV_BKSTAT b) 5 (s.regB (Reg.SV_BKSTAT b) 5 && (svOfBank b).any needs)) s

/-- A pull-in starts (R345, R347): it runs under the SV_CUR and SV_TIME words of this instant (R360). -/
def State.svStartPull (s : State) (n : Nat) : State :=
  let boost := (s.svFrom n).getD false
  let c := s.svc n
  let s1 := (s.svGo n svPull).setSvc n { c with
    start := s.dtb, boost := boost, cur := s.reg (Reg.SV_CUR n), time := s.reg (Reg.SV_TIME n), peak := 0, dip := none,
    judged := !s.svDips n }
  let s2 := if s.svBoosts n && !boost then s1.svFlag n 9 else s1
  let s3 := s2.setRegB (Reg.SV_BKSTAT (svBankOf n)) 5 boost
  let s4 := s3.setReg (Reg.SV_PCNT n) (s3.reg (Reg.SV_PCNT n) + 1)
  (s4.setRegF (Reg.SV_MEAS n) 15 0 0xFFFF).svCom

/-- A channel goes PENDING (R346, R358). -/
def State.svPend (s : State) (n : Nat) : State :=
  let s1 := s.svGo n svPending
  if s.svBoosts n && s.regB Reg.SV_BSTAT 27 && !s.sv.notified then
    ({ s1 with sv := { s1.sv with notified := true } }).emit Ev.SV_BOOST_NOT_READY 0 [w32 n, w32 s.rail]
  else s1

/-- Every pending channel that is admitted starts, in the order of the on commands (R346). -/
def State.svStartAll (s : State) : State :=
  allSv.foldl (fun s _ => match s.svNext with
    | some n => s.svStartPull n
    | none => s) s

/-- Channels ask together for a turn-on: all go PENDING, and whatever is admitted starts at once (R346). -/
def State.svAsk (s : State) (l : List Nat) : State := (l.foldl State.svPend s).svStartAll

/-- Whether the turn-on of an energised channel has passed its short check: the drain is checked BLANK after the gate ramp,
and a channel that failed is off 5 µs + BLANK after the turn-on (R347, R353). -/
def State.svChecked (s : State) (n : Nat) : Bool :=
  s.svOn n && (s.svState n != svPull || decide ((s.svc n).start + (5 + s.regF (Reg.SV_CFG n) 7 0) * 1000 ≤ s.dtb))

/-- A turn-on passed its short check: the count of failed retries restarts (R353). -/
def State.svPassed (s : State) (n : Nat) : State :=
  (s.setSvc n { s.svc n with retry := false }).setRegF (Reg.SV_STAT n) 27 25 0

/-- The channel's low-side switch turned off, with the state it shows; a turn-on that had passed its check has restarted the
count of failed retries. -/
def State.svDrop (s : State) (n st : Nat) : State :=
  let s0 := if s.svChecked n then s.svPassed n else s
  ((s0.svGo n st).setSvc n { s0.svc n with boost := false }).svCom

/-- PULL_IN_START (R346). -/
def execPullInStart (n : Nat) (s : State) : Out :=
  .next (if s.svNext = some n then s.svStartPull n else s)

/-! ### Commands and postures -/

/-- Whether a latch keeps a channel off at an on command; a thermal latch ends once TC is 20 degrees below TTRIP (R351). -/
def State.svCool (s : State) (n : Nat) : Bool :=
  fpIsNaN (s.reg (Reg.SV_TEMP n)) ||
    !fpGtRat (s.reg (Reg.SV_TEMP n)) ((s.regF (Reg.SV_THM2 n) 7 0 : Int) - 20) 1

/-- The latches an on command or CLEAR ends: SHORTLATCH with its count, and THERMLATCH where R351 allows. -/
def State.svUnlatch (s : State) (n : Nat) : State :=
  let st := Reg.SV_STAT n
  let s1 := if s.regB st 24 then (s.setRegB st 24 false).setRegF st 27 25 0 else s
  if s1.regB st 23 && s1.svCool n then s1.setRegB st 23 false else s1

/-- Whether a channel is kept off by its own latches or its bank. -/
def State.svBarred (s : State) (n : Nat) : Bool :=
  s.regB (Reg.SV_STAT n) 24 || s.regB (Reg.SV_STAT n) 23 || s.svHsOff (svBankOf n) || !s.fieldOn

/-- The channel whose page, command and state a channel's switch follows: SV22 for SV23 while PAR is set (R350). -/
def State.svLead (s : State) (n : Nat) : Nat := if n = 23 ∧ s.svPar then 22 else n

/-- Channels commanded on turn on together where nothing bars them; slot 23 drives nothing while PAR is set (R350). -/
def State.svTurnOns (s : State) (l : List Nat) : State :=
  let on := l.filter fun n => s.svEn n && s.svLead n == n
  ((on.filter s.svBarred).foldl (fun s n => s.svGo n svFault) s).svAsk (on.filter fun n => !s.svBarred n)

/-- A channel commanded on turns on where nothing bars it. -/
def State.svTurnOn (s : State) (n : Nat) : State := s.svTurnOns [n]

/-- An on command of a channel that is off (R351 to R353).  A short of the same 10 µs wins: the channel waits for its retry
(R360). -/
def State.svOnCommand (s : State) (n : Nat) : State :=
  let c := s.svc n
  let shorted := match c.shortAt with
    | some t => decide (s.dtb < t + 10000)
    | none => false
  if shorted then s.setSvc n { c with cmd := true, cmdAt := s.dtb }
  else
    let s1 := s.setSvc n { c with cmd := true, cmdAt := s.dtb, retry := false, waitTill := none, tripped := false }
    (s1.svUnlatch n).svTurnOn n

/-- The state a channel shows when it is off by its command or posture. -/
def State.svIdle (s : State) (n : Nat) : Nat :=
  if !s.svEn n then svDisabled
  else if s.regB (Reg.SV_STAT n) 24 || s.regB (Reg.SV_STAT n) 23 then svFault else svOff

/-- A channel's command taken up at the boundary of its loop (R342, R359): slot 23 drives nothing while PAR is set. -/
def State.svCommand (s : State) (n : Nat) (v : Word) : State :=
  let on := !fpLtRat v 1 2
  let c := s.svc n
  if s.svOn n then
    if on then
      let s1 := s.setSvc n { c with cmd := true, cmdAt := if c.cmd then c.cmdAt else s.dtb }
      if s.svState n = svPosture then s1.svGo n svHold else s1
    else (s.setSvc n { c with cmd := false }).svDrop n (s.svIdle n)
  else if on then (if c.cmd then s else s.svOnCommand n)
  else if c.cmd then (s.setSvc n { c with cmd := false, waitTill := none }).svDrop n (s.svIdle n)
  else s

/-- A channel takes its posture (R359, R514): OFF, or HOLD, in which a running pull-in completes.  A channel in posture HOLD
stays in it, and its HOLD time is not restarted. -/
def State.svRelease (s : State) (n : Nat) : State :=
  let c := s.svc n
  if s.svState n = svPosture then (if s.svPostureOf n = 1 then s else s.svDrop n (s.svIdle n))
  else if s.svPostureOf n = 1 ∧ s.svState n = svHold then
    (s.setSvc n { c with cmd := false, holdAt := s.dtb }).svGo n svPosture
  else if s.svPostureOf n = 1 ∧ s.svState n = svPull then
    s.setSvc n { c with cmd := false, holdAt := if c.cmd then s.dtb else c.holdAt }
  else (s.setSvc n { c with cmd := false, waitTill := none }).svDrop n (s.svIdle n)

/-- SV_HOLD_END (R359). -/
def execSvHoldEnd (n : Nat) (s : State) : Out :=
  if n < 24 ∧ s.svState n = svPosture ∧ (s.svc n).holdAt + (s.regF (Reg.SV_CFG n) 23 16 * 10000000 : Nat) ≤ s.dtb then
    .next (s.svDrop n (s.svIdle n))
  else .next s

/-! ### Pull-in -/

/-- No dip: NOMOVE is set and SV_NO_MOVE recorded (R348). -/
def State.svNoMove (s : State) (n : Nat) : State :=
  ((s.setSvc n { s.svc n with judged := true }).svFlag n 3).emit Ev.SV_NO_MOVE 0 [w32 n, 0xFFFF]

/-- SV_MOVEMENT_DIP (R348): a sample of the current, `i` mA, `t` µs after the first gate edge.  The current may reach IPK before
the dip window opens at 1,000 µs.  TMOVE has 16 bits; a time above them is a free value. -/
def execSvMovementDip (n t i : Nat) (s : State) : Out :=
  let c := s.svc n
  if 24 ≤ n ∨ s.svState n ≠ svPull ∨ c.judged then .next s
  else
    let s0 := if t < s.regF (Reg.SV_CFG n) 7 0 + 2 then s else s.svPassed n
    let c0 := s0.svc n
    let th := s.regF (Reg.SV_CUR n) 15 0
    if fld c0.cur 31 24 * 50 ≤ i then .next (s0.svNoMove n)
    else if t < 1000 then .next s0
    else if i + th ≤ c0.peak then
      let s1 := s0.setSvc n { c0 with dip := some s.dtb, judged := true }
      let s2 := s1.svFlag n 2
      .next (if t < 0xFFFF then s2.setRegF (Reg.SV_MEAS n) 15 0 t
        else (s2.setRegF (Reg.SV_MEAS n) 15 0 s2.free).draw)
    else .next (s0.setSvc n { c0 with peak := max c0.peak i })

/-- Whether a pull-in has run its time: TPOST after the dip, or TPULL (R345). -/
def State.svPullOver (s : State) (n : Nat) : Bool :=
  let c := s.svc n
  decide (c.start + fld c.time 7 0 * 1000000 ≤ s.dtb) ||
    match c.dip with
    | some t => decide (t + fld c.time 15 8 * 1000000 ≤ s.dtb)
    | none => false

/-- The mean current of a channel over the last 10 ms, A, as FP32. -/
def State.svMean (s : State) (n : Nat) : Word := ratF (s.regF (Reg.SV_MEAS n) 31 16) 1000

/-- PULL_IN_END (R345): the channel holds.  A current, `i` mA, below 50 mA shows an open coil (R354). -/
def execPullInEnd (n i : Nat) (s : State) : Out :=
  if 24 ≤ n ∨ s.svState n ≠ svPull ∨ !s.svPullOver n then .next s
  else
    let c := s.svc n
    let s1 := if c.judged then s else s.svNoMove n
    let s2 := (s1.svPassed n).svDrop n (if c.cmd then svHold else svPosture)
    .next (if i < 50 then (s2.svFlag n 5).emit Ev.SV_OPEN 0 [w32 n, s2.svMean n, 1] else s2)

/-! ### Shorts (R353) -/

/-- SV_SHORT: the drain check failed, or, once on, the channel stayed 5 µs in current limit.  While PAR is set, a short on
SV23's switch turns the pair off (R350). -/
def execSvShort (m : Nat) (check : Bool) (s : State) : Out :=
  let n := s.svLead m
  if 24 ≤ m ∨ !s.svOn n then .next s
  else
    let s0 := if check then s else s.svPassed n
    let c := s0.svc n
    let fails := sat 7 (s0.regF (Reg.SV_STAT n) 27 25 + (check && c.retry).toNat)
    let d := s0.svDrop n svFault
    let s1 := ((d.setSvc n { d.svc n with shortAt := some s.dtb }).svFlag n 4).setRegF (Reg.SV_STAT n) 27 25 fails
    let s2 := s1.emit Ev.SV_SHORT 0 [w32 n, w32 fails]
    if s.svRetries n ≤ fails then
      .next (((s2.setRegB (Reg.SV_STAT n) 24 true).setSvc n { s2.svc n with waitTill := none }).emit Ev.SV_SHORT_LATCH 0
        [w32 n, w32 (s.svRetries n)])
    else .next (s2.setSvc n { s2.svc n with waitTill := some (s.dtb + 100000000) })

/-- SV_SHORT_RETRY: after 100 ms, where the channel is still commanded on. -/
def execSvShortRetry (n : Nat) (s : State) : Out :=
  let c := s.svc n
  match c.waitTill with
  | none => .next s
  | some t =>
    if s.dtb < t then .next s
    else
      let s1 := s.setSvc n { c with waitTill := none, retry := true }
      .next (if c.cmd then s1.svTurnOn n else s1.svGo n (s.svIdle n))

/-- SV_CLEAR (R374): the latches end, and a channel commanded on turns on again. -/
def State.svClear (s : State) (n : Nat) : State :=
  let s1 := s.svUnlatch n
  let latched := s.regB (Reg.SV_STAT n) 24 || s.regB (Reg.SV_STAT n) 23
  let c := s1.svc n
  if !latched || s1.regB (Reg.SV_STAT n) 24 || s1.regB (Reg.SV_STAT n) 23 then s1
  else if c.cmd && !c.tripped then (s1.setSvc n { c with retry := false }).svTurnOn n
  else s1.svGo n (s1.svIdle n)

def execSvClear (w : Who) (n : Nat) (s : State) : Out :=
  if 24 ≤ n then .next s else .next (s.access w (Reg.SV_CMD n) fun s => s.svClear n)

/-! ### Coil model and overload -/

/-- COIL_MODEL_STEP (R351): `i2` is the mean-square current of the 10 ms just ended.  The model's TC starts at the baseplate
temperature. -/
def execCoilModelStep (n : Nat) (i2 : Word) (s : State) : Out :=
  let rth := s.regF (Reg.SV_THM n) 15 0
  if 24 ≤ n ∨ !s.svEn n ∨ rth = 0 then .next s
  else
    let tb := ratF (sext 16 (s.regF Reg.PWR_TEMP 15 0)) 10
    let c := s.svc n
    let tc0 := if fpIsNaN (s.reg (Reg.SV_TEMP n)) then addF tb c.dt else s.reg (Reg.SV_TEMP n)
    let t := mulF (ratF 393 100000) (subF tc0 (ratF 20 1))
    let r := mulF (ratF (s.regF (Reg.SV_THM n) 31 16) 100) (addF fpOne t)
    let p := mulF i2 r
    let g := subF (mulF p (ratF rth 100)) c.dt
    let dt := addF c.dt (mulF g (divF (ratF 1 100) (ratF (s.regF (Reg.SV_THM2 n) 31 16) 1)))
    let tc := addF tb dt
    let s1 := (s.setSvc n { c with dt := dt }).setReg (Reg.SV_TEMP n) tc
    let trip := s.regF (Reg.SV_THM2 n) 7 0
    if fpLtRat tc trip 1 || fpIsNaN tc || s.regB (Reg.SV_STAT n) 23 then .next s1
    else
      let s2 := (((s1.svDrop n svFault).svFlag n 7).setRegB (Reg.SV_STAT n) 23 true)
      .next ((s2.setSvc n { s2.svc n with waitTill := none }).emit Ev.SV_THERMAL 0 [w32 n, tc, w32 trip])

/-- SV_OVERLOAD (R352): `ms` is the mean-square current of the past 1 s. -/
def execSvOverload (n : Nat) (ms : Word) (s : State) : Out :=
  let limit : Int := if n = 22 ∧ s.svPar then 1936 else 484
  if 24 ≤ n ∨ !s.svOn n ∨ !fpGtRat ms limit 100 then .next s
  else
    let s1 := (s.svDrop n svFault).svFlag n 8
    .next ((s1.setSvc n { s1.svc n with tripped := true }).emit Ev.SV_OVERLOAD 0 [w32 n, ms])

/-! ### Banks (R354, R355) -/

/-- HSk opens: each channel of the bank shows BANKOFF, its pull-in abandoned and its command kept (R354, R360). -/
def State.svBankDark (s : State) (b : Nat) : State :=
  let s1 := (svOfBank b).foldl (fun s n =>
    let s' := if s.svOn n || s.svState n == svPending then
        s.svDrop n (if (s.svc n).cmd then svFault else s.svIdle n) else s
    s'.svFlag n 22) s
  s1.setRegB (Reg.SV_BKSTAT b) 5 false

/-- HSk of banks closed again: BANKOFF clears and each channel commanded on starts a fresh pull-in, in the order of the on
commands (R346, R354, R360, R481). -/
def State.svBack (s : State) (banks : List Nat) : State :=
  let all := (banks.map svOfBank).flatten
  let s1 := all.foldl (fun s n => s.setRegB (Reg.SV_STAT n) 22 false) s
  let again (n : Nat) : Bool :=
    let c := s1.svc n
    s1.svEn n && s1.svLead n == n && c.cmd && !c.tripped && c.waitTill.isNone && s1.svState n == svFault && !s1.svBarred n
  let back := all.filter again
  (back.foldl (fun s n => s.setSvc n { s.svc n with retry := false }) s1).svAsk back

/-- A bank opened for a fault. -/
def State.svBankFault (s : State) (b : Nat) (ground : Bool) (nextTry : Nat) : State :=
  ((s.setRegB (Reg.SV_BKSTAT b) 6 true).setSvk b ⟨ground, nextTry⟩).svBankDark b

/-- The channels of a bank that a test takes in: off, and not in a retry wait; SV23 is tested with SV22 while PAR is set
(R350). -/
def State.svTested (s : State) (b : Nat) : List Nat :=
  (svOfBank b).filter fun n => !s.svOn n && (s.svc n).waitTill.isNone && s.svLead n == n

/-- One channel of a test: `low` where its terminal is below 2.0 V, `leak` where the currents differ by more than 100 mA. -/
def State.svTest (b : Nat) (low : List Nat) (leak : Bool) (s : State) (n : Nat) : State :=
  let c := s.svc n
  if !low.contains n then s.setSvc n { c with opens := 0, gnds := 0 }
  else if leak then
    let s1 := s.setSvc n { c with opens := 0, gnds := sat 2 (c.gnds + 1) }
    if c.gnds ≠ 1 then s1
    else ((s1.svFlag n 6).setRegB (Reg.SV_BKSTAT b) 3 true).emit Ev.SV_SHORT_GND 0 [w32 n, w32 b]
  else
    let s1 := s.setSvc n { c with opens := sat 2 (c.opens + 1), gnds := 0 }
    if c.opens ≠ 1 then s1 else (s1.svFlag n 5).emit Ev.SV_OPEN 0 [w32 n, s1.svMean n, 0]

/-- Whether HSk is closed (R344). -/
def State.svHsOn (s : State) (b : Nat) : Bool := s.fieldOn && !s.svHsOff b && (svOfBank b).any s.svEn

/-- The channels of a bank tested; one short to ground found in two tests in a row opens HSk (R354). -/
def State.svTestBank (s : State) (b : Nat) (low : List Nat) (leak : Bool) : State :=
  let s1 := (s.svTested b).foldl (State.svTest b low leak) s
  if leak && (s.svTested b).any fun n => low.contains n && decide (1 ≤ (s.svc n).gnds) then s1.svBankFault b true (s.dtb + 1000000000)
  else s1

/-- The high-side current of a bank as measured (SV_BKSTATk.ICOM). -/
def State.svIcom (s : State) (b hs : Nat) : State := s.setRegF (Reg.SV_BKSTAT b) 31 16 (sat 0xFFFF (hs / 10))

/-- BANK_TEST (R354): `hs` mA on the high side, `cur` the mean current of each channel in mA, `low` the channels whose terminal
is below 2.0 V.  The currents are measured every 10 ms, also while HSk is open. -/
def execBankTest (b hs : Nat) (cur low : List Nat) (s : State) : Out :=
  if 4 ≤ b then .next s
  else
    let s1 := (svOfBank b).foldl (fun s n => s.setRegF (Reg.SV_MEAS n) 31 16 (sat 0xFFFF (cur.getD (n % 6) 0))) s
    let s2 := s1.svIcom b hs
    .next (if s.svHsOn b then s2.svTestBank b low (decide (cur.foldl (· + ·) 0 + 100 < hs)) else s2)

/-- A bank's fault has ended. -/
def State.svBankOk (s : State) (b : Nat) : State :=
  let s1 := (s.setRegB (Reg.SV_BKSTAT b) 6 false).setRegF (Reg.SV_BKSTAT b) 2 0 0
  (s1.emit Ev.SV_BANK_OK 0 [w32 b]).svBack [b]

/-- BANK_RETEST (R354): every 1 s while a short to ground keeps HSk open, the test of each channel is repeated with every low-side
switch off. -/
def execBankRetest (b hs : Nat) (low : List Nat) (s : State) : Out :=
  let k := s.svk b
  if 4 ≤ b ∨ !s.svHsOff b ∨ !k.ground ∨ s.dtb < k.nextTry ∨ !s.fieldOn then .next s
  else
    let leak := decide (100 < hs)
    let s1 := (s.svTested b).foldl (State.svTest b low leak) (s.svIcom b hs)
    if low.isEmpty || !leak then
      .next (((svOfBank b).foldl (fun s n => s.setSvc n { s.svc n with gnds := 0 }) s1).svBankOk b)
    else .next (s1.setSvk b { k with nextTry := k.nextTry + 1000000000 })

/-- HSk stayed 5 µs in current limit: HSOFF, OCEVT and a retry after 100 ms, or HSLATCH after BRETRY failed retries. -/
def State.svBankTrip (s : State) (b hs fails : Nat) : State :=
  let k := Reg.SV_BKSTAT b
  let s1 := ((s.setRegB k 4 true).setRegF k 2 0 fails).svBankFault b false (s.dtb + 100000000)
  let s2 := s1.emit Ev.SV_BANK_OFF 0 [w32 b, ratF hs 1000, w32 fails]
  if min 7 (s.regF Reg.SV_BCFG 11 8) ≤ fails then s2.setRegB k 7 true else s2

/-- SV_BANK_OFF (R355): `hs` mA. -/
def execSvBankOff (b hs : Nat) (s : State) : Out :=
  .next (if 4 ≤ b ∨ !s.svHsOn b then s else s.svBankTrip b hs (s.regF (Reg.SV_BKSTAT b) 2 0))

/-- BANK_RETRY (R355): HSk closes; `ok` where it does not stay in current limit. -/
def execBankRetry (b hs : Nat) (ok : Bool) (s : State) : Out :=
  let k := s.svk b
  if 4 ≤ b ∨ !s.svHsOff b ∨ k.ground ∨ s.regB (Reg.SV_BKSTAT b) 7 ∨ s.dtb < k.nextTry ∨ !s.fieldOn then .next s
  else if ok then .next (s.svBankOk b)
  else .next (s.svBankTrip b hs (sat 7 (s.regF (Reg.SV_BKSTAT b) 2 0 + 1)))

/-- A write to SV_GCMD: the latch of each bank named ends, and it retries. -/
def State.svBankClr (s : State) (v : Word) : State :=
  [0, 1, 2, 3].foldl (fun s b =>
    if bitAt v b && s.regB (Reg.SV_BKSTAT b) 7 then
      (((s.setRegB (Reg.SV_BKSTAT b) 7 false).setRegF (Reg.SV_BKSTAT b) 2 0 0)).setSvk b { s.svk b with nextTry := s.dtb }
    else s) s

/-- BANKCLR (R355). -/
def execBankclr (w : Who) (v : Word) (s : State) : Out :=
  .next (s.access w Reg.SV_GCMD fun s => s.svBankClr v)

/-! ### The boost rail (R356 to R358) -/

/-- Boost pull-ins that run move to FIELD and run to their end from it. -/
def State.svToField (s : State) : State :=
  allSv.foldl (fun s n =>
    let c := s.svc n
    if s.svState n = svPull ∧ c.boost then
      ((s.setSvc n { c with boost := false }).svFlag n 9).setRegB (Reg.SV_BKSTAT (svBankOf n)) 5 false
    else s) s

/-- The rail in a new state: NRDY shows while it is not ready and BEN is set, and a new interval of it begins.  Hiccup ends
where the rail is off or shed (R357).  A rail that is off, shed or begins to soft-start shows 0 V, from which it starts (R356; DEDUCED,
log 108). -/
def State.railTo (s : State) (st : Nat) : State :=
  let nrdy := s.boostEn && st != 2
  let was := s.regB Reg.SV_BSTAT 27
  let s1 := (s.setRegF Reg.SV_BSTAT 31 28 st).setRegB Reg.SV_BSTAT 27 nrdy
  let s2 := if nrdy && !was then { s1 with sv := { s1.sv with notified := false } } else s1
  let s3 := if st = 0 ∨ st = 4 then { s2 with sv := { s2.sv with hiccup := false } } else s2
  let s4 := if st = 2 ∨ st = 3 then s3 else s3.setRegF Reg.SV_BSTAT 15 0 0
  if st = 2 then s4 else s4.svToField.svCom

def State.railVolt (s : State) (v : Nat) : State := s.setRegF Reg.SV_BSTAT 15 0 (sat 0xFFFF v)

/-- BOOST_SOFT_START (R356). -/
def execBoostSoftStart (s : State) : Out :=
  .next (if s.boostEn && !s.shed 3 && s.fieldOn && (s.rail == 0 || s.rail == 4) then s.railTo 1 else s)

/-- BOOST_READY (R356): `v` in 10 mV. -/
def execBoostReady (v : Nat) (s : State) : Out :=
  if s.rail ≠ 1 ∨ v < 4500 then .next s
  else
    let s1 := (s.railVolt v).railTo 2
    .next (if s.sv.owesOk then
        ({ s1 with sv := { s1.sv with hiccup := false, owesOk := false } }).emit Ev.SV_BOOST_OK 0 [s1.reg Reg.SV_BHCNT]
      else s1)

/-- SV_BOOST_SHORT (R357): `v` in 10 mV; hiccup begins, or goes on with another cycle. -/
def execSvBoostShort (v : Nat) (s : State) : Out :=
  if s.rail ≠ 1 ∧ s.rail ≠ 2 then .next s
  else
    let s1 := ((s.railVolt v).countReg Reg.SV_BHCNT 31 0 0xFFFFFFFF 1).railTo 3
    let s2 := { s1 with sv := { s1.sv with hiccup := true, hicAt := s.dtb, owesOk := true } }
    .next (if s.sv.hiccup then s2
      else (s2.setRegB Reg.SV_BSTAT 26 true).emit Ev.SV_BOOST_SHORT 0 [ratF v 100, s2.reg Reg.SV_BHCNT])

/-- BOOST_HICCUP_RESTART (R357). -/
def execBoostHiccupRestart (s : State) : Out :=
  .next (if s.rail = 3 ∧ s.boostEn ∧ s.sv.hicAt + 180000000 ≤ s.dtb then s.railTo 1 else s)

/-- RAIL_NOT_READY (R356, R358): the rail falls below 42 V; `v` in 10 mV. -/
def execRailNotReady (v : Nat) (s : State) : Out :=
  .next (if s.rail = 2 ∧ v < 4200 then (s.railTo 1).railVolt v else s)

/-- T3 shed and restored (R358). -/
def State.svShed (s : State) : State := s.railTo 4
def State.svRestore (s : State) : State := if s.rail = 4 then s.railTo 0 else s

/-! ### FIELD, applies and reset -/

/-- FIELD lost and returned (R481). -/
def State.svFieldLost (s : State) : State := ([0, 1, 2, 3].foldl State.svBankDark s).railTo (if s.shed 3 then 4 else 0)
def State.svFieldBack (s : State) : State := s.svBack ([0, 1, 2, 3].filter fun b => !s.svHsOff b)

/-- Channels that applies of one boundary enable take up their commands together, in the order of the on commands (R346): the first of
their pages to be served does it. -/
def State.svEnabled (old s : State) : State :=
  let new := allSv.filter fun n => !old.svEn n && s.svEn n && s.svState n == svDisabled
  let s1 := new.foldl (fun s n => s.svGo n (if (s.svc n).cmd && (s.svc n).tripped then svFault else s.svIdle n)) s
  s1.svTurnOns (new.filter fun n => (s.svc n).cmd && !(s.svc n).tripped)

/-- What an apply of a channel page does beside the new values. -/
def State.svApplied (old s : State) (n : Nat) : State :=
  let s0 := if s.regF (Reg.SV_THM n) 15 0 = 0 then
      (s.setSvc n { s.svc n with dt := 0 }).setReg (Reg.SV_TEMP n) fpNaN else s
  let s1 := if old.svEn n && !s.svEn n then
      let s' := (s0.svDrop n svDisabled)
      s'.setSvc n { s'.svc n with waitTill := none }
    else State.svEnabled old s0
  s1.storeReq 3

/-- What an apply of the common page does: PAR changed while SV22 or SV23 is energised (R360); BEN changed (R356). -/
def State.svCommonApplied (old s : State) : State :=
  let s1 := if old.svPar != s.svPar && (s.svOn 22 || s.svOn 23) then
      [22, 23].foldl (fun s n =>
        if (s.svc n).cmd && !(s.svc n).tripped && s.svEn n then s.svTurnOn n else s)
        ([22, 23].foldl (fun s n => s.svDrop n (s.svIdle n)) s)
    else s
  let s2 := if old.boostEn && !s.boostEn then s1.railTo 0
    else if !old.boostEn && s.boostEn then s1.railTo (if s.shed 3 then 4 else 0)
    else s1
  s2.storeReq 3

/-- Whether a channel is in posture HOLD, or in a pull-in that its release left to complete (R359). -/
def State.svHolds (s : State) (n : Nat) : Bool := s.svState n == svPosture || (s.svState n == svPull && !(s.svc n).cmd)

/-- The channels in posture HOLD, each with the state it shows. -/
def State.svHeld (s : State) : List (Nat × Nat) :=
  ((s.sv.chans.map Prod.fst).filter s.svHolds).map fun n => (n, s.svState n)

/-- Channels in posture keep their state through a reset of the registers (R509, R514). -/
def State.svKeep (s : State) (held : List (Nat × Nat)) : State := held.foldl (fun s e => s.svGo e.1 e.2) s

/-- A channel as a reset that includes SV leaves it: its posture HOLD, or the pull-in that comes before it, runs on. -/
def SvChan.kept (c : SvChan) : SvChan :=
  { SvChan.reset with
    holdAt := c.holdAt, start := c.start, boost := c.boost, cur := c.cur, time := c.time, peak := c.peak, dip := c.dip, judged := c.judged }

/-- Every channel shows BANKOFF (R481). -/
def State.svBankOffs (s : State) : State := allSv.foldl (fun s n => s.svFlag n 22) s

/-- The block after a reset that includes SV (R351, R509, R514): channels in posture HOLD run on.  BANKOFF shows while FIELD is out
(R481). -/
def State.svStart (s : State) : State :=
  let held := s.svHeld
  let s1 := { s with sv := { SvSt.reset with
    chans := (s.sv.chans.filter fun (e : Nat × SvChan) => s.svHolds e.1).map fun (e : Nat × SvChan) => (e.1, e.2.kept) } }
  let s2 := allSv.foldl (fun s n =>
    s.svGo n (if !s.svEn n then svDisabled else match held.find? fun e => e.1 == n with
      | some e => e.2
      | none => svOff)) s1
  let s3 := if s2.fieldOut then s2.svBankOffs else s2
  s3.railTo (if s3.shed 3 then 4 else 0)

/-! ### Agreement (R374) -/

/-- The rules of the common page: 0, or the lowest that fails. -/
def State.svCommonAgree (s : State) : Nat := if bitAt (s.shadow Reg.SV_BCFG) 1 && s.svEn 23 then 1 else 0

/-- The rules of a channel page. -/
def State.svAgree (s : State) (n : Nat) : Nat :=
  let cfg := s.shadow (Reg.SV_CFG n)
  let cur := s.shadow (Reg.SV_CUR n)
  let time := s.shadow (Reg.SV_TIME n)
  let thm := s.shadow (Reg.SV_THM n)
  let wide : Nat := if n = 22 ∧ s.svPar then 2 else 1
  let ipk := fld cur 31 24 * 50
  let ihold := fld cur 23 16 * 20
  let of (m : Nat) (r : Nat → Nat) : Word := if m = n then s.shadow (r m) else s.reg (r m)
  let group := (svOfBank (svBankOf n)).filter fun m => bitAt (of m Reg.SV_CFG) 31
  if ipk < ihold ∨ 6000 * wide < ipk ∨ 2000 * wide < ihold then 1
  else if fld time 7 0 < 1 ∨ 100 < fld time 7 0 ∨ fld time 7 0 < fld time 15 8 ∨ fld cfg 7 0 < 2 ∨ 20 < fld cfg 7 0 ∨
      1 < fld cfg 27 26 ∨ (fld cfg 27 26 = 1 ∧ (fld cfg 23 16 < 1 ∨ 200 < fld cfg 23 16)) then 2
  else if (group.any fun m => bitAt (of m Reg.SV_CFG) 30) && group.any fun m => fld (of m Reg.SV_CUR) 23 16 == 0 then 3
  else if n = 23 ∧ bitAt cfg 31 ∧ s.svPar then 4
  else if fld thm 15 0 ≠ 0 ∧ (fld thm 31 16 = 0 ∨ fld (s.shadow (Reg.SV_THM2 n)) 31 16 = 0) then 5
  else 0

end Sys2Proof.Machine
end

