-- ==== Sys2Proof/Machine/Fan.lean ====
section
/-! DEFINITION. The fan channels (R361 to R372, R375 of 10_actuation.md). -/
namespace Sys2Proof.Machine

def State.fan (s : State) (n : Nat) : FanChan := mget FanChan.reset n s.fans
def State.setFan (s : State) (n : Nat) (x : FanChan) : State := { s with fans := mset FanChan.reset n x s.fans }

def fanPage (n : Nat) : Nat := 0x40481000 + 0x1000 * n
def allFans : List Nat := List.range 16

def State.fanEn (s : State) (n : Nat) : Bool := s.regB (Reg.FAN_CFG n) 31
def State.fanAnalog (s : State) (n : Nat) : Bool := s.regB (Reg.FAN_CFG n) 30
def State.fanImode (s : State) (n : Nat) : Nat := s.regF (Reg.FAN_CFG n) 29 28
def State.fanAuto (s : State) (n : Nat) : Bool := s.regB (Reg.FAN_CFG n) 26
def State.fanPosture (s : State) (n : Nat) : Nat := s.regF (Reg.FAN_CFG n) 25 24
def State.fanGroup (s : State) (n : Nat) : Nat := s.regF (Reg.FAN_CFG n) 22 20
def State.fanStop (s : State) (n : Nat) : Nat := s.regF (Reg.FAN_KICK n) 23 16
def State.fanFailed (s : State) (n : Nat) : Bool := s.regB (Reg.FAN_STAT n) 27
def State.fanFlag (s : State) (n i : Nat) : State := s.setRegB (Reg.FAN_STAT n) i true

/-- The PWM period, ns (R363). -/
def State.fanPeriod (s : State) (n : Nat) : Nat := s.regF (Reg.FAN_PWM n) 15 0 * 2 ^ s.regF (Reg.FAN_PWM n) 18 16 * 8

/-- Whether an output lies above STOPTH / 255. -/
def State.fanAbove (s : State) (n : Nat) (u : Word) : Bool := fpGtRat u (s.fanStop n) 255

/-! ### Commands -/

/-- A command or a posture (none) that reaches the channel now: the one before it that no reload has loaded is the one a reload
of this tick loads (R364). -/
def State.fanReach (s : State) (n : Nat) (v : Option Word) : State :=
  let c := s.fan n
  let cmd := match c.next with
    | some (t, w) => if t < s.dtb then w else c.cmd
    | none => c.cmd
  s.setFan n { c with cmd := cmd, next := some (s.dtb, v) }

/-- A slot value taken up at the boundary of its loop: clamped to 0.0 to 1.0, setting CLAMP (R361); with MODE AUTO the slot is
not read (R370). -/
def State.fanCommand (s : State) (n : Nat) (v : Word) : State :=
  let low := fpLtRat v 0 1
  let high := fpGtRat v 1 1
  let s1 := if (low || high) && !s.fanAuto n then s.fanFlag n 1 else s
  s1.fanReach n (some (if low then 0 else if high then fpOne else v))

/-- The slot of a channel released (R370). -/
def State.fanRelease (s : State) (n : Nat) : State := s.fanReach n none

/-! ### Reload (R364) -/

/-- The fraction u as q (R363): u times 65,535, ties to even. -/
def fanQ (u : Word) : Nat :=
  let p := (fpExact u).toNat * 65535
  let d := 2 ^ 149
  let q := p / d
  let r := 2 * (p % d)
  if d < r ∨ (r = d ∧ q % 2 = 1) then q + 1 else q

/-- The duty count of q in a period. -/
def fanDuty (q per : Nat) : Nat := (q * per + 32767) / 65535

/-- Whether a group failure drives the channel at full speed (R367): another enabled channel of its group has failed, and it
has not failed itself (R372). -/
def State.fanFull (s : State) (n : Nat) : Bool :=
  s.fanGroup n != 0 && !s.fanFailed n &&
    allFans.any fun m => m != n && s.fanEn m && s.fanGroup m == s.fanGroup n && s.fanFailed m

/-- The speed in force: 0 after 1 s without a pulse (R366); with feedback, the last feedback. -/
def State.fanSpeed (s : State) (n : Nat) : Word :=
  if s.fanImode n = 1 then
    match (s.fan n).lastPulse with
    | none => 0
    | some t => if t + 1000000000 ≤ s.dtb then 0 else s.reg (Reg.FAN_SPD n)
  else s.reg (Reg.FAN_SPD n)

/-- Whether the channel's speed or feedback is out of bounds (R366). -/
def State.fanOut (s : State) (n : Nat) : Bool :=
  let v := s.fanSpeed n
  if s.fanImode n = 1 then fpLtRat v (s.regF (Reg.FAN_MON n) 31 16) 1
  else if s.fanImode n = 2 then
    decide ((s.regF (Reg.FAN_FB n) 15 0 : Int) * fpScale < (fpExact v - fpExact (s.fan n).out).natAbs * 10000)
  else false

/-- The monitor brought up to date: since when the channel is out of bounds with its output above STOPTH and TSPIN over, and
since when it is within bounds. -/
def State.fanWatch (s : State) (n : Nat) : State :=
  let c := s.fan n
  let spun := decide (max c.aboveAt c.lastKick + s.regF (Reg.FAN_MON n) 7 0 * 100000000 ≤ s.dtb)
  let out := s.fanOut n
  let bad := s.fanAbove n c.out && spun && out
  let since (b : Bool) (t : Option Nat) : Option Nat := if !b then none else some (t.getD s.dtb)
  s.setFan n { c with badSince := since bad c.badSince, goodSince := since (!out) c.goodSince }

/-- What a channel is to output, by Table 10.3: STATE, output, the output under rows 6 to 8, and the last under rows 7 and 8. -/
structure FanRow where
  state : Nat
  out : Word
  base : Word
  last : Word

/-- Rows 6 to 8 of Table 10.3: STATE, output and the last output under rows 7 and 8. -/
def State.fanBase (s : State) (n : Nat) (c : FanChan) : Nat × Word × Word :=
  if s.fanAuto n then (5, c.tab, c.last)
  else match c.cmd with
    | some u => (2, u, u)
    | none => if s.fanPosture n = 2 then (5, c.tab, c.last) else (4, c.last, c.last)

/-- Whether posture OFF is in force: POSTURE OFF, or a HOLD that has ended. -/
def State.fanIsOff (s : State) (n : Nat) (c : FanChan) : Bool :=
  !s.fanAuto n && c.cmd.isNone && (s.fanPosture n == 0 || s.fanPosture n == 3 || (s.fanPosture n == 1 && c.holdOver))

/-- Table 10.3 at a reload, with the kick that runs. -/
def State.fanRow (s : State) (n : Nat) (c : FanChan) (dark kick : Bool) : FanRow :=
  let b := s.fanBase n c
  if s.fanIsOff n c then ⟨1, 0, 0, c.last⟩
  else if dark then ⟨7, 0, 0, b.2.2⟩
  else if s.fanFull n then ⟨6, fpOne, b.2.1, b.2.2⟩
  else if kick then ⟨3, ratF (s.regF (Reg.FAN_KICK n) 31 24) 255, b.2.1, b.2.2⟩
  else ⟨b.1, b.2.1, b.2.1, b.2.2⟩

/-- The channel with its command and its posture at this reload: HOLD is timed from the reload that takes it (R370). -/
def State.fanLoad (s : State) (n : Nat) : FanChan :=
  let c := s.fan n
  let c1 := match c.next with
    | some (t, w) => if t < s.dtb then { c with cmd := w, next := none } else c
    | none => c
  if s.fanAuto n || c1.cmd.isSome then { c1 with holdAt := none, holdOver := false }
  else match c1.holdAt with
    | some _ => c1
    | none => { c1 with holdAt := some (s.dtb : Int), holdOver := false }

/-- A reload (R364, R365): the command, the kick, PER and d of the next period.  A kick starts where the output under rows 6 to
8 rises above STOPTH, and where a failed channel retries whatever its command (R366). -/
def State.fanReload (s : State) (n : Nat) : State :=
  let c := s.fanLoad n
  let dark := c.supOff.isSome || !s.fieldOn
  let idle := s.fanIsOff n c || dark
  let base := if idle then 0 else (s.fanBase n c).2.1
  let kickt := s.regF (Reg.FAN_KICK n) 15 0
  let starts := kickt != 0 && !idle && (c.kickReq || (s.fanAbove n base && !s.fanAbove n c.base))
  let fell := s.fanAbove n c.base && !s.fanAbove n base
  let past := match c.kick with
    | none => true
    | some t => decide (t + kickt * 1000000 ≤ s.dtb) || c.kickEnd || fell
  let kick := if starts then some s.dtb else if past then none else c.kick
  let row := s.fanRow n c dark kick.isSome
  let rose := (s.fanAbove n row.out && !s.fanAbove n c.out) || c.restart
  let per := s.regF (Reg.FAN_PWM n) 15 0
  let s1 := s.setFan n { c with
    out := row.out, base := row.base, last := row.last, kick := kick, kickReq := false, kickEnd := false, restart := false,
    aboveAt := if rose then s.dtb else c.aboveAt, lastKick := if starts then s.dtb else c.lastKick,
    reloadAt := c.reloadAt + s.fanPeriod n }
  let s2 := (s1.setReg (Reg.FAN_OUT n) (w32 (per * 0x10000 + fanDuty (fanQ row.out) per))).setRegF (Reg.FAN_STAT n) 31 28 row.state
  if row.state = 6 then s2.fanFlag n 6 else s2

/-- GFULL of a group brought up to date; FAN_GROUP_FULL is recorded as it sets (R367). -/
def State.fanGroupCheck (s : State) (n g : Nat) : State :=
  let full := allFans.any fun m => s.fanEn m && s.fanGroup m == g && s.fanFailed m
  if g = 0 ∨ full = s.regB Reg.FAN_GSTAT (16 + g) then s
  else
    let s1 := s.setRegB Reg.FAN_GSTAT (16 + g) full
    if full then s1.emit Ev.FAN_GROUP_FULL 0 [w32 g, w32 n] else s1

/-- What an apply of a channel page does beside the new values: a channel that has failed takes its failure into its new
group. -/
def State.fanApplied (old s : State) (n : Nat) : State :=
  let s0 := if s.fanImode n = 0 then s.setReg (Reg.FAN_SPD n) fpNaN
    else if old.fanImode n ≠ s.fanImode n then s.setReg (Reg.FAN_SPD n) 0 else s
  let s1 := if s.regB (Reg.FAN_CFG n) 23 then s0 else (s0.setReg (Reg.FAN_TS n) fpNaN).setRegB (Reg.FAN_STAT n) 26 false
  let c := s1.fan n
  let s2 := if old.fanEn n && !s.fanEn n then
      let s' := s1.setFan n { c with out := 0, base := 0, kick := none, kickReq := false, badSince := none, goodSince := none }
      (((s'.setReg (Reg.FAN_OUT n) 0).setRegF (Reg.FAN_STAT n) 31 27 0)).setRegB Reg.FAN_GSTAT n false
    else if !old.fanEn n && s.fanEn n then
      s1.setFan n { c with out := 0, base := 0, reloadAt := s.dtb + s.fanPeriod n, aboveAt := s.dtb }
    else s1
  ((s2.fanGroupCheck n (old.fanGroup n)).fanGroupCheck n (s.fanGroup n)).storeReq 3

/-- FAN_RELOAD (R364): in the last tick of a PWM period, with the feedback measured there as a fraction of 10.0 V.  An apply
accepted before this tick takes effect in it. -/
def execFanReload (n : Nat) (fb : Word) (s : State) : Out :=
  if 16 ≤ n ∨ !s.fanEn n ∨ s.dtb < (s.fan n).reloadAt then .next s
  else
    let page := fanPage n
    let due := s.acceptedBefore page
    let s1 := if due then State.fanApplied s (s.commitPage page) n else s
    let s2 := if s1.fanImode n = 2 then s1.setReg (Reg.FAN_SPD n) fb else s1
    .next (if s2.fanEn n then (s2.fanReload n).fanWatch n else s2)

/-! ### Monitoring (R366, R367) -/

/-- FAN_FAIL (R366): out of bounds for TFAIL without a break. -/
def execFanFail (n : Nat) (s : State) : Out :=
  let c := s.fan n
  match c.badSince with
  | none => .next s
  | some t =>
    if !s.fanEn n ∨ s.fanFailed n ∨ s.dtb < t + s.regF (Reg.FAN_MON n) 15 8 * 100000000 then .next s
    else
      let s1 := ((s.fanFlag n 27).fanFlag n 7).setRegB Reg.FAN_GSTAT n true
      let s2 := s1.setFan n { c with kickDue := s.dtb + 10000000000, goodSince := none }
      .next ((s2.emit Ev.FAN_FAIL 0 [w32 n, s.fanSpeed n, c.out]).fanGroupCheck n (s.fanGroup n))

/-- A failure ends. -/
def State.fanGood (s : State) (n : Nat) : State :=
  let s1 := (s.setRegB (Reg.FAN_STAT n) 27 false).setRegB Reg.FAN_GSTAT n false
  (s1.emit Ev.FAN_OK 0 [w32 n]).fanGroupCheck n (s.fanGroup n)

/-- FAN_OK (R366): 5 s within bounds without a break. -/
def execFanOk (n : Nat) (s : State) : Out :=
  match (s.fan n).goodSince with
  | none => .next s
  | some t => .next (if s.fanFailed n ∧ t + 5000000000 ≤ s.dtb then s.fanGood n else s)

/-- FAN_FAIL_KICK (R366). -/
def execFanFailKick (n : Nat) (s : State) : Out :=
  let c := s.fan n
  .next (if s.fanFailed n ∧ c.kickDue ≤ s.dtb then
      s.setFan n { c with kickReq := true, kickDue := c.kickDue + 10000000000 }
    else s)

/-- A write of CLEAR: FAILED clears and monitoring restarts from the next reload (R366, R375). -/
def State.fanClear (s : State) (n : Nat) : State :=
  let s1 := s.setFan n { s.fan n with restart := true, badSince := none, goodSince := none }
  if s.fanFailed n then s1.fanGood n else s1

def execFanClear (w : Who) (n : Nat) (s : State) : Out :=
  if 16 ≤ n then .next s else .next (s.access w (Reg.FAN_CMD n) fun s => s.fanClear n)

/-- TACHOMETER_PULSE (R366): the speed is taken over the last PPR intervals; a kick ends at the first speed of SMIN or
more (R365). -/
def execTachometerPulse (n : Nat) (s : State) : Out :=
  if 16 ≤ n ∨ !s.fanEn n ∨ s.fanImode n ≠ 1 then .next s
  else
    let c := s.fan n
    let ppr := s.regF (Reg.FAN_CFG n) 19 18 + 1
    let gaps := match c.lastPulse with
      | none => []
      | some t => if t + 1000000000 ≤ s.dtb then [] else ((s.dtb - t) :: c.gaps).take 4
    let used := gaps.take ppr
    let sum := used.foldl (· + ·) 0
    let spd := if sum = 0 then 0 else ratF (60000000000 * used.length) (ppr * sum)
    let ends := c.kick.isSome && !fpLtRat spd (s.regF (Reg.FAN_MON n) 31 16) 1
    let s1 := s.setFan n { c with gaps := gaps, lastPulse := some s.dtb, kickEnd := c.kickEnd || ends }
    .next ((s1.setReg (Reg.FAN_SPD n) spd).fanWatch n)

/-! ### Thermistor and table (R368, R369) -/

def State.fanT (s : State) (n i : Nat) : Word := ratF (sext 16 (s.regF (Reg.FAN_TAB n i) 31 16)) 10
def State.fanU (s : State) (n i : Nat) : Word := ratF (s.regF (Reg.FAN_TAB n i) 15 0) 1

/-- The autonomous table at a reading, in the order of R369. -/
def State.fanTable (s : State) (n : Nat) (t : Word) (fault : Bool) : Word :=
  let ten := ratF 10000 1
  if fault || !fltW t (s.fanT n 7) then divF (s.fanU n 7) ten
  else if fltW t (s.fanT n 0) then divF (s.fanU n 0) ten
  else
    let i := (List.range 7).foldl (fun i k => if fltW t (s.fanT n k) then i else k) 0
    let x := divF (subF t (s.fanT n i)) (subF (s.fanT n (i + 1)) (s.fanT n i))
    divF (addF (s.fanU n i) (mulF (subF (s.fanU n (i + 1)) (s.fanU n i)) x)) ten
where
  /-- A value below another. -/
  fltW (a b : Word) : Bool := decide (fpExact a < fpExact b)

/-- FAN_TS_SAMPLE (R368, R369): a reading below -50 degrees C is open, one above +175 a short. -/
def execFanTsSample (n : Nat) (t : Word) (s : State) : Out :=
  if 16 ≤ n ∨ !s.regB (Reg.FAN_CFG n) 23 then .next s
  else
    let isOpen := fpLtRat t (-50) 1
    let short := fpGtRat t 175 1
    let bad := isOpen || short
    let was := s.regB (Reg.FAN_STAT n) 26
    let s1 := s.setRegB (Reg.FAN_STAT n) 26 bad
    let s2 := if bad then s1.fanFlag n (if isOpen then 5 else 4) else s1
    let s3 := if bad && !was then s2.emit Ev.FAN_TS_FAULT 0 [w32 n, w32 short.toNat] else s2
    let s4 := s3.setReg (Reg.FAN_TS n) (if bad then fpNaN else t)
    .next (s4.setFan n { s4.fan n with tab := s4.fanTable n t bad })

/-! ### Faults (R371) and postures -/

/-- FAN_OUT_FAULT: a PWM output turns off and retries; a 0-10 V output goes on at its limit. -/
def execFanOutFault (n : Nat) (s : State) : Out :=
  if 16 ≤ n ∨ !s.fanEn n ∨ (s.fan n).outOff.isSome then .next s
  else
    let s1 := (s.fanFlag n 3).emit Ev.FAN_OUT_FAULT 0 [w32 n]
    .next (if s.fanAnalog n then s1 else s1.setFan n { s.fan n with outOff := some (s.dtb + 100000000) })

/-- FAN_OUT_RETRY. -/
def execFanOutRetry (n : Nat) (s : State) : Out :=
  let c := s.fan n
  match c.outOff with
  | none => .next s
  | some t => .next (if t ≤ s.dtb then s.setFan n { c with outOff := none } else s)

/-- FAN_SUP_FAULT. -/
def execFanSupFault (n : Nat) (s : State) : Out :=
  if 16 ≤ n ∨ !s.fanEn n ∨ (s.fan n).supOff.isSome then .next s
  else .next (((s.fanFlag n 2).emit Ev.FAN_SUP_FAULT 0 [w32 n]).setFan n { s.fan n with supOff := some (s.dtb + 1000000000) })

/-- FAN_SUP_RETRY. -/
def execFanSupRetry (n : Nat) (s : State) : Out :=
  let c := s.fan n
  match c.supOff with
  | none => .next s
  | some t => .next (if t ≤ s.dtb then s.setFan n { c with supOff := none } else s)

/-- FAN_HOLD_END (R370). -/
def execFanHoldEnd (n : Nat) (s : State) : Out :=
  let c := s.fan n
  match c.holdAt with
  | none => .next s
  | some t =>
    .next (if s.fanPosture n = 1 ∧ c.cmd = none ∧ t + (s.regF (Reg.FAN_CFG n) 15 8 * 10000000 : Nat) ≤ s.dtb then
        s.setFan n { c with holdOver := true }
      else s)

/-- The block after a reset that includes FAN (R509, R514): drivers stay in their postures. -/
def State.fanStart (s : State) : State :=
  { s with fans := s.fans.map fun (e : Nat × FanChan) => (e.1, { FanChan.reset with
      holdAt := e.2.holdAt, holdOver := e.2.holdOver, last := e.2.last, out := e.2.out, base := e.2.base, tab := e.2.tab,
      outOff := e.2.outOff, supOff := e.2.supOff, reloadAt := e.2.reloadAt, aboveAt := s.dtb }) }

/-- The agreement rules of a channel page (R375): 0, or the lowest that fails. -/
def State.fanAgree (s : State) (n : Nat) : Nat :=
  let cfg := s.shadow (Reg.FAN_CFG n)
  let pwm := s.shadow (Reg.FAN_PWM n)
  let kick := s.shadow (Reg.FAN_KICK n)
  let tab (i : Nat) : Word := s.shadow (Reg.FAN_TAB n i)
  let ticks := fld pwm 15 0 * 2 ^ fld pwm 18 16
  let rising := (List.range 7).all fun i => decide (sext 16 (fld (tab i) 31 16) < sext 16 (fld (tab (i + 1)) 31 16))
  let small := (List.range 8).all fun i => decide (fld (tab i) 15 0 ≤ 10000)
  if fld cfg 29 28 = 3 ∨ fld cfg 25 24 = 3 then 1
  else if ticks < 2500 ∨ 8388480 < ticks ∨ fld pwm 15 0 < 100 then 2
  else if (bitAt cfg 26 ∨ fld cfg 25 24 = 2) ∧ !(bitAt cfg 23 && rising && small) then 3
  else if fld cfg 25 24 = 1 ∧ (fld cfg 15 8 < 1 ∨ 200 < fld cfg 15 8) then 4
  else if fld cfg 22 20 ≠ 0 ∧ fld cfg 29 28 = 0 then 5
  else if fld kick 15 0 ≠ 0 ∧ fld kick 31 24 ≤ fld kick 23 16 then 6
  else 0

end Sys2Proof.Machine
end

