-- ==== Sys2Proof/Machine/KeyWire.lean ====
section
/-! DEFINITION. Key-link frames as bits of the wire, and the receivers that find them (R390, R392 to R394 of 11_isolated_io.md). -/
namespace Sys2Proof.Machine

/-! ### Bits and fields (R390) -/

/-- The low `n` bits of a number, the least significant first. -/
def bitsLsb : Nat → Nat → List Bool
  | 0, _ => []
  | n + 1, v => (v % 2 == 1) :: bitsLsb n (v / 2)

/-- The number that bits spell, the least significant first. -/
def ofLsb (bs : List Bool) : Nat := bs.foldr (fun b a => 2 * a + b.toNat) 0

/-- Fields of a frame, each a width in bits and a value, in ascending offset. -/
def fieldBits (fs : List (Nat × Nat)) : List Bool := fs.flatMap fun e => bitsLsb e.1 e.2

/-- A field of a frame: its first bit, counted from the first bit of SYNC, and its width. -/
def fieldAt (bits : List Bool) (off w : Nat) : Nat := ofLsb ((bits.drop off).take w)

/-- The CRC-32 of bits in the order they are sent (R392). -/
def keyCrc (bs : List Bool) : Nat := bs.foldl (fun c b => crcBit (c ^^^ b.toNat)) 0xFFFFFFFF ^^^ 0xFFFFFFFF

/-- The 2,500 bits of a frame: SYNC, bytes 4 to 307, the CRC over them, and the tail 1, 0, 1, 0. -/
def keyBits (sync : Nat) (body : List Bool) : List Bool :=
  bitsLsb 32 sync ++ body ++ bitsLsb 32 (keyCrc body) ++ [true, false, true, false]

def downSync : Nat := 0x3C5A1E69
def upSync : Nat := 0x52C3A74B

/-! ### The downstream frame (Table 11.6) -/

/-- One of the 16 CFG slots. -/
def slotFields : Option (Nat × Word × Word) → List (Nat × Nat)
  | none => [(8, 0xFF), (72, 0)]
  | some (n, cfg, tim) => [(8, n), (8, 0), (32, cfg.toNat), (32, tim.toNat)]

/-- Bytes 4 to 307 of a downstream frame. -/
def downBody (f : KeyFrame) : List Bool :=
  fieldBits ([(16, f.seq), (16, f.run.toNat + 2 * f.apply.toNat)]
    ++ f.outs.map (fun o => (16, o.1.toNat * 0x8000 + o.2))
    ++ [(32, f.common.toNat), (64, 0)] ++ f.slots.flatMap slotFields)

def downBits (f : KeyFrame) : List Bool := keyBits downSync (downBody f)

/-- A CFG slot as it was received. -/
def readSlot (bits : List Bool) (i : Nat) : Option (Nat × Word × Word) :=
  let o := 1184 + 80 * i
  let n := fieldAt bits o 8
  if n < 64 then some (n, w32 (fieldAt bits (o + 16) 32), w32 (fieldAt bits (o + 48) 32)) else none

/-- What a received downstream frame says; CLEARs travel beside it. -/
def readDown (bits : List Bool) (start : Nat) (clears : List Nat) : KeyFrame :=
  { seq := fieldAt bits 32 16, start := start, run := fieldAt bits 48 1 == 1, apply := fieldAt bits 49 1 == 1,
    outs := (List.range 64).map fun n => (fieldAt bits (79 + 16 * n) 1 == 1, fieldAt bits (64 + 16 * n) 15),
    common := w32 (fieldAt bits 1088 32), slots := (List.range 16).map (readSlot bits), clears := clears }

/-! ### The upstream frame (Table 11.7) -/

/-- Bytes 4 to 307 of an upstream frame. -/
def upBody (u : UpFrame) (v : UpValues) : List Bool :=
  fieldBits ([(16, u.seq), (16, u.echo), (1, u.locked.toNat), (1, u.checked.toNat), (1, u.safe.toNat),
      (1, (decide (v.fv < 1800)).toNat), (12, 0), (16, v.fv), (16, v.temp), (64, v.ins)]
    ++ v.chst.map (fun c => (16, c)) ++ u.counts.map (fun w => (32, w.toNat)) ++ u.freqs.map (fun w => (32, w.toNat))
    ++ [(16, u.dcrc), (16, u.safeCnt), (208, 0)])

def upBits (u : UpFrame) (v : UpValues) : List Bool := keyBits upSync (upBody u v)

/-- What a received upstream frame says. -/
def readUp (bits : List Bool) (start : Nat) : UpFrame × UpValues :=
  let flag (i : Nat) : Bool := fieldAt bits i 1 == 1
  let chst := (List.range 64).map fun n => fieldAt bits (176 + 16 * n) 16
  ({ seq := fieldAt bits 32 16, start := start, echo := fieldAt bits 48 16, locked := flag 64, checked := flag 65,
     safe := flag 66, levels := [], cfgs := [], common := 0, chst := chst,
     counts := (List.range 16).map fun n => w32 (fieldAt bits (1200 + 32 * n) 32),
     freqs := (List.range 16).map fun n => w32 (fieldAt bits (1712 + 32 * n) 32),
     dcrc := fieldAt bits 2224 16, safeCnt := fieldAt bits 2240 16 },
   { ins := fieldAt bits 112 64, fv := fieldAt bits 80 16, temp := fieldAt bits 96 16, chst := chst })

/-! ### The receivers (R392, R394) -/

/-- What a receiver makes of a frame it ends: a valid frame, with the passes in a row carrying RUN 1 where it brought the receiver
into lock; or, in lock, an invalid one, whose CRC failed or not. -/
inductive KeyGot where
  | valid (bits : List Bool) (entry : Option Nat)
  | bad (crc : Bool)
  deriving DecidableEq, Repr

/-- Whether the CRC of a frame's first 2,496 bits passes. -/
def crcPasses (bits : List Bool) : Bool := keyCrc ((bits.drop 32).take 2432) == fieldAt bits 2464 32

/-- Whether a frame's SEQ is one more than the one before it. -/
def seqFollows (bits : List Bool) (last : Nat) : Bool := fieldAt bits 32 16 == (last + 1) % 0x10000

/-- A candidate or the frame in lock with one more bit; after the tail bits the next frame begins. -/
def KeyCand.push (c : KeyCand) (b : Bool) : KeyCand :=
  if c.n = 2499 then { c with n := 0, got := [] } else { c with n := c.n + 1, got := b :: c.got }

/-- A candidate whose last CRC bit has come: it passes, or is dropped. -/
def KeyCand.test (c : KeyCand) : Option KeyCand :=
  let bits := c.got.reverse
  let first := c.passes == 0
  if crcPasses bits && (first || seqFollows bits c.seq) then
    some { c with passes := c.passes + 1, seq := fieldAt bits 32 16, run := if fieldAt bits 48 1 = 1 then c.run + 1 else 0 }
  else none

/-- A candidate after one bit in SEARCH. -/
def KeyCand.step (b : Bool) (c : KeyCand) : Option KeyCand :=
  let c1 := c.push b
  if c1.n = 2496 then c1.test else some c1

/-- One bit in SEARCH: the candidates are tested, and 32 bits that equal SYNC start one at an offset that has none, while fewer
than 8 run. -/
def KeyRx.searchBit (sync : Nat) (r : KeyRx) (b : Bool) : KeyRx × Option KeyGot :=
  let cands := r.cands.filterMap (KeyCand.step b)
  match cands.find? fun c => decide (3 ≤ c.passes) with
  | some c => ({ KeyRx.reset with lock := some c }, some (.valid c.got.reverse (some c.run)))
  | none =>
    let seen := sat 32 (r.seen + 1)
    let reg := r.reg / 2 + b.toNat * 0x80000000
    let starts := decide (seen = 32 ∧ reg = sync ∧ cands.length < 8) && cands.all fun c => c.n != 32
    ({ r with seen := seen, reg := reg,
              cands := if starts then cands ++ [⟨32, (bitsLsb 32 sync).reverse, 0, 0, 0⟩] else cands }, none)

/-- One bit in lock: each frame is checked at the expected offset; three invalid frames in a row end the lock (R394). -/
def KeyRx.lockBit (sync : Nat) (r : KeyRx) (c : KeyCand) (b : Bool) : KeyRx × Option KeyGot :=
  let c1 := c.push b
  if c1.n ≠ 2496 then ({ r with lock := some c1 }, none)
  else
    let bits := c1.got.reverse
    if decide (r.bad < 3) && fieldAt bits 0 32 == sync && crcPasses bits && seqFollows bits c.seq then
      ({ r with lock := some { c1 with seq := fieldAt bits 32 16 }, bad := 0 }, some (.valid bits none))
    else ({ r with lock := some c1, bad := r.bad + 1 }, some (.bad (!crcPasses bits)))

def KeyRx.bit (sync : Nat) (r : KeyRx) (b : Bool) : KeyRx × Option KeyGot :=
  match r.lock with
  | some c => r.lockBit sync c b
  | none => r.searchBit sync b

/-- Bits that reach a receiver, and what it makes of them. -/
def KeyRx.feed (sync : Nat) : KeyRx → List Bool → KeyRx × List KeyGot
  | r, [] => (r, [])
  | r, b :: t =>
    let x := r.bit sync b
    let y := x.1.feed sync t
    (y.1, x.2.toList ++ y.2)

def KeyRx.locked (r : KeyRx) : Bool := r.lock.isSome

/-- The return to SEARCH, at the bit after the expected end of the third invalid frame. -/
def KeyRx.search (sync : Nat) (r : KeyRx) : KeyRx :=
  match r.lock with
  | some c => if r.bad < 3 then r else (KeyRx.reset.feed sync (if c.n < 2496 then c.got.reverse else [])).1
  | none => r

/-- The bits of a frame that reach a receiver: bits that began before the receiver ran are missed, and those at `flips` arrive
inverted.  A bit lasts 8 ns. -/
def heard (start runsFrom : Nat) (flips : List Nat) (bits : List Bool) : List Bool :=
  (bits.zipIdx.map fun (e : Bool × Nat) => e.1 != flips.contains e.2).drop ((runsFrom - start + 7) / 8)

end Sys2Proof.Machine
end

