-- ==== Sys2Proof/Machine/KeyLink.lean ====
section
/-! DEFINITION. The isolated digital I/O: the Key link, the logic side and the field side (R376 to R401 of
11_isolated_io.md). -/
namespace Sys2Proof.Machine

def dioPage (n : Nat) : Nat := 0x40501000 + 0x1000 * n
def dioCommonPage : Nat := 0x40500000
def allIo : List Nat := List.range 64

/-- The length of a Key-link frame, ns (R390). -/
def keyFrameNs : Nat := 20000

def State.setDio (s : State) (x : DioSt) : State := { s with dio := x }
def State.setField (s : State) (x : FieldSide) : State := { s with dio := { s.dio with field := x } }
def FieldSide.chan (f : FieldSide) (n : Nat) : FieldChan := mget FieldChan.off n f.chans
def FieldSide.setChan (f : FieldSide) (n : Nat) (c : FieldChan) : FieldSide := { f with chans := mset FieldChan.off n c f.chans }
def State.fch (s : State) (n : Nat) : FieldChan := s.dio.field.chan n
def State.setFch (s : State) (n : Nat) (c : FieldChan) : State := s.setField (s.dio.field.setChan n c)

/-- Fields of a DIO_CFG word. -/
def ioEn (w : Word) : Bool := bitAt w 31
def ioOut (w : Word) : Bool := bitAt w 30
def ioPwm (w : Word) : Bool := bitAt w 29
def ioCmode (w : Word) : Nat := fld w 23 22
def ioHold (w : Word) : Bool := bitAt w 21
def ioPar (w : Word) : Bool := bitAt w 20
def ioRetry (w : Word) : Nat := fld w 18 16

def State.ioCfg (s : State) (n : Nat) : Word := s.reg (Reg.DIO_CFG n)

/-- Whether a channel is an output, and whether it is the odd one of a pair (R376, R386). -/
def State.ioIsOut (s : State) (n : Nat) : Bool := ioOut (s.ioCfg n)
def State.ioPaired (s : State) (n : Nat) : Bool := n % 2 == 1 && ioPar (s.ioCfg (n - 1))

/-- Whether the channel drives an output of its own: enabled, an output and not the odd one of a pair. -/
def State.ioDrives (s : State) (n : Nat) : Bool := ioEn (s.ioCfg n) && s.ioIsOut n && !s.ioPaired n

/-- Whether a slot's channel is an output: an IO channel configured as an input has no owner (R96, R376). -/
def State.slotIsOut (s : State) (n : Nat) : Bool := decide (n < 40) || s.ioIsOut (n - 40)

/-! ### Downstream (R383, R391 to R393) -/

/-- q of a duty fraction (R383): u clamped to 0.0 to 1.0, times 32,767, ties to even. -/
def ioQ (u : Word) : Nat :=
  if fpLtRat u 0 1 then 0
  else if fpGtRat u 1 1 then 32767
  else
    let p := (fpExact u).toNat * 32767
    let d := 2 ^ 149
    let q := p / d
    let r := 2 * (p % d)
    if d < r ∨ (r = d ∧ q % 2 = 1) then q + 1 else q

/-- What a channel's slot commands: full scale for on and 0 for off with OMODE on/off. -/
def State.ioValue (s : State) (n : Nat) (u : Word) : Nat :=
  if ioPwm (s.ioCfg n) then ioQ u else if fpLtRat u 1 2 then 0 else 32767

/-- A channel's slot value taken up at the boundary of its loop: CLAMP is set by a duty outside 0.0 to 1.0 (R383). -/
def State.ioCommand (s : State) (n : Nat) (u : Word) : State :=
  if s.ioDrives n && ioPwm (s.ioCfg n) && (fpLtRat u 0 1 || fpGtRat u 1 1) then s.setRegB (Reg.DIO_STAT n) 8 true else s

/-- POST and q of a channel (Table 11.6): 0 for an input, a disabled or a paired odd channel; POST while its slot keeps no
value. -/
def State.ioOutField (s : State) (n : Nat) : Bool × Nat :=
  if !s.ioDrives n then (false, 0)
  else if s.dio.island ≠ 0 then (!s.permissive (40 + n), 0)
  else match (s.slot (40 + n)).value with
    | none => (true, 0)
    | some u => (false, s.ioValue n u)

/-- A channel's CFG record: a permissive's POSTURE is sent as OFF (R516). -/
def State.ioRecord (s : State) (n : Nat) : Nat × Word × Word :=
  (n, if s.permissive (40 + n) then setBit (s.ioCfg n) 21 false else s.ioCfg n, s.reg (Reg.DIO_TIM n))

/-- The downstream frame that starts now (R392, R393, R395, R514). -/
def State.keyFrame (s : State) : KeyFrame :=
  let d := s.dio
  let seq := d.seq
  let rot := (List.range 8).map fun i => 8 * (seq % 8) + i
  { seq := seq, start := s.dtb / keyFrameNs * keyFrameNs,
    run := if d.island = 1 then true else d.island == 0 && !d.held && !s.shed 5,
    apply := !d.applied.isEmpty, outs := allIo.map s.ioOutField,
    common := if d.island ≠ 0 ∨ d.held then d.common else s.reg Reg.DIO_KCFG,
    slots := if d.island ≠ 0 ∨ d.held then List.replicate 16 none else
      (d.applied.take 8).map (fun n => some (s.ioRecord n)) ++ List.replicate (8 - d.applied.length) none ++
        rot.map fun n => some (s.ioRecord n),
    clears := d.clears }

/-- Whether a configuration restarts a counter's gate: an enable, or a changed CMODE, GATE or FILT (R382). -/
def gateRestarts (cfg0 tim0 cfg1 tim1 : Word) : Bool :=
  ioCmode cfg0 != ioCmode cfg1 || (!ioEn cfg0 && ioEn cfg1) || fld tim0 31 30 != fld tim1 31 30 ||
    fld cfg0 26 24 != fld cfg1 26 24

/-- The slot of a channel that has become an input has no owner (R376). -/
def State.ioDisown (s : State) (n : Nat) : State :=
  if s.ioIsOut n then s else s.setSlot (40 + n) { s.slot (40 + n) with owner := none, value := none, next := [] }

/-- What an apply of a channel page does beside the new values: the next frame carries the page, FVALID is 0 until a gate has
ended since, and an input's slot loses its owner (R376, R382, R393). -/
def State.ioApplied (old s : State) (n : Nat) : State :=
  let d := s.dio
  let low := d.applied.filter fun k => decide (k < n)
  let high := d.applied.filter fun k => decide (n < k)
  let s1 := s.setDio { d with applied := low ++ n :: high }
  let s2 := if gateRestarts (old.ioCfg n) (old.reg (Reg.DIO_TIM n)) (s.ioCfg n) (s.reg (Reg.DIO_TIM n)) then
      (s1.setDio { s1.dio with regate := mset 0 n s.dtb s1.dio.regate }).setRegB (Reg.DIO_STAT n) 26 false
    else s1
  (s2.ioDisown n).storeReq 4

def State.ioCommonApplied (s : State) : State := s.storeReq 4

/-- A pending DIO page that was accepted before this frame takes effect at its start (Table 1.7). -/
def State.ioApplyPage (s : State) (page : Nat) : State :=
  if s.acceptedBefore page then
    let s1 := s.commitPage page
    if page = dioCommonPage then s1.ioCommonApplied else State.ioApplied s s1 ((page - 0x40501000) / 0x1000)
  else s

/-- A channel's STATE code from its configuration, its command and the status word of the last valid upstream frame. -/
def State.ioState (s : State) (n chst : Nat) : Nat :=
  let w := s.ioCfg n
  if !ioEn w then 0
  else if !ioOut w then 1
  else if chst / 32 % 2 = 1 then 5
  else if chst % 4 ≠ 0 ∨ chst / 16 % 2 = 1 then 6
  else if ioPwm w then 4
  else match (s.slot (40 + n)).value with
    | none => 2
    | some u => if s.ioValue n u = 0 then 2 else 3

/-- The STATE fields brought up to date; the odd channel of a pair shows the even one's state with PAIRED (R386). -/
def State.ioShow (s : State) : State :=
  allIo.foldl (fun s n =>
    let m := if s.ioPaired n then n - 1 else n
    let st := Reg.DIO_STAT n
    s.setReg st (setBit (setFld (s.reg st) 31 28 (s.ioState m (s.dio.chst.getD m 0))) 24 (s.ioPaired n))) s

/-- KEY_DOWNSTREAM_FRAME (R391): applies take effect, then the frame is formed.  During a relock none takes effect and none is sent
(Table 15.3) but the island's first, which the relock does not delay (R506, R517). -/
def execKeyDownstreamFrame (s : State) : Out :=
  if s.dtb < s.dio.nextDown ∨ (s.onSafe ∧ s.dio.island ≠ 1) then .next s
  else
    let s1 := if s.onSafe then s else (dioCommonPage :: allIo.map dioPage).foldl State.ioApplyPage s
    let f := s1.keyFrame
    let d := s1.dio
    let s2 := s1.setDio { d with
      seq := (d.seq + 1) % 0x10000, nextDown := f.start + keyFrameNs, flight := d.flight ++ [f], clears := [], applied := [],
      island := if d.island = 1 then 2 else d.island }
    .next s2.ioShow

/-! ### The field side (R385 to R396) -/

/-- The field side's LOSS. -/
def FieldSide.loss (f : FieldSide) : Nat := fld f.common 12 0

/-- The even channel of a pair stands for both. -/
def FieldSide.lead (f : FieldSide) (n : Nat) : Nat := if n % 2 = 1 ∧ ioPar (f.chan (n - 1)).cfg then n - 1 else n

/-- The blanking time of a channel, ns (R387). -/
def blankNs (cfg : Word) : Nat := [10000, 50000, 200000, 1000000, 5000000].getD (fld cfg 2 0) 10000

/-- The switch turned on or off.  A turn-on that has passed its check, which ends 5 µs of gate ramp and BLANK after it with 2 µs to
turn off, has restarted the count of failed retries (R384, R387). -/
def FieldChan.switch (c : FieldChan) (now : Nat) (on : Bool) : FieldChan :=
  let c1 := if c.on && decide (c.onAt + 7000 + blankNs c.cfg ≤ now) then { c with fails := 0, retry := false } else c
  { c1 with on := on, onAt := if on && !c.on then now else c.onAt }

/-- A turn-on asked for, or the switch turned off: a latched, shorted or hot channel stays off. -/
def FieldChan.drive (c : FieldChan) (now : Nat) (want : Bool) : FieldChan :=
  if !want then { c.switch now false with want := false, short := c.latch, waitTill := none, retry := false }
  else { c.switch now (c.on || (!c.latch && c.waitTill.isNone && !c.ot)) with want := true }

/-- A channel takes posture (R389): OFF, or HOLD of its present state for HOLDT × 10 ms; a further cause restarts nothing. -/
def FieldChan.posture (c : FieldChan) (now : Nat) : FieldChan :=
  if c.inPost || !ioOut c.cfg then c
  else if ioHold c.cfg then { c with inPost := true, holdAt := now, holdNs := some (fld c.cfg 15 8 * 10000000) }
  else { c.drive now false with inPost := true, holdAt := now }

/-- The command of a frame: an on command after an off command ends a latch, with its short (R387). -/
def FieldChan.command (c : FieldChan) (q : Nat) : FieldChan :=
  let c1 := if q != 0 && !c.cmdOn && c.latch then { c with latch := false, short := false, fails := 0 } else c
  { c1 with cmdOn := q != 0, q := q, inPost := false, holdNs := none }

/-- A channel's value in a frame it follows (R383): while PWM is in force it waits for the reload. -/
def FieldChan.value (c : FieldChan) (now q : Nat) : FieldChan :=
  let c1 := c.command q
  if c.pwm then c1 else c1.drive now (q != 0)

/-- The PWM period of a PER and PSC, ns. -/
def pwmNs (per psc : Nat) : Nat := max 1 (per * 2 ^ psc * 8)

/-- The PWM reload ticks up to an instant (R364, R383, R399): PER and d load as one pair, the command taken up with them, and OMODE
on/off acts at the end of a period.  A channel in posture keeps its duty and period (R389). -/
def FieldChan.reload (c : FieldChan) (now : Nat) : FieldChan :=
  if !c.pwm || decide (now < c.reloadAt) then c
  else
    let next (p : Nat) : Nat := c.reloadAt + ((now - c.reloadAt) / p + 1) * p
    if c.inPost then { c with reloadAt := next (pwmNs c.loaded.1 c.loaded.2.1) }
    else
      let per := fld c.tim 15 0
      let psc := fld c.tim 18 16
      { c.drive c.reloadAt c.cmdOn with
        pwm := ioPwm c.cfg, reloadAt := next (pwmNs per psc), loaded := (per, psc, (c.q * per + 16383) / 32767) }

/-- A record acts on a channel (R380, R382, R393): a changed CMODE restarts COUNT; a changed CMODE, GATE or FILT, or an
enable, restarts the gate; a changed SAMP starts the filter's run of samples anew (R378); OMODE PWM starts a period. -/
def FieldChan.record (c : FieldChan) (cfg tim : Word) (now : Nat) : FieldChan :=
  let mode := ioCmode c.cfg != ioCmode cfg
  let gate := gateRestarts c.cfg c.tim cfg tim
  let c1 := { c with cfg := cfg, tim := tim, count := if mode then 0 else c.count, opened := c.opened && bitAt cfg 19,
                     diff := if bitAt c.cfg 27 = bitAt cfg 27 then c.diff else 0 }
  let c2 := if gate then { c1 with gated := false, fovr := false, edges := 0, freq := 0, latest := none, lastGate := now } else c1
  if ioEn cfg && ioOut cfg then (if !c2.pwm && ioPwm cfg then { c2 with pwm := true, reloadAt := now } else c2)
  else { c2.drive now false with inPost := false, holdNs := none, cmdOn := false, pwm := false }

/-- A CLEAR carried by a frame: SHORTLATCH ends, and COUNT restarts (R380, R387). -/
def FieldChan.clear (c : FieldChan) (now : Nat) : FieldChan :=
  let c1 := { c with latch := false, fails := 0, count := 0, short := c.short && !c.latch }
  if c.latch && c.want then c1.drive now true else c1

/-- The channels the field side knows. -/
def FieldSide.mapOut (f : FieldSide) (g : Nat → FieldChan → FieldChan) : FieldSide :=
  allIo.foldl (fun f n => if ioEn (f.chan n).cfg && ioOut (f.chan n).cfg then f.setChan n (g n (f.chan n)) else f) f

/-- The PWM channels brought up to an instant. -/
def FieldSide.reloaded (f : FieldSide) (now : Nat) : FieldSide :=
  allIo.foldl (fun f n => if (f.chan n).pwm then f.setChan n ((f.chan n).reload now) else f) f

/-- Every output takes posture and SAFE is set (R395). -/
def FieldSide.toSafe (f : FieldSide) (now : Nat) : FieldSide :=
  { ((f.reloaded now).mapOut fun _ c => c.posture now) with
    safe := true, safeCnt := if f.safe then f.safeCnt else (f.safeCnt + 1) % 0x10000, checked := false, run := 0 }

/-- The records, COMMON and CLEARs of a valid frame (R393); where the time of a new LOSS, measured from the last valid frame, has
already passed, posture is taken at once (R399). -/
def FieldSide.configure (f : FieldSide) (k : KeyFrame) (now : Nat) : FieldSide :=
  let f1 := (k.slots.filterMap id).foldl (fun f (e : Nat × Word × Word) =>
    f.setChan e.1 ((f.chan e.1).record e.2.1 e.2.2 now)) (f.reloaded now)
  let f2 := k.clears.foldl (fun f n => f.setChan n ((f.chan n).clear now)) { f1 with common := k.common, echo := k.seq }
  let f3 := if !f.safe && decide (f.lastValid + f2.loss * keyFrameNs < now) then f2.toSafe now else f2
  { f3 with lastValid := now }

/-- A valid frame acts at the field apply instant: the records, COMMON and CLEARs, then RUN, values and POST, a PWM period that
starts with the frame's value (R393, R395, R396, R399). -/
def FieldSide.act (f : FieldSide) (k : KeyFrame) (now run : Nat) : FieldSide :=
  let f2 := f.configure k now
  if !k.run then f2.toSafe now
  else
    let done := f2.checked || decide (f2.loss ≤ run)
    let f3 := { f2 with run := run, checked := done, checkAt := if done && !f2.checked then now else f2.checkAt,
                        safe := f2.safe && !done }
    if !done then f3.mapOut fun _ c => c.posture now
    else (f3.mapOut fun n c =>
      let v := k.outs.getD n (false, 0)
      if v.1 then c.posture now else c.value now v.2).reloaded now

/-- The channels of a block that can hold a posture: 24 of SV, 16 of FAN, and the outputs of DIO. -/
def State.postureCount (s : State) (b : Nat) : Nat :=
  if b = 4 then 24 else if b = 5 then 16 else (allIo.filter s.ioIsOut).length

/-- The reset postures end, and CTL_POSTURE_RELEASE is recorded (R515). -/
def State.endPostures (s : State) : State :=
  if s.ctl.posts.isEmpty then s
  else
    let n := (s.ctl.posts.map s.postureCount).sum
    ({ s with ctl := { s.ctl with posts := [] } }).emit Ev.CTL_POSTURE_RELEASE 0 (dtbWords s.dtb ++ [w32 n])

/-- What the field side does with a frame its receiver has ended (R392, R395, R396): the frames that bring it into lock count
toward the Key-link check, and an invalid one ends the run. -/
def FieldSide.heed (now start : Nat) (clears : List Nat) (f : FieldSide) : KeyGot → FieldSide
  | .bad crc => { f with run := 0, dcrc := if crc then (f.dcrc + 1) % 0x10000 else f.dcrc }
  | .valid bits entry =>
    let k := readDown bits start clears
    f.act k now (if k.run then entry.getD (f.run + 1) else 0)

/-- KEY_FIELD_APPLY (R390 to R396): the oldest frame under way reaches the field side, the bits at `flips` inverted on the barrier, and a
valid one acts. -/
def execKeyFieldApply (flips : List Nat) (s : State) : Out :=
  match s.dio.flight with
  | [] => .next s
  | k :: later =>
    if s.dtb < k.start + 21000 then .next s
    else
      let s0 := s.setDio { s.dio with flight := later }
      let f := s.dio.field
      if !f.powered then .next s0
      else
        let r := f.rx.feed downSync (heard k.start f.upAt flips (downBits k))
        let f1 := r.2.foldl (FieldSide.heed s.dtb k.start k.clears) { f with rx := r.1 }
        let s1 := s0.setField f1
        .next (if f1.checked && !f.checked && !s.dio.held then s1.endPostures else s1)

/-- KEY_FIELD_LOSS (R395): no valid frame for LOSS frame times; a frame to be applied by that instant comes first (R399). -/
def execKeyFieldLoss (s : State) : Out :=
  let f := s.dio.field
  let end_ := f.lastValid + f.loss * keyFrameNs
  if !f.powered || f.safe || decide (s.dtb < end_) || s.dio.flight.any (fun k => decide (k.start + 21000 ≤ end_)) then .next s
  else .next (s.setField (f.toSafe s.dtb))

/-- DIO_KSTAT.USTATE of a receiver. -/
def KeyRx.ustate (r : KeyRx) : Nat := if r.locked then 2 else if r.cands.isEmpty then 0 else 1

/-- KEY_RECEIVER_SEARCH (R394): `up` names the logic side's receiver. -/
def execKeyReceiverSearch (up : Bool) (s : State) : Out :=
  if up then
    let s1 := s.setDio { s.dio with rx := s.dio.rx.search upSync }
    .next (s1.setRegF Reg.DIO_KSTAT 31 30 s1.dio.rx.ustate)
  else .next (s.setField { s.dio.field with rx := s.dio.field.rx.search downSync })

/-- FIELD_SIDE_START (R398): `v` in 10 mV; every output in posture OFF, and LOSS at its reset value (R395). -/
def execFieldSideStart (v : Nat) (s : State) : Out :=
  .next (if !s.dio.field.powered && decide (1600 < v) then
      s.setField { FieldSide.dark with powered := true, common := keyCommonReset, lastValid := s.dtb, upAt := s.dtb }
    else s)

/-- FIELD_SIDE_STOP (R398). -/
def execFieldSideStop (v : Nat) (s : State) : Out :=
  .next (if s.dio.field.powered && decide (v < 1500) then
      (s.setField FieldSide.dark).setDio { s.dio with field := FieldSide.dark, up := [] }
    else s)

/-- A field-side channel brought up to now: its PWM reloads have come. -/
def State.fchNow (s : State) (n : Nat) : FieldChan := (s.fch n).reload s.dtb

/-- DIO_SHORT (R387): the drain check failed, or, once on, the switch stayed 20 µs in current limit. -/
def execDioShort (n : Nat) (check : Bool) (s : State) : Out :=
  let m := s.dio.field.lead n
  let c := s.fchNow m
  if !s.dio.field.powered || !c.on then .next s
  else
    let fails := sat 7 ((if check then c.fails else 0) + (check && c.retry).toNat)
    let latch := decide (ioRetry c.cfg ≤ fails)
    .next (s.setFch m { c with on := false, short := true, latch := latch, fails := fails, retry := false,
                               waitTill := if latch then none else some (s.dtb + 10000000) })

/-- DIO_SHORT_RETRY (R387): after 10 ms, where the channel is still to be on. -/
def execDioShortRetry (n : Nat) (s : State) : Out :=
  let c := s.fchNow n
  match c.waitTill with
  | none => .next s
  | some t =>
    if s.dtb < t then .next s
    else .next (s.setFch n { ({ c with waitTill := none }).drive s.dtb c.want with short := false, retry := c.want })

/-- DIO_OPEN_LOAD_TEST (R388): `r` is 0 where the test finds nothing, 1 for an open load, 2 for a short to a supply, which can be
found only while off. -/
def execDioOpenLoadTest (n r : Nat) (s : State) : Out :=
  let c := s.fchNow n
  if !s.dio.field.powered || !ioEn c.cfg || !ioOut c.cfg || !bitAt c.cfg 19 then .next s
  else .next (s.setFch n { c with opened := r == 1, vshort := r == 2 && !c.on })

/-- DIO_OT (R385). -/
def execDioOt (n : Nat) (s : State) : Out :=
  let m := s.dio.field.lead n
  let c := s.fchNow m
  .next (if s.dio.field.powered && ioOut c.cfg then s.setFch m { c.switch s.dtb false with ot := true } else s)

/-- DIO_OT_RESTART (R385): cooled by 15 degrees. -/
def execDioOtRestart (n : Nat) (s : State) : Out :=
  let m := s.dio.field.lead n
  let c := s.fchNow m
  .next (if c.ot then s.setFch m (({ c with ot := false }).drive s.dtb c.want) else s)

/-- DIO_HOLD_END (R389): the length is that of the HOLD as it was taken, whatever the record says since. -/
def execDioHoldEnd (n : Nat) (s : State) : Out :=
  let c := s.fchNow n
  match c.holdNs with
  | none => .next s
  | some h =>
    if c.inPost && c.want && decide (c.holdAt + (h : Int) ≤ s.dtb) then .next (s.setFch n { c.drive s.dtb false with holdNs := none })
    else .next s

/-- A write of CLEAR: carried in the next downstream frame. -/
def State.ioClear (s : State) (n : Nat) : State := s.setDio { s.dio with clears := n :: s.dio.clears.filter fun k => k != n }

def execDioClear (w : Who) (n : Nat) (s : State) : Out :=
  if 64 ≤ n then .next s else .next (s.access w (Reg.DIO_CMD n) fun s => s.ioClear n)

/-! ### The input filter (R378) -/

/-- The sampling period of an input, ns: 125 ns, or PSPER × 100 µs with SAMP pulsed. -/
def FieldSide.samplePeriod (f : FieldSide) (c : FieldChan) : Nat :=
  if bitAt c.cfg 27 then max 1 (fld f.common 23 16) * 100000 else 125

/-- The samples in a row that differ from the filtered state before it takes their value: those of the filter time of Table 11.2,
or 2 with SAMP pulsed. -/
def FieldChan.filterSamples (c : FieldChan) : Nat :=
  if bitAt c.cfg 27 then 2 else [2, 8, 16, 80, 800, 8000, 24000, 80000].getD (fld c.cfg 26 24) 2

/-- A run of equal raw samples, `at_` samples after the first: the filtered state after it, and the edge it forms, if any, by the
number of its sample. -/
def FieldChan.filterRun (c : FieldChan) (at_ : Nat) (raw : Bool) (len : Nat) : FieldChan × List (Nat × Bool) :=
  let need := c.filterSamples
  if len = 0 then (c, [])
  else if raw = c.level then ({ c with raw := raw, diff := 0 }, [])
  else if c.diff + len < need then ({ c with raw := raw, diff := c.diff + len }, [])
  else ({ c with raw := raw, level := raw, diff := 0 }, [(at_ + (need - c.diff), raw)])

/-- Runs of raw samples in turn. -/
def FieldChan.filterRuns : FieldChan → Nat → List (Bool × Nat) → FieldChan × List (Nat × Bool)
  | c, _, [] => (c, [])
  | c, at_, (raw, len) :: t =>
    let x := c.filterRun at_ raw len
    let y := x.1.filterRuns (at_ + len) t
    (y.1, x.2 ++ y.2)

/-- Runs without their first samples. -/
def dropSamples : Nat → List (Bool × Nat) → List (Bool × Nat)
  | _, [] => []
  | k, (raw, len) :: t => if k < len then (raw, len - k) :: t else dropSamples (k - len) t

/-- The samples of an input up to an instant: `runs` are the latest raw ones, in order, and those before them equal the last one
known.  The channel after them, and the filtered edges with their instants. -/
def FieldSide.sampleTo (f : FieldSide) (c : FieldChan) (now : Nat) (runs : List (Bool × Nat)) : FieldChan × List (Nat × Bool) :=
  let p := f.samplePeriod c
  let due := now / p - c.smpAt / p
  let given := (runs.map Prod.snd).sum
  let all := if given ≤ due then (c.raw, due - given) :: runs else dropSamples (given - due) runs
  let x := ({ c with smpAt := now }).filterRuns 0 all
  (x.1, x.2.map fun e => ((c.smpAt / p + e.1) * p, e.2))

/-! ### Counters (R380, R381) -/

/-- Whether a channel counts. -/
def FieldChan.counts (c : FieldChan) : Bool := ioEn c.cfg && !ioOut c.cfg && !bitAt c.cfg 27 && ioCmode c.cfg != 0

/-- A filtered edge of a counter, at an instant: CMODE 1 counts rising, 2 falling, 3 both. -/
def FieldChan.edge (c : FieldChan) (e : Nat × Bool) : FieldChan :=
  if ioCmode c.cfg == 3 || (ioCmode c.cfg == 1) == e.2 then
    let t := e.1 / 8
    { c with count := c.count + 1, edges := c.edges + 1, tFirst := if c.edges = 0 then t else c.tFirst, tLast := t, latest := some t }
  else c

/-- FILTERED_EDGE (R378, R380): `runs` are the raw samples of a counter's input up to now that bring its filtered edges about. -/
def execFilteredEdge (n : Nat) (runs : List (Bool × Nat)) (s : State) : Out :=
  let c := s.fch n
  if 16 ≤ n ∨ !s.dio.field.powered ∨ !c.counts then .next s
  else
    let x := s.dio.field.sampleTo c s.dtb runs
    .next (s.setFch n (x.2.foldl FieldChan.edge x.1))

/-- The gate length, ns, and the standstill time of a channel. -/
def gateNs (tim : Word) : Nat := [1000000, 10000000, 100000000, 1000000000].getD (fld tim 31 30) 1000000
def ftoNs (tim : Word) : Nat := [100000000, 1000000000, 10000000000, 100000000000].getD (fld tim 29 28) 100000000

/-- The frequency at a gate end (R381), `now` in ticks. -/
def FieldChan.frequency (c : FieldChan) (now : Nat) : Word :=
  let two (f : Word) : Word := if ioCmode c.cfg = 3 then divF f (ratF 2 1) else f
  let rate := ratF 125000000 1
  match c.latest with
  | none => 0
  | some t =>
    if t * 8 + ftoNs c.tim ≤ now * 8 then 0
    else if 2 ≤ c.edges then two (mulF rate (divF (ratF (c.edges - 1 : Nat) 1) (ratF (c.tLast - c.tFirst : Nat) 1)))
    else
      let f := two (divF rate (ratF (now - t : Nat) 1))
      if now = t ∨ fpExact c.freq < fpExact f then c.freq else f

/-- COUNTER_GATE_END (R381, R382): at a field-side instant that is a multiple of the gate length. -/
def execCounterGateEnd (n : Nat) (s : State) : Out :=
  let c := s.fch n
  let g := gateNs c.tim
  let stop := s.dtb / g * g
  if 16 ≤ n ∨ !s.dio.field.powered ∨ !c.counts ∨ stop ≤ c.lastGate then .next s
  else .next (s.setFch n { c with freq := c.frequency (stop / 8), fovr := decide (210000 * g < c.edges * 1000000000),
                                  gated := true, edges := 0, lastGate := stop })

/-! ### Upstream (R379, R391, R397) -/

/-- The status word of a channel (Table 11.7), INNEG apart. -/
def FieldChan.status (c : FieldChan) : Nat :=
  c.short.toNat + 2 * c.latch.toNat + 4 * c.opened.toNat + 8 * c.vshort.toNat + 16 * c.ot.toNat +
    32 * (c.inPost && ioEn c.cfg && ioOut c.cfg).toNat + 128 * c.fovr.toNat + 256 * c.gated.toNat

/-- The upstream frame sampled 10 µs after the start of a downstream frame (R391): one sampled before it may not have been taken
yet. -/
def State.keySample (s : State) (start : Nat) : State :=
  let f := s.dio.field.reloaded s.dtb
  let u : UpFrame :=
    { seq := f.seq, start := start, echo := f.echo, locked := f.rx.locked, checked := f.checked, safe := f.safe,
      levels := (List.range 16).filterMap fun n => if (f.chan n).counts then some (n, (f.chan n).level) else none,
      cfgs := allIo.map fun n => (f.chan n).cfg, common := f.common,
      chst := allIo.map fun n => (f.chan (f.lead n)).status, counts := (List.range 16).map fun n => (f.chan n).count,
      freqs := (List.range 16).map fun n => (f.chan n).freq, dcrc := f.dcrc, safeCnt := f.safeCnt }
  s.setDio { s.dio with up := s.dio.up.drop (s.dio.up.length - 1) ++ [u], field := { f with seq := (f.seq + 1) % 0x10000 } }

/-- The faults of a status word: its bit, the bit of DIO_STATnn and the event code (R388). -/
def ioFaults : List (Nat × Option Nat × Nat) :=
  [(0, some 4, Ev.DIO_SHORT), (1, none, Ev.DIO_SHORT_LATCH), (2, some 5, Ev.DIO_OPEN), (3, some 6, Ev.DIO_VSHORT),
   (4, some 7, Ev.DIO_OT), (6, some 3, Ev.DIO_INNEG)]

/-- One channel of a valid upstream frame: new faults are recorded with channel and DTB, stamped with the sample instant; the odd
channel of a pair shows the even one's (R386, R388). -/
def State.ioTake (u : UpFrame × UpValues) (at_ : Nat) (s : State) (n : Nat) : State :=
  let st := Reg.DIO_STAT n
  let new := u.2.chst.getD n 0
  let old := s.dio.chst.getD n 0
  let rises (i : Nat) : Bool := new / 2 ^ i % 2 == 1 && old / 2 ^ i % 2 == 0
  let s1 := (s.setRegB st 27 (ioEn (s.ioCfg n) && u.2.ins / 2 ^ n % 2 == 1)).setRegB st 25 (new / 2 % 2 == 1)
  let s2 := if rises 7 then s1.setRegB st 2 true else s1
  let s3 := if rises 5 then s2.setRegB st 1 true else s2
  let s4 := ioFaults.foldl (fun s (e : Nat × Option Nat × Nat) =>
    if !rises e.1 then s
    else
      let s' := match e.2.1 with
        | some i => s.setRegB st i true
        | none => s
      if s.ioPaired n then s' else s'.emitAt at_ e.2.2 0 (w32 n :: dtbWords at_)) s3
  if 16 ≤ n then s4
  else
    let g := gateNs (s.reg (Reg.DIO_TIM n))
    let since := max s.dio.lockAt (mget 0 n s.dio.regate)
    let valid := ioCmode (s.ioCfg n) != 0 && new / 256 % 2 == 1 && new / 128 % 2 == 0 && decide (since / g < at_ / g)
    ((s4.setRegB st 26 valid).setReg (Reg.DIO_CNT n) (u.1.counts.getD n 0)).setReg (Reg.DIO_FREQ n) (u.1.freqs.getD n 0)

/-- Registers written from a list of addresses and values. -/
def State.setRegList (s : State) (l : List (Nat × Word)) : State := l.foldl (fun s (e : Nat × Word) => s.setReg e.1 e.2) s

/-- A valid upstream frame takes effect on the registers (R379, R397). -/
def State.keyValid (s : State) (f : UpFrame × UpValues) : State :=
  let u := f.1
  let v := f.2
  let at_ := u.start + 10000
  let inputs := allIo.foldl (fun k n => if ioEn (s.ioCfg n) then k + v.ins / 2 ^ n % 2 * 2 ^ n else k) 0
  let st := Reg.DIO_KSTAT
  let was := s.regB st 29
  let s1 := allIo.foldl (State.ioTake f at_) s
  let s2 := s1.setRegList [(Reg.DIO_IN 0, w32 inputs), (Reg.DIO_IN 1, w32 (inputs / 0x100000000)), (Reg.DIO_INSEQ, w32 u.seq),
    (Reg.DIO_INDTB, w32 at_), (Reg.DIO_FKCNT, w32 (u.safeCnt * 0x10000 + u.dcrc)),
    (Reg.DIO_FIELD, w32 (v.temp * 0x10000 + v.fv))]
  let low := decide (v.fv < 1800)
  let s3 := s2.setReg st (setBit (setBit (setBit (setBit (setBit (s2.reg st) 29 false) 28 u.locked) 27 u.checked) 26 u.safe) 25 low)
  let s4 := if u.safe && !s.regB st 26 then s3.setRegB st 5 true else s3
  let s5 := if was && s.dio.lost then
      let s' := (s4.setRegB st 6 true).emitAt at_ Ev.DIO_LINK_OK 0 [w32 u.seq, w32 ((at_ - s.dio.lastAt) / keyFrameNs - 1)]
      if s.regF Reg.DIO_FKCNT 31 16 = u.safeCnt then s' else s'.emitAt at_ Ev.DIO_FIELD_SAFE 0 [w32 u.safeCnt]
    else s4
  (s5.setDio { s5.dio with chst := v.chst, lastAt := at_, lastSeq := u.seq, lost := false }).ioShow

/-- An input that counts nothing, sampled up to an upstream frame's instant under the DIO_CFG word and COMMON in force then: `runs` are
its raw samples.  Where SAMP has changed since, the run of samples starts anew. -/
def FieldSide.sampleInput (f : FieldSide) (u : UpFrame) (runs : List (Bool × Nat)) (n : Nat) : FieldSide :=
  let c := f.chan n
  let was := { c with cfg := u.cfgs.getD n 0 }
  if was.counts || c.counts || ioOut was.cfg then f
  else
    let x := (({ f with common := u.common }).sampleTo was (u.start + 10000) runs).1
    f.setChan n { c with level := x.level, raw := x.raw, smpAt := x.smpAt, diff := if bitAt was.cfg 27 = bitAt c.cfg 27 then x.diff else 0 }

/-- Every input sampled for an upstream frame: `raws` are the raw samples of those whose raw value has changed, by channel. -/
def FieldSide.sampleInputs (f : FieldSide) (u : UpFrame) (raws : List (Nat × List (Bool × Nat))) : FieldSide :=
  allIo.foldl (fun f n => f.sampleInput u (((raws.find? fun e => e.1 == n).map Prod.snd).getD []) n) f

/-- What the field side measures for an upstream frame (R377 to R379, Tables 11.4 and 11.7): the filtered state of each input, off where
it is below -3.0 V, and the level of each output's terminal. -/
def UpFrame.values (u : UpFrame) (f : FieldSide) (outs neg fv temp : Nat) : UpValues :=
  let out (n : Nat) : Bool := ioOut (u.cfgs.getD n 0)
  let below (n : Nat) : Bool := !out n && neg / 2 ^ n % 2 == 1
  let level (n : Nat) : Bool :=
    if out n then outs / 2 ^ n % 2 == 1
    else !below n && match u.levels.find? fun e => e.1 == n with
      | some e => e.2
      | none => (f.chan n).level
  { ins := allIo.foldl (fun k n => if level n then k + 2 ^ n else k) 0, fv := fv % 0x10000, temp := temp % 0x10000,
    chst := allIo.map fun n => u.chst.getD n 0 + 64 * (below n).toNat }

/-- What the logic side does with a frame its receiver has ended (R392, R394, R397). -/
def State.keyHeed (start : Nat) (s : State) : KeyGot → State
  | .bad crc => if crc then s.countReg Reg.DIO_KCNT 31 16 0xFFFF 1 else s
  | .valid bits entry =>
    let s1 := if entry.isSome then
        (s.setDio { s.dio with lockAt := start + 10000 }).countReg Reg.DIO_KCNT 15 0 0xFFFF 1
      else s
    s1.keyValid (readUp bits start)

/-- Bits that reach the logic side's receiver, and what it makes of them. -/
def State.keyHear (s : State) (start : Nat) (bits : List Bool) : State :=
  let r := s.dio.rx.feed upSync bits
  r.2.foldl (State.keyHeed start) ((s.setDio { s.dio with rx := r.1 }).setRegF Reg.DIO_KSTAT 31 30 r.1.ustate)

/-- KEY_UPSTREAM_FRAME (R378, R379, R390 to R394): for the oldest frame under way the field side sampled the inputs, the output
terminals above 12 V (`outs`), the inputs below -3.0 V (`neg`), FIELD and its temperature; from its last CRC bit on, it reaches the
logic side with the bits at `flips` inverted on the barrier. -/
def execKeyUpstreamFrame (flips : List Nat) (raws : List (Nat × List (Bool × Nat))) (outs neg : Nat) (now : FieldAt)
    (s : State) : Out :=
  match s.dio.up with
  | [] => .next s
  | u :: later =>
    if s.dtb < u.start + 29968 then .next s
    else
      let f := s.dio.field.sampleInputs u raws
      let s0 := (s.setDio { s.dio with up := later, field := f })
      if s.dio.held then .next s0
      else .next (s0.keyHear u.start
        (heard (u.start + 10000) s.dio.rxFrom flips (upBits u (u.values f outs neg now.volt now.temp))))

/-- The bits of a frame time on a lane that carries nothing. -/
def quietBits : List Bool := List.replicate 2500 false

def KeyRx.idle (r : KeyRx) : Bool := !r.locked && r.cands.isEmpty

/-- A frame time without an upstream stream: no frame reaches the logic side's receiver (R394, R398). -/
def State.upQuiet (s : State) (start : Nat) : State :=
  if s.dio.held || s.dio.rx.idle then s else s.keyHear start quietBits

/-- A frame time without a downstream stream. -/
def State.downQuiet (s : State) : State :=
  let f := s.dio.field
  if !f.powered || f.rx.idle || !s.dio.flight.isEmpty then s
  else
    let r := f.rx.feed downSync quietBits
    s.setField (r.2.foldl (FieldSide.heed s.dtb 0 []) { f with rx := r.1 })

/-- An upstream frame's sample instant: the field side samples, or is without power; during a relock both streams stop (Table 15.3). -/
def State.keyInstant (s : State) (start : Nat) : State :=
  if s.onSafe then (s.upQuiet start).downQuiet else if s.dio.field.powered then s.keySample start else s.upQuiet start

/-- DIO_LINK_LOSS (R397): LOSS frame times without a valid upstream frame, from the arrival of the last, a frame time after its
sample instant. -/
def execDioLinkLoss (s : State) : Out :=
  let st := Reg.DIO_KSTAT
  if s.regB st 29 || decide (s.dtb < s.dio.lastAt + (s.regF Reg.DIO_KCFG 12 0 + 1) * keyFrameNs) then .next s
  else
    let s1 := (s.setRegB st 29 true).setRegB st 7 true
    let s2 := (List.range 16).foldl (fun s n => s.setRegB (Reg.DIO_STAT n) 26 false) s1
    .next ((s2.setDio { s2.dio with lost := true }).emit Ev.DIO_LINK_LOSS 0 [w32 s.dio.lastSeq])

/-! ### Reset and agreement -/

/-- The logic side after a reset that includes DIO (R509): the field side is kept. -/
def State.dioStart (s : State) : State :=
  (s.setDio { DioSt.reset with
    seq := s.dio.seq, nextDown := s.dio.nextDown, common := s.dio.common, flight := s.dio.flight, up := s.dio.up,
    rxFrom := s.dtb, field := s.dio.field }).ioShow

/-- The agreement rules of the common page (R401): 0, or the lowest that fails. -/
def State.ioCommonAgree (s : State) : Nat :=
  let w := s.shadow Reg.DIO_KCFG
  if fld w 12 0 < 3 ∨ 5000 < fld w 12 0 then 1 else if fld w 23 16 < 1 ∨ 100 < fld w 23 16 then 2 else 0

/-- The agreement rules of a channel page. -/
def State.ioAgree (s : State) (n : Nat) : Nat :=
  let cfg := s.shadow (Reg.DIO_CFG n)
  let tim := s.shadow (Reg.DIO_TIM n)
  let ticks := fld tim 15 0 * 2 ^ fld tim 18 16
  let others := (allIo.filter fun m => m != n && s.isPending (dioPage m)).length
  if ioCmode cfg ≠ 0 ∧ (16 ≤ n ∨ ioOut cfg ∨ bitAt cfg 27) then 1
  else if (ioHold cfg ∧ (fld cfg 15 8 < 1 ∨ 200 < fld cfg 15 8)) ∨ 4 < fld cfg 2 0 then 2
  else if ioPwm cfg ∧ (ticks < 125000 ∨ 8388480 < ticks ∨ fld tim 15 0 < 100) then 3
  else if (ioPar cfg ∧ (n % 2 = 1 ∨ !ioOut cfg ∨ ioEn (s.ioCfg (n + 1)))) ∨
      (n % 2 = 1 ∧ ioEn cfg ∧ ioPar (s.ioCfg (n - 1))) then 4
  else if s.ioIsOut n ∧ !ioOut cfg ∧ (s.slot (40 + n)).owner.isSome then 5
  else if 8 ≤ others then 6
  else 0

end Sys2Proof.Machine
end

