-- ==== Sys2Proof/Machine/Planning.lean ====
section
/-! DEFINITION. What the placer plans with: images and their static checks, costs and fit, pair budgets and standby pairs
(R147 to R156, R161, R169 of 04_placement_cells.md; R454, R455 of 13_host_service.md). -/
namespace Sys2Proof.Machine

/-! ### Pair states (Table 4.7) -/

def pairSpare : Nat := 0
def pairStandby : Nat := 1
def pairActive : Nat := 2
def pairTesting : Nat := 3
def pairFailed : Nat := 4
def pairRetired : Nat := 5
def pairStarting : Nat := 6

/-- A loop that runs on two pairs: PIN set, or a period below 500 µs (R154). -/
def Decl.pinned (d : Decl) : Bool := d.pin || decide (d.pidx < 3)
def Loop.pinned (L : Loop) : Bool := L.decl.pinned

/-- The number that stands for no pair: a stopped loop that no pair can take (R164). -/
def noPair : Nat := 32

/-- The loops placed on a pair. -/
def State.pairLoops (s : State) (p : Nat) : List (Nat × Loop) :=
  s.liveLoops.filter fun e => e.2.pair == p || e.2.pair2 == some p

/-- A loop that T4 does not leave running (R170). -/
def Loop.resting (L : Loop) : Bool := L.state == .suspended || L.state == .stopped

/-- The state a pair shows: under T4 a pair on which no loop is left running is powered down, its loops keeping their
placements (Table 4.4, R170). -/
def State.pairCode (s : State) (p : Nat) : Nat :=
  let x := s.pair p
  if x.state = pairActive ∧ s.shed 4 ∧ (s.pairLoops p).all fun e => e.2.resting then pairSpare else x.state

def State.countPairs (s : State) (code : Nat) : Nat := (allPairs.filter fun p => s.pairCode p == code).length

/-- A SPARE pair that holds no loop: healthy and free. -/
def State.pairFree (s : State) (p : Nat) : Bool := (s.pair p).state == pairSpare && (s.pairLoops p).isEmpty

/-- Healthy pairs that hold no loop. -/
def State.healthyFree (s : State) : Nat :=
  (allPairs.filter fun p => ((s.pair p).state == pairSpare || (s.pair p).state == pairStandby) && (s.pairLoops p).isEmpty).length

/-- The pairs a tier lets be powered (Table 4.4). -/
def State.pairBudget (s : State) : Nat :=
  match s.pwr.deepest with
  | 0 => 32
  | 1 => 32
  | 2 => 32
  | 3 => 24
  | 4 => (allPairs.filter fun p => (s.pairLoops p).any fun e => e.2.pinned).length + 4
  | _ => 0

/-- Powered pairs: ACTIVE and STANDBY (R156). -/
def State.poweredPairs (s : State) : Nat := s.countPairs pairActive + s.countPairs pairStandby

/-- A pair's transition recorded as PAIR_STATE (R165). -/
def State.pairTo (s : State) (p code : Nat) : State :=
  let x := s.pair p
  (s.setPair p { x with state := code }).emit Ev.PAIR_STATE 0 ([w32 p, w32 x.state, w32 code] ++ dtbWords s.dtb)

/-- A pair's transition that no rule has recorded. -/
def State.pairSet (s : State) (p code : Nat) : State :=
  s.setPair p { s.pair p with state := code, stoppedAt := s.dtb }

/-! ### Standby pairs (R161) -/

/-- The STANDBY pairs to keep. -/
def State.standbyTarget (s : State) : Nat := min 4 (min s.healthyFree (s.pairBudget - s.countPairs pairActive))

/-- The STANDBY count brought to its target: the highest-numbered healthy SPARE pair joins, the lowest-numbered STANDBY pair
leaves.  DESIGN CHOICE (log 88): a higher-numbered pair that becomes free displaces no STANDBY pair. -/
def State.standbyFill (s : State) : Nat → State
  | 0 => s
  | n + 1 =>
    let have' := s.countPairs pairStandby
    if have' < s.standbyTarget then
      match allPairs.reverse.find? s.pairFree with
      | none => s
      | some p => (s.pairSet p pairStandby).standbyFill n
    else if s.standbyTarget < have' then
      match allPairs.find? fun p => (s.pair p).state == pairStandby with
      | none => s
      | some p => (s.pairSet p pairSpare).standbyFill n
    else s

/-- The upkeep of standby pairs: pairs left without loops become SPARE, STANDBY is brought to its count, and STANDBY_LOW is
recorded where fewer than 4 remain. -/
def State.upkeep (s : State) : State :=
  let s1 := (allPairs.filter fun p => (s.pair p).state == pairActive && (s.pairLoops p).isEmpty).foldl
    (fun s p => s.pairSet p pairSpare) s
  let s2 := s1.standbyFill 8
  let kept := s2.countPairs pairStandby
  let low := decide (kept < 4) && decide (s2.pwr.deepest < 5)
  let s3 := { s2 with placer := { s2.placer with low := low } }
  if low && !s1.placer.low then
    (s3.setRegB Reg.PLC_STAT 1 true).emit Ev.STANDBY_LOW 0 [w32 kept, w32 s3.healthyFree, w32 s3.pairBudget]
  else s3

/-! ### Costs and fit (R152) -/

/-- The planning clock of PLANHZ, Hz. -/
def planClock (sel : Nat) : Nat := [1500000000, 1000000000, 750000000].getD sel 0
def State.planHz (s : State) : Nat := planClock (s.regF Reg.PLC_CFG 1 0)

/-- The burst of a set of loops, in cycles. -/
def burst (ls : List Loop) : Nat := (ls.map fun L => L.decl.wcet).sum

/-- Local memory the loops take: data segments, and each code segment once per cell image. -/
def localBytes (ls : List Loop) : Nat :=
  (ls.map fun L => L.decl.dsize).sum +
    (ls.foldl (fun (m : SMap Nat) L => mset 0 (256 * L.cell + L.decl.cseg) L.codeSize m) []).foldl (fun n e => n + e.2) 0

/-- Cycles the loops take in 100 s, of which every period is a divisor. -/
def cyclesPer100s (ls : List Loop) : Nat := (ls.map fun L => L.decl.wcet * (100000000000 / L.period)).sum

/-- The memory, burst and utilisation conditions of R152 at a planning clock. -/
def loopsFit (hz : Nat) (ls : List Loop) : Bool :=
  decide (localBytes ls ≤ 126976) && decide (burst ls * 5000 ≤ hz) &&
    (ls.all fun L => decide (burst ls * 1000000 ≤ L.decl.dl * hz)) && decide (cyclesPer100s ls * 4 ≤ 300 * hz)

/-- Whether a pair has room for a loop beside those it holds: the memory, burst and utilisation conditions of R152. -/
def State.roomOn (s : State) (p : Nat) (L : Loop) : Bool := loopsFit s.planHz (L :: (s.pairLoops p).map Prod.snd)

/-- Whether a loop fits on a pair (R152). -/
def State.fitsOn (s : State) (p : Nat) (L : Loop) : Bool :=
  s.roomOn p L &&
    (s.pairCode p == pairActive || (s.pairFree p && decide (s.poweredPairs < s.pairBudget)))

/-- Whether a pair holds a loop's code segment. -/
def State.holdsCode (s : State) (p : Nat) (L : Loop) : Bool :=
  (s.pairLoops p).any fun e => e.2.cell == L.cell && e.2.decl.cseg == L.decl.cseg

/-- Pairs by burst ascending, ties by number. -/
def insertByBurst (s : State) (p : Nat) : List Nat → List Nat
  | [] => [p]
  | q :: t =>
    if burst ((s.pairLoops q).map Prod.snd) ≤ burst ((s.pairLoops p).map Prod.snd) then q :: insertByBurst s p t
    else p :: q :: t

def State.byBurst (s : State) (ps : List Nat) : List Nat := ps.foldl (fun acc p => insertByBurst s p acc) []

/-- The candidate pairs of R153, in order; with fewer than 4 STANDBY pairs no SPARE pair is used (R161). -/
def State.candidates (s : State) (L : Loop) : List Nat :=
  let act := allPairs.filter fun p => s.pairCode p == pairActive
  act.filter (fun p => s.holdsCode p L) ++ s.byBurst (act.filter fun p => !s.holdsCode p L) ++
    (if s.countPairs pairStandby < 4 then [] else allPairs.filter s.pairFree)

/-- A loop put on a pair, which becomes ACTIVE. -/
def State.onPair (s : State) (p : Nat) : State := s.setPair p { s.pair p with state := pairActive }

/-- One loop placed on the first pairs of its candidates on which it fits: two distinct ones where it is pinned. -/
def State.placeLoop (s : State) (n : Nat) (L : Loop) : Option State :=
  let cands := s.candidates L
  match cands.find? fun p => s.fitsOn p L with
  | none => none
  | some p =>
    let L1 := { L with pair := p }
    let s1 := (s.setLoop n L1).onPair p
    if !L.pinned then some s1
    else match cands.find? fun q => q != p && s1.fitsOn q L with
      | none => none
      | some q => some ((s1.setLoop n { L1 with pair2 := some q }).onPair q)

def State.placeLoops : State → List (Nat × Loop) → Option State
  | s, [] => some s
  | s, (n, L) :: t => match s.placeLoop n L with
    | none => none
    | some s1 => s1.placeLoops t

/-! ### Images (Tables 4.1 and 13.6) -/

def Image.w (i : Image) (a : Nat) : Word := memWord i.bytes a
def Image.half (i : Image) (a : Nat) : Nat := fld (i.w a) 15 0
def Image.byte (i : Image) (a : Nat) : Nat := (mget 0 a i.bytes).toNat

/-- Bytes `off` to `off + n - 1` of an image, as a memory from 0. -/
def Image.part (i : Image) (off n : Nat) : SMap Byte :=
  (i.bytes.filter fun e => decide (off ≤ e.1) && decide (e.1 < off + n)).map fun (e : Nat × Byte) => (e.1 - off, e.2)

def Image.iid (i : Image) : Word := i.w 0x18
def Image.ndecl (i : Image) : Nat := i.half 0x0C
def Image.ncseg (i : Image) : Nat := i.byte 0x0E

/-- The code segment table: offset and size of segment `k`. -/
def Image.seg (i : Image) (k : Nat) : Nat × Nat :=
  let at' := (i.w 0x14).toNat + 8 * k
  ((i.w at').toNat, (i.w (at' + 4)).toNat)

/-- The address of declaration record `k`. -/
def Image.declAt (i : Image) (k : Nat) : Nat := (i.w 0x10).toNat + 64 * k

/-- The slots of a declaration record at `a`. -/
def Image.slots (i : Image) (a : Nat) : List Nat :=
  (List.range 104).filter fun n => bitAt (i.w (a + 0x18 + 4 * (n / 32))) (n % 32)

/-- A declaration record read (Table 4.1). -/
def Image.decl (i : Image) (k : Nat) : Decl :=
  let a := i.declAt k
  let w (o : Nat) : Word := i.w (a + o)
  { pin := bitAt (w 0) 24, pidx := fld (w 0) 20 16, lid := fld (w 0) 12 0, dl := (w 4).toNat, wcet := (w 8).toNat,
    entry := (w 0xC).toNat, cseg := fld (w 0x10) 31 24, dsize := fld (w 0x10) 16 0,
    init := i.part (w 0x14).toNat (fld (w 0x10) 16 0), slots := i.slots a, ratio := fld (w 0x28) 26 16,
    inner := fld (w 0x28) 12 0, xps := (w 0x2C).toNat, sps := fld (w 0x30) 31 16, nps := fld (w 0x30) 15 0,
    cps := fld (w 0x34) 15 0 }

def Image.decls (i : Image) : List Decl := (List.range i.ndecl).map i.decl

/-- The reserved fields of a declaration record are 0. -/
def Image.declReserved (i : Image) (k : Nat) : Bool :=
  let a := i.declAt k
  let w (o : Nat) : Word := i.w (a + o)
  fld (w 0) 31 25 == 0 && fld (w 0) 23 21 == 0 && fld (w 0) 15 13 == 0 && fld (w 0x10) 23 17 == 0 &&
    fld (w 0x24) 31 8 == 0 && fld (w 0x28) 31 27 == 0 && fld (w 0x28) 15 13 == 0 && fld (w 0x34) 31 16 == 0 &&
    w 0x38 == 0 && w 0x3C == 0

/-- Load results (Table 4.5). -/
def loadPlaced : Nat := 0
def loadSignature : Nat := 1
def loadFormat : Nat := 2
def loadGrant : Nat := 3
def loadQuota : Nat := 4
def loadLong : Nat := 5
def loadCapacity : Nat := 6
def loadEngine : Nat := 7
def loadCascade : Nat := 8
def loadBusy : Nat := 9

/-- The bytes of a key slot: its Ed25519 public key. -/
def State.keyBytes (s : State) (slot : Nat) : List Byte :=
  (List.range 8).flatMap fun w => bytesOf 4 (s.reg (Reg.HST_KEY slot w)).toNat
def State.keyEmpty (s : State) (slot : Nat) : Bool := (s.keyBytes slot).all fun b => b == 0

/-- The signature of an image verified with the key slot of the cell's grant; an empty slot fails (R169, R454, R456). -/
def State.verifyImage (s : State) (c : Nat) (i : Image) : Bool :=
  let slot := s.regF (bk c Reg.PLC_GQUOTA) 27 24
  decide (64 ≤ i.len) && !s.keyEmpty slot &&
    Config.ed25519 (s.keyBytes slot) (mgetList 0 0 (i.len - 64) i.bytes) (mgetList 0 (i.len - 64) 64 i.bytes)

/-- The header checks of R455 step 4 (Table 13.6). -/
def Image.headerOk (i : Image) (c : Nat) : Bool :=
  let cell := i.half 6
  decide (64 ≤ i.len) && i.w 0 == 0x4D495847 && i.half 4 == 1 && (i.w 8).toNat == i.len && (cell == 0xFFFF || cell == c) &&
    decide (1 ≤ i.ndecl) && decide (i.ndecl ≤ 8192) && decide (1 ≤ i.ncseg) && (i.w 0x10).toNat % 64 == 0 &&
    decide (i.declAt i.ndecl ≤ i.len) && decide ((i.w 0x14).toNat + 8 * i.ncseg ≤ i.len) &&
    (List.range i.ncseg).all fun k => (i.seg k).1 % 4 == 0 && decide ((i.seg k).1 + (i.seg k).2 ≤ i.len)

/-- Whether a value of a list occurs again later in it. -/
def hasTwice : List Nat → Bool
  | [] => false
  | x :: t => t.contains x || hasTwice t

/-! ### Static checks (R150) -/

/-- A declaration passes its own FORMAT checks. -/
def Image.declFormat (i : Image) (k : Nat) : Bool :=
  let d := i.decl k
  i.declReserved k && decide (d.pidx ≤ 24) && d.dl % 10 == 0 && decide (10 ≤ d.dl) &&
    decide (d.dl * 1000 ≤ periodNs d.pidx) && d.dsize % 64 == 0 && decide (64 ≤ d.dsize) && decide (d.dsize ≤ 65536) &&
    decide (d.cseg < i.ncseg) && d.entry % 4 == 0 && decide (d.entry < (i.seg d.cseg).2) &&
    decide ((i.w (i.declAt k + 0x14)).toNat + d.dsize ≤ i.len)

/-- A code segment passes its FORMAT checks (R64). -/
def Image.segFormat (i : Image) (k : Nat) : Bool :=
  let n := (i.seg k).2
  decide (0 < n) && decide (n ≤ 65536) && n % 64 == 0

def Image.formatOk (i : Image) : Bool :=
  (List.range i.ndecl).all i.declFormat && (List.range i.ncseg).all i.segFormat &&
    !hasTwice (i.decls.map fun d => d.lid) && !hasTwice (i.decls.flatMap fun d => d.slots)

/-- Whether a slot that a cell asks for is owned by a loop of another cell. -/
def State.slotElsewhere (s : State) (c n : Nat) : Bool :=
  s.liveLoops.any fun e => e.2.cell != c && e.2.decl.slots.contains n

def State.quotaOk (s : State) (c : Nat) (ds : List Decl) : Bool :=
  let q := s.reg (bk c Reg.PLC_GQUOTA)
  decide (ds.length ≤ fld q 13 0) && decide ((ds.filter Decl.pinned).length ≤ fld q 23 16)

/-- The cascade checks of one declaration. -/
def cascadeOk (ds : List Decl) (d : Decl) : Bool :=
  d.ratio == 0 || (decide (2 ≤ d.ratio) && decide (d.ratio ≤ 1024) &&
    match ds.find? fun e => e.lid == d.inner with
    | none => false
    | some e => d.ratio * periodNs e.pidx == periodNs d.pidx)

def cascadesOk (ds : List Decl) : Bool :=
  ds.all (cascadeOk ds) && !hasTwice ((ds.filter fun d => d.ratio != 0).map fun d => d.inner)

/-- The static checks in their order: 0, or the load result of the first that fails. -/
def State.staticChecks (s : State) (c : Nat) (i : Image) : Nat :=
  let ds := i.decls
  if !i.formatOk then loadFormat
  else if ds.any fun d => d.slots.any fun n => !s.slotGranted c n || s.slotElsewhere c n then loadGrant
  else if !s.quotaOk c ds then loadQuota
  else if ds.any fun d => decide (s.planHz < d.wcet * 10000) then loadLong
  else if !cascadesOk ds then loadCascade
  else loadPlaced

/-! ### Engines (R155) -/

/-- The declared rate of a kind. -/
def Decl.rate (d : Decl) (k : Nat) : Nat :=
  match k with
  | 0 => d.xps
  | 1 => d.cps
  | 2 => d.nps
  | _ => d.sps

/-- Whether the engines admit an image's declared rates: only the kinds for which it declares one are tested.  DESIGN CHOICE (log
89): the measured figure replaces the declared sum of the placed loops, and the rates of the new image come on top of it. -/
def State.enginesAdmit (s : State) (ds : List Decl) : Bool :=
  allKinds.all fun k =>
    let new := (ds.map fun d => d.rate k).sum
    let declared := (s.liveLoops.map fun e => e.2.decl.rate k).sum
    new == 0 || (!s.placer.engineRefused.contains k &&
      decide (10 * (max declared (s.reg (Reg.HWK_LOAD k)).toNat + new) ≤ 9 * capOf k))

/-! ### Planning an image (R153) -/

/-- Order of placement: PIDX ascending, then LID ascending. -/
def insertDecl (d : Decl) : List Decl → List Decl
  | [] => [d]
  | e :: t => if e.pidx < d.pidx ∨ (e.pidx = d.pidx ∧ e.lid < d.lid) then e :: insertDecl d t else d :: e :: t
def sortDecls (ds : List Decl) : List Decl := ds.foldr insertDecl []

/-- A loop as it is placed, awaiting its period 0. -/
def Image.newLoop (i : Image) (c : Nat) (d : Decl) : Loop :=
  { Loop.free with
    state := .awaiting, cell := c, decl := d, code := i.part (i.seg d.cseg).1 (i.seg d.cseg).2,
    codeSize := (i.seg d.cseg).2, data := d.init, pc := d.entry, ckptA := Ckpt.start0 d.entry d.init,
    ckptB := Ckpt.start0 d.entry d.init }

/-- The free loop numbers, in order. -/
def State.freeNumbers (s : State) : List Nat := (List.range 8192).filter fun n => (s.loop n).state == .free

/-- Bytes of the checkpoint area that loops take: two checkpoints each (Table 4.6). -/
def ckptBytes (ls : List Loop) : Nat := (ls.map fun L => 2 * (144 + L.decl.dsize)).sum

/-- place_image of R153: the state with every loop placed, or the load result. -/
def State.planImage (s : State) (c : Nat) (i : Image) : Nat × State :=
  let r := s.staticChecks c i
  if r ≠ loadPlaced then (r, s)
  else if !s.enginesAdmit i.decls then (loadEngine, s)
  else
    let ls := (sortDecls i.decls).map (i.newLoop c)
    let nums := s.freeNumbers
    if nums.length < ls.length then (loadCapacity, s)
    else if 10485760 < ckptBytes (s.liveLoops.map Prod.snd ++ ls) then (loadCapacity, s)
    else match s.placeLoops (nums.zip ls) with
      | none => (loadCapacity, s)
      | some t => (loadPlaced, t)

end Sys2Proof.Machine
end

