-- ==== Sys2Proof/Machine/Dispatching.lean ====
section
/-! DEFINITION. Period boundaries, output slots and dispatch (R31, R32 of 01_architecture.md; R56, R57, R94 to R97, R100, R101 of
02_mbarov_isa.md; R149, R152, R166, R167, R170 of 04_placement_cells.md). -/
namespace Sys2Proof.Machine

/-! ### Slots -/

/-- Whether a loop owns a slot (R31). -/
def State.ownsSlot (s : State) (l n : Nat) : Bool := (s.slot n).owner == some l && s.slotIsOut n

/-- The value of a slot taken up by its channel (R32; Table 2.15); the values `rest` wait for a later boundary. -/
def State.takeUp (s : State) (n : Nat) (v : Word) (rest : List SlotWrite) : State :=
  let s1 := s.setSlot n { s.slot n with value := some v, next := rest }
  if n < 24 then s1.svCommand n v else if n < 40 then s1.fanCommand (n - 24) v else s1.ioCommand (n - 40) v

/-- The block of a slot's channel, by its bit in CTL_BRST. -/
def slotBlock (n : Nat) : Nat := if n < 24 then 4 else if n < 40 then 5 else 6

/-- The values that reached a slot before an instant, and those that reached it at or after it. -/
def Slot.early (x : Slot) (at' : Nat) : List SlotWrite := x.next.filter fun w => decide (w.arrived < at')
def Slot.lateOnes (x : Slot) (at' : Nat) : List SlotWrite := x.next.filter fun w => decide (at' ≤ w.arrived)

/-- Whether a loop has passed its deadline in a period that it has not ended at a boundary: the trap that follows withdraws that
period's OUTs, and each slot keeps the value it held (R102, R104). -/
def State.doomed (s : State) (l at' : Nat) : Bool :=
  let L := s.loop l
  decide (L.start < at') && s.overdueAt L at'

/-- One slot of a loop at the period boundary `at'` of it: a slot released before is owned again (R167), and the last value that
reached it before the boundary is taken up (R32, R97), unless a reset posture of its block stands (R515).  A value of a period that has
run past its deadline waits to be withdrawn (R104). -/
def State.boundarySlot (l at' : Nat) (s : State) (n : Nat) : State :=
  let x := s.slot n
  let s1 := if x.owner.isNone && s.slotIsOut n then s.setSlot n { x with owner := some l } else s
  let held (w : SlotWrite) : Bool := s.doomed l at' && w.per == (s.loop l).per
  match ((x.early at').filter fun w => !held w).getLast? with
  | none => s1
  | some w =>
    if s1.ownsSlot l n && !s1.ctl.posts.contains (slotBlock n) then
      s1.takeUp n w.value (((x.early at').filter held) ++ x.lateOnes at')
    else s1

/-- Whether a loop runs or awaits its boundary. -/
def Loop.runs (L : Loop) : Bool := L.state == .running || L.state == .awaiting || L.state == .migrating

/-- Whether a loop runs, its cell not being reset (R173). -/
def State.goes (s : State) (L : Loop) : Bool := L.runs && (s.cell L.cell).state != 4

/-- A period boundary of a loop (R32): the blocks take up its slots, as they were at the latest boundary that has come; none does
during a relock (Table 15.3). -/
def State.atBoundary (s : State) (l : Nat) : State :=
  let L := s.loop l
  let s1 := if s.goes L && !s.onSafe then L.decl.slots.foldl (State.boundarySlot l (periodStart L.period s.dtb)) s else s
  s1.setLoop l { s1.loop l with boundary := nextBoundary L.period s.dtb }

/-- PERIOD_BOUNDARY (R32): due at the loop's next boundary. -/
def execPeriodBoundary (l : Nat) (s : State) : Out :=
  let L := s.loop l
  if L.state = .free ∨ s.dtb < L.boundary then .next s else .next (s.atBoundary l)

/-- The channel of a slot takes its posture at a frame boundary that comes after the release (R46, R167). -/
def State.slotPosture (s : State) (n : Nat) : State :=
  let x := s.slot n
  match x.released with
  | none => s
  | some t =>
    if !s.boundaryPast t then s
    else
      let s1 := s.setSlot n { x with value := none, released := none }
      if n < 24 then s1.svRelease n else if n < 40 then s1.fanRelease (n - 24) else s1

/-- OUT: gb's FP32 value placed in the slot numbered by ga (R94 to R96); of the values that reach it between two boundaries the last
one counts (R97). -/
def State.outSlot (s : State) (l : Nat) (n : Nat) (v : Word) : InstrRes :=
  if 104 ≤ n then .error ⟨trapAccess, 6, n⟩
  else if !s.ownsSlot l n then .error ⟨trapAccess, 5, n⟩
  else if fpIsNaN v || fpIsInf v then .error ⟨trapValue, 0, n⟩
  else
    let L := s.loop l
    let x := s.slot n
    let s1 := s.setSlot n { x with next := x.early (periodStart L.period s.dtb) ++ [⟨s.dtb, L.per, v⟩] }
    let s2 := s1.stepLoop l id
    .ok (s2.setLoop l { s2.loop l with outs := n :: (s2.loop l).outs.filter fun m => m != n })

/-- OUT ga, gb. -/
def execOut (l : Nat) (a b : Reg) (s : State) : Out :=
  .next (s.runInstr l (encodeInstr (.out l a b)) 4 fun s => s.outSlot l ((s.loop l).rg a).toNat ((s.loop l).rg b))

/-- TAP m, ga, gb (R98): one trace entry to every buffer for which the point is armed; no register or flag changes. -/
def execTap (l : Nat) (m : BitVec 5) (a b : Reg) (s : State) : Out :=
  .next (s.runInstr l (encodeInstr (.tap l m a b)) (if s.tapArmed l m.toNat then 3 else 1) fun s =>
    let L := s.loop l
    .ok ((allTraces.foldl (State.trcTap l m.toNat (L.rg a) (L.rg b)) s).stepLoop l id))

/-! ### Dispatch -/

/-- Whether a loop may be dispatched now: it runs, has ended its last period, and its boundary has come. -/
def State.dueNow (s : State) (L : Loop) : Bool :=
  s.goes L && !L.inPeriod && decide (L.due ≤ s.dtb)

/-- The absolute deadline of the period a dispatch now would begin. -/
def State.deadlineOf (s : State) (L : Loop) : Nat := periodStart L.period s.dtb + L.decl.dl * 1000

/-- Whether a due loop goes before another: earliest absolute deadline, ties by lower number. -/
def State.first (s : State) (l m : Nat) : Bool :=
  let a := s.deadlineOf (s.loop l)
  let b := s.deadlineOf (s.loop m)
  decide (a < b) || (a == b && decide (l ≤ m))

/-- A loop resumed from its checkpoint (R100, R101): the WAIT's register takes j, PER advances by it and the period starts.  From
the initial state of R57 no register takes it.  The OUTs of a period that runs again stay those of that period (R104).  DESIGN CHOICE
(log 85): where j saturates, PER advances by the count itself, modulo 2^32. -/
def Loop.resume (L : Loop) (now : Nat) : Loop :=
  let c := L.ckpt
  let start := periodStart L.period now
  let from' := if c.initial then L.period0 else c.start
  let j := (start - from') / L.period
  let per := (c.per + j) % 0x100000000
  let L1 := { L with
    g := c.g, pc := c.pc, flg := c.flg, per := per, data := c.data, nowh := 0, inPeriod := true,
    waiting := none, start := start, due := nextBoundary L.period now, cycles := 0, outs := if per = L.per then L.outs else [],
    state := .running }
  if c.initial then L1 else L1.wg (BitVec.ofNat 5 c.gd) (w32 (sat 0xFFFFFFFF j))

/-- A pair executes a loop. -/
def State.runOn (l : Nat) (s : State) (p : Nat) : State := s.setPair p { s.pair p with running := some l }

/-- The dispatch of a loop on its pair, or on both pairs of a pinned loop (R154). -/
def State.dispatch (s : State) (l : Nat) : State :=
  let L := s.loop l
  let s1 := L.onPairs.foldl (State.runOn l) (s.setLoop l (L.resume s.dtb))
  (s1.setReg (bk l Reg.RTC_SECL) 0).setReg (bk l Reg.RTC_SECH) 0

/-- Whether a pair may take up a due loop: it is free, ACTIVE and not awaiting a check, and no due loop of the pair goes before it. -/
def State.pairTakes (s : State) (l p : Nat) : Bool :=
  let x := s.pair p
  x.state == pairActive && !x.check && x.running.isNone &&
    ((s.pairLoops p).filter fun e => s.dueNow e.2).all fun e => s.first l e.1

/-- LOOP_DISPATCH (R100): the loop is due, and its pair, or both pairs of a pinned loop, take it up. -/
def execLoopDispatch (l : Nat) (s : State) : Out :=
  let L := s.loop l
  if s.dueNow L && !s.onSafe && L.onPairs.all (s.pairTakes l) then .next (s.dispatch l) else .next s

/-! ### Starting, stopping, resuming -/

/-- The loop of which another is the inner loop of a cascade, in the same cell. -/
def State.outerOf (s : State) (L : Loop) : Option Loop :=
  ((s.loopsOf L.cell).find? fun e => e.2.decl.ratio != 0 && e.2.decl.inner == L.decl.lid).map Prod.snd

/-- The period on whose boundary a loop's period 0 begins: that of the outermost loop of its cascade (R149). -/
def State.rootPeriod (s : State) : Nat → Loop → Nat
  | 0, L => L.period
  | n + 1, L => match s.outerOf L with
    | none => L.period
    | some O => s.rootPeriod n O

/-- A loop made ready for its period 0: the state of R57, at the first boundary that follows (R149, R173); one that no pair holds stays
stopped (R164). -/
def State.readyLoop (s : State) (l : Nat) : State :=
  let L := s.loop l
  let at0 := nextBoundary (s.rootPeriod 16 L) s.dtb
  let c := Ckpt.start0 L.decl.entry L.decl.init
  s.setLoop l { L with
    g := [], pc := L.decl.entry, flg := 0, per := 0, data := L.decl.init, nowh := 0, inPeriod := false, waiting := none,
    start := at0, period0 := at0, due := at0, boundary := at0, ckptA := c, ckptB := c, useB := false, cycles := 0,
    consec := 0, outs := [], halted := false, stopReq := false, t4Susp := false,
    state := if L.pair = noPair then .stopped else .awaiting }

/-- The boundary at which a loop that begins to run again is dispatched: its next one, and not before its period 0, so that an inner
loop of a cascade keeps the outer loop's boundary (R149, R170). -/
def State.resumeAt (s : State) (L : Loop) : Nat := max L.period0 (nextBoundary L.period s.dtb)

/-- A loop that runs again, from its checkpoint at its next boundary. -/
def State.goOn (s : State) (l : Nat) (L : Loop) : State :=
  s.setLoop l { L with state := s.live L, due := s.resumeAt L, boundary := s.resumeAt L }

/-- A suspension of a loop asked for, by command or by T4 (R170). -/
def State.suspend (s : State) (byT4 : Bool) (l : Nat) : State :=
  let L := s.loop l
  let L1 := if byT4 then { L with t4Susp := true } else { L with cmdSusp := true }
  let s1 := s.setLoop l L1
  if L.runs then s1.suspendLoop l else s1

/-- A suspension of a loop ended: once none holds it, it is dispatched from its checkpoint at its next boundary (R170). -/
def State.unsuspend (s : State) (byT4 : Bool) (l : Nat) : State :=
  let L := s.loop l
  let L1 := if byT4 then { L with t4Susp := false } else { L with cmdSusp := false }
  if L.state = .suspended ∧ !L1.cmdSusp ∧ !L1.t4Susp then s.goOn l L1 else s.setLoop l L1

/-- A loop stopped at an instruction boundary by a cell reset: its period ends and its OUTs are withdrawn (R173 step 2). -/
def State.cutLoop (s : State) (l : Nat) : State :=
  let L := s.loop l
  let s1 := (s.withdrawOuts L.per L.outs).setLoop l { L with inPeriod := false, waiting := none, outs := [], state := .awaiting }
  (s1.leavePair l L).releaseSlots L

end Sys2Proof.Machine
end

