-- ==== Sys2Proof/Machine/Placer.lean ====
section
/-! DEFINITION. The placer's events: lockstep mismatches and migration, pair checks, re-plans and moves, image loads, cell resets and
cell and loop commands (R53, R55 of 01_architecture.md; R155 to R178 of 04_placement_cells.md). -/
namespace Sys2Proof.Machine

def State.setPlacer (s : State) (p : Placer) : State := { s with placer := p }

/-- A re-plan queued; that of a mismatch goes ahead of every other (R158). -/
def State.replan (s : State) (w : ReplanWhy) : State :=
  let q := s.placer.replans
  let q' := match w with
    | .mismatch _ => q.takeWhile (fun x => match x with | .mismatch _ => true | _ => false) ++
        w :: q.dropWhile (fun x => match x with | .mismatch _ => true | _ => false)
    | _ => q ++ [w]
  s.setPlacer { s.placer with replans := q' }

/-! ### Lockstep mismatch and migration (R53, R162 to R165) -/

/-- The store at the head of a pair's queue is accepted by its memory. -/
def State.acceptPosted (s : State) (p : Nat) : State :=
  match (s.pair p).queue with
  | [] => s
  | x :: t =>
    let s1 := s.setPair p { s.pair p with queue := t }
    s1.setCell x.cell ((s1.cell x.cell).writeShared x.offset x.bytes)

/-- Every store of a pair's queue accepted, in program order. -/
def State.drainPosted (s : State) (p : Nat) : State :=
  (List.range (s.pair p).queue.length).foldl (fun s _ => s.acceptPosted p) s

/-- A pinned loop goes on with one pair after the other stopped: both execute its period (R163).  The record names pairs and stands in no cell's view (R147). -/
def State.pinDegrade (s : State) (p : Nat) (e : Nat × Loop) : State :=
  let L := s.loop e.1
  let stay := if L.pair = p then L.pair2.getD p else L.pair
  let s1 := s.setLoop e.1 { L with pair := stay, pair2 := none }
  let s3 := s1.setPlacer { s1.placer with degraded := (e.1, L.ckpt.start) :: s1.placer.degraded.filter fun d => d.1 != e.1 }
  (s3.setRegB Reg.PLC_STAT 5 true).emit Ev.PIN_DEGRADED 0 [w32 e.1, w32 stay, w32 p]

/-- An affected loop carried to another pair: its period in progress is abandoned, and it runs again from its checkpoint
(R54, R162).  A loop of a resetting cell, or one that does not run, is carried as a placement (R175). -/
def State.carry (s : State) (q : Nat) (e : Nat × Loop) : State :=
  let L := s.loop e.1
  let c := s.cell L.cell
  let L1 := { L with pair := q, inPeriod := false, waiting := none, due := if L.inPeriod then s.dtb else L.due,
                     state := if L.runs && c.state != 4 then .migrating else L.state }
  s.setLoop e.1 L1

/-- A loop for which no pair is left: it stops and its slots are released (R164). -/
def State.strand (s : State) (e : Nat × Loop) : State :=
  let L := s.loop e.1
  (s.setLoop e.1 { L with
    pair := noPair, pair2 := none, inPeriod := false, waiting := none, state := .stopped, halted := L.halted || L.stopReq,
    stopReq := false }).releaseSlots L

/-- The loops of a pair that lose their only pair when it stops. -/
def State.affected (s : State) (p : Nat) : List (Nat × Loop) := (s.pairLoops p).filter fun e => e.2.pair2.isNone

/-- The loops of a pair moved to the lowest-numbered STANDBY pair (Table 4.8), or stopped where none is left (R164). -/
def State.migrate (s : State) (p : Nat) : State :=
  let es := s.affected p
  if es.isEmpty then s
  else match allPairs.find? fun q => (s.pair q).state == pairStandby with
    | some q =>
      let todo := (es.filter fun e => s.goes e.2 && (e.2.inPeriod || decide (e.2.due ≤ s.dtb))).map Prod.fst
      let s1 := (es.foldl (fun s e => s.carry q e) s).pairSet q pairActive
      let m : Migration := ⟨p, q, s.dtb, todo⟩
      if todo.isEmpty then (s1.migDone { m with since := s.dtb - 1000 * (s.free % 301) }).draw
      else s1.setPlacer { s1.placer with migs := s1.placer.migs ++ [m] }
    | none =>
      let s1 := (es.foldl State.strand s).setRegB Reg.PLC_STAT 3 true
      s1.emit Ev.MIGRATE_NO_STANDBY 0 [w32 p, w32 es.length]

/-- A mismatch of a pair: it stops, fenced from memory, is counted and recorded, its loops go on elsewhere and a re-plan is queued
(R53, R158, R162, R163, R165).  DEDUCED (log 90): the stores it has posted reach memory before it is fenced, since a posted store is
never withdrawn (R81). -/
def State.mismatch (s0 : State) (p : Nat) : State :=
  let s := s0.drainPosted p
  let x := s.pair p
  let s1 := s.emit Ev.PAIR_MISMATCH 0 (w32 p :: dtbWords s.dtb)
  let s2 := s1.countReg Reg.PLC_MISCNT 15 0 0xFFFF 1
  let s3 := ((s2.pairLoops p).filter fun e => e.2.pair2.isSome).foldl (fun s e => s.pinDegrade p e) s2
  let s4 := s3.migrate p
  let s5 := s4.setPair p { s4.pair p with misses := x.misses + 1, stoppedAt := s.dtb, running := none, check := false }
  ((s5.pairTo p (if 3 ≤ x.misses then pairRetired else pairTesting)).replan (.mismatch p)).upkeep

/-- LOCKSTEP_MISMATCH (R35, R53): of a pair whose cores run, because they differ, or where an instruction fetch, a law block or another
access to local memory finds an error: a double-bit error is a mismatch, a single-bit error is corrected and counted. -/
def execLockstepMismatch (p : PairFault) (s : State) : Out :=
  let c := s.pairCode p.pair
  if p.pair < 32 ∧ (c = pairActive ∨ c = pairStandby) then
    .next (if p.ecc = .single then s.eccCorrected 0 p.addr (some p.pair) else s.mismatch p.pair)
  else .next s

/-- The lowest-numbered STANDBY pair (Table 4.8, R163). -/
def State.standbyPair (s : State) : Option Nat := allPairs.find? fun q => (s.pair q).state == pairStandby

/-- PIN_SECONDARY_RESTORED (R163): a STANDBY pair becomes the secondary, from the first checkpoint after the loop was degraded. -/
def execPinSecondaryRestored (l : Nat) (s : State) : Out :=
  let L := s.loop l
  match s.placer.degraded.find? fun e => e.1 == l, s.standbyPair with
  | some (_, t), some q =>
    if L.inPeriod || L.ckpt.start == t then .next s
    else
      let s1 := (s.setLoop l { L with pair2 := some q }).onPair q
      .next (s1.setPlacer { s1.placer with degraded := s1.placer.degraded.filter fun e => e.1 != l }).upkeep
  | _, _ => .next s

/-! ### Pair checks (R55, R161, R165, R170) -/

/-- The secondary of a pinned loop placed anew on pair `p`: the least loaded other ACTIVE pair on which it fits; while there is none the
loop is degraded as under R163 (R154, R164). -/
def State.secondPair (s : State) (l p : Nat) : State :=
  let L := s.loop l
  let rest := s.placer.degraded.filter fun d => d.1 != l
  if !L.pinned then s
  else match (s.byBurst (allPairs.filter fun q => q != p && s.pairCode q == pairActive)).find? fun q => s.fitsOn q L with
    | some q => (s.setLoop l { L with pair2 := some q }).setPlacer { s.placer with degraded := rest }
    | none => s.setPlacer { s.placer with degraded := (l, L.ckpt.start) :: rest }

/-- A loop that no pair holds, placed anew on an ACTIVE pair on which it fits: it runs from its checkpoint at its next boundary (R164),
unless a command, T4, TRAPLIM or a STOP holds it (R166, R170). -/
def State.replace (s : State) (l : Nat) : State :=
  let L := s.loop l
  match (s.byBurst (allPairs.filter fun p => s.pairCode p == pairActive)).find? fun p => s.fitsOn p L with
  | none => s
  | some p =>
    let s1 := s.secondPair l p
    let L1 := { L with pair := p, pair2 := (s1.loop l).pair2 }
    if L.halted then s1.setLoop l L1
    else if L.cmdSusp || L.t4Susp then s1.setLoop l { L1 with state := .suspended }
    else s1.goOn l L1

/-- A pair powered up after T4 fails its check: it is FAILED and its loops are re-planned (R170). -/
def State.checkFailed (s : State) (p : Nat) : State :=
  let es := s.pairLoops p
  let s1 := (s.setPair p { s.pair p with check := false }).pairTo p pairFailed
  (es.foldl State.strand s1).replan (.mismatch p)

/-- PAIR_SELF_TEST (R165): 10 ms after the mismatch; or the check of a pair powered up after T4 (R170). -/
def execPairSelfTest (p : Nat) (pass : Bool) (s : State) : Out :=
  let x := s.pair p
  if x.check then
    .next ((if pass then s.setPair p { x with check := false } else s.checkFailed p).upkeep)
  else if x.state ≠ pairTesting ∨ s.dtb < x.stoppedAt + 10000000 then .next s
  else if !pass then .next ((s.pairTo p pairFailed).upkeep)
  else
    let t := s.pairTo p pairSpare
    let code := if t.countPairs pairStandby < t.standbyTarget then pairStandby else pairSpare
    let s1 := s.pairTo p code
    .next ((s1.setPair p { s1.pair p with stoppedAt := s.dtb }).upkeep)

/-- STANDBY_SELF_TEST (R161): every 1 s; a pair that fails is FAILED and recorded (R55). -/
def execStandbySelfTest (p : Nat) (pass : Bool) (s : State) : Out :=
  let x := s.pair p
  if x.state ≠ pairStandby ∨ s.dtb < x.stoppedAt + second then .next s
  else if pass then .next (s.setPair p { x with stoppedAt := s.dtb })
  else .next ((s.pairTo p pairFailed).upkeep)

/-! ### Tiers (R156, R157, R170) -/

/-- Loops in deadline order. -/
def insertByDl (e : Nat × Loop) : List (Nat × Loop) → List (Nat × Loop)
  | [] => [e]
  | f :: t => if f.2.decl.dl < e.2.decl.dl ∨ (f.2.decl.dl = e.2.decl.dl ∧ f.1 < e.1) then f :: insertByDl e t else e :: f :: t

/-- The plan of one pair's moves: every loop with its target, or nothing where one has none (R157). -/
def State.planMoves (s : State) (p : Nat) : List (Nat × Loop) → List (Nat × Nat × Nat) → Option (State × List (Nat × Nat × Nat))
  | [], acc => some (s, acc)
  | e :: t, acc =>
    let L := s.loop e.1
    if L.period < L.decl.dl * 1000 + 200000 then none
    else
      let other := if L.pair = p then L.pair2 else some L.pair
      let targets := allPairs.filter fun q => q != p && (s.pair q).state == pairActive && some q != other
      match (s.byBurst targets).find? fun q => s.roomOn q L with
      | none => none
      | some q =>
        let L1 := if L.pair = p then { L with pair := q } else { L with pair2 := some q }
        (s.setLoop e.1 L1).planMoves p t (acc ++ [(e.1, p, q)])

/-- The pairs that hold loops, T4's powered-down ones among them: those that stay powered once T4 is lifted (R156, R170). -/
def State.keptPairs (s : State) : Nat := (allPairs.filter fun p => (s.pair p).state == pairActive).length

/-- Consolidation (R157): ACTIVE pairs in descending number, while more than 20 remain.  Answers the state with the moves made, which
only serves the planning, and the moves. -/
def State.consolidate (s : State) : List Nat → List (Nat × Nat × Nat) → State × List (Nat × Nat × Nat)
  | [], acc => (s, acc)
  | p :: t, acc =>
    if s.keptPairs ≤ 20 then (s, acc)
    else if (s.pair p).state ≠ pairActive then s.consolidate t acc
    else match s.planMoves p ((s.pairLoops p).foldr insertByDl []) [] with
      | none => s.consolidate t acc
      | some (s1, ms) => (s1.pairSet p pairSpare).consolidate t (acc ++ ms)

/-- The moves of a plan with those of one loop joined: from where it is to where it ends. -/
def joinMoves : List (Nat × Nat × Nat) → List (Nat × Nat × Nat) → List (Nat × Nat × Nat)
  | acc, [] => acc
  | acc, (l, p, q) :: t =>
    if acc.any fun m => m.1 == l && m.2.2 == p then
      joinMoves (acc.map fun m => if m.1 == l && m.2.2 == p then (l, m.2.1, q) else m) t
    else joinMoves (acc ++ [(l, p, q)]) t

/-- The re-plan on entry to T3 (Table 4.4). -/
def State.planTier3 (s : State) : State :=
  let r := s.consolidate allPairs.reverse []
  let left := r.1.keptPairs
  let s1 := s.setPlacer { s.placer with moves := joinMoves [] r.2 }
  if 20 < left then (s1.setRegB Reg.PLC_STAT 2 true).emit Ev.PLACE_TIER_OVER 0 [w32 left, 20] else s1

/-- Cells in the order of R170: ascending arbiter share, ties by higher number first, cell 0 last. -/
def State.issuesBefore (s : State) (a b : Nat) : Bool :=
  if a = 0 then false else if b = 0 then true
  else decide (s.weight a < s.weight b) || (s.weight a == s.weight b && decide (b < a))
def State.insertCell (s : State) (c : Nat) : List Nat → List Nat
  | [] => [c]
  | d :: t => if s.issuesBefore d c then d :: s.insertCell c t else c :: d :: t
def State.cellOrder (s : State) : List Nat := (s.cells.map Prod.fst).foldl (fun acc c => s.insertCell c acc) []

/-- The state a cell shows outside LOADING and RESETTING (Table 4.9). -/
def Cell.settled (c : Cell) : Nat := if c.image.isNone then 0 else if c.csusp || c.t4 then 3 else 2

/-- A cell's state brought up to date, where it is neither loading nor resetting. -/
def State.settleCell (s : State) (c : Nat) : State :=
  let x := s.cell c
  if x.state = 1 ∨ x.state = 4 then s else s.setCell c { x with state := x.settled }

/-- T4 suspends the non-pinned loops of a cell that is not resetting (R170, R175). -/
def State.t4Cell (s : State) (c : Nat) : State :=
  let x := s.cell c
  let ls := (s.loopsOf c).filter fun e => !e.2.pinned
  if ls.isEmpty || x.state == 4 then s
  else
    let s1 := ls.foldl (fun s e => s.suspend true e.1) (s.setCell c { x with t4 := true })
    s1.settleCell c

def State.t4Suspend (s : State) : State := s.cellOrder.foldl State.t4Cell s

/-- The pairs that T4 powered down, powered up for their check (R170). -/
def State.t4PowerUp (s : State) : State :=
  (allPairs.filter fun p => (s.pair p).state == pairActive && s.pairCode p == pairSpare).foldl
    (fun s p => s.setPair p { s.pair p with check := true }) s

/-- T4 ended for a cell: its suspension by T4 goes, and its loops resume unless a command holds them (R170). -/
def State.t4Release (s : State) (c : Nat) : State :=
  let x := s.cell c
  if !x.t4 then s
  else
    let s1 := (s.loopsOf c).foldl (fun s e => s.unsuspend true e.1) (s.setCell c { x with t4 := false })
    s1.settleCell c

def State.t4Resume (s : State) : State := s.cellOrder.reverse.foldl State.t4Release s

/-- A re-plan for a change of tier `n`: consolidation on entry to T3, resuming after T4.  A restored tier makes no moves (R157). -/
def State.planTier (s : State) (n : Nat) (shed : Bool) : State :=
  match n, shed with
  | 3, true => s.planTier3
  | 3, false => s.setPlacer { s.placer with moves := [] }
  | 4, false => s.t4Resume
  | _, _ => s

/-! ### Image loads (R153, R159, R169, R455) -/

/-- Sessions whose load of a cell the placer has: they show state 3 and the result (R455). -/
def State.showLoad (s : State) (c result : Nat) : State :=
  { s with sessions := s.sessions.map fun (e : Nat × Session) => match e.2.load with
    | some d => if d.cell = c ∧ d.state = 2 then (e.1, { e.2 with load := some { d with state := 3, result := result, bytes := [], written := [] } })
        else e
    | none => e }

/-- The end of the load of the house image at a start: step 12, or CTL_HOUSE_FAIL (R520, R521). -/
def State.houseEnds (s : State) (result : Nat) : State :=
  if result = loadPlaced then
    ({ s with ctl := { s.ctl with house := some s.dtb } }).setRegF Reg.CTL_TSTART 31 16
      (sat 0xFFFF ((s.dtb - s.ctl.relAt) / 1000000))
  else s.emit Ev.CTL_HOUSE_FAIL 0 [w32 result]

/-- The end of a load: recorded as CELL_LOAD, and as HAP_IMAGE where it came by HAP (R159, R455). -/
def State.loadEnds (s : State) (c : Nat) (iid : Word) (hap : Bool) (result : Nat) : State :=
  let s1 := (s.showLoad c result).emit Ev.CELL_LOAD c [w32 c, w32 result, w32 (s.cell c).inc]
  if hap then s1.emit Ev.HAP_IMAGE c [w32 c, iid, w32 result] else s1.houseEnds result

/-- The slots of a loop owned by it from its placement (R153); that of an input channel has no owner (R376). -/
def State.takeSlots (s : State) (e : Nat × Loop) : State :=
  (e.2.decl.slots.filter s.slotIsOut).foldl (fun s n => s.setSlot n { s.slot n with owner := some e.1, next := [] }) s

/-- A loop placed: it owns its slots, and has read no register yet. -/
def State.takeLoop (s : State) (e : Nat × Loop) : State := (s.takeSlots e).freshBank e.1

/-- A cell's allocation taken from the grant in force (R150). -/
def State.allocate (s : State) (c : Nat) : State :=
  let g := s.reg (bk c Reg.PLC_GMEM)
  s.setCell c { s.cell c with mem := fld g 12 0, fast := fld g 28 16 }

/-- Tags of a cell in flight. -/
def State.inFlight (s : State) (c : Nat) : Nat :=
  (s.hwk.tags.filter fun e => e.2.used && !e.2.internal && e.2.cell == c && e.2.engine.isSome).length

/-- Steps 1 and 2 of a cell reset (Table 4.12): RESETTING, the incarnation advanced, ungranted requests withdrawn, the loops stopped
and their slots released; `src` is the cell that asked. -/
def State.resetCell (s : State) (c src : Nat) (unload : Bool) : State :=
  let x := s.cell c
  let inc := (x.inc + 1) % 0x10000
  let s1 := (s.setCell c { x with state := 4, inc := inc, resetAt := s.dtb, unloading := unload }).withdraw c
  let tags := s1.inFlight c
  let s2 := s1.setCell c { s1.cell c with staleSeen := tags }
  let s3 := s2.emit Ev.CELL_RESET c [w32 x.inc, w32 inc, w32 src, w32 tags]
  let s4 := (s3.loopsOf c).foldl (fun s e => s.cutLoop e.1) s3
  if unload then s4 else s4.replan (.cellReset c)

/-- A loop removed from its pairs and its number freed: the placer plans nothing for it any more. -/
def State.freeLoop (s : State) (l : Nat) : State :=
  let s1 := (s.setLoop l Loop.free).migEnded l
  s1.setPlacer { s1.placer with
    moves := s1.placer.moves.filter (fun m => m.1 != l), degraded := s1.placer.degraded.filter fun d => d.1 != l }

/-- The loops of a cell freed. -/
def State.freeLoops (s : State) (c : Nat) : State := (s.loopsOf c).foldl (fun s e => s.freeLoop e.1) s

/-- A planned image takes over: in an EMPTY cell it starts at once, in any other the cell is reset and starts with it (R159).  DESIGN
CHOICE (log 91): a pair that the planning empties of the old image stays ACTIVE in it. -/
def State.installImage (s planned : State) (c : Nat) (i : Image) : State :=
  let olds := s.loopsOf c
  let fresh := (s.cell c).image.isNone
  let s0 := (if fresh then s else s.resetCell c c false).freeLoops c
  let s1 := { s0 with loops := planned.loops, pairs := planned.pairs.map fun (e : Nat × Pair) =>
    (e.1, { e.2 with running := if olds.any fun o => some o.1 == e.2.running then none else e.2.running }) }
  let news := s1.loopsOf c
  let s2 := news.foldl State.takeLoop (s1.setCell c { s1.cell c with image := some i, loading := none })
  if fresh then
    let s3 := (s2.allocate c).setCell c { (s2.allocate c).cell c with state := 2, shared := [], badWords := [] }
    (news.foldl (fun s e => s.readyLoop e.1) s3).zeroCredits c
  else s2

/-- A cell with no load under way any more. -/
def Cell.unloaded (x : Cell) : Cell :=
  { x with loading := none, viaHap := false, state := if x.state = 1 then x.settled else x.state }

/-- A load handed to the placer: its re-plan is queued once the signature has been verified (R158, R169). -/
def State.queueLoad (s : State) (c : Nat) : State :=
  let x := s.cell c
  match x.loading with
  | none => s
  | some i =>
    if s.verifyImage c i then s.replan (.load c) else (s.setCell c x.unloaded).loadEnds c i.iid x.viaHap loadSignature

/-- The selectors of a buffer that name a loop of a cell other than OWNER, where that was not so before: XCELL (R146). -/
def State.trcArises (old s : State) (n : Nat) : State :=
  if allSelectors.any fun k => s.trcOther n k && !old.trcOther n k then s.setRegB (Reg.TRC_STAT n) 23 true else s

/-- IMAGE_PLACE: the load of a cell ends with its result (R153, R159). -/
def State.placeImage (s : State) (c : Nat) : State :=
  let x := s.cell c
  match x.loading with
  | none => s
  | some i =>
    let back := s.setCell c x.unloaded
    if x.state = 4 ∨ s.shed 4 then back.loadEnds c i.iid x.viaHap loadBusy
    else if !i.headerOk c then back.loadEnds c i.iid x.viaHap loadFormat
    else
      let r := (back.freeLoops c).planImage c i
      if r.1 ≠ loadPlaced then back.loadEnds c i.iid x.viaHap r.1
      else
        let s0 := ((back.installImage r.2 c i).upkeep).loadEnds c i.iid x.viaHap loadPlaced
        let s1 := allTraces.foldl (State.trcArises back) s0
        if c = 0 then (if i.len ≤ 262144 then s1.storeReq 11 else s1.storeRefused 11 2) else s1

/-- IMAGE_PLACE (R153): its re-plan is the first of the queue. -/
def execImagePlace (cell : Nat) (s : State) : Out :=
  match s.placer.replans with
  | .load c :: t => if c = cell then .next ((s.setPlacer { s.placer with replans := t }).placeImage cell) else .next s
  | _ => .next s

/-! ### Re-plans (R158) -/

/-- Loops that R164 leaves without a pair, placed on ACTIVE pairs where they fit. -/
def State.replaceStranded (s : State) : State :=
  (s.liveLoops.filter fun e => e.2.pair == noPair).foldl (fun s e => s.replace e.1) s

/-- What one re-plan does. -/
def State.runReplan (s : State) (w : ReplanWhy) : State :=
  match w with
  | .load c => s.placeImage c
  | .tier n shed => (s.planTier n shed).replaceStranded.upkeep
  | .mismatch _ => s.replaceStranded.upkeep
  | .unload _ => s.replaceStranded.upkeep
  | .cellReset _ => s.replaceStranded.upkeep
  | .grant _ => s.replaceStranded.upkeep
  | .config => s.replaceStranded.upkeep
  | .engineOver _ => s.replaceStranded.upkeep

/-- PLANNED_MOVE (R157): in the loop's idle interval, its next boundary still ahead; it waits while T4 holds its target powered down. -/
def execPlannedMove (l : Nat) (s : State) : Out :=
  let L := s.loop l
  match s.placer.moves.find? fun m => m.1 == l with
  | none => .next s
  | some (_, p, q) =>
    let up := (s.pair q).state == pairActive
    if L.inPeriod || (L.runs && decide (L.due ≤ s.dtb)) || (up && s.pairCode q != pairActive) then .next s
    else
      let s0 := s.setPlacer { s.placer with moves := s.placer.moves.filter fun m => m != (l, p, q) }
      if (L.pair == p || L.pair2 == some p) && up && s.roomOn q L && q != L.pair && some q != L.pair2 then
        let L1 := if L.pair = p then { L with pair := q } else { L with pair2 := some q }
        .next ((s0.setLoop l L1).onPair q).upkeep
      else .next s0

/-- ENGINE_LOAD_CHECK (R155): every 100 ms; HWK_LOADk shows the measured loading (HWK registers). -/
def State.loadOf (s : State) (k : Nat) : Nat :=
  let ns := (s.hwk.busy.map fun b => b.getD k 0).sum
  ns * capOf k * 10 / (9 * (kindEngines k).length * second)

def State.checkKind (s : State) (k : Nat) : State :=
  let m := s.loadOf k
  let s1 := s.setReg (Reg.HWK_LOAD k) (w32 m)
  let past := s1.placer.engineRefused.contains k
  if 95 * capOf k < 100 * m then
    let s2 := s1.setPlacer { s1.placer with engineRefused := if past then s1.placer.engineRefused else k :: s1.placer.engineRefused }
    ((s2.setRegB Reg.PLC_STAT 4 true).emit Ev.ENGINE_OVER 0 [w32 k, w32 m, w32 (capOf k)]).replan (.engineOver k)
  else if past && decide (100 * m < 85 * capOf k) then
    s1.setPlacer { s1.placer with engineRefused := s1.placer.engineRefused.filter fun j => j != k }
  else s1

def execEngineLoadCheck (s : State) : Out :=
  if s.dtb / 100000000 = s.placer.lastLoadCheck / 100000000 then .next s
  else
    let s1 := allKinds.foldl State.checkKind (s.setPlacer { s.placer with lastLoadCheck := s.dtb })
    .next { s1 with hwk := { s1.hwk with busy := ([0, 0, 0, 0] :: s1.hwk.busy).take 10 } }

/-! ### Cell commands (Table 4.10, R173) -/

/-- Result codes of PLC_CRES and PLC_LRES. -/
def cresAccepted : Nat := 1
def cresNoperm : Nat := 2
def cresState : Nat := 3
def cresMerged : Nat := 4
def cresBadcmd : Nat := 5

/-- A load under way abandoned by a RESET: it ends with BUSY (Table 4.10, R458). -/
def State.abandonLoad (s : State) (c : Nat) : State :=
  let x := s.cell c
  match x.loading with
  | none => s
  | some i =>
    let s1 := s.setCell c { x.unloaded with state := x.settled }
    let s2 := s1.setPlacer { s1.placer with replans := s1.placer.replans.filter fun w => w != .load c }
    s2.loadEnds c i.iid x.viaHap loadBusy

/-- The CLK_FAB cycle that an instant lies in (Table 15.1). -/
def State.fabCycle (s : State) (t : Nat) : Nat := if s.onSafe then t / 40 else t * 3 / 4

/-- The lower-numbered source of two reset commands in one CLK_FAB cycle, in the CELL_RESET that they share (R175). -/
def State.lowerSource (s : State) (src c : Nat) : State :=
  if s.fabCycle s.dtb ≠ s.fabCycle (s.cell c).resetAt then s
  else { s with recd := { s.recd with handed := s.recd.handed.map fun ev =>
    match ev.body with
    | [a, b, d, e] => if ev.code = Ev.CELL_RESET ∧ ev.cell = c ∧ ev.stamp = (s.cell c).resetAt ∧ src < d.toNat
        then { ev with body := [a, b, w32 src, e] } else ev
    | _ => ev } }

/-- RESET of a cell (Table 4.10): result code and state. -/
def State.cmdReset (s : State) (src c : Nat) : Nat × State :=
  let x := s.cell c
  if src ≠ 0 ∧ src ≠ c then (cresNoperm, s)
  else if x.state = 4 then (cresMerged, s.lowerSource src c)
  else if x.state = 1 then
    if x.image.isSome then (cresAccepted, (s.abandonLoad c).resetCell c src false)
    else
      let inc := (x.inc + 1) % 0x10000
      let s1 := (s.setCell c { x with inc := inc }).abandonLoad c
      (cresAccepted, s1.emit Ev.CELL_RESET c [w32 x.inc, w32 inc, w32 src, w32 (s1.inFlight c)])
  else if x.state = 0 then (cresState, s)
  else (cresAccepted, s.resetCell c src false)

/-- SUSPEND: every loop, pinned included, at its next period end. -/
def State.cmdSuspend (s : State) (src c : Nat) : Nat × State :=
  let x := s.cell c
  if src ≠ 0 then (cresNoperm, s)
  else if x.state ≠ 2 then (cresState, s)
  else
    let s1 := s.setCell c { x with csusp := true, state := 3 }
    (cresAccepted, (s1.loopsOf c).foldl (fun s e => s.suspend false e.1) s1)

/-- RESUME of a cell suspended by command. -/
def State.cmdResume (s : State) (src c : Nat) : Nat × State :=
  let x := s.cell c
  if src ≠ 0 then (cresNoperm, s)
  else if x.state ≠ 3 ∨ !x.csusp then (cresState, s)
  else
    let s1 := s.setCell c { x with csusp := false }
    let s2 := (s1.loopsOf c).foldl (fun s e => s.unsuspend false e.1) s1
    (cresAccepted, s2.settleCell c)

/-- UNLOAD: R173 steps 1 to 4, then placements and memory freed; never of cell 0 (R168). -/
def State.cmdUnload (s : State) (src c : Nat) : Nat × State :=
  let x := s.cell c
  if src ≠ 0 ∨ c = 0 then (cresNoperm, s)
  else if x.state ≠ 2 ∧ x.state ≠ 3 then (cresState, s)
  else (cresAccepted, s.resetCell c src true)

/-- A cell command by code (PLC_CCMD): result and state. -/
def State.cellCommand (s : State) (src c cmd : Nat) : Nat × State :=
  match cmd with
  | 1 => s.cmdReset src c
  | 2 => s.cmdSuspend src c
  | 3 => s.cmdResume src c
  | 4 => s.cmdUnload src c
  | _ => (cresBadcmd, s)

/-- A write to PLC_CCMD by an accessor: the command names the cell of the accessor's PLC_CSEL, and the result goes to its PLC_CRES.
PLC_CSEL, PLC_CRES, PLC_LSEL and PLC_LRES are those of the accessing cell. -/
def State.writeCcmd (s : State) (w : Who) (cmd : Nat) : State :=
  let src := s.whoCell w
  let r := s.cellCommand src (s.regF (bk src Reg.PLC_CSEL) 9 0) cmd
  r.2.setReg (bk src Reg.PLC_CRES) (w32 r.1)

/-- CELL_RESET, CELL_SUSPEND, CELL_RESUME, CELL_UNLOAD: PLC_CCMD with CMD 1 to 4. -/
def execCellReset (w : Who) (s : State) : Out :=
  .next (s.access w Reg.PLC_CCMD fun s => s.writeCcmd w 1)
def execCellSuspend (w : Who) (s : State) : Out :=
  .next (s.access w Reg.PLC_CCMD fun s => s.writeCcmd w 2)
def execCellResume (w : Who) (s : State) : Out :=
  .next (s.access w Reg.PLC_CCMD fun s => s.writeCcmd w 3)
def execCellUnload (w : Who) (s : State) : Out :=
  .next (s.access w Reg.PLC_CCMD fun s => s.writeCcmd w 4)

/-- CELL_CMD_BAD: any other code (R176). -/
def execCellCmdBad (w : Who) (cmd : Nat) (s : State) : Out :=
  if 1 ≤ cmd % 16 ∧ cmd % 16 ≤ 4 then .next s
  else .next (s.access w Reg.PLC_CCMD fun s => s.writeCcmd w (cmd % 16))

/-- Whether a store of a cell waits in a pair's queue. -/
def State.cellPosted (s : State) (c : Nat) : Bool := allPairs.any fun p => (s.pair p).queue.any fun x => x.cell == c

/-- Whether a tag in flight carries the incarnation a cell now has: the reset holds at step 6 (R174). -/
def State.sameIncTag (s : State) (c : Nat) : Bool :=
  s.hwk.tags.any fun e => e.2.used && !e.2.internal && e.2.cell == c && e.2.inc == (s.cell c).inc

/-- The end of an unload: placements and memory freed (Table 4.10). -/
def State.unloadEnds (s : State) (c : Nat) : State :=
  let x := s.cell c
  ((s.freeLoops c).setCell c { Cell.empty with inc := x.inc, staleSeen := x.staleSeen }).replan (.unload c)

/-- Steps 5 to 7 of a cell reset (Table 4.12): shared data zeroed, segments and checkpoints as R57 gives them, the state back, and
period 0 of each loop to come. -/
def State.zeroedCell (s : State) (c : Nat) : State :=
  let ls := s.loopsOf c
  let s1 := s.allocate c
  let x := s1.cell c
  let t4 := s.shed 4 && ls.any fun e => !e.2.pinned
  let x1 := { x with shared := [], badWords := [], t4 := t4 }
  let s2 := s1.setCell c { x1 with state := x1.settled }
  let s3 := ls.foldl (fun s e => s.readyLoop e.1) s2
  let s4 := ls.foldl (fun s e =>
    let s' := if x1.csusp then s.suspend false e.1 else s
    if t4 && !e.2.pinned then s'.suspend true e.1 else s') s3
  s4.zeroCredits c

/-- CELL_RESET_ZEROED (R173): once the cell's posted stores have reached memory and no tag carries its incarnation; an unload ends after
the frame boundary at which the slots are released. -/
def execCellResetZeroed (cell : Nat) (s : State) : Out :=
  let x := s.cell cell
  if x.state ≠ 4 ∨ s.cellPosted cell then .next s
  else if x.unloading then
    if s.dtb < frameAfter x.resetAt then .next s else .next (s.unloadEnds cell)
  else if s.sameIncTag cell then .next s
  else .next (s.zeroedCell cell)

/-! ### Loop commands (PLC_LCMD) -/

/-- RESTART of a stopped loop: from its latest checkpoint at its next boundary (R166); one that no pair holds is placed anew where a pair
takes it. -/
def State.restartLoop (s : State) (l : Nat) : Nat × State :=
  let L := s.loop l
  if L.state ≠ .stopped then (cresState, s)
  else
    let L1 := { L with halted := false }
    if L.pair = noPair then
      let s1 := (s.setLoop l L1).replace l
      if (s1.loop l).pair = noPair then (cresState, s) else (cresAccepted, s1)
    else if L.cmdSusp || L.t4Susp then (cresAccepted, s.setLoop l { L1 with state := .suspended })
    else (cresAccepted, s.goOn l L1)

/-- STOP of a loop at its next period end, or at once where it awaits its boundary (R170). -/
def State.stopLoop (s : State) (l : Nat) : Nat × State :=
  let L := s.loop l
  if !L.runs then (cresState, s)
  else (cresAccepted, (s.setLoop l { L with stopReq := true }).suspendLoop l)

/-- A loop command by an accessor on the loop of its PLC_LSEL. -/
def State.writeLcmd (s : State) (w : Who) (cmd : Nat) : State :=
  let src := s.whoCell w
  let l := s.regF (bk src Reg.PLC_LSEL) 12 0
  let L := s.loop l
  let r := if cmd ≠ 1 ∧ cmd ≠ 2 then (cresBadcmd, s)
    else if src ≠ 0 ∧ (L.state = .free ∨ L.cell ≠ src) then (cresNoperm, s)
    else if L.state = .free then (cresState, s)
    else if cmd = 1 then s.restartLoop l else s.stopLoop l
  r.2.setReg (bk src Reg.PLC_LRES) (w32 r.1)

/-- LOOP_RESTART and LOOP_STOP: PLC_LCMD with CMD 1 and 2. -/
def execLoopRestart (w : Who) (s : State) : Out :=
  .next (s.access w Reg.PLC_LCMD fun s => s.writeLcmd w 1)
def execLoopStop (w : Who) (s : State) : Out :=
  .next (s.access w Reg.PLC_LCMD fun s => s.writeLcmd w 2)

/-! ### The grant page (R172, R176, R178) -/

def grantPage : Nat := 0x40032000

/-- The cell of PLC_GSEL. -/
def State.gsel (s : State) : Nat := s.regF Reg.PLC_GSEL 9 0

/-- A write to PLC_GSEL, which acts only for cell 0 and is refused while the page is dirty or pending. -/
def State.writeGsel (s : State) (cell : Nat) : State :=
  if s.regB (stageOf grantPage) 2 || s.isPending grantPage then s.setRegB Reg.PLC_GERR 0 true
  else s.setReg Reg.PLC_GSEL (w32 (cell % 1024))

/-- GRANT_SELECT_WRITE (R176). -/
def execGrantSelectWrite (w : Who) (cell : Nat) (s : State) : Out :=
  .next (s.access w Reg.PLC_GSEL fun s => if s.whoCell w = 0 then s.writeGsel cell else s)

/-- The agreement rules of the grant page (R178): 0, or the lowest that fails. -/
def State.grantAgree (s : State) : Nat :=
  let c := s.gsel
  let sh (a : Nat) : Word := s.shadow (bk c a)
  let others := allCells.filter fun d => d != c
  let mem := sh Reg.PLC_GMEM
  let quota := sh Reg.PLC_GQUOTA
  let slot (n : Nat) : Bool := bitAt (sh (Reg.PLC_GSLOT (n / 32))) (n % 32)
  let x := s.cell c
  let ls := (s.loopsOf c).map Prod.snd
  let total (hi lo : Nat) : Nat := fld mem hi lo + (others.map fun d => s.regF (bk d Reg.PLC_GMEM) hi lo).sum
  if fld mem 12 0 < fld mem 28 16 ∨ 4096 < fld mem 12 0 then 1
  else if 121856 < total 12 0 then 2
  else if 288 < total 28 16 then 3
  else if (List.range 104).any fun n => slot n && others.any fun d => s.slotGranted d n then 4
  else if (List.range 16).any fun r =>
    let b := sh (Reg.PLC_GNBASE r)
    let n := fld (sh (Reg.PLC_GNCNT r)) 20 0
    bitAt b 31 && (n == 0 || decide (1048576 < fld b 19 0 + n)) then 5
  else if 8192 < fld quota 13 0 ∨ s.keyEmpty (fld quota 27 24) then 6
  else if x.state ≠ 0 ∧ ((ls.any fun L => L.decl.slots.any fun n => !slot n) ∨ fld quota 13 0 < ls.length ∨
      fld quota 23 16 < (ls.filter Loop.pinned).length ∨ fld mem 12 0 < x.mem ∨ fld mem 28 16 < x.fast) then 7
  else if c = 0 ∧ ¬(bitAt (sh (Reg.PLC_GPAGE 1)) 16 ∧ bitAt (sh (Reg.PLC_GPAGE 1)) 18) then 8
  else 0

/-- The grant page takes effect: the stored grant table is asked for and a re-plan queued (R158, R172). -/
def State.grantApplied (s : State) : State := (s.storeReq 5).replan (.grant s.gsel)

/-! ### Page 0 (R177) -/

/-- The agreement rules of PLC page 0. -/
def State.plcAgree (s : State) : Nat :=
  let cfg := s.shadow Reg.PLC_CFG
  let hz := planClock (fld cfg 1 0)
  if fld cfg 1 0 = 3 then 1
  else if fld cfg 15 8 = 0 then 2
  else if (s.liveLoops.any fun e => decide (hz < e.2.decl.wcet * 10000)) ∨
      (allPairs.any fun p => (s.pair p).state == pairActive && !loopsFit hz ((s.pairLoops p).map Prod.snd)) then 3
  else 0

/-! ### Registers (R176) -/

/-- PLC_STAT. -/
def State.plcStat (s : State) : Word :=
  let w := s.reg Reg.PLC_STAT
  setFld (setFld (setFld (setBit w 0 (!s.placer.replans.isEmpty)) 13 8 s.pairBudget) 19 16 (s.countPairs pairStandby)) 29 24
    (s.countPairs pairActive)

/-- PLC_PSTATq. -/
def State.plcPstat (s : State) (q : Nat) : Word :=
  w32 (((List.range 8).map fun i => s.pairCode (8 * q + i) * 16 ^ i).sum)

/-- PLC_CSTAT for a reading cell (R176). -/
def State.plcCstat (s : State) (src : Nat) : Word :=
  let c := s.regF (bk src Reg.PLC_CSEL) 9 0
  let x := s.cell c
  if src ≠ 0 ∧ src ≠ c then 0
  else w32 (x.inc % 0x10000 * 0x10000 + x.t4.toNat * 16 + x.csusp.toNat * 8 + x.state)

/-- PLC_CTAGS for a reading cell. -/
def State.plcCtags (s : State) (src : Nat) : Word :=
  let c := s.regF (bk src Reg.PLC_CSEL) 9 0
  if src ≠ 0 ∧ src ≠ c then 0 else w32 (s.staleTags c)

/-- PLC_LSTAT's code of a loop state. -/
def LoopState.code : LoopState → Nat
  | .free => 0
  | .running => 1
  | .suspended => 2
  | .stopped => 3
  | .migrating => 4
  | .awaiting => 5

/-- The registers of the loop inspection page, of the loop that a reading cell selects: 0 of another cell's loop.  DESIGN CHOICE (log
92): with PAIR and PAIR2, P2V reads 0 for a cell other than cell 0. -/
def State.plcLoop (s : State) (src off : Nat) : Word :=
  let L := s.loop (s.regF (bk src Reg.PLC_LSEL) 12 0)
  if L.state = .free ∨ (src ≠ 0 ∧ L.cell ≠ src) then 0
  else match off with
    | 0x4 =>
      let pairs := if src ≠ 0 then 0 else L.pair % 32 * 0x10000 + (match L.pair2 with
        | some p => 0x200000 + p % 32 * 0x400000
        | none => 0)
      w32 (pairs + L.decl.pidx * 16 + L.pinned.toNat * 8 + L.state.code)
    | 0x8 => w32 (L.decl.lid * 0x10000 + L.cell)
    | 0xC => w32 L.ckpt.per
    | 0x10 => w32 (L.total * 0x10000 + L.cause * 0x100 + L.consec)
    | 0x1C => w32 (sat 0xFFFFFFFF L.maxCycles)
    | _ => 0

end Sys2Proof.Machine
end

