-- ==== Sys2Proof/Machine/Rtc.lean ====
section
/-! DEFINITION. The RTC and its backup domain (R425 to R433 of 12_recorder_rtc.md). -/
namespace Sys2Proof.Machine

/-- The RTC page and its STAGE register. -/
def rtcPage : Nat := 0x40680000

/-- The count holds a 48-bit seconds count and a 16-bit fraction (R25, R425). -/
def rtcMod : Nat := 0x10000000000000000

def State.rtcTicks (s : State) : Nat := s.rtc.ticks

/-- The seconds of a count, and its fraction. -/
def rtcSec (t : Nat) : Nat := t / 65536
def rtcFrac (t : Nat) : Nat := t % 65536

/-- The count's words in records: seconds bits [31:0] and [47:32] and the fraction (R403, Table 12.7). -/
def rtcWords (t : Nat) : List Word := [w32 (rtcSec t), w32 (rtcSec t / 0x100000000), w32 (rtcFrac t)]

/-- The count changed to `t`; a change of the seconds count is a seconds tick, at which the DTB is latched (R425), unless the domain has
been handed over (R517). -/
def State.rtcCount (s : State) (t : Nat) : State :=
  let t := t % rtcMod
  let s1 := { s with rtc := { s.rtc with ticks := t } }
  if rtcSec t = rtcSec s.rtc.ticks ∨ s.ctl.rtcHanded then s1
  else (s1.setReg Reg.RTC_PPSL (w32 s.dtb)).setReg Reg.RTC_PPSH (w32 (s.dtb / 0x100000000))

/-- TRIM, signed (R425). -/
def State.trim (s : State) : Int := sext 8 (s.regF Reg.RTC_TRIM 7 0)

/-- The ticks one crystal tick adds: 1, with TRIM further ones every 1,048,576 ticks, or none while ticks are omitted
(R425). -/
def State.rtcAdvance (s : State) : State :=
  let ph := (s.rtc.trimPhase + 1) % 1048576
  let extra : Int := if ph = 0 then s.trim else 0
  let owed := s.rtc.toOmit + (-extra).toNat
  let add := if owed = 0 then 1 + extra.toNat else 0
  let s1 := { s with rtc := { s.rtc with trimPhase := ph, toOmit := owed - 1, lastEdge := s.dtb } }
  s1.rtcCount (s.rtc.ticks + add)

/-- The agreement rules of the RTC page (R433): 0, or the lowest that fails. -/
def State.rtcAgree (s : State) : Nat :=
  let op := fld (s.shadow Reg.RTC_CTL) 1 0
  let sh := sext 17 (fld (s.shadow Reg.RTC_SHIFT) 16 0)
  if op = 3 then 1
  else if op = 2 ∧ (sh = 0 ∨ sh < -65535 ∨ 65535 < sh) then 2
  else if fld (s.shadow Reg.RTC_TRIM) 7 0 = 0x80 then 3 else 0

/-- The agreement rule of the rate limits (R432): every range with a refill interval has a token. -/
def State.recAgree (s : State) : Nat :=
  if (List.range 16).any fun b => fld (s.shadow (Reg.REC_RL b)) 15 0 != 0 && fld (s.shadow (Reg.REC_RL b)) 23 16 == 0 then 1 else 0

/-- The apply of the RTC page at this tick (R427): the registers take their shadow values, and the operation acts. -/
def State.rtcApply (s : State) : State :=
  let old := s.rtc.ticks
  let trim0 := s.reg Reg.RTC_TRIM
  let op := fld (s.shadow Reg.RTC_CTL) 1 0
  let regs := [Reg.RTC_SETL, Reg.RTC_SETH, Reg.RTC_SHIFT, Reg.RTC_TRIM, Reg.RTC_CTL]
  let s1 := regs.foldl (fun x a => x.setReg a (s.shadow a)) s
  let s2 := { s1 with shd := s1.shd.filter (fun e => !regs.contains e.1), pend := mdel rtcPage s1.pend }
  let stage := rtcPage + 0xFFC
  let s3 := s2.setReg stage
    (setFld (setBit (setBit (setBit (s2.reg stage) 0 false) 2 false) 4 true) 31 16 (s2.regF stage 31 16 + 1))
  let s4 :=
    if op = 1 then
      let v := ((s.shadow Reg.RTC_SETL).toNat + fld (s.shadow Reg.RTC_SETH) 15 0 * 0x100000000) * 65536 +
        fld (s.shadow Reg.RTC_SETH) 31 16
      let x := (s3.rtcCount v).setReg Reg.RTC_STAT (setFld (setBit (s3.reg Reg.RTC_STAT) 2 true) 1 0 0)
      ({ x with rtc := { x.rtc with lastEdge := s.dtb } }).emit Ev.RTC_SET 0 (rtcWords old ++ rtcWords v)
    else if op = 2 then
      let sh := sext 17 (fld (s.shadow Reg.RTC_SHIFT) 16 0)
      let adv := s3.rtcAdvance
      let v := ((adv.rtc.ticks : Int) + sh) % (rtcMod : Int)
      let x := (adv.rtcCount v.toNat).setRegB Reg.RTC_STAT 2 true
      x.emit Ev.RTC_SHIFT 0 (wOfInt sh :: rtcWords v.toNat)
    else s3.rtcAdvance
  let s5 := s4.setRegF Reg.RTC_CTL 1 0 0
  if s5.reg Reg.RTC_TRIM = trim0 then s5 else s5.storeReq 7

/-- Whether an apply of the RTC page takes effect at a tick: it is pending, and the backup domain still takes writes (R517). -/
def State.rtcPends (s : State) : Bool := mhas rtcPage s.pend && !s.ctl.rtcHanded

/-- One tick of the RTC: a pending apply takes effect at it (Table 1.7), else the count advances. -/
def State.rtcTick (s : State) : State := if s.rtcPends then s.rtcApply else s.rtcAdvance

/-- The apply of the RTC page with a given OP, where one is pending. -/
def State.rtcApplyOp (s : State) (op : Nat) : State :=
  if s.rtcPends && fld (s.shadow Reg.RTC_CTL) 1 0 == op then s.rtcApply else s

/-- RTC_TICK (R425). -/
def execRtcTick (s : State) : Out := .next s.rtcTick

/-- SET (R427): the tick at which an RTC apply with OP SET takes effect. -/
def execRtcSet (s : State) : Out := .next (s.rtcApplyOp 1)

/-- SHIFT (R427). -/
def execRtcShift (s : State) : Out := .next (s.rtcApplyOp 2)

/-- TRIM_CHANGE (R427): the tick at which an RTC apply with OP NONE takes effect. -/
def execTrimChange (s : State) : Out := .next (s.rtcApplyOp 0)

/-- RTC_OSC_STOP (R428): no edge for 250 µs sets OSCSTOP; it is recorded while the logic side runs. -/
def execRtcOscStop (s : State) : Out :=
  if s.dtb < s.rtc.lastEdge + 250000 || s.regB Reg.RTC_STAT 0 then .next s
  else
    let s1 := s.setRegB Reg.RTC_STAT 0 true
    .next (if s.ctl.por.isSome then s1 else s1.emit Ev.RTC_OSC_STOP 0 (rtcWords s.rtc.ticks))

/-- A switch of the backup domain to VBAK (R429). -/
def State.backupSwitch (s : State) : State :=
  let n := s.regF Reg.RTC_SWCNT 15 0
  let t := s.rtc.ticks
  let s1 := if n = 0 then
      (s.setReg Reg.RTC_SWL (w32 (rtcSec t))).setReg Reg.RTC_SWH
        (setFld (setFld 0 31 16 (rtcFrac t)) 15 0 (rtcSec t / 0x100000000))
    else s
  s1.setReg Reg.RTC_SWCNT (w32 (sat 0xFFFF (n + 1)))

/-- RTC_BACKUP_SWITCH (R429). -/
def execRtcBackupSwitch (s : State) : Out := .next s.backupSwitch

/-- A read of backup RAM word `i` finds bad parity in the bytes of `bad`: each newly found byte sets its bit, PERR, and
is recorded (R430). -/
def State.bkParity (s : State) (i bad : Nat) : State :=
  [0, 1, 2, 3].foldl (fun s b =>
    let byte := 4 * i + b
    let r := Reg.RTC_BKPERR (byte / 32)
    let isBad := bad / 2 ^ b % 2 == 1 || mget false byte s.rtc.badParity
    if !isBad then s
    else
      let s1 := { s with rtc := { s.rtc with badParity := mset false byte true s.rtc.badParity } }
      if s1.regB r (byte % 32) then s1
      else ((s1.setRegB r (byte % 32) true).setRegB Reg.RTC_STAT 3 true).emit Ev.RTC_BKRAM_PARITY 0 [w32 i]) s

/-- A write to backup RAM word `i` sets the parity of each of its bytes (R430). -/
def State.bkWrite (s : State) (i : Nat) (v : Word) : State :=
  let s1 := s.setReg (Reg.RTC_BK i) v
  { s1 with rtc := { s1.rtc with badParity := s1.rtc.badParity.filter fun e => e.1 / 4 != i } }

/-- A write to RTC_CMD (R433). -/
def State.rtcCmd (s : State) (v : Word) : State :=
  let s1 := if bitAt v 1 then
      [0, 1, 2, 3].foldl (fun s w => s.setReg (Reg.RTC_BKPERR w) 0) (s.setRegB Reg.RTC_STAT 3 false)
    else s
  if bitAt v 0 then ((s1.setReg Reg.RTC_SWL 0).setReg Reg.RTC_SWH 0).setReg Reg.RTC_SWCNT 0 else s1

/-- A read of RTC_FRAC by a reader whose latch bank is `b`: the fraction, with the seconds latched (R426). -/
def State.rtcFracRead (s : State) (b : Nat) : State :=
  let t := s.rtc.ticks
  let s1 := (s.setReg (bk b Reg.RTC_SECL) (w32 (rtcSec t))).setReg (bk b Reg.RTC_SECH) (w32 (rtcSec t / 0x100000000))
  { s1 with answer := w32 (rtcFrac t) }

/-- The backup domain after a loss of all its power (R431). -/
def State.backupLost (s : State) : State :=
  let other (k : Nat) : Bool := !(0x40680000 ≤ addrOf k && decide (addrOf k < 0x40700000))
  ({ s with
    act := s.act.filter fun e => other e.1, shd := s.shd.filter fun e => other e.1, pend := s.pend.filter fun e => other e.1
    rtc := RtcSt.reset }).emit Ev.RTC_BACKUP_LOST 0 []

end Sys2Proof.Machine
end

