-- ==== Sys2Proof/Machine/Nvs.lean ====
section
/-! DEFINITION. The commands of the recorder and the non-volatile store: cursor and flush commands, NVS operations of cells,
stores of sets, and the RTC's reads and commands (R412 to R430 of 12_recorder_rtc.md). -/
namespace Sys2Proof.Machine

/-! ### Cursor and commands of the recorder -/

/-- OLDEST, AT, AFTER, NEWEST (R415). -/
def execCursorOldest (w : Who) (s : State) : Out :=
  .next (s.access w Reg.REC_CURSOR fun s => s.startFill (s.whoCell w) 0)
def execCursorAt (w : Who) (s : State) : Out :=
  .next (s.access w Reg.REC_CURSOR fun s => s.startFill (s.whoCell w) 1)
def execCursorAfter (w : Who) (s : State) : Out :=
  .next (s.access w Reg.REC_CURSOR fun s => s.startFill (s.whoCell w) 2)
def execCursorNewest (w : Who) (s : State) : Out :=
  .next (s.access w Reg.REC_CURSOR fun s => s.startFill (s.whoCell w) 3)

/-- A write of FLUSH to REC_CMD: a flush starts where none runs (R412). -/
def State.cmdFlush (s : State) : State := if s.flushing then s else s.startFlush .command

def execFlush (w : Who) (s : State) : Out :=
  .next (s.access w Reg.REC_CMD fun s => s.cmdFlush)

/-- The area of a cell erased, by cell 0 only (R418); no undoing of a locked sequence brings it back. -/
def State.nvErase (s : State) (who cell : Nat) : State :=
  let rest (m : SMap Byte) : SMap Byte := m.filter fun e => e.1 / 4096 != cell
  if who ≠ 0 then s
  else { s with recd := { s.recd with cellNv := rest s.recd.cellNv, nvUndo := s.recd.nvUndo.map fun u => (u.1, rest u.2) } }

def execNverase (w : Who) (cell : Nat) (s : State) : Out :=
  .next (s.access w Reg.REC_CMD fun s => s.nvErase (s.whoCell w) cell)

/-! ### NVS operations of cells (Table 12.4) -/

/-- ERR = UNCORRECTABLE (Table 5.3). -/
def errUncorrectable : Nat := 2

/-- The place of a transaction's data in its cell's area. -/
def Tag.nvAt (x : Tag) : Nat := 4096 * x.cell + (descArg x.desc 0).toNat

/-- READ (R418): `bad` where a line's CRC fails; the data is written as read. -/
def execNvsRead (t : Nat) (bad : Bool) (s : State) : Out :=
  if !s.mayRun t 2 0x01 then .next s
  else
    let x := s.tag t
    let ws := (List.range (descLen x.desc / 4)).map fun i => (memWord s.recd.cellNv (x.nvAt + 4 * i), false)
    .next ((s.dmaWrite t (descDst x.desc) ws).ranWith t (if bad then errUncorrectable else 0))

/-- The words of a transaction's source as its reads find them, and the first that holds an uncorrectable error. -/
def State.nvSource (s : State) (x : Tag) : List Word × Option Nat :=
  let rs := (List.range (descLen x.desc / 4)).map fun i => s.dmaRead x.cell (descSrc x.desc + 4 * i)
  (rs.map fun r => r.1, rs.findIdx? fun r => r.2.2)

/-- Line writes of the cell pool: the fraction consumed in REC_WEAR, recorded as it first reaches 50 % and 90 % (R424). -/
def State.wearPool (s : State) (lines : Nat) : State :=
  let old := poolUsed s.recd.poolWrites
  let s1 := ({ s with recd := { s.recd with poolWrites := s.recd.poolWrites + lines } }).showWear
  let used := poolUsed s1.recd.poolWrites
  if (old < 50 ∧ 50 ≤ used) ∨ (old < 90 ∧ 90 ≤ used) then s1.emit Ev.NVS_WEAR 0 [w32 used] else s1

/-- The areas as they were before a locked sequence of WRITEs, kept while a WRITE of it is to come (R418). -/
def State.nvMark (s : State) (x : Tag) : Option (Nat × SMap Byte) :=
  let rest := (s.engine (x.engine.getD 9)).rest
  if rest.all fun u => descOpc (s.tag u).desc != 0x02 then none
  else if (s.recd.nvUndo.map Prod.fst) = some x.head then s.recd.nvUndo else some (x.head, s.recd.cellNv)

/-- A locked sequence of WRITEs that ends in an error: as a whole it has not been written (R418; DEDUCED, log 105). -/
def State.nvUndone (s : State) (head : Nat) : State :=
  match s.recd.nvUndo with
  | none => s
  | some u => if u.1 = head then { s with recd := { s.recd with cellNv := u.2, nvUndo := none } } else s

/-- WRITE (R418): a source word with an uncorrectable error leaves the area as it was. -/
def execNvsWrite (t : TagReads) (s' : State) : Out :=
  if !s'.mayRun t.tag 2 0x02 then .next s'
  else
    let x := s'.tag t.tag
    let s := s'.sourceEcc x.cell (descSrc x.desc) (descLen x.desc) t.ecc
    let src := s.nvSource x
    match src.2 with
    | some i => .next ((s.dmaUncorrectable x.cell (descSrc x.desc + 4 * i)).ranWith t.tag errUncorrectable)
    | none =>
      let at_ := x.nvAt
      let lines := (at_ + descLen x.desc - 1) / 256 - at_ / 256 + 1
      let nv := msetList 0 at_ (wordBytes src.1) s.recd.cellNv
      .next ((({ s with recd := { s.recd with cellNv := nv, nvUndo := s.nvMark x } }).wearPool lines).ranWith t.tag 0)

/-- EMIT (R404, R417): the origin stamp is the instant of the grant. -/
def execNvsEmit (t : TagReads) (s' : State) : Out :=
  if !s'.mayRun t.tag 2 0x10 then .next s'
  else
    let x := s'.tag t.tag
    let s := s'.sourceEcc x.cell (descSrc x.desc) (descLen x.desc) t.ecc
    let src := s.nvSource x
    match src.2 with
    | some i => .next ((s.dmaUncorrectable x.cell (descSrc x.desc + 4 * i)).ranWith t.tag errUncorrectable)
    | none =>
      let stamp := (s.engine (x.engine.getD 9)).since
      .next ((s.emitAt stamp (0xF00 + (descArg x.desc 0).toNat % 256) x.cell src.1).ranWith t.tag 0)

/-! ### Stores (R420 to R423) -/

/-- A store that failed: the block's own result code reports it, and after a failed step 4 the slot of the commit ring holds no
record whose own CRC passes (R420). -/
def State.storeFailed (s : State) (n step : Nat) : State :=
  let x := s.nvSet n
  let s0 := if step = 4 then s.setNvSet n { x with ring := (⟨x.other, x.nextSeq, 0, 0, false⟩ :: x.ring).take 8 } else s
  let s1 := s0.storeFail n step
  if n = 0 then s1.feStoreFailed else s1

/-- The step of a store at which an error that stands has come: the bank written, or read back. -/
def NvSet.failsNow (x : NvSet) : Bool := (x.failing == 2 && x.step != 2) || (x.failing == 3 && x.step == 4)

/-- An access of a store of a set has ended (R420): the store goes on with its next one, fails, or is returned as not done where its
block is masked (Table 5.5). -/
def State.storeStepped (s : State) (n : Nat) : State :=
  let x := { s.nvSet n with left := (s.nvSet n).left - 1 }
  let s1 := s.setNvSet n x
  if x.storing.isNone then s
  else if x.failsNow then s1.storeFailed n x.failing
  else if x.left = 0 then s1
  else if s1.reqMasked (.store n) then s1.storeDropped n
  else s1.askInternal (.store n)

/-- An access of the reading of the house image has ended: the next one follows, and after the last the image goes to the placer (R187,
R521). -/
def State.houseStepped (s : State) : State :=
  let left := s.hwk.houseLeft - 1
  let s1 := { s with hwk := { s.hwk with houseLeft := left } }
  if (s.cell 0).loading.isNone || (s.cell 0).viaHap then s1
  else if left = 0 then s1.queueLoad 0
  else s1.askInternal .house

/-- What follows the end of an internal transaction: the recorder's next log line, a store's next access, or its failure. -/
def State.afterInternal (s : State) (op : Option InternalReq) (good : Bool) : State :=
  match op with
  | some .logLine => s.askLine
  | some .house => s.houseStepped
  | some (.store n) =>
    if good then s.storeStepped n
    else if (s.nvSet n).storing.isSome then s.storeFailed n (s.nvSet n).step
    else s
  | _ => s

/-- The end of the transaction that runs on an engine, with what follows. -/
def State.transactionEnds (s : State) (e t err : Nat) : State :=
  let s1 := if err = 0 then s else s.nvUndone (s.tag t).head
  ((s1.endRunning e t (if err = 0 then stDone else stError) err).payOwed).afterInternal (s.tag t).op (err == 0)

/-- Whether the event of a cell's EMIT waits to be accepted, suppressed or dropped (Table 12.4). -/
def State.emitWaits (s : State) (x : Tag) : Bool :=
  !x.internal && x.kind == 2 && descOpc x.desc == 0x10 && s.recd.handed.any fun ev =>
    ev.code == 0xF00 + (descArg x.desc 0).toNat % 256 && ev.cell == x.cell && ev.stamp == (s.engine (x.engine.getD 9)).since

/-- TRANSACTION_COMPLETE (R189): of the running transaction whose operation has been carried out. -/
def execTransactionComplete (t : Nat) (s : State) : Out :=
  let x := s.tag t
  match x.engine with
  | some e => if s.isRunning t && x.ran && !s.emitWaits x then .next (s.transactionEnds e t x.err) else .next s
  | none => .next s

/-- ENGINE_WATCHDOG (R190). -/
def execEngineWatchdog (e : Nat) (s : State) : Out :=
  let eng := s.engine e
  match eng.running with
  | none => .next s
  | some t =>
    if s.dtb < eng.since + 4 * tmax (engineKind e) then .next s
    else
      let c := (s.tag t).cell
      let s1 := s.transactionEnds e t 1
      let s2 := (s1.setEngine e { s1.engine e with resetAt := some s.dtb }).setRegB Reg.HWK_STAT 30 true
      .next (s2.emit Ev.ENGINE_FAULT c [w32 e, w32 c, w32 t])

/-- An internal transaction of the store port whose operation has been carried out ends before the next one of an internal requester
starts. -/
def State.portFreed (s : State) : State :=
  match (s.engine 9).running with
  | none => s
  | some t => if (s.tag t).internal && (s.tag t).ran then s.transactionEnds 9 t 0 else s

/-- An internal requester's next transaction on the store port, where it runs or the arbiter grants it now. -/
def State.portFor (s : State) (r : InternalReq) : Option (State × Nat) :=
  let mine (s : State) (t : Nat) : Bool := (s.tag t).op == some r && !(s.tag t).ran
  match (s.engine 9).running.filter (mine s) with
  | some t => some (s, t)
  | none =>
    let s1 := s.portFreed.askInternal r
    if !s1.engineFree 9 then none
    else match s1.select 2 with
      | .internal t => if (s1.tag t).op == some r then some (s1.startInternal 9 2 t, t) else none
      | _ => none

/-- LOG_LINE_WRITE (R412): the next line is written, as the operation of an internal transaction. -/
def execLogLineWrite (s : State) : Out :=
  if s.recd.logPos ≤ lineData * s.recd.linesWritten then .next s
  else match s.portFor .logLine with
    | none => .next s
    | some (s1, t) => .next (((({ s1 with recd := s1.recd.writeLine }).ranWith t 0).recFill).overflow)

/-- Internal transactions of one requester, each with its own tag, one after another while there is `more`: up to `n` of them, or until
the arbiter grants none. -/
def State.runPort (r : InternalReq) (more : State → Bool) (op : State → State) : Nat → State → State
  | 0, s => s
  | n + 1, s =>
    if !more s then s
    else match s.portFor r with
      | none => s
      | some (s1, t) => State.runPort r more op n ((op s1).transactionEnds 9 t 0)

/-- Whether released data waits for its log line. -/
def State.linesWait (s : State) : Bool := decide (lineData * s.recd.linesWritten < s.recd.logPos)

/-- Every waiting log line written, one transaction each (R181, R412). -/
def State.writeLines (s : State) : State :=
  State.runPort .logLine State.linesWait (fun s => { s with recd := s.recd.writeLine })
    ((s.recd.logPos + lineData - 1) / lineData - s.recd.linesWritten) s

/-- Every waiting log line written by the island itself, which has the MRAM port (Table 15.6). -/
def State.ownLines (s : State) : State :=
  (List.range ((s.recd.logPos + lineData - 1) / lineData - s.recd.linesWritten)).foldl
    (fun s _ => { s with recd := s.recd.writeLine }) s

/-- Whether a store has accesses left. -/
def State.storeGoes (n : Nat) (s : State) : Bool := (s.nvSet n).storing.isSome && decide (0 < (s.nvSet n).left)

/-- A marker written, as the operation of an internal transaction of the store port (R181, R413). -/
def State.markerOn (clean : Bool) (s1 : State) (t : Nat) : State := (s1.writeMarker clean).transactionEnds 9 t 0

/-- A flush brought to its end: what is left of its lines, REC_FLUSH and the marker, once the recorder has the engine (R192, R412); the
state is as it was where the engine is another's. -/
def State.flushEnds (s : State) (why : FlushWhy) : Option State :=
  let s1 := s.writeLines
  if s1.linesWait || !s1.portFreed.engineFree 9 then none
  else
    let s2 := s1.flushRecord.writeLines.portFreed
    (s2.portFor .marker).map fun r => (State.markerOn (why != .command) r.1 r.2).endFlush why

/-- MARKER_WRITE (R413): every 60 s while the recorder runs; where the store port is another's its request waits. -/
def execMarkerWrite (s : State) : Out :=
  if s.ctl.por.isSome || s.flushing || decide (s.dtb < s.recd.lastMarker + 60000000000) then .next s
  else match s.portFor .marker with
    | none => .next (s.askInternal .marker)
    | some (s1, t) => .next (State.markerOn false s1 t)

/-- Whether a set's store may start now: no flush runs, its block is not masked, and the set is free (R195, R420, R421, R423). -/
def State.mayStore (s : State) (n : Nat) : Bool :=
  decide (n < 16) && !s.flushing && !s.reqMasked (.store n) && (s.nvSet n).free s.dtb

/-- NVS_STORE_START (R420). -/
def execNvsStoreStart (set fail : Nat) (s : State) : Out :=
  .next (if s.mayStore set && (s.nvSet set).requested then s.storeStart set fail else s)

/-- NVS_STORE_PENDING_START (R421). -/
def execNvsStorePendingStart (set fail : Nat) (s : State) : Out :=
  .next (if s.mayStore set && (s.nvSet set).pending then s.storeStart set fail else s)

/-- STORE_COMMIT (R420, steps 4 and 5): what is left of the store's accesses, each in an internal transaction of the store port that the
arbiter grants, the last two of them the commit record written and read back; `fail` where it does not read back as written.  The store
waits where the port is another's (R197, R423). -/
def execStoreCommit (set : Nat) (fail : Bool) (s : State) : Out :=
  if (s.nvSet set).storing.isNone ∨ s.flushing then .next s
  else
    let s0 := State.runPort (.store set) (State.storeGoes set) id (s.nvSet set).left s.portFreed
    if (s0.nvSet set).storing.isNone ∨ (s0.nvSet set).left ≠ 0 then .next s0
    else if fail then .next (s0.storeFailed set 4)
    else
      let s3 := s0.storeCommit set
      .next (if set = 0 then s3.feStoreDone
        else if set = 1 then s3.colStoreDone
        else s3.emit Ev.NVS_COMMIT 0 [w32 set, w32 (s3.nvSet set).seq])

/-! ### RTC reads and commands -/

/-- RTC_FRAC_READ (R426). -/
def execRtcFracRead (w : Who) (s : State) : Out :=
  .next (s.access w Reg.RTC_FRAC fun s => s.rtcFracRead (whoBank w))

/-- A read of word `i` of the backup RAM; `bad` names the bytes whose parity fails (R430). -/
def State.bkRead (s : State) (i bad : Nat) : State :=
  { s.bkParity i bad with answer := s.reg (Reg.RTC_BK i) }

/-- BKRAM_READ. -/
def execBkramRead (w : Who) (i bad : Nat) (s : State) : Out :=
  if 32 ≤ i then .next s else .next (s.access w (Reg.RTC_BK i) fun s => s.bkRead i bad)

/-- CLRPERR and CLRSW (R433). -/
def execClrperr (w : Who) (s : State) : Out :=
  .next (s.access w Reg.RTC_CMD fun s => if s.ctl.rtcHanded then s else s.rtcCmd 2)
def execClrsw (w : Who) (s : State) : Out :=
  .next (s.access w Reg.RTC_CMD fun s => if s.ctl.rtcHanded then s else s.rtcCmd 1)

end Sys2Proof.Machine
end

