-- ==== Sys2Proof/Machine/Power.lean ====
section
/-! DEFINITION. Supplies, dips and tier demands (R478 to R494, R497, R498 of 14_power.md).  Tiers taking effect are in
`Tiers.lean`. -/
namespace Sys2Proof.Machine

def State.setPwr (s : State) (x : PwrSt) : State := { s with pwr := x }
def State.pwrEvt (s : State) (i : Nat) : State := s.setRegB Reg.PWR_STAT i true

/-- A voltage in 10 mV as V, a temperature in 0.1 degree as degrees, FP32. -/
def voltF (v : Int) : Word := ratF v 100
def degF (t : Int) : Word := ratF t 10

/-! ### Demands -/

def State.demV (s : State) : Nat := s.regF Reg.PWR_STAT 28 26
def State.demT (s : State) : Nat := s.regF Reg.PWR_STAT 25 23
def State.demF (s : State) : Nat := s.regF Reg.PWR_STAT 22 20

/-- The deepest of the three demands (R487). -/
def State.demand (s : State) : Nat := max s.demV (max s.demT s.demF)

/-- A dip is in progress. -/
def State.inDip (s : State) : Bool := s.regB Reg.PWR_STAT 16

/-- The demands changed: a restoration whose tier is demanded again stops (R490), and a dip notes the demands that stood
during it (R491). -/
def State.demandsMoved (s : State) : State :=
  let s1 := if s.pwr.deepest ≤ s.demand then s.setRegB Reg.PWR_STAT 15 false else s
  if s.inDip then
    s1.setPwr { s1.pwr with dipThermal := s1.pwr.dipThermal || s.demT != 0, dipForced := s1.pwr.dipForced || s.demF != 0 }
  else s1

/-- VIN of a pair of samples (R478). -/
def vins (a b : List Nat) : List Nat := List.zipWith max a b

/-- The falling thresholds of T1 to T5 (Table 14.7), 10 mV. -/
def tierVolts : List Nat := [1620, 1560, 1500, 1450, 1400]

/-- Whether some three consecutive samples lie below a threshold (R478). -/
def crossed (th : Nat) : List Nat → Bool
  | a :: b :: c :: t => (decide (a < th) && decide (b < th) && decide (c < th)) || crossed th (b :: c :: t)
  | _ => false

/-- The deepest tier whose threshold the samples have crossed. -/
def crossedTier (v : List Nat) : Nat := (tierVolts.filter fun th => crossed th v).length

/-- The last `n` of a list. -/
def lastOf {α : Type} (n : Nat) (l : List α) : List α := l.drop (l.length - n)

/-- Samples with their instants: the newest, the last, is of this instant, and one follows another after 10 µs (R478). -/
def timed (now : Nat) (v : List Nat) : List (Nat × Nat) :=
  (List.range v.length).map fun i => (now - 10000 * (v.length - 1 - i), v.getD i 0)

/-! ### What the inputs show (R478) -/

def State.inFlag (s : State) (i k : Nat) : Bool := s.regB (Reg.PWR_INSTAT i) k

/-- Whether an input can carry, and its voltage. -/
def State.inGood (s : State) (i : Nat) : Bool := !s.inFlag i 3 && !s.inFlag i 2 && !s.inFlag i 1
def State.inVolt (s : State) (i : Nat) : Nat := s.regF (Reg.PWR_INSTAT i) 31 16

/-- CARRY of both inputs: the diode of the higher good input conducts, and of both where they are equal. -/
def State.carries (s : State) : State :=
  [0, 1].foldl (fun t i =>
    t.setRegB (Reg.PWR_INSTAT i) 0 (s.inGood i && (!s.inGood (1 - i) || decide (s.inVolt (1 - i) ≤ s.inVolt i)))) s

/-- The voltage of an input as its newest sample has it; a reversed input shows 0. -/
def State.showSample (s : State) (i : Nat) (vs : List Nat) : State := match vs.getLast? with
  | none => s
  | some v => if s.inFlag i 3 then s else s.setRegF (Reg.PWR_INSTAT i) 31 16 (sat 0xFFFF v)

/-- Both inputs as their newest samples have them, with CARRY. -/
def State.showSamples (s : State) (a b : List Nat) : State := ((s.showSample 0 a).showSample 1 b).carries

/-- The samples of a dip since the last command that brought some: minima with the instant of that of VIN, the last at or below
18.5 V, and the voltage demand, which the thresholds crossed raise (R488, R491). -/
def State.dipDemand (s0 : State) (a b : List Nat) : State :=
  let s := s0.showSamples a b
  if !s.inDip then s
  else
    let p := s.pwr
    let v := vins a b
    let low := (timed s.dtb v).foldl (fun m e => if e.2 < m.2 then e else m) (p.dipMinAt, p.dipMin)
    let s1 := s.setPwr { p with
      dipMin := low.2, dipMinAt := low.1, minA := a.foldl min p.minA, minB := b.foldl min p.minB
      lastLow := (timed s.dtb v).foldl (fun t e => if e.2 ≤ 1850 then e.1 else t) p.lastLow
      hist := lastOf 2 (p.hist ++ v) }
    (s1.setRegF Reg.PWR_STAT 28 26 (max s1.demV (crossedTier (p.hist ++ v)))).demandsMoved

/-- DIP_BEGIN (R488): VIN crosses 17.5 V; `a` and `b` are the latest samples of LOGIC-A and LOGIC-B in 10 mV, newest last, the last of
them the one that completes the crossing.  A hold-up test ends (R483). -/
def execDipBegin (a b : List Nat) (s : State) : Out :=
  let v := lastOf 3 (vins a b)
  if s.inDip ∨ !crossed 1750 v ∨ s.pwr.down.isSome then .next s
  else
    let s1 := (s.showSamples a b).setPwr { s.pwr with
      dipStart := s.dtb, dipMin := v.getLastD 0, dipMinAt := s.dtb, minA := a.getLastD 0, minB := b.getLastD 0, dipDeep := s.pwr.deepest,
      dipThermal := false, dipForced := false, lastLow := s.dtb, testAt := none, hist := lastOf 2 v }
    let s2 := (s1.setRegB Reg.PWR_STAT 16 true).setRegF Reg.PWR_STAT 28 26 (max s.pwr.deepest (crossedTier v))
    .next s2.demandsMoved

/-- PWR_DIP (R488, R491): VIN above 18.5 V in every sample for 50 ms, counted from the first such sample, ends the dip, T5 not having
taken effect; `a` and `b` are the samples since those of the command before. -/
def execPwrDip (a b : List Nat) (s : State) : Out :=
  if !s.inDip ∨ s.pwr.down.isSome then .next s
  else
    let s1 := s.dipDemand a b
    let p := s1.pwr
    if s.dtb < p.lastLow + 50010000 then .next s1
    else
      let us := (s.dtb - p.dipStart) / 1000
      let body := [voltF p.dipMin] ++ dtbWords p.dipMinAt ++ dtbWords p.dipStart ++
        [w32 us, w32 p.dipDeep, voltF p.minA, voltF p.minB, w32 (p.dipThermal.toNat + 2 * p.dipForced.toNat)]
      let s2 := ((s1.setRegB Reg.PWR_STAT 16 false).setRegF Reg.PWR_STAT 28 26 0).pwrEvt 2
      let s3 := (s2.setReg Reg.PWR_DIPV (voltF p.dipMin)).setReg Reg.PWR_DIPT (w32 (sat 0xFFFF (us / 1000) * 0x10000 + p.dipDeep))
      .next ((s3.countReg Reg.PWR_DIPCNT 31 0 0xFFFFFFFF 1).emit Ev.PWR_DIP 0 body)

/-- PWR_FORCE_WRITE (R494). -/
def State.writeForce (s : State) (v : Word) : State :=
  let n := fld v 2 0
  let old := s.demF
  if 4 < n then s
  else
    let s1 := ((s.setRegF Reg.PWR_STAT 22 20 n).setReg Reg.PWR_FORCE (w32 n)).demandsMoved
    if n = old then s1 else s1.emit Ev.PWR_FORCE 0 [w32 old, w32 n]

def execPwrForceWrite (w : Who) (v : Word) (s : State) : Out :=
  .next (s.access w Reg.PWR_FORCE fun s => s.writeForce v)

/-! ### Thermal demand (R484, R493) -/

/-- The thresholds of T1 to T5 in TB (Table 14.7), 0.1 degree. -/
def tierTemps : List Int := [1270, 1300, 1330, 1360, 1400]

/-- Whether a reading is at or above the threshold of tier k + 1; T5 is also reached by TJ. -/
def atTier (tb tj : Int) (k : Nat) : Bool := decide (tierTemps.getD k 0 ≤ tb) || (k == 4 && decide (1600 ≤ tj))

/-- The instant since which a condition has held. -/
def since (b : Bool) (t : Option Nat) (now : Nat) : Option Nat := if b then some (t.getD now) else none

/-- Whether a condition has held for a time. -/
def heldFor (t : Option Nat) (now ns : Nat) : Bool := match t with
  | none => false
  | some x => decide (x + ns ≤ now)

/-- PWR_THERMAL (R484, R493): a reading of TB and TJ, 0.1 degree.  The demand rises to a tier whose threshold TB has held for
1 s, and falls by one when TB has stayed 5 degrees below for 10 s. -/
def execPwrThermal (tb tj : Int) (s : State) : Out :=
  let p := s.pwr
  let old := s.demT
  let rise := (List.range 5).map fun k => since (atTier tb tj k) (p.rise.getD k none) s.dtb
  let up := ((List.range 5).filter fun k => heldFor (rise.getD k none) s.dtb 1000000000).foldl (fun m k => max m (k + 1)) 0
  let cool := old != 0 && decide (tb ≤ tierTemps.getD (old - 1) 0 - 50)
  let fall := since cool p.fall s.dtb
  let drop := decide (up ≤ old) && heldFor fall s.dtb 10000000000
  let new := if old < up then up else if drop then old - 1 else old
  let still := new != 0 && decide (tb ≤ tierTemps.getD (new - 1) 0 - 50)
  let fresh := old == 0
  let p1 := { p with
    rise := rise, fall := if new = old then fall else since still none s.dtb, hiTb := if fresh then tb else max p.hiTb tb,
    hiTj := if fresh then tj else max p.hiTj tj, thDeep := if fresh then new else max p.thDeep new }
  let s1 := (s.setPwr p1).setReg Reg.PWR_TEMP (w32 (fld (wOfInt tj) 15 0 * 0x10000 + fld (wOfInt tb) 15 0))
  if new = old then .next s1
  else
    let s2 := ((s1.setRegF Reg.PWR_STAT 25 23 new).pwrEvt 3).demandsMoved
    .next (if old = 0 ∨ new = 0 then s2.emit Ev.PWR_THERMAL 0 [degF p1.hiTb, degF p1.hiTj, w32 p1.thDeep] else s2)

/-! ### LOGIC inputs (R478, R479) -/

/-- The number of a supply in a record's body: LOGIC-A 0, LOGIC-B 1, FIELD 2, VBAK 3, in the order of Table 0.5. -/
def supplyBody (n : Nat) (v : Int) : List Word := [w32 n, voltF v]

/-- A sample `v` of an input, 10 mV (Table 14.6): its voltage, 0 where reversed, its flags REV, OV and ABSENT, and what their changes
record.  OV says that the series switch is open: it recloses once the input has stood at or below 36.0 V for 10 ms, `low` being the ns
for which it has.  `start` marks the first sample after a power-on reset, in which an input that is expected and absent is lost; in the power-on reset
itself nothing is recorded (with both inputs reversed the module stays in it). -/
def State.inputSample (s : State) (i : Nat) (v : Int) (low : Nat) (start : Bool) : State :=
  let rev := decide (v < -100)
  let ov := decide (3800 < v) || (s.inFlag i 2 && (decide (3600 < v) || decide (low < 10000000)))
  let gone := !rev && decide (v < 600)
  let lost := gone && !s.inFlag i 1 && (if start then s.regB Reg.PWR_CFG (31 - i) else s.inFlag i 0)
  let w := w32 (sat 0xFFFF v.toNat * 0x10000 + 8 * rev.toNat + 4 * ov.toNat + 2 * gone.toNat)
  let s1 := (s.setReg (Reg.PWR_INSTAT i) w).carries
  let s2 := if fld (s.reg (Reg.PWR_INSTAT i)) 3 1 = fld w 3 1 then s1 else s1.pwrEvt 5
  let tell (b : Bool) (code : Nat) (s : State) : State := if b then s.emit code 0 (supplyBody i v) else s
  if s.ctl.por.isSome && !start then s2
  else tell (s.inFlag i 1 && !gone && !rev) Ev.PWR_INPUT_OK (tell lost Ev.PWR_INPUT_LOST (tell (ov && !s.inFlag i 2) Ev.PWR_INPUT_OV
    (tell (rev && !s.inFlag i 3 && !s.inFlag (1 - i) 3) Ev.PWR_INPUT_REV s2)))

/-- PWR_INPUT_REV: below -1.0 V; with both inputs reversed nothing is recorded. -/
def execPwrInputRev (i : Nat) (v : Int) (s : State) : Out :=
  .next (if i < 2 ∧ v < -100 then s.inputSample i v 0 false else s)

/-- PWR_INPUT_LOST: below 6.0 V; recorded where the input carried before. -/
def execPwrInputLost (i : Nat) (v : Int) (s : State) : Out :=
  .next (if i < 2 ∧ -100 ≤ v ∧ v < 600 then s.inputSample i v 0 false else s)

/-- PWR_INPUT_OV: above 38.0 V. -/
def execPwrInputOv (i : Nat) (v : Int) (s : State) : Out :=
  .next (if i < 2 ∧ 3800 < v then s.inputSample i v 0 false else s)

/-- PWR_INPUT_OK: a sample from 6.0 V to 38.0 V, after `v.ns` at or below 36.0 V; recorded where the input was absent. -/
def execPwrInputOk (i : Nat) (v : VoltFor) (s : State) : Out :=
  .next (if i < 2 ∧ 600 ≤ v.v ∧ v.v ≤ 3800 then s.inputSample i v.v v.ns false else s)

/-! ### FIELD (R479 to R481) -/

def State.fieldState (s : State) : Nat := s.regF Reg.PWR_FSTAT 15 12

/-- The FIELD voltage measured. -/
def State.fieldVolt (s : State) (v : Int) : State := s.setRegF Reg.PWR_FSTAT 31 16 (sat 0xFFFF v.toNat)

/-- The state that PWR_FSTAT shows: a miswiring case before a latch or a trip. -/
def FieldSw.code (f : FieldSw) : Nat :=
  if f.rev then 6 else if f.ov then 5 else if f.uv then 7 else if f.latched then 4 else if f.tripAt.isSome then 3
  else if f.on then 2 else if f.startAt.isSome then 1 else 0

/-- The switch open, the loads without supply. -/
def FieldSw.opened (f : FieldSw) : FieldSw := { f with startAt := none, on := false }

/-- The switch soft-starts, where nothing holds it open. -/
def FieldSw.begin (f : FieldSw) (now : Nat) : FieldSw :=
  if f.rev || f.ov || f.uv || f.latched || f.tripAt.isSome then f else { f with startAt := some now }

/-- TRIPS: a start that has reached 1 s without a trip resets the count (R480). -/
def State.fieldTrips (s : State) : Nat := match s.pwr.field.startAt with
  | some t => if t + 1000000000 ≤ s.dtb then 0 else s.regF Reg.PWR_FSTAT 11 8
  | none => s.regF Reg.PWR_FSTAT 11 8

/-- PWR_FSTAT as it reads. -/
def State.fstatRead (s : State) : Word := setFld (s.reg Reg.PWR_FSTAT) 11 8 s.fieldTrips

/-- The field switch as it now is: STATE follows, FEVT where it changed, the loads lose their supply where it was on, and BANKOFF shows
while FIELD is out (R481). -/
def State.setFsw (s : State) (f : FieldSw) : State :=
  let s1 := (s.setReg Reg.PWR_FSTAT s.fstatRead).setPwr { s.pwr with field := f }
  if f.code = s.fieldState then s1
  else
    let s2 := (s1.setRegF Reg.PWR_FSTAT 15 12 f.code).pwrEvt 6
    if s.fieldOn then s2.svFieldLost else if s2.fieldOut then s2.svBankOffs else s2

/-- A FIELD case of Table 14.6 that comes to hold: the switch opens, its flag and event. -/
def State.fieldCase (s : State) (v : Int) (f : FieldSw) (flag code : Nat) : State :=
  (((s.fieldVolt v).setFsw f.opened).setRegB Reg.PWR_FSTAT flag true).emit code 0 (supplyBody 2 v)

/-- PWR_FIELD_UV (R481): FIELD not reversed and below 16.0 V for the last `r.ns`, which acts from 1 ms. -/
def execPwrFieldUv (r : VoltFor) (s : State) : Out :=
  let f := s.pwr.field
  let v := r.v
  .next (if v < -100 ∨ 1600 ≤ v then s
    else if f.uv ∨ r.ns < 1000000 then (s.fieldVolt v).setFsw { f with rev := false }
    else s.fieldCase v { f with uv := true, rev := false } 5 Ev.PWR_FIELD_UV)

/-- PWR_FIELD_OV: above 36.0 V. -/
def execPwrFieldOv (v : Int) (s : State) : Out :=
  let f := s.pwr.field
  .next (if v ≤ 3600 then s
    else if f.ov then s.fieldVolt v
    else s.fieldCase v { f with ov := true, uv := false, rev := false } 6 Ev.PWR_FIELD_OV)

/-- PWR_FIELD_REV: below -1.0 V. -/
def execPwrFieldRev (v : Int) (s : State) : Out :=
  let f := s.pwr.field
  .next (if -100 ≤ v then s
    else if f.rev then s.fieldVolt v
    else s.fieldCase v { f with rev := true, uv := false } 7 Ev.PWR_FIELD_REV)

/-- Whether the closed switch trips (R480): the bus `v` below 10.0 V at the end of the soft start, 1 ms in current limit, or more than
44 A for 100 ms; `cur` is the current in 10 mA and `ns` how long it has lasted. -/
def fieldFaults (f : FieldSw) (v : Int) (cur ns now : Nat) : Bool := match f.startAt with
  | none => false
  | some t => (!f.on && decide (t + 5000000 ≤ now) && decide (v < 1000)) || (decide (6000 ≤ cur) && decide (1000000 ≤ ns)) ||
      (decide (4400 < cur) && decide (100000000 ≤ ns))

/-- PWR_FIELD_TRIP (R480): the switch opens; after 5 consecutive trips it latches. -/
def execPwrFieldTrip (r : LoadFor) (s : State) : Out :=
  let f := s.pwr.field
  let v := r.v
  if !fieldFaults f v r.cur r.ns s.dtb then .next s
  else
    let trips := s.fieldTrips + 1
    let latch := decide (5 ≤ trips)
    let f1 := { f.opened with latched := latch, tripAt := if latch then none else some s.dtb }
    let s1 := ((s.setFsw f1).setRegF Reg.PWR_FSTAT 11 8 trips).setRegB Reg.PWR_FSTAT 4 true
    let s2 := s1.emit Ev.PWR_FIELD_TRIP 0 (supplyBody 2 v)
    .next (if latch then s2.emit Ev.PWR_FIELD_LATCH 0 (supplyBody 2 v) else s2)

/-- FIELD_SWITCH_RETRY (R480): 1 s after a trip the switch soft-starts again. -/
def execFieldSwitchRetry (s : State) : Out :=
  let f := s.pwr.field
  match f.tripAt with
  | none => .next s
  | some t => .next (if s.dtb < t + 1000000000 then s else s.setFsw ({ f with tripAt := none }.begin s.dtb))

/-- PWR_FIELD_OK (R479, R481): a sample of FIELD from 16.0 V to 36.0 V, which ends UV and REV.  An open switch soft-starts, from
over-voltage after 10 ms at or below 34.0 V; with FIELD between 17.0 V and 34.0 V for the last `r.ns` and the switch closed for 10 ms the
loads have their supply again. -/
def execPwrFieldOk (r : VoltFor) (s : State) : Out :=
  let v := r.v
  if v < 1600 ∨ 3600 < v then .next s
  else
    let f := { s.pwr.field with rev := false, uv := false, ov := s.pwr.field.ov && (decide (3400 < v) || decide (r.ns < 10000000)) }
    let s1 := s.fieldVolt v
    match f.startAt with
    | none => .next (s1.setFsw (f.begin s.dtb))
    | some t =>
      if f.on ∨ v < 1700 ∨ 3400 < v ∨ r.ns < 10000000 ∨ s.dtb < t + 10000000 then .next (s1.setFsw f)
      else .next (((s1.setFsw { f with on := true }).emit Ev.PWR_FIELD_OK 0 (supplyBody 2 v)).svFieldBack)

/-- A write of FRETRY: a latched switch starts again. -/
def State.fieldRelease (s : State) : State :=
  let f := s.pwr.field
  if f.latched then (s.setFsw ({ f with latched := false }.begin s.dtb)).setRegF Reg.PWR_FSTAT 11 8 0 else s

def execFretry (w : Who) (s : State) : Out :=
  .next (s.access w Reg.PWR_CMD fun s => s.fieldRelease)

/-! ### Hold-up store and VBAK (R482, R483) -/

/-- A write of HUTEST: a test starts where no dip is in progress. -/
def State.startHuTest (s : State) : State := if s.inDip then s else s.setPwr { s.pwr with testAt := some s.dtb }

def execHutest (w : Who) (s : State) : Out :=
  .next (s.access w Reg.PWR_CMD fun s => s.startHuTest)

/-- One day, ns. -/
def dayNs : Nat := 86400000000000

/-- HOLDUP_TEST (R483): a test ends with its projection, `t` in 0.1 ms: the one HUTEST started, the one at start, or that of
every 24 h.  During a dip its result is discarded. -/
def execHoldupTest (t vst : Nat) (s : State) : Out :=
  let p := s.pwr
  let due := p.testAt.isSome || match p.testedAt with
    | none => true
    | some x => decide (x + dayNs ≤ s.dtb)
  if !due ∨ s.inDip then .next s
  else
    let s1 := (s.setPwr { p with testAt := none, testedAt := some s.dtb }).setReg Reg.PWR_HU
      (w32 (sat 0xFFFF vst * 0x10000 + sat 0xFFFF t))
    .next (if t < 200 then (s1.pwrEvt 7).emit Ev.PWR_HOLDUP_LOW 0 [] else s1)

/-- HOLDUP_CHARGED (R483): charged to 52 V. -/
def execHoldupCharged (vst : Nat) (s : State) : Out :=
  .next (if vst < 5200 then s else (s.setRegF Reg.PWR_HU 31 16 (sat 0xFFFF vst)).setRegB Reg.PWR_STAT 14 true)

/-- The flags of a VBAK measurement in mV (Table 14.6): OV, REV, LOW, ABSENT as bits 3 to 0. -/
def vbakFlags (v : Int) : Nat :=
  if 3800 < v then 8 else if v < -200 then 4 else if v < 1500 then 1 else if v ≤ 2400 then 2 else 0

/-- VBAK_TEST (R479, R482): every 10 s, `v` in mV under load; with VBMODE NONE VBAK is not monitored. -/
def execVbakTest (v : Int) (s : State) : Out :=
  if s.dtb < s.pwr.nextVbak ∨ s.regF Reg.PWR_CFG 29 28 = 2 then .next s
  else
    let old := fld (s.reg Reg.PWR_VBAK) 3 0
    let new := vbakFlags v
    let s1 := (s.setReg Reg.PWR_VBAK (w32 (sat 0xFFFF v.toNat * 0x10000 + new))).setPwr
      { s.pwr with nextVbak := s.dtb + 10000000000 }
    if new = old then .next s1
    else .next ((s1.pwrEvt 4).emit (if new = 0 then Ev.PWR_VBAK_OK else Ev.PWR_VBAK_LOW) 0 [w32 3, ratF v 1000])

/-- What an apply of page 1 does beside the new values (R497), and its agreement rule (R498). -/
def State.pwrApplied (s : State) : State := s.storeReq 10
def State.pwrAgree (s : State) : Nat := if fld (s.shadow Reg.PWR_CFG) 29 28 = 3 then 1 else 0

end Sys2Proof.Machine
end

