-- ==== Sys2Proof/Machine/HostLink.lean ====
section
/-! DEFINITION. The host links and gPTP (R434 to R445 of 13_host_service.md). -/
namespace Sys2Proof.Machine

def State.ptp (s : State) (l : Nat) : Ptp := mget Ptp.reset l s.host.ptps
def State.setPtp (s : State) (l : Nat) (x : Ptp) : State := s.setHost { s.host with ptps := mset Ptp.reset l x s.host.ptps }

def hstPage : Nat := 0x40701000

/-- HST_LSTATl.STATE: 0 down, 1 up, 2 shed, 3 disabled. -/
def State.linkState (s : State) (l : Nat) : Nat := s.regF (Reg.HST_LSTAT l) 31 30
def State.linkEn (s : State) (l : Nat) : Bool := s.regB (Reg.HST_LCFG l) 31
def State.linkUp (s : State) (l : Nat) : Bool := decide (l < 2) && s.linkState l == 1

/-- Whether a link receives and sends frames: those in flight during a relock are lost (Table 15.3). -/
def State.linkRuns (s : State) (l : Nat) : Bool := s.linkUp l && !s.onSafe

/-! ### Discipline (R442) -/

/-- HST_PTPSTAT, HST_GMIDw and the DISC and SYNCD bits brought up to date. -/
def State.ptpShow (s : State) : State :=
  let mode := match s.host.disc with
    | some _ => 1
    | none => if s.regF Reg.HST_PTPSTAT 31 30 = 0 then 0 else 2
  let s1 := s.setReg Reg.HST_PTPSTAT (setBit (setFld (s.reg Reg.HST_PTPSTAT) 31 30 mode) 29 (s.host.disc == some 1))
  let s2 := [0, 1].foldl (fun s l =>
    (s.setRegB (Reg.HST_LSTAT l) 28 (s.host.disc == some l)).setRegB (Reg.HST_LSTAT l) 27 (s.ptp l).synced) s1
  match s.host.disc with
  | none => s2
  | some l => (s2.setReg (Reg.HST_GMID 0) (w32 (s.ptp l).gm)).setReg (Reg.HST_GMID 1) (w32 ((s.ptp l).gm / 0x100000000))

/-- The synchronised instance with the better priority vector; of equals the one already disciplining, else HL-A. -/
def State.bestPtp (s : State) : Option Nat :=
  match (s.ptp 0).synced, (s.ptp 1).synced with
  | false, false => none
  | true, false => some 0
  | false, true => some 1
  | true, true =>
    if (s.ptp 0).prio < (s.ptp 1).prio then some 0
    else if (s.ptp 1).prio < (s.ptp 0).prio then some 1
    else some (s.host.disc.getD 0)

/-- The identity of a grandmaster as record words. -/
def gmWords (l gm : Nat) : List Word := [w32 l, w32 gm, w32 (gm / 0x100000000)]

/-- The disciplining instance chosen again; `gm0` is the grandmaster before the change. -/
def State.choosePtp (s : State) (gm0 : Nat) : State :=
  let new := s.bestPtp
  let s1 := (s.setHost { s.host with disc := new }).ptpShow
  match s.host.disc, new with
  | none, none => s1
  | none, some _ => s1.emit Ev.HST_SYNC 0 []
  | some _, none => s1.emit Ev.HST_SYNC_LOST 0 []
  | some a, some b => if a = b ∧ (s.ptp b).gm = gm0 then s1 else s1.emit Ev.HST_GM_CHANGE 0 (gmWords b (s.ptp b).gm)

/-- The grandmaster in force. -/
def State.gmNow (s : State) : Nat := match s.host.disc with
  | none => 0
  | some l => (s.ptp l).gm

/-- Whether an instance is synchronised at this instant (R442). -/
def State.ptpOk (s : State) (x : Ptp) : Bool :=
  let fresh (t : Option Nat) (n : Nat) : Bool := match t with
    | none => false
    | some t => decide (s.dtb ≤ t + 3 * n)
  x.capable && fresh x.annAt x.annInt && fresh x.syncAt x.syncInt && decide (4 ≤ x.run)

/-- An instance changed. -/
def State.ptpMoved (s : State) (l : Nat) (x : Ptp) : State :=
  let gm0 := s.gmNow
  (s.setPtp l { x with synced := s.ptpOk x }).choosePtp gm0

/-- ANNOUNCE (R441, R442): the grandmaster's priority vector, a lower number being the better, and identity. -/
def execAnnounce (l prio gm interval : Nat) (s : State) : Out :=
  if !s.linkRuns l then .next s
  else .next (s.ptpMoved l { s.ptp l with annAt := some s.dtb, annInt := interval, prio := prio, gm := gm })

/-- Whether a Sync has arrived within 3 sync intervals. -/
def State.syncFresh (s : State) (x : Ptp) : Bool := match x.syncAt with
  | none => false
  | some t => decide (s.dtb ≤ t + 3 * x.syncInt)

/-- SYNC_TIMEOUT (R442): the run of Syncs ends where they have lapsed. -/
def execSyncTimeout (l : Nat) (s : State) : Out :=
  let x := s.ptp l
  .next (if 2 ≤ l ∨ s.ptpOk x then s else s.ptpMoved l { x with run := if s.syncFresh x then x.run else 0 })

/-- PDELAY_REQ_SEND (R441): every 1 s. -/
def execPdelayReqSend (l : Nat) (s : State) : Out :=
  let x := s.ptp l
  if !s.linkRuns l || decide (s.dtb < x.nextReq) then .next s
  else .next ((s.setPtp l { x with reqAt := some s.dtb, nextReq := s.dtb + 1000000000 }).send l sentPdelayReq [])

/-- PDELAY_RESP (R441): the ingress time of the request and the egress time of the response at the partner, and the ingress of
the response here; `cap` is what the asCapable rules of the standard then give. -/
def execPdelayResp (l t2 t3 t4 : Nat) (cap : Bool) (s : State) : Out :=
  let x := s.ptp l
  match x.reqAt with
  | none => .next s
  | some t1 =>
    if !s.linkRuns l then .next s
    else
      let d : Int := (((t4 : Int) - (t1 : Int)) - ((t3 : Int) - (t2 : Int))) / 2
      .next (s.ptpMoved l { x with reqAt := none, delay := d, capable := cap })

/-- PDELAY_REQ (R441): answered with its ingress time and the egress time of the response. -/
def execPdelayReq (l t2 : Nat) (s : State) : Out :=
  .next (if s.linkRuns l then s.send l sentPdelayResp (bytesOf 8 t2 ++ bytesOf 8 s.dtb) else s)

/-- The rate correction in force, parts per 10^9, as HST_RATE holds it. -/
def State.rateNow (s : State) : Int := sext 32 (s.reg Reg.HST_RATE).toNat

/-! ### Links (R436 to R440) -/

/-- A link goes down: recorded with its reason, counted where it was up. -/
def State.linkDown (s : State) (l st reason : Nat) : State :=
  let was := s.linkUp l
  let s1 := s.setReg (Reg.HST_LSTAT l) (setBit (setFld (s.reg (Reg.HST_LSTAT l)) 31 30 st) 29 false)
  let s2 := if was then s1.countReg (Reg.HST_LCNT l) 31 16 0xFFFF 1 else s1
  let gm0 := s2.gmNow
  let s3 := s2.setHost { s2.host with upReason := mset 0 l reason s2.host.upReason }
  ((s3.emit Ev.HST_LINK_DOWN 0 [w32 l, w32 reason]).setPtp l Ptp.reset).choosePtp gm0

/-- HST_LINK_UP (R437): `pol` where P and N are exchanged (POLREV); its reason is that for which the link went down (R471). -/
def execHstLinkUp (l : Nat) (pol : Bool) (s : State) : Out :=
  if 2 ≤ l ∨ !s.linkEn l ∨ s.linkState l ≠ 0 then .next s
  else
    let s1 := s.setReg (Reg.HST_LSTAT l) (setBit (setFld (s.reg (Reg.HST_LSTAT l)) 31 30 1) 29 pol)
    .next (s1.emit Ev.HST_LINK_UP 0 [w32 l, w32 (mget 0 l s.host.upReason)])

/-- HST_LINK_DOWN (R437): cable or partner lost. -/
def execHstLinkDown (l : Nat) (s : State) : Out := .next (if s.linkUp l then s.linkDown l 0 0 else s)

/-- CABLE_DIAGNOSTIC (R436): every 1 s while the link is down; `faults` has OPEN, SHORT, SHORTGND, SUPPLY and ROLE as bits 0 to 4,
`dist` is in 0.1 m. -/
def execCableDiagnostic (l faults dist : Nat) (s : State) : Out :=
  if 2 ≤ l ∨ s.linkState l ≠ 0 ∨ s.dtb < mget 0 l s.host.nextDiag then .next s
  else
    let st := Reg.HST_LSTAT l
    let old := s.regF st 21 17
    let s1 := s.setHost { s.host with nextDiag := mset 0 l (s.dtb + 1000000000) s.host.nextDiag }
    let s2 := s1.setReg st (setFld (setFld (s1.reg st) 21 17 faults) 15 0 (sat 0xFFFF dist))
    .next ([0, 1, 2, 3, 4].foldl (fun s k =>
      if faults / 2 ^ k % 2 = 1 ∧ old / 2 ^ k % 2 = 0 then s.emit Ev.HST_CABLE_FAULT 0 [w32 l, w32 (17 + k), ratF dist 10]
      else s) s2)

/-- Whether a frame is taken on a link: of 64 to 1,518 bytes, untagged or with the link's VID (R434), and not an IPv4 fragment, a
datagram with options or another protocol (R438); a discarded frame is counted. -/
def State.takesFrame (s : State) (l : Nat) (f : HostFrame) : Bool :=
  decide (64 ≤ f.size) && decide (f.size ≤ 1518) && (f.vid == 0 || f.vid == s.regF (Reg.HST_LCFG l) 11 0) && f.kind == .plain
def State.dropFrame (s : State) (l : Nat) : State := s.countReg (Reg.HST_LCNT l) 15 0 0xFFFF 1

/-- Whether an IPv4 address is a broadcast on a link: the limited one or its subnet's. -/
def State.isBroadcast (s : State) (l : Nat) (a : Word) : Bool :=
  a == 0xFFFFFFFF || a == (s.reg (Reg.HST_IP l) ||| ~~~ s.reg (Reg.HST_MASK l))

/-- ARP_REQUEST (R438): answered with the link's address. -/
def execArpRequest (l : Nat) (frame : HostFrame) (target sender : Word) (s : State) : Out :=
  if !s.linkRuns l then .next s
  else if !s.takesFrame l frame then .next (s.dropFrame l)
  else if target ≠ s.reg (Reg.HST_IP l) then .next s
  else .next (s.send l sentArp ((List.range 6).map (Config.macAddr l) ++ bytesOf 4 target.toNat ++ bytesOf 4 sender.toNat))

/-- ICMP_ECHO (R438): answered with the same data. -/
def execIcmpEcho (l : Nat) (frame : HostFrame) (target sender : Word) (data : List Byte) (s : State) : Out :=
  if !s.linkRuns l then .next s
  else if !s.takesFrame l frame then .next (s.dropFrame l)
  else if target ≠ s.reg (Reg.HST_IP l) then .next s
  else .next (s.send l sentEcho (bytesOf 4 sender.toNat ++ data))

/-- T2 shed and restored for HL-B (R440). -/
def State.hstShed (s : State) : State := if s.linkEn 1 then s.linkDown 1 2 2 else s
def State.hstRestore (s : State) : State := if s.linkState 1 = 2 then s.setRegF (Reg.HST_LSTAT 1) 31 30 0 else s

/-- What an apply of page 1 does beside the new values (R437, R470, R471). -/
def State.hstApplied (old s : State) : State :=
  ([0, 1].foldl (fun s l =>
    let moved := old.reg (Reg.HST_IP l) != s.reg (Reg.HST_IP l) || old.regF (Reg.HST_LCFG l) 11 0 != s.regF (Reg.HST_LCFG l) 11 0
    if old.linkEn l && !s.linkEn l then s.linkDown l 3 1
    else if !old.linkEn l && s.linkEn l then s.setRegF (Reg.HST_LSTAT l) 31 30 (if l = 1 ∧ s.shed 2 then 2 else 0)
    else if moved && s.linkUp l then s.linkDown l 0 1
    else s) s).storeReq 8

/-- Whether a netmask is contiguous ones, and an address has a host part that is neither 0 nor all ones. -/
def maskOk (m : Word) : Bool := (List.range 33).any fun k => m.toNat == (0x100000000 - 2 ^ k) % 0x100000000 || (k == 32 && m == 0)
def hostOk (a m : Word) : Bool := (a &&& ~~~ m) != 0 && (a &&& ~~~ m) != ~~~ m

/-- The agreement rules of page 1 (R471): 0, or the lowest that fails. -/
def State.hstAgree (s : State) : Nat :=
  let en (l : Nat) : Bool := bitAt (s.shadow (Reg.HST_LCFG l)) 31
  let ip (l : Nat) : Word := s.shadow (Reg.HST_IP l)
  let mask (l : Nat) : Word := s.shadow (Reg.HST_MASK l)
  let cfg := s.shadow Reg.HST_HAPCFG
  let both := mask 0 &&& mask 1
  if [0, 1].any fun l => en l && !(maskOk (mask l) && hostOk (ip l) (mask l)) then 1
  else if (ip 0 &&& both) = (ip 1 &&& both) then 2
  else if fld (s.shadow Reg.HST_UDP) 15 0 = 0 ∨ fld cfg 31 16 = 0 ∨ fld cfg 7 0 = 0 ∨ fld (s.shadow Reg.HST_PTPCFG) 29 0 = 0 then 3
  else 0

end Sys2Proof.Machine
end

