-- ==== Sys2Proof/Machine/Face.lean ====
section
/-! DEFINITION. The front face: keys, LOCAL mode and the alarm (R465 to R467 of 13_host_service.md). -/
namespace Sys2Proof.Machine

def State.setFace (s : State) (x : FaceSt) : State := { s with face := x }

def State.localMode (s : State) : Bool := s.regB Reg.HST_FKEY 12
def State.stuck (s : State) (k : Nat) : Bool := s.regB Reg.HST_FKEY (8 + k)

/-- A key released for 100 ms is no longer stuck. -/
def State.unstick (s : State) (k : Nat) : State :=
  let up := mget 0 k s.face.upAt
  if s.stuck k && !s.regB Reg.HST_FKEY (4 + k) && decide (up + 100000000 ≤ s.dtb) then s.setRegB Reg.HST_FKEY (8 + k) false else s

/-- A debounced press of key `k`: DOWN, PRESS, its count and FACE_KEY with the LOCAL state; the press of a stuck key is ignored
(R465). -/
def State.press (s : State) (k : Nat) : State × Bool :=
  let s1 := s.unstick k
  let s2 := (s1.setFace { s1.face with downAt := mins k s.dtb (mdel k s1.face.downAt) }).setRegB Reg.HST_FKEY (4 + k) true
  if s2.stuck k then (s2, false)
  else
    let c := Reg.HST_FKCNT
    let s3 := (s2.setRegB Reg.HST_FKEY k true).setRegF c (8 * k + 7) (8 * k) (s2.regF c (8 * k + 7) (8 * k) + 1)
    let s4 := s3.setFace { s3.face with lastPress := s.dtb }
    (s4.emit Ev.FACE_KEY 0 [w32 k, w32 s.localMode.toNat], true)

/-- UNACK cleared by an acknowledgement (R467). -/
def State.acknowledge (s : State) : State := s.setRegB Reg.HST_ALARM 1 false

/-- ACK. -/
def execAck (s : State) : Out :=
  let p := s.press 0
  .next (if p.2 then p.1.acknowledge else p.1)

/-- SILENCE. -/
def execSilence (s : State) : Out := .next (s.press 1).1

/-- LOCAL: the 2 s hold begins. -/
def execLocalI (s : State) : Out :=
  let p := s.press 2
  .next (if p.2 then p.1.setFace { p.1.face with localAt := some s.dtb } else p.1)

/-- TEST: the 3 s LED test begins. -/
def execTest (s : State) : Out :=
  let p := s.press 3
  .next (if p.2 then p.1.setFace { p.1.face with testAt := some s.dtb } else p.1)

/-- LOCAL mode changed; the mailbox is read on entry (R463). -/
def State.setLocal (s : State) (on : Bool) : State :=
  let s1 := (s.setRegB Reg.HST_FKEY 12 on).emit Ev.FACE_LOCAL 0 []
  if on then { s1 with svcTag := { s1.svcTag with mbxDue := true } } else s1

/-- FACE_LOCAL (R465, R466): LOCAL held for 2 s toggles LOCAL mode. -/
def execFaceLocal (s : State) : Out :=
  match s.face.localAt with
  | none => .next s
  | some t => .next (if t + 2000000000 ≤ s.dtb then
      (s.setFace { s.face with localAt := none }).setLocal !s.localMode
    else s)

/-- FACE_KEY_STUCK (R465): held for more than 30 s. -/
def execFaceKeyStuck (k : Nat) (s : State) : Out :=
  if 4 ≤ k ∨ !s.regB Reg.HST_FKEY (4 + k) ∨ s.stuck k ∨ s.dtb ≤ mget 0 k s.face.downAt + 30000000000 then .next s
  else .next ((s.setRegB Reg.HST_FKEY (8 + k) true).emit Ev.FACE_KEY_STUCK 0 [])

/-- KEY_RELEASED (R465). -/
def execKeyReleased (k : Nat) (s : State) : Out :=
  if 4 ≤ k then .next s
  else if !s.regB Reg.HST_FKEY (4 + k) then .next (s.unstick k)
  else
    let f := s.face
    let f1 := { f with upAt := mins k s.dtb (mdel k f.upAt), localAt := if k = 2 then none else f.localAt }
    .next ((s.setFace f1).setRegB Reg.HST_FKEY (4 + k) false)

/-- LED_TEST_END (R465). -/
def execLedTestEnd (s : State) : Out :=
  match s.face.testAt with
  | none => .next s
  | some t => .next (if t + 3000000000 ≤ s.dtb then s.setFace { s.face with testAt := none } else s)

/-- LOCAL_TIMEOUT (R466). -/
def execLocalTimeout (s : State) : Out :=
  let ns := s.regF Reg.HST_HAPCFG 7 0 * 60000000000
  .next (if s.localMode && decide (s.face.lastPress + ns ≤ s.dtb) then s.setLocal false else s)

/-- A write to HST_ALARM (R467): a rise of ACTIVE sets UNACK, also where the same write acknowledges. -/
def State.writeAlarm (s : State) (v : Word) : State :=
  let rises := bitAt v 0 && !s.regB Reg.HST_ALARM 0
  let s1 := s.setRegB Reg.HST_ALARM 0 (bitAt v 0)
  let s2 := if bitAt v 2 then s1.acknowledge else s1
  if rises then s2.setRegB Reg.HST_ALARM 1 true else s2

def execAlarmWrite (w : Who) (v : Word) (s : State) : Out :=
  .next (s.access w Reg.HST_ALARM fun s => s.writeAlarm v)

end Sys2Proof.Machine
end

