-- ==== Sys2Proof/Machine/Tag.lean ====
section
/-! DEFINITION. The service tag (R459 to R464, R472 of 13_host_service.md). -/
namespace Sys2Proof.Machine

def State.setTagSt (s : State) (x : TagSt) : State := { s with svcTag := x }

/-- The bytes of `n` blocks from block `b`: the last committed copy (R461). -/
def State.tagBytes (s : State) (b n : Nat) : List Byte := mgetList 0 (16 * b) (16 * n) s.svcTag.mem

/-- The word at a byte offset of the tag's memory, as the window shows it. -/
def State.tagWord (s : State) (off : Nat) : Word := memWord s.svcTag.mem off

/-- A block committed. -/
def TagSt.commit (x : TagSt) (b : Nat) (data : List Byte) : TagSt := { x with mem := msetList 0 (16 * b) (data.take 16) x.mem }

/-- The tag's answer to a reader: response flags 0, then its data, or flags 1 and an error code. -/
def State.tagAnswer (s : State) (bytes : List Byte) : State := s.send 2 sentTag (0 :: bytes)
def State.tagError (s : State) (code : Nat) : State := s.send 2 sentTag [1, BitVec.ofNat 8 code]

/-- Error codes: a block that is not writable (R459), and one that does not exist. -/
def tagReadOnly : Nat := 0x12
def tagNoBlock : Nat := 0x10

/-- INVENTORY and GET_SYSTEM_INFORMATION (R459). -/
def execInventory (s : State) : Out := .next (s.tagAnswer Config.tagInventory)
def execGetSystemInformation (s : State) : Out := .next (s.tagAnswer Config.tagSystem)

/-- EXTENDED_READ_SINGLE_BLOCK and EXTENDED_READ_MULTIPLE_BLOCKS (R459, R461). -/
def execExtendedReadSingleBlock (b : Nat) (s : State) : Out :=
  .next (if b < 512 then s.tagAnswer (s.tagBytes b 1) else s.tagError tagNoBlock)

def execExtendedReadMultipleBlocks (b n : Nat) (s : State) : Out :=
  .next (if n ≤ 16 ∧ b + n ≤ 512 then s.tagAnswer (s.tagBytes b n) else s.tagError tagNoBlock)

/-- TAG_STAT's HOLD and HBLK. -/
def State.showHold (s : State) : State :=
  let w := s.reg Reg.TAG_STAT
  s.setReg Reg.TAG_STAT (match s.svcTag.hold with
    | some h => setFld (setBit w 30 true) 24 16 h.1
    | none => setBit w 30 false)

/-- EXTENDED_WRITE_SINGLE_BLOCK (R459, R462): the field holds the block from the end of the command. -/
def execExtendedWriteSingleBlock (b : Nat) (data : List Byte) (s : State) : Out :=
  if 512 ≤ b then .next (s.tagError tagNoBlock)
  else if b < 64 then .next (s.tagError tagReadOnly)
  else if s.svcTag.hold.isSome then .next s
  else .next ((s.setTagSt { s.svcTag with hold := some (b, data, s.dtb) }).showHold)

/-- FIELD_WRITE_COMMIT (R461, R462): after a wired commit of the same block. -/
def execFieldWriteCommit (s : State) : Out :=
  match s.svcTag.hold with
  | none => .next s
  | some h =>
    if (s.svcTag.wired.map fun w => w.1) = some h.1 then .next s
    else
      let s1 := (s.setTagSt { s.svcTag.commit h.1 h.2.1 with hold := none }).showHold
      let s2 := s1.setReg Reg.TAG_FCNT (s1.reg Reg.TAG_FCNT + 1)
      .next ((s2.setRegB Reg.TAG_STAT (if h.1 < 80 then 0 else 1) true).tagAnswer [])

/-- A wired write that a reset or a loss of power meets (R461): the block holds the old content or the new, which the spec leaves open. -/
def State.wiredLost (s : State) : State := match s.svcTag.wired with
  | none => s
  | some w =>
    let x := if s.free % 2 = 0 then s.svcTag else s.svcTag.commit w.1 w.2.1
    (s.setTagSt { x with wired := none }).draw

/-- READER_FIELD (R461): a write that loses its field leaves the old content or the new, which the spec leaves open. -/
def execReaderField (present : Bool) (s : State) : Out :=
  let s1 := s.setRegB Reg.TAG_STAT 31 present
  match s.svcTag.hold with
  | none => .next s1
  | some h =>
    if present then .next s1
    else
      let x := if s.free % 2 = 0 then s.svcTag else s.svcTag.commit h.1 h.2.1
      .next ((s1.setTagSt { x with hold := none }).showHold.draw)

/-- Results of TAG_WRES. -/
def State.tagRes (s : State) (res fcast : Nat) : State := s.setReg Reg.TAG_WRES (w32 (res * 0x10000000 + fcast % 0x2000))

/-- The µs that remain to an instant, rounded up. -/
def remainUs (t now : Nat) : Nat := (t - now + 999) / 1000

/-- A write to TAG_WCMD (R461, R462). -/
def State.writeTagCmd (s : State) (v : Word) : State :=
  let b := fld v 8 0
  let x := s.svcTag
  let held := match x.hold with
    | some h => if h.1 = b then some (remainUs (h.2.2 + 3000000) s.dtb) else none
    | none => none
  if !bitAt v 31 then s
  else if b < 80 then s.tagRes 4 0
  else match x.wired, held with
    | some w, _ => s.tagRes 3 (remainUs (w.2.2 + 200000) s.dtb)
    | none, some us => s.tagRes 3 us
    | none, none =>
      let data := wordBytes ((List.range 4).map fun i => s.reg (Reg.TAG_WBUF i))
      (s.setTagSt { x with wired := some (b, data, s.dtb) }).tagRes 2 0

def execTagWcmd (w : Who) (v : Word) (s : State) : Out :=
  .next (s.access w Reg.TAG_WCMD fun s => s.writeTagCmd v)

/-- WIRED_COMMIT_COMPLETE (R461). -/
def execWiredCommitComplete (s : State) : Out :=
  match s.svcTag.wired with
  | none => .next s
  | some w => .next ((s.setTagSt { s.svcTag.commit w.1 w.2.1 with wired := none }).tagRes 1 0)

/-- The records whose heads the status ring has not taken yet, in log order: codes of ranges 0x0 to 0xB (R411). -/
def State.newHeads (s : State) : List LogRec :=
  s.recd.log.filter fun x => decide (x.record.code < 0xC00) && decide (s.svcTag.headPos < x.stop)

/-- The status area written (Table 13.7): block 16, and the ring of the latest 47 heads in blocks 17 to 63. -/
def State.writeTagStatus (s : State) : State :=
  let x := s.svcTag
  let b16 := wordBytes [s.reg Reg.REC_PCC, s.reg Reg.REC_HOURS, w32 s.recd.startFlags, w32 (s.regF Reg.PWR_STAT 19 17)]
  let x1 := s.newHeads.foldl (fun x r =>
    { x.commit (17 + x.heads % 47) (wordBytes (r.record.headWords.take 4)) with heads := x.heads + 1, headPos := r.stop }) (x.commit 16 b16)
  s.setTagSt x1

/-- TAG_STATUS_WRITE (R460): every 10 s. -/
def execTagStatusWrite (s : State) : Out :=
  if s.dtb < s.svcTag.nextStatus then .next s
  else
    let s1 := s.writeTagStatus
    .next (s1.setTagSt { s1.svcTag with nextStatus := s.dtb + 10000000000 })

/-- TAG_ANT_CHECK (R464): at start and every 10 s. -/
def execTagAntCheck (bad : Bool) (s : State) : Out :=
  if s.dtb < s.svcTag.nextCheck then .next s
  else
    let was := s.regB Reg.TAG_STAT 28
    let s1 := (s.setTagSt { s.svcTag with nextCheck := s.dtb + 10000000000 }).setRegB Reg.TAG_STAT 28 bad
    .next (if bad && !was then s1.emit Ev.TAG_ANT_FAULT 0 [] else s1)

/-- The supply of the RF interface under T1 (R460). -/
def State.tagShed (s : State) : State := s.setRegB Reg.TAG_STAT 29 false
def State.tagRestore (s : State) : State := s.setRegB Reg.TAG_STAT 29 true

/-- The block after a reset that includes TAG: the memory is kept (R509), ASSIST follows T1, and the identity area is
written where the module starts (R460). -/
def State.tagStart (s : State) : State :=
  let x := { TagSt.reset with
    mem := s.svcTag.mem, hold := s.svcTag.hold, mbxDue := s.svcTag.mbxDue, heads := s.svcTag.heads
    headPos := min s.svcTag.headPos s.recd.logPos, nextStatus := s.dtb, nextCheck := s.dtb }
  ((s.setTagSt x).setRegB Reg.TAG_STAT 29 (!s.shed 1)).showHold

/-- What the module does to the tag at a start (R460, R463): the identity area is written and the mailbox is to be read. -/
def State.tagPowerUp (s : State) : State :=
  s.setTagSt { s.svcTag with mem := msetList 0 0 ((List.range 256).map Config.tagIdentity) s.svcTag.mem, mbxDue := true }

end Sys2Proof.Machine
end

