-- ==== Sys2Proof/Machine/Island.lean ====
section
/-! DEFINITION. The safety island, output postures across a reset and requests for a reset (R509 to R519 of
15_clocks_reset_startup.md; R412, R423 of 12_recorder_rtc.md). -/
namespace Sys2Proof.Machine

def State.setCtl (s : State) (x : CtlSt) : State := { s with ctl := x }

/-- The blocks with output channels: SV, FAN and DIO, by their bits in CTL_BRST. -/
def outBlocks : List Nat := [4, 5, 6]

/-- A list with the new members of another. -/
def joinNats (a b : List Nat) : List Nat := a ++ b.filter fun n => !a.contains n

/-- The mask with the bits of a list. -/
def maskOf (l : List Nat) : Nat := ((List.range 32).filter l.contains).foldl (fun m i => m + 2 ^ i) 0

/-- The slots of a block's channels. -/
def blockSlots (b : Nat) : List Nat := (List.range 104).filter fun n => slotBlock n == b

/-- CTL_ISTAT.STATE. -/
def State.islandState (s : State) (n : Nat) : State := s.setRegF Reg.CTL_ISTAT 31 28 n

/-! ### Operations 1 and 2 (R514, R516) -/

/-- A channel takes its posture: its slot keeps no value, and one written before is withdrawn; a permissive drops. -/
def State.resetPosture (s : State) (n : Nat) : State :=
  let s1 := s.setSlot n { s.slot n with value := none, next := [] }
  if n < 24 then s1.svRelease n else if n < 40 then s1.fanRelease (n - 24) else s1

/-- Every channel of a block takes its posture, IO channels by the island's first downstream frame (R514). -/
def State.blockPosture (s : State) (b : Nat) : State :=
  let s1 := (blockSlots b).foldl State.resetPosture s
  let s2 := s1.setCtl { s1.ctl with posts := joinNats s1.ctl.posts [b] }
  if b = 6 ∧ s2.dio.island = 0 then
    { s2 with dio := { s2.dio with island := 1, common := if s2.dio.held then s2.dio.common else s2.reg Reg.DIO_KCFG } }
  else s2

/-! ### The island's actions (R517 to R519) -/

/-- CTL_ISLAND: the trigger, the operations completed (bit i: operation i + 1) and the µs each took. -/
def State.recordIsland (s : State) (a : IslandAct) (ops : List Nat) (took : List (Nat × Nat)) : State :=
  let us (k : Nat) : Word := w32 (((took.find? fun (e : Nat × Nat) => e.1 == k).map Prod.snd).getD 0)
  s.emit Ev.CTL_ISLAND 0 [w32 a.trig, w32 (maskOf ops / 2), us 1, us 2, us 3, us 4]

/-- A trigger: it starts an action, or adds its operations to the one under way; a flush asked for again takes what has been staged
since (R519). -/
def State.islandTrigger (s : State) (trig : Nat) (ops blocks : List Nat) : State :=
  let s1 := s.islandState 1
  match s.ctl.island with
  | none => (s1.setCtl { s1.ctl with island := some ⟨trig, s.dtb, ops, [], blocks, false, [], false⟩ }).setRegF Reg.CTL_ISTAT 27 24 0
  | some a =>
    let add := ops.filter fun k => k == 3 || !a.begun.contains k || (k ≤ 2 && blocks.any fun b => !a.blocks.contains b)
    s1.setCtl { s1.ctl with island := some { a with todo := joinNats a.todo add, blocks := joinNats a.blocks blocks } }

/-- The end of an action. -/
def State.islandEnd (s : State) (a : IslandAct) : State :=
  let took := if a.flushing then a.took ++ [(3, (s.dtb - a.since) / 1000)] else a.took
  let s1 := s.setCtl { s.ctl with island := none }
  let s2 := (s1.setRegF Reg.CTL_ISTAT 27 24 (maskOf a.begun / 2)).islandState (if s.ctl.held then 2 else 0)
  let s3 := s2.setRegB Reg.CTL_ISTAT 1 true
  if a.recorded then s3 else s3.recordIsland a a.begun took

/-- Why the island flushes. -/
def State.flushWhy (s : State) : FlushWhy :=
  if s.pwr.down.isSome then .tierT5 else if s.ctl.held then .island else .reset

/-- Operation 4: the RTC handed to the backup domain (R482); CTL_ISLAND goes into the final flush, before its operation 3 has ended,
so that what that took is open (R519). -/
def State.handOver (s : State) (a : IslandAct) : State :=
  let s1 := s.backupSwitch
  let s2 := s1.setCtl { s1.ctl with rtcHanded := true, island := some { a with recorded := true } }
  (s2.recordIsland a a.begun (a.took ++ [(3, s2.free)])).draw

/-- Whether the reset to come includes the recorder. -/
def State.porComes (s : State) : Bool := match s.ctl.run with
  | none => false
  | some r => r.scope == 0

/-- The operations asked for, begun in the order listed. -/
def State.islandAct (s : State) (a : IslandAct) : State :=
  let us := (s.dtb - a.since) / 1000
  let a1 := { a with
    todo := [], begun := joinNats a.begun a.todo, flushing := a.flushing || a.todo.contains 3,
    took := a.took ++ (a.todo.filter fun k => k != 3).map fun k => (k, us) }
  let s1 := s.setCtl { s.ctl with island := some a1 }
  let s2 := if a.todo.contains 1 || a.todo.contains 2 then a1.blocks.foldl State.blockPosture s1 else s1
  let s3 := if a.todo.contains 4 then s2.handOver a1 else s2
  if a.todo.contains 3 then
    let s4 := if s3.porComes then s3.abandonStores else s3
    s4.flushOn s4.flushWhy
  else if a1.flushing then s3
  else s3.islandEnd a1

/-- ISLAND_ACT (R517). -/
def execIslandAct (s : State) : Out :=
  match s.ctl.island with
  | none => .next s
  | some a => .next (if a.todo.isEmpty then s else s.islandAct a)

/-- The island's own path (Table 15.6): where the NVS engine has not granted the recorder within 150 µs of the trigger, the island takes
the MRAM port itself. -/
def State.islandFlush (s : State) (why : FlushWhy) : Option State :=
  match s.ctl.island with
  | none => none
  | some a =>
    if a.flushing && decide (a.since + 150000 ≤ s.dtb) then
      some ((s.ownLines.flushRecord.ownLines.writeMarker (why != .command)).endFlush why)
    else none

/-- FLUSH_COMPLETE (R412): once the recorder has the engine and its lines are written; it ends an action of the island, and step 4 of a reset sequence. -/
def execFlushComplete (s : State) : Out :=
  match s.recd.flush with
  | none => .next s
  | some why =>
    match (s.flushEnds why).or (s.islandFlush why) with
    | none => .next s
    | some s0 =>
    let s1 := if why == .tierT5 then s0.writeTagStatus else s0
    match s1.ctl.island with
    | none => .next s1
    | some a =>
      if !a.flushing || a.todo.contains 3 then .next s1
      else
        let s2 := s1.setCtl { s1.ctl with run := s1.ctl.run.map fun r => { r with flushed := true } }
        .next (if a.todo.isEmpty then s2.islandEnd a else s2)

/-! ### Requests for a reset (R510, R511) -/

/-- The body of CTL_RESET. -/
def State.resetBody (s : State) (r : ResetRun) : List Word :=
  [w32 r.cause, w32 r.mask, w32 r.scope, w32 r.blocks] ++ dtbWords s.dtb

/-- What a merge changes in a CTL_RESET: cause mask, scope and blocks. -/
def ResetRun.amend (r : ResetRun) (body : List Word) : List Word :=
  body.take 1 ++ [w32 r.mask, w32 r.scope, w32 r.blocks] ++ body.drop 4

/-- The last one of a list changed where a test holds. -/
def amendLast {α : Type} (p : α → Bool) (f : α → α) (l : List α) : List α :=
  match l.reverse.span fun x => !p x with
  | (a, x :: b) => (b.reverse ++ [f x]) ++ a.reverse
  | (_, []) => l

/-- The one CTL_RESET of a sequence, brought up to date wherever it is: one that a flush has put into the log is changed there, its CRC
with it (DEDUCED, log 106). -/
def State.amendReset (s : State) (r : ResetRun) : State :=
  if !r.recorded then s
  else if s.recd.handed.any fun e => e.code == Ev.CTL_RESET then
    { s with recd := { s.recd with handed := amendLast (fun e => e.code == Ev.CTL_RESET) (fun e => { e with body := r.amend e.body }) s.recd.handed } }
  else if s.recd.staged.any fun x => x.code == Ev.CTL_RESET then
    { s with recd := { s.recd with staged := amendLast (fun x => x.code == Ev.CTL_RESET) (fun x => { x with body := r.amend x.body }) s.recd.staged } }
  else
    { s with recd := { s.recd with log := amendLast (fun x => x.record.code == Ev.CTL_RESET) (fun x =>
      let y := { x.record with body := r.amend x.record.body }
      { x with record := y, crc := y.crc }) s.recd.log } }

/-- The island's trigger for a scope (Table 15.7): 0 T5, 1 a system reset, 2 FULL, 3 a root or lock failure, 4 a block reset. -/
def State.resetTrigger (s : State) (r : ResetRun) (trig : Nat) : State :=
  if r.scope < 2 then s.islandTrigger trig [1, 2, 3] outBlocks
  else
    let bs := outBlocks.filter fun b => (blocksOf r.blocks).contains b
    if bs.isEmpty then s else s.islandTrigger trig [1, 2] bs

/-- A reset request accepted (R510), or merged with the sequence that runs (R511): it adds the operations that Table 15.7 gives it, and a
request that brings in the recorder ends the stores, before the flush where that is still to end (R423). -/
def State.requestReset (s : State) (scope cause blocks trig : Nat) (record : Bool) : State :=
  match s.ctl.run with
  | none =>
    let r : ResetRun := ⟨scope, cause, 2 ^ cause, blocks, scope == 2, false, record⟩
    let s1 := s.setCtl { s.ctl with run := some r }
    (if record then s1.emit Ev.CTL_RESET 0 (s1.resetBody r) else s1).resetTrigger r trig
  | some r =>
    let deeper := decide (scope < r.scope)
    let r1 := { r with
      scope := min r.scope scope, mask := r.mask ||| 2 ^ cause, blocks := r.blocks ||| blocks,
      flushed := if r.scope = 2 ∧ scope < 2 then false else r.flushed, asserted := r.asserted && !deeper && (r.scope != 2 || scope != 2) }
    let s1 := (s.setCtl { s.ctl with run := some r1 }).amendReset r1
    if scope = 2 then s1.resetTrigger { r1 with scope := 2, blocks := blocks } trig
    else if r.scope = 2 ∨ (scope < r.scope ∧ !r.flushed) then s1.resetTrigger r1 trig
    else if scope < r.scope then s1.abandonStores
    else s1

/-- A write to CTL_RESET, which acts for cell 0 (R526). -/
def State.writeReset (s : State) (cell : Nat) (v : Word) : State :=
  if cell ≠ 0 ∨ fld v 31 24 ≠ 0xC3 then s
  else match fld v 1 0 with
    | 1 => s.requestReset 1 7 0 1 true
    | 2 => s.requestReset 0 3 0 2 true
    | _ => s

/-- A write to CTL_BRST. -/
def State.writeBrst (s : State) (cell : Nat) (v : Word) : State :=
  if cell ≠ 0 ∨ fld v 31 24 ≠ 0xC3 ∨ fld v 9 0 = 0 then s else s.requestReset 2 10 (fld v 9 0) 4 true

/-- SYS, FULL and CTL_BRST_WRITE (R510). -/
def execSys (w : Who) (s : State) : Out :=
  .next (s.access w Reg.CTL_RESET fun s => s.writeReset (s.whoCell w) 0xC3000001)
def execFull (w : Who) (s : State) : Out :=
  .next (s.access w Reg.CTL_RESET fun s => s.writeReset (s.whoCell w) 0xC3000002)
def execCtlBrstWrite (w : Who) (v : Word) (s : State) : Out :=
  .next (s.access w Reg.CTL_BRST fun s => s.writeBrst (s.whoCell w) v)

/-! ### The watchdog and the heartbeat (R512, R513) -/

/-- A write to CTL_WDKICK. -/
def State.writeWdkick (s : State) (cell : Nat) (v : Word) : State :=
  if cell ≠ 0 then s
  else if v ≠ 0x0000A55A then s.emit Ev.CTL_WDKICK_BAD 0 [v]
  else
    let ms := s.regF Reg.CTL_CFG 31 16
    if ms = 0 then s else s.setCtl { s.ctl with wdLeft := some (ms * 1000000) }

/-- CTL_WDKICK_WRITE (R512). -/
def execCtlWdkickWrite (w : Who) (v : Word) (s : State) : Out :=
  .next (s.access w Reg.CTL_WDKICK fun s => s.writeWdkick (s.whoCell w) v)

/-- Whether the watchdog's timer counts. -/
def State.wdCounts (s : State) : Bool :=
  let c := (s.cell 0).state
  c != 3 && c != 4 && !s.shed 4 && !s.onSafe

/-- CTL_WDREM: the ms left, rounded up. -/
def State.wdRem (s : State) : Word := match s.ctl.wdLeft with
  | none => 0xFFFFFFFF
  | some ns => w32 ((ns + 999999) / 1000000)

/-- CTL_WATCHDOG (R512). -/
def execCtlWatchdog (s : State) : Out :=
  if s.ctl.wdLeft = some 0 then
    let s1 := (s.setCtl { s.ctl with wdLeft := none }).setRegB Reg.CTL_ISTAT 3 true
    .next ((s1.emit Ev.CTL_WATCHDOG 0 [w32 (s.regF Reg.CTL_CFG 31 16)]).requestReset 1 4 0 1 true)
  else .next s

/-- A system reset is asserted: the placer is in reset. -/
def State.inReset (s : State) : Bool := match s.ctl.run with
  | none => false
  | some r => r.asserted && decide (r.scope < 2)

/-- CTL_WEDGE (R513). -/
def execCtlWedge (s : State) : Out :=
  if s.onSafe || s.ctl.por.isSome || s.inReset || decide (s.dtb < s.ctl.beat + 1000000) then .next s
  else
    let s1 := s.setRegB Reg.CTL_ISTAT 2 true
    .next ((s1.emit Ev.CTL_WEDGE 0 (dtbWords s.ctl.beat)).requestReset 1 5 0 1 true)

/-- Uncorrectable errors of placer or arbiter state (R35): a system reset with cause 6. -/
def State.placerEcc (s : State) : State := s.requestReset 1 6 0 1 true

/-- ENGINE_GRANT (R188), with what the arbiter finds in its state (R35). -/
def execEngineGrant (k : GrantCheck) (s : State) : Out :=
  match k.ecc with
  | .ok => .next (s.grantKind k.kind)
  | .single => .next (((s.eccCorrected 1 s.free none).draw).grantKind k.kind)
  | .double => .next s.placerEcc

/-- REPLAN (R158): the first of the queue; a re-plan that restores T4 waits for the checks of the pairs powered up.  `e` is what
the placer finds in its state (R35). -/
def execReplan (e : Ecc) (s : State) : Out :=
  match s.placer.replans with
  | [] => .next s
  | w :: t =>
    if e = .double then .next s.placerEcc
    else
      let s1 := if e = .single then (s.eccCorrected 1 s.free none).draw else s
      if w = .tier 4 false ∧ allPairs.any fun p => (s1.pair p).check then .next s1
      else .next ((s1.setPlacer { s1.placer with replans := t }).runReplan w)

/-! ### Registers (R526) -/

/-- Whether the channel of a slot is in posture: its slot keeps no value, or, for an IO output, the field side reports it in posture. -/
def State.inPosture (s : State) (n : Nat) : Bool :=
  (s.slot n).value.isNone || (decide (40 ≤ n) && s.ioDrives (n - 40) && s.dio.chst.getD (n - 40) 0 / 32 % 2 == 1)

/-- CTL_POSTw: the channels in posture, for any cause. -/
def State.ctlPost (s : State) (w : Nat) : Word :=
  (List.range 32).foldl (fun v b => if 32 * w + b < 104 ∧ s.inPosture (32 * w + b) then setBit v b true else v) 0

/-- The agreement rules of CTL page 1 (R526): 0, or the lowest that fails. -/
def State.ctlAgree (s : State) : Nat :=
  let perm (k : Nat) : Word := s.shadow (Reg.CTL_PERM k)
  let on := (List.range 4).filter fun k => bitAt (perm k) 31
  let slot (k : Nat) : Nat := fld (perm k) 6 0
  let bad (k : Nat) : Bool :=
    let n := slot k
    (decide (24 ≤ n) && decide (n < 40)) || decide (104 ≤ n) || (n == 23 && s.regB Reg.SV_BCFG 1) ||
      (decide (40 ≤ n) && s.ioPaired (n - 40)) || on.any fun j => j != k && slot j == n
  let wdt := fld (s.shadow Reg.CTL_CFG) 31 16
  if on.any bad then 1 else if wdt ≠ 0 ∧ wdt < 10 then 2 else 0

/-- What an apply of CTL page 1 does beside the new values (R512, R525): a changed WDT disarms the watchdog. -/
def State.ctlApplied (old s : State) : State :=
  let s1 := if old.regF Reg.CTL_CFG 31 16 = s.regF Reg.CTL_CFG 31 16 then s else s.setCtl { s.ctl with wdLeft := none }
  s1.storeReq 12

end Sys2Proof.Machine
end

