-- ==== Sys2Proof/Machine/Resets.lean ====
section
/-! DEFINITION. What a reset of each scope resets and keeps, its release, and start-up (R509 to R511, R515, R520 to R522 of
15_clocks_reset_startup.md; R413, R422, R429, R431 of 12_recorder_rtc.md; R451 of 13_host_service.md; R489 of 14_power.md). -/
namespace Sys2Proof.Machine

/-! ### Blocks and registers -/

/-- The addresses of the blocks of CTL_BRST (Table 1.6). -/
def blockLo (b : Nat) : Nat :=
  [0x40100000, 0x40180000, 0x40200000, 0x40300000, 0x40400000, 0x40480000, 0x40500000, 0x40700000, 0x40780000,
   0x40800000].getD b 0x41000000
def blockHi (b : Nat) : Nat :=
  [0x40180000, 0x40200000, 0x40300000, 0x40400000, 0x40480000, 0x40500000, 0x40600000, 0x40780000, 0x40800000,
   0x41000000].getD b 0x41000000

/-- Whether a register is one of a block, its stored values with no register of their own included. -/
def inBlock (b k : Nat) : Bool :=
  if 0x4000000000000000 ≤ k then (match nvSetOf k with
    | some n => (blockSets b).contains n && b != 2 && b != 4
    | none => false)
  else decide (blockLo b ≤ addrOf k) && decide (addrOf k < blockHi b)

/-- Registers at their reset values, and the applies pending on their pages dropped (R20, R51). -/
def State.clearRegs (s : State) (p : Nat → Bool) : State :=
  { s with act := s.act.filter fun (e : Nat × Word) => !p e.1
           shd := s.shd.filter fun (e : Nat × Word) => !p e.1
           pend := s.pend.filter fun (e : Nat × Pend) => !p e.1 }

/-- The values that the set in force holds for some registers (R422). -/
def State.loadRegs (s : State) (p : Nat → Bool) (n : Nat) : State :=
  let x := s.nvSet n
  if x.seq = 0 then s
  else { s with act := ((x.content x.bank).filter fun (e : Nat × Word) => p e.1).foldl (fun m e => mins e.1 e.2 (mdel e.1 m)) s.act }

/-! ### Sessions (R451) -/

/-- A session closed, with its reason. -/
def State.closeSession (s : State) (sid reason : Nat) : State :=
  let x := s.session sid
  ({ s with sessions := mdel sid s.sessions }).emit Ev.HAP_CLOSE x.cell [w32 sid, w32 reason]

def State.closeAll (s : State) : State := (s.sessions.map Prod.fst).foldl (fun s sid => s.closeSession sid 2) s

/-! ### One block asserted in reset and started -/

/-- LOCAL mode ends where HST is reset (R466). -/
def State.endLocal (s : State) : State := if s.localMode then s.setLocal false else s

/-- What a reset of HST keeps of the host links: the last message sent, and of the keys and credentials those that a store under way
writes, with their records (R420, R456). -/
def State.hostKept (s : State) : HostSt :=
  { HostSt.reset with
    newVals := s.host.newVals.filter fun (e : Nat × Word) => match nvSetOf e.1 with
      | none => false
      | some n => match (s.nvSet n).storing with
        | none => false
        | some m => mhas e.1 m && decide (mget 0 e.1 m = e.2)
    waits := s.host.waits.filter fun w => w.started && (s.nvSet w.set).storing.isSome
    sent := s.host.sent }

/-- A block with no more than its registers at their reset values, and its stored fields from the set in force (R510); what it asked of
the arbiter is returned as not done (Table 5.5).  DESIGN CHOICE (log 5): after a reset of TRC every word of a buffer reads 0. -/
def State.assertBlock (s : State) (b : Nat) : State :=
  let held := s.svHeld
  let links := [0, 1].map fun l => s.regF (Reg.HST_LSTAT l) 31 29
  let s00 := (blockSets b).foldl State.storeUndone s
  let s0 := if b = 7 then (s00.withdrawInternal fun r => match r with
    | .image _ => true
    | _ => false).closeAll.endLocal else if b = 8 then s00.wiredLost else s00
  let s1 := (blockSets b).foldl (fun s n => s.loadRegs (inBlock b) n) (s0.clearRegs (inBlock b))
  match b with
  | 0 => { s1 with fe := { FeSt.reset with
      ins := s1.fe.ins.map fun (e : Nat × FeInput) => (e.1, { FeInput.reset with valid := e.2.valid })
      newCorr := s1.fe.newCorr, commit := s1.fe.commit } }
  | 1 => { s1 with col := { cols := [], nextUpd := nextSecond s1.dtb } }
  | 2 => { s1 with trunks := [] }
  | 3 => { s1 with ports := [] }
  | 4 => s1.svKeep held
  | 5 => s1
  | 6 => { s1 with dio := { s1.dio with held := true } }
  | 7 => [0, 1].foldl (fun s l => s.setRegF (Reg.HST_LSTAT l) 31 29 (links.getD l 0))
      { s1 with host := s1.hostKept, face := FaceSt.reset }
  | 8 => s1
  | _ => { s1 with traces := [] }

/-- The links as a reset of HST leaves them: the PHYs stay linked. -/
def State.hstStart (s : State) : State :=
  [0, 1].foldl (fun s l =>
    if !s.linkEn l then s.setRegF (Reg.HST_LSTAT l) 31 30 3
    else if l = 1 ∧ s.shed 2 then s.setRegF (Reg.HST_LSTAT l) 31 30 2
    else if s.linkState l = 1 then s else s.setRegF (Reg.HST_LSTAT l) 31 30 0) s

/-- A block leaves reset. -/
def State.startBlock (s : State) (b : Nat) : State :=
  match b with
  | 0 => s.feStart
  | 1 => s.colStart
  | 2 => s.latStart
  | 3 => s.canStart
  | 4 => s.svStart
  | 5 => s.fanStart
  | 6 => s.dioStart
  | 7 => s.hstStart
  | 8 => s.tagStart
  | _ => if s.shed 1 then s.trcShed true else s

/-- The postures of some blocks end at their leaving reset (R515). -/
def State.leavePosture (s : State) (bs : List Nat) : State :=
  let mine := s.ctl.posts.filter bs.contains
  if mine.isEmpty then s
  else
    let n := (mine.map s.postureCount).sum
    (s.setCtl { s.ctl with posts := s.ctl.posts.filter fun b => !bs.contains b }).emit Ev.CTL_POSTURE_RELEASE 0
      (dtbWords s.dtb ++ [w32 n])

/-! ### Scopes (Table 15.4) -/

def allBlocks : List Nat := List.range 10

/-- What a system reset keeps of the registers. -/
def sysKeeps (k : Nat) : Bool :=
  let a := addrOf k
  decide (k < 0x4000000000000000) &&
    ((decide (0x40010000 ≤ a) && decide (a < 0x40030000)) || (decide (0x40600000 ≤ a) && decide (a < 0x40700000)) ||
      a == Reg.CTL_RCAUSE || a == Reg.CTL_RCNT || a == Reg.PLC_MISCNT)

/-- The pair states and mismatch counts that last until the next power-on reset. -/
def Pair.kept (x : Pair) : Pair :=
  { Pair.starting with state := if x.state = pairFailed ∨ x.state = pairRetired then x.state else pairStarting, misses := x.misses }

/-- The arbiter and the engines as after a reset, with the next credit window; a locked sequence of WRITEs that it cut is undone (R418). -/
def State.hwkFresh (s0 : State) : State :=
  let s := match s0.recd.nvUndo with
    | none => s0
    | some u => s0.nvUndone u.1
  let w := max 1 s.window * 10000
  { s with hwk := { HwkSt.reset with nextRefill := (s.dtb / w + 1) * w } }

/-- Reset asserted in every block of a system reset, which leaves the stored fields as the sets in force give them. -/
def State.assertSystem (s : State) : State :=
  let s1 := allBlocks.foldl State.assertBlock s
  let held := s1.svHeld
  let links := [0, 1].map fun l => s1.regF (Reg.HST_LSTAT l) 31 29
  let s2 := s1.clearRegs fun k => !sysKeeps k
  let s3 := [0, 1, 2, 3, 4, 5, 6, 8, 9, 12].foldl (fun s n => s.loadRegs (fun k => !sysKeeps k) n) s2
  let s4 := [0, 1].foldl (fun s l => s.setRegF (Reg.HST_LSTAT l) 31 29 (links.getD l 0)) (s3.svKeep held)
  let s5 := { s4 with
    loops := [], pairs := s4.pairs.map fun (e : Nat × Pair) => (e.1, e.2.kept)
    slots := [], cells := [], placer := Placer.reset, image := [], marked := [], nodeHist := [] }
  s5.hwkFresh.setCtl { s5.ctl with wdLeft := none, island := none, house := none, live := false, late := false }

/-- CTL_RCAUSE, set by the reset itself. -/
def State.setCause (s : State) (scope cause : Nat) (blocks : Option Nat) : State :=
  let s1 := (s.setRegF Reg.CTL_RCAUSE 31 28 scope).setRegF Reg.CTL_RCAUSE 27 24 cause
  match blocks with
  | some b => s1.setRegF Reg.CTL_RCAUSE 9 0 b
  | none => s1

/-- What a power-on reset keeps (Table 15.4): the backup domain, MRAM, the field side of the DIO, and the SV and FAN drivers in
posture with their configuration; the tag keeps its memory, and the island what it holds the reset for. -/
def State.porState (s : State) (cause : Nat) : State :=
  let rtcReg (k : Nat) : Bool := let a := addrOf k
    decide (k < 0x4000000000000000) && decide (0x40680000 ≤ a) && decide (a < 0x40700000)
  let keep (e : Nat × Word) : Bool := rtcReg e.1 || nvSetOf e.1 == some 3 || nvSetOf e.1 == some 4
  let t : State := { State.reset with
    pending := s.pending, dtb := s.dtb, act := s.act.filter keep, shd := s.shd.filter fun e => rtcReg e.1
    pend := s.pend.filter fun e => e.1 == rtcPage, answer := s.answer, drawn := s.wiredLost.drawn, nextFrame := s.nextFrame
    recd := s.recd.afterReset s.dtb, rtc := s.rtc, sv := s.sv, fans := s.fans
    svcTag := { TagSt.reset with mem := s.wiredLost.svcTag.mem, hold := s.svcTag.hold, heads := s.svcTag.heads, headPos := s.svcTag.headPos }
    dio := { DioSt.reset with seq := s.dio.seq, nextDown := s.dio.nextDown, common := s.dio.common, field := s.dio.field, held := true }
    pwr := { PwrSt.reset with thermalHold := s.pwr.thermalHold }
    ctl := { CtlSt.reset with
      por := some cause, held := s.ctl.held, nextRetry := s.ctl.nextRetry, failAt := s.ctl.failAt, posts := outBlocks } }
  let u := (t.svKeep s.svHeld).islandState (if s.ctl.held then 2 else 0)
  if s.ctl.held && !s.regB Reg.CLK_STAT 26 then u.setRegB Reg.CLK_STAT 26 false else u

/-- Reset asserted (Table 15.5, step 5). -/
def State.assertReset (s : State) (r : ResetRun) : State :=
  match r.scope with
  | 0 => (s.closeAll.endLocal).porState r.cause
  | 1 =>
    let s1 := s.assertSystem
    (s1.setCtl { s1.ctl with run := some { r with asserted := true } }).setCause 1 r.cause none
  | _ =>
    let s1 := (blocksOf r.blocks).foldl State.assertBlock s
    (s1.setCtl { s1.ctl with run := some { r with asserted := true } }).setCause 2 r.cause (some r.blocks)

/-- RESET_ASSERT (R510): once the flush is done and the island has acted. -/
def execResetAssert (s : State) : Out :=
  match s.ctl.run with
  | none => .next s
  | some r => if r.asserted || !r.flushed || s.ctl.island.isSome then .next s else .next (s.assertReset r)

/-! ### Release -/

/-- The pairs' check at a start (R55, Table 15.8 step 7): `failed` are the pairs that fail it. -/
def State.startPairs (s : State) (failed : List Nat) : State :=
  (allPairs.foldl (fun s p =>
    if (s.pair p).state ≠ pairStarting then s
    else if failed.contains p then s.pairTo p pairFailed
    else s.pairSet p pairSpare) s).upkeep

/-- The house image that set 11 holds. -/
def State.storedHouse (s : State) : Option Image :=
  let x := s.nvSet 11
  if x.seq = 0 then none
  else
    let m := x.content x.bank
    some ⟨(m.filter fun (e : Nat × Word) => e.1 != hiddenKey 11 0).map fun (e : Nat × Word) =>
      (e.1 - hiddenKey 11 1, BitVec.ofNat 8 e.2.toNat), (mget 0 (hiddenKey 11 0) m).toNat⟩

/-- The house image read at a start (R521), an access of up to 256 bytes after another (log 38): with HBOOT clear nothing is; where set 11 is absent CTL_HOUSE_FAIL gives a result that
the spec does not state. -/
def State.bootHouse (s : State) : State :=
  if !s.regB Reg.CTL_CFG 0 then s
  else match s.storedHouse with
    | none => (s.emit Ev.CTL_HOUSE_FAIL 0 [w32 (1 + s.free % 15)]).draw
    | some i =>
      let s1 := s.setCell 0 { s.cell 0 with loading := some i, state := 1, viaHap := false }
      ({ s1 with hwk := { s1.hwk with houseLeft := max 1 ((i.len + 255) / 256) } }).askInternal .house

/-- The engine and the blocks that a tier in force sheds from the start (R489, R522). -/
def State.startShed (s : State) : State := if s.shed 3 then (s.pmFreeze 8 true).shedDrained else s

/-- Every block leaves reset, and the steps of Table 15.8 that follow. -/
def State.startAll (s : State) (failed : List Nat) : State :=
  let s1 := (allBlocks.foldl State.startBlock s).startShed
  (s1.startPairs failed).bootHouse

/-- A system reset released (R522). -/
def State.releaseSystem (s : State) (failed : List Nat) : State :=
  let s1 := s.setCtl { s.ctl with run := none, relAt := s.dtb, beat := s.dtb, wdLeft := none }
  (s1.countReg Reg.CTL_RCNT 31 16 0xFFFF 1).startAll failed

/-- A block reset released: the postures of SV and FAN end at once, those of DIO with its Key-link check (R515). -/
def State.releaseBlocks (s : State) (r : ResetRun) : State :=
  let bs := blocksOf r.blocks
  let s1 := bs.foldl State.startBlock (s.setCtl { s.ctl with run := none })
  let s2 := s1.countReg Reg.CTL_RCNT 15 0 0xFFFF 1
  if bs.contains 6 then s2 else s2.leavePosture [4, 5]

/-- RESET_RELEASE (R510, Table 15.5 step 6). -/
def execResetRelease (failed : List Nat) (s : State) : Out :=
  match s.ctl.run with
  | none => .next s
  | some r => if !r.asserted then .next s
    else .next (if r.scope = 1 then s.releaseSystem failed else s.releaseBlocks r)

/-! ### Start-up after a power-on reset (Table 15.8) -/

/-- The DTB starts again at 0: what the field side and the drivers keep counts from there, and events decided during the reset
carry the stamp 0. -/
def State.restartTime (s : State) : State :=
  let f := s.dio.field
  { s with
    dtb := 0, nextFrame := 10000
    recd := { s.recd with handed := s.recd.handed.map fun e => { e with stamp := 0, handedAt := 0 } }
    rtc := { s.rtc with lastEdge := 0 }
    sv := { s.sv with chans := s.sv.chans.map fun (e : Nat × SvChan) => (e.1, { e.2 with
      holdAt := e.2.holdAt - s.dtb, cmdAt := 0, start := 0, shortAt := none, waitTill := e.2.waitTill.map (· - s.dtb) }) }
    fans := s.fans.map fun (e : Nat × FanChan) => (e.1, { e.2 with
      holdAt := e.2.holdAt.map (· - (s.dtb : Int)), next := none, kick := none, aboveAt := 0, lastKick := 0, badSince := none, goodSince := none,
      kickDue := 0, lastPulse := none, outOff := e.2.outOff.map (· - s.dtb), supOff := e.2.supOff.map (· - s.dtb), reloadAt := 0 })
    dio := { s.dio with nextDown := 0, field := { f with
      checkAt := 0, lastValid := 0, upAt := 0, chans := f.chans.map fun (e : Nat × FieldChan) => (e.1, { e.2 with
        reloadAt := 0, holdAt := e.2.holdAt - s.dtb, waitTill := e.2.waitTill.map (· - s.dtb), tFirst := 0, tLast := 0,
        latest := none, lastGate := 0, onAt := 0, smpAt := 0 }) } }
    svcTag := { s.svcTag with hold := s.svcTag.hold.map fun h => (h.1, h.2.1, 0) } }

/-- The backup domain at a start: TRIM comes from set 7 where the domain was lost, and a switch-over since the previous start is
recorded (R427, R429, R431). -/
def State.startBackup (s : State) (lost : Bool) : State :=
  let s1 := if lost then (s.backupLost).loadRegs (fun k => addrOf k == Reg.RTC_TRIM) 7 else s
  let n := s1.regF Reg.RTC_SWCNT 15 0
  let s2 := { s1 with rtc := { s1.rtc with swcntAtStart := n } }
  if n = s1.rtc.swcntAtStart then s2
  else s2.emit Ev.RTC_BACKUP_SWITCH 0
    [s2.reg Reg.RTC_SWL, w32 (s2.regF Reg.RTC_SWH 15 0), w32 (s2.regF Reg.RTC_SWH 31 16), w32 n]

/-- The first sample of the power manager (R479, R489), in 10 mV. -/
def State.firstSample (s : State) (a b : Int) : State :=
  let v := (max a b).toNat
  let s2 := (s.inputSample 0 a 0 true).inputSample 1 b 0 true
  if 1750 < v then s2
  else (s2.setRegB Reg.PWR_STAT 16 true).setPwr { s2.pwr with
    dipStart := s.dtb, dipMin := v, dipMinAt := s.dtb, minA := a.toNat, minB := b.toNat, lastLow := s.dtb, hist := [v] }

/-- The start of the module. -/
def State.startUp (s : State) (cause : Nat) (a b : Int) (lost : Bool) (failed : List Nat) : State :=
  let s0 := (s.porState cause).restartTime
  let s1 := s0.startBackup lost
  let s2 := allSets.foldl State.decideSet { s1 with recd := s1.recd.afterReset 0 }
  let s3 := [0, 1, 2, 3, 4, 5, 6, 8, 9, 10, 12].foldl (fun s n => s.loadSet n) s2
  let s4 := s3.recStart s3.rtc.ticks
  let s5 := ((if cause = 2 then s4.emit Ev.PWR_THERMAL_OFF 0 [] else s4).firstSample a b).setCause 0 cause none
  let s6 := s5.hwkFresh.setCtl { s5.ctl with por := none, beat := 0, relAt := 0, tSets := 0 }
  let s7 := s6.tagPowerUp.setRegB Reg.CLK_STAT 26 true
  s7.startAll failed

/-- POWER_ON_RESET_RELEASE (R478, R520): `a` and `b` are the first samples, 10 mV, `stable` the ns for which VIN has stayed at or
above 16.5 V, `lost` says that the backup domain has lost all power, `failed` are the pairs that fail their check. -/
def execPowerOnResetRelease (a b : Int) (stable : Nat) (lost : Bool) (failed : List Nat) (s : State) : Out :=
  match s.ctl.por with
  | none => .next s
  | some cause =>
    if s.ctl.held || s.pwr.thermalHold || decide (max a b < 1650) || decide (stable < 10000000) then .next s
    else .next (s.startUp cause a b lost failed)

/-! ### Steps 13 and 14 (R520) -/

/-- The house loops of step 13, with their numbers. -/
def State.quickHouse (s : State) : List (Nat × Loop) := (s.loopsOf 0).filter fun e => decide (e.2.period ≤ 500000000)

/-- Whether a house loop is live: it has retired WAIT in period 0, and its slots have left posture. -/
def State.isLive (s : State) (e : Nat × Loop) : Bool :=
  !e.2.ckpt.initial && (e.2.decl.slots.filter s.slotIsOut).all fun n => (s.slot n).value.isSome

/-- CTL_START (R520): step 13. -/
def execCtlStart (s : State) : Out :=
  match s.ctl.house with
  | none => .next s
  | some t =>
    if s.ctl.live || !s.quickHouse.all s.isLive then .next s
    else
      let s1 := (s.setCtl { s.ctl with live := true }).setRegF Reg.CTL_TSTART 15 0
        (sat 0xFFFF ((s.dtb - s.ctl.relAt) / 1000000))
      .next (s1.emit Ev.CTL_START 0 (dtbWords s.ctl.tSets ++ dtbWords t ++ dtbWords s.dtb))

/-- CTL_CENSUS_LATE (R520): the enabled trunks with no full census 3 s after the release. -/
def execCtlCensusLate (s : State) : Out :=
  let mask := maskOf (allTrunks.filter fun n => s.latEn n && !(s.trunk n).fullDone)
  if s.ctl.por.isSome || s.ctl.late || decide (s.dtb < s.ctl.relAt + 3000000000) || mask == 0 then .next s
  else .next ((s.setCtl { s.ctl with late := true }).emit Ev.CTL_CENSUS_LATE 0 [w32 mask])

end Sys2Proof.Machine
end

