-- ==== Sys2Proof/Machine/Clocks.lean ====
section
/-! DEFINITION. Clocks: core clock changes, loss of lock and relock, clock failures, the DTB registers (R499 to R508, R524 of
15_clocks_reset_startup.md). -/
namespace Sys2Proof.Machine

def clkPage : Nat := 0x40020000

/-! ### Core clock changes (R501, R502) -/

/-- CLK_CORE takes another divider: CORE follows, CHGEVT is set and CLK_CHANGE recorded. -/
def State.changeCore (s : State) (new : Nat) : State :=
  let old := s.regF Reg.CLK_STAT 29 28
  if old = new then s
  else ((s.setRegF Reg.CLK_STAT 29 28 new).setRegB Reg.CLK_STAT 4 true).emit Ev.CLK_CHANGE 0 [w32 old, w32 new]

/-- The CLK page in force. -/
def State.clkApplied (s : State) : State := s.changeCore (s.regF Reg.CLK_CFG 1 0)

/-- The agreement rules of the CLK page (R502): 0, or the lowest that fails. -/
def State.clkAgree (s : State) : Nat :=
  let sel := fld (s.shadow Reg.CLK_CFG) 1 0
  let plan := if s.isPending 0x40030000 then fld (s.shadow Reg.PLC_CFG) 1 0 else s.regF Reg.PLC_CFG 1 0
  if sel = 3 then 1 else if plan < sel then 2 else 0

/-- An apply of PLC_CFG that sets a planning clock faster than the core clock brings CORESEL to PLANHZ (R502). -/
def State.planhzApplied (s : State) : State :=
  let plan := s.regF Reg.PLC_CFG 1 0
  if plan < s.regF Reg.CLK_CFG 1 0 then (s.setRegF Reg.CLK_CFG 1 0 plan).changeCore plan else s

/-! ### Loss of lock and relock (R503 to R506) -/

/-- Whether a lock check is out of band. -/
def outOfBand (n : Nat) : Bool := decide (n < 1499) || decide (1501 < n)

/-- Whether the latest checks, newest last, declare a loss of lock. -/
def lockLost (checks : List Nat) : Bool :=
  (decide (4 ≤ checks.length) && (checks.drop (checks.length - 4)).all outOfBand) ||
    (decide (2 ≤ checks.length) && (checks.drop (checks.length - 2)).all fun n => decide (1515 < n))

/-- CLK_VCODEV of a lock check: its deviation from 1,500 edges, ppm. -/
def vcoDev (n : Nat) : Word := wOfInt (Int.tdiv (((n : Int) - 1500) * 1000000) 1500)

/-- Steps 1 to 3 of a relock (Table 15.2), with what the blocks do at once (Table 15.3): the Key link's streams stop, and frames that
trunks and ports transmit end in error. -/
def State.startRelock (s : State) : State :=
  let s1 := (s.setRegF Reg.CLK_STAT 31 30 1).setRegB Reg.CLK_STAT 27 false
  let s2 := { s1 with dio := { s1.dio with flight := if s1.dio.island = 0 then [] else s1.dio.flight, up := [] } }
  let s3 := allTrunks.foldl (fun s n => if (s.trunk n).sel.isSome then s.latLost n else s) s2
  let s4 := allPorts.foldl (fun s n => if (s.port n).sel.isSome then s.canLost n else s) s3
  s4.setCtl { s4.ctl with relock := some ⟨s.dtb, s.dtb, 1⟩ }

/-- CLK_VCODEV holds the deviation of the last lock check (R524). -/
def State.lockChecked (s : State) (checks : List Nat) : State := match checks.getLast? with
  | none => s
  | some n => s.setReg Reg.CLK_VCODEV (vcoDev n)

/-- PLL_LOCK_LOSS (R503): `checks` are the latest lock checks, newest last. -/
def execPllLockLoss (checks : List Nat) (s : State) : Out :=
  if s.onSafe then .next s
  else if !lockLost checks then .next (s.lockChecked checks)
  else
    let s1 := (s.lockChecked checks).setRegB Reg.CLK_STAT 7 true
    .next ((s1.emit Ev.CLK_UNLOCK 0 [w32 (checks.getLastD 0)]).startRelock)

/-- A write of RELOCK to CLK_CMD: by cell 0, where none runs (R504, R524). -/
def State.cmdRelock (s : State) (cell : Nat) : State := if cell ≠ 0 ∨ s.onSafe then s else s.startRelock

/-- RELOCK (R504). -/
def execRelock (w : Who) (s : State) : Out :=
  .next (s.access w Reg.CLK_CMD fun s => s.cmdRelock (s.whoCell w))

/-- A front-end conversion under way is discarded and repeated, with its settling (Table 15.3). -/
def State.repeatSlots (s : State) : State :=
  { s with fe := { s.fe with chans := s.fe.chans.map fun (e : Nat × FeChan) => (e.1, { e.2 with
      slot := e.2.slot.map fun sl => { sl with
        start := s.dtb, due := s.dtb + s.slotLength sl.input, ref := s.refSel, repeated := [], overloaded := [], susp := false } }) } }

/-- Step 6: every clock back on the PLL (Table 15.2). -/
def State.endRelock (s : State) (r : Relock) (count : Nat) : State :=
  let us := (s.dtb - r.since) / 1000
  let s1 := (((s.setRegF Reg.CLK_STAT 31 30 0).setRegB Reg.CLK_STAT 27 true).setRegB Reg.CLK_STAT 6 true).setReg Reg.CLK_VCODEV (vcoDev count)
  let s2 := (s1.countReg Reg.CLK_LCNT 31 16 0xFFFF 1).setRegF Reg.CLK_LCNT 15 0 (sat 0xFFFF us)
  let s3 := (s2.setCtl { s2.ctl with relock := none, beat := s.dtb }).emit Ev.CLK_RELOCK 0 [w32 us, w32 r.tries]
  let s4 := { s3.repeatSlots with dio := { s3.dio with nextDown := (s.dtb + 19999) / 20000 * 20000 } }
  allPorts.foldl State.canPick (allTrunks.foldl State.latPick s4)

/-- CLK_RELOCK (R504): the latest 64 checks, newest last, are all in band; checks run every 1 us. -/
def execClkRelock (checks : List Nat) (s : State) : Out :=
  match s.ctl.relock with
  | none => .next s
  | some r => if decide (checks.length < 64) || (lastOf 64 checks).any outOfBand || decide (s.dtb < r.tried + 64000) then .next (s.lockChecked checks)
    else .next (s.endRelock r (checks.getLastD 0))

/-- The power-on reset of a clock failure: the island performs operations 1 to 3, then the logic side is held (R508); a sequence under
way flushes again what has been staged since (R519). -/
def State.clockFailed (s : State) (cause : Nat) : State :=
  let s1 := s.setCtl { s.ctl with held := true, failAt := s.dtb, nextRetry := s.dtb + 1000000000, relock := none }
  let s2 := s1.requestReset 0 cause 0 3 false
  if (s.ctl.run.map fun r => decide (r.scope < 2)) = some true then
    (s2.setCtl { s2.ctl with run := s2.ctl.run.map fun r => { r with flushed := false } }).islandTrigger 3 [1, 2, 3] outBlocks
  else s2

/-- RELOCK_ATTEMPT_TIMEOUT (R504): steps 3 to 5 again, and a lock failure after three attempts. -/
def execRelockAttemptTimeout (s : State) : Out :=
  match s.ctl.relock with
  | none => .next s
  | some r =>
    if s.dtb < r.tried + 2000000 then .next s
    else if r.tries < 3 then .next (s.setCtl { s.ctl with relock := some { r with tried := s.dtb, tries := r.tries + 1 } })
    else .next ((s.emit Ev.CLK_LOCK_FAIL 0 [w32 r.tries]).clockFailed 9)

/-! ### Clock failures (R507, R508) -/

/-- CLK_ROOT_FAIL (R507): `kind` 0 no edge for 1 us, 1 a deviation; `dev` in 0.01 ppm against the RTC crystal, which counts beyond
500 ppm while OSCSTOP is clear; CLK_ROOTDEV holds that of the last second (R524). -/
def execClkRootFail (kind : Nat) (dev : Int) (s : State) : Out :=
  let failed := kind == 0 || (kind == 1 && decide (50000 < dev.natAbs) && !s.regB Reg.RTC_STAT 0)
  let s0 := if kind = 1 ∧ s.ctl.por.isNone then s.setReg Reg.CLK_ROOTDEV (wOfInt dev) else s
  if !failed || !s.regB Reg.CLK_STAT 26 || s.ctl.por.isSome then .next s0
  else
    let s1 := (s0.setRegB Reg.CLK_STAT 26 false).setRegB Reg.CLK_STAT 5 true
    .next ((s1.emit Ev.CLK_ROOT_FAIL 0 [w32 kind, if kind = 1 then wOfInt (Int.tdiv dev 100) else 0]).clockFailed 8)

/-- ISLAND_RETRY (R508): every 1 s while the island holds the reset; whether the root has run within bounds for 100 ms, and whether
the PLL has then locked. -/
def execIslandRetry (rootOk pllOk : Bool) (s : State) : Out :=
  if !s.ctl.held || s.ctl.por.isNone || decide (s.dtb < s.ctl.nextRetry) then .next s
  else
    let s1 := s.setCtl { s.ctl with nextRetry := s.dtb + 1000000000 }
    if !rootOk then .next s1
    else
      let s2 := if s1.regB Reg.CLK_STAT 26 then s1
        else ((s1.setRegB Reg.CLK_STAT 26 true).setRegB Reg.CLK_STAT 5 true).emit Ev.CLK_ROOT_OK 0
          [w32 ((s.dtb - s.ctl.failAt) / 1000000)]
      .next (if pllOk then (s2.setCtl { s2.ctl with held := false }).islandState 0 else s2)

/-! ### CLK_DTBL (R524) -/

/-- A read of CLK_DTBL: bits [63:32] are latched for the reader. -/
def State.dtblRead (s : State) (b : Nat) : State :=
  { s.setReg (bk b Reg.CLK_DTBH) (w32 (s.dtb / 0x100000000)) with answer := w32 s.dtb }

/-- CLK_DTBL_READ. -/
def execClkDtblRead (w : Who) (s : State) : Out :=
  .next (s.access w Reg.CLK_DTBL fun s => s.dtblRead (whoBank w))

/-! ### The tick of the clock (R23, R443, R500) -/

/-- What one tick adds to the DTB: 40 on CLK_SAFE, else 8, or 16 or 0 where the tick is altered by the rate correction, with the
remainder of the correction carried on. -/
def State.tickOf (s : State) : Nat × Int :=
  if s.onSafe then (40, s.host.rateAcc)
  else
    let acc := s.host.rateAcc + 8 * s.rateNow
    if 8000000000 ≤ acc then (16, acc - 8000000000)
    else if acc ≤ -8000000000 then (0, acc + 8000000000)
    else (8, acc)

/-- DTB values are 64 bits wide. -/
def dtbMod : Nat := 0x10000000000000000

/-- The watchdog's timer after some time. -/
def State.wdTick (s : State) (ns : Nat) : Option Nat := s.ctl.wdLeft.map fun t => if s.wdCounts then t - ns else t

end Sys2Proof.Machine
end

