-- ==== Sys2Proof/Machine/Float.lean ====
section
/-! DEFINITION. The FP32 instructions (R75 to R78 and Table 2.8 of 02_mbarov_isa.md). -/
namespace Sys2Proof.Machine

/-- FADD: gd = ga + gb. -/
def execFadd (l : Nat) (d a b : Reg) (s : State) : Out :=
  .next (s.compute l (encodeInstr (.fadd l d a b)) 3 fun L => L.fpRes d (fadd (L.rg a) (L.rg b)))

/-- FSUB: gd = ga - gb. -/
def execFsub (l : Nat) (d a b : Reg) (s : State) : Out :=
  .next (s.compute l (encodeInstr (.fsub l d a b)) 3 fun L => L.fpRes d (fsub (L.rg a) (L.rg b)))

/-- FMUL: gd = ga × gb. -/
def execFmul (l : Nat) (d a b : Reg) (s : State) : Out :=
  .next (s.compute l (encodeInstr (.fmul l d a b)) 3 fun L => L.fpRes d (fmul (L.rg a) (L.rg b)))

/-- FDIV: gd = ga / gb. -/
def execFdiv (l : Nat) (d a b : Reg) (s : State) : Out :=
  .next (s.compute l (encodeInstr (.fdiv l d a b)) 12 fun L => L.fpRes d (fdiv (L.rg a) (L.rg b)))

/-- FMA: gd = gd + ga × gb, rounded once (R76). -/
def execFma (l : Nat) (d a b : Reg) (s : State) : Out :=
  .next (s.compute l (encodeInstr (.fma l d a b)) 4 fun L => L.fpRes d (ffma (L.rg d) (L.rg a) (L.rg b)))

/-- FMIN: the smaller (R76). -/
def execFmin (l : Nat) (d a b : Reg) (s : State) : Out :=
  .next (s.compute l (encodeInstr (.fmin l d a b)) 1 fun L => L.fpRes d (fmin (L.rg a) (L.rg b)))

/-- FMAX: the larger (R76). -/
def execFmax (l : Nat) (d a b : Reg) (s : State) : Out :=
  .next (s.compute l (encodeInstr (.fmax l d a b)) 1 fun L => L.fpRes d (fmax (L.rg a) (L.rg b)))

/-- FSQRT: the square root. -/
def execFsqrt (l : Nat) (d a : Reg) (s : State) : Out :=
  .next (s.compute l (encodeInstr (.fsqrt l d a)) 14 fun L => L.fpRes d (fsqrt (L.rg a)))

/-- FABS: bit 31 cleared; no flags.  DESIGN CHOICE (log 86): the bit operation of Table 2.8 acts on a NaN and on a subnormal as on any
other word, which keeps its bits [30:0]. -/
def execFabs (l : Nat) (d a : Reg) (s : State) : Out :=
  .next (s.compute l (encodeInstr (.fabs l d a)) 1 fun L => L.wg d (fpAbs (L.rg a)))

/-- FNEG: bit 31 inverted; no flags.  DESIGN CHOICE (log 86): as FABS, of a NaN and a subnormal too. -/
def execFneg (l : Nat) (d a : Reg) (s : State) : Out :=
  .next (s.compute l (encodeInstr (.fneg l d a)) 1 fun L => L.wg d (fpNegate (L.rg a)))

/-- FCVTI: saturating conversion to an integer (R78). -/
def execFcvti (l : Nat) (d a : Reg) (s : State) : Out :=
  .next (s.compute l (encodeInstr (.fcvti l d a)) 2 fun L => L.fpRes d (fcvti (L.rg a)))

/-- FCVTF: the FP32 of the integer ga. -/
def execFcvtf (l : Nat) (d a : Reg) (s : State) : Out :=
  .next (s.compute l (encodeInstr (.fcvtf l d a)) 2 fun L => L.fpRes d (fcvtf (L.rg a)))

/-- FCMP: compare (R77). -/
def execFcmp (l : Nat) (a b : Reg) (s : State) : Out :=
  .next (s.compute l (encodeInstr (.fcmp l a b)) 1 fun L => L.cmpRes (fcmp (L.rg a) (L.rg b)))

end Sys2Proof.Machine
end

