-- ==== Sys2Proof/Machine/Tiers.lean ====
section
/-! DEFINITION. Shed tiers taking effect and being restored, and the restart after a thermal power-down (R485 to R493, R495 of
14_power.md). -/
namespace Sys2Proof.Machine

/-- The number of tiers in force changed. -/
def State.tierTo (s : State) (n : Nat) : State :=
  let p := s.pwr
  let s1 := s.setPwr { p with deepest := n, dipDeep := if s.inDip then max p.dipDeep n else p.dipDeep }
  let s2 := s1.setRegF Reg.PWR_STAT 31 29 n
  s2.setRegF Reg.PWR_STAT 19 17 (max (s2.regF Reg.PWR_STAT 19 17) n)

/-- Why T5 takes effect: 0 VIN, 1 temperature, 2 both inputs open on over-voltage (R492). -/
def State.downCause (s : State) : Nat :=
  if s.demV < 5 && s.demT == 5 then 1 else if s.inFlag 0 2 && s.inFlag 1 2 then 2 else 0

/-- The reset that follows T5: a sequence under way becomes a power-on reset and flushes again (R492, R519). -/
def State.downReset (s : State) (cause : Nat) : State :=
  let r : ResetRun := match s.ctl.run with
    | none => ⟨0, cause, 2 ^ cause, 0, false, false, false⟩
    | some r => { r with scope := 0, cause := cause, mask := r.mask ||| 2 ^ cause, flushed := false, asserted := false }
  ((s.setCtl { s.ctl with run := some r }).amendReset r).islandTrigger 0 [1, 2, 3, 4] outBlocks

/-- T5 (R492): PWR_BROWNOUT, then the power-down.  Outside a dip the spec states no minimum and no start. -/
def State.powerDown (s : State) : State :=
  let why := s.downCause
  let p := s.pwr
  let s0 := if s.inDip then s else s.draw.draw
  let low := if s.inDip then voltF p.dipMin else w32 s.free
  let start := if s.inDip then p.dipStart else s.draw.free
  let s1 := s0.emit Ev.PWR_BROWNOUT 0 (low :: dtbWords start ++ [5, w32 why])
  (s1.setPwr { p with down := some why, thermalHold := why == 1 }).downReset (if why = 1 then 2 else 1)

/-- What a tier withdraws (Table 14.8). -/
def State.shedTier (s : State) (n : Nat) : State :=
  match n with
  | 1 => (((s.trcShed true).tagShed).latShed).replan (.tier 1 true)
  | 2 => (s.feShed.hstShed).replan (.tier 2 true)
  | 3 => ((((s.svShed.colShed).storeUndone 1).pmFreeze 8 true).shedDrained).replan (.tier 3 true)
  | 4 => s.t4Suspend.replan (.tier 4 true)
  | _ => s.powerDown

/-- What the restoration of a tier returns. -/
def State.returnTier (s : State) (n : Nat) : State :=
  match n with
  | 1 => (((s.trcShed false).tagRestore).latRestore).replan (.tier 1 false)
  | 2 => (s.feRestore.hstRestore).replan (.tier 2 false)
  | 3 => (((s.svRestore.colRestore).unshedKind 1).pmFreeze 8 false).replan (.tier 3 false)
  | _ => s.replan (.tier 4 false)

/-- The pairs that a tier powered down, powered up before the tier is lifted: those of T4 for their check (R170). -/
def State.powerUpFor (s : State) (n : Nat) : State := if n = 4 then s.t4PowerUp else s

/-- The number of the power manager's sample: one every 10 µs, the first at the release of the power-on reset (R478, R489). -/
def State.sampleNo (s : State) : Int := ((s.dtb : Int) - s.pwr.sampleAt) / 10000

/-- TIER_TAKE_EFFECT (R487): the next tier, while its demand stands, at most one in each sample; `a` and `b` are the samples of LOGIC-A
and LOGIC-B since those of the command before, in 10 mV, newest last. -/
def execTierTakeEffect (a b : List Nat) (s : State) : Out :=
  if s.pwr.down.isSome || s.ctl.por.isSome then .next s
  else
    let s1 := s.dipDemand a b
    let n := s1.pwr.deepest + 1
    if s1.demand < n ∨ s1.pwr.tierAt = some s1.sampleNo then .next s1
    else
      let s2 := s1.setPwr { s1.pwr with tierAt := some s1.sampleNo }
      .next (((s2.tierTo n).setRegB Reg.PWR_STAT 15 false).shedTier n)

/-- TIER_RESTORE (R490): the deepest tier in force, no demand standing for it; the first of a restoration at once, each further one 10
ms after the one before. -/
def execTierRestore (s : State) : Out :=
  let n := s.pwr.deepest
  if s.pwr.down.isSome || n ≤ s.demand || (s.regB Reg.PWR_STAT 15 && decide (s.dtb < s.pwr.nextRestore)) then .next s
  else
    let s0 := (s.powerUpFor n).tierTo (n - 1)
    let s1 := s0.setPwr { s0.pwr with nextRestore := s.dtb + 10000000 }
    .next ((s1.setRegB Reg.PWR_STAT 15 (decide (s.demand < n - 1))).returnTier n)

/-- THERMAL_RESTART (R493): TB, 0.1 degree, has fallen to 110 degrees C; PWR_THERMAL_OFF is recorded at the start that follows. -/
def execThermalRestart (tb : Int) (s : State) : Out :=
  .next (if s.pwr.thermalHold && s.ctl.por.isSome && decide (tb ≤ 1100) then s.setPwr { s.pwr with thermalHold := false } else s)

end Sys2Proof.Machine
end

