-- ==== Sys2Proof/Machine/RegAccess.lean ====
section
/-! DEFINITION. Register accesses: which a cell may make (R14, R36, R39, R40 of 01_architecture.md), what a read returns and a
write does (R15 to R19), and the applies of staged pages (R44 to R52, Table 1.7). -/
namespace Sys2Proof.Machine

/-! ### Which accesses reach a block -/

/-- Pages that act for cell 0 alone: for another cell reads return 0 and writes have no effect (R176, R201). -/
def cellZeroPage (a : Nat) : Bool :=
  let p := a / 0x1000 * 0x1000
  [0x40030000, 0x40032000, 0x40040000, 0x40041000, 0x40042000, 0x40044000].contains p

/-- Whether a page holds staged fields (R44). -/
def stagedPage (page : Nat) : Bool :=
  (blockRegs page).any fun r => r.staged != 0 && (List.range r.n1).any fun i => (r.base + i * r.s1) / 0x1000 * 0x1000 == page

/-- The key of a register for an accessor: the registers that show each reader its own copy are banked by the accessor's cell, by
the accessor itself, or by the cell of PLC_GSEL. -/
def State.regKey (s : State) (w : Who) (a : Nat) : Nat :=
  if [Reg.PLC_CSEL, Reg.PLC_CRES, Reg.PLC_LSEL, Reg.PLC_LRES].contains a ∨ (0x40602000 ≤ a ∧ a < 0x40604000) then
    bk (s.whoCell w) a
  else if 0x40032010 ≤ a ∧ a < 0x40032600 then bk s.gsel a
  else if [Reg.RTC_SECL, Reg.RTC_SECH, Reg.CLK_DTBH, Reg.HWK_SRES].contains a then bk (whoBank w) a
  else a

/-! ### Reads -/

/-- A register as its access codes show it (R16, R18, R19): staged bits from the shadow copy, the rest from the active value,
WO and reserved bits 0. -/
def State.plainRead (s : State) (k : Nat) : Word :=
  let a := addrOf k
  if a % 0x1000 = 0xFFC ∧ stagedPage (a - 0xFFC) then s.reg k
  else match regRow a with
    | none => 0
    | some r => ((s.reg k &&& ~~~ w32 r.staged) ||| (s.shadow k &&& w32 r.staged)) &&& w32 r.readable

/-- The register of an SV channel's status (R350, R353): SV23 shows SV22's while PAR is set, and RETRY is 0 once the turn-on has
passed its short check. -/
def State.svStatRead (s : State) (n0 : Nat) : Word :=
  let n := s.svLead n0
  let w := s.reg (Reg.SV_STAT n)
  if s.svChecked n then setFld w 27 25 0 else w

/-- The registers of the placer that are computed for the reading cell (R176). -/
def State.plcRead (s : State) (src a : Nat) : Option Word :=
  if a = Reg.PLC_STAT then some s.plcStat
  else if Reg.PLC_PSTAT 0 ≤ a ∧ a ≤ Reg.PLC_PSTAT 3 then some (s.plcPstat ((a - Reg.PLC_PSTAT 0) / 4))
  else if a = Reg.PLC_CSTAT then some (s.plcCstat src)
  else if a = Reg.PLC_CTAGS then some (s.plcCtags src)
  else if 0x40033004 ≤ a ∧ a < 0x40033018 ∨ a = Reg.PLC_LCYC then some (s.plcLoop src (a - 0x40033000))
  else none

/-- The registers of the arbiter that are computed (R201). -/
def State.hwkRead (s : State) (src a : Nat) : Option Word :=
  let sel := s.regF Reg.HWK_ISEL 9 0
  if Reg.HWK_MYCR 0 ≤ a ∧ a ≤ Reg.HWK_MYCR 3 then some (wOfInt (s.credit src ((a - Reg.HWK_MYCR 0) / 4)))
  else if a = Reg.HWK_MYTAGS then some (w32 (s.tagsOf src))
  else if a = Reg.HWK_STAT then some (setFld (s.reg a) 16 0 s.inUse)
  else if Reg.HWK_ICR 0 ≤ a ∧ a ≤ Reg.HWK_ICR 3 then some (wOfInt (s.credit sel ((a - Reg.HWK_ICR 0) / 4)))
  else if a = Reg.HWK_ISTAT then some (s.istatWord sel)
  else if 0x40045000 ≤ a ∧ a < 0x40045058 ∧ (a - 0x40045000) % 8 = 0 then some (s.engWord ((a - 0x40045000) / 8))
  else none

/-- The registers of the host block that are computed: OPEN of HST_HAPCNT, BLOCK of HST_CREDn (R449). -/
def State.hstRead (s : State) (a : Nat) : Option Word :=
  if a = Reg.HST_HAPCNT then some (setFld (s.reg a) 31 24 s.sessions.length)
  else if Reg.HST_CRED 0 ≤ a ∧ a ≤ Reg.HST_CRED 63 then
    some (setBit (s.reg a) 30 (mhas ((a - Reg.HST_CRED 0) / 4) s.host.blocked))
  else none

/-- Every register whose value is computed when it is read. -/
def State.computedRead (s : State) (src a : Nat) : Option Word :=
  if a = Reg.CTL_WDREM then some s.wdRem
  else if a = Reg.PWR_FSTAT then some s.fstatRead
  else if Reg.CTL_POST 0 ≤ a ∧ a ≤ Reg.CTL_POST 3 then some (s.ctlPost ((a - Reg.CTL_POST 0) / 4))
  else if 0x40030000 ≤ a ∧ a < 0x40040000 then s.plcRead src a
  else if 0x40040000 ≤ a ∧ a < 0x40050000 then s.hwkRead src a
  else if a = Reg.SV_PULL then some (w32 (s.svQueue * 0x100 + s.svInUse))
  else if 0x40401000 ≤ a ∧ a < 0x40419000 ∧ a % 0x1000 = 0x100 then some (s.svStatRead ((a - 0x40401000) / 0x1000))
  else if 0x40481000 ≤ a ∧ a < 0x40491000 ∧ a % 0x1000 = 0x104 then some (s.fanSpeed ((a - 0x40481000) / 0x1000))
  else if 0x40700000 ≤ a ∧ a < 0x40780000 then s.hstRead a
  else if 0x40781000 ≤ a ∧ a < 0x40783000 then some (s.tagWord (a - 0x40781000))
  else if 0x40C00000 ≤ a ∧ a < 0x41000000 then some (s.trcWindow a)
  else none

/-- What a read by an accessor returns where the read itself changes nothing. -/
def State.regPeek (s : State) (w : Who) (a : Nat) : Word :=
  let src := s.whoCell w
  if src ≠ 0 ∧ cellZeroPage a ∧ a ≠ Reg.PLC_INFO then 0
  else match s.computedRead src a with
    | some v => v
    | none => s.plainRead (s.regKey w a)

/-- A read of a register: the value goes to `answer`.  Reads of RTC_FRAC and CLK_DTBL latch the upper words (R426, R524), a read of
backup RAM checks its parity (R430), and the two measured means of PWR have the value the hardware measures. -/
def State.regRead (s : State) (w : Who) (a : Nat) : State :=
  if a = Reg.RTC_FRAC then s.rtcFracRead (whoBank w)
  else if a = Reg.CLK_DTBL then s.dtblRead (whoBank w)
  else if Reg.RTC_BK 0 ≤ a ∧ a ≤ Reg.RTC_BK 31 then s.bkRead ((a - Reg.RTC_BK 0) / 4) 0
  else if a = Reg.PWR_FCUR then { s.draw with answer := w32 (s.free % 0x10000) }
  else if a = Reg.PWR_POWER then { s.draw with answer := w32 s.free }
  else { s with answer := s.regPeek w a }

/-! ### Applies -/

def recRlPage : Nat := 0x40601000

/-- The number of a channel page: pages of 4 KiB from `base`. -/
def pageNo (base page : Nat) : Nat := (page - base) / 0x1000

/-- The agreement check of a page (R45): 0, or the lowest rule that fails.  A page whose block chapter states no rule always
agrees. -/
def State.agree (s : State) (page : Nat) : Nat :=
  if page < 0x40010000 then s.ctlAgree
  else if page < 0x40020000 then s.pwrAgree
  else if page < 0x40030000 then s.clkAgree
  else if page = 0x40030000 then s.plcAgree
  else if page = grantPage then s.grantAgree
  else if page < 0x40040000 then 0
  else if page < 0x40050000 then s.hwkAgree page
  else if page < 0x40131000 then s.feChannelAgree (pageNo 0x40101000 page)
  else if page < 0x40133000 then s.feCommonAgree
  else if page < 0x40180000 then s.feProfileAgree (pageNo 0x40133000 page)
  else if page < 0x401A1000 then s.colAgree (pageNo 0x40181000 page)
  else if page < 0x40200000 then s.colFitAgree (pageNo 0x401A1000 page)
  else if page < 0x40220000 then s.latAgree (pageNo 0x40200000 page)
  else if page < 0x40300000 then 0
  else if page < 0x40400000 then s.canAgree (pageNo 0x40300000 page)
  else if page = svCommonPage then s.svCommonAgree
  else if page < 0x40480000 then s.svAgree (pageNo 0x40401000 page)
  else if page < 0x40500000 then s.fanAgree (pageNo 0x40481000 page)
  else if page = dioCommonPage then s.ioCommonAgree
  else if page < 0x40600000 then s.ioAgree (pageNo 0x40501000 page)
  else if page < 0x40680000 then s.recAgree
  else if page < 0x40700000 then s.rtcAgree
  else if page < 0x40780000 then s.hstAgree
  else if page < 0x40810000 then s.trcAgree (pageNo 0x40800000 page)
  else 0

/-- The fields of REC_RL that an apply changes refill their buckets (R407). -/
def State.recApplied (old s : State) : State :=
  (List.range 16).foldl (fun s r => if old.reg (Reg.REC_RL r) = s.reg (Reg.REC_RL r) then s else s.refillRange r) s

/-- What a page's apply does beside the new values, in the state where they are in force. -/
def State.pageApplied (old s : State) (page : Nat) : State :=
  if page < 0x40010000 then State.ctlApplied old s
  else if page < 0x40020000 then s.pwrApplied
  else if page < 0x40030000 then s.clkApplied
  else if page = 0x40030000 then s.planhzApplied.replan .config
  else if page = grantPage then s.grantApplied
  else if page = 0x40041000 ∨ page = 0x40042000 then s.storeReq 6
  else if page < 0x40100000 then s
  else if page < 0x40131000 then State.feChannelApplied old s (pageNo 0x40101000 page)
  else if page < 0x40133000 then State.feCommonApplied old s
  else if page < 0x40180000 then s.storeReq 0
  else if page < 0x401A1000 then (State.colApplied old s (pageNo 0x40181000 page)).storeReq 1
  else if page < 0x40200000 then s.storeReq 1
  else if page < 0x40220000 then State.latApplied old s (pageNo 0x40200000 page)
  else if page < 0x40300000 then s.storeReq 2
  else if page < 0x40400000 then State.canApplied old s (pageNo 0x40300000 page)
  else if page = svCommonPage then State.svCommonApplied old s
  else if page < 0x40480000 then State.svApplied old s (pageNo 0x40401000 page)
  else if page < 0x40500000 then State.fanApplied old s (pageNo 0x40481000 page)
  else if page = dioCommonPage then s.ioCommonApplied
  else if page < 0x40600000 then State.ioApplied old s (pageNo 0x40501000 page)
  else if page < 0x40680000 then State.recApplied old s
  else if page < 0x40780000 then State.hstApplied old s
  else if page < 0x40810000 then State.trcApplied old s (pageNo 0x40800000 page)
  else s

/-- Conversions in progress keep the crop profile they run under (R47). -/
def State.beforeApply (s : State) (page : Nat) : State :=
  if 0x40133000 ≤ page ∧ page < 0x40180000 then s.keepProfiles (pageNo 0x40133000 page) else s

/-- Pages that take effect in one cycle: each takes its shadow values, then what follows from them happens. -/
def State.applyPages (s : State) (pages : List Nat) : State :=
  let s0 := pages.foldl State.beforeApply s
  let s1 := pages.foldl State.commitPage s0
  pages.foldl (fun t p => State.pageApplied s0 t p) s1

/-- The block of Table 1.6 that holds an address, numbered in the order of the bases. -/
def blockOf (a : Nat) : Nat :=
  ([0x40000000, 0x40010000, 0x40020000, 0x40030000, 0x40040000, 0x40100000, 0x40180000, 0x40200000, 0x40300000, 0x40400000,
    0x40480000, 0x40500000, 0x40600000, 0x40680000, 0x40700000, 0x40780000, 0x40800000].filter fun b => decide (b ≤ a)).length

/-- Whether the block of a page is held in reset: by a power-on or a system reset, or by a reset of blocks that names it (R510). -/
def State.heldPage (s : State) (page : Nat) : Bool :=
  s.ctl.por.isSome || match s.ctl.run with
    | none => false
    | some r => r.asserted && (decide (r.scope < 2) ||
        (blocksOf r.blocks).any fun b => decide (blockLo b ≤ page) && decide (page < blockHi b))

/-- Whether a page's apply point is the frame boundary (Table 1.7), or is so now because its block is shed, held or idle (R47). -/
def State.atFrame (s : State) (page : Nat) : Bool :=
  if 0x40020000 ≤ page ∧ page < 0x40030000 then !s.onSafe
  else if 0x40680000 ≤ page ∧ page < 0x40700000 then false
  else if page < 0x40040000 ∨ s.heldPage page then true
  else if page < 0x40100000 then false
  else if page < 0x40131000 then s.feIdle (pageNo 0x40101000 page)
  else if page < 0x40180000 then true
  else if page < 0x40200000 then s.shed 3
  else if page < 0x40220000 then !s.latEn (pageNo 0x40200000 page)
  else if page < 0x40300000 then true
  else if page < 0x40400000 then !s.canEn (pageNo 0x40300000 page)
  else if page < 0x40480000 then true
  else if page < 0x40500000 then !s.fanEn (pageNo 0x40481000 page)
  else if page < 0x40600000 then s.dio.held
  else true

/-- Whether the instant of a pending page's apply point has come, at a page whose point is another than the frame boundary. -/
def State.atPoint (s : State) (page : Nat) : Bool :=
  let later := decide ((mget ⟨0, 0⟩ page s.pend).acceptedAt < s.dtb)
  if page < 0x40040000 then false
  else if page < 0x40100000 then later && decide (s.hwk.nextRefill ≤ s.dtb)
  else if page < 0x40180000 then false
  else if page < 0x40200000 then later && decide (s.col.nextUpd ≤ s.dtb)
  else if page < 0x40220000 then s.frameReached page && (s.trunk (pageNo 0x40200000 page)).sel.isNone
  else if page < 0x40300000 then false
  else if page < 0x40400000 then s.frameReached page && (s.port (pageNo 0x40300000 page)).sel.isNone
  else if page < 0x40480000 then false
  else if page < 0x40500000 then later && decide ((s.fan (pageNo 0x40481000 page)).reloadAt ≤ s.dtb)
  else if page < 0x40600000 then later && decide (s.dio.nextDown ≤ s.dtb)
  else if page < 0x40680000 then false
  else page == rtcPage

/-- APPLY (R45, R49, R52): a page already pending is left as it is; the check passes and the page becomes pending, or it fails and
the rejection is recorded.  A page no staged field of which has been written since the last apply or discard passes (R52). -/
def State.acceptApply (s : State) (page cell : Nat) : State :=
  if s.isPending page then s
  else
    let r := if s.regB (stageOf page) 2 then s.agree page else 0
    if r = 0 then ({ s with pend := mins page ⟨s.dtb, cell⟩ s.pend }).setRegB (stageOf page) 0 true
    else ((s.setRegB (stageOf page) 5 true).setRegF (stageOf page) 11 8 r).emit Ev.STAGE_REJECT cell
      [w32 (stageOf page), w32 r, w32 cell]

/-- A write to BLOCK_APPLY (R44). -/
def State.writeApply (s : State) (page cell cmd : Nat) : State :=
  if cmd = 0x5A then s.acceptApply page cell
  else if cmd = 0xD1 then s.discard page
  else s.setRegB (stageOf page) 7 true

/-! ### Writes -/

/-- A write as the access codes of a register's fields state it (R16). -/
def State.plainWrite (s : State) (k : Nat) (v : Word) (cell : Nat) : State :=
  let a := addrOf k
  if a % 0x1000 = 0xFFC ∧ stagedPage (a - 0xFFC) then s.setReg k (s.reg k &&& ~~~ (v &&& w32 0xF0))
  else match regRow a with
    | none => s
    | some r =>
      let old := s.reg k
      let new := ((old &&& ~~~ w32 r.rw) ||| (v &&& w32 r.rw)) &&& ~~~ (v &&& w32 r.w1c)
      let s1 := if new = old then s else s.setReg k new
      if r.staged = 0 then s1 else s1.writeStaged k r.staged v cell

/-- What a submission is checked against for the column and sweep kinds (Tables 7.9 and 9.9). -/
def State.otherFormat (s : State) (c : Nat) (x : Cell) (d : List Word) : Nat :=
  if descKind d = 1 then s.colFormat c x d else s.swpFormat c x d

/-- What the arbiter's reads of the descriptors at an address find in cell shared data (R35).  DESIGN CHOICE (log 103): a descriptor with
an uncorrectable error is taken as it reads, and the word is known bad from then on. -/
def State.descEcc (s : State) (c : Nat) (v : Word) (es : List (Nat × Ecc)) : State :=
  let lo := v.toNat / 64 * 64
  (es.filter fun e => decide (lo ≤ e.1) && decide (e.1 < lo + 512) && (s.cell c).inShared e.1 4).foldl
    (fun s e => s.sharedEcc c e.1 e.2) s

/-- Writes to HWK_SUBMIT and HWK_CANCEL (R184, R193). -/
def State.writeSubmit (s : State) (w : Who) (v : Word) : State :=
  s.submit (whoBank w) (s.whoCell w) (v.toNat / 64 * 64) (s.otherFormat (s.whoCell w))
def State.writeCancel (s : State) (w : Who) (v : Word) : State := s.cancel (whoBank w) (s.whoCell w) (fld v 15 0)

/-- Command registers of CTL, PWR, CLK and PLC. -/
def State.coreCmd (s : State) (w : Who) (a : Nat) (v : Word) : Option State :=
  let c := s.whoCell w
  if a = Reg.CTL_RESET then some (s.writeReset c v)
  else if a = Reg.CTL_BRST then some (s.writeBrst c v)
  else if a = Reg.CTL_WDKICK then some (s.writeWdkick c v)
  else if a = Reg.PWR_CMD then
    let s1 := if bitAt v 0 then s.fieldRelease else s
    some (if bitAt v 1 then s1.startHuTest else s1)
  else if a = Reg.PWR_FORCE then some (s.writeForce v)
  else if a = Reg.CLK_CMD then some (if bitAt v 0 then s.cmdRelock c else s)
  else if a = Reg.PLC_CCMD then some (s.writeCcmd w (fld v 3 0))
  else if a = Reg.PLC_GSEL then some (s.writeGsel (fld v 9 0))
  else if a = Reg.PLC_LCMD then some (s.writeLcmd w (fld v 3 0))
  else if a = Reg.HWK_SUBMIT then some (s.writeSubmit w v)
  else if a = Reg.HWK_CANCEL then some (s.writeCancel w v)
  else if a = Reg.HWK_FRZ then some (s.writeFreeze v)
  else none

/-- Command registers of FE, COL, LAT and CAN. -/
def State.linkCmd (s : State) (a : Nat) (v : Word) : Option State :=
  let n := (a / 0x1000) % 0x20
  if a = Reg.FE_CALSEL then some (s.calSelect v)
  else if a = Reg.FE_CALREF ∨ a = Reg.FE_CALREFI then some (s.calRefWrite a v)
  else if a = Reg.FE_CALCMD then some (s.calCmd v)
  else if 0x40191000 ≤ a ∧ a < 0x401A1000 ∧ a % 0x1000 < 0x18 ∧ a % 4 = 0 then
    some (s.colInputWrite ((a - 0x40191000) / 0x1000) (a % 0x1000 / 4) v)
  else if a = Reg.LAT_TXQ n then some (s.latTxq n v)
  else if a = Reg.LAT_TXCAN n then some (s.latTxcan n v)
  else if a = Reg.LAT_RXACK n then some (s.latRxack n v)
  else if a = Reg.LAT_CMD n then some (if bitAt v 0 then s.latRecover n else s)
  else if 0x40240000 ≤ a ∧ a < 0x40260000 ∧ a % 0x1000 < 0x500 then some (s.latTxWrite n (a % 0x1000 / 4) v)
  else if 4 ≤ n then none
  else if a = Reg.CAN_TXCMD n then some (s.canTxcmd n v)
  else if a = Reg.CAN_RXREL n then some (if bitAt v 0 then s.canRelease n else s)
  else if a = Reg.CAN_CMD n then some (if bitAt v 0 then s.canRecover n else s)
  else if Reg.CAN_TXB n 0 0 ≤ a ∧ a < Reg.CAN_TXB n 3 0 ∧ (a - Reg.CAN_TXB n 0 0) % 80 < 72 then
    some (s.canTxWrite n ((a - Reg.CAN_TXB n 0 0) / 80) ((a - Reg.CAN_TXB n 0 0) % 80 / 4) v)
  else none

/-- Command registers of SV, FAN, DIO, REC, RTC, HST, TAG and TRC. -/
def State.sideCmd (s : State) (w : Who) (a : Nat) (v : Word) : Option State :=
  let clear := a % 0x1000 == 0x110
  if a = Reg.SV_GCMD then some (s.svBankClr v)
  else if 0x40401000 ≤ a ∧ a < 0x40419000 ∧ clear then some (if bitAt v 0 then s.svClear ((a - 0x40401000) / 0x1000) else s)
  else if 0x40481000 ≤ a ∧ a < 0x40491000 ∧ clear then some (if bitAt v 0 then s.fanClear ((a - 0x40481000) / 0x1000) else s)
  else if 0x40501000 ≤ a ∧ a < 0x40541000 ∧ clear then some (if bitAt v 0 then s.ioClear ((a - 0x40501000) / 0x1000) else s)
  else if a = Reg.REC_CMD then
    let s1 := if bitAt v 0 then s.cmdFlush else s
    some (if bitAt v 1 then s1.nvErase (s.whoCell w) (fld v 25 16) else s1)
  else if a = Reg.REC_CURSOR then some (s.startFill (s.whoCell w) (fld v 1 0))
  else if a = Reg.RTC_CMD then some (s.rtcCmd v)
  else if Reg.RTC_BK 0 ≤ a ∧ a ≤ Reg.RTC_BK 31 then some (s.bkWrite ((a - Reg.RTC_BK 0) / 4) v)
  else if a = Reg.HST_ALARM then some (s.writeAlarm v)
  else if a = Reg.TAG_WCMD then some (s.writeTagCmd v)
  else if 0x40800000 ≤ a ∧ a < 0x40810000 ∧ a % 0x1000 = 4 then some (s.trcCtl ((a - 0x40800000) / 0x1000) v)
  else none

/-- A write of a word to a register by an accessor: a command register acts, BLOCK_APPLY acts on its page, any other register
takes the write as its access codes state.  A backup domain that has been handed over refuses writes (R517). -/
def State.regWrite (s : State) (w : Who) (a : Nat) (v : Word) : State :=
  let c := s.whoCell w
  if (c ≠ 0 ∧ cellZeroPage a) ∨ (0x40680000 ≤ a ∧ a < 0x40700000 ∧ s.ctl.rtcHanded) then s
  else if a % 0x1000 = 0xFF8 ∧ stagedPage (a - 0xFF8) then s.writeApply (a - 0xFF8) c (fld v 7 0)
  else match s.coreCmd w a v, s.linkCmd a v, s.sideCmd w a v with
    | some t, _, _ => t
    | none, some t, _ => t
    | none, none, some t => t
    | none, none, none => s.plainWrite (s.regKey w a) v c

/-! ### The commands -/

/-- REGISTER_WRITE (R16). -/
def execRegisterWrite (w : Who) (a : Nat) (v : Word) (s : State) : Out := .next (s.access w a fun s => s.regWrite w a v)

/-- APPLY, DISCARD and APPLY_UNKNOWN_CMD (R44, R45, R50). -/
def execApply (w : Who) (page : Nat) (s : State) : Out :=
  .next (s.access w (page + 0xFF8) fun s => s.regWrite w (page + 0xFF8) 0x5A)
def execDiscard (w : Who) (page : Nat) (s : State) : Out :=
  .next (s.access w (page + 0xFF8) fun s => s.regWrite w (page + 0xFF8) 0xD1)
def execApplyUnknownCmd (w : Who) (page cmd : Nat) (s : State) : Out :=
  if cmd % 256 = 0x5A ∨ cmd % 256 = 0xD1 then .next s
  else .next (s.access w (page + 0xFF8) fun s => s.regWrite w (page + 0xFF8) (w32 cmd))

/-- Whether the apply point of a pending page has come. -/
def State.applyDue (s : State) (page : Nat) : Bool := (s.atFrame page && s.frameReached page) || s.atPoint page

/-- The pending pages of a page's block whose apply point has come with its own: they take effect in the same cycle (R46). -/
def State.applyWith (s : State) (page : Nat) : List Nat :=
  (s.pend.map Prod.fst).filter fun p => blockOf p == blockOf page && s.applyDue p

/-- APPLY_TAKES_EFFECT (R46, R47): a pending page whose apply point has come, with every pending page of its block that shares the
point. -/
def execApplyTakesEffect (page : Nat) (s : State) : Out :=
  if !s.isPending page then .next s
  else if page = rtcPage then .next (if s.ctl.rtcHanded then s else s.rtcApply)
  else if s.applyDue page then .next (s.applyPages (s.applyWith page))
  else .next s

/-- FRAME_BOUNDARY (R46, R167, R513): at a DTB instant that is a multiple of 10,000 ns, or the first one after it. -/
def execFrameBoundary (s : State) : Out :=
  if s.dtb < s.nextFrame then .next s
  else
    let due := (s.pend.map Prod.fst).filter fun p => s.atFrame p && s.frameReached p
    let s1 := s.applyPages due
    let s2 := (List.range 104).foldl State.slotPosture s1
    .next { s2 with nextFrame := frameAfter s2.dtb, ctl := { s2.ctl with beat := s2.dtb } }

/-- HWK_SUBMIT, HWK_CANCEL and HWK_FREEZE_WRITE (R184, R193, R197). -/
def execHwkSubmit (w : Who) (addr : Submission) (s : State) : Out :=
  .next (s.access w Reg.HWK_SUBMIT fun s => (s.descEcc (s.whoCell w) addr.addr addr.ecc).writeSubmit w addr.addr)
def execHwkCancel (w : Who) (v : Word) (s : State) : Out :=
  .next (s.access w Reg.HWK_CANCEL fun s => s.writeCancel w v)
def execHwkFreezeWrite (w : Who) (v : Word) (s : State) : Out :=
  .next (s.access w Reg.HWK_FRZ fun s => if s.whoCell w = 0 then s.writeFreeze v else s)

/-- TRC_TRIG (R142) and TRC_CLEAR (R144). -/
def execTrcTrig (w : Who) (n : Nat) (s : State) : Out :=
  if 16 ≤ n then .next s else .next (s.access w (Reg.TRC_CTL n) fun s => s.trcCtl n 2)
def execTrcClear (w : Who) (n : Nat) (s : State) : Out :=
  if 16 ≤ n then .next s else .next (s.access w (Reg.TRC_CTL n) fun s => s.trcCtl n 1)

end Sys2Proof.Machine
end

