-- ==== Sys2Proof/Machine/Hap.lean ====
section
/-! DEFINITION. The Host Access Protocol and commissioning (R446 to R458, R463 of 13_host_service.md). -/
namespace Sys2Proof.Machine

/-! ### Authentication and execution of requests (R446, R450) -/

/-- Whether a datagram reaches HAP: taken on a link that is up (R434), and to the link's address and the port of HST_UDP (R438). -/
def State.hapReaches (s : State) (m : HapMsg) : Bool :=
  s.linkRuns m.link && s.takesFrame m.link m.frame && m.dst == s.reg (Reg.HST_IP m.link) && m.port == s.regF Reg.HST_UDP 15 0

/-- The body bytes that a request carries, where its command's operands spell `body`. -/
def hapBody (m : HapMsg) (body : List Byte) : List Byte := body.take (body.length - m.cut) ++ m.extra

/-- Whether a request is what its command's operands spell. -/
def hapPlain (m : HapMsg) : Bool := m.cut == 0 && m.extra.isEmpty && m.type.isNone

/-- Whether a body has the form of a message type (Table 13.4): its length, and 0 in its reserved bytes. -/
def hapShape (type : Nat) (b : List Byte) : Bool :=
  let n := b.length
  let zero (i k : Nat) : Bool := ((b.drop i).take k).all fun x => x == 0
  match type with
  | 1 => n == 17
  | 2 => n == 0
  | 3 => n == 0
  | 4 => n % 4 == 0 && decide (4 ≤ n) && decide (n ≤ 1024)
  | 5 => n % 8 == 0 && decide (8 ≤ n) && decide (n ≤ 1024)
  | 6 => n == 8 && zero 1 3
  | 7 => n == 0
  | 8 => n == 4
  | 9 => n == 8 && zero 2 2
  | 10 => decide (5 ≤ n) && decide (n ≤ 1028)
  | 11 => n == 0
  | 12 => n == 0
  | 13 => n == 36 && zero 1 3
  | 14 => n == 36
  | _ => false

/-- Whether a request that is not what its operands spell has a known TYPE and a body of that form: its bytes are then those of another
command, and it does nothing here. -/
def hapAnother (m : HapMsg) (type : Nat) (body : List Byte) : Bool := !hapPlain m && hapShape (m.type.getD type) (hapBody m body)

/-- The bytes of a request before its body (Table 13.3): RESULT and FLAGS are 0. -/
def hapHead (m : HapMsg) (type : Nat) : List Byte :=
  bytesOf 2 m.magic ++ bytesOf 1 m.ver ++ bytesOf 1 type ++ bytesOf 4 m.sid ++ bytesOf 4 m.seq ++ bytesOf 2 m.len ++
    bytesOf 1 0 ++ bytesOf 1 0

/-- Whether a request has MAGIC, VER and LEN right and its TAG verifies under a key (R446): the first 16 bytes of the HMAC over
header and body. -/
def hapAuthentic (m : HapMsg) (key : List Byte) (type : Nat) (body : List Byte) : Bool :=
  m.magic == 0x4148 && m.ver == 1 && m.len == body.length && decide (m.len ≤ 1424) &&
    m.tag == hmacBytes key (hapHead m type ++ body) 16

/-- A datagram that does not reach HAP: counted where its frame is discarded or it is a broadcast (R434, R438). -/
def State.hapUnheard (s : State) (m : HapMsg) : State :=
  if s.linkRuns m.link && (!s.takesFrame m.link m.frame || s.isBroadcast m.link m.dst) then s.dropFrame m.link else s

/-- A message discarded: counted and recorded, without reply (R446). -/
def State.hapDiscard (s : State) (m : HapMsg) : State :=
  (s.countReg Reg.HST_HAPCNT 15 0 0xFFFF 1).emit Ev.HAP_AUTH_FAIL 0 [w32 m.link, m.src, w32 m.sid]

/-- Whether SEQ is higher than every one executed, or lies among the 64 below the highest and has not been executed (R450). -/
def Session.takes (x : Session) (seq : Nat) : Bool :=
  match x.high with
  | .none => true
  | some h => decide (h < seq) || (decide (h ≤ seq + 64) && !x.done.contains seq)

/-- SEQ executed: among the 8 latest, its reply to come (R450). -/
def Session.mark (x : Session) (seq : Nat) : Session :=
  let h := max seq (x.high.getD seq)
  { x with high := some h, done := (seq :: x.done).filter fun q => decide (h ≤ q + 64), cache := ((seq, Option.none) :: x.cache).take 8 }

/-- What executing a request gives: its result and reply body, or nothing where the reply waits; and the state. -/
abbrev HapRes := Option (Nat × List Byte) × State

/-- Whether a request names an open session and is authentic under its key. -/
def State.hapAuth (s : State) (m : HapMsg) (type : Nat) (body : List Byte) : Bool :=
  mhas m.sid s.sessions && hapAuthentic m (s.session m.sid).key (m.type.getD type) (hapBody m body)

/-- An authentic request of an open session: a SEQ executed before gets the cached reply where that is kept, and where it is to come,
when it comes; else it is executed and answered, an unknown TYPE with FORMAT (R447). -/
def State.hapServe (s : State) (m : HapMsg) (type : Nat) (f : State → HapRes) : State :=
  let seq := m.seq % 0x100000000
  let x := s.session m.sid
  let s1 := s.setSession m.sid { x with lastAt := s.dtb }
  match x.cache.find? fun e => e.1 == seq with
  | some (_, some r) => s1.hapSend m.link r
  | some (_, none) => s1.hapJoin m.link m.sid seq
  | none =>
    if !x.takes seq then s1
    else
      let s2 := s1.setSession m.sid (({ x with lastAt := s.dtb }).mark seq)
      let r := if m.type.isSome then (some (hapFormat, []), s2) else f s2
      match r.1 with
      | none => r.2
      | some a => r.2.hapReply [m.link] m.sid seq (m.type.getD type) a.1 a.2

/-- A request of an open session, with the body that its operands spell: discarded where it is not authentic. -/
def State.hapRequest (s : State) (m : HapMsg) (type : Nat) (body : List Byte) (f : State → HapRes) : State :=
  if !s.hapReaches m then s.hapUnheard m
  else if hapAnother m type body then s
  else if !s.hapAuth m type body then s.hapDiscard m
  else s.hapServe m type f

/-- A result without a body. -/
def State.hapAns (s : State) (code : Nat) : HapRes := (some (code, []), s)

/-- Rights (R448): RO is held with RO, RW or ADMIN; RW with RW or ADMIN; ADMIN by credentials of cell 0 alone. -/
def Session.canRead (x : Session) : Bool := x.rights % 8 != 0
def Session.canWrite (x : Session) : Bool := x.rights / 2 % 4 != 0
def Session.admin (x : Session) : Bool := x.rights / 4 % 2 == 1 && x.cell == 0

/-- Writes are refused in LOCAL mode unless the credential has LOCALOK (R448, R467). -/
def State.hapLockedOut (s : State) (x : Session) : Bool := s.localMode && x.rights / 8 % 2 == 0

/-- A request that needs a right, where it writes that LOCAL mode does not refuse it, and that its body is one of its type (R447). -/
def State.hapGuard (s : State) (m : HapMsg) (right writes : Bool) (f : HapRes) : HapRes :=
  if !right then s.hapAns hapNoperm
  else if writes && s.hapLockedOut (s.session m.sid) then s.hapAns hapLocked
  else if !hapPlain m then s.hapAns hapFormat
  else f

/-! ### Opening and closing (R449, R451) -/

/-- The secret of a credential. -/
def State.secret (s : State) (c : Nat) : List Byte := wordBytes ((List.range 8).map fun w => s.reg (hiddenKey 9 (8 * c + w)))
def State.credEmpty (s : State) (c : Nat) : Bool := (s.secret c).all fun b => b == 0

/-- The block of R449: 8 failed OPENs within 60 s, for 60 s. -/
def minute : Nat := 60000000000

/-- A failed OPEN of a credential: the 8th within 60 s blocks it. -/
def State.openFailed (s : State) (c : Nat) : State :=
  let ts := s.dtb :: ((mget [] c s.host.fails).filter fun t => decide (s.dtb < t + minute))
  if 8 ≤ ts.length then
    s.setHost { s.host with fails := mset [] c [] s.host.fails, blocked := mins c (s.dtb + minute) (mdel c s.host.blocked) }
  else s.setHost { s.host with fails := mset [] c ts s.host.fails }

/-- A random non-zero SID that no open session has. -/
def State.newSid (s : State) : Nat :=
  (((List.range 66).map fun i => (s.free + i) % 0x100000000).find? fun n => n != 0 && !mhas n s.sessions).getD 1

/-- A session opened (R449). -/
def State.openSession (s : State) (m : HapMsg) (c : Nat) (nonce : List Byte) : State :=
  let sid := s.newSid
  let nm := (List.range 16).map (Config.nonce s.drawn)
  let key := hmacBytes (s.secret c) ([0x48, 0x53] ++ nonce ++ nm ++ bytesOf 4 sid) 32
  let cell := s.regF (Reg.HST_CRED c) 9 0
  let x : Session := { Session.none with cell := cell, rights := s.regF (Reg.HST_CRED c) 13 10, key := key, lastAt := s.dtb }
  let s1 := ((s.draw.setSession sid x).freshBank (8192 + sid)).emit Ev.HAP_OPEN cell [w32 c, w32 cell, w32 m.link, m.src]
  s1.hapSend m.link (hapBytes (s.secret c) hapOpen 0 (m.seq % 0x100000000) hapOk (bytesOf 4 sid ++ nm))

/-- The body of an OPEN. -/
def openBody (cred : Nat) (nonce : List Byte) : List Byte := bytesOf 1 cred ++ nonce

/-- Whether an OPEN is authentic under the credential's secret (R446); one that carries no credential index is not. -/
def State.openAuth (s : State) (m : HapMsg) (cred : Nat) (nonce : List Byte) : Bool :=
  (hapBody m (openBody cred nonce)).take 1 == bytesOf 1 cred && hapAuthentic m (s.secret cred) hapOpen (hapBody m (openBody cred nonce))

/-- A datagram in the place of an OPEN that reaches HAP and has TYPE 1: a message whose TAG fails is discarded under R446. -/
def State.hapOpens (s : State) (m : HapMsg) (cred : Nat) (nonce : List Byte) : State :=
  let auth := s.openAuth m cred nonce
  let answer (code : Nat) : State := s.hapSend m.link (hapBytes (s.secret cred) hapOpen 0 (m.seq % 0x100000000) code [])
  if 64 ≤ cred then s.hapDiscard m
  else if mhas cred s.host.blocked then (if auth then s else s.hapDiscard m)
  else if !auth then (s.hapDiscard m).openFailed cred
  else if s.credEmpty cred then s.openFailed cred
  else if !hapPlain m then answer hapFormat
  else if 64 ≤ s.sessions.length then answer hapNospace
  else s.openSession m cred nonce

/-- HAP_OPEN (R449); a datagram of an unknown TYPE is a request of a session. -/
def execHapOpen (m : HapMsg) (cred : Nat) (nonce : List Byte) (s : State) : Out :=
  if !s.hapReaches m then .next (s.hapUnheard m)
  else if hapAnother m hapOpen (openBody cred nonce) then .next s
  else if m.type.isSome then .next (s.hapRequest m hapOpen (openBody cred nonce) fun t => t.hapAns hapFormat)
  else .next (s.hapOpens m cred nonce)

/-- CRED_BLOCK_END (R449). -/
def execCredBlockEnd (cred : Nat) (s : State) : Out :=
  .next (if mhas cred s.host.blocked && decide (mget 0 cred s.host.blocked ≤ s.dtb) then
    s.setHost { s.host with blocked := mdel cred s.host.blocked }
  else s)

/-- HAP_CLOSE: the session closes after its reply. -/
def execHapClose (m : HapMsg) (s : State) : Out :=
  let fresh := s.hapReaches m && s.hapAuth m hapClose [] && hapPlain m && (s.session m.sid).takes (m.seq % 0x100000000)
  let s1 := s.hapRequest m hapClose [] fun t => t.hapGuard m true false (t.hapAns hapOk)
  .next (if fresh then s1.closeSession m.sid 0 else s1)

/-- HAP_IDLE_TIMEOUT (R451): HST_HAPCFG.IDLE seconds without a valid request. -/
def execHapIdleTimeout (sid : Nat) (s : State) : Out :=
  let idle := s.regF Reg.HST_HAPCFG 31 16 * second
  .next (if mhas sid s.sessions && decide ((s.session sid).lastAt + idle ≤ s.dtb) then s.closeSession sid 1 else s)

/-! ### Registers, events and time (R452, R453) -/

/-- PING. -/
def execPing (m : HapMsg) (s : State) : Out :=
  .next (s.hapRequest m hapPing [] fun t =>
    t.hapGuard m (t.session m.sid).canRead false
      (some (hapOk, bytesOf 8 t.dtb ++ bytesOf 4 (t.reg Reg.HST_PTPSTAT).toNat), t))

/-- An access of a session to an address: nothing where the address is no register's, PAGE_DENIED where its page is not granted (R40),
else what `f` does. -/
def State.hapAccess (s : State) (w : Who) (a : Nat) (f : State → State) : Bool × State :=
  if !inExtent a || a % 4 != 0 then (false, s)
  else if !s.pageGranted (s.whoCell w) a then (false, s.pageDenied (s.whoCell w) a)
  else (true, f s)

/-- Reads in order up to the first that fails: the values read, latest first, whether all were, and the state. -/
def State.hapReads (w : Who) : List Word → List Word → State → List Word × Bool × State
  | [], acc, s => (acc, true, s)
  | a :: t, acc, s =>
    let r := s.hapAccess w a.toNat fun s => s.regRead w a.toNat
    if r.1 then State.hapReads w t (r.2.answer :: acc) r.2 else (acc, false, r.2)

/-- RD. -/
def execRd (m : HapMsg) (addrs : List Word) (s : State) : Out :=
  .next (s.hapRequest m hapRd (wordBytes addrs) fun t =>
    t.hapGuard m (t.session m.sid).canRead false
      (if addrs.isEmpty ∨ 256 < addrs.length then t.hapAns hapFormat
      else
        let r := State.hapReads (.session m.sid) addrs [] t
        (some (if r.2.1 then hapOk else hapAccess, bytesOf 2 r.1.length ++ bytesOf 2 0 ++ wordBytes r.1.reverse), r.2.2)))

/-- Writes in order up to the first that fails: the number done, whether all were, and the state. -/
def State.hapWrites (w : Who) : List (Word × Word) → Nat → State → Nat × Bool × State
  | [], n, s => (n, true, s)
  | p :: t, n, s =>
    let r := s.hapAccess w p.1.toNat fun s => s.regWrite w p.1.toNat p.2
    if r.1 then State.hapWrites w t (n + 1) r.2 else (n, false, r.2)

/-- WR. -/
def execWr (m : HapMsg) (pairs : List (Word × Word)) (s : State) : Out :=
  .next (s.hapRequest m hapWr (wordBytes (pairs.flatMap fun p => [p.1, p.2])) fun t =>
    t.hapGuard m (t.session m.sid).canWrite true
      (if pairs.isEmpty ∨ 128 < pairs.length then t.hapAns hapFormat
      else
        let r := State.hapWrites (.session m.sid) pairs 0 t
        (some (if r.2.1 then hapOk else hapAccess, bytesOf 2 r.1 ++ bytesOf 2 0), r.2.2)))

/-- EVT (R453): the session's own cursor over the event view of its cell. -/
def execEvt (m : HapMsg) (mode start : Nat) (s : State) : Out :=
  .next (s.hapRequest m hapEvt (bytesOf 1 mode ++ bytesOf 3 0 ++ bytesOf 4 start) fun t =>
    t.hapGuard m (t.session m.sid).canRead false
      (if 3 < mode then t.hapAns hapFormat
      else
        let r := t.runFill 1344 (t.session m.sid).cell mode (start % 0x100000000)
        (some (hapOk, bytesOf 4 (r.more.toNat + 2 * r.gap.toNat) ++ bytesOf 4 r.recs.length ++ bytesOf 4 r.next ++
          wordBytes (r.recs.flatMap LogRec.words)), t)))

/-- HAP_TIME. -/
def execHapTime (m : HapMsg) (s : State) : Out :=
  .next (s.hapRequest m hapTime [] fun t =>
    t.hapGuard m (t.session m.sid).canRead false
      (some (hapOk, bytesOf 8 t.dtb ++ bytesOf 8 (rtcSec t.rtc.ticks) ++ bytesOf 4 (rtcFrac t.rtc.ticks) ++
        bytesOf 4 (t.reg Reg.HST_OFFSET).toNat ++ bytesOf 4 (t.reg Reg.HST_PTPSTAT).toNat), t))

/-- HAP_CELL: a cell command with a cell-0 session; the host gives RESET and UNLOAD, and SUSPEND and RESUME are cell 0's (Table 4.10). -/
def execHapCell (m : HapMsg) (cell cmd : Nat) (s : State) : Out :=
  .next (s.hapRequest m hapCell (bytesOf 2 cell ++ bytesOf 2 cmd) fun t =>
    let x := t.session m.sid
    t.hapGuard m (x.canWrite && x.cell == 0) true
      (if 1024 ≤ cell then t.hapAns hapFormat
      else
        let r := if cmd % 16 = 2 ∨ cmd % 16 = 3 then (cresNoperm, t) else t.cellCommand 0 cell (cmd % 16)
        (some (hapOk, bytesOf 4 r.1), r.2)))

/-! ### Image loading (R455) -/

/-- A session's load replaced. -/
def State.setLoad (s : State) (sid : Nat) (d : Option HapLoad) : State := s.setSession sid { s.session sid with load := d }

/-- The load a session receives. -/
def Session.receiving (x : Session) : Option HapLoad := x.load.filter fun d => d.state == 1

/-- The loads that sessions receive. -/
def State.receivings (s : State) : List HapLoad := s.sessions.filterMap fun e => e.2.receiving

/-- The image area, and what the loads in progress hold of it. -/
def imageArea : Nat := 33554432
def State.areaUsed (s : State) : Nat :=
  (s.receivings.map HapLoad.total).sum +
    (s.cells.map fun e => match e.2.loading with
      | some i => if e.2.viaHap then i.len else 0
      | none => 0).sum

/-- IMG_BEGIN. -/
def execImgBegin (m : HapMsg) (cell total : Nat) (s : State) : Out :=
  .next (s.hapRequest m hapImgBegin (bytesOf 2 cell ++ bytesOf 2 0 ++ bytesOf 4 total) fun t =>
    let x := t.session m.sid
    t.hapGuard m x.canWrite true
      (if 1024 ≤ cell ∨ total < 128 ∨ imageArea < total then t.hapAns hapFormat
      else if x.cell ≠ 0 ∧ x.cell ≠ cell then t.hapAns hapAccess
      else if (t.cell cell).loading.isSome || t.receivings.any fun d => d.cell == cell then t.hapAns hapBusy
      else if x.receiving.isSome then t.hapAns hapState
      else if imageArea < t.areaUsed + total then t.hapAns hapNospace
      else (t.setLoad m.sid (some ⟨cell, total, [], [], 1, 0, t.dtb⟩)).hapAns hapOk))

/-- Ranges of bytes written, in order and joined where they touch, with one more. -/
def addRange (a b : Nat) : List (Nat × Nat) → List (Nat × Nat)
  | [] => [(a, b)]
  | (c, d) :: t => if b < c then (a, b) :: (c, d) :: t else if d < a then (c, d) :: addRange a b t else addRange (min a c) (max b d) t

/-- IMG_DATA. -/
def execImgData (m : HapMsg) (off : Nat) (data : List Byte) (s : State) : Out :=
  .next (s.hapRequest m hapImgData (bytesOf 4 off ++ data) fun t =>
    let x := t.session m.sid
    t.hapGuard m x.canWrite true
      (match x.receiving with
      | none => t.hapAns (if data.isEmpty ∨ 1024 < data.length then hapFormat else hapState)
      | some d =>
        if data.isEmpty ∨ 1024 < data.length ∨ d.total < off + data.length then t.hapAns hapFormat
        else (t.setLoad m.sid (some { d with
          bytes := msetList 0 off data d.bytes, written := addRange off (off + data.length) d.written, lastData := t.dtb }) |>.askInternal (.image m.sid)).hapAns hapOk))

/-- The image handed to the placer. -/
def State.handImage (s : State) (sid : Nat) (d : HapLoad) : State :=
  let x := s.cell d.cell
  let i : Image := ⟨d.bytes, d.total⟩
  let s1 := s.setLoad sid (some { d with state := 2, bytes := [], written := [] })
  let s2 := s1.setCell d.cell { x with loading := some i, viaHap := true, state := if x.state = 4 then 4 else 1 }
  let s3 := s2.emit Ev.HAP_IMAGE d.cell [w32 d.cell, i.iid, w32 s2.free]
  s3.draw.queueLoad d.cell

/-- IMG_END. -/
def execImgEnd (m : HapMsg) (s : State) : Out :=
  .next (s.hapRequest m hapImgEnd [] fun t =>
    let x := t.session m.sid
    t.hapGuard m x.canWrite true
      (match x.receiving with
      | none => t.hapAns hapState
      | some d => if d.written ≠ [(0, d.total)] then t.hapAns hapFormat else (t.handImage m.sid d).hapAns hapOk))

/-- IMG_STATUS. -/
def execImgStatus (m : HapMsg) (s : State) : Out :=
  .next (s.hapRequest m hapImgStatus [] fun t =>
    let x := t.session m.sid
    let r := match x.load with
      | some d => (d.state, d.result)
      | none => (0, 0)
    t.hapGuard m x.canRead false (some (hapOk, bytesOf 4 r.1 ++ bytesOf 4 r.2), t))

/-- IMG_LOAD_TIMEOUT: 120 s without IMG_DATA before IMG_END. -/
def execImgLoadTimeout (sid : Nat) (s : State) : Out :=
  match (s.session sid).receiving with
  | none => .next s
  | some d => .next (if mhas sid s.sessions && decide (d.lastData + 2 * minute ≤ s.dtb) then s.setLoad sid none else s)

/-! ### Keys and credentials (R456, R457) -/

/-- Values that take force at the commit of their set, and the request that waits for it. -/
def State.awaitStore (s : State) (m : HapMsg) (set type code : Nat) (body : List Word) (vals : List (Nat × Word)) : HapRes :=
  let w : HapWait := ⟨set, m.sid, m.seq % 0x100000000, [m.link], type, code, body, false⟩
  let h := s.host
  let s1 := s.setHost { h with
    newVals := vals.foldl (fun acc (e : Nat × Word) => mins e.1 e.2 (mdel e.1 acc)) h.newVals
    waits := h.waits ++ [w] }
  (none, s1.storeReq set)

/-- KEY_SET. -/
def execKeySet (m : HapMsg) (slot : Nat) (key : List Word) (s : State) : Out :=
  .next (s.hapRequest m hapKeySet (bytesOf 1 slot ++ bytesOf 3 0 ++ wordBytes key) fun t =>
    let x := t.session m.sid
    t.hapGuard m x.admin true
      (if 16 ≤ slot ∨ key.length ≠ 8 then t.hapAns hapFormat
      else if !t.keyEmpty slot && !t.localMode then t.hapAns hapLocked
      else t.awaitStore m 8 hapKeySet Ev.HAP_KEY_SET [w32 slot, key.headD 0]
        ((List.range 8).map fun w => (Reg.HST_KEY slot w, key.getD w 0))))

/-- Whether writing a credential needs LOCAL mode: credential 0, or one whose cell is 0 with ADMIN, as it is or as it is to be. -/
def State.credNeedsLocal (s : State) (c rights cell : Nat) : Bool :=
  let old := s.reg (Reg.HST_CRED c)
  c == 0 || (cell == 0 && rights / 4 % 2 == 1) || (bitAt old 31 && fld old 9 0 == 0 && bitAt old 12)

/-- Whether the fields of CRED_SET are those of R448. -/
def credOk (c rights cell : Nat) (enc : List Byte) : Bool :=
  decide (c < 64) && decide (rights ≤ 15) && decide (cell < 1024) && enc.length == 32 && (rights / 4 % 2 == 0 || cell == 0) &&
    (c != 0 || (cell == 0 && rights == 15))

/-- The words of 32 bytes. -/
def wordsOf (bs : List Byte) : List Word := (List.range (bs.length / 4)).map fun i => w32 (ofBytes ((bs.drop (4 * i)).take 4))

/-- HST_CREDn of a credential. -/
def credWord (secret : List Byte) (rights cell : Nat) : Word :=
  setBit (setFld (setFld 0 13 10 rights) 9 0 cell) 31 (secret.any fun b => b != 0)

/-- The values of a credential: its secret and HST_CREDn. -/
def credVals (c rights cell : Nat) (secret : List Byte) : List (Nat × Word) :=
  let ws := wordsOf secret
  (Reg.HST_CRED c, credWord secret rights cell) :: (List.range 8).map fun w => (hiddenKey 9 (8 * c + w), ws.getD w 0)

/-- CRED_SET. -/
def execCredSet (m : HapMsg) (cred rights cell : Nat) (enc : List Byte) (s : State) : Out :=
  .next (s.hapRequest m hapCredSet (bytesOf 1 cred ++ bytesOf 1 rights ++ bytesOf 2 cell ++ enc) fun t =>
    let x := t.session m.sid
    t.hapGuard m x.admin true
      (if !credOk cred rights cell enc then t.hapAns hapFormat
      else if t.credNeedsLocal cred rights cell && !t.localMode then t.hapAns hapLocked
      else
        let pad := hmacBytes x.key ([0x43, 0x53] ++ bytesOf 4 (m.seq % 0x100000000)) 32
        let secret := List.zipWith (fun a b => a ^^^ b) enc pad
        t.awaitStore m 9 hapCredSet Ev.HAP_CRED_SET [w32 cred, w32 cell, w32 rights] (credVals cred rights cell secret)))

/-! ### Commissioning by the tag (R463) -/

/-- The mailbox, 256 bytes in blocks 64 to 79 (Table 13.8). -/
def mailboxAt : Nat := 1024
def State.mailbox (s : State) : List Byte := s.tagBytes 64 16

/-- The secret of the mailbox taken into credential 0. -/
def State.takeSecret (s : State) (secret : List Byte) : State :=
  let vals := credVals 0 15 0 secret
  let s1 := s.setHost { s.host with newVals := s.host.newVals.filter fun (e : Nat × Word) => !vals.any fun v => v.1 == e.1 }
  (vals.foldl (fun s (e : Nat × Word) => s.setReg e.1 e.2) s1).storeReq 9

/-- The registers that the mailbox's addresses go to, in its order. -/
def mailboxRegs : List Nat :=
  [Reg.HST_IP 0, Reg.HST_MASK 0, Reg.HST_GW 0, Reg.HST_IP 1, Reg.HST_MASK 1, Reg.HST_GW 1]

/-- The addresses of the mailbox applied to HST page 1; whether they were taken. -/
def State.takeAddresses (s : State) (box : List Byte) : Bool × State :=
  let ws := (mailboxRegs.zip (wordsOf ((box.drop 36).take 24))).filter fun e => e.2 != 0
  if ws.isEmpty || s.isPending hstPage then (false, s)
  else
    let s1 := ws.foldl (fun s (e : Nat × Word) => s.writeStaged e.1 0xFFFFFFFF e.2 0) s
    let ok := s1.agree hstPage = 0
    (ok, s1.acceptApply hstPage 0)

/-- TAG_COMMISSION: at start and on each entry to LOCAL mode; it acts only where no mailbox block is held (R463). -/
def execTagCommission (s : State) : Out :=
  let held := match s.svcTag.hold with
    | some h => decide (64 ≤ h.1) && decide (h.1 < 80)
    | none => false
  if !s.svcTag.mbxDue then .next s
  else
    let s0 := s.setTagSt { s.svcTag with mbxDue := false }
    let box := s0.mailbox
    if held = true ∨ ofBytes (box.take 4) ≠ 0x42584D43 then .next s0
    else if crc32 (box.take 252) ≠ w32 (ofBytes (box.drop 252)) then .next (s0.setRegB Reg.TAG_STAT 2 true)
    else
      let secret := (box.drop 4).take 32
      let wanted := secret.any fun b => b != 0
      let taken := wanted && (s0.credEmpty 0 || s0.localMode)
      let s1 := if taken then s0.takeSecret secret else s0
      let r := s1.takeAddresses box
      let s2 := r.2.setTagSt { r.2.svcTag with mem := msetList 0 mailboxAt (List.replicate 256 0) r.2.svcTag.mem }
      .next (s2.emit Ev.TAG_COMMISSION 0 [w32 (taken.toNat + 2 * r.1.toNat + 4 * (wanted && !taken).toNat)])

end Sys2Proof.Machine
end

