-- ==== Sys2Proof/Machine/Integer.lean ====
section
/-! DEFINITION. The integer instructions (R73, R74 and Table 2.7 of 02_mbarov_isa.md). -/
namespace Sys2Proof.Machine

/-- ADD: gd = ga + gb, with Z N C V. -/
def execAdd (l : Nat) (d a b : Reg) (s : State) : Out :=
  .next (s.compute l (encodeInstr (.add l d a b)) 1 fun L => L.addRes d (L.rg a) (L.rg b))

/-- SUB: gd = ga - gb, with Z N C V. -/
def execSub (l : Nat) (d a b : Reg) (s : State) : Out :=
  .next (s.compute l (encodeInstr (.sub l d a b)) 1 fun L => L.subRes d (L.rg a) (L.rg b))

/-- AND: gd = ga & gb. -/
def execAndI (l : Nat) (d a b : Reg) (s : State) : Out :=
  .next (s.compute l (encodeInstr (.andI l d a b)) 1 fun L => L.intRes d (L.rg a &&& L.rg b))

/-- OR: gd = ga | gb. -/
def execOrI (l : Nat) (d a b : Reg) (s : State) : Out :=
  .next (s.compute l (encodeInstr (.orI l d a b)) 1 fun L => L.intRes d (L.rg a ||| L.rg b))

/-- XOR: gd = ga ^ gb. -/
def execXor (l : Nat) (d a b : Reg) (s : State) : Out :=
  .next (s.compute l (encodeInstr (.xor l d a b)) 1 fun L => L.intRes d (L.rg a ^^^ L.rg b))

/-- SHL: gd = ga shifted left by gb[4:0]. -/
def execShl (l : Nat) (d a b : Reg) (s : State) : Out :=
  .next (s.compute l (encodeInstr (.shl l d a b)) 1 fun L => L.intRes d (L.rg a <<< ((L.rg b).toNat % 32)))

/-- SHR: gd = ga shifted right by gb[4:0], zeros in. -/
def execShr (l : Nat) (d a b : Reg) (s : State) : Out :=
  .next (s.compute l (encodeInstr (.shr l d a b)) 1 fun L => L.intRes d (L.rg a >>> ((L.rg b).toNat % 32)))

/-- SAR: gd = ga shifted right by gb[4:0], sign in. -/
def execSar (l : Nat) (d a b : Reg) (s : State) : Out :=
  .next (s.compute l (encodeInstr (.sar l d a b)) 1 fun L => L.intRes d ((L.rg a).sshiftRight ((L.rg b).toNat % 32)))

/-- SLT: gd = 1 where ga is less than gb, signed. -/
def execSlt (l : Nat) (d a b : Reg) (s : State) : Out :=
  .next (s.compute l (encodeInstr (.slt l d a b)) 1 fun L => L.intRes d (if (L.rg a).slt (L.rg b) then 1 else 0))

/-- SLTU: gd = 1 where ga is less than gb, unsigned. -/
def execSltu (l : Nat) (d a b : Reg) (s : State) : Out :=
  .next (s.compute l (encodeInstr (.sltu l d a b)) 1 fun L => L.intRes d (if (L.rg a).ult (L.rg b) then 1 else 0))

/-- MUL: the low 32 bits of the product. -/
def execMul (l : Nat) (d a b : Reg) (s : State) : Out :=
  .next (s.compute l (encodeInstr (.mul l d a b)) 2 fun L => L.intRes d (L.rg a * L.rg b))

/-- MULH: the high 32 bits of the signed product. -/
def execMulh (l : Nat) (d a b : Reg) (s : State) : Out :=
  .next (s.compute l (encodeInstr (.mulh l d a b)) 2 fun L => L.intRes d (wOfInt ((L.rg a).toInt * (L.rg b).toInt / 0x100000000)))

/-- MULHU: the high 32 bits of the unsigned product. -/
def execMulhu (l : Nat) (d a b : Reg) (s : State) : Out :=
  .next (s.compute l (encodeInstr (.mulhu l d a b)) 2 fun L => L.intRes d (w32 ((L.rg a).toNat * (L.rg b).toNat / 0x100000000)))

/-- DIV: signed quotient, truncated toward zero (R74). -/
def execDiv (l : Nat) (d a b : Reg) (s : State) : Out :=
  .next (s.compute l (encodeInstr (.div l d a b)) 18 fun L => L.divRes d (divS (L.rg a) (L.rg b)))

/-- DIVU: unsigned quotient (R74). -/
def execDivu (l : Nat) (d a b : Reg) (s : State) : Out :=
  .next (s.compute l (encodeInstr (.divu l d a b)) 18 fun L => L.divRes d (divU (L.rg a) (L.rg b)))

/-- REM: signed remainder (R74). -/
def execRem (l : Nat) (d a b : Reg) (s : State) : Out :=
  .next (s.compute l (encodeInstr (.rem l d a b)) 18 fun L => L.divRes d (remS (L.rg a) (L.rg b)))

/-- REMU: unsigned remainder (R74). -/
def execRemu (l : Nat) (d a b : Reg) (s : State) : Out :=
  .next (s.compute l (encodeInstr (.remu l d a b)) 18 fun L => L.divRes d (remU (L.rg a) (L.rg b)))

/-- MIN: signed minimum. -/
def execMin (l : Nat) (d a b : Reg) (s : State) : Out :=
  .next (s.compute l (encodeInstr (.min l d a b)) 1 fun L => L.intRes d (if (L.rg b).slt (L.rg a) then L.rg b else L.rg a))

/-- MAX: signed maximum. -/
def execMax (l : Nat) (d a b : Reg) (s : State) : Out :=
  .next (s.compute l (encodeInstr (.max l d a b)) 1 fun L => L.intRes d (if (L.rg a).slt (L.rg b) then L.rg b else L.rg a))

/-- ADDI: gd = ga + sext(imm15), with Z N C V. -/
def execAddi (l : Nat) (d a : Reg) (imm : BitVec 15) (s : State) : Out :=
  .next (s.compute l (encodeInstr (.addi l d a imm)) 1 fun L => L.addRes d (L.rg a) (sxImm imm))

/-- ANDI: gd = ga & zext(imm15). -/
def execAndi (l : Nat) (d a : Reg) (imm : BitVec 15) (s : State) : Out :=
  .next (s.compute l (encodeInstr (.andi l d a imm)) 1 fun L => L.intRes d (L.rg a &&& zxImm imm))

/-- ORI: gd = ga | zext(imm15). -/
def execOri (l : Nat) (d a : Reg) (imm : BitVec 15) (s : State) : Out :=
  .next (s.compute l (encodeInstr (.ori l d a imm)) 1 fun L => L.intRes d (L.rg a ||| zxImm imm))

/-- XORI: gd = ga ^ zext(imm15). -/
def execXori (l : Nat) (d a : Reg) (imm : BitVec 15) (s : State) : Out :=
  .next (s.compute l (encodeInstr (.xori l d a imm)) 1 fun L => L.intRes d (L.rg a ^^^ zxImm imm))

/-- SLTI: gd = 1 where ga is less than sext(imm15), signed. -/
def execSlti (l : Nat) (d a : Reg) (imm : BitVec 15) (s : State) : Out :=
  .next (s.compute l (encodeInstr (.slti l d a imm)) 1 fun L => L.intRes d (if (L.rg a).slt (sxImm imm) then 1 else 0))

/-- SHLI: gd = ga shifted left by n. -/
def execShli (l : Nat) (d a : Reg) (n : BitVec 5) (s : State) : Out :=
  .next (s.compute l (encodeInstr (.shli l d a n)) 1 fun L => L.intRes d (L.rg a <<< n.toNat))

/-- SHRI: gd = ga shifted right by n, zeros in. -/
def execShri (l : Nat) (d a : Reg) (n : BitVec 5) (s : State) : Out :=
  .next (s.compute l (encodeInstr (.shri l d a n)) 1 fun L => L.intRes d (L.rg a >>> n.toNat))

/-- SARI: gd = ga shifted right by n, sign in. -/
def execSari (l : Nat) (d a : Reg) (n : BitVec 5) (s : State) : Out :=
  .next (s.compute l (encodeInstr (.sari l d a n)) 1 fun L => L.intRes d ((L.rg a).sshiftRight n.toNat))

/-- LUI: gd = imm20 shifted left by 12. -/
def execLui (l : Nat) (d : Reg) (imm : BitVec 20) (s : State) : Out :=
  .next (s.compute l (encodeInstr (.lui l d imm)) 1 fun L => L.intRes d (imm.setWidth 32 <<< 12))

end Sys2Proof.Machine
end

