-- ==== Sys2Proof/Machine/Memory.lean ====
section
/-! DEFINITION. Loads, stores and the instructions that reach memory beside the data segment: posted stores, SKIM and FIR (R35 to
R40 of 01_architecture.md; R64 to R67, R79 to R81, R91 to R93 of 02_mbarov_isa.md; R124, R125 of 03_control_laws.md). -/
namespace Sys2Proof.Machine

/-! ### Areas (Table 2.4) -/

/-- Where an access of code lies. -/
inductive Area where
  | code
  | data
  | view
  | shared
  | regs
  | nowhere
  deriving DecidableEq, Repr

/-- The area that holds all of an access of `size` bytes. -/
def State.areaOf (s : State) (L : Loop) (a size : Nat) : Area :=
  if a + size ≤ L.codeSize then .code
  else if L.inData a size then .data
  else if (0x10000000 ≤ a ∧ a + size ≤ 0x20000000) ∨ (0x30000000 ≤ a ∧ a + size ≤ 0x40000000) then .view
  else if (s.cell L.cell).inShared a size then .shared
  else if 0x40000000 ≤ a then .regs
  else .nowhere

/-- A count of Table 2.6: any value from the lower to the upper one (R71). -/
def State.count (s : State) (lo hi : Nat) : Nat := lo + s.free % (hi - lo + 1)

/-- The count of a load from cell shared data at an offset: from SRAM or from LPDDR5. -/
def State.sharedCount (s : State) (c off : Nat) : Nat :=
  if (s.cell c).sharedMem off = 1 then s.count 12 40 else s.count 60 900

/-- What a memory instruction comes to: it retires, it traps, or its pair has stopped. -/
inductive MemRes where
  | done (s : State)
  | trap (s : State) (t : Trap) (cycles : Nat)
  | gone (s : State)
  deriving DecidableEq, Repr

/-- One memory instruction of a loop, with the checks that come before every instruction (R38, R102). -/
def State.runMem (s : State) (l : Nat) (word : Word) (act : State → MemRes) : State :=
  let L := s.loop l
  if !L.executing then s
  else if s.overdue L then s.takeDeadline l
  else if L.codeSize ≤ L.pc then s.takeTrap l ⟨trapAccess, 1, L.pc⟩ false 0
  else match act s with
    | .done t => t
    | .trap t x n => t.takeTrap l x (s.late L n) word
    | .gone t => t

/-- An instruction retires: the loop's registers change, its PC moves past it and its cycles count. -/
def State.retire (s : State) (l cycles : Nat) (f : Loop → Loop) : State :=
  s.stepLoop l fun L => { f L with cycles := L.cycles + cycles }

/-! ### Posted stores (R67, R81) -/

/-- The stores that a loop left in the queues of pairs it ran on before are accepted, so that its stores reach memory in program
order (R67). -/
def State.settle (s : State) (l : Nat) : State :=
  (allPairs.filter fun p => p != (s.loop l).pair).foldl (fun s p =>
    (List.range (s.pair p).queue.length).foldl
      (fun s _ => if (s.pair p).queue.any fun x => x.loop == l then s.acceptPosted p else s) s) s

/-- A store to cell shared data posted; a store that finds 16 posted waits until the first of them is accepted. -/
def State.post (s : State) (l off : Nat) (bs : List Byte) : State :=
  let L := s.loop l
  let s0 := s.settle l
  let s1 := if 16 ≤ (s0.pair L.pair).queue.length then s0.acceptPosted L.pair else s0
  s1.setPair L.pair { s1.pair L.pair with
    queue := (s1.pair L.pair).queue ++ [⟨l, L.cell, (s1.cell L.cell).inc, off, bs⟩] }

/-- A cell as a loop sees it: with the loop's own posted stores in place (R67). -/
def State.seen (s : State) (l : Nat) : Cell :=
  (s.postedBy l).foldl (fun (c : Cell) x => c.writeShared x.offset x.bytes) (s.cell (s.loop l).cell)

/-- POSTED_STORE_ACCEPTED (R67). -/
def execPostedStoreAccepted (p : Nat) (s : State) : Out := .next (if 32 ≤ p then s else s.acceptPosted p)

/-! ### Loads -/

/-- `size` bytes of a byte memory as a word. -/
def memBytes (m : SMap Byte) (a size : Nat) : Word := w32 (ofBytes (mgetList 0 a size m))

/-- The part of a word that a view read of `size` bytes delivers. -/
def partOf (w : Word) (a size : Nat) : Word := w32 (w.toNat / 2 ^ (8 * (a % 4)) % 2 ^ (8 * size))

/-- A load from local memory (R35): a double-bit error is a mismatch of the pair. -/
def State.loadLocal (s : State) (l a : Nat) (e : Ecc) (v : Word) (put : Word → Loop → Loop) : MemRes :=
  let p := (s.loop l).pair
  match e with
  | .ok => .done (s.retire l 2 (put v))
  | .single => .done ((s.eccCorrected 0 a (some p)).retire l 2 (put v))
  | .double => .gone (s.mismatch p)

/-- Whether a load of a loop at a shared-data address reads a word with an uncorrectable error. -/
def State.sharedBad (s : State) (l a : Nat) : Bool := (s.seen l).badWords.contains ((a - sharedBase) / 4)

/-- ECC_UNCORRECTABLE of a load from cell shared data (R35): the memory, the address and the cell, with no field-image line. -/
def State.eccLoad (s : State) (c a : Nat) : State :=
  s.emit Ev.ECC_UNCORRECTABLE c [w32 ((s.cell c).sharedMem (a - sharedBase)), w32 a, w32 c, 0xFFFFFFFF, 0, 0]

/-- A load from cell shared data (R35): a word with an uncorrectable error raises the bus-error trap, and each load is recorded. -/
def State.loadShared (s : State) (l a size : Nat) (e : Ecc) (put : Word → Loop → Loop) : MemRes :=
  let c := (s.loop l).cell
  let n := s.sharedCount c (a - sharedBase)
  let s1 := s.sharedEcc c a e
  if s1.sharedBad l a then .trap ((s1.eccLoad c a).draw) ⟨trapBus, 0, a⟩ n
  else .done ((s1.draw).retire l n (put (memBytes (s1.seen l).shared (a - sharedBase) size)))

/-- A load through a view (R30, R37). -/
def State.loadView (s : State) (l a size : Nat) (e : Ecc) (put : Word → Loop → Loop) : MemRes :=
  let c := (s.loop l).cell
  let s1 := match s.viewKey c a with
    | none => s
    | some k => s.fiEcc k c none e
  .done ((s1.draw).retire l (s.count 80 1200) (put (partOf (s1.viewWord c a) a size)))

/-- A register access by a loop that is refused (R14, R36, R40). -/
def State.regTrap (s : State) (l a size sub : Nat) : Option MemRes :=
  let c := (s.loop l).cell
  if size ≠ 4 ∨ a % 4 ≠ 0 ∨ !inExtent a then some (.trap s ⟨trapAccess, sub, a⟩ 20)
  else if !s.pageGranted c a then some (.trap (s.pageDenied c a) ⟨trapAccess, 4, a⟩ 20)
  else none

/-- Whether a loop may reach every byte of an access below the register area by a load. -/
def State.readable (s : State) (L : Loop) (a size : Nat) : Bool :=
  (List.range size).all fun i =>
    let x := s.areaOf L (a + i) 1
    x != .nowhere && x != .regs

/-- A load of `size` bytes (Table 2.9): access trap, then alignment trap, then the read (R66, R103).  `put` writes gd. -/
def State.load (s : State) (l : Nat) (word : Word) (a size : Nat) (e : Ecc) (put : Word → Loop → Loop) : State :=
  s.runMem l word fun s =>
    let L := s.loop l
    let area := s.areaOf L a size
    if area = .regs then
      match s.regTrap l a size 2 with
      | some r => r
      | none =>
        let n := s.count 20 400
        let s1 := (s.draw).regRead (.loop l) a
        .done (s1.retire l n (put s1.answer))
    else if !s.readable L a size then .trap s ⟨trapAccess, 2, a⟩ 2
    else if a % size ≠ 0 then .trap s ⟨trapAlign, 0, a⟩ 2
    else match area with
      | .code => s.loadLocal l a e (memBytes L.code a size) put
      | .data => s.loadLocal l a e (memBytes L.data (a - dataBase) size) put
      | .shared => s.loadShared l a size e put
      | _ => s.loadView l a size e put

/-- The effective address of a load or store (R79). -/
def State.effAddr (s : State) (l : Nat) (a : Reg) (imm : BitVec 15) : Nat := ((s.loop l).rg a + sxImm imm).toNat

/-- LDW, LDH, LDHU, LDB, LDBU (Table 2.9). -/
def execLdw (l : Nat) (d a : Reg) (imm : BitVec 15) (ecc : Ecc) (s : State) : Out :=
  .next (s.load l (encodeInstr (.ldw l d a imm ecc)) (s.effAddr l a imm) 4 ecc fun v L => L.wg d v)

def execLdh (l : Nat) (d a : Reg) (imm : BitVec 15) (ecc : Ecc) (s : State) : Out :=
  .next (s.load l (encodeInstr (.ldh l d a imm ecc)) (s.effAddr l a imm) 2 ecc fun v L => L.wg d (wOfInt (sext 16 v.toNat)))

def execLdhu (l : Nat) (d a : Reg) (imm : BitVec 15) (ecc : Ecc) (s : State) : Out :=
  .next (s.load l (encodeInstr (.ldhu l d a imm ecc)) (s.effAddr l a imm) 2 ecc fun v L => L.wg d v)

def execLdb (l : Nat) (d a : Reg) (imm : BitVec 15) (ecc : Ecc) (s : State) : Out :=
  .next (s.load l (encodeInstr (.ldb l d a imm ecc)) (s.effAddr l a imm) 1 ecc fun v L => L.wg d (wOfInt (sext 8 v.toNat)))

def execLdbu (l : Nat) (d a : Reg) (imm : BitVec 15) (ecc : Ecc) (s : State) : Out :=
  .next (s.load l (encodeInstr (.ldbu l d a imm ecc)) (s.effAddr l a imm) 1 ecc fun v L => L.wg d v)

/-! ### Stores -/

/-- A store to the data segment. -/
def State.storeLocal (s : State) (l a : Nat) (e : Ecc) (bs : List Byte) : MemRes :=
  let p := (s.loop l).pair
  let write (L : Loop) : Loop := { L with data := msetList 0 (a - dataBase) bs L.data }
  match e with
  | .ok => .done (s.retire l 1 write)
  | .single => .done ((s.eccCorrected 0 a (some p)).retire l 1 write)
  | .double => .gone (s.mismatch p)

/-- A store to cell shared data (R35, R67): posted, whatever the word holds. -/
def State.storeShared (s : State) (l a : Nat) (e : Ecc) (bs : List Byte) : MemRes :=
  let L := s.loop l
  let off := a - sharedBase
  let x := s.cell L.cell
  let n := if 16 ≤ (s.pair L.pair).queue.length then s.count 1 (if x.sharedMem off = 1 then 40 else 900) else 1
  .done ((((s.sharedEcc L.cell a e).post l off bs).draw).retire l n id)

/-- A store of `size` bytes (Table 2.9).  A store to a register waits for the stores posted before it (R67); of a write to HWK_SUBMIT
`e` is what the arbiter's read of the descriptor finds (log 103). -/
def State.store (s : State) (l : Nat) (word : Word) (a size : Nat) (e : Ecc) (v : Word) : State :=
  s.runMem l word fun s =>
    let L := s.loop l
    let area := s.areaOf L a size
    let meets (x : Area) : Bool := (List.range size).any fun i => s.areaOf L (a + i) 1 == x
    let bs := bytesOf size v.toNat
    if area = .regs then
      match s.regTrap l a size 3 with
      | some r => r
      | none =>
        let s1 := (((s.settle l).drainPosted L.pair).draw).retire l (s.count 20 400) id
        .done ((if a = Reg.HWK_SUBMIT then s1.descEcc L.cell v [(v.toNat / 64 * 64, e)] else s1).regWrite (.loop l) a v)
    else if meets .view then .trap s ⟨trapAccess, 7, a⟩ 1
    else if meets .nowhere || meets .code || meets .regs then .trap s ⟨trapAccess, 3, a⟩ 1
    else if a % size ≠ 0 then .trap s ⟨trapAlign, 0, a⟩ 1
    else if area = .data then s.storeLocal l a e bs
    else s.storeShared l a e bs

/-- STW, STH, STB (Table 2.9). -/
def execStw (l : Nat) (d a : Reg) (imm : BitVec 15) (ecc : Ecc) (s : State) : Out :=
  .next (s.store l (encodeInstr (.stw l d a imm ecc)) (s.effAddr l a imm) 4 ecc ((s.loop l).rg d))

def execSth (l : Nat) (d a : Reg) (imm : BitVec 15) (ecc : Ecc) (s : State) : Out :=
  .next (s.store l (encodeInstr (.sth l d a imm ecc)) (s.effAddr l a imm) 2 ecc ((s.loop l).rg d))

def execStb (l : Nat) (d a : Reg) (imm : BitVec 15) (ecc : Ecc) (s : State) : Out :=
  .next (s.store l (encodeInstr (.stb l d a imm ecc)) (s.effAddr l a imm) 1 ecc ((s.loop l).rg d))

/-! ### Register accesses without an answer (R72) -/

/-- The address of the register access that an instruction word makes for a loop, where it is one that reaches a block. -/
def State.regAccess (s : State) (l : Nat) (word : Word) : Option Nat :=
  let reg (a : Nat) : Option Nat :=
    if 0x40000000 ≤ a ∧ a % 4 = 0 ∧ inExtent a ∧ s.pageGranted (s.loop l).cell a then some a else none
  match decodeMbarov l word with
  | some (.ldw _ _ a imm _) => reg (s.effAddr l a imm)
  | some (.stw _ _ a imm _) => reg (s.effAddr l a imm)
  | _ => none

/-- 4,096 CLK_FAB cycles of 750 MHz (Table 15.1) in whole CLK_CORE cycles, and in ns; both clocks are CLK_SAFE during a relock. -/
def State.answerCycles (s : State) : Nat := if s.onSafe then 4096 else (4096 * s.coreMHz + 749) / 750
def State.answerNs (s : State) : Nat := if s.onSafe then 163840 else 5461

/-- REGISTER_ACCESS_TIMEOUT: a load or store in the register area that gets no answer ends with the bus-error trap (R72).  `word` is the
access's instruction word and `addr` its address.  The access has been in progress for 4,096 CLK_FAB cycles: where the deadline had
passed before it began, the deadline trap is taken; where it passed meanwhile, the record carries DL 1 (R102). -/
def execRegisterAccessTimeout (l : Nat) (word : Word) (addr : Nat) (s : State) : Out :=
  let L := s.loop l
  if !L.executing || decide (L.codeSize ≤ L.pc) || s.regAccess l word != some addr then .next s
  else if s.overdueAt L (s.dtb - s.answerNs) then .next (s.takeDeadline l)
  else .next (s.takeTrap l ⟨trapBus, 0, addr⟩
    (s.overdue L || decide (L.decl.wcet ≤ L.cycles + s.answerCycles)) word)

/-! ### SKIM (R124, R125) -/

/-- The memory array's word `i` at address `ma`: in the data segment, else in cell shared data. -/
def State.skimWord (s : State) (l ma n i : Nat) : Word :=
  let L := s.loop l
  if L.inData ma (4 * n) then L.dw (ma + 4 * i) else (s.seen l).sharedWord (ma + 4 * i - sharedBase)

/-- The memory array's word `i` written; a store to cell shared data is posted. -/
def State.skimPut (s : State) (l ma n i : Nat) (v : Word) : State :=
  let L := s.loop l
  if L.inData ma (4 * n) then s.setLoop l (L.setDw (ma + 4 * i) v) else s.post l (ma + 4 * i - sharedBase) (bytesOf 4 v.toNat)

/-- Values out of range in a Skim block (Table 3.10). -/
def skimBad (n pos lead : Nat) (kl fg : Word) : Bool :=
  decide (n < 4) || decide (65536 < n) || decide (n ≤ pos) || decide (n ≤ lead) || !fpIsFinite kl || fpIsNaN fg ||
    fpLe fg fpZero || fpGt fg fpOne

/-- What the memory array learns at a position: FG times what it holds plus KL times the error (R125). -/
def skimLearn (fg kl m e : Word) : FpM Word := do
  let t1 ← fmul fg m
  let t2 ← fmul kl e
  fadd t1 t2

/-- What SKIM's read of its array at an address finds in memory (R35); none where the pair stops. -/
def State.skimEcc (s : State) (l a : Nat) (local' : Bool) (e : Ecc) : Option State :=
  let L := s.loop l
  if !local' then some (s.sharedEcc L.cell a e)
  else match e with
    | .ok => some s
    | .single => some (s.eccCorrected 0 a (some L.pair))
    | .double => none

/-- The reads of SKIM's array in order; they end where the pair stops. -/
def State.skimReads (s : State) (l : Nat) (local' : Bool) : List (Nat × Ecc) → Except State State
  | [] => .ok s
  | (a, e) :: t => match s.skimEcc l a local' e with
    | none => .error s
    | some s1 => s1.skimReads l local' t

/-- SKIM (R125, R130).  A word of cell shared data that it reads with an
uncorrectable error raises the bus-error trap as a load of it does (log 13). -/
def execSkim (l : Nat) (d a b : Reg) (m : SkimOp) (s : State) : Out :=
  .next (s.runMem l (encodeInstr (.skim l d a b m)) fun s =>
    let L := s.loop l
    let at' := (L.rg a).toNat
    let e := L.rg b
    match L.checkBlocks [(at', 32, 32)] with
    | some t => .trap s t 16
    | none =>
      let n := (L.dw at').toNat
      let pos := (L.dw (at' + 4)).toNat
      let lead := (L.dw (at' + 8)).toNat
      let kl := L.dw (at' + 12)
      let fg := L.dw (at' + 16)
      let ma := (L.dw (at' + 20)).toNat
      let st := L.dw (at' + 24)
      let local' := L.inData ma (4 * n)
      if skimBad n pos lead kl fg then
        .done (s.retire l 16 fun L => ((L.setDw (at' + 24) (setBit (st &&& 0x7) 2 true)).wg d 0).stick flNV)
      else if !local' && !(s.cell L.cell).inShared ma (4 * n) then .trap s ⟨trapAccess, 8, ma⟩ 16
      else if ma % 4 ≠ 0 then .trap s ⟨trapAlign, 0, ma⟩ 16
      else
        let played := ma + 4 * ((pos + lead) % n)
        let learns := m.learn && !fpIsNaN e
        let cost := if local' then 16 else 16 + s.sharedCount L.cell (played - sharedBase)
        match s.skimReads l local' ((played, m.ecc) :: if learns then [(ma + 4 * pos, m.learnEcc)] else []) with
        | .error s0 => .gone (s0.mismatch L.pair)
        | .ok s0 =>
        match (if local' then [] else played :: if learns then [ma + 4 * pos] else []).find? (s0.sharedBad l) with
        | some x => .trap ((s0.eccLoad L.cell x).draw) ⟨trapBus, 0, x⟩ cost
        | none =>
        let c := s0.skimWord l ma n ((pos + lead) % n)
        let r := fpRun (skimLearn fg kl (s0.skimWord l ma n pos) e)
        let s1 := if learns then s0.skimPut l ma n pos r.1 else s0
        let s2 := if local' then s1 else s1.draw
        .done (s2.retire l cost fun L =>
          let L1 := (L.setDw (at' + 4) (w32 ((pos + 1) % n))).setDw (at' + 24) (w32 (learns.toNat + 2 * (m.learn && fpIsNaN e).toNat))
          (L1.wg d c).stick (if learns then r.2 else 0)))

/-! ### FIR (R91 to R93) -/

/-- The entries of a FIR region (Table 2.14). -/
def firRange (region : Nat) : Nat := if region = 0 then 0x100000 else if region = 1 then 192 else 512

/-- The first word of a line, and whether the cell is granted its entry. -/
def State.firLine (s : State) (c region ga line : Nat) : Nat × Bool :=
  if region = 0 then (fiNode ga + 16 * line, s.nodeGranted c ga)
  else if region = 1 then (fiFe ga + 16 * line, s.feGranted c ga)
  else (fiCol (ga / 32) + 128 * (ga % 32) + 16 * line, s.colGranted c (ga / 32))

/-- FIR (R91 to R93): the line is read once, with what the DRAM read finds. -/
def execFir (l : Nat) (d a b : Reg) (m : BitVec 5) (ecc : Ecc) (s : State) : Out :=
  .next (s.runMem l (encodeInstr (.fir l d a b m ecc)) fun s =>
    let L := s.loop l
    let region := m.toNat / 8
    let ga := (L.rg a).toNat
    let gb := (L.rg b).toNat
    if region = 3 then .trap s ⟨trapIllegal, 0, 0⟩ 1
    else if firRange region ≤ ga then .trap s ⟨trapAccess, 8, ga⟩ 40
    else if !L.inData gb 64 then .trap s ⟨trapAccess, 8, gb⟩ 40
    else if gb % 64 ≠ 0 then .trap s ⟨trapAlign, 0, gb⟩ 40
    else
      let k := s.firLine L.cell region ga (m.toNat % 8)
      let s1 := if k.2 then s.fiEcc k.1 L.cell none ecc else s
      let ws := (List.range 16).map fun i => if k.2 then s1.fiRead (k.1 + i) else 0
      let gd : Word := if !k.2 then 0 else if s1.isMarked k.1 then 3 else 1
      .done ((s1.draw).retire l (40 + s.count 80 1200) fun L => ((L.setDws gb ws).wg d gd).setFlag flagSTL (gd != 1)))

end Sys2Proof.Machine
end

