-- ==== Sys2Proof/Machine/Stepping.lean ====
section
/-! DEFINITION. Steps of the DTB and Sync messages (R149, R186, R253, R304, R410, R443, R444): instants that measure an elapsed time
move with the DTB, instants that are multiples of a period are taken anew in the new time. -/
namespace Sys2Proof.Machine

/-! ### Instants that move with the DTB -/

/-- An instant moved by a step of `d` ns. -/
def mv (d : Int) (t : Nat) : Nat := ((t : Int) + d).toNat
def mvI (d : Int) (t : Int) : Int := t + d
def mvO (d : Int) (t : Option Nat) : Option Nat := t.map (mv d)
def mvM (d : Int) (m : SMap Nat) : SMap Nat := m.map fun (e : Nat × Nat) => (e.1, mv d e.2)

/-- The values of a map changed. -/
def mapVals {α : Type} (f : α → α) (m : SMap α) : SMap α := m.map fun (e : Nat × α) => (e.1, f e.2)

def FeChan.moved (d : Int) (x : FeChan) : FeChan :=
  { x with
    slot := x.slot.map fun sl => { sl with start := mv d sl.start, due := mv d sl.due }
    scanStart := mvO d x.scanStart, freeAt := mv d x.freeAt }

def Slot.moved (d : Int) (x : Slot) : Slot :=
  { x with next := x.next.map fun v => { v with arrived := mv d v.arrived }, released := mvO d x.released }

def Col.moved (d : Int) (x : Col) : Col :=
  { x with holdAt := mv d x.holdAt, initAt := mv d x.initAt, written := x.written.map (mvO d) }

def Trunk.moved (d : Int) (x : Trunk) : Trunk :=
  { x with
    sweep := x.sweep.map fun w => { w with stop := mv d w.stop }
    quietEnd := mv d x.quietEnd, offAt := mv d x.offAt, recovAt := mv d x.recovAt
    census := x.census.map fun c => { c with sof := mv d c.sof, active := mvO d c.active } }

def CanPort.moved (d : Int) (x : CanPort) : CanPort := { x with offAt := mv d x.offAt, recovAt := mv d x.recovAt, selAt := mv d x.selAt }

def SvChan.moved (d : Int) (x : SvChan) : SvChan :=
  { x with
    cmdAt := mv d x.cmdAt, start := mv d x.start, waitTill := mvO d x.waitTill, holdAt := mvI d x.holdAt
    shortAt := mvO d x.shortAt }

def SvSt.moved (d : Int) (x : SvSt) : SvSt :=
  { x with
    chans := mapVals (SvChan.moved d) x.chans
    banks := mapVals (fun b => { b with nextTry := mv d b.nextTry }) x.banks
    hicAt := mv d x.hicAt }

def FanChan.moved (d : Int) (x : FanChan) : FanChan :=
  { x with
    next := x.next.map fun e => (mv d e.1, e.2)
    holdAt := x.holdAt.map (mvI d), kick := mvO d x.kick, aboveAt := mv d x.aboveAt, lastKick := mv d x.lastKick
    badSince := mvO d x.badSince, goodSince := mvO d x.goodSince, kickDue := mv d x.kickDue
    lastPulse := mvO d x.lastPulse, outOff := mvO d x.outOff, supOff := mvO d x.supOff, reloadAt := mv d x.reloadAt }

def FieldChan.moved (d : Int) (x : FieldChan) : FieldChan :=
  { x with
    reloadAt := mv d x.reloadAt, onAt := mv d x.onAt, smpAt := mv d x.smpAt, holdAt := mvI d x.holdAt, waitTill := mvO d x.waitTill
    tFirst := mv (d / 8) x.tFirst, tLast := mv (d / 8) x.tLast, latest := mvO (d / 8) x.latest, lastGate := mv d x.lastGate }

def DioSt.moved (d : Int) (now : Nat) (x : DioSt) : DioSt :=
  { x with
    nextDown := (now / 20000 + 1) * 20000
    flight := x.flight.map fun f => { f with start := mv d f.start }
    up := x.up.map fun f => { f with start := mv d f.start }
    lockAt := mv d x.lockAt, lastAt := mv d x.lastAt, regate := mvM d x.regate, rxFrom := mv d x.rxFrom
    field := { x.field with
      checkAt := mv d x.field.checkAt, lastValid := mv d x.field.lastValid, upAt := mv d x.field.upAt
      chans := mapVals (FieldChan.moved d) x.field.chans } }

def Ptp.moved (d : Int) (x : Ptp) : Ptp :=
  { x with annAt := mvO d x.annAt, syncAt := mvO d x.syncAt, reqAt := mvO d x.reqAt, nextReq := mv d x.nextReq }

def HostSt.moved (d : Int) (x : HostSt) : HostSt :=
  { x with
    ptps := mapVals (Ptp.moved d) x.ptps, nextDiag := mvM d x.nextDiag
    fails := mapVals (fun ts => ts.map (mv d)) x.fails, blocked := mvM d x.blocked }

def FaceSt.moved (d : Int) (x : FaceSt) : FaceSt :=
  { x with
    downAt := mvM d x.downAt, upAt := mvM d x.upAt, localAt := mvO d x.localAt, testAt := mvO d x.testAt
    lastPress := mv d x.lastPress, probeAt := mvO d x.probeAt }

def TagSt.moved (d : Int) (x : TagSt) : TagSt :=
  { x with
    hold := x.hold.map fun h => (h.1, h.2.1, mv d h.2.2)
    wired := x.wired.map fun h => (h.1, h.2.1, mv d h.2.2)
    nextStatus := mv d x.nextStatus, nextCheck := mv d x.nextCheck }

def PwrSt.moved (d : Int) (x : PwrSt) : PwrSt :=
  { x with
    dipStart := mv d x.dipStart, dipMinAt := mv d x.dipMinAt, lastLow := mv d x.lastLow, nextRestore := mv d x.nextRestore
    rise := x.rise.map (mvO d), fall := mvO d x.fall, sampleAt := x.sampleAt + d
    field := { x.field with tripAt := mvO d x.field.tripAt, startAt := mvO d x.field.startAt }
    testAt := mvO d x.testAt, testedAt := mvO d x.testedAt, nextVbak := mv d x.nextVbak }

def CtlSt.moved (d : Int) (x : CtlSt) : CtlSt :=
  { x with
    relock := x.relock.map fun r => { r with since := mv d r.since, tried := mv d r.tried }
    beat := mv d x.beat, island := x.island.map fun i => { i with since := mv d i.since }
    nextRetry := mv d x.nextRetry, failAt := mv d x.failAt, relAt := mv d x.relAt }

def RecSt.moved (d : Int) (x : RecSt) : RecSt :=
  { x with
    rlBase := mvM d x.rlBase, flushStart := mv d x.flushStart, lastMarker := mv d x.lastMarker, hoursAt := mv d x.hoursAt
    sets := mapVals (fun n => { n with lastStart := mvO d n.lastStart }) x.sets }

def Session.moved (d : Int) (x : Session) : Session :=
  { x with lastAt := mv d x.lastAt, load := x.load.map fun l => { l with lastData := mv d l.lastData } }

/-- Every instant that measures an elapsed time moved with a step of the DTB. -/
def State.moveInstants (s : State) (d : Int) : State :=
  { s with
    pend := mapVals (fun p => { p with acceptedAt := mv d p.acceptedAt }) s.pend
    pairs := mapVals (fun p => { p with stoppedAt := mv d p.stoppedAt }) s.pairs
    cells := mapVals (fun c => { c with resetAt := mv d c.resetAt }) s.cells
    slots := mapVals (Slot.moved d) s.slots
    placer := { s.placer with
      migs := s.placer.migs.map fun m => { m with since := mv d m.since }
      lastLoadCheck := mv d s.placer.lastLoadCheck }
    hwk := { s.hwk with engines := mapVals (fun e => { e with since := mv d e.since, resetAt := mvO d e.resetAt }) s.hwk.engines }
    fe := { s.fe with chans := mapVals (FeChan.moved d) s.fe.chans, opened := mvM d s.fe.opened }
    col := { s.col with cols := mapVals (Col.moved d) s.col.cols }
    trunks := mapVals (Trunk.moved d) s.trunks, ports := mapVals (CanPort.moved d) s.ports, sv := s.sv.moved d
    fans := mapVals (FanChan.moved d) s.fans, dio := s.dio.moved d s.dtb, host := s.host.moved d, face := s.face.moved d
    svcTag := s.svcTag.moved d, pwr := s.pwr.moved d, ctl := s.ctl.moved d, recd := s.recd.moved d
    rtc := { s.rtc with lastEdge := mv d s.rtc.lastEdge }
    sessions := mapVals (Session.moved d) s.sessions }

/-! ### Instants that are multiples of a period -/

/-- A loop after a step from the instant `old` (R149): its boundaries are those of the new time; a loop whose period 0 had not come
begins it at its next boundary, that of its cascade, and a period 0 that had come lies behind the new time as well. -/
def State.loopStepped (old : Nat) (s : State) (e : Nat × Loop) : State :=
  let L := s.loop e.1
  if L.state = .awaiting ∨ old < L.period0 then
    let at0 := nextBoundary (s.rootPeriod 16 L) s.dtb
    s.setLoop e.1 { L with start := at0, period0 := at0, due := at0, boundary := at0 }
  else
    let at' := nextBoundary L.period s.dtb
    s.setLoop e.1 { L with
      period0 := min L.period0 (periodStart L.period s.dtb), due := min L.due at', boundary := min L.boundary at' }

/-- Frame boundaries, credit windows, updates and averages after a step: one acts at a step forward across several, and after a
step backward the next is the next multiple (R186, R253). -/
def State.multiplesStepped (s : State) : State :=
  let w := max 1 s.window * 10000
  let sec := (s.dtb / 1000000000 + 1) * 1000000000
  { s with
    nextFrame := min s.nextFrame (frameAfter s.dtb)
    hwk := { s.hwk with nextRefill := min s.hwk.nextRefill ((s.dtb / w + 1) * w) }
    col := { s.col with nextUpd := min s.col.nextUpd sec }
    fe := { s.fe with nextAvg := min s.fe.nextAvg sec } }

/-- The DTB stepped to a new value at one tick (R444). -/
def State.stepDtb (s : State) (new : Nat) : State :=
  let s1 := ({ s with dtb := new }).moveInstants ((new : Int) - (s.dtb : Int))
  let s2 := s1.multiplesStepped
  let s3 := s2.liveLoops.foldl (State.loopStepped s.dtb) s2
  let s4 := s3.latStepped.recDtbStep
  (s4.countReg Reg.HST_PTPSTAT 15 0 0xFFFF 1).emit Ev.HST_DTB_STEP 0 (dtbWords s.dtb ++ dtbWords new)

/-! ### Sync messages (R442 to R444) -/

/-- The corrected DTB: rounded to a multiple of 8 ns, modulo 2^64. -/
def corrected (dtb : Nat) (o : Int) : Nat := ((((dtb : Int) - o + 4) / 8 * 8) % (dtbMod : Int)).toNat

/-- The largest rate correction, parts per 10^9 (R443). -/
def rateLimit : Nat := 250000

/-- An offset measured by the disciplining instance: the DTB is stepped, or its rate corrected within the limit; how the correction
follows from the offsets is left open. -/
def State.offset (s : State) (o : Int) : State :=
  let lim : Int := 0x7FFFFFFF
  let s1 := s.setReg Reg.HST_OFFSET (wOfInt (max (-lim) (min lim o)))
  if s1.regB Reg.HST_PTPCFG 31 && decide (s1.regF Reg.HST_PTPCFG 29 0 < o.natAbs) then s1.stepDtb (corrected s1.dtb o)
  else (s1.setReg Reg.HST_RATE (wOfInt ((s1.free % (2 * rateLimit + 1) : Nat) - (rateLimit : Int)))).draw

/-- SYNC_MESSAGE (R442, R443): the DTB of its ingress, the sync interval, preciseOriginTimestamp and correctionField, ns. -/
def execSyncMessage (l ingress interval : Nat) (origin corr : Int) (s : State) : Out :=
  if !s.linkRuns l then .next s
  else
    let x := s.ptp l
    let run := match x.syncAt with
      | some t => if s.dtb ≤ t + 3 * interval then x.run + 1 else 1
      | none => 1
    let s1 := s.ptpMoved l { x with syncAt := some s.dtb, syncInt := interval, run := run }
    .next (if s1.host.disc = some l then s1.offset ((ingress : Int) - (origin + corr + x.delay)) else s1)

end Sys2Proof.Machine
end

