-- ==== Sys2Proof/Machine/Dispatch.lean ====
section
/-! DEFINITION. The dispatch of a command to its meaning, one arm per constructor. -/
namespace Sys2Proof.Machine

def exec (i : Instr) (s : State) : Host.Outcome State Fault Refusal :=
  match i with
  | .registerWrite w a v => Sys2Proof.Machine.execRegisterWrite w a v s
  | .apply w page => Sys2Proof.Machine.execApply w page s
  | .discard w page => Sys2Proof.Machine.execDiscard w page s
  | .applyUnknownCmd w page cmd => Sys2Proof.Machine.execApplyUnknownCmd w page cmd s
  | .applyTakesEffect page => Sys2Proof.Machine.execApplyTakesEffect page s
  | .frameBoundary => Sys2Proof.Machine.execFrameBoundary s
  | .periodBoundary l => Sys2Proof.Machine.execPeriodBoundary l s
  | .loopDispatch l => Sys2Proof.Machine.execLoopDispatch l s
  | .add l d a b => Sys2Proof.Machine.execAdd l d a b s
  | .sub l d a b => Sys2Proof.Machine.execSub l d a b s
  | .andI l d a b => Sys2Proof.Machine.execAndI l d a b s
  | .orI l d a b => Sys2Proof.Machine.execOrI l d a b s
  | .xor l d a b => Sys2Proof.Machine.execXor l d a b s
  | .shl l d a b => Sys2Proof.Machine.execShl l d a b s
  | .shr l d a b => Sys2Proof.Machine.execShr l d a b s
  | .sar l d a b => Sys2Proof.Machine.execSar l d a b s
  | .slt l d a b => Sys2Proof.Machine.execSlt l d a b s
  | .sltu l d a b => Sys2Proof.Machine.execSltu l d a b s
  | .mul l d a b => Sys2Proof.Machine.execMul l d a b s
  | .mulh l d a b => Sys2Proof.Machine.execMulh l d a b s
  | .mulhu l d a b => Sys2Proof.Machine.execMulhu l d a b s
  | .div l d a b => Sys2Proof.Machine.execDiv l d a b s
  | .divu l d a b => Sys2Proof.Machine.execDivu l d a b s
  | .rem l d a b => Sys2Proof.Machine.execRem l d a b s
  | .remu l d a b => Sys2Proof.Machine.execRemu l d a b s
  | .min l d a b => Sys2Proof.Machine.execMin l d a b s
  | .max l d a b => Sys2Proof.Machine.execMax l d a b s
  | .addi l d a imm => Sys2Proof.Machine.execAddi l d a imm s
  | .andi l d a imm => Sys2Proof.Machine.execAndi l d a imm s
  | .ori l d a imm => Sys2Proof.Machine.execOri l d a imm s
  | .xori l d a imm => Sys2Proof.Machine.execXori l d a imm s
  | .shli l d a n => Sys2Proof.Machine.execShli l d a n s
  | .shri l d a n => Sys2Proof.Machine.execShri l d a n s
  | .sari l d a n => Sys2Proof.Machine.execSari l d a n s
  | .lui l d imm => Sys2Proof.Machine.execLui l d imm s
  | .slti l d a imm => Sys2Proof.Machine.execSlti l d a imm s
  | .fadd l d a b => Sys2Proof.Machine.execFadd l d a b s
  | .fsub l d a b => Sys2Proof.Machine.execFsub l d a b s
  | .fmul l d a b => Sys2Proof.Machine.execFmul l d a b s
  | .fdiv l d a b => Sys2Proof.Machine.execFdiv l d a b s
  | .fsqrt l d a => Sys2Proof.Machine.execFsqrt l d a s
  | .fma l d a b => Sys2Proof.Machine.execFma l d a b s
  | .fmin l d a b => Sys2Proof.Machine.execFmin l d a b s
  | .fmax l d a b => Sys2Proof.Machine.execFmax l d a b s
  | .fabs l d a => Sys2Proof.Machine.execFabs l d a s
  | .fneg l d a => Sys2Proof.Machine.execFneg l d a s
  | .fcmp l a b => Sys2Proof.Machine.execFcmp l a b s
  | .fcvti l d a => Sys2Proof.Machine.execFcvti l d a s
  | .fcvtf l d a => Sys2Proof.Machine.execFcvtf l d a s
  | .ldw l d a imm ecc => Sys2Proof.Machine.execLdw l d a imm ecc s
  | .ldh l d a imm ecc => Sys2Proof.Machine.execLdh l d a imm ecc s
  | .ldhu l d a imm ecc => Sys2Proof.Machine.execLdhu l d a imm ecc s
  | .ldb l d a imm ecc => Sys2Proof.Machine.execLdb l d a imm ecc s
  | .ldbu l d a imm ecc => Sys2Proof.Machine.execLdbu l d a imm ecc s
  | .stw l d a imm ecc => Sys2Proof.Machine.execStw l d a imm ecc s
  | .sth l d a imm ecc => Sys2Proof.Machine.execSth l d a imm ecc s
  | .stb l d a imm ecc => Sys2Proof.Machine.execStb l d a imm ecc s
  | .postedStoreAccepted p => Sys2Proof.Machine.execPostedStoreAccepted p s
  | .registerAccessTimeout l word addr => Sys2Proof.Machine.execRegisterAccessTimeout l word addr s
  | .beq l a b off => Sys2Proof.Machine.execBeq l a b off s
  | .bne l a b off => Sys2Proof.Machine.execBne l a b off s
  | .blt l a b off => Sys2Proof.Machine.execBlt l a b off s
  | .bge l a b off => Sys2Proof.Machine.execBge l a b off s
  | .bltu l a b off => Sys2Proof.Machine.execBltu l a b off s
  | .bgeu l a b off => Sys2Proof.Machine.execBgeu l a b off s
  | .bfs l n off => Sys2Proof.Machine.execBfs l n off s
  | .bfc l n off => Sys2Proof.Machine.execBfc l n off s
  | .jal l d off => Sys2Proof.Machine.execJal l d off s
  | .jalr l d a imm => Sys2Proof.Machine.execJalr l d a imm s
  | .nop l => Sys2Proof.Machine.execNop l s
  | .wait l d => Sys2Proof.Machine.execWait l d s
  | .waitRetire l => Sys2Proof.Machine.execWaitRetire l s
  | .trap l n => Sys2Proof.Machine.execTrap l n s
  | .mfs l d sel => Sys2Proof.Machine.execMfs l d sel s
  | .mtf l a => Sys2Proof.Machine.execMtf l a s
  | .illegalInstruction l word => Sys2Proof.Machine.execIllegalInstruction l word s
  | .pids l d a b c m => Sys2Proof.Machine.execPids l d a b c m s
  | .mins l d a => Sys2Proof.Machine.execMins l d a s
  | .intf l d a b c => Sys2Proof.Machine.execIntf l d a b c s
  | .sched l d a b c => Sys2Proof.Machine.execSched l d a b c s
  | .skim l d a b m => Sys2Proof.Machine.execSkim l d a b m s
  | .slew l d a b m => Sys2Proof.Machine.execSlew l d a b m s
  | .clmp l d a b c => Sys2Proof.Machine.execClmp l d a b c s
  | .plaus l d a b c => Sys2Proof.Machine.execPlaus l d a b c s
  | .tap l m a b => Sys2Proof.Machine.execTap l m a b s
  | .fir l d a b m ecc => Sys2Proof.Machine.execFir l d a b m ecc s
  | .out l a b => Sys2Proof.Machine.execOut l a b s
  | .deadlineTrap l => Sys2Proof.Machine.execDeadlineTrap l s
  | .lockstepMismatch p => Sys2Proof.Machine.execLockstepMismatch p s
  | .pinSecondaryRestored l => Sys2Proof.Machine.execPinSecondaryRestored l s
  | .pairSelfTest p pass => Sys2Proof.Machine.execPairSelfTest p pass s
  | .standbySelfTest p pass => Sys2Proof.Machine.execStandbySelfTest p pass s
  | .replan e => Sys2Proof.Machine.execReplan e s
  | .plannedMove l => Sys2Proof.Machine.execPlannedMove l s
  | .imagePlace cell => Sys2Proof.Machine.execImagePlace cell s
  | .engineLoadCheck => Sys2Proof.Machine.execEngineLoadCheck s
  | .cellReset w => Sys2Proof.Machine.execCellReset w s
  | .cellResetZeroed cell => Sys2Proof.Machine.execCellResetZeroed cell s
  | .cellSuspend w => Sys2Proof.Machine.execCellSuspend w s
  | .cellResume w => Sys2Proof.Machine.execCellResume w s
  | .cellUnload w => Sys2Proof.Machine.execCellUnload w s
  | .cellCmdBad w cmd => Sys2Proof.Machine.execCellCmdBad w cmd s
  | .loopRestart w => Sys2Proof.Machine.execLoopRestart w s
  | .loopStop w => Sys2Proof.Machine.execLoopStop w s
  | .grantSelectWrite w cell => Sys2Proof.Machine.execGrantSelectWrite w cell s
  | .hwkSubmit w addr => Sys2Proof.Machine.execHwkSubmit w addr s
  | .hwkCancel w v => Sys2Proof.Machine.execHwkCancel w v s
  | .creditRefill => Sys2Proof.Machine.execCreditRefill s
  | .engineGrant k => Sys2Proof.Machine.execEngineGrant k s
  | .xferCopy t => Sys2Proof.Machine.execXferCopy t s
  | .xferFill t => Sys2Proof.Machine.execXferFill t s
  | .transactionComplete t => Sys2Proof.Machine.execTransactionComplete t s
  | .engineWatchdog e => Sys2Proof.Machine.execEngineWatchdog e s
  | .hwkFreezeWrite w v => Sys2Proof.Machine.execHwkFreezeWrite w v s
  | .engineDrained e => Sys2Proof.Machine.execEngineDrained e s
  | .inputSlotStart ch => Sys2Proof.Machine.execInputSlotStart ch s
  | .conversionBoundary ch m => Sys2Proof.Machine.execConversionBoundary ch m s
  | .dielOverload ch spot => Sys2Proof.Machine.execDielOverload ch spot s
  | .terminalOvervoltage ch => Sys2Proof.Machine.execTerminalOvervoltage ch s
  | .probeRemoved sock => Sys2Proof.Machine.execProbeRemoved sock s
  | .probeInserted sock => Sys2Proof.Machine.execProbeInserted sock s
  | .refAverage va vb vx => Sys2Proof.Machine.execRefAverage va vb vx s
  | .refFail r trip va vb vx => Sys2Proof.Machine.execRefFail r trip va vb vx s
  | .feCalselWrite w v => Sys2Proof.Machine.execFeCalselWrite w v s
  | .pointlo w => Sys2Proof.Machine.execPointlo w s
  | .pointhi w => Sys2Proof.Machine.execPointhi w s
  | .calPointDone => Sys2Proof.Machine.execCalPointDone s
  | .commit w => Sys2Proof.Machine.execCommit w s
  | .abortI w => Sys2Proof.Machine.execAbortI w s
  | .calBadCmd w v => Sys2Proof.Machine.execCalBadCmd w v s
  | .columnUpdate us => Sys2Proof.Machine.execColumnUpdate us s
  | .columnInputWrite w d x v => Sys2Proof.Machine.execColumnInputWrite w d x v s
  | .predict t => Sys2Proof.Machine.execPredict t s
  | .frameSelection n => Sys2Proof.Machine.execFrameSelection n s
  | .timeFrameDue n => Sys2Proof.Machine.execTimeFrameDue n s
  | .time n sof => Sys2Proof.Machine.execTime n sof s
  | .census n sof => Sys2Proof.Machine.execCensus n sof s
  | .sweepOpen n sof => Sys2Proof.Machine.execSweepOpen n sof s
  | .sweepClose n sof => Sys2Proof.Machine.execSweepClose n sof s
  | .sweepDrained n => Sys2Proof.Machine.execSweepDrained n s
  | .sweepTimeLimit n => Sys2Proof.Machine.execSweepTimeLimit n s
  | .rate n sof => Sys2Proof.Machine.execRate n sof s
  | .nodeCmd n sof => Sys2Proof.Machine.execNodeCmd n sof s
  | .privateI n sof => Sys2Proof.Machine.execPrivateI n sof s
  | .quietIntervalEnd n => Sys2Proof.Machine.execQuietIntervalEnd n s
  | .txEntryReturn n => Sys2Proof.Machine.execTxEntryReturn n s
  | .latTxqWrite w n v => Sys2Proof.Machine.execLatTxqWrite w n v s
  | .latTxcanWrite w n v => Sys2Proof.Machine.execLatTxcanWrite w n v s
  | .latRxackWrite w n v => Sys2Proof.Machine.execLatRxackWrite w n v s
  | .hot n f => Sys2Proof.Machine.execHot n f s
  | .wet n f => Sys2Proof.Machine.execWet n f s
  | .censusBatch n f => Sys2Proof.Machine.execCensusBatch n f s
  | .jstat n f => Sys2Proof.Machine.execJstat n f s
  | .reply n f => Sys2Proof.Machine.execReply n f s
  | .busError n e => Sys2Proof.Machine.execBusError n e s
  | .recover w n => Sys2Proof.Machine.execRecover w n s
  | .latBusoffEnd n => Sys2Proof.Machine.execLatBusoffEnd n s
  | .censusDue n => Sys2Proof.Machine.execCensusDue n s
  | .censusEnd n idle => Sys2Proof.Machine.execCensusEnd n idle s
  | .alarmSweepDue n => Sys2Proof.Machine.execAlarmSweepDue n s
  | .sweep t => Sys2Proof.Machine.execSweep t s
  | .censusRequest t => Sys2Proof.Machine.execCensusRequest t s
  | .line t => Sys2Proof.Machine.execLine t s
  | .latWireFault n f => Sys2Proof.Machine.execLatWireFault n f s
  | .latWireOk n f => Sys2Proof.Machine.execLatWireOk n f s
  | .canTxRequest w n v => Sys2Proof.Machine.execCanTxRequest w n v s
  | .canTxCancel w n v => Sys2Proof.Machine.execCanTxCancel w n v s
  | .canFrameSent n sof => Sys2Proof.Machine.execCanFrameSent n sof s
  | .canFrameReceived n f => Sys2Proof.Machine.execCanFrameReceived n f s
  | .canRxrel w n => Sys2Proof.Machine.execCanRxrel w n s
  | .canBusoff n => Sys2Proof.Machine.execCanBusoff n s
  | .canRecover w n => Sys2Proof.Machine.execCanRecover w n s
  | .canBusoffEnd n => Sys2Proof.Machine.execCanBusoffEnd n s
  | .canWireFault n f => Sys2Proof.Machine.execCanWireFault n f s
  | .pullInStart n => Sys2Proof.Machine.execPullInStart n s
  | .svMovementDip n t cur => Sys2Proof.Machine.execSvMovementDip n t cur s
  | .pullInEnd n cur => Sys2Proof.Machine.execPullInEnd n cur s
  | .svShort n check => Sys2Proof.Machine.execSvShort n check s
  | .svShortRetry n => Sys2Proof.Machine.execSvShortRetry n s
  | .coilModelStep n i2 => Sys2Proof.Machine.execCoilModelStep n i2 s
  | .svOverload n ms => Sys2Proof.Machine.execSvOverload n ms s
  | .bankTest b hs cur low => Sys2Proof.Machine.execBankTest b hs cur low s
  | .bankRetest b hs low => Sys2Proof.Machine.execBankRetest b hs low s
  | .svBankOff b hs => Sys2Proof.Machine.execSvBankOff b hs s
  | .bankRetry b hs ok => Sys2Proof.Machine.execBankRetry b hs ok s
  | .bankclr w v => Sys2Proof.Machine.execBankclr w v s
  | .svClear w n => Sys2Proof.Machine.execSvClear w n s
  | .boostSoftStart => Sys2Proof.Machine.execBoostSoftStart s
  | .boostReady v => Sys2Proof.Machine.execBoostReady v s
  | .svBoostShort v => Sys2Proof.Machine.execSvBoostShort v s
  | .boostHiccupRestart => Sys2Proof.Machine.execBoostHiccupRestart s
  | .svHoldEnd n => Sys2Proof.Machine.execSvHoldEnd n s
  | .fanReload n fb => Sys2Proof.Machine.execFanReload n fb s
  | .fanFail n => Sys2Proof.Machine.execFanFail n s
  | .fanOk n => Sys2Proof.Machine.execFanOk n s
  | .fanFailKick n => Sys2Proof.Machine.execFanFailKick n s
  | .fanTsSample n t => Sys2Proof.Machine.execFanTsSample n t s
  | .fanOutFault n => Sys2Proof.Machine.execFanOutFault n s
  | .fanOutRetry n => Sys2Proof.Machine.execFanOutRetry n s
  | .fanSupFault n => Sys2Proof.Machine.execFanSupFault n s
  | .fanSupRetry n => Sys2Proof.Machine.execFanSupRetry n s
  | .fanHoldEnd n => Sys2Proof.Machine.execFanHoldEnd n s
  | .fanClear w n => Sys2Proof.Machine.execFanClear w n s
  | .keyDownstreamFrame => Sys2Proof.Machine.execKeyDownstreamFrame s
  | .keyFieldApply flips => Sys2Proof.Machine.execKeyFieldApply flips s
  | .keyFieldLoss => Sys2Proof.Machine.execKeyFieldLoss s
  | .keyUpstreamFrame flips raws outs neg now => Sys2Proof.Machine.execKeyUpstreamFrame flips raws outs neg now s
  | .dioLinkLoss => Sys2Proof.Machine.execDioLinkLoss s
  | .counterGateEnd n => Sys2Proof.Machine.execCounterGateEnd n s
  | .dioShort n check => Sys2Proof.Machine.execDioShort n check s
  | .dioShortRetry n => Sys2Proof.Machine.execDioShortRetry n s
  | .dioOpenLoadTest n r => Sys2Proof.Machine.execDioOpenLoadTest n r s
  | .dioOt n => Sys2Proof.Machine.execDioOt n s
  | .dioHoldEnd n => Sys2Proof.Machine.execDioHoldEnd n s
  | .fieldSideStart v => Sys2Proof.Machine.execFieldSideStart v s
  | .fieldSideStop v => Sys2Proof.Machine.execFieldSideStop v s
  | .dioClear w n => Sys2Proof.Machine.execDioClear w n s
  | .eventAccept => Sys2Proof.Machine.execEventAccept s
  | .tokenBucketTick bucket => Sys2Proof.Machine.execTokenBucketTick bucket s
  | .recOverflow => Sys2Proof.Machine.execRecOverflow s
  | .logGroupRelease => Sys2Proof.Machine.execLogGroupRelease s
  | .logLineWrite => Sys2Proof.Machine.execLogLineWrite s
  | .flush w => Sys2Proof.Machine.execFlush w s
  | .flushComplete => Sys2Proof.Machine.execFlushComplete s
  | .markerWrite => Sys2Proof.Machine.execMarkerWrite s
  | .nverase w cell => Sys2Proof.Machine.execNverase w cell s
  | .cursorOldest w => Sys2Proof.Machine.execCursorOldest w s
  | .cursorAt w => Sys2Proof.Machine.execCursorAt w s
  | .cursorAfter w => Sys2Proof.Machine.execCursorAfter w s
  | .cursorNewest w => Sys2Proof.Machine.execCursorNewest w s
  | .windowFillComplete cell => Sys2Proof.Machine.execWindowFillComplete cell s
  | .nvsRead t bad => Sys2Proof.Machine.execNvsRead t bad s
  | .nvsWrite t => Sys2Proof.Machine.execNvsWrite t s
  | .nvsEmit t => Sys2Proof.Machine.execNvsEmit t s
  | .nvsStoreStart set fail => Sys2Proof.Machine.execNvsStoreStart set fail s
  | .nvsStorePendingStart set fail => Sys2Proof.Machine.execNvsStorePendingStart set fail s
  | .storeCommit set fail => Sys2Proof.Machine.execStoreCommit set fail s
  | .rtcSet => Sys2Proof.Machine.execRtcSet s
  | .rtcShift => Sys2Proof.Machine.execRtcShift s
  | .trimChange => Sys2Proof.Machine.execTrimChange s
  | .rtcFracRead w => Sys2Proof.Machine.execRtcFracRead w s
  | .rtcOscStop => Sys2Proof.Machine.execRtcOscStop s
  | .rtcBackupSwitch => Sys2Proof.Machine.execRtcBackupSwitch s
  | .bkramRead w j bad => Sys2Proof.Machine.execBkramRead w j bad s
  | .clrperr w => Sys2Proof.Machine.execClrperr w s
  | .clrsw w => Sys2Proof.Machine.execClrsw w s
  | .hstLinkUp l pol => Sys2Proof.Machine.execHstLinkUp l pol s
  | .hstLinkDown l => Sys2Proof.Machine.execHstLinkDown l s
  | .cableDiagnostic l faults dist => Sys2Proof.Machine.execCableDiagnostic l faults dist s
  | .arpRequest l frame target sender => Sys2Proof.Machine.execArpRequest l frame target sender s
  | .icmpEcho l frame target sender data => Sys2Proof.Machine.execIcmpEcho l frame target sender data s
  | .announce l prio gm interval => Sys2Proof.Machine.execAnnounce l prio gm interval s
  | .syncMessage l ingress interval origin corr => Sys2Proof.Machine.execSyncMessage l ingress interval origin corr s
  | .pdelayReqSend l => Sys2Proof.Machine.execPdelayReqSend l s
  | .pdelayResp l t2 t3 t4 cap => Sys2Proof.Machine.execPdelayResp l t2 t3 t4 cap s
  | .pdelayReq l t2 => Sys2Proof.Machine.execPdelayReq l t2 s
  | .syncTimeout l => Sys2Proof.Machine.execSyncTimeout l s
  | .hapOpen m cred nonce => Sys2Proof.Machine.execHapOpen m cred nonce s
  | .hapClose m => Sys2Proof.Machine.execHapClose m s
  | .ping m => Sys2Proof.Machine.execPing m s
  | .rd m addrs => Sys2Proof.Machine.execRd m addrs s
  | .wr m pairs => Sys2Proof.Machine.execWr m pairs s
  | .evt m mode start => Sys2Proof.Machine.execEvt m mode start s
  | .hapTime m => Sys2Proof.Machine.execHapTime m s
  | .hapCell m cell cmd => Sys2Proof.Machine.execHapCell m cell cmd s
  | .imgBegin m cell total => Sys2Proof.Machine.execImgBegin m cell total s
  | .imgData m off data => Sys2Proof.Machine.execImgData m off data s
  | .imgEnd m => Sys2Proof.Machine.execImgEnd m s
  | .imgStatus m => Sys2Proof.Machine.execImgStatus m s
  | .imgLoadTimeout sid => Sys2Proof.Machine.execImgLoadTimeout sid s
  | .keySet m slot key => Sys2Proof.Machine.execKeySet m slot key s
  | .credSet m cred rights cell enc => Sys2Proof.Machine.execCredSet m cred rights cell enc s
  | .hapIdleTimeout sid => Sys2Proof.Machine.execHapIdleTimeout sid s
  | .credBlockEnd cred => Sys2Proof.Machine.execCredBlockEnd cred s
  | .inventory => Sys2Proof.Machine.execInventory s
  | .getSystemInformation => Sys2Proof.Machine.execGetSystemInformation s
  | .extendedReadSingleBlock b => Sys2Proof.Machine.execExtendedReadSingleBlock b s
  | .extendedReadMultipleBlocks b n => Sys2Proof.Machine.execExtendedReadMultipleBlocks b n s
  | .extendedWriteSingleBlock b data => Sys2Proof.Machine.execExtendedWriteSingleBlock b data s
  | .fieldWriteCommit => Sys2Proof.Machine.execFieldWriteCommit s
  | .tagWcmd w v => Sys2Proof.Machine.execTagWcmd w v s
  | .wiredCommitComplete => Sys2Proof.Machine.execWiredCommitComplete s
  | .tagCommission => Sys2Proof.Machine.execTagCommission s
  | .tagStatusWrite => Sys2Proof.Machine.execTagStatusWrite s
  | .tagAntCheck bad => Sys2Proof.Machine.execTagAntCheck bad s
  | .ack => Sys2Proof.Machine.execAck s
  | .silence => Sys2Proof.Machine.execSilence s
  | .localI => Sys2Proof.Machine.execLocalI s
  | .test => Sys2Proof.Machine.execTest s
  | .faceLocal => Sys2Proof.Machine.execFaceLocal s
  | .faceKeyStuck k => Sys2Proof.Machine.execFaceKeyStuck k s
  | .ledTestEnd => Sys2Proof.Machine.execLedTestEnd s
  | .localTimeout => Sys2Proof.Machine.execLocalTimeout s
  | .alarmWrite w v => Sys2Proof.Machine.execAlarmWrite w v s
  | .trcTrig w n => Sys2Proof.Machine.execTrcTrig w n s
  | .trcClear w n => Sys2Proof.Machine.execTrcClear w n s
  | .dipBegin a b => Sys2Proof.Machine.execDipBegin a b s
  | .pwrDip a b => Sys2Proof.Machine.execPwrDip a b s
  | .tierTakeEffect a b => Sys2Proof.Machine.execTierTakeEffect a b s
  | .tierRestore => Sys2Proof.Machine.execTierRestore s
  | .pwrThermal tb tj => Sys2Proof.Machine.execPwrThermal tb tj s
  | .thermalRestart tb => Sys2Proof.Machine.execThermalRestart tb s
  | .pwrForceWrite w v => Sys2Proof.Machine.execPwrForceWrite w v s
  | .pwrInputRev k v => Sys2Proof.Machine.execPwrInputRev k v s
  | .pwrInputLost k v => Sys2Proof.Machine.execPwrInputLost k v s
  | .pwrInputOv k v => Sys2Proof.Machine.execPwrInputOv k v s
  | .pwrInputOk k v => Sys2Proof.Machine.execPwrInputOk k v s
  | .pwrFieldUv v => Sys2Proof.Machine.execPwrFieldUv v s
  | .pwrFieldOv v => Sys2Proof.Machine.execPwrFieldOv v s
  | .pwrFieldRev v => Sys2Proof.Machine.execPwrFieldRev v s
  | .pwrFieldTrip v => Sys2Proof.Machine.execPwrFieldTrip v s
  | .fieldSwitchRetry => Sys2Proof.Machine.execFieldSwitchRetry s
  | .pwrFieldOk v => Sys2Proof.Machine.execPwrFieldOk v s
  | .fretry w => Sys2Proof.Machine.execFretry w s
  | .hutest w => Sys2Proof.Machine.execHutest w s
  | .holdupTest t vst => Sys2Proof.Machine.execHoldupTest t vst s
  | .holdupCharged vst => Sys2Proof.Machine.execHoldupCharged vst s
  | .vbakTest v => Sys2Proof.Machine.execVbakTest v s
  | .pllLockLoss checks => Sys2Proof.Machine.execPllLockLoss checks s
  | .relock w => Sys2Proof.Machine.execRelock w s
  | .clkRelock checks => Sys2Proof.Machine.execClkRelock checks s
  | .relockAttemptTimeout => Sys2Proof.Machine.execRelockAttemptTimeout s
  | .clkRootFail kind dev => Sys2Proof.Machine.execClkRootFail kind dev s
  | .islandRetry rootOk pllOk => Sys2Proof.Machine.execIslandRetry rootOk pllOk s
  | .powerOnResetRelease a b stable lost failed => Sys2Proof.Machine.execPowerOnResetRelease a b stable lost failed s
  | .sys w => Sys2Proof.Machine.execSys w s
  | .full w => Sys2Proof.Machine.execFull w s
  | .ctlBrstWrite w v => Sys2Proof.Machine.execCtlBrstWrite w v s
  | .resetAssert => Sys2Proof.Machine.execResetAssert s
  | .resetRelease failed => Sys2Proof.Machine.execResetRelease failed s
  | .ctlWdkickWrite w v => Sys2Proof.Machine.execCtlWdkickWrite w v s
  | .ctlWatchdog => Sys2Proof.Machine.execCtlWatchdog s
  | .ctlWedge => Sys2Proof.Machine.execCtlWedge s
  | .islandAct => Sys2Proof.Machine.execIslandAct s
  | .ctlStart => Sys2Proof.Machine.execCtlStart s
  | .ctlCensusLate => Sys2Proof.Machine.execCtlCensusLate s
  | .rtcTick => Sys2Proof.Machine.execRtcTick s
  | .canWireOk n f => Sys2Proof.Machine.execCanWireOk n f s
  | .canPortError n e => Sys2Proof.Machine.execCanPortError n e s
  | .privateReceived n f => Sys2Proof.Machine.execPrivateReceived n f s
  | .filteredEdge n runs => Sys2Proof.Machine.execFilteredEdge n runs s
  | .tachometerPulse n => Sys2Proof.Machine.execTachometerPulse n s
  | .railNotReady v => Sys2Proof.Machine.execRailNotReady v s
  | .dioOtRestart n => Sys2Proof.Machine.execDioOtRestart n s
  | .readerField present => Sys2Proof.Machine.execReaderField present s
  | .keyReleased k => Sys2Proof.Machine.execKeyReleased k s
  | .clkDtblRead w => Sys2Proof.Machine.execClkDtblRead w s
  | .engineResetEnd e => Sys2Proof.Machine.execEngineResetEnd e s
  | .keyReceiverSearch up => Sys2Proof.Machine.execKeyReceiverSearch up s

end Sys2Proof.Machine
end

