-- ==== Sys2Proof/Machine/Tick.lean ====
section
/-! DEFINITION. One tick of the CLK_IO clock (R23, R443, R500): what time alone does. -/
namespace Sys2Proof.Machine

/-- Whether an instant 10 µs after the start of a downstream frame lies in a tick, and the start of that frame (R391). -/
def sampleIn (old new : Nat) : Option Nat :=
  let t := (new + 10000) / 20000 * 20000
  if old + 10000 < t ∧ 20000 ≤ t then some (t - 20000) else none

/-- The operating hours advance by 1 each second and hold at their maximum (R24, R413). -/
def State.hoursTick (s : State) : State :=
  if s.recd.hoursAt + 1000000000 ≤ s.dtb ∧ s.ctl.por.isNone then
    ({ s with recd := { s.recd with hoursAt := s.recd.hoursAt + 1000000000 } }).countReg Reg.REC_HOURS 31 0 0xFFFFFFFF 1
  else s

/-- One tick: the DTB advances by what the rate correction gives, the watchdog counts, entries that wait for a trace memory are
written, the operating hours advance, and the field side samples at its instant. -/
def State.tick (s : State) : State :=
  let t := s.tickOf
  let s1 := { s with
    dtb := (s.dtb + t.1) % dtbMod
    host := { s.host with rateAcc := t.2 }
    ctl := { s.ctl with wdLeft := s.wdTick (if s.onSafe then 40 else 8) } }
  let s2 := (s1.traces.map Prod.fst).foldl State.trcDrain s1
  let s3 := s2.hoursTick
  match sampleIn s.dtb s3.dtb with
  | some start => s3.keyInstant start
  | none => s3

end Sys2Proof.Machine
end

