-- ==== Sys2Proof/WellFormed.lean ====
section
/-! DEFINITION. Commands whose operands name something the module has and fit the fields that carry them.  A command that is not
well formed has a meaning too: what it names does not exist, and the machine stays as it is. -/
namespace Sys2Proof

/-- An accessor: one of 8,192 loops, or a session of a non-zero 32-bit SID (R449). -/
def Who.wf : Who → Bool
  | .loop l => decide (l < 8192)
  | .session sid => sid != 0 && decide (sid < 0x100000000)

/-- A frame's VID has 12 bits, and its size fits a length of 16 bits. -/
def HostFrame.wf (f : HostFrame) : Bool := decide (f.vid < 0x1000) && decide (f.size < 0x10000)

/-- A request's head fits its fields (Table 13.3), on one of two links. -/
def HapMsg.wf (m : HapMsg) : Bool :=
  decide (m.link < 2) && m.frame.wf && decide (m.port < 0x10000) && decide (m.magic < 0x10000) &&
    decide (m.ver < 0x100) && decide (m.type.getD 0 < 0x100) && decide (m.sid < 0x100000000) && decide (m.seq < 0x100000000) && decide (m.len < 0x10000)

/-- A CAN frame: an identifier of 29 bits, a DLC of 4 bits, and at most 64 bytes. -/
def CanFrame.wf (f : CanFrame) : Bool := decide (f.id < 0x20000000) && decide (f.dlc < 16) && decide (f.payload.length ≤ 64)

/-- Addresses at which reads of a transaction's source find an error. -/
def eccsWf (es : List (Nat × Ecc)) : Bool := es.all fun e => decide (e.1 < 2 ^ 32)

/-- A command is well formed: its accessor, its channel, loop, pair or page exists, and each field fits. -/
def Instr.wf : Instr → Bool
  | .registerWrite w a _ => w.wf && a % 4 == 0
  | .apply w page => w.wf && page % 0x1000 == 0
  | .discard w page => w.wf && page % 0x1000 == 0
  | .applyUnknownCmd w page _ => w.wf && page % 0x1000 == 0
  | .applyTakesEffect page => page % 0x1000 == 0
  | .frameBoundary => true
  | .periodBoundary l => decide (l < 8192)
  | .loopDispatch l => decide (l < 8192)
  | .add l _ _ _ => decide (l < 8192)
  | .sub l _ _ _ => decide (l < 8192)
  | .andI l _ _ _ => decide (l < 8192)
  | .orI l _ _ _ => decide (l < 8192)
  | .xor l _ _ _ => decide (l < 8192)
  | .shl l _ _ _ => decide (l < 8192)
  | .shr l _ _ _ => decide (l < 8192)
  | .sar l _ _ _ => decide (l < 8192)
  | .slt l _ _ _ => decide (l < 8192)
  | .sltu l _ _ _ => decide (l < 8192)
  | .mul l _ _ _ => decide (l < 8192)
  | .mulh l _ _ _ => decide (l < 8192)
  | .mulhu l _ _ _ => decide (l < 8192)
  | .div l _ _ _ => decide (l < 8192)
  | .divu l _ _ _ => decide (l < 8192)
  | .rem l _ _ _ => decide (l < 8192)
  | .remu l _ _ _ => decide (l < 8192)
  | .min l _ _ _ => decide (l < 8192)
  | .max l _ _ _ => decide (l < 8192)
  | .addi l _ _ _ => decide (l < 8192)
  | .andi l _ _ _ => decide (l < 8192)
  | .ori l _ _ _ => decide (l < 8192)
  | .xori l _ _ _ => decide (l < 8192)
  | .shli l _ _ _ => decide (l < 8192)
  | .shri l _ _ _ => decide (l < 8192)
  | .sari l _ _ _ => decide (l < 8192)
  | .lui l _ _ => decide (l < 8192)
  | .slti l _ _ _ => decide (l < 8192)
  | .fadd l _ _ _ => decide (l < 8192)
  | .fsub l _ _ _ => decide (l < 8192)
  | .fmul l _ _ _ => decide (l < 8192)
  | .fdiv l _ _ _ => decide (l < 8192)
  | .fsqrt l _ _ => decide (l < 8192)
  | .fma l _ _ _ => decide (l < 8192)
  | .fmin l _ _ _ => decide (l < 8192)
  | .fmax l _ _ _ => decide (l < 8192)
  | .fabs l _ _ => decide (l < 8192)
  | .fneg l _ _ => decide (l < 8192)
  | .fcmp l _ _ => decide (l < 8192)
  | .fcvti l _ _ => decide (l < 8192)
  | .fcvtf l _ _ => decide (l < 8192)
  | .ldw l _ _ _ _ => decide (l < 8192)
  | .ldh l _ _ _ _ => decide (l < 8192)
  | .ldhu l _ _ _ _ => decide (l < 8192)
  | .ldb l _ _ _ _ => decide (l < 8192)
  | .ldbu l _ _ _ _ => decide (l < 8192)
  | .stw l _ _ _ _ => decide (l < 8192)
  | .sth l _ _ _ _ => decide (l < 8192)
  | .stb l _ _ _ _ => decide (l < 8192)
  | .postedStoreAccepted p => decide (p < 32)
  | .registerAccessTimeout l _ _ => decide (l < 8192)
  | .beq l _ _ _ => decide (l < 8192)
  | .bne l _ _ _ => decide (l < 8192)
  | .blt l _ _ _ => decide (l < 8192)
  | .bge l _ _ _ => decide (l < 8192)
  | .bltu l _ _ _ => decide (l < 8192)
  | .bgeu l _ _ _ => decide (l < 8192)
  | .bfs l _ _ => decide (l < 8192)
  | .bfc l _ _ => decide (l < 8192)
  | .jal l _ _ => decide (l < 8192)
  | .jalr l _ _ _ => decide (l < 8192)
  | .nop l => decide (l < 8192)
  | .wait l _ => decide (l < 8192)
  | .waitRetire l => decide (l < 8192)
  | .trap l _ => decide (l < 8192)
  | .mfs l _ _ => decide (l < 8192)
  | .mtf l _ => decide (l < 8192)
  | .illegalInstruction l _ => decide (l < 8192)
  | .pids l _ _ _ _ m => decide (l < 8192) && decide (m.toNat / 8 < 3)
  | .mins l _ _ => decide (l < 8192)
  | .intf l _ _ _ _ => decide (l < 8192)
  | .sched l _ _ _ _ => decide (l < 8192)
  | .skim l _ _ _ _ => decide (l < 8192)
  | .slew l _ _ _ _ => decide (l < 8192)
  | .clmp l _ _ _ _ => decide (l < 8192)
  | .plaus l _ _ _ _ => decide (l < 8192)
  | .tap l _ _ _ => decide (l < 8192)
  | .fir l _ _ _ m _ => decide (l < 8192) && decide (m.toNat / 8 < 3)
  | .out l _ _ => decide (l < 8192)
  | .deadlineTrap l => decide (l < 8192)
  | .lockstepMismatch p => decide (p.pair < 32) && decide (p.addr < 2 ^ 32)
  | .pinSecondaryRestored l => decide (l < 8192)
  | .pairSelfTest p _ => decide (p < 32)
  | .standbySelfTest p _ => decide (p < 32)
  | .replan _ => true
  | .plannedMove l => decide (l < 8192)
  | .imagePlace cell => decide (cell < 1024)
  | .engineLoadCheck => true
  | .cellReset w => w.wf
  | .cellResetZeroed cell => decide (cell < 1024)
  | .cellSuspend w => w.wf
  | .cellResume w => w.wf
  | .cellUnload w => w.wf
  | .cellCmdBad w _ => w.wf
  | .loopRestart w => w.wf
  | .loopStop w => w.wf
  | .grantSelectWrite w _ => w.wf
  | .hwkSubmit w _ => w.wf
  | .hwkCancel w _ => w.wf
  | .creditRefill => true
  | .engineGrant k => decide (k.kind < 4)
  | .xferCopy t => decide (t.tag < 65536) && eccsWf t.ecc
  | .xferFill t => decide (t < 65536)
  | .transactionComplete t => decide (t < 65536)
  | .engineWatchdog e => decide (e < 11)
  | .hwkFreezeWrite w _ => w.wf
  | .engineDrained e => decide (e < 11)
  | .inputSlotStart ch => decide (ch < 48)
  | .conversionBoundary ch _ => decide (ch < 48)
  | .dielOverload ch _ => decide (ch < 48)
  | .terminalOvervoltage ch => decide (ch < 48)
  | .probeRemoved sock => decide (sock < 16)
  | .probeInserted sock => decide (sock < 16)
  | .refAverage _ _ _ => true
  | .refFail r _ _ _ _ => decide (r < 3)
  | .feCalselWrite w _ => w.wf
  | .pointlo w => w.wf
  | .pointhi w => w.wf
  | .calPointDone => true
  | .commit w => w.wf
  | .abortI w => w.wf
  | .calBadCmd w _ => w.wf
  | .columnUpdate _ => true
  | .columnInputWrite w d _ _ => w.wf && decide (d < 16)
  | .predict t => decide (t < 65536)
  | .frameSelection n => decide (n < 32)
  | .timeFrameDue n => decide (n < 32)
  | .time n _ => decide (n < 32)
  | .census n _ => decide (n < 32)
  | .sweepOpen n _ => decide (n < 32)
  | .sweepClose n _ => decide (n < 32)
  | .sweepDrained n => decide (n < 32)
  | .sweepTimeLimit n => decide (n < 32)
  | .rate n _ => decide (n < 32)
  | .nodeCmd n _ => decide (n < 32)
  | .privateI n _ => decide (n < 32)
  | .quietIntervalEnd n => decide (n < 32)
  | .txEntryReturn n => decide (n < 32)
  | .latTxqWrite w n _ => w.wf && decide (n < 32)
  | .latTxcanWrite w n _ => w.wf && decide (n < 32)
  | .latRxackWrite w n _ => w.wf && decide (n < 32)
  | .hot n _ => decide (n < 32)
  | .wet n _ => decide (n < 32)
  | .censusBatch n _ => decide (n < 32)
  | .jstat n _ => decide (n < 32)
  | .reply n _ => decide (n < 32)
  | .busError n _ => decide (n < 32)
  | .recover w n => w.wf && decide (n < 32)
  | .latBusoffEnd n => decide (n < 32)
  | .censusDue n => decide (n < 32)
  | .censusEnd n _ => decide (n < 32)
  | .alarmSweepDue n => decide (n < 32)
  | .sweep t => decide (t < 65536)
  | .censusRequest t => decide (t < 65536)
  | .line t => decide (t.tag < 65536) && eccsWf t.ecc
  | .latWireFault n _ => decide (n < 32)
  | .latWireOk n _ => decide (n < 32)
  | .canTxRequest w n _ => w.wf && decide (n < 4)
  | .canTxCancel w n _ => w.wf && decide (n < 4)
  | .canFrameSent n _ => decide (n < 4)
  | .canFrameReceived n f => decide (n < 4) && f.wf
  | .canRxrel w n => w.wf && decide (n < 4)
  | .canBusoff n => decide (n < 4)
  | .canRecover w n => w.wf && decide (n < 4)
  | .canBusoffEnd n => decide (n < 4)
  | .canWireFault n _ => decide (n < 4)
  | .pullInStart n => decide (n < 24)
  | .svMovementDip n _ _ => decide (n < 24)
  | .pullInEnd n _ => decide (n < 24)
  | .svShort n _ => decide (n < 24)
  | .svShortRetry n => decide (n < 24)
  | .coilModelStep n _ => decide (n < 24)
  | .svOverload n _ => decide (n < 24)
  | .bankTest b _ _ _ => decide (b < 4)
  | .bankRetest b _ _ => decide (b < 4)
  | .svBankOff b _ => decide (b < 4)
  | .bankRetry b _ _ => decide (b < 4)
  | .bankclr w _ => w.wf
  | .svClear w n => w.wf && decide (n < 24)
  | .boostSoftStart => true
  | .boostReady _ => true
  | .svBoostShort _ => true
  | .boostHiccupRestart => true
  | .svHoldEnd n => decide (n < 24)
  | .fanReload n _ => decide (n < 16)
  | .fanFail n => decide (n < 16)
  | .fanOk n => decide (n < 16)
  | .fanFailKick n => decide (n < 16)
  | .fanTsSample n _ => decide (n < 16)
  | .fanOutFault n => decide (n < 16)
  | .fanOutRetry n => decide (n < 16)
  | .fanSupFault n => decide (n < 16)
  | .fanSupRetry n => decide (n < 16)
  | .fanHoldEnd n => decide (n < 16)
  | .fanClear w n => w.wf && decide (n < 16)
  | .keyDownstreamFrame => true
  | .keyFieldApply _ => true
  | .keyFieldLoss => true
  | .keyUpstreamFrame _ _ _ _ _ => true
  | .dioLinkLoss => true
  | .counterGateEnd n => decide (n < 16)
  | .dioShort n _ => decide (n < 64)
  | .dioShortRetry n => decide (n < 64)
  | .dioOpenLoadTest n _ => decide (n < 64)
  | .dioOt n => decide (n < 64)
  | .dioHoldEnd n => decide (n < 64)
  | .fieldSideStart _ => true
  | .fieldSideStop _ => true
  | .dioClear w n => w.wf && decide (n < 64)
  | .eventAccept => true
  | .tokenBucketTick _ => true
  | .recOverflow => true
  | .logGroupRelease => true
  | .logLineWrite => true
  | .flush w => w.wf
  | .flushComplete => true
  | .markerWrite => true
  | .nverase w _ => w.wf
  | .cursorOldest w => w.wf
  | .cursorAt w => w.wf
  | .cursorAfter w => w.wf
  | .cursorNewest w => w.wf
  | .windowFillComplete cell => decide (cell < 1024)
  | .nvsRead t _ => decide (t < 65536)
  | .nvsWrite t => decide (t.tag < 65536) && eccsWf t.ecc
  | .nvsEmit t => decide (t.tag < 65536) && eccsWf t.ecc
  | .nvsStoreStart set _ => decide (set < 16)
  | .nvsStorePendingStart set _ => decide (set < 16)
  | .storeCommit set _ => decide (set < 16)
  | .rtcSet => true
  | .rtcShift => true
  | .trimChange => true
  | .rtcFracRead w => w.wf
  | .rtcOscStop => true
  | .rtcBackupSwitch => true
  | .bkramRead w j _ => w.wf && decide (j < 32)
  | .clrperr w => w.wf
  | .clrsw w => w.wf
  | .hstLinkUp l _ => decide (l < 2)
  | .hstLinkDown l => decide (l < 2)
  | .cableDiagnostic l _ _ => decide (l < 2)
  | .arpRequest l f _ _ => decide (l < 2) && f.wf
  | .icmpEcho l f _ _ _ => decide (l < 2) && f.wf
  | .announce l _ _ _ => decide (l < 2)
  | .syncMessage l _ _ _ _ => decide (l < 2)
  | .pdelayReqSend l => decide (l < 2)
  | .pdelayResp l _ _ _ _ => decide (l < 2)
  | .pdelayReq l _ => decide (l < 2)
  | .syncTimeout l => decide (l < 2)
  | .hapOpen m cred nonce => m.wf && decide (cred < 256) && nonce.length == 16
  | .hapClose m => m.wf
  | .ping m => m.wf
  | .rd m _ => m.wf
  | .wr m _ => m.wf
  | .evt m mode start => m.wf && decide (mode < 256) && decide (start < 0x100000000)
  | .hapTime m => m.wf
  | .hapCell m cell cmd => m.wf && decide (cell < 65536) && decide (cmd < 65536)
  | .imgBegin m cell total => m.wf && decide (cell < 65536) && decide (total < 0x100000000)
  | .imgData m off _ => m.wf && decide (off < 0x100000000)
  | .imgEnd m => m.wf
  | .imgStatus m => m.wf
  | .imgLoadTimeout sid => decide (sid < 0x100000000)
  | .keySet m slot key => m.wf && decide (slot < 256) && key.length == 8
  | .credSet m cred rights cell enc => m.wf && decide (cred < 256) && decide (rights < 256) && decide (cell < 65536) && enc.length == 32
  | .hapIdleTimeout sid => decide (sid < 0x100000000)
  | .credBlockEnd cred => decide (cred < 64)
  | .inventory => true
  | .getSystemInformation => true
  | .extendedReadSingleBlock b => decide (b < 65536)
  | .extendedReadMultipleBlocks b _ => decide (b < 65536)
  | .extendedWriteSingleBlock b data => decide (b < 65536) && data.length == 16
  | .fieldWriteCommit => true
  | .tagWcmd w _ => w.wf
  | .wiredCommitComplete => true
  | .tagCommission => true
  | .tagStatusWrite => true
  | .tagAntCheck _ => true
  | .ack => true
  | .silence => true
  | .localI => true
  | .test => true
  | .faceLocal => true
  | .faceKeyStuck k => decide (k < 4)
  | .ledTestEnd => true
  | .localTimeout => true
  | .alarmWrite w _ => w.wf
  | .trcTrig w n => w.wf && decide (n < 16)
  | .trcClear w n => w.wf && decide (n < 16)
  | .dipBegin _ _ => true
  | .pwrDip _ _ => true
  | .tierTakeEffect _ _ => true
  | .tierRestore => true
  | .pwrThermal _ _ => true
  | .thermalRestart _ => true
  | .pwrForceWrite w _ => w.wf
  | .pwrInputRev _ _ => true
  | .pwrInputLost _ _ => true
  | .pwrInputOv _ _ => true
  | .pwrInputOk _ _ => true
  | .pwrFieldUv _ => true
  | .pwrFieldOv _ => true
  | .pwrFieldRev _ => true
  | .pwrFieldTrip _ => true
  | .fieldSwitchRetry => true
  | .pwrFieldOk _ => true
  | .fretry w => w.wf
  | .hutest w => w.wf
  | .holdupTest _ _ => true
  | .holdupCharged _ => true
  | .vbakTest _ => true
  | .pllLockLoss _ => true
  | .relock w => w.wf
  | .clkRelock _ => true
  | .relockAttemptTimeout => true
  | .clkRootFail _ _ => true
  | .islandRetry _ _ => true
  | .powerOnResetRelease _ _ _ _ _ => true
  | .sys w => w.wf
  | .full w => w.wf
  | .ctlBrstWrite w _ => w.wf
  | .resetAssert => true
  | .resetRelease _ => true
  | .ctlWdkickWrite w _ => w.wf
  | .ctlWatchdog => true
  | .ctlWedge => true
  | .islandAct => true
  | .ctlStart => true
  | .ctlCensusLate => true
  | .rtcTick => true
  | .canWireOk n _ => decide (n < 4)
  | .canPortError n _ => decide (n < 4)
  | .privateReceived n _ => decide (n < 32)
  | .filteredEdge n _ => decide (n < 64)
  | .tachometerPulse n => decide (n < 16)
  | .railNotReady _ => true
  | .dioOtRestart n => decide (n < 64)
  | .readerField _ => true
  | .keyReleased k => decide (k < 4)
  | .clkDtblRead w => w.wf
  | .engineResetEnd e => decide (e < 11)
  | .keyReceiverSearch _ => true

end Sys2Proof
end

