-- ==== Sys2Proof/Safety.lean ====
section
/-! DEFINITION. The terms claims are stated in: what a command leaves alone, what it hands to the recorder, when an instruction
executes, and the invariants of the machine. -/
namespace Sys2Proof.Machine

/-! ### Frames -/

/-- The parts of the state. -/
inductive Part where
  | pending
  | dtb
  | act
  | shd
  | pend
  | nextFrame
  | answer
  | drawn
  | loops
  | pairs
  | slots
  | cells
  | placer
  | image
  | marked
  | hwk
  | traces
  | pwr
  | sessions
  | fe
  | col
  | trunks
  | nodeHist
  | ports
  | sv
  | fans
  | dio
  | host
  | face
  | svcTag
  | recd
  | rtc
  | ctl
  deriving DecidableEq, Repr

/-- Two states agree on a part. -/
def Part.same (p : Part) (s t : State) : Prop :=
  match p with
  | .pending => t.pending = s.pending
  | .dtb => t.dtb = s.dtb
  | .act => t.act = s.act
  | .shd => t.shd = s.shd
  | .pend => t.pend = s.pend
  | .nextFrame => t.nextFrame = s.nextFrame
  | .answer => t.answer = s.answer
  | .drawn => t.drawn = s.drawn
  | .loops => t.loops = s.loops
  | .pairs => t.pairs = s.pairs
  | .slots => t.slots = s.slots
  | .cells => t.cells = s.cells
  | .placer => t.placer = s.placer
  | .image => t.image = s.image
  | .marked => t.marked = s.marked
  | .hwk => t.hwk = s.hwk
  | .traces => t.traces = s.traces
  | .pwr => t.pwr = s.pwr
  | .sessions => t.sessions = s.sessions
  | .fe => t.fe = s.fe
  | .col => t.col = s.col
  | .trunks => t.trunks = s.trunks
  | .nodeHist => t.nodeHist = s.nodeHist
  | .ports => t.ports = s.ports
  | .sv => t.sv = s.sv
  | .fans => t.fans = s.fans
  | .dio => t.dio = s.dio
  | .host => t.host = s.host
  | .face => t.face = s.face
  | .svcTag => t.svcTag = s.svcTag
  | .recd => t.recd = s.recd
  | .rtc => t.rtc = s.rtc
  | .ctl => t.ctl = s.ctl

/-- `t` differs from `s` in no part but those listed. -/
def State.Only (ps : List Part) (s t : State) : Prop := ∀ p, p ∉ ps → p.same s t

/-- Every register but those listed has the active value it had. -/
def State.OnlyRegs (ks : List Nat) (s t : State) : Prop := ∀ k, k ∉ ks → t.reg k = s.reg k

/-- An event decided and handed to the recorder in a state. -/
def State.event (s : State) (code cell : Nat) (body : List Word) : Event := ⟨code, cell, s.dtb, s.dtb, body⟩

/-- What `t` hands to the recorder beyond what `s` has: exactly these events, and nothing else of the recorder differs. -/
def State.Logs (es : List Event) (s t : State) : Prop := t.recd = { s.recd with handed := s.recd.handed ++ es }

/-! ### What every step keeps -/

/-- The order in which State keeps its maps and sequences, which every step keeps: loops, shadow values and pending applies lie by rising
key; an apply pends on a staged page, and a shadow value lies before the last two words of its page, BLOCK_APPLY and STAGE (R44); the
channels of SV and the trace buffers are those there are; the depth of the tiers is at most T5, which starts the power-down (R492); and a
reset sequence has one of the scopes of R509, that of a power-on reset ending as reset is asserted. -/
def State.InOrder (s : State) : Prop :=
  mRising 0 s.loops = true ∧ mRising 0 s.shd = true ∧ mRising 0 s.pend = true ∧
  (∀ e ∈ s.pend, e.1 % 0x1000 = 0 ∧ stagedPage e.1 = true) ∧ (∀ e ∈ s.shd, addrOf e.1 % 0x1000 < 0xFF8) ∧
  (∀ e ∈ s.sv.chans, e.1 < 24) ∧ (∀ e ∈ s.traces, e.1 < 16) ∧
  s.pwr.deepest ≤ 5 ∧ (s.pwr.deepest = 5 → s.pwr.down ≠ none) ∧
  ∀ r, s.ctl.run = some r → r.scope ≤ 2 ∧ (r.scope = 0 → r.asserted = false)

/-! ### Instructions of a loop -/

/-- A loop executes its next instruction: it is dispatched, no WAIT is in progress, its deadline has not passed and its PC lies in
its code segment (R38, R56, R102). -/
def State.Ready (s : State) (l : Nat) : Prop :=
  (s.loop l).executing = true ∧ s.overdue (s.loop l) = false ∧ (s.loop l).pc < (s.loop l).codeSize

/-- `new` has the FLG bits that `f` names and every other bit of `old`. -/
def FlagsAre (old new : Word) (f : Nat → Option Bool) : Prop := ∀ i, i < 32 → bitAt new i = (f i).getD (bitAt old i)

/-- Loop `l` retired an instruction that wrote `v` to gd (g0 reads 0 and takes no write) and FLG, took `n` cycles and went on to
the next word; its other registers, the rest of the loop and of the machine are as they were. -/
def State.Retired (l : Nat) (d : Reg) (v flg : Word) (n : Nat) (s t : State) : Prop :=
  t = s.setLoop l (t.loop l) ∧
  (∀ r : Reg, (t.loop l).rg r = if r = 0 then 0 else if r = d then v else (s.loop l).rg r) ∧
  t.loop l = { s.loop l with
    g := (t.loop l).g, flg := flg, pc := ((s.loop l).pc + 4) % 0x100000000, cycles := (s.loop l).cycles + n }

/-- `new` has the FLG bits that `f` names; of the others a sticky FP32 flag (bits 5 to 9) may be set and is never cleared, and the
rest are those of `old` (R61). -/
def FlagsStick (old new : Word) (f : Nat → Option Bool) : Prop :=
  ∀ i, i < 32 → if 5 ≤ i ∧ i ≤ 9 then bitAt old i = true → bitAt new i = true else bitAt new i = (f i).getD (bitAt old i)

/-- The data segment `new` holds these words at their addresses in the loop's view, and everywhere else the bytes of `old`. -/
def WordsWritten (ws : List (Nat × Word)) (old new : SMap Byte) : Prop :=
  (∀ e ∈ ws, memWord new (e.1 - 0x10000) = e.2) ∧
  ∀ k, (∀ e ∈ ws, k < e.1 - 0x10000 ∨ e.1 - 0x10000 + 4 ≤ k) → mget 0 k new = mget 0 k old

/-- Loop `l` retired an instruction that wrote `v` to gd and the words `ws` to its data segment, changed FLG as `f` says but for the
sticky flags its arithmetic raises, took `n` cycles and went on to the next word; nothing else of the loop or the machine
differs. -/
def State.LawDone (l : Nat) (d : Reg) (v : Word) (ws : List (Nat × Word)) (f : Nat → Option Bool) (n : Nat) (s t : State) : Prop :=
  t = s.setLoop l (t.loop l) ∧
  (∀ r : Reg, (t.loop l).rg r = if r = 0 then 0 else if r = d then v else (s.loop l).rg r) ∧
  FlagsStick (s.loop l).flg (t.loop l).flg f ∧ WordsWritten ws (s.loop l).data (t.loop l).data ∧
  t.loop l = { s.loop l with
    g := (t.loop l).g, flg := (t.loop l).flg, data := (t.loop l).data, pc := ((s.loop l).pc + 4) % 0x100000000,
    cycles := (s.loop l).cycles + n }

/-- `size` bytes at an address of the loop's view lie in its data segment, at a multiple of `align`. -/
def Loop.HasBlock (L : Loop) (a size align : Nat) : Prop := 0x10000 ≤ a ∧ a + size ≤ 0x10000 + L.decl.dsize ∧ a % align = 0

/-! ### Invariants -/

/-- The DTB is a multiple of 8 ns below 2^64 (R23, R443). -/
def State.DtbOk (s : State) : Prop := s.dtb % 8 = 0 ∧ s.dtb < 0x10000000000000000

end Sys2Proof.Machine
end

