-- ==== Sys2Proof/Certificates/Slice0/Obligations.lean ====
section
/-! DEFINITION. The statements for the provers. -/

open Sys2Proof Sys2Proof.Machine

/-- Integer instructions on two registers and with an immediate (R68, R73, Table 2.7; flags R61; g0 R59), and divisions (R74). -/
def Obligations.IntegerResults : Prop :=
  (∀ (s : State) (l : Nat) (d a b : Reg), s.Ready l →
    let x := (s.loop l).rg a
    let y := (s.loop l).rg b
    let zn (i : Instr) (v : Word) (n : Nat) : Prop := ∃ t, exec i s = .next t ∧ State.Retired l d v (t.loop l).flg n s t ∧
      FlagsAre (s.loop l).flg (t.loop l).flg fun k => if k = 0 then some (decide (v = 0)) else if k = 1 then some v.msb else none
    let zncv (i : Instr) (v : Word) (c o : Bool) : Prop := ∃ t, exec i s = .next t ∧ State.Retired l d v (t.loop l).flg 1 s t ∧
      FlagsAre (s.loop l).flg (t.loop l).flg fun k => if k = 0 then some (decide (v = 0)) else if k = 1 then some v.msb
        else if k = 2 then some c else if k = 3 then some o else none
    zncv (.add l d a b) (x + y) (decide (2 ^ 32 ≤ x.toNat + y.toNat)) (decide (x.toInt + y.toInt ≠ (x + y).toInt)) ∧
    zncv (.sub l d a b) (x - y) (decide (y.toNat ≤ x.toNat)) (decide (x.toInt - y.toInt ≠ (x - y).toInt)) ∧
    zn (.andI l d a b) (x &&& y) 1 ∧ zn (.orI l d a b) (x ||| y) 1 ∧ zn (.xor l d a b) (x ^^^ y) 1 ∧
    zn (.shl l d a b) (x <<< (y.toNat % 32)) 1 ∧ zn (.shr l d a b) (x >>> (y.toNat % 32)) 1 ∧
    zn (.sar l d a b) (x.sshiftRight (y.toNat % 32)) 1 ∧
    zn (.slt l d a b) (if x.toInt < y.toInt then 1 else 0) 1 ∧ zn (.sltu l d a b) (if x.toNat < y.toNat then 1 else 0) 1 ∧
    zn (.mul l d a b) (BitVec.ofNat 32 (x.toNat * y.toNat)) 2 ∧
    zn (.mulh l d a b) (BitVec.ofInt 32 (x.toInt * y.toInt / 2 ^ 32)) 2 ∧
    zn (.mulhu l d a b) (BitVec.ofNat 32 (x.toNat * y.toNat / 2 ^ 32)) 2 ∧
    zn (.min l d a b) (if y.toInt < x.toInt then y else x) 1 ∧ zn (.max l d a b) (if x.toInt < y.toInt then y else x) 1) ∧
  (∀ (s : State) (l : Nat) (d a : Reg) (imm : BitVec 15) (n : BitVec 5) (up : BitVec 20), s.Ready l →
    let x := (s.loop l).rg a
    let sx : Word := BitVec.ofInt 32 imm.toInt
    let zx : Word := BitVec.ofNat 32 imm.toNat
    let zn (i : Instr) (v : Word) : Prop := ∃ t, exec i s = .next t ∧ State.Retired l d v (t.loop l).flg 1 s t ∧
      FlagsAre (s.loop l).flg (t.loop l).flg fun k => if k = 0 then some (decide (v = 0)) else if k = 1 then some v.msb else none
    (∃ t, exec (.addi l d a imm) s = .next t ∧ State.Retired l d (x + sx) (t.loop l).flg 1 s t ∧
      FlagsAre (s.loop l).flg (t.loop l).flg fun k => if k = 0 then some (decide (x + sx = 0)) else if k = 1 then some (x + sx).msb
        else if k = 2 then some (decide (2 ^ 32 ≤ x.toNat + sx.toNat))
        else if k = 3 then some (decide (x.toInt + imm.toInt ≠ (x + sx).toInt)) else none) ∧
    zn (.andi l d a imm) (x &&& zx) ∧ zn (.ori l d a imm) (x ||| zx) ∧ zn (.xori l d a imm) (x ^^^ zx) ∧
    zn (.slti l d a imm) (if x.toInt < imm.toInt then 1 else 0) ∧
    zn (.shli l d a n) (x <<< n.toNat) ∧ zn (.shri l d a n) (x >>> n.toNat) ∧ zn (.sari l d a n) (x.sshiftRight n.toNat) ∧
    zn (.lui l d up) (BitVec.ofNat 32 (up.toNat * 4096))) ∧
  (∀ (s : State) (l : Nat) (d a b : Reg), s.Ready l →
    let x := (s.loop l).rg a
    let y := (s.loop l).rg b
    let res (i : Instr) (v : Word) (o : Bool) : Prop := ∃ t, exec i s = .next t ∧ State.Retired l d v (t.loop l).flg 18 s t ∧
      FlagsAre (s.loop l).flg (t.loop l).flg fun k => if k = 0 then some (decide (v = 0)) else if k = 1 then some v.msb
        else if k = 3 then some o else none
    let ovf := x = 0x80000000 ∧ y = 0xFFFFFFFF
    (y = 0 → res (.div l d a b) 0 true ∧ res (.divu l d a b) 0 true ∧ res (.rem l d a b) x true ∧ res (.remu l d a b) x true) ∧
    (ovf → res (.div l d a b) 0x80000000 true ∧ res (.rem l d a b) 0 true) ∧
    (y ≠ 0 → ¬ovf → res (.div l d a b) (BitVec.ofInt 32 (x.toInt.tdiv y.toInt)) false ∧
      res (.rem l d a b) (BitVec.ofInt 32 (x.toInt.tmod y.toInt)) false) ∧
    (y ≠ 0 → res (.divu l d a b) (BitVec.ofNat 32 (x.toNat / y.toNat)) false ∧
      res (.remu l d a b) (BitVec.ofNat 32 (x.toNat % y.toNat)) false))

/-- FP32 instructions (R61, R75, R76, Table 2.8).  FABS and FNEG of a NaN or a subnormal are the model's choice (log 86). -/
def Obligations.FpResults : Prop :=
  ∀ (s : State) (l : Nat) (d a b : Reg), s.Ready l →
    let x := (s.loop l).rg a
    let y := (s.loop l).rg b
    let res (i : Instr) (m : FpM Word) (n : Nat) : Prop := ∃ t, exec i s = .next t ∧
      State.Retired l d (fpRun m).1 ((s.loop l).flg ||| BitVec.ofNat 32 (fpRun m).2) n s t
    let plain (i : Instr) (v : Word) : Prop := ∃ t, exec i s = .next t ∧ State.Retired l d v (s.loop l).flg 1 s t
    res (.fadd l d a b) (fadd x y) 3 ∧ res (.fsub l d a b) (fsub x y) 3 ∧ res (.fmul l d a b) (fmul x y) 3 ∧
    res (.fdiv l d a b) (fdiv x y) 12 ∧ res (.fsqrt l d a) (fsqrt x) 14 ∧
    res (.fma l d a b) (ffma ((s.loop l).rg d) x y) 4 ∧ res (.fmin l d a b) (fmin x y) 1 ∧
    res (.fmax l d a b) (fmax x y) 1 ∧ res (.fcvti l d a) (fcvti x) 2 ∧ res (.fcvtf l d a) (fcvtf x) 2 ∧
    plain (.fabs l d a) (x &&& 0x7FFFFFFF) ∧ plain (.fneg l d a) (x ^^^ 0x80000000)

/-- FCMP (R77). -/
def Obligations.CompareFlags : Prop :=
  ∀ (s : State) (l : Nat) (a b : Reg), s.Ready l →
    let x := (s.loop l).rg a
    let y := (s.loop l).rg b
    let nan := fpIsNaN x || fpIsNaN y
    let order (w : Word) : Int := match fpRead w with
      | .inf true => -2 ^ 300
      | .inf false => 2 ^ 300
      | v => fpScaled v
    let sig := (fpRead x).isSignalling || (fpRead y).isSignalling
    ∃ t, exec (.fcmp l a b) s = .next t ∧ State.Retired l 0 0 (t.loop l).flg 1 s t ∧
      FlagsAre (s.loop l).flg (t.loop l).flg fun k =>
        if k = 0 then some (!nan && decide (order x = order y))
        else if k = 1 then some (!nan && decide (order x < order y))
        else if k = 3 then some nan
        else if k = 9 then (if sig then some true else none) else none

/-- Rounding, NaN and subnormal results (R75). -/
def Obligations.RoundingAndNaN : Prop :=
  (∀ (m : Nat) (e : Int), 0 < m →
    let r := fpRound24 m e false
    2 ^ 23 ≤ r.1 ∧ r.1 < 2 ^ 24 ∧
    (r.2.1 ≤ e → r.1 = m * 2 ^ (e - r.2.1).toNat ∧ r.2.2 = false) ∧
    (e < r.2.1 → let p := 2 ^ (r.2.1 - e).toNat
      2 * (r.1 * p - m) ≤ p ∧ 2 * (m - r.1 * p) ≤ p ∧ (r.2.2 = true ↔ r.1 * p ≠ m) ∧
      (2 * (r.1 * p - m) = p ∨ 2 * (m - r.1 * p) = p → r.1 % 2 = 0))) ∧
  (∀ (op : Word → Word → FpM Word), op ∈ [fadd, fsub, fmul, fdiv] → ∀ x y : Word,
    let r := fpRun (op x y)
    let sig := (fpRead x).isSignalling || (fpRead y).isSignalling
    ((fpIsNaN x || fpIsNaN y) = true → r.1 = 0x7FC00000 ∧ r.2 = if sig then 0x200 else 0) ∧
    (fpIsNaN r.1 = true → r.1 = 0x7FC00000) ∧
    (fld r.1 30 23 = 0 → fld r.1 22 0 = 0))

/-- The exact result, rounded (R75, R76). -/
def Obligations.FpRoundsTheExactResult : Prop :=
  -- the value of a finite word: a subnormal reads as 0
  let val (w : Word) : ℝ := if fld w 30 23 = 0 then 0
    else (if bitAt w 31 then -1 else 1) * ((2 ^ 23 + fld w 22 0 : ℕ) : ℝ) * (2 : ℝ) ^ ((fld w 30 23 : ℤ) - 150)
  -- q times 2^e is a positive v rounded to 24 bits; below 2^23 times 2^e the steps are half as wide
  let near (v : ℝ) (q : ℕ) (e : ℤ) : Prop := 2 ^ 23 ≤ q ∧ q < 2 ^ 24 ∧ 2 * |v - q * (2 : ℝ) ^ e| ≤ (2 : ℝ) ^ e ∧
    (2 * |v - q * (2 : ℝ) ^ e| = (2 : ℝ) ^ e → q % 2 = 0) ∧ (q = 2 ^ 23 → 4 * (q * (2 : ℝ) ^ e - v) ≤ (2 : ℝ) ^ e)
  let gives (v : ℝ) (r : Word × Nat) : Prop :=
    (v = 0 → fld r.1 30 0 = 0 ∧ r.2 = 0) ∧
    (v ≠ 0 → ∃ (q : ℕ) (e : ℤ), near (|v|) q e ∧ (bitAt r.1 31 = true ↔ v < 0) ∧
      (255 ≤ e + 150 → fld r.1 30 0 = 0x7F800000 ∧ r.2 = 0xA0) ∧
      (e + 150 ≤ 0 → fld r.1 30 0 = 0 ∧ r.2 = 0x60) ∧
      (0 < e + 150 → e + 150 < 255 → (fld r.1 30 23 : ℤ) = e + 150 ∧ fld r.1 22 0 + 2 ^ 23 = q ∧
        (q * (2 : ℝ) ^ e = |v| → r.2 = 0) ∧ (q * (2 : ℝ) ^ e ≠ |v| → r.2 = 0x20)))
  ∀ x y z : Word, fld x 30 23 < 255 → fld y 30 23 < 255 → fld z 30 23 < 255 →
    gives (val x + val y) (fpRun (fadd x y)) ∧ gives (val x - val y) (fpRun (fsub x y)) ∧
    gives (val x * val y) (fpRun (fmul x y)) ∧ (val y ≠ 0 → gives (val x / val y) (fpRun (fdiv x y))) ∧
    (val y = 0 → val x ≠ 0 → fld (fpRun (fdiv x y)).1 30 0 = 0x7F800000 ∧ (fpRun (fdiv x y)).2 = 0x100) ∧
    gives (val z + val x * val y) (fpRun (ffma z x y)) ∧ (0 ≤ val x → gives (Real.sqrt (val x)) (fpRun (fsqrt x)))

/-- Branches and jumps (R82, R83, Table 2.10) and system instructions (Tables 2.3 and 2.11, R69, R72).  DL of the traps rests on logs 7
and 11. -/
def Obligations.BranchesJumpsAndSystem : Prop :=
  (∀ (s : State) (l : Nat) (a b : Reg) (n : BitVec 5) (off : BitVec 15), s.Ready l →
    let L := s.loop l
    let x := L.rg a
    let y := L.rg b
    let target := (((L.pc : Int) + 4 * off.toInt) % 2 ^ 32).toNat
    let goes (i : Instr) (pc n : Nat) : Prop :=
      exec i s = .next (s.setLoop l { L with pc := pc, cycles := L.cycles + n })
    let branch (i : Instr) (c : Prop) : Prop :=
      (¬c → goes i ((L.pc + 4) % 2 ^ 32) 1) ∧ (c → target < L.codeSize → target % 4 = 0 → goes i target 2) ∧
      (c → L.codeSize ≤ target → exec i s =
        .next (s.takeTrap l ⟨2, 1, target⟩ (s.late L 2) (encodeInstr i)))
    branch (.beq l a b off) (x = y) ∧ branch (.bne l a b off) (x ≠ y) ∧
    branch (.blt l a b off) (x.toInt < y.toInt) ∧ branch (.bge l a b off) (y.toInt ≤ x.toInt) ∧
    branch (.bltu l a b off) (x.toNat < y.toNat) ∧ branch (.bgeu l a b off) (y.toNat ≤ x.toNat) ∧
    branch (.bfs l n off) (bitAt L.flg n.toNat = true) ∧ branch (.bfc l n off) (bitAt L.flg n.toNat = false)) ∧
  (∀ (s : State) (l : Nat) (d a : Reg) (off : BitVec 20) (imm : BitVec 15), s.Ready l →
    let L := s.loop l
    let jumps (i : Instr) (target : Nat) : Prop :=
      (target < L.codeSize → target % 4 = 0 → ∃ t, exec i s = .next t ∧ t = s.setLoop l (t.loop l) ∧
        (∀ r : Reg, (t.loop l).rg r = if r = 0 then 0 else if r = d then BitVec.ofNat 32 (L.pc + 4) else L.rg r) ∧
        t.loop l = { L with g := (t.loop l).g, pc := target, cycles := L.cycles + 2 }) ∧
      (L.codeSize ≤ target → exec i s =
        .next (s.takeTrap l ⟨2, 1, target⟩ (s.late L 2) (encodeInstr i))) ∧
      (target < L.codeSize → target % 4 ≠ 0 → exec i s =
        .next (s.takeTrap l ⟨3, 0, target⟩ (s.late L 2) (encodeInstr i)))
    jumps (.jal l d off) (((L.pc : Int) + 4 * off.toInt) % 2 ^ 32).toNat ∧
    jumps (.jalr l d a imm) (L.rg a + BitVec.ofInt 32 imm.toInt).toNat) ∧
  (∀ (s : State) (l : Nat) (d a : Reg) (n : BitVec 5) (word : Word), s.Ready l →
    let L := s.loop l
    let late (k : Nat) := s.late L k
    let value (k : Nat) : Option Word :=
      [some (w32 L.pc), some L.flg, some (w32 L.per), some (w32 (L.cell % 1024)), some (w32 ((s.cell L.cell).inc % 65536)),
        none, none, none, some L.ts, some (w32 L.start), some (w32 (L.start / 2 ^ 32)), some (w32 s.dtb), some L.nowh,
        some (w32 l)].getD k none
    (∃ t, exec (.nop l) s = .next t ∧ State.Retired l 0 0 L.flg 1 s t) ∧
    (∃ t, exec (.mtf l a) s = .next t ∧ State.Retired l 0 0 (L.rg a &&& 0xFFEF) 1 s t) ∧
    (∀ v, value n.toNat = some v → n ≠ 11 → ∃ t, exec (.mfs l d n) s = .next t ∧
      State.Retired l d v L.flg (if n = 12 then 6 else 1) s t) ∧
    (∃ t, exec (.mfs l d 11) s = .next t ∧ (t.loop l).nowh = w32 (s.dtb / 2 ^ 32) ∧
      State.Retired l d (w32 s.dtb) L.flg 6 (s.setLoop l { L with nowh := w32 (s.dtb / 2 ^ 32) }) t) ∧
    (value n.toNat = none → exec (.mfs l d n) s = .next (s.takeTrap l ⟨1, 0, 0⟩ (late 1) (encodeInstr (.mfs l d n)))) ∧
    (exec (.trap l n) s = .next (s.takeTrap l ⟨6, n.toNat, 0⟩ (late 1) (encodeInstr (.trap l n)))) ∧
    (decodeMbarov l word = none → exec (.illegalInstruction l word) s = .next (s.takeTrap l ⟨1, 0, 0⟩ (late 1) word)) ∧
    (∀ (imm : BitVec 15) (i : Instr), let addr := (L.rg a + BitVec.ofInt 32 imm.toInt).toNat
      i ∈ [.ldw l d a imm .ok, .stw l d a imm .ok] → 0x40000000 ≤ addr → addr % 4 = 0 → inExtent addr = true →
      s.pageGranted L.cell addr = true → exec (.registerAccessTimeout l (encodeInstr i) addr) s =
        .next (s.takeTrap l ⟨4, 0, addr⟩ (decide (L.decl.wcet ≤ L.cycles + (4096 * s.coreMHz + 749) / 750 ∨ s.onSafe = true ∧
          L.decl.wcet ≤ L.cycles + 4096)) (encodeInstr i))))

/-- WAIT and its retirement (R99, R160, R166). -/
def Obligations.WaitEndsThePeriod : Prop :=
  ∀ (s : State) (l : Nat) (d : Reg),
    let L := s.loop l
    (s.Ready l → ∃ t, exec (.wait l d) s = .next t ∧ t = s.setLoop l (t.loop l) ∧
      (t.loop l).ckpt = L.ckpt ∧ (t.loop l).waiting = some d.toNat ∧ (t.loop l).inPeriod = true ∧
      (t.loop l).cycles = L.cycles + 49 + L.decl.dsize / 32 ∧
      (let c := if L.useB then (t.loop l).ckptA else (t.loop l).ckptB
       c.g = L.g ∧ c.pc = L.pc + 4 ∧ c.flg = L.flg ∧ c.per = L.per ∧ c.data = L.data ∧ c.gd = d.toNat ∧ c.start = L.start)) ∧
    (L.inPeriod = true → L.waiting.isSome = true → s.overdue L = false → s.storesPosted l = false → L.stopReq = false →
      L.cmdSusp = false → L.t4Susp = false → ∃ t, exec (.waitRetire l) s = .next t ∧
      (t.loop l).inPeriod = false ∧ (t.loop l).waiting = none ∧ (t.loop l).useB = !L.useB ∧ (t.loop l).consec = 0 ∧
      (t.loop l).outs = [] ∧ (t.loop l).g = L.g ∧ (t.loop l).data = L.data ∧ State.Only [.loops, .pairs, .placer, .act] s t)

/-- Traps (R102, R104, Tables 2.16 and 2.17). -/
def Obligations.TrapTaking : Prop :=
  (∀ (s : State) (l : Nat) (x : Trap) (dl : Bool) (word : Word),
    let L := s.loop l
    let t := s.takeTrap l x dl word
    (t.loop l).inPeriod = false ∧ (t.loop l).waiting = none ∧ (t.loop l).outs = [] ∧ (t.loop l).cause = x.cause ∧
    (t.loop l).consec = min 255 (L.consec + 1) ∧ (t.loop l).total = min 65535 (L.total + 1) ∧
    (t.loop l).ckpt = L.ckpt ∧ (t.loop l).g = L.g ∧ (t.loop l).pc = L.pc ∧
    (∀ n ∈ L.outs, ∀ w ∈ (t.slot n).next, w.per ≠ L.per ∧ w ∈ (s.slot n).next) ∧
    ∃ rest, t.recd.handed = s.recd.handed ++ s.event Ev.LOOP_TRAP L.cell
      ([w32 x.cause, w32 x.sub, w32 dl.toNat, w32 l, w32 L.cell, w32 (s.cell L.cell).inc, w32 L.per, w32 L.pc, word, w32 x.addr] ++
        dtbWords s.dtb) :: rest) ∧
  (∀ (s : State) (l : Nat),
    let L := s.loop l
    exec (.deadlineTrap l) s = .next (if s.overdue L then s.takeTrap l ⟨7, 0, 0⟩ true (L.wordAt L.pc) else s))

/-- Loads (R37, R40, R67, R79, R80, Tables 2.6 and 2.9; little-endian R9). -/
def Obligations.LoadsDeliverMemory : Prop :=
  ∀ (s : State) (l : Nat) (d a : Reg) (imm : BitVec 15), s.Ready l →
    let L := s.loop l
    let at' := (L.rg a + BitVec.ofInt 32 imm.toInt).toNat
    let half (b : Nat → Nat) : Nat := b 0 + 256 * b 1
    -- each load: its size, and the word it makes of the bytes
    let forms : List (Nat × Instr × ((Nat → Nat) → Word)) :=
      [(4, .ldw l d a imm .ok, fun b => BitVec.ofNat 32 (b 0 + 256 * b 1 + 256 ^ 2 * b 2 + 256 ^ 3 * b 3)),
       (2, .ldh l d a imm .ok, fun b => BitVec.ofInt 32 (if half b < 0x8000 then half b else (half b : Int) - 0x10000)),
       (2, .ldhu l d a imm .ok, fun b => BitVec.ofNat 32 (half b)),
       (1, .ldb l d a imm .ok, fun b => BitVec.ofInt 32 (if b 0 < 0x80 then b 0 else (b 0 : Int) - 0x100)),
       (1, .ldbu l d a imm .ok, fun b => BitVec.ofNat 32 (b 0))]
    -- the loop goes on with `v` in gd, `lo` to `hi` cycles counted
    let delivers (t : State) (v : Word) (lo hi : Nat) : Prop :=
      (∀ r : Reg, (t.loop l).rg r = if r = 0 then 0 else if r = d then v else L.rg r) ∧
      ∃ k, lo ≤ k ∧ k ≤ hi ∧ t.loop l = { L with g := (t.loop l).g, pc := (L.pc + 4) % 2 ^ 32, cycles := L.cycles + k }
    let c := L.cell
    let off := at' - 0x20000000
    let seen := s.seen l
    let w := s.viewWord c at'
    (∀ f ∈ forms, at' % f.1 = 0 →
      (at' + f.1 ≤ L.codeSize → ∃ t, exec f.2.1 s = .next t ∧
        State.Retired l d (f.2.2 fun k => (mget 0 (at' + k) L.code).toNat) L.flg 2 s t) ∧
      (L.codeSize < at' + f.1 → 0x10000 ≤ at' → at' + f.1 ≤ 0x10000 + L.decl.dsize → ∃ t, exec f.2.1 s = .next t ∧
        State.Retired l d (f.2.2 fun k => (mget 0 (at' - 0x10000 + k) L.data).toNat) L.flg 2 s t) ∧
      (L.codeSize < at' + f.1 → 0x10000 + L.decl.dsize < at' + f.1 →
        (0x20000000 ≤ at' → at' + f.1 ≤ 0x20000000 + (s.cell c).mem * 0x10000 → at' + f.1 ≤ 0x30000000 →
          (seen.badWords.contains (off / 4) = false → ∃ t, exec f.2.1 s = .next t ∧ State.Only [.loops, .drawn] s t ∧
            delivers t (f.2.2 fun k => (mget 0 (off + k) seen.shared).toNat)
              (if off < (s.cell c).fast * 0x10000 then 12 else 60) (if off < (s.cell c).fast * 0x10000 then 40 else 900)) ∧
          (seen.badWords.contains (off / 4) = true → ∃ t, exec f.2.1 s = .next t ∧ (t.loop l).cause = 4 ∧
            (t.loop l).inPeriod = false ∧ (t.loop l).g = L.g)) ∧
        (0x10000000 ≤ at' ∧ at' + f.1 ≤ 0x20000000 ∨ 0x30000000 ≤ at' ∧ at' + f.1 ≤ 0x40000000 →
          ∃ t, exec f.2.1 s = .next t ∧ State.Only [.loops, .drawn] s t ∧
            delivers t (f.2.2 fun k => w.toNat / 256 ^ (at' % 4 + k) % 256) 80 1200))) ∧
    -- the loop's own posted stores, the latest last
    (∀ k, (∀ x ∈ s.postedBy l, k < x.offset ∨ x.offset + x.bytes.length ≤ k) →
      mget 0 k seen.shared = mget 0 k (s.cell c).shared) ∧
    (∀ (pre post : List Posted) (x : Posted) (k : Nat), s.postedBy l = pre ++ x :: post →
      (∀ y ∈ post, k < y.offset ∨ y.offset + y.bytes.length ≤ k) → x.offset ≤ k → k < x.offset + x.bytes.length →
      mget 0 k seen.shared = x.bytes.getD (k - x.offset) 0) ∧
    (0x10000000 ≤ at' → at' < 0x20000000 → let n := (at' - 0x10000000) / 0x100
      w = if s.nodeGranted c n then s.fiRead (fiNode n + at' % 0x100 / 4) else 0) ∧
    (0x30000000 ≤ at' → at' < 0x40000000 → let v := at' - 0x30000000
      (v < 0x18000 → w = if s.feGranted c (v / 0x200) then s.fiRead (fiFe (v / 0x200) + v % 0x200 / 4) else 0) ∧
      (0x100000 ≤ v → v < 0x140000 → let m := v - 0x100000
        w = if s.colGranted c (m / 0x4000) then s.fiRead (fiCol (m / 0x4000) + m % 0x4000 / 4) else 0) ∧
      (0x18000 ≤ v → v < 0x100000 ∨ 0x140000 ≤ v → w = 0)) ∧
    (0x40000000 ≤ at' → L.codeSize ≤ at' → 0x10000 + L.decl.dsize ≤ at' → 0x20000000 + (s.cell c).mem * 0x10000 ≤ at' →
      at' % 4 = 0 → inExtent at' = true → s.pageGranted c at' = true →
        let u := (s.draw).regRead (.loop l) at'
        ∃ t, exec (.ldw l d a imm .ok) s = .next t ∧ t = u.setLoop l (t.loop l) ∧ delivers t u.answer 20 400)

/-- Stores to the data segment (R79, Table 2.9). -/
def Obligations.StoresToTheDataSegment : Prop :=
  ∀ (s : State) (l : Nat) (d a : Reg) (imm : BitVec 15), s.Ready l →
    let L := s.loop l
    let at' := (L.rg a + BitVec.ofInt 32 imm.toInt).toNat
    let stores (n : Nat) (i : Instr) : Prop :=
      L.codeSize < at' + n → 0x10000 ≤ at' → at' + n ≤ 0x10000 + L.decl.dsize → at' % n = 0 →
        ∃ t, exec i s = .next t ∧ t = s.setLoop l (t.loop l) ∧
          t.loop l = { L with data := (t.loop l).data, pc := (L.pc + 4) % 2 ^ 32, cycles := L.cycles + 1 } ∧
          ∀ k, mget 0 k (t.loop l).data =
            if at' - 0x10000 ≤ k ∧ k < at' - 0x10000 + n then BitVec.ofNat 8 ((L.rg d).toNat / 256 ^ (k - (at' - 0x10000)))
            else mget 0 k L.data
    stores 4 (.stw l d a imm .ok) ∧ stores 2 (.sth l d a imm .ok) ∧ stores 1 (.stb l d a imm .ok)

/-- Bad accesses (R14, R40, R66, R79, R103, Tables 2.4, 2.9 and 2.16).  The order of the checks is log 12, the cycles that DL counts are log
11. -/
def Obligations.BadAccessesTrap : Prop :=
  ∀ (s : State) (l : Nat) (d a : Reg) (imm : BitVec 15) (e : Ecc), s.Ready l →
    let L := s.loop l
    let at' := (L.rg a + BitVec.ofInt 32 imm.toInt).toNat
    let code (x : Nat) : Bool := decide (x < L.codeSize)
    let data (x : Nat) : Bool := !code x && decide (0x10000 ≤ x ∧ x < 0x10000 + L.decl.dsize)
    let view (x : Nat) : Bool := !code x && !data x && decide (0x10000000 ≤ x ∧ x < 0x20000000 ∨ 0x30000000 ≤ x ∧ x < 0x40000000)
    let shared (x : Nat) : Bool := !code x && !data x && !view x &&
      decide (0x20000000 ≤ x ∧ x < 0x20000000 + (s.cell L.cell).mem * 0x10000)
    let all (n : Nat) (p : Nat → Bool) : Bool := (List.range n).all fun k => p (at' + k)
    let traps (i : Instr) (cause sub k : Nat) : Prop :=
      exec i s = .next (s.takeTrap l ⟨cause, sub, at'⟩ (s.late L k) (encodeInstr i))
    -- the register area: refused for its form, or for its page
    let regs (n sub : Nat) (i : Instr) : Prop :=
      0x40000000 ≤ at' → L.codeSize ≤ at' → 0x10000 + L.decl.dsize ≤ at' → 0x20000000 + (s.cell L.cell).mem * 0x10000 ≤ at' →
        (n ≠ 4 ∨ at' % 4 ≠ 0 ∨ inExtent at' = false → traps i 2 sub 20) ∧
        (n = 4 → at' % 4 = 0 → inExtent at' = true → s.pageGranted L.cell at' = false →
          exec i s = .next ((s.pageDenied L.cell at').takeTrap l ⟨2, 4, at'⟩ (s.late L 20) (encodeInstr i)))
    let load (n : Nat) (i : Instr) : Prop :=
      let reached := all n fun x => code x || data x || view x || shared x
      regs n 2 i ∧ (at' < 0x40000000 → (reached = false → traps i 2 2 2) ∧ (reached = true → at' % n ≠ 0 → traps i 3 0 2))
    let store (n : Nat) (i : Instr) : Prop :=
      let inView := !(all n fun x => !view x)
      let written := all n fun x => data x || shared x
      regs n 3 i ∧ (at' < 0x40000000 → (inView = true → traps i 2 7 1) ∧ (inView = false → written = false → traps i 2 3 1) ∧
        (written = true → at' % n ≠ 0 → traps i 3 0 1))
    load 4 (.ldw l d a imm e) ∧ load 2 (.ldh l d a imm e) ∧ load 2 (.ldhu l d a imm e) ∧
    load 1 (.ldb l d a imm e) ∧ load 1 (.ldbu l d a imm e) ∧
    store 4 (.stw l d a imm e) ∧ store 2 (.sth l d a imm e) ∧ store 1 (.stb l d a imm e)

/-- Posted stores (R67, R81), and the store to a register, which waits for them. -/
def Obligations.SharedDataStoresArePosted : Prop :=
  (∀ (s : State) (l : Nat) (d a : Reg) (imm : BitVec 15), s.Ready l →
    let L := s.loop l
    let at' := (L.rg a + BitVec.ofInt 32 imm.toInt).toNat
    let off := at' - 0x20000000
    let x := s.pair L.pair
    let queued (p : Nat) : Prop := ∃ y ∈ (s.pair p).queue, y.loop = l
    let posts (n : Nat) (i : Instr) : Prop :=
      0x20000000 ≤ at' → at' + n ≤ 0x20000000 + (s.cell L.cell).mem * 0x10000 → at' + n ≤ 0x30000000 → at' % n = 0 →
      L.codeSize ≤ at' → 0x10000 + L.decl.dsize ≤ at' →
        ∃ t k, exec i s = .next t ∧ State.Only [.loops, .pairs, .cells, .drawn] s t ∧
          ((∀ p, p < 32 → p ≠ L.pair → ¬ queued p) → (∀ p, p ≠ L.pair → t.pair p = s.pair p) ∧
            (x.queue.length < 16 → t.cells = s.cells)) ∧
          (∀ p, p < 32 → p ≠ L.pair → ∀ y ∈ (t.pair p).queue, y.loop ≠ l) ∧
          t.loop l = { L with pc := (L.pc + 4) % 2 ^ 32, cycles := L.cycles + k } ∧
          t.pair L.pair = { x with queue := (if x.queue.length < 16 then x.queue else x.queue.tail) ++
            [⟨l, L.cell, (s.cell L.cell).inc, off, bytesOf n (L.rg d).toNat⟩] } ∧
          (x.queue.length < 16 → k = 1) ∧
          (16 ≤ x.queue.length → 1 ≤ k ∧ k ≤ if off < (s.cell L.cell).fast * 0x10000 then 40 else 900)
    posts 4 (.stw l d a imm .ok) ∧ posts 2 (.sth l d a imm .ok) ∧ posts 1 (.stb l d a imm .ok) ∧
    (0x40000000 ≤ at' → L.codeSize ≤ at' → 0x10000 + L.decl.dsize ≤ at' → 0x20000000 + (s.cell L.cell).mem * 0x10000 ≤ at' →
      at' % 4 = 0 → inExtent at' = true → s.pageGranted L.cell at' = true → at' ≠ Reg.HWK_SUBMIT →
        ∃ u k, State.Only [.loops, .pairs, .cells, .drawn] s u ∧ 20 ≤ k ∧ k ≤ 400 ∧ (u.pair L.pair).queue = [] ∧
          (∀ p, p < 32 → ∀ y ∈ (u.pair p).queue, y.loop ≠ l) ∧
          u.loop l = { L with pc := (L.pc + 4) % 2 ^ 32, cycles := L.cycles + k } ∧
          exec (.stw l d a imm .ok) s = .next (u.regWrite (.loop l) at' (L.rg d)))) ∧
  ∀ (s : State) (p : Nat) (x : Posted) (rest : List Posted), p < 32 → (s.pair p).queue = x :: rest →
    ∃ t, exec (.postedStoreAccepted p) s = .next t ∧ State.Only [.pairs, .cells] s t ∧
      t.pair p = { s.pair p with queue := rest } ∧ (∀ q, q ≠ p → t.pair q = s.pair q) ∧ (∀ c, c ≠ x.cell → t.cell c = s.cell c) ∧
      ∀ k, mget 0 k (t.cell x.cell).shared =
        if h : x.offset ≤ k ∧ k < x.offset + x.bytes.length then x.bytes[k - x.offset]'(by omega)
        else mget 0 k (s.cell x.cell).shared

/-- PIDS (R109 to R114, R130), and the checks of a law block (R85, R86).  INI on the path of a NaN is log 18, the cycles that DL counts are
log 11. -/
def Obligations.PidStep : Prop :=
  (∀ (s : State) (l : Nat) (d a b c : Reg) (m : BitVec 5), s.Ready l → m.toNat / 8 < 3 →
    let L := s.loop l
    let at' := (L.rg a).toNat
    let f (k : Nat) := L.dw (at' + 4 * k)
    let y := L.rg b
    let r := L.rg c
    let h := L.ts
    let st := f 12
    let inRange := (∀ k, k < 10 → fpIsFinite (f k) = true) ∧ fpLt (f 3) 0 = false ∧ fpLt (f 3) 0x3F800000 = true ∧
      fpGt (f 4) (f 5) = false
    let freeze := m.getLsbD 0
    let track := m.getLsbD 1
    let init := m.getLsbD 2 && !track
    let der := m.toNat / 8
    let e := subF r y
    let p := mulF (f 0) e
    -- the derivative
    let xd := if der = 0 then y else e
    let slope := divF (mulF (f 2) (if der = 0 then subF (f 8) y else subF e (f 8))) h
    let df := if der = 2 ∨ m.getLsbD 2 = true then 0 else if bitAt st 6 then f 7 else addF slope (mulF (f 3) (subF (f 7) slope))
    -- the limits in force
    let lo := f 4
    let hi := if bitAt st 5 then (fpRun (fmax lo (fpRun (fmin (f 5) (f 10))).1)).1 else f 5
    let clamp (x : Word) : Word := if fpIsNaN x then fpFlush lo else (fpRun (fmin (fpRun (fmax x lo)).1 hi)).1
    -- the integrator
    let aim := if fpIsNaN (f 10) then f 9 else f 10
    let bump := !track && !init && f 11 != 0
    let di := mulF (mulF (f 1) e) h
    let v0 := addF (addF p (f 6)) df
    let frozen := track || init || bump || freeze || (fpGe v0 hi && fpGt di 0) || (fpLe v0 lo && fpLt di 0)
    let integ := if track then subF (subF (clamp aim) p) df else if init then subF aim p
      else if bump then subF (subF (f 9) p) df else if frozen then f 6 else addF (f 6) di
    let v := addF (addF p integ) df
    let sath := fpGt v hi
    let satl := fpLt v lo
    let stWord (ini sath satl frz trk nan bump bad : Bool) := BitVec.ofNat 32 (ini.toNat + 2 * sath.toNat + 4 * satl.toNat +
      8 * frz.toNat + 16 * trk.toNat + 32 * (bitAt st 5).toNat + 64 * nan.toNat + 128 * bump.toNat + 256 * bad.toNat)
    let flags (sat frz : Bool) (k : Nat) := if k = 10 then some sat else if k = 11 then some frz else none
    L.HasBlock at' 64 64 →
      (inRange → fpIsNaN y = false → fpIsNaN r = false →
        ∃ t, exec (.pids l d a b c m) s = .next t ∧ State.LawDone l d (clamp v)
          [(at' + 24, integ), (at' + 28, df), (at' + 32, if der = 2 then f 8 else xd), (at' + 36, clamp v),
           (at' + 44, if bump then 0 else f 11), (at' + 48, stWord (bitAt st 0 || init) sath satl frozen track false bump false)]
          (flags (sath || satl) frozen) 22 s t) ∧
      (inRange → fpIsNaN y = true ∨ fpIsNaN r = true → ∃ t, exec (.pids l d a b c m) s = .next t ∧
        State.LawDone l d (f 9) [(at' + 48, stWord (bitAt st 0 || init) false false true false true false false)]
          (flags false true) 22 s t) ∧
      (¬inRange → ∃ t, exec (.pids l d a b c m) s = .next t ∧ bitAt (t.loop l).flg 9 = true ∧
        State.LawDone l d 0x7FC00000
          [(at' + 36, 0x7FC00000), (at' + 48, stWord (bitAt st 0) false false true false false false true)] (flags false true) 22 s t)) ∧
  ∀ (s : State) (l : Nat) (d a b c : Reg) (m : BitVec 5) (k : SkimOp), s.Ready l →
    let L := s.loop l
    let at' := (L.rg a).toNat
    let inside (size : Nat) : Prop := 0x10000 ≤ at' ∧ at' + size ≤ 0x10000 + L.decl.dsize
    let traps (i : Instr) (cause sub cycles : Nat) : Prop :=
      exec i s = .next (s.takeTrap l ⟨cause, sub, at'⟩ (s.late L cycles) (encodeInstr i))
    let checked (i : Instr) (size align cycles : Nat) : Prop :=
      (¬inside size → traps i 2 8 cycles) ∧ (inside size → at' % align ≠ 0 → traps i 3 0 cycles)
    let n := (L.dw at').toNat
    checked (.pids l d a b c m) 64 64 22 ∧ checked (.mins l d a) 64 64 (if 2 ≤ n ∧ n ≤ 8 then 6 + 4 * n else 6) ∧
      checked (.intf l d a b c) 16 16 8 ∧ checked (.sched l d a b c) 128 64 12 ∧ checked (.skim l d a b k) 32 32 16 ∧
      checked (.slew l d a b false) 16 16 6 ∧ checked (.slew l d a b true) 16 16 6 ∧ checked (.plaus l d a b c) 32 32 10

/-- INTF, SLEW and CLMP (R89, R119, R127, R128, R130); what CLMP compares and delivers is log 16. -/
def Obligations.IntegratorSlewAndClamp : Prop :=
  ∀ (s : State) (l : Nat) (d a b c : Reg), s.Ready l →
    let L := s.loop l
    let at' := (L.rg a).toNat
    let f (k : Nat) := L.dw (at' + 4 * k)
    let clamp (x lo hi : Word) : Word := if fpIsNaN x then fpFlush lo else (fpRun (fmin (fpRun (fmax x lo)).1 hi)).1
    let flag (sat : Bool) (k : Nat) := if k = 10 then some sat else none
    (fpIsNaN (L.rg a) = false → fpGt (L.rg b) (L.rg c) = false →
      ∃ t, exec (.clmp l d a b c) s = .next t ∧ State.LawDone l d (clamp (L.rg a) (L.rg b) (L.rg c)) []
        (flag (fpLt (L.rg a) (L.rg b) || fpGt (L.rg a) (L.rg c))) 2 s t) ∧
    (fpIsNaN (L.rg a) = true → fpIsNaN (L.rg b) = false → ∃ t, exec (.clmp l d a b c) s = .next t ∧
      bitAt (t.loop l).flg 9 = true ∧ State.LawDone l d (fpFlush (L.rg b)) [] (flag true) 2 s t) ∧
    (fpGt (L.rg b) (L.rg c) = true → ∃ t, exec (.clmp l d a b c) s = .next t ∧
      State.LawDone l d (fpFlush (L.rg b)) [] (flag true) 2 s t) ∧
    (L.HasBlock at' 16 16 →
      let inRange := (∀ k, k < 4 → fpIsFinite (f k) = true) ∧ fpGt (f 1) (f 2) = false
      let frozen (k : Nat) := if k = 10 then some false else if k = 11 then some true else none
      (inRange → fpIsNaN (L.rg b) = true → ∃ t, exec (.intf l d a b c) s = .next t ∧ State.LawDone l d (f 3) [] frozen 8 s t) ∧
      (¬inRange → ∃ t, exec (.intf l d a b c) s = .next t ∧ bitAt (t.loop l).flg 9 = true ∧
        State.LawDone l d 0x7FC00000 [] frozen 8 s t)) ∧
    (L.HasBlock at' 16 16 → (∀ k, k < 4 → fpIsFinite (f k) = true) → fpGt (f 1) (f 2) = false → fpIsNaN (L.rg b) = false →
      let dx := mulF (mulF (f 0) (L.rg b)) L.ts
      let held := L.rg c ≠ 0
      let limit := ¬held ∧ ((fpGe (f 3) (f 2) = true ∧ fpGt dx 0 = true) ∨ (fpLe (f 3) (f 1) = true ∧ fpLt dx 0 = true))
      ∀ x : Word, (held ∨ limit → x = f 3) → (¬(held ∨ limit) → x = addF (f 3) dx) →
        ∃ (t : State) (sat frz : Bool), exec (.intf l d a b c) s = .next t ∧
          (sat = true ↔ fpIsNaN x = true ∨ fpLt x (f 1) = true ∨ fpGt x (f 2) = true ∨ limit) ∧ (frz = true ↔ held ∨ limit) ∧
          State.LawDone l d (clamp x (f 1) (f 2)) [(at' + 12, clamp x (f 1) (f 2))]
            (fun k => if k = 10 then some sat else if k = 11 then some frz else none) 8 s t) ∧
    (L.HasBlock at' 16 16 →
      let g := L.rg b
      let up := mulF (f 0) L.ts
      let dn := mulF (f 1) L.ts
      let diff := subF g (f 2)
      (∃ t, exec (.slew l d a b true) s = .next t ∧
        State.LawDone l d g [(at' + 8, g), (at' + 12, 0)] (flag false) 6 s t) ∧
      (¬(fpGt (f 0) 0 = true ∧ fpGt (f 1) 0 = true ∧ fpIsFinite (f 2) = true) → ∃ t, exec (.slew l d a b false) s = .next t ∧
        bitAt (t.loop l).flg 9 = true ∧ State.LawDone l d (if fpIsNaN g then 0x7FC00000 else g)
          [(at' + 8, g), (at' + 12, 8)] (flag false) 6 s t) ∧
      (fpGt (f 0) 0 = true → fpGt (f 1) 0 = true → fpIsFinite (f 2) = true → fpIsNaN g = true →
        ∃ t, exec (.slew l d a b false) s = .next t ∧ State.LawDone l d (f 2) [(at' + 12, 4)] (flag false) 6 s t) ∧
      (fpGt (f 0) 0 = true → fpGt (f 1) 0 = true → fpIsFinite (f 2) = true → fpIsNaN g = false →
        let goes (y : Word) (st : Nat) : Prop := ∃ t, exec (.slew l d a b false) s = .next t ∧
          State.LawDone l d y [(at' + 8, y), (at' + 12, BitVec.ofNat 32 st)] (flag (decide (st ≠ 0))) 6 s t
        (fpGt diff up = true → goes (addF (f 2) up) 1) ∧
        (fpGt diff up = false → fpLt diff (dn ^^^ 0x80000000) = true → goes (subF (f 2) dn) 2) ∧
        (fpGt diff up = false → fpLt diff (dn ^^^ 0x80000000) = false → goes g 0)))

/-- MINS (R90, R115, R116) and SCHED (R120 to R123), with Table 3.11 (R130); the half-cell test and the bits kept beside BAD are log
17. -/
def Obligations.SelectionAndSchedule : Prop :=
  (∀ (s : State) (l : Nat) (d a : Reg), s.Ready l →
    let L := s.loop l
    let at' := (L.rg a).toNat
    let n := (L.dw at').toNat
    let h := L.dw (at' + 4)
    let sel := (L.dw (at' + 8)).toNat
    let pb (i : Nat) := (L.dw (at' + 16 + 4 * i)).toNat
    let c (i : Nat) := L.dw (pb i + 36)
    let flag (chg : Bool) (i : Nat) := if i = 12 then some chg else none
    -- the answer that selects nothing: NaN, one bit of ST, NV
    let none' (st : Word) (cycles : Nat) : Prop := ∃ t, exec (.mins l d a) s = .next t ∧ bitAt (t.loop l).flg 9 = true ∧
      State.LawDone l d 0x7FC00000 [(at' + 12, st)] (flag false) cycles s t
    L.HasBlock at' 64 64 →
    (n < 2 ∨ 8 < n → none' 4 6) ∧
    (2 ≤ n → n ≤ 8 → (∀ i, i < n → L.HasBlock (pb i) 64 64) → (∀ i, i < n → fpIsNaN (c i) = true) → none' 2 (6 + 4 * n)) ∧
    (2 ≤ n → n ≤ 8 → (∀ i, i < n → L.HasBlock (pb i) 64 64 ∧ pb i ≠ at') →
    (∀ i j, i < n → j < n → pb i = pb j → i = j) →
    ∀ m, m < n → fpIsNaN (c m) = false → (∀ j, j < n → fpLt (c j) (c m) = false) →
      (∀ j, j < m → fpIsNaN (c j) = false → fpLt (c m) (c j) = true) →
      let bad := decide (n ≤ sel) || fpIsNaN h || fpLt h 0
      let k := if bad || fpIsNaN (c sel) || fpLt (c m) (subF (c sel) h) then m else sel
      ∃ t, exec (.mins l d a) s = .next t ∧ (bad = true → bitAt (t.loop l).flg 9 = true) ∧
        State.LawDone l d (c k)
          ([(at' + 8, BitVec.ofNat 32 k), (at' + 12, BitVec.ofNat 32 ((decide (k ≠ sel)).toNat + 4 * bad.toNat)),
            (pb k + 48, setBit (L.dw (pb k + 48)) 5 false)] ++
            ((List.range n).filter (· ≠ k)).flatMap fun j =>
              [(pb j + 48, setBit (L.dw (pb j + 48)) 5 true), (pb j + 40, addF (c k) h)])
          (flag (decide (k ≠ sel))) (6 + 4 * n) s t)) ∧
  (∀ (s : State) (l : Nat) (d a b c : Reg), s.Ready l →
    let L := s.loop l
    let at' := (L.rg a).toNat
    let edge (axis i : Nat) := L.dw (at' + 36 * axis + 4 * i)
    let hyst (axis : Nat) := L.dw (at' + 72 + 4 * axis)
    let input (axis : Nat) := if axis = 0 then L.rg b else L.rg c
    let reg := L.dw (at' + 80)
    let gt := (L.dw (at' + 84)).toNat
    let pb := (L.dw (at' + 88)).toNat
    let apart (x n y m : Nat) := x + n ≤ y ∨ y + m ≤ x
    let out (axis : Nat) := fpLt (input axis) (edge axis 0) || fpGe (input axis) (edge axis 8)
    let old (axis : Nat) := if axis = 0 then reg.toNat / 8 else reg.toNat % 8
    let ext (i : Nat) := if i = 13 then some true else none
    let inRange : Prop := (∀ axis, axis < 2 → (∀ i, i < 9 → fpIsFinite (edge axis i) = true) ∧ fpIsFinite (hyst axis) = true ∧
      fpLt (hyst axis) 0 = false ∧ ∀ i, i < 8 → fpLt (edge axis i) (edge axis (i + 1)) = true ∧
        2 * fpExact (hyst axis) < fpExact (edge axis (i + 1)) - fpExact (edge axis i)) ∧ (reg.toNat ≤ 63 ∨ reg = 0xFFFFFFFF)
    let nanIn (axis : Nat) : Bool := fpIsNaN (input axis)
    L.HasBlock at' 128 64 →
    (¬inRange → ∃ t, exec (.sched l d a b c) s = .next t ∧ bitAt (t.loop l).flg 9 = true ∧
      State.LawDone l d 0xFFFFFFFF [(at' + 92, setBit (L.dw (at' + 92) &&& 0x1F) 3 true)] ext 12 s t) ∧
    (inRange → L.HasBlock gt 1024 16 → L.HasBlock pb 64 64 → nanIn 0 = true ∨ nanIn 1 = true →
      ∃ t, exec (.sched l d a b c) s = .next t ∧ State.LawDone l d reg
        [(at' + 92, BitVec.ofNat 32 ((nanIn 0 || out 0).toNat + 2 * (nanIn 1 || out 1).toNat + 16))] ext 12 s t) ∧
    (inRange → L.HasBlock gt 1024 16 → L.HasBlock pb 64 64 →
    apart at' 128 gt 1024 → apart at' 128 pb 64 → apart gt 1024 pb 64 → nanIn 0 = false → nanIn 1 = false →
    ∀ idx : Nat → Nat,
      (∀ axis, axis < 2 →
        let stays := reg ≠ 0xFFFFFFFF ∧
          (old axis = 0 ∨ fpGe (input axis) (subF (edge axis (old axis)) (hyst axis)) = true) ∧
          (old axis = 7 ∨ fpLt (input axis) (addF (edge axis (old axis + 1)) (hyst axis)) = true)
        (stays → idx axis = old axis) ∧
        (¬stays → idx axis < 8 ∧ (idx axis = 0 ∨ fpGe (input axis) (edge axis (idx axis)) = true) ∧
          ∀ j, idx axis < j → j < 8 → fpGe (input axis) (edge axis j) = false)) →
      let r := 8 * idx 0 + idx 1
      let changed := decide (r ≠ reg.toNat)
      ∃ t, exec (.sched l d a b c) s = .next t ∧
        State.LawDone l d (BitVec.ofNat 32 r)
          ((at' + 92, BitVec.ofNat 32 ((out 0).toNat + 2 * (out 1).toNat + 4 * changed.toNat)) ::
            if changed then [(at' + 80, BitVec.ofNat 32 r), (pb + 44, 1)] ++
              (List.range 4).map fun k => (pb + 4 * k, L.dw (gt + 16 * r + 4 * k)) else [])
          (fun i => if i = 13 then some (out 0 || out 1) else none) (if changed then 22 else 12) s t))

/-- SKIM and PLAUS (R124, R125, R129, R130); the bits kept beside BAD are log 17, the drawn cycles log 10. -/
def Obligations.SkimAndPlausibility : Prop :=
  ∀ (s : State) (l : Nat) (d a b c : Reg), s.Ready l →
    let L := s.loop l
    let at' := (L.rg a).toNat
    let f (k : Nat) := L.dw (at' + 4 * k)
    (let n := (f 0).toNat
     let pos := (f 1).toNat
     let lead := (f 2).toNat
     let ma := (f 5).toNat
     let e := L.rg b
     let inRange : Prop := 4 ≤ n ∧ n ≤ 65536 ∧ pos < n ∧ lead < n ∧ fpIsFinite (f 3) = true ∧ fpGt (f 4) 0 = true ∧
       fpGt (f 4) 0x3F800000 = false
     let learned (w : Nat → Word) : Word := addF (mulF (f 4) (w pos)) (mulF (f 3) e)
     let head (st : Word) : List (Nat × Word) := [(at' + 4, BitVec.ofNat 32 ((pos + 1) % n)), (at' + 24, st)]
     let plain (_ : Nat) : Option Bool := none
     L.HasBlock at' 32 32 →
       (∀ k, ¬inRange → ∃ t, exec (.skim l d a b k) s = .next t ∧ bitAt (t.loop l).flg 9 = true ∧
         State.LawDone l d 0 [(at' + 24, setBit (f 6 &&& 7) 2 true)] plain 16 s t) ∧
       (inRange → L.HasBlock ma (4 * n) 4 → ma + 4 * n ≤ at' ∨ at' + 32 ≤ ma →
         let w (i : Nat) := L.dw (ma + 4 * i)
         (∃ t, exec (.skim l d a b ⟨false, .ok, .ok⟩) s = .next t ∧
           State.LawDone l d (w ((pos + lead) % n)) (head 0) plain 16 s t) ∧
         (∃ t, exec (.skim l d a b ⟨true, .ok, .ok⟩) s = .next t ∧ State.LawDone l d (w ((pos + lead) % n))
           (if fpIsNaN e then head 2 else head 1 ++ [(ma + 4 * pos, learned w)]) plain 16 s t)) ∧
       (inRange → 0x20000000 ≤ ma → ma + 4 * n ≤ 0x20000000 + (s.cell L.cell).mem * 0x10000 → ma % 4 = 0 →
         0x10000 + L.decl.dsize < ma + 4 * n →
         let seen := s.seen l
         let off (i : Nat) := ma + 4 * i - 0x20000000
         let w (i : Nat) := memWord seen.shared (off i)
         let good (i : Nat) : Prop := seen.badWords.contains (off i / 4) = false
         let near := off ((pos + lead) % n) < (s.cell L.cell).fast * 0x10000
         let cost (k : Nat) : Prop := 16 + (if near then 12 else 60) ≤ k ∧ k ≤ 16 + (if near then 40 else 900)
         good ((pos + lead) % n) →
           (∃ t k, cost k ∧ exec (.skim l d a b ⟨false, .ok, .ok⟩) s = .next t ∧
             State.LawDone l d (w ((pos + lead) % n)) (head 0) plain k s.draw t) ∧
           (fpIsNaN e = true → ∃ t k, cost k ∧ exec (.skim l d a b ⟨true, .ok, .ok⟩) s = .next t ∧
             State.LawDone l d (w ((pos + lead) % n)) (head 2) plain k s.draw t) ∧
           (fpIsNaN e = false → good pos → ∃ t k, cost k ∧ exec (.skim l d a b ⟨true, .ok, .ok⟩) s = .next t ∧
             State.LawDone l d (w ((pos + lead) % n)) (head 1) plain k
               ((s.post l (off pos) (bytesOf 4 (learned w).toNat)).draw) t))) ∧
    (let nf := (f 1).toNat
     let nr := (f 2).toNat
     let cnt := (f 3).toNat
     let ver := (f 4).toNat
     let dev := fpGt (subF (L.rg b) (L.rg c) &&& 0x7FFFFFFF) (f 0)
     let next : Nat × Nat :=
       if ver = 2 then (if dev then (2, 0) else if nr ≤ cnt + 1 then (0, 0) else (2, cnt + 1))
       else if dev then (let k := (if ver = 0 then 0 else cnt) + 1; if nf ≤ k then (2, 0) else (1, k))
       else (0, 0)
     let inRange : Prop := fpIsFinite (f 0) = true ∧ fpGt (f 0) 0 = true ∧ 1 ≤ nf ∧ nf ≤ 65535 ∧ 1 ≤ nr ∧ nr ≤ 65535 ∧ ver ≤ 2
     let plf (on : Bool) (k : Nat) := if k = 15 then some on else none
     let nanIn : Prop := fpIsNaN (L.rg b) = true ∨ fpIsNaN (L.rg c) = true
     L.HasBlock at' 32 32 →
       (inRange → ¬nanIn → ∃ t, exec (.plaus l d a b c) s = .next t ∧
         State.LawDone l d (BitVec.ofNat 32 next.1)
           [(at' + 12, BitVec.ofNat 32 next.2), (at' + 16, BitVec.ofNat 32 next.1), (at' + 20, if dev then 1 else 0)]
           (plf (decide (next.1 = 2))) 10 s t) ∧
       (inRange → nanIn → ∃ t, exec (.plaus l d a b c) s = .next t ∧
         State.LawDone l d (f 4) [(at' + 20, 2)] (plf (decide (ver = 2))) 10 s t) ∧
       (¬inRange → ∃ t, exec (.plaus l d a b c) s = .next t ∧ bitAt (t.loop l).flg 9 = true ∧
         State.LawDone l d 2 [(at' + 20, setBit (f 5 &&& 7) 2 true)] (plf true) 10 s t))

/-- OUT, TAP and FIR (R91 to R98, R139 to R141); the waiting of an entry is log 19, the cycles that DL counts are log 11. -/
def Obligations.OutTapAndFir : Prop :=
  ∀ (s : State) (l : Nat) (d a b : Reg) (m : BitVec 5), s.Ready l →
    let L := s.loop l
    let n := (L.rg a).toNat
    let v := L.rg b
    let word (i : Instr) := encodeInstr i
    let traps (i : Instr) (k cause sub : Nat) : Prop :=
      exec i s = .next (s.takeTrap l ⟨cause, sub, n⟩ (s.late L k) (word i))
    ((104 ≤ n → traps (.out l a b) 4 2 6) ∧
     (n < 104 → s.ownsSlot l n = false → traps (.out l a b) 4 2 5) ∧
     (n < 104 → s.ownsSlot l n = true → fpIsFinite v = false → traps (.out l a b) 4 5 0) ∧
     (n < 104 → s.ownsSlot l n = true → fpIsFinite v = true → ∃ t, exec (.out l a b) s = .next t ∧
       State.Only [.slots, .loops] s t ∧ t.slot n = { s.slot n with next := (s.slot n).early (periodStart L.period s.dtb) ++ [⟨s.dtb, L.per, v⟩] } ∧ (∀ k, k ≠ n → t.slot k = s.slot k) ∧
       (∀ k, k ≠ l → t.loop k = s.loop k) ∧ n ∈ (t.loop l).outs ∧
       t.loop l = { L with outs := (t.loop l).outs, pc := (L.pc + 4) % 2 ^ 32, cycles := L.cycles + 4 })) ∧
    ((s.tapArmed l m.toNat = false → ∃ t, exec (.tap l m a b) s = .next t ∧ State.Retired l 0 0 L.flg 1 s t) ∧
     (s.tapArmed l m.toNat = true → ∃ t, exec (.tap l m a b) s = .next t ∧ State.Only [.act, .traces, .loops] s t ∧
       t.loop l = { L with pc := (L.pc + 4) % 2 ^ 32, cycles := L.cycles + 3 } ∧ ∀ k, k < 16 →
         let x := s.trace k
         let stat := s.reg (Reg.TRC_STAT k)
         let sel (j : Nat) := s.reg (Reg.TRC_SLOOP k j)
         let armed (j : Nat) : Prop := s.shed 1 = false ∧ fld (s.reg (Reg.TRC_CFG k)) 31 30 ≠ 0 ∧ bitAt stat 20 = false ∧
           bitAt stat 21 = false ∧ fld (s.reg (Reg.TRC_CFG k)) 28 19 = L.cell ∧ bitAt (sel j) 31 = true ∧ fld (sel j) 12 0 = l ∧
           bitAt (s.reg (Reg.TRC_SMASK k j)) m.toNat = true
         ((∀ j, j < 8 → ¬armed j) → t.trace k = x) ∧
         ((∃ j, j < 8 ∧ armed j) → (∀ j, j < 8 → armed j → bitAt (sel j) 30 = false) →
           (x.waiting.length ≤ 64 → (t.trace k).gap = false ∧ (t.trace k).waiting = x.waiting ++
             [[L.rg a, v, BitVec.ofNat 32 (x.gap.toNat * 2 ^ 18 + m.toNat * 2 ^ 13 + l % 2 ^ 13), BitVec.ofNat 32 s.dtb]]) ∧
           (64 < x.waiting.length → t.trace k = { x with gap := true } ∧ bitAt (t.reg (Reg.TRC_STAT k)) 22 = true ∧
             (t.reg (Reg.TRC_LOST k)).toNat = min 0xFFFFFFFF ((s.reg (Reg.TRC_LOST k)).toNat + 1))))) ∧
    (let gb := v.toNat
     let region := m.toNat / 8
     let count := if region = 0 then 0x100000 else if region = 1 then 192 else 512
     let key := s.firLine L.cell region n (m.toNat % 8)
     let stale := s.isMarked key.1
     let traps (cause sub addr : Nat) : Prop := ∀ e, exec (.fir l d a b m e) s =
       .next (s.takeTrap l ⟨cause, sub, addr⟩ (s.late L 40) (encodeInstr (.fir l d a b m e)))
     let inside := 0x10000 ≤ gb ∧ gb + 64 ≤ 0x10000 + L.decl.dsize
     region < 3 → (count ≤ n → traps 2 8 n) ∧ (n < count → ¬inside → traps 2 8 gb) ∧
       (n < count → inside → gb % 64 ≠ 0 → traps 3 0 gb) ∧ (n < count → inside → gb % 64 = 0 →
       ∃ (t : State) (k : Nat), exec (.fir l d a b m .ok) s = .next t ∧ 120 ≤ k ∧ k ≤ 1240 ∧
         State.LawDone l d (if key.2 then (if stale then 3 else 1) else 0)
           ((List.range 16).map fun i => (gb + 4 * i, if key.2 then s.fiRead (key.1 + i) else 0))
           (fun i => if i = 14 then some (!key.2 || stale) else none) k s.draw t))

/-- LOOP_DISPATCH (R56, R57, R100, R101).  PER where j is held is log 85, the pairs of a pinned loop log 8. -/
def Obligations.LoopDispatchResumesTheCheckpoint : Prop :=
  ∀ (s : State) (l : Nat),
    let L := s.loop l
    let c := L.ckpt
    let start := s.dtb / L.period * L.period
    let j := (start - if c.initial then L.period0 else c.start) / L.period
    (s.dueNow L = false → exec (.loopDispatch l) s = .next s) ∧
    (s.dueNow L = true → s.onSafe = false →
      (∀ p ∈ L.onPairs, (s.pair p).state = pairActive ∧ (s.pair p).check = false ∧ (s.pair p).running = none) →
      (∀ p ∈ L.onPairs, ∀ m, (s.loop m).state ≠ .free → (s.loop m).pair = p ∨ (s.loop m).pair2 = some p → s.dueNow (s.loop m) = true →
        s.first l m = true) →
      mRising 0 s.loops = true →
      ∃ t, exec (.loopDispatch l) s = .next t ∧ State.Only [.loops, .pairs, .act] s t ∧
        State.OnlyRegs [bk l Reg.RTC_SECL, bk l Reg.RTC_SECH] s t ∧
        (∀ p, t.pair p = if p ∈ L.onPairs then { s.pair p with running := some l } else s.pair p) ∧
        (∀ k, k ≠ l → t.loop k = s.loop k) ∧
        t.loop l = { L with
          g := (t.loop l).g, pc := c.pc, flg := c.flg, per := (c.per + j) % 2 ^ 32, data := c.data, nowh := 0, inPeriod := true,
          waiting := none, start := start, due := start + L.period, cycles := 0, outs := if (c.per + j) % 2 ^ 32 = L.per then L.outs else [], state := .running } ∧
        ∀ r : Reg, (t.loop l).rg r = if r = 0 then 0
          else if c.initial = false ∧ r = BitVec.ofNat 5 c.gd then BitVec.ofNat 32 (min j (2 ^ 32 - 1)) else mget 0 r.toNat c.g)

/-- PERIOD_BOUNDARY and FRAME_BOUNDARY (R31, R32, R46, R102, R104, R167). -/
def Obligations.BoundariesTakeUpSlots : Prop :=
  (∀ (s : State) (l : Nat),
    let L := s.loop l
    (s.dtb < L.boundary → exec (.periodBoundary l) s = .next s) ∧
    (L.boundary ≤ s.dtb → L.state ≠ .free → s.goes L = true → s.onSafe = false → L.decl.slots.Nodup →
      ∃ t, exec (.periodBoundary l) s = .next t ∧ State.Only [.act, .slots, .sv, .fans, .recd, .loops] s t ∧
        t.loop l = { L with boundary := (s.dtb / L.period + 1) * L.period } ∧
        ∀ n, let x := s.slot n
          let takes := n ∈ L.decl.slots ∧ (x.owner = none ∨ x.owner = some l) ∧ s.slotIsOut n = true ∧
            s.ctl.posts.contains (slotBlock n) = false
          let at' := s.dtb / L.period * L.period
          -- the loop's period began before this boundary and its deadline has passed, or its WCET is spent
          let doomed := L.inPeriod ∧ L.start < at' ∧ (L.start + L.decl.dl * 1000 ≤ at' ∨
            if L.waiting.isSome then L.decl.wcet < L.cycles else L.decl.wcet ≤ L.cycles)
          let old := x.next.filter fun w => decide (w.arrived < at')
          let early := old.filter fun w => !decide (doomed ∧ w.per = L.per)
          (∀ w, takes → early.getLast? = some w → (t.slot n).value = some w.value ∧
            (t.slot n).next = (old.filter fun w => decide (doomed ∧ w.per = L.per)) ++
              x.next.filter fun w => decide (at' ≤ w.arrived)) ∧
          (¬takes ∨ early = [] → (t.slot n).value = x.value ∧ (t.slot n).next = x.next))) ∧
  ∀ s : State,
    (s.dtb < s.nextFrame → exec .frameBoundary s = .next s) ∧
    (s.nextFrame ≤ s.dtb → s.pend = [] →
      ∃ t, exec .frameBoundary s = .next t ∧ State.Only [.act, .slots, .sv, .fans, .nextFrame, .ctl] s t ∧
        t.nextFrame = (s.dtb / 10000 + 1) * 10000 ∧ t.ctl = { s.ctl with beat := s.dtb } ∧
        ∀ n, t.slot n =
          if n < 104 ∧ ∃ r, (s.slot n).released = some r ∧ (r / 10000 + 1) * 10000 ≤ s.dtb then { s.slot n with value := none, released := none }
          else s.slot n)

/-- REGISTER_WRITE (R14, R16, R40, R42, R44, R48, R517). -/
def Obligations.RegisterWriteFollowsAccessCodes : Prop :=
  (∀ (s : State) (w : Who) (a : Nat) (v : Word) (r : RegRow),
    let c := s.whoCell w
    let k := s.regKey w a
    let old := s.reg k
    let new := ((old &&& ~~~ w32 r.rw) ||| (v &&& w32 r.rw)) &&& ~~~ (v &&& w32 r.w1c)
    inExtent a = true → a % 4 = 0 →
    let rtc := 0x40680000 ≤ a ∧ a < 0x40700000
    (s.pageGranted c a = true → rtc → s.ctl.rtcHanded = true → exec (.registerWrite w a v) s = .next s) ∧
    (s.pageGranted c a = true → (c = 0 ∨ cellZeroPage a = false) → ¬(rtc ∧ s.ctl.rtcHanded = true) →
      s.coreCmd w a v = none → s.linkCmd a v = none → s.sideCmd w a v = none →
      (a % 0x1000 = 0xFFC → stagedPage (a - 0xFFC) = true → ∃ t, exec (.registerWrite w a v) s = .next t ∧ State.Only [.act] s t ∧
        State.OnlyRegs [k] s t ∧ ∀ i, i < 32 → bitAt (t.reg k) i = (bitAt old i && !(decide (4 ≤ i ∧ i < 8) && bitAt v i))) ∧
      (a % 0x1000 < 0xFF8 → regRow a = some r →
      (r.staged = 0 → ∃ t, exec (.registerWrite w a v) s = .next t ∧ State.Only [.act] s t ∧ t.reg k = new ∧
        State.OnlyRegs [k] s t) ∧
      (r.staged ≠ 0 → s.isPending (pageOf k) = false → ∃ t, exec (.registerWrite w a v) s = .next t ∧
        State.Only [.act, .shd] s t ∧ State.OnlyRegs [k, stageOf (pageOf k)] s t ∧ t.reg k = new ∧
        t.regB (stageOf (pageOf k)) 2 = true ∧
        (∀ i, i < 32 → r.staged / 2 ^ i % 2 = 1 → bitAt (t.shadow k) i = bitAt v i) ∧
        ∀ j, j ≠ k → j ≠ stageOf (pageOf k) → t.shadow j = s.shadow j) ∧
      (r.staged ≠ 0 → s.isPending (pageOf k) = true → ∃ t, exec (.registerWrite w a v) s = .next t ∧ State.Only [.act, .recd] s t ∧
        State.OnlyRegs [k, stageOf (pageOf k)] s t ∧ t.reg k = new ∧ t.regB (stageOf (pageOf k)) 6 = true ∧
        State.Logs [s.event Ev.STAGE_LOCKED_WRITE c [BitVec.ofNat 32 a, BitVec.ofNat 32 c]] s t)))) ∧
  (∀ (s : State) (w : Who) (n k bad : Nat) (v : Word),
    let refused (i : Instr) (a : Nat) : Prop := s.granted w a = false →
      exec i s = .next (match w with
        | .session _ => s.emit Ev.PAGE_DENIED (s.whoCell w) [BitVec.ofNat 32 (s.whoCell w), BitVec.ofNat 32 a]
        | .loop l =>
          let s1 := s.emit Ev.PAGE_DENIED (s.whoCell w) [BitVec.ofNat 32 (s.whoCell w), BitVec.ofNat 32 a]
          if (s.loop l).executing then s1.takeTrap l ⟨2, 4, a⟩ (s.late (s.loop l) 20) ((s.loop l).wordAt (s.loop l).pc) else s1)
    (∀ a, inExtent a = true → a % 4 = 0 → refused (.registerWrite w a v) a) ∧
    (∀ i ∈ [.cellReset w, .cellSuspend w, .cellResume w, .cellUnload w], refused i Reg.PLC_CCMD) ∧
    (∀ i ∈ [.loopRestart w, .loopStop w], refused i Reg.PLC_LCMD) ∧ refused (.grantSelectWrite w k) Reg.PLC_GSEL ∧
    (∀ x, refused (.hwkSubmit w x) Reg.HWK_SUBMIT) ∧ refused (.hwkCancel w v) Reg.HWK_CANCEL ∧ refused (.hwkFreezeWrite w v) Reg.HWK_FRZ ∧
    refused (.feCalselWrite w v) Reg.FE_CALSEL ∧
    (∀ i ∈ [.pointlo w, .pointhi w, .commit w, .abortI w], refused i Reg.FE_CALCMD) ∧
    (n < 16 → k < 6 → refused (.columnInputWrite w n k v) (Reg.COL_IN n k)) ∧
    (n < 32 → refused (.latTxqWrite w n v) (Reg.LAT_TXQ n) ∧ refused (.latTxcanWrite w n v) (Reg.LAT_TXCAN n) ∧
      refused (.latRxackWrite w n v) (Reg.LAT_RXACK n) ∧ refused (.recover w n) (Reg.LAT_CMD n) ∧
      refused (.bkramRead w n bad) (Reg.RTC_BK n)) ∧
    (n < 4 → refused (.canTxRequest w n v) (Reg.CAN_TXCMD n) ∧ refused (.canTxCancel w n v) (Reg.CAN_TXCMD n) ∧
      refused (.canRxrel w n) (Reg.CAN_RXREL n) ∧ refused (.canRecover w n) (Reg.CAN_CMD n)) ∧
    refused (.bankclr w v) Reg.SV_GCMD ∧ (n < 24 → refused (.svClear w n) (Reg.SV_CMD n)) ∧
    (n < 16 → refused (.fanClear w n) (Reg.FAN_CMD n) ∧ refused (.trcTrig w n) (Reg.TRC_CTL n) ∧
      refused (.trcClear w n) (Reg.TRC_CTL n)) ∧
    (n < 64 → refused (.dioClear w n) (Reg.DIO_CMD n)) ∧
    (∀ i ∈ [.flush w, .nverase w k], refused i Reg.REC_CMD) ∧
    (∀ i ∈ [.cursorOldest w, .cursorAt w, .cursorAfter w, .cursorNewest w], refused i Reg.REC_CURSOR) ∧
    refused (.rtcFracRead w) Reg.RTC_FRAC ∧ (∀ i ∈ [.clrperr w, .clrsw w], refused i Reg.RTC_CMD) ∧
    refused (.tagWcmd w v) Reg.TAG_WCMD ∧ refused (.alarmWrite w v) Reg.HST_ALARM ∧ refused (.pwrForceWrite w v) Reg.PWR_FORCE ∧
    (∀ i ∈ [.fretry w, .hutest w], refused i Reg.PWR_CMD) ∧ refused (.relock w) Reg.CLK_CMD ∧
    (∀ i ∈ [.sys w, .full w], refused i Reg.CTL_RESET) ∧ refused (.ctlBrstWrite w v) Reg.CTL_BRST ∧
    refused (.ctlWdkickWrite w v) Reg.CTL_WDKICK ∧ refused (.clkDtblRead w) Reg.CLK_DTBL)

/-- APPLY, DISCARD and unknown codes (R44, R45, R49, R50). -/
def Obligations.ApplyAndDiscard : Prop :=
  ∀ (s : State) (w : Who) (page : Nat),
    let c := s.whoCell w
    let st := page + 0xFFC
    inExtent (page + 0xFF8) = true → page % 0x1000 = 0 → stagedPage page = true → s.pageGranted c (page + 0xFF8) = true →
    (c = 0 ∨ cellZeroPage (page + 0xFF8) = false) → ¬(0x40680000 ≤ page ∧ page < 0x40700000 ∧ s.ctl.rtcHanded = true) →
    (s.isPending page = true → exec (.apply w page) s = .next s) ∧
    (s.isPending page = true → ∃ t, exec (.discard w page) s = .next t ∧ State.Only [.act] s t ∧ State.OnlyRegs [st] s t ∧
      t.reg st = setBit (s.reg st) 6 true) ∧
    (s.isPending page = false → (s.regB st 2 = true → s.agree page = 0) → ∃ t, exec (.apply w page) s = .next t ∧ State.Only [.act, .pend] s t ∧
      State.OnlyRegs [st] s t ∧ t.reg st = setBit (s.reg st) 0 true ∧ t.isPending page = true ∧
      ∀ p, p ≠ page → t.isPending p = s.isPending p) ∧
    (s.isPending page = false → s.regB st 2 = true → s.agree page ≠ 0 → ∃ t, exec (.apply w page) s = .next t ∧ State.Only [.act, .recd] s t ∧
      State.OnlyRegs [st] s t ∧ t.reg st = setFld (setBit (s.reg st) 5 true) 11 8 (s.agree page) ∧
      State.Logs [s.event Ev.STAGE_REJECT c [BitVec.ofNat 32 st, BitVec.ofNat 32 (s.agree page), BitVec.ofNat 32 c]] s t) ∧
    (s.isPending page = false → ∃ t, exec (.discard w page) s = .next t ∧ State.Only [.act, .shd] s t ∧
      State.OnlyRegs [st] s t ∧ t.reg st = setBit (s.reg st) 2 false ∧
      (∀ k, pageOf k = page → t.shadow k = t.reg k) ∧ ∀ k, pageOf k ≠ page → t.shadow k = s.shadow k) ∧
    (∀ cmd, cmd % 256 ≠ 0x5A → cmd % 256 ≠ 0xD1 → ∃ t, exec (.applyUnknownCmd w page cmd) s = .next t ∧
      State.Only [.act] s t ∧ State.OnlyRegs [st] s t ∧ t.reg st = setBit (s.reg st) 7 true)

/-- An apply taking effect (R43, R46, R47); that the due pages of a block commit together before what each block does is log 20. -/
def Obligations.AppliesTakeEffectWhole : Prop :=
  ∀ (s : State) (page : Nat),
    let st := page + 0xFFC
    let taken (t : State) : Prop :=
      (∀ k, k ≠ st → t.reg k = if pageOf k = page then s.shadow k else s.reg k) ∧
      t.reg st = setFld (setBit (setBit (setBit (s.reg st) 0 false) 2 false) 4 true) 31 16 (s.regF st 31 16 + 1) ∧
      t.isPending page = false ∧ (∀ p, p ≠ page → t.isPending p = s.isPending p) ∧
      ∀ k, pageOf k = page → t.shadow k = t.reg k
    let due (p : Nat) : Bool := s.isPending p && blockOf p == blockOf page && ((s.atFrame p && s.frameReached p) || s.atPoint p)
    (s.isPending page = false ∨ (page ≠ rtcPage ∧ due page = false) → exec (.applyTakesEffect page) s = .next s) ∧
    (page % 0x1000 = 0 → page ≠ rtcPage → mRising 0 s.pend = true → mRising 0 s.shd = true → (∀ e ∈ s.pend, e.1 % 0x1000 = 0) →
      (∀ e ∈ s.shd, addrOf e.1 % 0x1000 < 0xFF8) → due page = true →
      ∃ (ps : List Nat) (s0 s1 : State), exec (.applyTakesEffect page) s = .next (ps.foldl (fun t p => State.pageApplied s0 t p) s1) ∧
        ps.Nodup ∧ (∀ p, p ∈ ps ↔ due p = true) ∧ State.Only [.fe] s s0 ∧ State.Only [.act, .shd, .pend] s0 s1 ∧
        (∀ k, addrOf k % 0x1000 ≠ 0xFFC → s1.reg k = if pageOf k ∈ ps then s.shadow k else s.reg k) ∧
        (∀ p ∈ ps, s1.reg (p + 0xFFC) = setFld (setBit (setBit (setBit (s.reg (p + 0xFFC)) 0 false) 2 false) 4 true) 31 16
          (s.regF (p + 0xFFC) 31 16 + 1)) ∧
        ∀ p, s1.isPending p = (s.isPending p && !ps.contains p)) ∧
    (page = rtcPage → s.isPending page = true → exec (.applyTakesEffect page) s = .next (if s.ctl.rtcHanded then s else s.rtcApply)) ∧
    (page % 0x1000 = 0 → mRising 0 s.shd = true → mhas st s.shd = false →
      (taken (s.commitPage page) ∧ State.Only [.act, .shd, .pend] s (s.commitPage page)) ∧
      (page = recRlPage → s.recd.buckets = [] → s.isPending page = true → s.frameReached page = true →
        ∃ t, exec (.applyTakesEffect page) s = .next t ∧ taken t ∧ State.Only [.act, .shd, .pend, .recd] s t))

/-- Pairs (R53, R55, R81, R161 to R165, R170).  The posted stores of a fenced pair are log 90, what the placer does at once log 28. -/
def Obligations.PairsStopAndReturn : Prop :=
  ∀ (s : State) (p : Nat),
    let x := s.pair p
    let runs := p < 32 ∧ (s.pairCode p = pairActive ∨ s.pairCode p = pairStandby)
    mRising 0 s.loops = true →
    (∀ a, (¬runs → ∀ e, exec (.lockstepMismatch ⟨p, e, a⟩) s = .next s) ∧
      (runs → ∃ t, exec (.lockstepMismatch ⟨p, .single, a⟩) s = .next t ∧ t = s.eccCorrected 0 a (some p) ∧ t.pairs = s.pairs ∧
        t.loops = s.loops)) ∧
    (runs → ∀ a e, e ≠ .single → ∃ t, exec (.lockstepMismatch ⟨p, e, a⟩) s = .next t ∧
      State.Only [.act, .recd, .loops, .pairs, .slots, .cells, .placer, .drawn] s t ∧
      (t.pair p).queue = [] ∧ (∀ c, t.cell c = (s.drainPosted p).cell c) ∧ (t.pair p).running = none ∧ (t.pair p).misses = x.misses + 1 ∧ (t.pair p).stoppedAt = s.dtb ∧ (t.pair p).check = false ∧
      (t.pair p).state = (if 3 ≤ x.misses then pairRetired else pairTesting) ∧
      t.regF Reg.PLC_MISCNT 15 0 = min 65535 (s.regF Reg.PLC_MISCNT 15 0 + 1) ∧
      (∃ more, t.recd.handed = s.recd.handed ++ s.event Ev.PAIR_MISMATCH 0 (BitVec.ofNat 32 p :: dtbWords s.dtb) :: more) ∧
      ∀ q, q < 32 → q ≠ p → (s.pair q).state = pairStandby → (∀ k, k < q → (s.pair k).state ≠ pairStandby) →
        ∀ l, (s.loop l).state ≠ .free → (s.loop l).pair = p → (s.loop l).pair2 = none →
          (t.loop l).pair = q ∧ (t.loop l).inPeriod = false ∧ (t.loop l).ckpt = (s.loop l).ckpt) ∧
    (∀ l t, s.placer.degraded.find? (fun e => e.1 == l) = none ∨ (∀ q, q < 32 → (s.pair q).state ≠ pairStandby) ∨
        (s.placer.degraded.find? (fun e => e.1 == l) = some (l, t) ∧ ((s.loop l).inPeriod = true ∨ (s.loop l).ckpt.start = t)) →
      exec (.pinSecondaryRestored l) s = .next s) ∧
    (∀ l q t0, s.placer.degraded.find? (fun e => e.1 == l) = some (l, t0) → (s.loop l).inPeriod = false → (s.loop l).ckpt.start ≠ t0 →
      q < 32 → (s.pair q).state = pairStandby → (∀ k, k < q → (s.pair k).state ≠ pairStandby) →
      ∃ t, exec (.pinSecondaryRestored l) s = .next t ∧ State.Only [.act, .recd, .loops, .pairs, .placer] s t ∧
        t.loop l = { s.loop l with pair2 := some q } ∧ (∀ k, k ≠ l → t.loop k = s.loop k) ∧ ∀ e ∈ t.placer.degraded, e.1 ≠ l) ∧
    (x.check = false → x.state ≠ pairTesting ∨ s.dtb < x.stoppedAt + 10000000 → ∀ ok, exec (.pairSelfTest p ok) s = .next s) ∧
    (x.check = false → x.state = pairTesting → x.stoppedAt + 10000000 ≤ s.dtb →
      (∃ t, exec (.pairSelfTest p false) s = .next t ∧ (t.pair p).state = pairFailed ∧ State.Only [.act, .recd, .pairs, .placer] s t) ∧
      ∃ t, exec (.pairSelfTest p true) s = .next t ∧ State.Only [.act, .recd, .pairs, .placer] s t ∧
        ((t.pair p).state = pairSpare ∨ (t.pair p).state = pairStandby)) ∧
    (x.check = true → ∃ t, exec (.pairSelfTest p true) s = .next t ∧ (t.pair p).check = false ∧ ∀ l, t.loop l = s.loop l) ∧
    (x.check = true → p < 32 → ∃ t, exec (.pairSelfTest p false) s = .next t ∧ (t.pair p).state = pairFailed ∧
      (t.pair p).check = false ∧ .mismatch p ∈ t.placer.replans ∧
      ∀ l, (s.loop l).state ≠ .free → (s.loop l).pair = p ∨ (s.loop l).pair2 = some p →
        t.loop l = { s.loop l with pair := noPair, pair2 := none, inPeriod := false, waiting := none, state := .stopped,
                                   halted := (s.loop l).halted || (s.loop l).stopReq, stopReq := false }) ∧
    (x.state ≠ pairStandby ∨ s.dtb < x.stoppedAt + 1000000000 → ∀ ok, exec (.standbySelfTest p ok) s = .next s) ∧
    (x.state = pairStandby → x.stoppedAt + 1000000000 ≤ s.dtb →
      exec (.standbySelfTest p true) s = .next (s.setPair p { x with stoppedAt := s.dtb }) ∧
      ∃ t, exec (.standbySelfTest p false) s = .next t ∧ (t.pair p).state = pairFailed ∧ State.Only [.act, .recd, .pairs, .placer] s t)

/-- Loads, re-plans and moves (R153 to R159, R164, R169, R170).  The placing anew of a loop without a pair is log 29, the waiting of T4's
re-plan log 30. -/
def Obligations.LoadsAndReplans : Prop :=
  ∀ s : State, mRising 0 s.loops = true →
    (s.placer.replans = [] → exec (.replan .ok) s = .next s) ∧
    (∀ w rest p k n b, w ∈ [.mismatch p, .unload n, .cellReset n, .grant n, .config, .engineOver k, .tier n b] → w ≠ .tier 3 true →
      w ≠ .tier 4 false → s.placer.replans = w :: rest →
      ∃ t, exec (.replan .ok) s = .next t ∧ t.placer.replans = rest ∧ State.Only [.act, .recd, .loops, .pairs, .placer] s t ∧
        (∀ l, (s.loop l).pair ≠ noPair → t.loop l = s.loop l) ∧ (w = .tier 3 false → t.placer.moves = []) ∧
        ∀ l, (s.loop l).state ≠ .free → (s.loop l).pair = noPair → (∀ m, m ≠ l → (s.loop m).state ≠ .free → (s.loop m).pair ≠ noPair) →
          let fits (q : Nat) : Prop := q < 32 ∧ s.pairCode q = pairActive ∧ s.fitsOn q (s.loop l) = true
          (∀ q, fits q → fits (t.loop l).pair) ∧ ((∀ q, ¬fits q) → t.loop l = s.loop l)) ∧
    (∀ rest, s.placer.replans = .tier 4 false :: rest → (∃ p, p < 32 ∧ (s.pair p).check = true) → exec (.replan .ok) s = .next s) ∧
    (∀ c, s.placer.replans.head? ≠ some (.load c) → exec (.imagePlace c) s = .next s) ∧
    (∀ c rest i, s.placer.replans = .load c :: rest → (s.cell c).loading = some i →
      let busy := (s.cell c).state = 4 ∨ s.shed 4 = true
      (busy ∨ i.headerOk c = false → ∃ t, exec (.imagePlace c) s = .next t ∧
        State.Only [.cells, .placer, .sessions, .recd, .act, .ctl] s t ∧ t.placer = { s.placer with replans := rest } ∧
        (t.cell c).loading = none ∧ (t.cell c).image = (s.cell c).image ∧ (t.cell c).inc = (s.cell c).inc ∧
        s.event Ev.CELL_LOAD c [BitVec.ofNat 32 c, BitVec.ofNat 32 (if busy then loadBusy else loadFormat),
          BitVec.ofNat 32 (s.cell c).inc] ∈ t.recd.handed) ∧
      (¬busy → i.headerOk c = true →
        let x := s.cell c
        let s0 := (s.setPlacer { s.placer with replans := rest }).setCell c
          { x with loading := none, viaHap := false, state := if x.state = 1 then x.settled else x.state }
        ((s0.freeLoops c).planImage c i).1 = loadPlaced →
        ∃ t, exec (.imagePlace c) s = .next t ∧ (t.cell c).loading = none ∧ (t.cell c).image = some i ∧
          s.event Ev.CELL_LOAD c [BitVec.ofNat 32 c, 0, BitVec.ofNat 32 (t.cell c).inc] ∈ t.recd.handed)) ∧
    (∀ l, s.placer.moves.find? (fun m => m.1 == l) = none ∨ (s.loop l).inPeriod = true ∨
        ((s.loop l).runs = true ∧ (s.loop l).due ≤ s.dtb) → exec (.plannedMove l) s = .next s) ∧
    (∀ l p q, s.placer.moves.find? (fun m => m.1 == l) = some (l, p, q) → (s.pair q).state = pairActive → s.pairCode q ≠ pairActive →
      exec (.plannedMove l) s = .next s) ∧
    (∀ l p q, s.placer.moves.find? (fun m => m.1 == l) = some (l, p, q) → (s.loop l).inPeriod = false →
      ¬((s.loop l).runs = true ∧ (s.loop l).due ≤ s.dtb) →
      (s.pair q).state ≠ pairActive ∨ (s.pairCode q = pairActive ∧ s.roomOn q (s.loop l) = false) →
      exec (.plannedMove l) s = .next (s.setPlacer { s.placer with moves := s.placer.moves.filter fun m => m != (l, p, q) })) ∧
    (∀ l p q, s.placer.moves.find? (fun m => m.1 == l) = some (l, p, q) → (s.loop l).inPeriod = false → (s.loop l).pair = p →
      ¬((s.loop l).runs = true ∧ (s.loop l).due ≤ s.dtb) →
      (s.pair q).state = pairActive → s.pairCode q = pairActive → s.roomOn q (s.loop l) = true → q ≠ p → (s.loop l).pair2 ≠ some q →
      ∃ t, exec (.plannedMove l) s = .next t ∧ State.Only [.act, .recd, .loops, .pairs, .placer] s t ∧
        t.loop l = { s.loop l with pair := q } ∧ ∀ k, k ≠ l → t.loop k = s.loop k) ∧
    (s.dtb / 100000000 = s.placer.lastLoadCheck / 100000000 → exec .engineLoadCheck s = .next s) ∧
    (s.dtb / 100000000 ≠ s.placer.lastLoadCheck / 100000000 → ∃ t, exec .engineLoadCheck s = .next t ∧
      State.Only [.act, .recd, .placer, .hwk] s t ∧ t.placer.lastLoadCheck = s.dtb ∧
      (∀ k, k < 4 → t.reg (Reg.HWK_LOAD k) = BitVec.ofNat 32 (s.loadOf k)) ∧
      (let above := (List.range 4).filter fun k => decide (95 * capOf k < 100 * s.loadOf k)
       t.placer.replans = s.placer.replans ++ above.map .engineOver ∧
       State.Logs (above.map fun k => s.event Ev.ENGINE_OVER 0 [BitVec.ofNat 32 k, BitVec.ofNat 32 (s.loadOf k), BitVec.ofNat 32 (capOf k)])
         s t ∧
       t.regB Reg.PLC_STAT 4 = (s.regB Reg.PLC_STAT 4 || !above.isEmpty) ∧
       ∀ k, k < 4 → (k ∈ t.placer.engineRefused ↔ k ∈ above ∨ (k ∈ s.placer.engineRefused ∧ 85 * capOf k ≤ 100 * s.loadOf k))) ∧
      t.hwk = { s.hwk with busy := [0, 0, 0, 0] :: s.hwk.busy.take 9 })

/-- Cell commands (R168, R170, R173, R176, Table 4.10).  A reset of a cell that loads is log 33. -/
def Obligations.CellCommands : Prop :=
  ∀ (s : State) (w : Who),
    let src := s.whoCell w
    let c := s.regF (bk src Reg.PLC_CSEL) 9 0
    let x := s.cell c
    let answers (i : Instr) (r : Nat) : Prop := ∃ t, exec i s = .next t ∧ State.Only [.act] s t ∧
      State.OnlyRegs [bk src Reg.PLC_CRES] s t ∧ t.reg (bk src Reg.PLC_CRES) = BitVec.ofNat 32 r
    let resets (i : Instr) (unload : Bool) : Prop := ∃ t, exec i s = .next t ∧
      State.Only [.cells, .hwk, .loops, .pairs, .slots, .placer, .recd, .act] s t ∧ t.reg (bk src Reg.PLC_CRES) = 1 ∧
      (t.cell c).state = 4 ∧ (t.cell c).inc = (x.inc + 1) % 65536 ∧ (t.cell c).unloading = unload ∧
      (t.cell c).shared = x.shared ∧ (∀ d, d ≠ c → t.cell d = s.cell d) ∧
      (∀ l, (s.loop l).state ≠ .free → (s.loop l).cell = c → (t.loop l).inPeriod = false ∧ (t.loop l).state = .awaiting) ∧
      (∀ l, (s.loop l).cell ≠ c → t.loop l = s.loop l) ∧ t.placer.replans = s.placer.replans ++ (if unload then [] else [.cellReset c]) ∧
      ∃ tags, State.Logs [s.event Ev.CELL_RESET c [BitVec.ofNat 32 x.inc, BitVec.ofNat 32 ((x.inc + 1) % 65536),
        BitVec.ofNat 32 src, tags]] s t
    mRising 0 s.loops = true → s.granted w Reg.PLC_CCMD = true →
    (src ≠ 0 → src ≠ c → answers (.cellReset w) 2) ∧
    ((src = 0 ∨ src = c) → (x.state = 4 → (∃ t, exec (.cellReset w) s = .next t ∧ State.Only [.act, .recd] s t ∧
        State.OnlyRegs [bk src Reg.PLC_CRES] s t ∧ t.reg (bk src Reg.PLC_CRES) = 4) ∧
        (s.fabCycle s.dtb ≠ s.fabCycle x.resetAt → answers (.cellReset w) 4)) ∧ (x.state = 0 → answers (.cellReset w) 3) ∧
      (x.state = 1 → x.loading ≠ none → ∃ t, exec (.cellReset w) s = .next t ∧ t.reg (bk src Reg.PLC_CRES) = 1 ∧ (t.cell c).loading = none ∧
        (t.cell c).inc = (x.inc + 1) % 65536 ∧ (t.cell c).state = if x.image = none then 0 else 4) ∧
      (x.state = 2 ∨ x.state = 3 → resets (.cellReset w) false)) ∧
    (src ≠ 0 ∨ c = 0 → answers (.cellUnload w) 2) ∧
    (src = 0 → c ≠ 0 → (x.state ≠ 2 → x.state ≠ 3 → answers (.cellUnload w) 3) ∧
      (x.state = 2 ∨ x.state = 3 → resets (.cellUnload w) true)) ∧
    (src ≠ 0 → answers (.cellSuspend w) 2 ∧ answers (.cellResume w) 2) ∧
    (src = 0 → x.state ≠ 2 → answers (.cellSuspend w) 3) ∧
    (src = 0 → x.state = 2 → ∃ t, exec (.cellSuspend w) s = .next t ∧ State.Only [.cells, .loops, .slots, .act] s t ∧
      t.reg (bk src Reg.PLC_CRES) = 1 ∧ t.cell c = { x with csusp := true, state := 3 } ∧
      ∀ l, (s.loop l).state ≠ .free → (s.loop l).cell = c → (t.loop l).cmdSusp = true ∧ (t.loop l).ckpt = (s.loop l).ckpt ∧
        ((s.loop l).runs = true → (s.loop l).inPeriod = false → (s.loop l).stopReq = false → (t.loop l).state = .suspended)) ∧
    (src = 0 → x.state ≠ 3 ∨ x.csusp = false → answers (.cellResume w) 3) ∧
    (src = 0 → x.state = 3 → x.csusp = true → ∃ t, exec (.cellResume w) s = .next t ∧ State.Only [.cells, .loops, .act] s t ∧
      t.reg (bk src Reg.PLC_CRES) = 1 ∧
      t.cell c = { x with csusp := false, state := if x.image = none then 0 else if x.t4 then 3 else 2 } ∧
      ∀ l, (s.loop l).state = .suspended → (s.loop l).cell = c → (s.loop l).t4Susp = false →
        (t.loop l).state = (if s.dtb < (s.loop l).period0 then .awaiting else .running) ∧ (t.loop l).due = max (s.loop l).period0 ((s.dtb / (s.loop l).period + 1) * (s.loop l).period)) ∧
    (∀ cmd, cmd % 16 = 0 ∨ 4 < cmd % 16 → answers (.cellCmdBad w cmd) 5)

/-- Ends of cell resets, loop commands and the grant window (R57, R164, R166, R170, R173, R176).  The placing anew by RESTART is log 29. -/
def Obligations.CellResetsEndAndLoopCommands : Prop :=
  ∀ (s : State) (c : Nat) (w : Who),
    let x := s.cell c
    let src := s.whoCell w
    let l := s.regF (bk src Reg.PLC_LSEL) 12 0
    let L := s.loop l
    let res := bk src Reg.PLC_LRES
    let answers (i : Instr) (r : Nat) : Prop := ∃ t, exec i s = .next t ∧ State.Only [.act] s t ∧ State.OnlyRegs [res] s t ∧
      t.reg res = BitVec.ofNat 32 r
    let mine (k : Nat) := (s.loop k).state ≠ .free ∧ (s.loop k).cell = c
    mRising 0 s.loops = true →
    (x.state ≠ 4 ∨ s.cellPosted c = true → exec (.cellResetZeroed c) s = .next s) ∧
    (x.state = 4 → s.cellPosted c = false → x.unloading = false → s.sameIncTag c = false →
      ∃ t, exec (.cellResetZeroed c) s = .next t ∧ State.Only [.cells, .loops, .slots, .hwk] s t ∧
        (t.cell c).shared = [] ∧ (t.cell c).badWords = [] ∧ (t.cell c).inc = x.inc ∧
        (t.cell c).mem = s.regF (bk c Reg.PLC_GMEM) 12 0 ∧ (∀ k, k < 4 → t.credit c k = 0) ∧
        ∀ k, mine k → (t.loop k).g = [] ∧ (t.loop k).flg = 0 ∧ (t.loop k).per = 0 ∧ (t.loop k).pc = (s.loop k).decl.entry ∧
          (t.loop k).data = (s.loop k).decl.init ∧ (t.loop k).inPeriod = false) ∧
    (x.state = 4 → s.cellPosted c = false → x.unloading = true → (x.resetAt / 10000 + 1) * 10000 ≤ s.dtb →
      ∃ t, exec (.cellResetZeroed c) s = .next t ∧ State.Only [.cells, .loops, .pairs, .placer, .act, .recd] s t ∧
        t.cell c = { Cell.empty with inc := x.inc, staleSeen := x.staleSeen } ∧ ∀ k, mine k → t.loop k = Loop.free) ∧
    (s.granted w Reg.PLC_LCMD = true → src ≠ 0 → L.state = .free ∨ L.cell ≠ src → answers (.loopRestart w) 2 ∧ answers (.loopStop w) 2) ∧
    (s.granted w Reg.PLC_LCMD = true → src = 0 → L.state = .free → answers (.loopRestart w) 3 ∧ answers (.loopStop w) 3) ∧
    (s.granted w Reg.PLC_LCMD = true → L.state ≠ .free → src = 0 ∨ L.cell = src →
      (L.state ≠ .stopped → answers (.loopRestart w) 3) ∧
      (L.state = .stopped → L.pair ≠ noPair → ∃ t, exec (.loopRestart w) s = .next t ∧ State.Only [.act, .loops] s t ∧
        t.reg res = 1 ∧ State.OnlyRegs [res] s t ∧ (∀ k, k ≠ l → t.loop k = s.loop k) ∧
        (let at' := (s.dtb / L.period + 1) * L.period
         t.loop l = if L.cmdSusp || L.t4Susp then { L with halted := false, state := .suspended }
           else { L with halted := false, state := if s.dtb < L.period0 then .awaiting else .running,
                         due := max L.period0 at', boundary := max L.period0 at' })) ∧
      (L.state = .stopped → L.pair = noPair → L.pair2 = none →
        let fits (q : Nat) : Prop := q < 32 ∧ s.pairCode q = pairActive ∧ s.fitsOn q L = true
        ((∀ q, ¬fits q) → answers (.loopRestart w) 3) ∧
        (∀ q, fits q → ∃ t, exec (.loopRestart w) s = .next t ∧ State.Only [.act, .loops, .placer] s t ∧ t.reg res = 1 ∧
          fits (t.loop l).pair ∧ (t.loop l).halted = false ∧ (t.loop l).ckpt = L.ckpt ∧ ∀ k, k ≠ l → t.loop k = s.loop k)) ∧
      (L.runs = false → answers (.loopStop w) 3) ∧
      (L.runs = true → ∃ t, exec (.loopStop w) s = .next t ∧ State.Only [.act, .loops, .slots] s t ∧ t.reg res = 1 ∧
        (∀ k, k ≠ l → t.loop k = s.loop k) ∧
        t.loop l = if L.inPeriod then { L with stopReq := true } else { L with state := .stopped, halted := true, stopReq := false })) ∧
    (s.granted w Reg.PLC_GSEL = true → src ≠ 0 → exec (.grantSelectWrite w c) s = .next s) ∧
    (s.granted w Reg.PLC_GSEL = true → src = 0 → s.regB (stageOf grantPage) 2 = true ∨ s.isPending grantPage = true →
      exec (.grantSelectWrite w c) s = .next (s.setRegB Reg.PLC_GERR 0 true)) ∧
    (s.granted w Reg.PLC_GSEL = true → src = 0 → s.regB (stageOf grantPage) 2 = false → s.isPending grantPage = false →
      exec (.grantSelectWrite w c) s = .next (s.setReg Reg.PLC_GSEL (BitVec.ofNat 32 (c % 1024))))

/-- Submission, cancelling, freezes (R181 to R184, R190, R193, R197).  A cell in reset is log 97, a descriptor with an error log 103. -/
def Obligations.RequestsAreAcceptedOrRefused : Prop :=
  ∀ (s : State) (w : Who) (v : Word),
    let c := s.whoCell w
    let sres := bk (whoBank w) Reg.HWK_SRES
    let addr := v.toNat / 64 * 64
    let r := s.submitCheck c addr (s.otherFormat c)
    let answers (i : Instr) (code tag : Nat) : Prop := ∃ t, exec i s = .next t ∧ State.Only [.act] s t ∧
      State.OnlyRegs [sres] s t ∧ t.reg sres = BitVec.ofNat 32 (code * 0x10000 + tag)
    (s.granted w Reg.HWK_SUBMIT = true → (s.cell c).state = 4 → exec (.hwkSubmit w ⟨v, []⟩) s = .next s) ∧
    (s.granted w Reg.HWK_SUBMIT = true → (s.cell c).state ≠ 4 → r.1 ≠ resAccepted → r.1 ≠ resNotag →
      answers (.hwkSubmit w ⟨v, []⟩) r.1 0) ∧
    (s.granted w Reg.HWK_SUBMIT = true → (s.cell c).state ≠ 4 → r.1 = resNotag →
      (s.cellTags + r.2.length ≤ 0xFC00 → answers (.hwkSubmit w ⟨v, []⟩) 2 0) ∧
      (0xFC00 < s.cellTags + r.2.length → ∃ t, exec (.hwkSubmit w ⟨v, []⟩) s = .next t ∧ State.Only [.act, .hwk, .recd] s t ∧
        State.OnlyRegs [sres, Reg.HWK_STAT] s t ∧ t.reg sres = 0x20000 ∧ t.regB Reg.HWK_STAT 31 = true ∧
        t.hwk = { s.hwk with tagfullDone := true } ∧
        State.Logs (if s.hwk.tagfullDone then [] else [s.event Ev.HWK_TAGFULL c [BitVec.ofNat 32 s.inUse, BitVec.ofNat 32 c]]) s t)) ∧
    (∀ es, s.granted w Reg.HWK_SUBMIT = true → ∃ s0, State.Only [.cells, .recd] s s0 ∧
      exec (.hwkSubmit w ⟨v, es⟩) s = exec (.hwkSubmit w ⟨v, []⟩) s0 ∧
      ∀ e ∈ es, e.2 = .double → addr ≤ e.1 → e.1 < addr + 512 → (s.cell c).inShared e.1 4 = true →
        (s0.cell c).badWords.contains ((e.1 - 0x20000000) / 4) = true) ∧
    (s.granted w Reg.HWK_SUBMIT = true → (s.cell c).state ≠ 4 → r.1 = resAccepted → ∀ n, (s.tag n).used = false → (∀ k, k < n → (s.tag k).used = true) →
      ∃ t, exec (.hwkSubmit w ⟨v, []⟩) s = .next t ∧ State.Only [.hwk, .cells, .act] s t ∧ State.OnlyRegs [sres] s t ∧
        t.reg sres = BitVec.ofNat 32 (0x10000 + n) ∧ t.hwk.waiting = s.hwk.waiting ++ [n] ∧
        t.tag n = ⟨true, false, c, (s.cell c).inc, descKind (r.2.headD []), none, r.2.headD [], addr, 0, n, r.2.length, false, 0,
          none⟩ ∧
        (t.cell c).sharedWord (addr - 0x20000000 + 0x20) = BitVec.ofNat 32 (0x10000000 + n)) ∧
    (let n := v.toNat % 0x10000
     let x := s.tag n
     let mine := x.used = true ∧ x.internal = false ∧ x.cell = c ∧ x.inc = (s.cell c).inc
     s.granted w Reg.HWK_CANCEL = true →
     (¬mine → answers (.hwkCancel w v) 8 0) ∧
     (mine → x.engine ≠ none ∨ s.hwk.waiting.contains x.head = false → answers (.hwkCancel w v) 7 0) ∧
     (mine → x.engine = none → s.hwk.waiting.contains x.head = true → ∃ t, exec (.hwkCancel w v) s = .next t ∧
       State.Only [.hwk, .cells, .act] s t ∧ State.OnlyRegs [sres] s t ∧ t.reg sres = BitVec.ofNat 32 (0x60000 + n) ∧
       x.head ∉ t.hwk.waiting ∧ (t.tag n).used = false)) ∧
    (s.granted w Reg.HWK_FRZ = true → c ≠ 0 → exec (.hwkFreezeWrite w v) s = .next s) ∧
    (s.granted w Reg.HWK_FRZ = true → c = 0 → s.reg Reg.HWK_FRZ ≠ v &&& 0x7FF → ∃ t, exec (.hwkFreezeWrite w v) s = .next t ∧ State.Only [.act, .recd] s t ∧
      State.OnlyRegs [Reg.HWK_FRZ, Reg.HWK_FSTAT] s t ∧ t.reg Reg.HWK_FRZ = v &&& 0x7FF ∧
      State.Logs [s.event Ev.ENGINE_FREEZE 0 [s.reg Reg.HWK_FRZ, v &&& 0x7FF]] s t) ∧
    (∀ e, let y := s.engine e
      (s.engineFrozen e = true → y.running = none → y.rest = [] →
        (e = 8 → s.shed 3 = false) → exec (.engineDrained e) s = .next (s.setRegB Reg.HWK_FSTAT e true)) ∧
      (s.engineFrozen 8 = true → (s.engine 8).running = none → (s.engine 8).rest = [] → s.shed 3 = true →
        s.regB Reg.HWK_FSTAT 24 = true → s.hwk.shedKinds.contains 1 = false →
        ∃ t, exec (.engineDrained 8) s = .next t ∧ State.Only [.act, .hwk, .cells] s t ∧ State.OnlyRegs [Reg.HWK_FSTAT] s t ∧
          1 ∈ t.hwk.shedKinds ∧ ∀ n ∈ t.hwk.waiting, n ∈ s.hwk.waiting ∧ (s.tag n).kind ≠ 1) ∧
      (y.resetAt ≠ none → exec (.engineResetEnd e) s = .next (s.setEngine e { y with resetAt := none })))

/-- Credit counters and grants (R185 to R189, R195).  The arbiter's own ECC outcome is log 15, the tags of internal requests log 38. -/
def Obligations.CreditsAndGrants : Prop :=
  ∀ s : State,
    (s.dtb < s.hwk.nextRefill → exec .creditRefill s = .next s) ∧
    (s.hwk.nextRefill ≤ s.dtb → (∀ p ∈ hwkPages, mhas p s.pend = false) → s.hwk.waiting = [] →
      s.hwk.iwaiting = [] → ∃ t, exec .creditRefill s = .next t ∧ State.Only [.hwk] s t ∧
        t.hwk = { s.hwk with
          credit := t.hwk.credit, taken := [], tagfullDone := false,
          nextRefill := (s.dtb / (s.regF Reg.HWK_CFG 9 0 * 10000) + 1) * (s.regF Reg.HWK_CFG 9 0 * 10000) } ∧
        ∀ c k, c < 1024 → k < 4 →
          let gain : Int := (s.regF (Reg.HWK_WC c) 7 0 * s.regF (Reg.HWK_UNIT k) 15 0 : Nat)
          t.credit c k = if s.cellMasked c then s.credit c k
            else min (s.credit c k + gain) (gain * (s.regF (Reg.HWK_UNIT k) 19 16 : Nat))) ∧
    ∀ k, k < 4 →
      exec (.engineGrant ⟨k, .double⟩) s = .next s.placerEcc ∧
      (∃ s0, State.Only [.recd, .drawn] s s0 ∧ s0.recd.handed.length = s.recd.handed.length + 1 ∧
        exec (.engineGrant ⟨k, .single⟩) s = exec (.engineGrant ⟨k, .ok⟩) s0) ∧
      ((kindEngines k).find? s.engineFree = none ∨ s.select k = .nothing → exec (.engineGrant ⟨k, .ok⟩) s = .next s) ∧
      (∀ n, s.select k = .internal n → n ∈ s.hwk.iwaiting ∧ ∀ q, (s.tag n).op = some q → s.reqMasked q = false) ∧
      (∀ e n, (kindEngines k).find? s.engineFree = some e → s.select k = .internal n →
        ∃ t, exec (.engineGrant ⟨k, .ok⟩) s = .next t ∧ State.Only [.hwk] s t ∧ (t.tag n).engine = some e ∧
          (t.engine e).running = some n ∧ (t.engine e).rest = [] ∧ (t.engine e).since = s.dtb ∧ n ∉ t.hwk.iwaiting ∧
          t.hwk.waiting = s.hwk.waiting ∧ t.hwk.credit = s.hwk.credit) ∧
      (∀ e n, (kindEngines k).find? s.engineFree = some e → s.select k = .cellHead n →
        let x := s.tag n
        (x.head = n → x.internal = false → x.engine = none → ∃ t, exec (.engineGrant ⟨k, .ok⟩) s = .next t ∧ State.Only [.hwk, .cells] s t ∧ t.tag n = { x with engine := some e } ∧
          (t.engine e).running = some n ∧ (t.engine e).since = s.dtb ∧ n ∉ t.hwk.waiting ∧
          t.credit x.cell k = max (s.credit x.cell k - 256 * (x.count : Int)) (-65536) ∧
          ∀ c j, j < 4 → (c, j) ≠ (x.cell, k) → t.credit c j = s.credit c j) ∧
        n ∈ s.hwk.waiting ∧ x.used = true ∧ x.kind = k ∧ s.cellMasked x.cell = false ∧
        ((∃ m ∈ s.hwk.waiting, s.selectable k m = true ∧ 0 < s.credit (s.tag m).cell k) → 0 < s.credit x.cell k))

/-- Transactions (R174, R182, R183, R189 to R191).  HWK_ENCNT is log 99, the record of several errors log 98. -/
def Obligations.TransfersRunToTheirEnd : Prop :=
  ∀ (s : State) (n : Nat),
    let x := s.tag n
    let c := s.cell x.cell
    let off := descDst x.desc - 0x20000000
    let words := descLen x.desc / 4
    let src (i : Nat) := s.dmaRead x.cell (descSrc x.desc + 4 * i)
    let filled (t : State) (f : Nat → Word) : Prop :=
      (c.inc ≠ x.inc → t.cells = s.cells) ∧ (∀ d, d ≠ x.cell → t.cell d = s.cell d) ∧
      (c.inc = x.inc → (∀ i, i < words → (t.cell x.cell).sharedWord (off + 4 * i) = f i) ∧
        ∀ k, k < off ∨ off + 4 * words ≤ k → mget 0 k (t.cell x.cell).shared = mget 0 k c.shared)
    (s.mayRun n 0 2 = true → ∃ t, exec (.xferFill n) s = .next t ∧ State.Only [.cells, .hwk] s t ∧
      filled t (fun _ => descArg x.desc 0) ∧ t.tag n = { x with ran := true, err := 0 }) ∧
    (s.mayRun n 0 1 = true → (∀ i, i < words → (src i).2.2 = false) → ∃ t, exec (.xferCopy ⟨n, []⟩) s = .next t ∧
      State.Only [.cells, .hwk] s t ∧ filled t (fun i => (src i).1) ∧ t.tag n = { x with ran := true, err := 0 }) ∧
    (s.mayRun n 0 1 = true → (∃ i, i < words ∧ (src i).2.2 = true) → ∃ t, exec (.xferCopy ⟨n, []⟩) s = .next t ∧
      State.Only [.cells, .hwk, .recd] s t ∧ filled t (fun i => (src i).1) ∧ t.tag n = { x with ran := true, err := 2 } ∧
      ∃ body, State.Logs [s.event Ev.ECC_UNCORRECTABLE x.cell body] s t) ∧
    (∀ es, (s.mayRun n 0 1 = true → ∃ s0, State.Only [.cells, .marked, .recd] s s0 ∧
        exec (.xferCopy ⟨n, es⟩) s = exec (.xferCopy ⟨n, []⟩) s0 ∧
        ∀ a i, i < words → a = descSrc x.desc + 4 * i → (a, Ecc.double) ∈ es → (sharedBase ≤ a ∧ a < 0x30000000) ∨ s.viewKey x.cell a ≠ none →
          (s0.dmaRead x.cell a).2.2 = true) ∧
      (s.mayRun n 0 1 = false → exec (.xferCopy ⟨n, es⟩) s = .next s)) ∧
    (s.mayRun n 0 2 = false → exec (.xferFill n) s = .next s) ∧
    (s.isRunning n = false ∨ x.ran = false ∨ s.emitWaits x = true → exec (.transactionComplete n) s = .next s) ∧
    (∀ e, n < 0xFC00 → x.engine = some e → x.op = none → s.isRunning n = true → x.ran = true → s.emitWaits x = false →
      let eng := s.engine e
      (eng.rest = [] → ∃ t, exec (.transactionComplete n) s = .next t ∧ State.Only [.cells, .hwk, .act, .recd] s t ∧
        t.tag n = Tag.free ∧ t.engine e = { eng with running := none, rest := [] } ∧ State.OnlyRegs [Reg.HWK_ENCNT e] s t ∧
        t.reg (Reg.HWK_ENCNT e) = s.reg (Reg.HWK_ENCNT e) + 1 ∧
        (x.internal = false → c.inc = x.inc → c.inShared (x.addr + 0x20) 12 = true → (s.shed 3 = true → s.hwk.shedKinds.contains 1 = true ∨ (e ≠ 8 ∧ s.engineDrained 8 = false)) →
          let at' := x.addr - 0x20000000 + 0x20
          (t.cell x.cell).sharedWord at' = BitVec.ofNat 32 ((if x.err = 0 then 3 else 4) * 0x10000000 + x.err * 0x1000000 +
            x.seq * 0x10000 + n) ∧
          (t.cell x.cell).sharedWord (at' + 8) = BitVec.ofNat 32 s.dtb)) ∧
      (∀ m rest, eng.rest = m :: rest → m ≠ n → m < 0xFC00 → x.err = 0 → ∃ t, exec (.transactionComplete n) s = .next t ∧
        State.Only [.cells, .hwk, .act, .recd] s t ∧ t.tag n = Tag.free ∧ t.tag m = s.tag m ∧
        t.engine e = { eng with running := some m, rest := rest, since := s.dtb })) ∧
    ∀ e, let eng := s.engine e
      (eng.running = none ∨ s.dtb < eng.since + 4 * tmax (engineKind e) → exec (.engineWatchdog e) s = .next s) ∧
      (eng.running = some n → x.op = none → eng.since + 4 * tmax (engineKind e) ≤ s.dtb → ∃ t, exec (.engineWatchdog e) s = .next t ∧
        State.Only [.cells, .hwk, .act, .recd] s t ∧ t.engine e = { eng with running := none, rest := [], resetAt := some s.dtb } ∧
        t.regB Reg.HWK_STAT 30 = true ∧ State.OnlyRegs [Reg.HWK_STAT, Reg.HWK_ENCNT e] s t ∧
        (n < 0xFC00 → t.tag n = Tag.free) ∧
        (eng.rest = [] → x.internal = false → c.inc = x.inc → c.inShared (x.addr + 0x20) 12 = true → (s.shed 3 = true → s.hwk.shedKinds.contains 1 = true ∨ (e ≠ 8 ∧ s.engineDrained 8 = false)) →
          let at' := x.addr - 0x20000000 + 0x20
          (t.cell x.cell).sharedWord at' = BitVec.ofNat 32 (0x41000000 + x.seq * 0x10000 + n) ∧
          (t.cell x.cell).sharedWord (at' + 8) = BitVec.ofNat 32 s.dtb) ∧
        ∃ before, t.recd.handed = s.recd.handed ++ before ++
          [s.event Ev.ENGINE_FAULT x.cell [BitVec.ofNat 32 e, BitVec.ofNat 32 x.cell, BitVec.ofNat 32 n]])

/-- Scan and conversions (R205 to R226). The arithmetic of a spot rests on log 39, temperatures on log 40, the OVER flags and the
flags of an overvoltage slot on log 42, FIRST after reset on log 44, REFSUSP on log 43, and the time after a second overload on log 112. -/
def Obligations.ScansAndConversions : Prop :=
  ∀ (s : State) (c : Nat) (m : FeMeas),
    let x := s.feChan c
    let plainOf (i : Nat) (m : FeMeas) : Word × Word × Word :=
      let q0 := if s.feModeOf i = 3 then subF m.raw m.aux else m.raw
      let q := addF (mulF (s.feCorr i 1) q0) (s.feCorr i 2)
      let sub := feSub (s.reg (feCfgK i))
      (q0, q, if feIsRtd (s.feModeOf i) then Config.rtdTemp sub q
        else if s.feModeOf i = 5 then Config.tcTemp sub (addF q (Config.tcEmf sub m.aux)) else q)
    let zOf (i : Nat) (m : FeMeas) (code : Nat) : Word × Word :=
      let iq := spotIq (feAcq (s.reg (feCfgK i))) code (m.spots.getD ((s.feSpots i).idxOf code) [])
      let w := s.reg (Reg.FE_CHCFG (i / 4))
      let z (x : Word) := fpNegate (divF (mulF (fpNat (cfPf (fld w 5 4))) x) (vexc (fld w 7 6)))
      (z iq.1, z iq.2)
    let epsOf (i : Nat) (m : FeMeas) (code : Nat) : Word × Word :=
      let z := zOf i m code
      let gr := s.feCorr i (4 + 2 * code)
      let gi := s.feCorr i (5 + 2 * code)
      (divF (subF (mulF gr z.1) (mulF gi z.2)) (s.feCorr i (40 + code)),
        fpNegate (divF (addF (mulF gr z.2) (mulF gi z.1)) (s.feCorr i (40 + code))))
    let psiOf (i : Nat) (sl : FeSlot) (m : FeMeas) : Option Word :=
      let P := sl.profile.getD (s.profileWords (feProf (s.reg (feCfgK i))))
      let e1 := epsOf i m (fld (P.getD 25 0) 3 0)
      let e2 := epsOf i m (fld (P.getD 25 0) 7 4)
      let a := subF e1.1 0x3F800000
      let c := subF e2.1 0x3F800000
      let psi := addF (divF (subF e1.1 e2.1) a) (mulF (P.getD 26 0) (divF e2.2 c))
      if fpLt a 0x3D4CCCCD || fpLt c 0x3D4CCCCD || fpIsNaN psi then none else some psi
    let tcompOf (i : Nat) : Bool :=
      let tk := fiFe (feTin (s.reg (feCfgK i)))
      !bitAt (s.fiRead (tk + 2)) 0 ||
        decide ((s.fiRead (tk + 4)).toNat + (s.fiRead (tk + 5)).toNat * 2 ^ 32 + 10000000000 < s.dtb)
    let dielValue (i : Nat) (sl : FeSlot) (m : FeMeas) : Word :=
      let C := sl.profile.getD (s.profileWords (feProf (s.reg (feCfgK i))))
      let T := s.fiRead (fiFe (feTin (s.reg (feCfgK i))))
      match psiOf i sl m with
      | none => 0x7FC00000
      | some psi =>
        let h (x a b c d e : Word) : Word := addF (mulF (addF (mulF (addF (mulF (addF (mulF e x) d) x) c) x) b) x) a
        let row (r : Nat) : Word :=
          h psi (C.getD (5 * r) 0) (C.getD (5 * r + 1) 0) (C.getD (5 * r + 2) 0) (C.getD (5 * r + 3) 0) (C.getD (5 * r + 4) 0)
        if tcompOf i then 0x7FC00000 else h T (row 0) (row 1) (row 2) (row 3) (row 4)
    (x.slot ≠ none → exec (.inputSlotStart c) s = .next s) ∧
    (∀ i rest, c < 48 → x.slot = none → x.freeAt ≤ s.dtb → s.onSafe = false → x.todo.filter s.feEligible = i :: rest →
      let cfg := s.reg (feCfgK i)
      fld cfg 31 28 ≠ 1 →
      let due := s.dtb + (200 + s.regF (feSetK i) 15 0 * 1000 + feSamples (fld cfg 27 25) * 32)
      ∃ t, exec (.inputSlotStart c) s = .next t ∧ State.Only [.fe] s t ∧ (∀ k, k ≠ c → t.feChan k = s.feChan k) ∧
        t.feChan c = { x with
          slot := some ⟨i, s.dtb, due, s.regF Reg.FE_GSTAT 1 0, [], [], false, false, none⟩, todo := rest,
          scanStart := some (x.scanStart.getD s.dtb) }) ∧
    ∀ sl, x.slot = some sl →
      let i := sl.input
      let y := s.feIn i
      (s.dtb < sl.due → exec (.conversionBoundary c m) s = .next s) ∧
      (sl.due ≤ s.dtb → s.onSafe = false → s.isPending (fePage c) = false →
        (0 < y.discard → ∃ t, exec (.conversionBoundary c m) s = .next t ∧ State.Only [.fe, .act] s t ∧
          (t.feIn i).discard = y.discard - 1 ∧ (t.feChan c).slot = none) ∧
        (y.discard = 0 → y.hidx < 32 → sl.ref < 4 →
          let mode := s.feModeOf i
          let cfg := s.reg (feCfgK i)
          let k := fiFe i
          let win := cmWindow mode (s.reg (feCmK i))
          let v := if mode = 1 then dielValue i sl m else (plainOf i m).2.2
          ∃ t, exec (.conversionBoundary c m) s = .next t ∧ State.Only [.image, .marked, .fe, .act, .recd] s t ∧
            let is (b : Nat) : Bool := bitAt (t.fiWord (k + 2)) b
            (t.feChan c).slot = none ∧ (t.feChan c).freeAt = s.dtb + (if mode = 5 ∨ mode = 7 ∨ mode = 8 then 100000 else 0) ∧
            (t.feIn i).seq = (y.seq + 1) % 2 ^ 32 ∧ (t.feIn i).hidx = (y.hidx + 1) % 32 ∧ (t.feIn i).first = false ∧
            t.reg (Reg.FE_CONV (i / 4)) = s.reg (Reg.FE_CONV (i / 4)) + 1 ∧
            (∀ j, j ≠ c → t.feChan j = s.feChan j) ∧ (∀ j, j ≠ i → t.feIn j = s.feIn j) ∧
            (∀ a, (a < k ∨ k + 128 ≤ a) → t.fiWord a = s.fiWord a) ∧
            t.fiWord (k + 3) = BitVec.ofNat 32 (y.seq + 1) ∧ t.fiWord (k + 35) = BitVec.ofNat 32 (y.seq + 1) ∧
            t.fiWord (k + 4) = BitVec.ofNat 32 s.dtb ∧ t.fiWord (k + 5) = BitVec.ofNat 32 (s.dtb / 2 ^ 32) ∧
            t.fiWord (k + 7) = m.cmv ∧ t.fiWord (k + 13) = s.reg Reg.FE_CALSEQ ∧ t.fiWord (k + 14) = BitVec.ofNat 32 y.hidx ∧
            t.fiWord k = (if is 0 then v else 0x7FC00000) ∧
            t.fiWord (k + 64 + 2 * y.hidx) = BitVec.ofNat 32 s.dtb ∧ t.fiWord (k + 65 + 2 * y.hidx) = t.fiWord k ∧
            is 0 = (fld (t.fiWord (k + 2)) 15 6 == 0 && s.refUsable) ∧ is 2 = y.first ∧
            is 3 = (s.regF Reg.FE_REFSTAT 7 0 != 0 || sl.susp) ∧ is 4 = s.fe.disagree ∧
            is 10 = (!sl.ovp && (fpLtRat m.cmv win.1 10 || fpGtRat m.cmv win.2 10)) ∧ is 11 = sl.ovp ∧
            is 14 = decide (s.fe.cal.sel = some i) ∧ fld (t.fiWord (k + 2)) 19 16 = mode ∧
            fld (t.fiWord (k + 2)) 21 20 = sl.ref ∧ is 22 = !s.feCalibrated i ∧ is 1 = false ∧ is 12 = false ∧
            (mode ≠ 1 →
              let q := (plainOf i m).2.1
              let sub := feSub cfg
              let p : Nat := if sub = 1 then 10 else 1
              let flags (op sh rv ov : Bool) : Prop :=
                is 7 = (!sl.ovp && op) ∧ is 8 = (!sl.ovp && sh) ∧ is 9 = (!sl.ovp && rv) ∧ is 6 = (!sl.ovp && ov)
              t.fiWord (k + 1) = (plainOf i m).1 ∧ t.fiWord (k + 6) = (if mode = 3 ∨ mode = 5 then m.aux else 0) ∧
              is 5 = false ∧ is 13 = false ∧ is 15 = false ∧
              ((mode = 2 ∨ mode = 3 ∨ mode = 4) → flags m.leadOpen (fpLtRat q (15 * p) 1) (mode != 2 && fpLtRat m.aux (-1) 1)
                (fpGtRat q (400 * p) 1 || fpGtRat v 850 1 || (!fpLtRat q (15 * p) 1 && fpLtRat v (-200) 1))) ∧
              (mode = 5 → flags m.leadOpen false (fpLtRat v (-60) 1) (fpGtRat v (min 1000 (Config.tcHigh sub)) 1 ||
                fpLtRat v (Config.tcLow sub) 1 || fpGtRat q 80 1 || fpLtRat q (-10) 1)) ∧
              (mode = 6 → flags (fpLtRat q 18 5) (fpGtRat q 25 1) (fpLtRat q (-1) 5)
                (!fpIsNaN q && !fpLtRat q 21 1 && !fpGtRat q 25 1)) ∧
              (mode = 7 → flags m.leadOpen false (fpLtRat q (-3) 10) (fpGtRat q 54 5)) ∧
              (mode = 8 → flags m.leadOpen m.limit false (fpLtRat q 0 1 || fpGtRat q 1 1))) ∧
            (mode = 1 → m.spots.length = (s.feSpots i).length →
              let codes := s.feSpots i
              let P := sl.profile.getD (s.profileWords (feProf cfg))
              let f1 := fld (P.getD 25 0) 3 0
              let f2 := fld (P.getD 25 0) 7 4
              let T := s.fiRead (fiFe (feTin cfg))
              let psi := psiOf i sl m
              (∀ j code, j < 8 → codes[j]? = some code → t.fiWord (k + 16 + 2 * j) = (epsOf i m code).1 ∧
                t.fiWord (k + 17 + 2 * j) = (epsOf i m code).2 ∧
                fld (t.fiWord (k + 32 + j / 4)) (8 * (j % 4) + 7) (8 * (j % 4)) = code % 256) ∧
              t.fiWord (k + 34) = BitVec.ofNat 32 y.ovl ∧ t.fiWord (k + 12) = BitVec.ofNat 32 (feProf cfg) ∧ t.fiWord (k + 6) = T ∧
              (codes.contains f1 = true → t.fiWord (k + 8) = (epsOf i m f1).1 ∧ t.fiWord (k + 9) = (epsOf i m f1).2) ∧
              (codes.contains f2 = true → t.fiWord (k + 10) = (epsOf i m f2).1 ∧ t.fiWord (k + 11) = (epsOf i m f2).2) ∧
              (codes.contains f1 = true → codes.contains f2 = true →
                t.fiWord (k + 1) = psi.getD 0x7FC00000 ∧ is 15 = (!sl.ovp && psi.isNone) ∧ is 13 = (!sl.ovp && tcompOf i) ∧
                is 5 = (!sl.ovp && ((!tcompOf i && outside T (P.getD 27 0) (P.getD 28 0)) ||
                  outside (psi.getD 0x7FC00000) (P.getD 29 0) (P.getD 30 0) || outside v (P.getD 31 0) (P.getD 32 0))) ∧
                is 6 = (!sl.ovp && !sl.overloaded.isEmpty) ∧
                is 8 = (!sl.ovp && ((!codes.isEmpty && codes.all sl.overloaded.contains) || m.limit)) ∧
                is 7 = (!sl.ovp && (!codes.isEmpty && codes.all fun code =>
                  decide (100 * absSq (zOf i m code) < fpExact (s.feCorr i (40 + code)) * fpExact (s.feCorr i (40 + code))))) ∧
                is 9 = false)))) ∧
      exec (.terminalOvervoltage c) s = .next (s.setFeChan c { x with slot := some { sl with ovp := true } }) ∧
      ∀ spot, s.feModeOf i = 1 → (s.feSpots i).contains spot = true →
        (sl.overloaded.contains spot = true → exec (.dielOverload c spot) s = .next s) ∧
        (sl.overloaded.contains spot = false → sl.repeated.contains spot = true → ∃ (t : State) (due : Nat),
          exec (.dielOverload c spot) s = .next t ∧ State.Only [.fe] s t ∧ s.dtb + 2000 ≤ due ∧ t.feIn i = y ∧
          t.feChan c = { x with slot := some { sl with overloaded := spot :: sl.overloaded, due := due } }) ∧
        (sl.overloaded.contains spot = false → sl.repeated.contains spot = false → ∃ (t : State) (due : Nat),
          exec (.dielOverload c spot) s = .next t ∧ State.Only [.fe] s t ∧ s.dtb + 2000 ≤ due ∧
          t.feIn i = { y with ovl := (y.ovl + 1) % 2 ^ 32 } ∧
          t.feChan c = { x with slot := some { sl with repeated := spot :: sl.repeated, due := due } })

/-- Probes and references (R225 to R232). Deviations, runs and the choice of a reference rest on log 43, the contact's samples on log 44,
VALID kept after a loss of every reference on log 112. -/
def Obligations.ProbesAndReferences : Prop :=
  ∀ (s : State) (n va vb vx r : Nat),
    let st := Reg.FE_STAT n
    let plugged := s.regB st 31
    let v := refVolts va vb vx
    (16 ≤ n → exec (.probeRemoved n) s = .next s) ∧
    (n < 16 → plugged = false → exec (.probeRemoved n) s = .next { s with fe := { s.fe with opened := mset 0 n s.dtb s.fe.opened } }) ∧
    (plugged = true ∨ s.dtb < mget 0 n s.fe.opened + 200010000 → exec (.probeInserted n) s = .next s) ∧
    (n < 16 → plugged = true → ∃ t, exec (.probeRemoved n) s = .next t ∧
      State.Only [.fe, .act, .image, .marked, .hwk, .recd] s t ∧ t.regB st 31 = false ∧
      (∀ i, i = 4 * n ∨ i = 4 * n + 1 → t.fiWord (fiFe i) = 0x7FC00000 ∧ bitAt (t.fiWord (fiFe i + 2)) 0 = false ∧
        bitAt (t.fiWord (fiFe i + 2)) 12 = true) ∧
      (∀ sl, (t.feChan n).slot = some sl → 2 ≤ sl.input % 4) ∧
      ∃ more, t.recd.handed = s.recd.handed ++ more ++ [s.event Ev.PROBE_REMOVED 0 [BitVec.ofNat 32 n]]) ∧
    (n < 16 → plugged = false → s.dielShed = false → mget 0 n s.fe.opened + 200010000 ≤ s.dtb → ∃ t, exec (.probeInserted n) s = .next t ∧
      State.Only [.fe, .act, .face, .recd] s t ∧ State.OnlyRegs [st] s t ∧ t.regB st 31 = true ∧
      (∀ i, i = 4 * n ∨ i = 4 * n + 1 → t.feIn i = { s.feIn i with discard := 1 }) ∧
      State.Logs [s.event Ev.PROBE_INSERTED 0 [BitVec.ofNat 32 n]] s t) ∧
    (s.dtb < s.fe.nextAvg → exec (.refAverage va vb vx) s = .next s) ∧
    (s.fe.nextAvg ≤ s.dtb → ∃ t, exec (.refAverage va vb vx) s = .next t ∧
      State.Only [.fe, .act, .image, .marked, .hwk, .recd] s t ∧
      t.fe.nextAvg = (s.dtb / 1000000000 + 1) * 1000000000 ∧
      (∀ q ∈ s.refsFitted, t.reg (Reg.FE_REFDEV q) = BitVec.ofInt 32 (devPpm (s.refDev v q))) ∧
      ((∀ q, q < 3 → s.refState q ≠ 1) →
        let sel := s.refSel
        let count := s.regF Reg.FE_REFSTAT 7 0
        let off := devAbove (s.refDev v sel) 150
        (off = false → t.regF Reg.FE_REFSTAT 7 0 = 0 ∧ t.fe.disagree = false ∧ t.refSel = sel) ∧
        (off = true → s.refDecidable v sel = true →
          (count < 59 → t.regF Reg.FE_REFSTAT 7 0 = count + 1 ∧ t.refSel = sel) ∧
          (count = 59 → s.refState sel ≠ 2 → ∀ q, s.refBetter v sel = some q → sel < 3 →
            t.refSel = q ∧ t.refState sel = 1 ∧ t.regF Reg.FE_REFSTAT 7 0 = 0)))) ∧
    (2 ≤ s.refState r → exec (.refFail r true va vb vx) s = .next s) ∧
    (s.refState r < 2 → r ∈ s.refsFitted → ∃ t, exec (.refFail r true va vb vx) s = .next t ∧
      State.Only [.fe, .act, .image, .marked, .hwk, .recd] s t ∧ t.refState r = 2 ∧ t.regB Reg.FE_REFEVT 1 = true ∧
      (s.refSel ≠ r → t.refSel = s.refSel) ∧ (s.refSel = r → ∀ q, s.refBetter v r = some q → t.refSel = q))

/-- Calibration (R233 to R237). The RES codes of a refused command, the ends and the averages rest on log 45, the first of a point's 16
conversions on log 112. -/
def Obligations.CalibrationOfAnInput : Prop :=
  ∀ (s : State) (w : Who) (v : Word),
    let c := s.fe.cal
    let busy := s.calBusy
    let stored := (s.nvSet 0).storing.isSome
    let onlyRes (i : Instr) (r : Nat) : Prop := exec i s = .next (s.setRegF Reg.FE_CALSTAT 27 24 r)
    let ends (i : Instr) (st r : Nat) (cal : FeCal) : Prop := ∃ t, exec i s = .next t ∧ State.Only [.fe, .act, .image, .marked, .recd] s t ∧
      t.fe.cal = cal ∧ t.regF Reg.FE_CALSTAT 31 28 = st ∧ t.regF Reg.FE_CALSTAT 27 24 = r
    s.granted w Reg.FE_CALSEL = true →
    (busy = true → onlyRes (.feCalselWrite w v) 8 ∧ onlyRes (.pointlo w) 8 ∧ onlyRes (.pointhi w) 8 ∧ onlyRes (.commit w) 8) ∧
    (∃ t, exec (.abortI w) s = .next t ∧ State.Only [.fe, .act, .image, .marked, .recd] s t ∧ t.fe.cal = FeCal.idle ∧
      t.regF Reg.FE_CALSTAT 31 28 = 0 ∧ t.regB Reg.FE_CALSEL 31 = false) ∧
    (busy = false →
      (bitAt v 31 = true → fld v 7 0 ≤ 191 → ends (.feCalselWrite w v) 0 0 { FeCal.idle with sel := some (fld v 7 0) }) ∧
      (bitAt v 31 = true → 191 < fld v 7 0 → ends (.feCalselWrite w v) 0 7 FeCal.idle) ∧
      (c.sel = none → onlyRes (.pointlo w) 7 ∧ onlyRes (.pointhi w) 7) ∧
      (c.sel ≠ none → ends (.pointlo w) 1 0 { c with measuring := some false, samples := [] } ∧
        ends (.pointhi w) 1 0 { c with measuring := some true, samples := [] }) ∧
      (stored = false → c.sel = none ∨ c.lo = none ∨ c.hi = none → ends (.commit w) 0 11 FeCal.idle) ∧
      (stored = false → ∀ i lo hi, c.sel = some i → c.lo = some lo → c.hi = some hi → s.feModeOf i ≠ 1 →
        (s.plainCorr i lo hi = none → ends (.commit w) 0 3 FeCal.idle) ∧
        (∀ g o, s.plainCorr i lo hi = some [(corrKey i 0, 1), (corrKey i 1, g), (corrKey i 2, o)] →
          ∃ t, exec (.commit w) s = .next t ∧ State.Only [.fe, .act, .hwk, .recd] s t ∧ t.fe.cal = c ∧ t.fe.commit = some i ∧
            t.regF Reg.FE_CALSTAT 31 28 = 3 ∧ mget 0 (corrKey i 1) t.fe.newCorr = g ∧ mget 0 (corrKey i 2) t.fe.newCorr = o ∧
            ((t.nvSet 0).requested = true ∨ (t.nvSet 0).pending = true)))) ∧
    (∀ i hi, c.sel = some i → c.measuring = some hi →
      (c.samples.length < 16 → exec .calPointDone s = .next s) ∧
      (16 ≤ c.samples.length → s.calUnstable i c.samples = false →
        let p : FePoint := ⟨calAverage c.samples, s.reg Reg.FE_CALREF, s.reg Reg.FE_CALREFI⟩
        let c1 := { c with measuring := none, samples := [] }
        ends .calPointDone 2 1 (if hi then { c1 with hi := some p } else { c1 with lo := some p })) ∧
      (16 ≤ c.samples.length → s.calUnstable i c.samples = true →
        ends .calPointDone (if c.hi.isSome || c.lo.isSome then 2 else 0) 2 { c with measuring := none, samples := [] })) ∧
    (fld v 3 0 = 0 ∨ 4 < fld v 3 0 → onlyRes (.calBadCmd w v) 7)

/-- The column update, its inputs, and PREDICT (R246 to R264). NANIN in HOLD, the end of WARM and the state of a column before its first
update rest on log 46, exp, ln and pow inside the step on log 40. -/
def Obligations.ColumnUpdateAndPrediction : Prop :=
  ∀ (s : State) (us d x n : Nat) (w : Who) (v : Word),
    let c := s.column d
    (s.dtb < s.col.nextUpd ∨ s.shed 3 = true → exec (.columnUpdate us) s = .next s) ∧
    (s.col.nextUpd ≤ s.dtb → s.shed 3 = false → d < 16 → s.colEn d = true → (∀ e, e < 16 → e ≠ d → s.colEn e = false) →
      (∀ e, e < 16 → mhas (colPage e) s.pend = false ∧ mhas (colFitPage e) s.pend = false) → c.layers.length = 256 →
      let upd := s.dtb / 1000000000 * 1000000000
      let bad := s.colInvalid d
      let seq := (c.seq + 1) % 2 ^ 32
      ∃ t, exec (.columnUpdate us) s = .next t ∧ State.Only [.act, .col, .image, .marked, .recd] s t ∧
        t.col.nextUpd = upd + 1000000000 ∧ t.reg Reg.COL_UTIME = BitVec.ofNat 32 (min us 0xFFFF) ∧
        (∀ e, e ≠ d → t.column e = s.column e) ∧ t.reg (Reg.COL_SIN d) = BitVec.ofNat 32 bad ∧
        t.reg (Reg.COL_SSEQ d) = BitVec.ofNat 32 seq ∧ (t.column d).seq = seq ∧ (t.column d).dtb = upd ∧
        (∀ l, l < 256 → t.fiWord (fiCol d + 16 * l) = BitVec.ofNat 32 seq) ∧
        (bad ≠ 0 → (t.column d).state = colHold ∧ (t.column d).layers = c.layers ∧ (t.column d).region = c.region ∧
          (∀ b, b < c.verds.length → b < 8 → ((t.column d).verds.getD b (0, 0, false)).1 = (c.verds.getD b (0, 0, false)).1 ∧
            (s.regB (Reg.COL_PB d b) 31 = true → ((t.column d).verds.getD b (0, 0, false)).2.2 = true)) ∧
          t.reg (Reg.COL_SCONF d) = 0 ∧ t.regF (Reg.COL_SSTAT d) 31 28 = 3 ∧ t.regB (Reg.COL_SSTAT d) 7 = true ∧
          State.Logs (if c.state = colHold then []
            else [s.event Ev.COL_STATE 0 ([BitVec.ofNat 32 d, BitVec.ofNat 32 c.state, 3] ++ dtbWords s.dtb)]) s t) ∧
        (bad = 0 →
          let i := s.colSample d
          let stale := c.state == colHold && (c.holdWarm ||
            decide (s.regF (Reg.COL_TIME d) 31 16 * 1000000000 < upd - c.holdAt))
          let init := c.needInit || stale
          let warm := decide (s.dtb < c.initAt + s.regF (Reg.COL_TIME d) 15 0 * 1000000000)
          let r := fpVal (schedRegion (s.colAe d) (s.colTe d) (s.colPar d 9) (s.colPar d 10) (airSum (s.colNz d) i.air) i.q
            (if init then regionNone else c.region))
          let from' := if init then
              List.replicate 256 { ColLayer.zero with u := divF i.min (subF f100 i.min), th := i.gin }
            else c.layers
          let step := colStep (s.colConst d ((s.fitFor d r).getD (r, 0)).1) i from'
          (t.column d).state = (if init then colWarm else if c.state = colHold then colRun
            else if c.state = colWarm ∧ warm = false then colRun else c.state) ∧
          (t.column d).region = BitVec.ofNat 32 r ∧
          (t.column d).layers.map (fun y => { y with proj := 0 }) = step.map (fun y => { y with proj := 0 }))) ∧
    (d < 16 → x < 6 → s.granted w (Reg.COL_IN d x) = true → ∃ t, exec (.columnInputWrite w d x v) s = .next t ∧ State.Only [.act, .col] s t ∧
      State.OnlyRegs [Reg.COL_IN d x] s t ∧ t.reg (Reg.COL_IN d x) = v ∧ t.col.nextUpd = s.col.nextUpd ∧
      (∀ e, e ≠ d → t.column e = s.column e) ∧ t.column d = { c with written := c.written.set x (some s.dtb) }) ∧
    (s.mayRun n 1 1 = true →
      let desc := (s.tag n).desc
      let e := (descArg desc 0).toNat % 16
      let y := s.column e
      (y.state ≠ colWarm → y.state ≠ colRun → exec (.predict n) s = .next (s.ranWith n 3)) ∧
      (y.state = colWarm ∨ y.state = colRun →
        let i := predictIn (s.colNz e) y.ins (descArg desc 1) (descArg desc 2) (descArg desc 3)
        let r := 8 * axisCell (s.colAe e) (descArg desc 1) + axisCell (s.colTe e) (descArg desc 2)
        let k := s.colConst e ((s.fitFor e r).getD (r, 0)).1
        let h := (descArg desc 0).toNat / 256 % 16 + 1
        exec (.predict n) s = .next ((s.dmaWrite n (descDst desc) ((List.range 16).map fun j =>
          (if j < h then wetOf ((Nat.repeat (colStep k i) (j + 1) y.layers).getD 255 ColLayer.zero).u else 0, false))).ranWith
            n 0)))

/-- Frames of a trunk (R286 to R330). A lost arbitration by its own command, a TIME frame that is not due on a quiet trunk and the first
numbers rest on logs 47 and 48, the bits of a frame on log 100. -/
def Obligations.TrunksSelectAndSend : Prop :=
  ∀ (s : State) (n sof : Nat), n < 32 →
    let x := s.trunk n
    let esi := s.regF (Reg.LAT_STAT n) 31 30 == 1
    let tec := s.latTec n
    let b (v : Nat) : List Byte := [BitVec.ofNat 8 v]
    let b2 (v : Nat) : List Byte := [BitVec.ofNat 8 v, BitVec.ofNat 8 (v / 256)]
    -- the frame in transmission ends without error, and the trunk becomes `y` beside the frame sent
    let ends (i : Instr) (f : LatFrame) (y : Trunk) (more : State → Prop) : Prop := ∃ t, exec i s = .next t ∧
      State.Only [.trunks, .act, .recd] s t ∧ (∀ k, k ≠ n → t.trunk k = s.trunk k) ∧
      t.trunk n = { y with sel := none, out := some f, stepTx := false, collide := (0, 0, 0),
                           wire := if s.latLbk n = 1 then [] else frameBits f,
                           noAck := if s.latLbk n = 1 then x.noAck else 0 } ∧ t.latTec n = tec - 1 ∧ more t
    let applies := s.isPending (latPage n) && s.frameReached (latPage n)
    (x.sel ≠ none ∨ s.latOffers n = [] ∨ applies = true → exec (.frameSelection n) s = .next s) ∧
    (x.sel = none → applies = false →
      ∀ pre o post, s.latOffers n = pre ++ o :: post → (∀ p ∈ pre, o.1 < p.1) → (∀ p ∈ post, o.1 ≤ p.1) →
      exec (.frameSelection n) s = .next (s.setTrunk n { x with
        sel := some o.2
        pay := if o.2 = .time then b2 x.seq ++ bytesOf 8 x.prev ++
            b (x.prevOk.toNat + 2 * (x.step || x.stepped).toNat + 4 * s.gptpOn.toNat) ++ b (s.regF (Reg.LAT_BTD n) 31 30)
          else x.pay })) ∧
    (s.dtb < x.nextTime → exec (.timeFrameDue n) s = .next s) ∧
    (x.nextTime ≤ s.dtb → ∃ t, exec (.timeFrameDue n) s = .next t ∧ State.Only [.trunks, .act] s t ∧
      State.OnlyRegs [Reg.LAT_STAT n] s t ∧ (∀ k, k ≠ n → t.trunk k = s.trunk k) ∧
      t.reg (Reg.LAT_STAT n) = (if x.due && s.latEn n then setBit (s.reg (Reg.LAT_STAT n)) 1 true else s.reg (Reg.LAT_STAT n)) ∧
      t.trunk n = { x with
        seq := (x.seq + 1) % 2 ^ 16, due := s.latEn n && !s.latQuiet n && !s.onSafe,
        sel := if x.sel = some .time then none else x.sel, stepTx := x.sel != some .time && x.stepTx, prev := x.sent.getD 0, prevOk := x.sent.isSome, sent := none,
        step := x.stepped, stepped := false, nextTime := (s.dtb / 10000000 + 1) * 10000000 }) ∧
    (x.sel ≠ some .time → exec (.time n sof) s = .next s) ∧
    (x.sel = some .time → ends (.time n sof) ⟨false, esi, 0, x.pay, sof⟩
      { x with due := false, sent := if x.stepTx then none else some sof, stepped := x.stepTx } fun _ => True) ∧
    (x.sel ≠ some .engine → exec (.census n sof) s = .next s ∧ exec (.sweepOpen n sof) s = .next s ∧
      exec (.sweepClose n sof) s = .next s) ∧
    (x.sel = some .engine →
      (∀ first last a, x.cmd = some (.census first last a) →
        let num := (x.censusNum + 1) % 256
        ends (.census n sof) ⟨true, esi, 0x17FFFF, b 1 ++ b num ++ b first ++ b last ++ List.replicate 4 0, sof⟩
          { x with cmd := none, census := some ⟨first, last, s.dtb, sof, none, []⟩, censusNum := num, seen := [] }
          fun t => t.regB (Reg.LAT_STAT n) 27 = true) ∧
      (∀ wet thr nmax lim tag, x.cmd = some (.sweepOpen wet thr nmax lim tag) →
        let num := (x.sweepNum + 1) % 256
        ends (.sweepOpen n sof)
          ⟨true, esi, 0x17FFFF, b (if wet then 3 else 2) ++ b num ++ b2 thr ++ b2 nmax ++ b2 lim, sof⟩
          { x with cmd := none, sweep := some ⟨wet, nmax, s.dtb + lim * 1000000, s.dtb, none⟩, sweepNum := num, seen := [] } fun t =>
          t.regB (Reg.LAT_STAT n) 28 = true ∧ t.reg (Reg.LAT_SWTAG n) = BitVec.ofNat 32 tag ∧
          t.regF (Reg.LAT_SWSTAT n) 31 24 = num ∧ t.regF (Reg.LAT_SWSTAT n) 23 22 = 1 ∧ t.regF (Reg.LAT_SWSTAT n) 8 0 = 0) ∧
      (∀ sw, x.cmd = some .sweepClose → x.sweep = some sw → ∃ t, exec (.sweepClose n sof) s = .next t ∧
        State.Only [.trunks, .act, .recd] s t ∧ (t.trunk n).sweep = none ∧ (t.trunk n).sel = none ∧
        (t.trunk n).out = some ⟨true, esi, 0x17FFFF, b 4 ++ b x.sweepNum ++ List.replicate 6 0, sof⟩ ∧
        t.latTec n = tec - 1 ∧ t.regB (Reg.LAT_STAT n) 28 = false ∧ t.regF (Reg.LAT_SWSTAT n) 23 22 = 2 ∧
        (sw.closing.getD 0 < 4 → t.regF (Reg.LAT_SWSTAT n) 21 20 = sw.closing.getD 0))) ∧
    (x.sweep = none → exec (.sweepDrained n) s = .next s ∧ exec (.sweepTimeLimit n) s = .next s) ∧
    (∀ sw, x.sweep = some sw →
      let closes (why : Nat) : State := if sw.closing.isSome then s
        else s.setTrunk n { x with sweep := some { sw with closing := some why }, cmd := some .sweepClose }
      exec (.sweepDrained n) s = .next (closes 1) ∧
      exec (.sweepTimeLimit n) s = .next (if s.dtb < sw.stop then s else closes 2)) ∧
    (∀ e, x.sel = some (.entry e) → e < 16 →
      let att := min (mget 0 e x.attempts + 1) 255
      let y := { x with attempts := mset 0 e (mget 0 e x.attempts + 1) x.attempts, marked := x.marked.filter fun k => k != e }
      let f := s.txFrame n e sof
      let done (t : State) : Prop := t.txOwned n e = false ∧ t.regB (Reg.LAT_TXST n) e = true ∧
        t.reg (txKey n e 2) = BitVec.ofNat 32 (0x20000000 + att * 0x10000) ∧ t.reg (txKey n e 3) = BitVec.ofNat 32 (sof % 2 ^ 32)
      let cls := s.txArb n e / 0x100000
      (cls = 1 → s.txByte0 n e = 5 → ends (.rate n sof) f { y with quietEnd := s.dtb + 1000000 } fun t =>
        done t ∧ t.latQuiet n = true) ∧
      (cls = 1 → s.txByte0 n e = 0x10 → ends (.nodeCmd n sof) f y done) ∧
      (cls = 14 → ends (.privateI n sof) f y done)) ∧
    (s.latQuiet n = false ∨ s.dtb < x.quietEnd → exec (.quietIntervalEnd n) s = .next s) ∧
    (s.latQuiet n = true → x.quietEnd ≤ s.dtb →
      exec (.quietIntervalEnd n) s = .next (s.setRegB (Reg.LAT_STAT n) 29 false))

/-- Transmit and receive queues (R311 to R318). TX_ENTRY_RETURN as an attempt lost and QUEUED at the queuing rest on logs 47 and 48. -/
def Obligations.TransmitEntries : Prop :=
  ∀ (s : State) (w : Who) (n e : Nat) (v : Word), n < 32 → e < 16 →
    let x := s.trunk n
    let set := bitAt v e
    let owned := s.txOwned n e
    let att (k : Nat) : Nat := min (mget 0 e x.attempts + k) 255
    let res (st reason k : Nat) : Word := BitVec.ofNat 32 (st * 0x10000000 + reason * 0x1000000 + att k * 0x10000)
    (s.granted w (Reg.LAT_TXQ n) = true → ∃ t, exec (.latTxqWrite w n v) s = .next t ∧ State.Only [.trunks, .act] s t ∧
      (∀ k, k ≠ n → t.trunk k = s.trunk k) ∧ (t.trunk n).sel = x.sel ∧
      t.regB (Reg.LAT_TXRES n) e = (set && owned) ∧
      (set = false ∨ owned = true → t.txOwned n e = owned ∧ t.reg (txKey n e 2) = s.reg (txKey n e 2)) ∧
      (set = true → owned = false → s.txCheck n e = 0 → t.txOwned n e = true ∧ t.reg (txKey n e 2) = 0x10000000 ∧
        t.reg (txKey n e 3) = 0 ∧ mget 0 e (t.trunk n).attempts = 0) ∧
      (set = true → owned = false → s.txCheck n e ≠ 0 → t.txOwned n e = false ∧
        t.reg (txKey n e 2) = BitVec.ofNat 32 (0x40000000 + s.txCheck n e * 0x1000000))) ∧
    (s.granted w (Reg.LAT_TXCAN n) = true → ∃ t, exec (.latTxcanWrite w n v) s = .next t ∧ State.Only [.trunks, .act] s t ∧
      (∀ k, k ≠ n → t.trunk k = s.trunk k) ∧ (t.trunk n).sel = x.sel ∧
      t.regB (Reg.LAT_TXRES n) e = (set && !owned) ∧
      t.regB (Reg.LAT_TXRES n) (16 + e) = (set && owned && x.sel == some (.entry e)) ∧
      (set = false ∨ owned = false ∨ x.sel = some (.entry e) → t.txOwned n e = owned ∧
        t.reg (txKey n e 2) = s.reg (txKey n e 2)) ∧
      (set = true → owned = true → x.sel = some (.entry e) → e ∈ (t.trunk n).marked) ∧
      (set = true → owned = true → x.sel ≠ some (.entry e) → t.txOwned n e = false ∧ t.regB (Reg.LAT_TXST n) e = true ∧
        t.reg (txKey n e 2) = res 3 1 0 ∧ t.reg (txKey n e 3) = 0)) ∧
    (x.sel = some (.entry e) → ∃ t, exec (.txEntryReturn n) s = .next t ∧ State.Only [.trunks, .act] s t ∧
      (t.trunk n).sel = none ∧ mget 0 e (t.trunk n).attempts = mget 0 e x.attempts + 1 ∧
      (x.marked.contains e = true → t.txOwned n e = false ∧ t.reg (txKey n e 2) = res 3 1 1) ∧
      (x.marked.contains e = false → s.txOneshot n e = true → t.txOwned n e = false ∧ t.reg (txKey n e 2) = res 5 1 1) ∧
      (x.marked.contains e = false → s.txOneshot n e = false → t.act = s.act)) ∧
    (x.sel ≠ none → (∀ k, x.sel ≠ some (.entry k)) →
      exec (.txEntryReturn n) s = .next (s.setTrunk n { x with sel := none, stepTx := false })) ∧
    (let st := Reg.LAT_RXST n
      let k := min (fld v 5 0) (s.regF st 5 0)
      s.granted w (Reg.LAT_RXACK n) = true → ∃ t, exec (.latRxackWrite w n v) s = .next t ∧ State.Only [.act] s t ∧ State.OnlyRegs [st] s t ∧
        t.regF st 5 0 = s.regF st 5 0 - k ∧ t.regF st 12 8 = (s.regF st 12 8 + k) % 32)

/-- Reception, errors and bus-off (R299 to R329). What the records of a census and of a PRESENT junction write rests on log 47, the error
that bits show on log 100, recovery by time on log 48, the NaN of an entry without its value on Table 9.4. -/
def Obligations.TrunksReceive : Prop :=
  ∀ (s : State) (w : Who) (n sof : Nat) (bits : List Bool) (e : LatError), n < 32 →
    let x := s.trunk n
    let read : Option LatFrame := match latRead bits sof with
      | .frame f => some f
      | _ => none
    let f := read.getD ⟨false, false, 0, [], 0⟩
    let cls := f.arb / 0x100000
    let runs := s.latRuns n && !s.latOff n && !s.onSafe
    let hears := runs && s.latListens n bits && read.isSome
    let rec1 := if 127 < s.latRec n then 120 else s.latRec n - 1
    let st := Reg.LAT_RXST n
    let cnt := s.regF st 5 0
    let good (i : Instr) (more : State → Prop) : Prop := ∃ t, exec i s = .next t ∧
      State.Only [.trunks, .act, .recd, .image, .marked, .nodeHist] s t ∧ (∀ k, k ≠ n → t.trunk k = s.trunk k) ∧
      (t.trunk n).collide = (0, 0, 0) ∧ (t.trunk n).sel = none ∧
      (t.trunk n).wire = ackBits (frameBits f).length (if s.latBlocked n then none else some (ackPlace f)) ∧ t.latRec n = rec1 ∧ t.latTec n = s.latTec n ∧
      (s.latFilter n f.arb = none → t.reg st = s.reg st ∧ t.recd = s.recd) ∧
      (∀ i, s.latFilter n f.arb = some i → cnt < 32 →
        let r := (s.regF st 12 8 + cnt) % 32
        t.regF st 5 0 = cnt + 1 ∧
        t.reg (Reg.LAT_RX n (20 * r)) =
          BitVec.ofNat 32 (f.brs.toNat * 0x80000000 + f.payload.length % 128 * 0x1000000 + f.arb % 0x1000000) ∧
        t.reg (Reg.LAT_RX n (20 * r + 1)) = BitVec.ofNat 32 (f.esi.toNat * 0x80000000 + i * 0x10000) ∧
        t.reg (Reg.LAT_RX n (20 * r + 2)) = BitVec.ofNat 32 f.sof ∧
        t.reg (Reg.LAT_RX n (20 * r + 4)) = BitVec.ofNat 32 (payAt f 0 4)) ∧
      (∀ i, s.latFilter n f.arb = some i → 32 ≤ cnt →
        let lost := BitVec.ofNat 32 (min ((s.reg (Reg.LAT_RXLOST n)).toNat + 1) 0xFFFFFFFF)
        t.reg st = s.reg st ∧ t.reg (Reg.LAT_RXLOST n) = lost ∧ t.regB (Reg.LAT_STAT n) 5 = true ∧
        (s.regB (Reg.LAT_STAT n) 5 = false → ∃ more, t.recd.handed =
          s.recd.handed ++ [s.event Ev.LAT_RX_OVERFLOW 0 [BitVec.ofNat 32 n, lost]] ++ more) ∧
        (∀ j, j < 640 → t.reg (Reg.LAT_RX n j) = s.reg (Reg.LAT_RX n j))) ∧ more t
    let stray (t : State) : Prop := t.reg (Reg.LAT_STRAY n) = BitVec.ofNat 32 (min ((s.reg (Reg.LAT_STRAY n)).toNat + 1) 0xFFFFFFFF) ∧
      t.regB (Reg.LAT_STAT n) 7 = true ∧ t.image = s.image
    let report (i : Instr) (wet : Bool) : Prop :=
      (∀ sw, x.sweep = some sw → sw.wet ≠ wet ∨ payAt f 7 1 ≠ x.sweepNum → good i stray) ∧
      (x.sweep = none → good i stray) ∧
      (∀ sw, x.sweep = some sw → sw.wet = wet → payAt f 7 1 = x.sweepNum →
        let node := (payAt f 0 1 * 256 + payAt f 1 1) % 32768
        let k := fiNode (32768 * n + node)
        let fl := payAt f 6 1
        let listed := s.regF (Reg.LAT_SWSTAT n) 8 0
        good i fun t => node ∈ (t.trunk n).seen ∧
          t.fiWord k = (if fl % 2 = 1 then tempF (payAt f 2 2) else fpNaN) ∧
          t.fiWord (k + 1) = (if fl / 2 % 2 = 1 then moistF (payAt f 4 2) else fpNaN) ∧
          bitAt (t.fiWord (k + 2)) 0 = true ∧ bitAt (t.fiWord (k + 2)) 7 = x.seen.contains node ∧
          t.fiWord (k + 3) = s.fiWord (k + 3) + 1 ∧ t.fiWord (k + 4) = BitVec.ofNat 32 sw.latch ∧
          t.fiWord (k + 6) = BitVec.ofNat 32 (x.sweepNum + 256 + 512 * wet.toNat) ∧
          (listed < 256 → t.regF (Reg.LAT_SWSTAT n) 8 0 = listed + 1 ∧
            t.reg (Reg.LAT_SWL n (2 * listed)) = BitVec.ofNat 32 (payAt f 0 4)) ∧
          (t.trunk n).sweep = some (if sw.nmax ≤ listed + 1 then { sw with closing := some (sw.closing.getD 0) } else sw))
    (hears = false ∨ cls ≠ 5 → exec (.reply n ⟨bits, sof⟩) s = .next s) ∧ (hears = false ∨ cls ≠ 2 → exec (.hot n ⟨bits, sof⟩) s = .next s) ∧
    (hears = false ∨ cls ≠ 3 → exec (.wet n ⟨bits, sof⟩) s = .next s) ∧ (hears = false ∨ cls ≠ 4 → exec (.jstat n ⟨bits, sof⟩) s = .next s) ∧
    (hears = false ∨ cls ≠ 8 → exec (.censusBatch n ⟨bits, sof⟩) s = .next s) ∧
    (hears = false ∨ ¬ (cls = 6 ∨ cls = 7 ∨ 9 ≤ cls ∧ cls ≤ 15) → exec (.privateReceived n ⟨bits, sof⟩) s = .next s) ∧
    (hears = true →
      (cls = 5 → good (.reply n ⟨bits, sof⟩) fun t => t.image = s.image) ∧
      (cls = 6 ∨ cls = 7 ∨ 9 ≤ cls ∧ cls ≤ 15 → good (.privateReceived n ⟨bits, sof⟩) fun t => t.image = s.image) ∧
      (cls = 2 → report (.hot n ⟨bits, sof⟩) false) ∧ (cls = 3 → report (.wet n ⟨bits, sof⟩) true) ∧
      (cls = 8 → x.census = none → good (.censusBatch n ⟨bits, sof⟩) stray) ∧
      (cls = 8 → ∀ c, x.census = some c → good (.censusBatch n ⟨bits, sof⟩) fun t =>
        (t.trunk n).census = some { c with active := some s.dtb } ∧
        ∀ i, i < 16 →
          let p := payAt f (4 * i) 4
          let node := (f.arb % 32768 + i) % 32768
          let k := fiNode (32768 * n + node)
          (p / 2 ^ 31 % 2 = 1 →
            t.fiWord k = (if p / 2 ^ 28 % 2 = 1 then tempF (p % 65536) else fpNaN) ∧
            t.fiWord (k + 1) = (if p / 2 ^ 29 % 2 = 1 then moistF (p / 65536 % 4096) else fpNaN) ∧
            bitAt (t.fiWord (k + 2)) 0 = true ∧ bitAt (t.fiWord (k + 2)) 3 = (p / 2 ^ 30 % 2 == 1) ∧
            t.fiWord (k + 3) = s.fiWord (k + 3) + 1 ∧ t.fiWord (k + 4) = BitVec.ofNat 32 c.latch ∧
            t.fiWord (k + 6) = BitVec.ofNat 32 x.censusNum ∧ t.fiWord (k + 7) = BitVec.ofNat 32 p) ∧
          (p / 2 ^ 31 % 2 = 0 → bitAt (s.fiWord (k + 2)) 0 = true →
            t.fiWord k = s.fiWord k ∧ bitAt (t.fiWord (k + 2)) 0 = false ∧ bitAt (t.fiWord (k + 2)) 4 = true ∧
            t.fiWord (k + 3) = s.fiWord (k + 3) + 1)) ∧
      (cls = 4 →
        let j := f.arb % 64
        let k := Reg.LAT_JT n (2 * j)
        (payAt f 0 1 = 1 → (∀ c, x.census = some c → payAt f 1 1 ≠ x.censusNum) → good (.jstat n ⟨bits, sof⟩) stray) ∧
        (payAt f 0 1 = 1 → ∀ c, x.census = some c → payAt f 1 1 = x.censusNum → good (.jstat n ⟨bits, sof⟩) fun t =>
          (t.trunk n).census = some { c with active := some s.dtb, ends := j :: c.ends.filter fun i => i != j } ∧
          t.reg k = BitVec.ofNat 32 (s.dtb / 65536) ∧ t.regB (k + 4) 23 = true ∧ t.regF (k + 4) 7 0 = x.censusNum % 256 ∧
          t.regB (k + 4) 22 = false ∧ t.regB (k + 4) 21 = false) ∧
        (payAt f 0 1 = 2 → good (.jstat n ⟨bits, sof⟩) fun t => t.reg k = BitVec.ofNat 32 (s.dtb / 65536) ∧
          t.regB (k + 4) 23 = true ∧ (x.sel = none →
          t.trunk n = { x with collide := (0, 0, 0), stepTx := false, wire := (t.trunk n).wire })) ∧
        (payAt f 0 1 ≠ 1 → payAt f 0 1 ≠ 2 → good (.jstat n ⟨bits, sof⟩) fun t => t.image = s.image))) ∧
    -- the error detected: as the transmitter of the frame selected until that loses arbitration, as a receiver else
    let heard : Option (Bool × Nat) := match latRead e.bits 0 with
      | .error lec _ _ => some (false, lec)
      | _ => none
    let fault : Option (Bool × Nat) := match (s.latSending n 0).map fun g => latSend g e.bits e.tdc with
      | some (.error lec _) => some (true, lec)
      | some .fine => none
      | _ => heard
    (runs = false ∨ fault = none → exec (.busError n e) s = .next s) ∧
    (runs = true → ∀ tx lec, fault = some (tx, lec) →
      let tec := s.latTec n + (if lec = 5 ∧ s.regF (Reg.LAT_STAT n) 31 30 = 1 ∧ e.dominant = false then 0 else 8) + 8 * e.runs
      let rc := s.latRec n + 1 + (if e.dominant then 8 else 0) + 8 * e.runs
      (tx = true → tec ≤ 255 → ∃ t, exec (.busError n e) s = .next t ∧ State.Only [.trunks, .act, .recd] s t ∧
        t.latTec n = tec ∧ t.latRec n = s.latRec n ∧ t.regF (Reg.LAT_ERR n) 31 28 = lec ∧ (t.trunk n).sel = none ∧
        t.latOff n = false) ∧
      (tx = true → 255 < tec → ∃ t more, exec (.busError n e) s = .next t ∧ State.Only [.trunks, .act, .recd] s t ∧
        t.latOff n = true ∧ (t.trunk n).sweep = none ∧ (t.trunk n).census = none ∧ (t.trunk n).sel = none ∧
        (t.trunk n).offAt = s.dtb ∧ t.regB Reg.LAT_BOFF n = true ∧ t.regB (Reg.LAT_STAT n) 26 = s.regB (Reg.LAT_CFG n) 26 ∧
        State.Logs (more ++ [s.event Ev.LAT_BUSOFF 0 [BitVec.ofNat 32 n, BitVec.ofNat 32 (t.latTec n),
          BitVec.ofNat 32 (t.latRec n)]]) s t) ∧
      (tx = false → s.latTec n ≤ 255 → ∃ t, exec (.busError n e) s = .next t ∧ State.Only [.trunks, .act, .recd] s t ∧
        t.latTec n = s.latTec n ∧ t.latRec n = min rc 511 ∧ t.regF (Reg.LAT_ERR n) 31 28 = lec ∧
        (t.trunk n).sel = none ∧ ∃ driven, (t.trunk n).wire = driven ++
          (if s.latPassive n || s.latBlocked n then List.replicate (passiveFlag true 0 e.after) true else List.replicate 6 false) ++
          List.replicate 11 true)) ∧
    (s.granted w (Reg.LAT_CMD n) = true → s.latOff n = false ∨ s.regB (Reg.LAT_STAT n) 26 = true →
      exec (.recover w n) s = .next s) ∧
    (s.granted w (Reg.LAT_CMD n) = true → s.latOff n = true → s.regB (Reg.LAT_STAT n) 26 = false →
      exec (.recover w n) s = .next ((s.setRegB (Reg.LAT_STAT n) 26 true).setTrunk n { x with recovAt := s.dtb })) ∧
    (let due := x.recovAt + 128 * 11 * (8000 / 2 ^ s.regF (Reg.LAT_BTA n) 31 30);
      (s.onSafe = true ∨ s.latOff n = false ∨ s.regB (Reg.LAT_STAT n) 26 = false ∨ s.dtb < due →
        exec (.latBusoffEnd n) s = .next s) ∧
      (s.onSafe = false → s.latOff n = true → s.regB (Reg.LAT_STAT n) 26 = true → due ≤ s.dtb → ∃ t, exec (.latBusoffEnd n) s = .next t ∧
        State.Only [.trunks, .act, .recd] s t ∧ t.latTec n = 0 ∧ t.latRec n = 0 ∧ t.latOff n = false ∧
        t.regB (Reg.LAT_STAT n) 26 = false ∧ t.regB Reg.LAT_BOFF n = false ∧
        State.Logs [s.event Ev.LAT_BUSOFF_END 0 [BitVec.ofNat 32 n, BitVec.ofNat 32 ((s.dtb - x.offAt) / 1000)]] s t))

/-- The sweep engine (R293 to R328). The first numbers and what an ABSENT entry keeps rest on log 47, LINE's ERR 2 on log 48, the
records of further bad words on log 98. -/
def Obligations.CensusesSweepsAndLines : Prop :=
  ∀ (s : State) (n m f : Nat) (idle : Bool), n < 32 →
    let x := s.trunk n
    let free := s.latOff n = false ∧ x.cmd = none ∧ x.sweep = none ∧ x.census = none
    let busy := x.cmd.isSome = true ∨ x.sweep.isSome = true ∨ x.census.isSome = true
    let trunkOnly (t : State) : Prop := State.Only [.trunks] s t ∧ ∀ k, k ≠ n → t.trunk k = s.trunk k
    let cs := s.reg (Reg.LAT_CS n)
    let as := s.reg (Reg.LAT_AS n)
    let cper := fld cs 7 0 * 100000000
    let aper := fld as 31 24 * 10000000
    let after (per off : Nat) : Nat := if s.dtb < off then off else (s.dtb - off) / per * per + per + off
    (s.latRuns n = false ∨ cper = 0 ∨ s.dtb < x.nextCensus → exec (.censusDue n) s = .next s) ∧
    (s.latRuns n = true → cper ≠ 0 → x.nextCensus ≤ s.dtb → ∃ t, exec (.censusDue n) s = .next t ∧ trunkOnly t ∧
      (t.trunk n).nextCensus = after cper (n * 10000000) ∧
      (busy → t.trunk n = { x with nextCensus := after cper (n * 10000000), censusDue := x.censusDue || !s.shed 1 }) ∧
      (free → x.alarmDue = false → s.shed 1 = false →
        (t.trunk n).cmd = some (.census (fld cs 13 8) (fld cs 21 16) false) ∧ (t.trunk n).censusDue = false)) ∧
    (s.latRuns n = false ∨ aper = 0 ∨ fld as 1 0 = 0 ∨ s.dtb < x.nextAlarm → exec (.alarmSweepDue n) s = .next s) ∧
    (s.latRuns n = true → aper ≠ 0 → fld as 1 0 ≠ 0 → x.nextAlarm ≤ s.dtb → ∃ t, exec (.alarmSweepDue n) s = .next t ∧
      trunkOnly t ∧ (t.trunk n).nextAlarm = after aper 0 ∧
      (busy → t.trunk n = { x with nextAlarm := after aper 0, alarmDue := true }) ∧
      (free →
        let wet := if fld as 1 0 = 3 then x.nextWet else bitAt as 1
        let thr := if wet then s.regF (Reg.LAT_AL n) 15 0 else s.regF (Reg.LAT_AL n) 31 16
        t.trunk n = { x with
          nextAlarm := after aper 0, alarmDue := false, nextWet := !wet,
          cmd := some (.sweepOpen wet thr (fld as 15 8 + 1) (fld as 23 16) 0xFFFF) })) ∧
    (x.census = none → exec (.censusEnd n idle) s = .next s) ∧
    (∀ c, x.census = some c →
      let missing := (List.range 64).filter fun j => decide (c.first ≤ j) && decide (j ≤ c.last) && !c.ends.contains j
      let past := missing = [] ∨ (idle = true ∧ ∃ a, c.active = some a ∧ a + 1000000 ≤ s.dtb) ∨
        c.active.getD c.latch + 100000000 ≤ s.dtb
      let key (j : Nat) : Nat := Reg.LAT_JT n (2 * j + 1)
      let lost (j : Nat) : Bool := s.regB (key j) 22 && !s.regB (key j) 21
      (¬ past → exec (.censusEnd n idle) s = .next s) ∧
      (past → ∃ t, exec (.censusEnd n idle) s = .next t ∧ State.Only [.trunks, .act, .recd, .image, .marked] s t ∧
        (t.trunk n).census = none ∧ t.regB (Reg.LAT_STAT n) 27 = false ∧
        t.reg (Reg.LAT_CENS n) = BitVec.ofNat 32 (x.censusNum * 2 ^ 24 + missing.length * 2 ^ 16 +
          min ((s.dtb - c.sof) / 1000000) 0xFFFF) ∧
        (∀ j, j < 64 → j ∉ missing → t.reg (key j) = s.reg (key j)) ∧
        (∀ j ∈ missing, (s.regB (key j) 21 = true ∨ t.regB (key j) 22 = true) ∧
          (lost j = true → t.regB (key j) 21 = true ∧ ∀ p, p < 512 →
            let k := fiNode (32768 * n + 512 * j + p)
            bitAt (s.fiWord (k + 2)) 0 = true → bitAt (t.fiWord (k + 2)) 0 = false ∧ bitAt (t.fiWord (k + 2)) 5 = true)) ∧
        State.Logs ((missing.filter lost).map fun j =>
          s.event Ev.LAT_JUNCTION_MISS 0 [BitVec.ofNat 32 n, BitVec.ofNat 32 j]) s t)) ∧
    (let d := (s.tag m).desc
      let k := fld (descArg d 0) 4 0
      let y := s.trunk k
      let joins (i : Instr) (r : LatReq) (c : LatCmd) : Prop := ∃ t, exec i s = .next t ∧ State.Only [.trunks, .hwk] s t ∧
        t.hwk = (s.ranWith m 0).hwk ∧ (∀ j, j ≠ k → t.trunk j = s.trunk j) ∧
        (y.cmd.isSome = true ∨ y.sweep.isSome = true ∨ y.census.isSome = true → t.trunk k = { y with reqs := y.reqs ++ [r] }) ∧
        (y.cmd = none → y.sweep = none → y.census = none → y.alarmDue = false → y.censusDue = false → y.reqs = [] →
          t.trunk k = { y with cmd := some c })
      let first := fld (descArg d 0) 13 8
      let last := fld (descArg d 0) 21 16
      let wet := bitAt (descArg d 0) 8
      let thr := fld (descArg d 1) 15 0
      let nmax := fld (descArg d 1) 24 16
      let lim := fld (descArg d 2) 15 0
      let refused := 4 ≤ y.reqs.length ∨ s.latRuns k = false ∨ s.latOff k = true;
      (s.mayRun m 3 1 = true → (refused → exec (.sweep m) s = .next (s.ranWith m 3)) ∧
        (¬ refused → joins (.sweep m) (.sweep wet thr nmax lim m) (.sweepOpen wet thr nmax lim m))) ∧
      (s.mayRun m 3 2 = true → (refused ∨ s.shed 1 = true → exec (.censusRequest m) s = .next (s.ranWith m 3)) ∧
        (¬ refused → s.shed 1 = false → joins (.censusRequest m) (.census first last) (.census first last true))) ∧
      (s.mayRun m 3 0x10 = true →
        let rd (i : Nat) := s.dmaRead (s.tag m).cell (descSrc d + 4 * i)
        let base := fiNode (fld (descArg d 0) 19 0) + 48;
        ((∀ i, i < 16 → (rd i).2.2 = false) → ∃ t, exec (.line ⟨m, []⟩) s = .next t ∧ State.Only [.image, .marked, .hwk] s t ∧
          t.hwk = (s.ranWith m 0).hwk ∧ (∀ i, i < 16 → t.fiWord (base + i) = (rd i).1) ∧
          ∀ j, j < base ∨ base + 16 ≤ j → t.fiWord j = s.fiWord j) ∧
        (∀ i, i < 16 → (rd i).2.2 = true → (∀ j, j < i → (rd j).2.2 = false) →
          exec (.line ⟨m, []⟩) s = .next ((s.dmaUncorrectable (s.tag m).cell (descSrc d + 4 * i)).ranWith m 2)) ∧
        ∀ es, ∃ s0, State.Only [.cells, .marked, .recd] s s0 ∧ exec (.line ⟨m, es⟩) s = exec (.line ⟨m, []⟩) s0)) ∧
    (let st := Reg.LAT_STAT n
      let body := [BitVec.ofNat 32 n, BitVec.ofNat 32 f];
      (s.latEn n = false ∨ f < 16 ∨ 22 < f ∨ s.regB st f = true → exec (.latWireFault n f) s = .next s) ∧
      (f < 16 ∨ 22 < f ∨ s.regB st f = false → exec (.latWireOk n f) s = .next s) ∧
      (16 ≤ f → f ≤ 22 → s.latEn n = true → s.regB st f = false →
        let s1 := ((s.setRegB st f true).setRegB st 2 true).emit Ev.LAT_WIRE_FAULT 0 body
        (f < 21 → s.latBlocked n = false → exec (.latWireFault n f) s = .next s1) ∧
        (21 ≤ f → exec (.latWireFault n f) s = exec (.txEntryReturn n) s1)) ∧
      (16 ≤ f → f ≤ 22 → s.regB st f = true → exec (.latWireOk n f) s =
        .next (((s.setRegB st f false).setRegB st 2 true).emit Ev.LAT_WIRE_OK 0 body)))

/-- The CAN ports (R335 to R340). When a request is selected, REQ before CANCEL and bus-off by a command of its own rest on log 49; an FD
buffer that waits, and a CANCEL during another station's frame, on log 107. -/
def Obligations.CanPorts : Prop :=
  ∀ (s : State) (w : Who) (n b sof wf : Nat) (v : Word) (f : CanFrame) (e : PortError), n < 4 → b < 3 →
    let x := s.port n
    let st := Reg.CAN_STAT n
    let rx := Reg.CAN_RXST n
    let tx := Reg.CAN_TXST n
    let owned := s.canOwned n b
    let tec := s.canTec n
    let rec1 := if 127 < s.canRec n then 120 else s.canRec n - 1
    let result (t : State) : Nat := t.regF tx (23 + 3 * b) (21 + 3 * b)
    let only (t : State) : Prop := State.Only [.ports, .act, .recd] s t ∧ ∀ k, k ≠ n → t.port k = s.port k
    (s.granted w (Reg.CAN_TXCMD n) = true → ∃ t, exec (.canTxRequest w n v) s = .next t ∧ only t ∧ t.recd = s.recd ∧ (x.sel ≠ none → t.port n = x) ∧
      State.OnlyRegs [tx] s t ∧
      (bitAt v b = false ∨ owned = true → t.canOwned n b = owned ∧ result t = result s) ∧
      (bitAt v b = true → owned = false → s.canReject n b = true → t.canOwned n b = false ∧ result t = 4) ∧
      (bitAt v b = true → owned = false → s.canReject n b = false → t.canOwned n b = true ∧ result t = 0)) ∧
    (s.granted w (Reg.CAN_TXCMD n) = true → ∃ t, exec (.canTxCancel w n v) s = .next t ∧ only t ∧ t.recd = s.recd ∧ (t.port n).sel = x.sel ∧ State.OnlyRegs [tx] s t ∧
      (bitAt v (4 + b) = false ∨ owned = false → t.canOwned n b = owned ∧ result t = result s) ∧
      (bitAt v (4 + b) = true → owned = true → x.sel = some b → t.canOwned n b = true ∧ t.regB tx (8 + b) = true ∧
        b ∈ (t.port n).marked) ∧
      (bitAt v (4 + b) = true → owned = true → x.sel ≠ some b → t.canOwned n b = false ∧ t.regB tx (4 + b) = true ∧
        result t = 2)) ∧
    (x.sel = none → exec (.canFrameSent n sof) s = .next s) ∧
    (x.sel = some b → ∃ t, exec (.canFrameSent n sof) s = .next t ∧ only t ∧ t.canOwned n b = false ∧
      t.regB tx (4 + b) = true ∧ result t = 1 ∧ t.canTec n = tec - 1 ∧ (t.port n).sel ≠ some b ∧
      (∀ k, (t.port n).sel = some k → t.canOwned n k = true ∧ (s.canFde n = true ∨ bitAt (s.canWord n k 0) 30 = false)) ∧
      (s.canLbk n = 0 → t.reg rx = s.reg rx)) ∧
    (s.onSafe = true ∨ s.canEn n = false ∨ s.canOff n = true ∨ s.canLbk n = 1 ∨ (f.fdf = true ∧ s.canFde n = false) →
      exec (.canFrameReceived n f) s = .next s) ∧
    (s.onSafe = false → s.canEn n = true → s.canOff n = false → s.canLbk n ≠ 1 → (f.fdf = false ∨ s.canFde n = true) →
      ∃ t, exec (.canFrameReceived n f) s = .next t ∧ only t ∧
      (x.sel = some b → x.marked.contains b = true →
        t.canOwned n b = false ∧ t.regB tx (4 + b) = true ∧ result t = 2) ∧
      (x.sel = some b → x.selAt ≤ f.sof → x.marked.contains b = false → bitAt (s.canWord n b 1) 8 = true →
        t.canOwned n b = false ∧ t.regB tx (4 + b) = true ∧ result t = 3) ∧
      (x.sel = some b → x.marked.contains b = false → f.sof < x.selAt ∨ bitAt (s.canWord n b 1) 8 = false →
        t.canOwned n b = owned ∧ result t = result s) ∧ t.canRec n = rec1 ∧ t.canTec n = tec ∧
      (f.remote = true → t.regB st 4 = true ∧ t.reg rx = s.reg rx) ∧
      (f.remote = false → s.canFilter n f = none → t.reg rx = s.reg rx) ∧
      (f.remote = false → ∀ i, s.canFilter n f = some i →
        let ws := canRxWords f false i
        (s.regB rx 31 = false → t.regB rx 31 = true ∧ t.recd = s.recd ∧
          ∀ j, j < 20 → t.reg (Reg.CAN_RXB n j) = ws.getD j 0) ∧
        (s.regB rx 31 = true → (t.port n).shadow = ws ∧ t.regB rx 31 = true ∧ t.regB rx 30 = true ∧
          (s.regB rx 30 = false → t.regF rx 15 0 = s.regF rx 15 0) ∧
          (s.regB rx 30 = true → t.regF rx 15 0 = min (s.regF rx 15 0 + 1) 0xFFFF ∧ t.regB rx 29 = true)))) ∧
    (s.granted w (Reg.CAN_RXREL n) = true → s.regB rx 31 = false → exec (.canRxrel w n) s = .next s) ∧
    (s.granted w (Reg.CAN_RXREL n) = true → s.regB rx 31 = true → s.regB rx 30 = false → exec (.canRxrel w n) s = .next (s.setRegB rx 31 false)) ∧
    (s.granted w (Reg.CAN_RXREL n) = true → s.regB rx 31 = true → s.regB rx 30 = true → x.shadow.length = 20 → ∃ t, exec (.canRxrel w n) s = .next t ∧ only t ∧
      t.regB rx 31 = true ∧ t.regB rx 30 = false ∧ t.port n = { x with shadow := [] } ∧
      ∀ j, j < 20 → t.reg (Reg.CAN_RXB n j) = x.shadow.getD j 0) ∧
    (s.onSafe = true ∨ s.canEn n = false ∨ s.canOff n = true ∨ 255 < tec ∨ s.canLbk n = 1 ∨
      (e.tx = true ∧ (x.sel = none ∨ s.canSilent n = true)) → exec (.canPortError n e) s = .next s) ∧
    (s.onSafe = false → s.canEn n = true → s.canOff n = false → tec ≤ 255 → s.canLbk n ≠ 1 →
      (e.tx = true → x.sel ≠ none ∧ s.canSilent n = false) →
      let up := (if e.lec = 5 ∧ s.regF st 31 30 = 1 ∧ e.dominant = false then 0 else 8) + 8 * e.runs
      ∃ t, exec (.canPortError n e) s = .next t ∧ only t ∧ t.regF (Reg.CAN_ERR n) 31 28 = e.lec % 16 ∧
        (e.tx = true → t.canRec n = s.canRec n ∧ (tec + up ≤ 255 → t.canTec n = tec + up) ∧
          (255 < tec + up → 255 < t.canTec n ∧ t.canTec n ≤ 263 ∧ (t.port n).sel = none)) ∧
        (e.tx = false → t.canTec n = tec ∧
          t.canRec n = min (s.canRec n + 1 + (if e.dominant then 8 else 0) + 8 * e.runs) 511)) ∧
    (tec ≤ 255 ∨ s.canOff n = true → exec (.canBusoff n) s = .next s) ∧
    (255 < tec → s.canOff n = false → ∃ t, exec (.canBusoff n) s = .next t ∧ only t ∧ t.canOff n = true ∧
      t.port n = { x with sel := none, offAt := s.dtb, recovAt := s.dtb } ∧ t.reg tx = s.reg tx ∧
      t.regB st 29 = s.regB (Reg.CAN_CFG n) 28 ∧
      State.Logs [s.event Ev.CAN_BUSOFF 0 [BitVec.ofNat 32 n, BitVec.ofNat 32 tec, BitVec.ofNat 32 (s.canRec n)]] s t) ∧
    (s.granted w (Reg.CAN_CMD n) = true → s.canOff n = false ∨ s.regB st 29 = true → exec (.canRecover w n) s = .next s) ∧
    (s.granted w (Reg.CAN_CMD n) = true → s.canOff n = true → s.regB st 29 = false →
      exec (.canRecover w n) s = .next ((s.setRegB st 29 true).setPort n { x with recovAt := s.dtb })) ∧
    (let due := x.recovAt + 1408 * nominalNs (s.reg (Reg.CAN_NBT n));
      (s.onSafe = true ∨ s.canOff n = false ∨ s.regB st 29 = false ∨ s.dtb < due → exec (.canBusoffEnd n) s = .next s) ∧
      (s.onSafe = false → s.canOff n = true → s.regB st 29 = true → due ≤ s.dtb → ∃ t, exec (.canBusoffEnd n) s = .next t ∧ only t ∧
        t.canTec n = 0 ∧ t.canRec n = 0 ∧ t.canOff n = false ∧ t.regB st 29 = false ∧
        State.Logs [s.event Ev.CAN_BUSOFF_END 0 [BitVec.ofNat 32 n, BitVec.ofNat 32 ((s.dtb - x.offAt) / 1000)]] s t)) ∧
    (let body := [BitVec.ofNat 32 n, BitVec.ofNat 32 wf];
      (s.canEn n = false ∨ wf < 16 ∨ 22 < wf ∨ s.regB st wf = true → exec (.canWireFault n wf) s = .next s) ∧
      (wf < 16 ∨ 22 < wf ∨ s.regB st wf = false → exec (.canWireOk n wf) s = .next s) ∧
      (16 ≤ wf → wf ≤ 22 → s.canEn n = true → s.regB st wf = false → exec (.canWireFault n wf) s =
        .next (((s.setRegB st wf true).setRegB st 2 true).emit Ev.CAN_WIRE_FAULT 0 body)) ∧
      (16 ≤ wf → wf ≤ 22 → s.regB st wf = true → ∃ t, exec (.canWireOk n wf) s = .next t ∧ only t ∧ t.regB st wf = false ∧
        t.regB st 2 = true ∧ State.Logs [s.event Ev.CAN_WIRE_OK 0 body] s t))

/-- Solenoid channels (R345 to R359). The start of an admitted turn-on at once, TMOVE at its start and the times of pull-in and HOLD rest on
log 50, the retry count shown on log 24, a posture that HOLD keeps on log 51. -/
def Obligations.SolenoidChannels : Prop :=
  ∀ (s : State) (w : Who) (n t' i : Nat) (check : Bool) (ms : Word), n < 24 →
    let c := s.svc n
    let st := Reg.SV_STAT n
    let state := s.svState n
    let only (t : State) : Prop := State.Only [.sv, .act, .recd] s t ∧ ∀ k, k ≠ n → t.svc k = s.svc k ∧
      t.reg (Reg.SV_STAT k) = s.reg (Reg.SV_STAT k)
    -- the channel asks for its turn-on; whatever pending channel is admitted then starts
    let asks (t : State) : Prop := State.Only [.sv, .act, .recd] s t ∧ (t.svState n = svPending ∨ t.svState n = svPull) ∧
      ∀ k, k ≠ n → (s.svState k = svPending ∧ (t.svState k = svPending ∨ t.svState k = svPull)) ∨
        (t.svc k = s.svc k ∧ t.reg (Reg.SV_STAT k) = s.reg (Reg.SV_STAT k))
    let bk := Reg.SV_BKSTAT (n / 6)
    let banks := [0, 1, 2, 3].map Reg.SV_BKSTAT
    (s.svNext ≠ some n → exec (.pullInStart n) s = .next s) ∧
    (s.svNext = some n → ∃ t, exec (.pullInStart n) s = .next t ∧ only t ∧ t.recd = s.recd ∧
      State.OnlyRegs ([st, Reg.SV_PCNT n, Reg.SV_MEAS n] ++ banks) s t ∧ t.svState n = svPull ∧
      t.reg (Reg.SV_PCNT n) = s.reg (Reg.SV_PCNT n) + 1 ∧ t.regF (Reg.SV_MEAS n) 15 0 = 0xFFFF ∧
      t.regB bk 5 = (s.svFrom n).getD false ∧
      t.svc n = { c with
        start := s.dtb, boost := (s.svFrom n).getD false, cur := s.reg (Reg.SV_CUR n), time := s.reg (Reg.SV_TIME n),
        peak := 0, dip := none, judged := !s.regB (Reg.SV_CFG n) 28 }) ∧
    (state ≠ svPull ∨ c.judged = true → exec (.svMovementDip n t' i) s = .next s) ∧
    (state = svPull → c.judged = false → ∃ t, exec (.svMovementDip n t' i) s = .next t ∧
      State.Only [.sv, .act, .recd, .drawn] s t ∧ t.svState n = svPull ∧
      (let checked : Bool := s.regF (Reg.SV_CFG n) 7 0 + 2 ≤ t'
       let retry := c.retry && !checked
       let ipk : Bool := fld c.cur 31 24 * 50 ≤ i
       let dips : Bool := i + s.regF (Reg.SV_CUR n) 15 0 ≤ c.peak
      t.regF st 27 25 = (if checked then 0 else s.regF st 27 25) ∧
      (ipk = true → t.regB st 3 = true ∧ t.svc n = { c with retry := retry, judged := true } ∧
        State.Logs [s.event Ev.SV_NO_MOVE 0 [BitVec.ofNat 32 n, 0xFFFF]] s t) ∧
      (ipk = false → t.recd = s.recd ∧
        (t' < 1000 → t.svc n = { c with retry := retry }) ∧
        (1000 ≤ t' → dips = true → t.regB st 2 = true ∧
          t.svc n = { c with retry := retry, dip := some s.dtb, judged := true } ∧
          (t' < 0xFFFF → t.regF (Reg.SV_MEAS n) 15 0 = t' ∧ t.drawn = s.drawn)) ∧
        (1000 ≤ t' → dips = false → t.svc n = { c with retry := retry, peak := max c.peak i })))) ∧
    (state ≠ svPull ∨ s.svPullOver n = false → exec (.pullInEnd n i) s = .next s) ∧
    (state = svPull → s.svPullOver n = true → ∃ t, exec (.pullInEnd n i) s = .next t ∧ only t ∧
      t.svState n = (if c.cmd then svHold else svPosture) ∧ t.regF st 27 25 = 0 ∧
      t.svc n = { c with retry := false, judged := true, boost := false } ∧
      State.Logs ((if c.judged then [] else [s.event Ev.SV_NO_MOVE 0 [BitVec.ofNat 32 n, 0xFFFF]]) ++
        if i < 50 then [s.event Ev.SV_OPEN 0 [BitVec.ofNat 32 n, ratF (s.regF (Reg.SV_MEAS n) 31 16) 1000, 1]] else []) s t) ∧
    (let past := c.holdAt + s.regF (Reg.SV_CFG n) 23 16 * 10000000 ≤ s.dtb;
      (¬ (state = svPosture ∧ past) → exec (.svHoldEnd n) s = .next s) ∧
      (state = svPosture → past → ∃ t, exec (.svHoldEnd n) s = .next t ∧ only t ∧ t.recd = s.recd ∧
        State.OnlyRegs (st :: banks) s t ∧ t.svState n = s.svIdle n ∧ t.regF st 27 25 = 0 ∧
        t.svc n = { c with boost := false, retry := false })) ∧
    (n = 23 → s.svPar = true → exec (.svShort 23 check) s = exec (.svShort 22 check) s) ∧
    (s.svOn n = false → (s.svLead n = n → exec (.svShort n check) s = .next s) ∧ exec (.svOverload n ms) s = .next s) ∧
    (s.svOn n = true → s.svLead n = n →
      let fails := min 7 (if check then s.regF st 27 25 + c.retry.toNat else 0)
      let latched := s.regF (Reg.SV_CFG n) 10 8 ≤ fails
      let ev := s.event Ev.SV_SHORT 0 [BitVec.ofNat 32 n, BitVec.ofNat 32 fails]
      ∃ t, exec (.svShort n check) s = .next t ∧ only t ∧ t.svState n = svFault ∧ t.regB st 4 = true ∧
        t.regF st 27 25 = fails ∧ (t.svc n).boost = false ∧ (t.svc n).cmd = c.cmd ∧ (t.svc n).shortAt = some s.dtb ∧
        (latched → t.regB st 24 = true ∧ (t.svc n).waitTill = none ∧ State.Logs [ev, s.event Ev.SV_SHORT_LATCH 0
          [BitVec.ofNat 32 n, BitVec.ofNat 32 (s.regF (Reg.SV_CFG n) 10 8)]] s t) ∧
        (¬ latched → (t.svc n).waitTill = some (s.dtb + 100000000) ∧ State.Logs [ev] s t)) ∧
    ((∀ u, c.waitTill = some u → s.dtb < u) → exec (.svShortRetry n) s = .next s) ∧
    (∀ u, c.waitTill = some u → u ≤ s.dtb → ∃ t, exec (.svShortRetry n) s = .next t ∧
      (t.svc n).waitTill = none ∧ (t.svc n).retry = true ∧
      (c.cmd = false → only t ∧ t.svState n = s.svIdle n) ∧
      (c.cmd = true → s.svEn n = false ∨ s.svLead n ≠ n → state ≠ svPending → t.svState n = state) ∧
      (c.cmd = true → s.svEn n = true → s.svLead n = n → s.svBarred n = true → t.svState n = svFault) ∧
      (c.cmd = true → s.svEn n = true → s.svLead n = n → s.svBarred n = false → asks t)) ∧
    (s.granted w (Reg.SV_CMD n) = true → s.regB st 24 = false → s.regB st 23 = false → exec (.svClear w n) s = .next s) ∧
    (s.granted w (Reg.SV_CMD n) = true → s.regB st 24 = true → s.regB st 23 = false → ∃ t, exec (.svClear w n) s = .next t ∧
      t.regB st 24 = false ∧ t.regF st 27 25 = 0 ∧
      (c.cmd = false ∨ c.tripped = true → only t ∧ t.recd = s.recd ∧ t.svc n = c) ∧
      (c.cmd = true → c.tripped = false → s.svEn n = true → s.svLead n = n → s.regB (Reg.SV_BKSTAT (n / 6)) 6 = false → s.fieldOn = true →
        asks t)) ∧
    (s.granted w (Reg.SV_CMD n) = true → s.regB st 23 = true → s.svCool n = false → ∃ t, exec (.svClear w n) s = .next t ∧ only t ∧ t.regB st 23 = true ∧
      t.svState n = state) ∧
    (s.svEn n = false ∨ s.regF (Reg.SV_THM n) 15 0 = 0 → exec (.coilModelStep n ms) s = .next s) ∧
    (s.svEn n = true → s.regF (Reg.SV_THM n) 15 0 ≠ 0 →
      let tb := ratF (sext 16 (s.regF Reg.PWR_TEMP 15 0)) 10
      let tc0 := if fpIsNaN (s.reg (Reg.SV_TEMP n)) then addF tb c.dt else s.reg (Reg.SV_TEMP n)
      let r := mulF (ratF (s.regF (Reg.SV_THM n) 31 16) 100) (addF fpOne (mulF (ratF 393 100000) (subF tc0 (ratF 20 1))))
      let g := subF (mulF (mulF ms r) (ratF (s.regF (Reg.SV_THM n) 15 0) 100)) c.dt
      let dt := addF c.dt (mulF g (divF (ratF 1 100) (ratF (s.regF (Reg.SV_THM2 n) 31 16) 1)))
      let trip := s.regF (Reg.SV_THM2 n) 7 0
      ∃ t, exec (.coilModelStep n ms) s = .next t ∧ only t ∧ t.reg (Reg.SV_TEMP n) = addF tb dt ∧ (t.svc n).dt = dt ∧
        (s.regB st 23 = true ∨ fpIsNaN (addF tb dt) = true ∨ fpLtRat (addF tb dt) trip 1 = true →
          t.recd = s.recd ∧ t.reg st = s.reg st) ∧
        (s.regB st 23 = false → fpIsNaN (addF tb dt) = false → fpLtRat (addF tb dt) trip 1 = false →
          t.svState n = svFault ∧ t.regB st 7 = true ∧ t.regB st 23 = true ∧ (t.svc n).waitTill = none ∧
          State.Logs [s.event Ev.SV_THERMAL 0 [BitVec.ofNat 32 n, addF tb dt, BitVec.ofNat 32 trip]] s t)) ∧
    (let past := fpGtRat ms (if n = 22 ∧ s.svPar = true then 1936 else 484) 100;
      (past = false → exec (.svOverload n ms) s = .next s) ∧
      (s.svOn n = true → past = true → ∃ t, exec (.svOverload n ms) s = .next t ∧ only t ∧ t.svState n = svFault ∧
        t.regB st 8 = true ∧ t.svc n = { c with boost := false, tripped := true, retry := (t.svc n).retry } ∧
        State.Logs [s.event Ev.SV_OVERLOAD 0 [BitVec.ofNat 32 n, ms]] s t))

/-- Banks and the boost rail (R344, R354 to R358). SV_BANK_OK after a retest and what RAIL_NOT_READY and BEN off do rest on log 51, VRAIL 0 at
a soft start, off and shed, and the currents shown while the high side is open, on log 108. -/
def Obligations.SolenoidBanksAndBoost : Prop :=
  ∀ (s : State) (w : Who) (b hs v n : Nat) (cur low : List Nat) (ok : Bool) (g : Word), b < 4 → n / 6 = b →
    let k := Reg.SV_BKSTAT b
    let bank := s.svk b
    let c := s.svc n
    let only (t : State) : Prop := State.Only [.sv, .act, .recd] s t ∧ ∀ j, j ≠ b → t.svk j = s.svk j
    let cut := s.svHsOff b
    let leak := cur.foldl (· + ·) 0 + 100 < hs
    let num := BitVec.ofNat 32 b
    -- the bank closes again
    let closes (i : Instr) : Prop := ∃ t more, exec i s = .next t ∧ only t ∧ t.svHsOff b = false ∧ t.regF k 2 0 = 0 ∧
      t.regB (Reg.SV_STAT n) 22 = false ∧ State.Logs (s.event Ev.SV_BANK_OK 0 [num] :: more) s t
    -- the bank opens for 100 ms with its count of failed retries
    let trips (i : Instr) (fails : Nat) : Prop := ∃ t, exec i s = .next t ∧ only t ∧ t.svHsOff b = true ∧ t.regB k 4 = true ∧
      t.regF k 2 0 = fails ∧ t.svk b = ⟨false, s.dtb + 100000000⟩ ∧ t.regB (Reg.SV_STAT n) 22 = true ∧
      (s.svOn n = true → t.svState n = (if c.cmd then svFault else s.svIdle n)) ∧
      (min 7 (s.regF Reg.SV_BCFG 11 8) ≤ fails → t.regB k 7 = true) ∧
      State.Logs [s.event Ev.SV_BANK_OFF 0 [num, ratF hs 1000, BitVec.ofNat 32 fails]] s t
    -- the rail in its next state
    let rail (t : State) (st : Nat) : Prop := State.Only [.sv, .act, .recd] s t ∧ t.rail = st ∧
      t.regB Reg.SV_BSTAT 27 = (s.boostEn && st != 2) ∧
      ∀ m, m < 24 → s.svState m = svPull → (t.svc m).boost = ((s.svc m).boost && st == 2)
    (s.svHsOn b = false → exec (.svBankOff b hs) s = .next s ∧ ∃ t, exec (.bankTest b hs cur low) s = .next t ∧
      State.Only [.act] s t ∧ State.OnlyRegs (k :: (svOfBank b).map Reg.SV_MEAS) s t ∧
      t.regF k 31 16 = min (hs / 10) 0xFFFF ∧ t.regF k 15 0 = s.regF k 15 0 ∧
      t.regF (Reg.SV_MEAS n) 31 16 = min (cur.getD (n % 6) 0) 0xFFFF ∧ t.regF (Reg.SV_MEAS n) 15 0 = s.regF (Reg.SV_MEAS n) 15 0) ∧
    (s.svHsOn b = true → ∃ t, exec (.bankTest b hs cur low) s = .next t ∧ State.Only [.sv, .act, .recd] s t ∧
      t.regF (Reg.SV_MEAS n) 31 16 = min (cur.getD (n % 6) 0) 0xFFFF ∧
      (s.svOn n = false → c.waitTill = none → s.svLead n = n → n ∉ low → t.svc n = { c with opens := 0, gnds := 0, boost := (t.svc n).boost }) ∧
      (s.svOn n = false → c.waitTill = none → s.svLead n = n → n ∈ low → ¬ leak → t.regF k 31 16 = min (hs / 10) 0xFFFF ∧
        t.svc n = { c with opens := min (c.opens + 1) 2, gnds := 0 } ∧ (c.opens = 1 → t.regB (Reg.SV_STAT n) 5 = true ∧
          s.event Ev.SV_OPEN 0 [BitVec.ofNat 32 n, ratF (min (cur.getD (n % 6) 0) 0xFFFF) 1000, 0] ∈ t.recd.handed)) ∧
      (s.svOn n = false → c.waitTill = none → s.svLead n = n → low = [n] → leak → 1 ≤ c.gnds → t.svHsOff b = true ∧
        t.svk b = ⟨true, s.dtb + 1000000000⟩ ∧ (t.svc n).gnds = 2 ∧
        (c.gnds = 1 → t.regB (Reg.SV_STAT n) 6 = true ∧ t.regB k 3 = true) ∧
        State.Logs (if c.gnds = 1 then [s.event Ev.SV_SHORT_GND 0 [BitVec.ofNat 32 n, num]] else []) s t)) ∧
    (cut = false ∨ bank.ground = false ∨ s.dtb < bank.nextTry ∨ s.fieldOn = false →
      exec (.bankRetest b hs low) s = .next s) ∧
    (cut = true → bank.ground = true → bank.nextTry ≤ s.dtb → s.fieldOn = true →
      (low = [] → closes (.bankRetest b hs low)) ∧
      (low = [] ∨ hs ≤ 100 → ∃ t, exec (.bankRetest b hs low) s = .next t ∧ only t ∧ t.svHsOff b = false ∧
        t.regF k 31 16 = min (hs / 10) 0xFFFF ∧ (t.svc n).gnds = 0 ∧ s.event Ev.SV_BANK_OK 0 [num] ∈ t.recd.handed) ∧
      (low ≠ [] → 100 < hs → ∃ t, exec (.bankRetest b hs low) s = .next t ∧ only t ∧ t.svHsOff b = true ∧
        t.svk b = { bank with nextTry := bank.nextTry + 1000000000 } ∧ t.regF k 31 16 = min (hs / 10) 0xFFFF ∧
        (s.svOn n = false → c.waitTill = none → s.svLead n = n →
          (n ∉ low → t.svc n = { c with opens := 0, gnds := 0 }) ∧
          (n ∈ low → t.svc n = { c with opens := 0, gnds := min (c.gnds + 1) 2 } ∧ (c.gnds = 1 →
            t.regB (Reg.SV_STAT n) 6 = true ∧ t.regB k 3 = true ∧
            s.event Ev.SV_SHORT_GND 0 [BitVec.ofNat 32 n, num] ∈ t.recd.handed))))) ∧
    (s.svHsOn b = true → trips (.svBankOff b hs) (s.regF k 2 0)) ∧
    (cut = false ∨ bank.ground = true ∨ s.regB k 7 = true ∨ s.dtb < bank.nextTry ∨ s.fieldOn = false →
      exec (.bankRetry b hs ok) s = .next s) ∧
    (cut = true → bank.ground = false → s.regB k 7 = false → bank.nextTry ≤ s.dtb → s.fieldOn = true →
      closes (.bankRetry b hs true) ∧ trips (.bankRetry b hs false) (min 7 (s.regF k 2 0 + 1))) ∧
    (s.granted w Reg.SV_GCMD = true → ∃ t, exec (.bankclr w g) s = .next t ∧ State.Only [.sv, .act] s t ∧ t.sv.chans = s.sv.chans ∧
      (bitAt g b = false ∨ s.regB k 7 = false → t.reg k = s.reg k ∧ t.svk b = bank) ∧
      (bitAt g b = true → s.regB k 7 = true → t.regB k 7 = false ∧ t.regF k 2 0 = 0 ∧
        t.svk b = { bank with nextTry := s.dtb })) ∧
    (let starts := s.boostEn = true ∧ s.shed 3 = false ∧ s.fieldOn = true ∧ (s.rail = 0 ∨ s.rail = 4);
      (¬ starts → exec .boostSoftStart s = .next s) ∧ (starts → ∃ t, exec .boostSoftStart s = .next t ∧ rail t 1 ∧
        t.regF Reg.SV_BSTAT 15 0 = 0)) ∧
    (s.rail ≠ 1 ∨ v < 4500 → exec (.boostReady v) s = .next s) ∧
    (s.rail = 1 → 4500 ≤ v → ∃ t, exec (.boostReady v) s = .next t ∧ rail t 2 ∧ t.regF Reg.SV_BSTAT 15 0 = min v 0xFFFF ∧
      t.sv.owesOk = false ∧ (s.sv.owesOk = true → t.sv.hiccup = false) ∧
      State.Logs (if s.sv.owesOk then [s.event Ev.SV_BOOST_OK 0 [s.reg Reg.SV_BHCNT]] else []) s t) ∧
    (s.rail ≠ 1 → s.rail ≠ 2 → exec (.svBoostShort v) s = .next s) ∧
    (s.rail = 1 ∨ s.rail = 2 → ∃ t, exec (.svBoostShort v) s = .next t ∧ rail t 3 ∧ t.sv.hiccup = true ∧ t.sv.owesOk = true ∧ t.sv.hicAt = s.dtb ∧
      t.reg Reg.SV_BHCNT = BitVec.ofNat 32 (min ((s.reg Reg.SV_BHCNT).toNat + 1) 0xFFFFFFFF) ∧
      State.Logs (if s.sv.hiccup then [] else [s.event Ev.SV_BOOST_SHORT 0 [ratF v 100, t.reg Reg.SV_BHCNT]]) s t) ∧
    (let again := s.rail = 3 ∧ s.boostEn = true ∧ s.sv.hicAt + 180000000 ≤ s.dtb;
      (¬ again → exec .boostHiccupRestart s = .next s) ∧
      (again → ∃ t, exec .boostHiccupRestart s = .next t ∧ rail t 1 ∧ t.regF Reg.SV_BSTAT 15 0 = 0)) ∧
    (s.rail ≠ 2 ∨ 4200 ≤ v → exec (.railNotReady v) s = .next s) ∧
    (s.rail = 2 → v < 4200 → ∃ t, exec (.railNotReady v) s = .next t ∧ rail t 1 ∧ t.regF Reg.SV_BSTAT 15 0 = v)

/-- Fan channels (R361 to R375). When a failure is judged, and rows 6 to 8 of Table 10.3 beside the rows above them, rest on log 52. -/
def Obligations.FanChannels : Prop :=
  ∀ (s : State) (w : Who) (n : Nat) (fb v : Word), n < 16 →
    let c := s.fan n
    let st := Reg.FAN_STAT n
    let en := s.fanEn n
    let g := s.fanGroup n
    let only (t : State) : Prop := State.Only [.fans, .act, .recd] s t ∧ ∀ k, k ≠ n → t.fan k = s.fan k
    let num := BitVec.ofNat 32 n
    (en = false ∨ s.dtb < c.reloadAt → exec (.fanReload n fb) s = .next s) ∧
    (en = true → c.reloadAt ≤ s.dtb → s.isPending (fanPage n) = false →
      let l := s.fanLoad n
      let off := s.fanIsOff n l
      let dark := l.supOff.isSome || !s.fieldOn
      let base := (s.fanBase n l).2.1
      let above (u : Word) : Bool := fpGtRat u (s.regF (Reg.FAN_KICK n) 23 16) 255
      let kickt := s.regF (Reg.FAN_KICK n) 15 0
      let up := off = false ∧ dark = false ∧ above base = true
      let starts := kickt ≠ 0 ∧ off = false ∧ dark = false ∧ (l.kickReq = true ∨ (above base = true ∧ above l.base = false))
      let runs := l.kickEnd = false ∧ (above l.base = false ∨ up) ∧ ∃ k, l.kick = some k ∧ s.dtb < k + kickt * 1000000
      let per := s.regF (Reg.FAN_PWM n) 15 0
      let shows (state : Nat) (out : Word) (t : State) : Prop := t.regF st 31 28 = state ∧ (t.fan n).out = out ∧
        t.reg (Reg.FAN_OUT n) =
          BitVec.ofNat 32 (per * 65536 + (fanQ out * per + 32767) / 65535)
      ∃ t, exec (.fanReload n fb) s = .next t ∧ only t ∧ t.recd = s.recd ∧ t.dtb = s.dtb ∧
        (t.fan n).reloadAt = c.reloadAt + s.fanPeriod n ∧ (t.fan n).kickReq = false ∧
        (s.fanImode n = 2 → t.reg (Reg.FAN_SPD n) = fb) ∧
        (starts → (t.fan n).kick = some s.dtb ∧ (t.fan n).lastKick = s.dtb) ∧ (¬ starts → ¬ runs → (t.fan n).kick = none) ∧
        (off = true → shows 1 0 t) ∧ (off = false → dark = true → shows 7 0 t) ∧
        (off = false → dark = false →
          (s.fanFull n = true → shows 6 0x3F800000 t ∧ t.regB st 6 = true) ∧
          (s.fanFull n = false →
            (starts ∨ runs → shows 3 (ratF (s.regF (Reg.FAN_KICK n) 31 24) 255) t) ∧
            (¬ starts → ¬ runs →
              (s.fanAuto n = true → shows 5 l.tab t) ∧
              (s.fanAuto n = false → (∀ u, l.cmd = some u → shows 2 u t) ∧
                (l.cmd = none → s.fanPosture n = 2 → shows 5 l.tab t) ∧
                (l.cmd = none → s.fanPosture n = 1 → shows 4 l.last t)))))) ∧
    (let fails := en = true ∧ s.fanFailed n = false ∧
        ∃ b, c.badSince = some b ∧ b + s.regF (Reg.FAN_MON n) 15 8 * 100000000 ≤ s.dtb;
      (¬ fails → exec (.fanFail n) s = .next s) ∧
      (fails → ∃ t more, exec (.fanFail n) s = .next t ∧ only t ∧ t.fanFailed n = true ∧ t.regB st 7 = true ∧
        t.regB Reg.FAN_GSTAT n = true ∧ (g ≠ 0 → t.regB Reg.FAN_GSTAT (16 + g) = true) ∧
        t.fan n = { c with kickDue := s.dtb + 10000000000, goodSince := none } ∧
        State.Logs (s.event Ev.FAN_FAIL 0 [num, s.fanSpeed n, c.out] :: more) s t ∧ (g = 0 → more = []))) ∧
    (let good := s.fanFailed n = true ∧ ∃ b, c.goodSince = some b ∧ b + 5000000000 ≤ s.dtb
      let clears (t : State) : Prop := t.fanFailed n = false ∧ t.regB Reg.FAN_GSTAT n = false ∧
        (g = 0 → State.Logs [s.event Ev.FAN_OK 0 [num]] s t) ∧
        ∃ more, t.recd.handed = s.recd.handed ++ s.event Ev.FAN_OK 0 [num] :: more;
      (¬ good → exec (.fanOk n) s = .next s) ∧
      (good → ∃ t, exec (.fanOk n) s = .next t ∧ only t ∧ clears t ∧ t.fan n = c) ∧
      (s.granted w (Reg.FAN_CMD n) = true → ∃ t, exec (.fanClear w n) s = .next t ∧ only t ∧
        t.fan n = { c with restart := true, badSince := none, goodSince := none } ∧
        (s.fanFailed n = true → clears t) ∧ (s.fanFailed n = false → t.act = s.act ∧ t.recd = s.recd))) ∧
    (exec (.fanFailKick n) s = .next (if s.fanFailed n = true ∧ c.kickDue ≤ s.dtb then
      s.setFan n { c with kickReq := true, kickDue := c.kickDue + 10000000000 } else s)) ∧
    (s.regB (Reg.FAN_CFG n) 23 = false → exec (.fanTsSample n v) s = .next s) ∧
    (s.regB (Reg.FAN_CFG n) 23 = true →
      let isOpen := fpLtRat v (-50) 1
      let short := fpGtRat v 175 1
      let bad := isOpen || short
      ∃ t, exec (.fanTsSample n v) s = .next t ∧ only t ∧ State.OnlyRegs [st, Reg.FAN_TS n] s t ∧ t.regB st 26 = bad ∧
        t.reg (Reg.FAN_TS n) = (if bad then fpNaN else v) ∧ t.fan n = { c with tab := s.fanTable n v bad } ∧
        (isOpen = true → t.regB st 5 = true) ∧ (isOpen = false → short = true → t.regB st 4 = true) ∧
        State.Logs (if bad && !s.regB st 26 then [s.event Ev.FAN_TS_FAULT 0 [num, BitVec.ofNat 32 short.toNat]] else []) s t) ∧
    (en = false ∨ c.outOff ≠ none → exec (.fanOutFault n) s = .next s) ∧
    (en = true → c.outOff = none → ∃ t, exec (.fanOutFault n) s = .next t ∧ only t ∧ t.regB st 3 = true ∧
      t.fan n = { c with outOff := if s.fanAnalog n then none else some (s.dtb + 100000000) } ∧
      State.Logs [s.event Ev.FAN_OUT_FAULT 0 [num]] s t) ∧
    (en = false ∨ c.supOff ≠ none → exec (.fanSupFault n) s = .next s) ∧
    (en = true → c.supOff = none → ∃ t, exec (.fanSupFault n) s = .next t ∧ only t ∧ t.regB st 2 = true ∧
      t.fan n = { c with supOff := some (s.dtb + 1000000000) } ∧ State.Logs [s.event Ev.FAN_SUP_FAULT 0 [num]] s t) ∧
    (c.outOff = none → exec (.fanOutRetry n) s = .next s) ∧ (c.supOff = none → exec (.fanSupRetry n) s = .next s) ∧
    (∀ b, c.outOff = some b → exec (.fanOutRetry n) s =
      .next (if b ≤ s.dtb then s.setFan n { c with outOff := none } else s)) ∧
    (∀ b, c.supOff = some b → exec (.fanSupRetry n) s =
      .next (if b ≤ s.dtb then s.setFan n { c with supOff := none } else s)) ∧
    (let past := s.fanPosture n = 1 ∧ c.cmd = none ∧
        ∃ b, c.holdAt = some b ∧ b + s.regF (Reg.FAN_CFG n) 15 8 * 10000000 ≤ s.dtb;
      (¬ past → exec (.fanHoldEnd n) s = .next s) ∧
      (past → exec (.fanHoldEnd n) s = .next (s.setFan n { c with holdOver := true }))) ∧
    (en = false ∨ s.fanImode n ≠ 1 → exec (.tachometerPulse n) s = .next s) ∧
    (en = true → s.fanImode n = 1 →
      let gaps := match c.lastPulse with
        | none => []
        | some b => if b + 1000000000 ≤ s.dtb then [] else ((s.dtb - b) :: c.gaps).take 4
      let used := gaps.take (s.regF (Reg.FAN_CFG n) 19 18 + 1)
      ∃ t, exec (.tachometerPulse n) s = .next t ∧ only t ∧ t.recd = s.recd ∧ State.OnlyRegs [Reg.FAN_SPD n] s t ∧
        (t.fan n).lastPulse = some s.dtb ∧ (t.fan n).gaps = gaps ∧ (t.fan n).cmd = c.cmd ∧
        t.reg (Reg.FAN_SPD n) = (if used.foldl (· + ·) 0 = 0 then 0 else
          ratF (60000000000 * used.length) ((s.regF (Reg.FAN_CFG n) 19 18 + 1) * used.foldl (· + ·) 0)))

/-- The Key link (R377 to R399). How a receiver takes its bits rests on log 54, full scale for on, the CLEARs beside a frame and the readings
as operands on log 53, a posture under PWM, the frame times without a stream and LOSS from a frame's arrival on log 109. -/
def Obligations.KeyLinkAndFieldSide : Prop :=
  ∀ (s : State) (flips : List Nat) (raws : List (Nat × List (Bool × Nat))) (outs neg fv temp v n : Nat), n < 64 →
    let d := s.dio
    let f := d.field
    let c := s.fch n
    let dioOnly (t : State) : Prop := State.Only [.dio, .act, .recd] s t
    let safe (t : State) : Prop := t.dio.field.safe = true ∧ t.dio.field.checked = false ∧
      t.dio.field.safeCnt = (if f.safe then f.safeCnt else (f.safeCnt + 1) % 65536)
    -- an output channel in posture: HOLD keeps its switch for HOLDT, OFF opens it
    let postured (o r : FieldChan) : Prop := r.inPost = true ∧ (o.inPost = true → r = o) ∧
      (o.inPost = false → r.holdAt = s.dtb ∧
        (ioHold o.cfg = true → r.on = o.on ∧ r.want = o.want ∧ r.holdNs = some (fld o.cfg 15 8 * 10000000)) ∧
        (ioHold o.cfg = false → r.on = false ∧ r.want = false))
    -- no PWM reload of the channel has come
    let still : Prop := c.pwm = false ∨ s.dtb < c.reloadAt
    let isles := d.island ≠ 0
    (s.dtb < d.nextDown ∨ (s.onSafe = true ∧ d.island ≠ 1) → exec .keyDownstreamFrame s = .next s) ∧
    (d.nextDown ≤ s.dtb → s.onSafe = false ∨ d.island = 1 →
      (s.onSafe = false → s.isPending dioCommonPage = false ∧ ∀ k, k < 64 → s.isPending (dioPage k) = false) →
      ∃ t k, exec .keyDownstreamFrame s = .next t ∧ State.Only [.dio, .act] s t ∧
        t.dio = { d with
          seq := (d.seq + 1) % 65536, nextDown := s.dtb / 20000 * 20000 + 20000, flight := d.flight ++ [k], clears := [],
          applied := [], island := if d.island = 1 then 2 else d.island } ∧
        k.seq = d.seq ∧ k.start = s.dtb / 20000 * 20000 ∧ k.clears = d.clears ∧
        k.common = (if isles ∨ d.held = true then d.common else s.reg Reg.DIO_KCFG) ∧
        k.run = (if d.island = 0 then !d.held && !s.shed 5 else d.island == 1) ∧ k.outs.length = 64 ∧
        (s.ioDrives n = false → k.outs.getD n (true, 1) = (false, 0)) ∧
        (s.ioDrives n = true → isles → k.outs.getD n (true, 1) = (!s.permissive (40 + n), 0)) ∧
        (s.ioDrives n = true → d.island = 0 → k.outs.getD n (true, 1) = (match (s.slot (40 + n)).value with
          | none => (true, 0)
          | some u => (false, if ioPwm (s.ioCfg n) then ioQ u else if fpLtRat u 1 2 then 0 else 32767))) ∧
        (isles ∨ d.held = true → k.slots.filterMap id = []) ∧
        (d.island = 0 → d.held = false →
          (k.slots.filterMap id).map (fun r => r.1) = d.applied.take 8 ++ ((List.range 8).map fun i => 8 * (d.seq % 8) + i) ∧
          ∀ r ∈ k.slots.filterMap id, r.2.2 = s.reg (Reg.DIO_TIM r.1) ∧
            r.2.1 = if s.permissive (40 + r.1) then setBit (s.reg (Reg.DIO_CFG r.1)) 21 false else s.reg (Reg.DIO_CFG r.1))) ∧
    (d.flight = [] → exec (.keyFieldApply flips) s = .next s) ∧
    (∀ k later, d.flight = k :: later →
      (s.dtb < k.start + 21000 → exec (.keyFieldApply flips) s = .next s) ∧
      (k.start + 21000 ≤ s.dtb → f.powered = false →
        exec (.keyFieldApply flips) s = .next (s.setDio { d with flight := later })) ∧
      (k.start + 21000 ≤ s.dtb → f.powered = true →
        -- what the receiver ends as the frame's bits reach it
        let r := f.rx.feed downSync (heard k.start f.upAt flips (downBits k))
        ∃ t, exec (.keyFieldApply flips) s = .next t ∧ State.Only [.dio, .ctl, .recd] s t ∧ t.dio.flight = later ∧
          t.dio.field.rx = r.1 ∧
          (r.2 = [] → t.dio.field = { f with rx := r.1 } ∧ t.recd = s.recd) ∧
          (∀ crc, r.2 = [.bad crc] → t.recd = s.recd ∧ t.dio.field = { f with
            rx := r.1, run := 0, dcrc := if crc then (f.dcrc + 1) % 65536 else f.dcrc }) ∧
          (∀ bits entry, r.2 = [.valid bits entry] →
            let g := readDown bits k.start k.clears
            let newLoss := fld g.common 12 0
            t.dio.field.lastValid = s.dtb ∧ t.dio.field.common = g.common ∧ t.dio.field.echo = g.seq ∧
            (g.run = false → safe t) ∧
            -- a new LOSS that has passed already: posture, and a check anew
            (g.run = true → f.safe = false → f.lastValid + newLoss * 20000 < s.dtb →
              t.dio.field.safeCnt = (f.safeCnt + 1) % 65536 ∧
              (entry.getD (f.run + 1) < newLoss → t.dio.field.safe = true ∧ t.dio.field.checked = false)) ∧
            (g.run = true → f.checked = true → f.safe = true ∨ s.dtb ≤ f.lastValid + newLoss * 20000 →
              t.dio.field.checked = true ∧ t.dio.field.safe = false ∧
              (g.slots.filterMap id = [] → k.clears = [] → ioEn c.cfg = true → ioOut c.cfg = true → still →
                (∀ q, g.outs.getD n (false, 0) = (false, q) →
                  (t.fch n).q = q ∧ (t.fch n).inPost = false ∧ (t.fch n).cmdOn = (q != 0) ∧ (t.fch n).holdNs = none ∧
                  (c.pwm = true → (t.fch n).on = c.on ∧ (t.fch n).want = c.want ∧ (t.fch n).loaded = c.loaded) ∧
                  (c.pwm = false → (t.fch n).want = (q != 0) ∧ (q = 0 → (t.fch n).on = false) ∧
                    (q ≠ 0 → c.latch = false ∨ c.cmdOn = false → c.waitTill = none → c.ot = false → (t.fch n).on = true) ∧
                    (q ≠ 0 → c.cmdOn = false → c.latch = true → (t.fch n).latch = false ∧ (t.fch n).short = false))) ∧
                (∀ q, g.outs.getD n (false, 0) = (true, q) → postured c (t.fch n))))))) ∧
    (let stop := f.lastValid + fld f.common 12 0 * 20000
      let frameFirst : Prop := ∃ k ∈ d.flight, k.start + 21000 ≤ stop
      (f.powered = false ∨ f.safe = true ∨ s.dtb < stop ∨ frameFirst → exec .keyFieldLoss s = .next s) ∧
      (f.powered = true → f.safe = false → stop ≤ s.dtb → ¬ frameFirst →
        ∃ t, exec .keyFieldLoss s = .next t ∧ State.Only [.dio] s t ∧ safe t ∧
          (still → ioEn c.cfg = true → ioOut c.cfg = true → postured c (t.fch n)) ∧
          (still → ioEn c.cfg = false ∨ ioOut c.cfg = false → t.fch n = c))) ∧
    (d.up = [] → exec (.keyUpstreamFrame flips raws outs neg ⟨fv, temp⟩) s = .next s) ∧
    (∀ u later, d.up = u :: later →
      let sampled := f.sampleInputs u raws
      let vals := u.values sampled outs neg fv temp
      (ioOut (u.cfgs.getD n 0) = false → neg / 2 ^ n % 2 = 1 → vals.ins / 2 ^ n % 2 = 0 ∧
        vals.chst.getD n 0 = u.chst.getD n 0 + 64) ∧
      (ioOut (u.cfgs.getD n 0) = true → vals.ins / 2 ^ n % 2 = outs / 2 ^ n % 2) ∧
      (s.dtb < u.start + 29968 → exec (.keyUpstreamFrame flips raws outs neg ⟨fv, temp⟩) s = .next s) ∧
      (u.start + 29968 ≤ s.dtb → d.held = true →
        exec (.keyUpstreamFrame flips raws outs neg ⟨fv, temp⟩) s = .next (s.setDio { d with up := later, field := sampled })) ∧
      (u.start + 29968 ≤ s.dtb → d.held = false →
        let r := d.rx.feed upSync (heard (u.start + 10000) d.rxFrom flips (upBits u vals))
        ∃ t, exec (.keyUpstreamFrame flips raws outs neg ⟨fv, temp⟩) s = .next t ∧ dioOnly t ∧ t.dio.up = later ∧ t.dio.rx = r.1 ∧
          t.dio.field = sampled ∧
          t.regF Reg.DIO_KSTAT 31 30 = (if r.1.lock.isSome then 2 else if r.1.cands.isEmpty then 0 else 1) ∧
          (r.2 = [] ∨ (∃ crc, r.2 = [.bad crc]) → t.dio.lastSeq = d.lastSeq ∧ t.recd = s.recd ∧
            State.OnlyRegs [Reg.DIO_KSTAT, Reg.DIO_KCNT] s t) ∧
          (∀ bits entry, r.2 = [.valid bits entry] →
            let g := readUp bits u.start
            t.dio.lastSeq = g.1.seq ∧ t.dio.lastAt = u.start + 10000 ∧ t.dio.lost = false ∧
            t.regB Reg.DIO_KSTAT 29 = false ∧ t.reg Reg.DIO_INSEQ = BitVec.ofNat 32 g.1.seq ∧
            t.reg Reg.DIO_INDTB = BitVec.ofNat 32 (u.start + 10000) ∧ t.regF Reg.DIO_FIELD 15 0 = g.2.fv ∧
            t.regF Reg.DIO_FIELD 31 16 = g.2.temp ∧
            t.regB (Reg.DIO_STAT n) 27 = (ioEn (s.ioCfg n) && g.2.ins / 2 ^ n % 2 == 1) ∧
            (n < 16 → t.reg (Reg.DIO_CNT n) = g.1.counts.getD n 0 ∧ t.reg (Reg.DIO_FREQ n) = g.1.freqs.getD n 0)))) ∧
    (let due := d.lastAt + (s.regF Reg.DIO_KCFG 12 0 + 1) * 20000;
      (s.regB Reg.DIO_KSTAT 29 = true ∨ s.dtb < due → exec .dioLinkLoss s = .next s) ∧
      (s.regB Reg.DIO_KSTAT 29 = false → due ≤ s.dtb → ∃ t, exec .dioLinkLoss s = .next t ∧ dioOnly t ∧
        t.dio = { d with lost := true } ∧ t.regB Reg.DIO_KSTAT 29 = true ∧ t.regB Reg.DIO_KSTAT 7 = true ∧
        (∀ k, k < 16 → t.regB (Reg.DIO_STAT k) 26 = false) ∧
        State.Logs [s.event Ev.DIO_LINK_LOSS 0 [BitVec.ofNat 32 d.lastSeq]] s t)) ∧
    (let back (x y : KeyRx) : Prop := (x.lock = none ∨ x.bad < 3 → y = x) ∧
        ∀ c, x.lock = some c → 3 ≤ x.bad → 2496 ≤ c.n → y = KeyRx.reset;
      (∃ t y, exec (.keyReceiverSearch true) s = .next t ∧ State.Only [.dio, .act] s t ∧ t.dio = { d with rx := y } ∧
        State.OnlyRegs [Reg.DIO_KSTAT] s t ∧ back d.rx y ∧
        t.regF Reg.DIO_KSTAT 31 30 = (if y.lock.isSome then 2 else if y.cands.isEmpty then 0 else 1)) ∧
      ∃ y, exec (.keyReceiverSearch false) s = .next (s.setField { f with rx := y }) ∧ back f.rx y) ∧
    exec (.fieldSideStart v) s = .next (if f.powered = false ∧ 1600 < v then
      s.setField { FieldSide.dark with powered := true, common := 0x000A0005, lastValid := s.dtb, upAt := s.dtb } else s) ∧
    exec (.fieldSideStop v) s = .next (if f.powered = true ∧ v < 1500 then
      s.setDio { d with field := FieldSide.dark, up := [] } else s)

/-- Field-side channels (R378 to R389). Raw samples as runs and CLEAR in the next frame rest on log 53, the HOLD time as it was taken on log 109. -/
def Obligations.FieldChannels : Prop :=
  ∀ (s : State) (w : Who) (n r : Nat) (check : Bool) (runs : List (Bool × Nat)), n < 64 →
    let f := s.dio.field
    let m := f.lead n
    -- the channels, brought up to their PWM reloads
    let c := (s.fch n).reload s.dtb
    let o := (s.fch m).reload s.dtb
    let ci := s.fch n
    -- the switch turned on or off; a turn-on past its check has restarted the count of failed retries
    let sw (x : FieldChan) (on : Bool) : FieldChan :=
      { (if x.on && decide (x.onAt + 7000 + blankNs x.cfg ≤ s.dtb) then { x with fails := 0, retry := false } else x) with
        on := on, onAt := if on && !x.on then s.dtb else x.onAt }
    let sets (i : Instr) (k : Nat) (x : FieldChan) : Prop := ∃ t, exec i s = .next t ∧ State.Only [.dio] s t ∧ t.fch k = x ∧
      (∀ j, j ≠ k → t.fch j = s.fch j) ∧ t.dio = { s.dio with field := { f with chans := t.dio.field.chans } }
    (f.powered = false ∨ o.on = false → exec (.dioShort n check) s = .next s) ∧
    (f.powered = true → o.on = true →
      let fails := min 7 (if check then o.fails + o.retry.toNat else 0)
      let latch := decide (fld o.cfg 18 16 ≤ fails)
      sets (.dioShort n check) m { o with
        on := false, short := true, latch := latch, fails := fails, retry := false,
        waitTill := if latch then none else some (s.dtb + 10000000) }) ∧
    ((∀ u, c.waitTill = some u → s.dtb < u) → exec (.dioShortRetry n) s = .next s) ∧
    (∀ u, c.waitTill = some u → u ≤ s.dtb → sets (.dioShortRetry n) n (if c.want then
        { sw c (c.on || (!c.latch && !c.ot)) with waitTill := none, short := false, retry := true }
      else { sw c false with waitTill := none, short := false, retry := false })) ∧
    (f.powered = true → ioEn c.cfg = true → ioOut c.cfg = true → bitAt c.cfg 19 = true →
      sets (.dioOpenLoadTest n r) n { c with opened := r == 1, vshort := r == 2 && !c.on }) ∧
    (f.powered = false ∨ ioEn c.cfg = false ∨ ioOut c.cfg = false ∨ bitAt c.cfg 19 = false →
      exec (.dioOpenLoadTest n r) s = .next s) ∧
    (f.powered = true → ioOut o.cfg = true → sets (.dioOt n) m { sw o false with ot := true }) ∧
    (f.powered = false ∨ ioOut o.cfg = false → exec (.dioOt n) s = .next s) ∧
    (o.ot = false → exec (.dioOtRestart n) s = .next s) ∧
    (o.ot = true → sets (.dioOtRestart n) m (if o.want then
        { sw o (o.on || (!o.latch && o.waitTill.isNone)) with ot := false }
      else { sw o false with ot := false, short := o.latch, waitTill := none, retry := false })) ∧
    (let past : Prop := c.inPost = true ∧ c.want = true ∧ ∃ h, c.holdNs = some h ∧ c.holdAt + (h : Int) ≤ s.dtb;
      (¬ past → exec (.dioHoldEnd n) s = .next s) ∧
      (past → sets (.dioHoldEnd n) n
        { sw c false with want := false, short := c.latch, waitTill := none, retry := false, holdNs := none })) ∧
    (s.granted w (Reg.DIO_CMD n) = true →
      exec (.dioClear w n) s = .next (s.setDio { s.dio with clears := n :: s.dio.clears.filter fun k => k != n })) ∧
    (let counts := n < 16 ∧ f.powered = true ∧ ci.counts = true
      let mode := ioCmode ci.cfg
      let need := if bitAt ci.cfg 27 then 2 else [2, 8, 16, 80, 800, 8000, 24000, 80000].getD (fld ci.cfg 26 24) 2
      let x := f.sampleTo ci s.dtb runs
      let es := x.2.filter fun e => mode == 3 || (mode == 1 && e.2) || (mode == 2 && !e.2)
      let stop := s.dtb / gateNs ci.tim * gateNs ci.tim;
      (∀ k, ci.diff = 0 →
        (ci.filterRuns 0 [(ci.level, k)]).2 = [] ∧
        (ci.filterRuns 0 [(!ci.level, k)]).2 = (if need ≤ k then [(need, !ci.level)] else []) ∧
        (ci.filterRuns 0 [(!ci.level, k)]).1.level = (ci.level != decide (need ≤ k))) ∧
      (¬ counts → exec (.filteredEdge n runs) s = .next s) ∧
      (counts → sets (.filteredEdge n runs) n (match es.getLast? with
        | none => x.1
        | some l => { x.1 with
          count := x.1.count + BitVec.ofNat 32 es.length, edges := x.1.edges + es.length
          tFirst := if x.1.edges = 0 then (es.headD l).1 / 8 else x.1.tFirst, tLast := l.1 / 8, latest := some (l.1 / 8) })) ∧
      (¬ counts ∨ stop ≤ ci.lastGate → exec (.counterGateEnd n) s = .next s) ∧
      (counts → ci.lastGate < stop → ∃ fr, sets (.counterGateEnd n) n { ci with
          freq := fr, fovr := decide (210000 * gateNs ci.tim < ci.edges * 1000000000), gated := true, edges := 0,
          lastGate := stop } ∧
        (ci.latest = none → fr = 0) ∧
        (∀ u, ci.latest = some u → u * 8 + ftoNs ci.tim ≤ stop / 8 * 8 → fr = 0) ∧
        (∀ u, ci.latest = some u → stop / 8 * 8 < u * 8 + ftoNs ci.tim → 2 ≤ ci.edges →
          let hz := mulF (ratF 125000000 1) (divF (ratF (ci.edges - 1 : Nat) 1) (ratF (ci.tLast - ci.tFirst : Nat) 1))
          fr = if mode = 3 then divF hz (ratF 2 1) else hz)))

/-- The recorder (R402 to R416). One transaction per line and marker rests on log 38, padded lines and full buckets on log 61. -/
def Obligations.RecorderCommands : Prop :=
  ∀ (s : State) (w : Who) (k : Nat),
    let r := s.recd
    let seq := (s.reg Reg.REC_SEQ).toNat
    let only (t : State) : Prop := State.Only [.recd, .act, .hwk] s t
    let counted (t : State) (a : Nat) : Prop := t.reg a = BitVec.ofNat 32 (min ((s.reg a).toNat + 1) 0xFFFFFFFF)
    -- a record of the recorder's own joins the staging buffer, unless a later group has been released
    let writes (t : State) (code : Nat) : Prop := t.reg Reg.REC_SEQ = BitVec.ofNat 32 (seq + 1) ∧
      ((∀ t0, r.releasedT0 = some t0 → t0 + 20000 < s.dtb) → t.recd.log = r.log ∧
        ∃ x, t.recd.staged = r.staged ++ [x] ∧ x.code = code ∧ x.seq = seq ∧ x.stamp = s.dtb)
    -- the store engine is frozen, resetting or another's
    let held := s.engineFree 9 = false ∧
      ∀ n, (s.engine 9).running = some n → (s.tag n).ran = false ∧ (s.tag n).op ≠ some .logLine
    (s.recStarting = true ∨ r.handed = [] → exec .eventAccept s = .next s) ∧
    (∀ e, s.recStarting = false → nextEvent r.handed = some e → r.drops.count = 0 →
      let b := r.bucket (bucketKey e.code e.cell)
      let range := bucketRange (bucketKey e.code e.cell)
      let free := neverLimited e.code = true ∨ s.ivl range = 0
      let size := 32 + 4 * (padBody e.body).length
      let x : Record := ⟨e.code, e.cell, if r.stepNext then 4 else 0, seq, e.stamp, (s.reg Reg.REC_HOURS).toNat,
        (s.reg Reg.REC_PCC).toNat, s.dtb % 2 ^ 32, padBody e.body, []⟩
      ∃ t, exec .eventAccept s = .next t ∧ only t ∧ t.recd.handed = r.handed.erase e ∧
        (free ∨ b.spent < s.burst range → s.fits size = true → t.reg Reg.REC_SEQ = BitVec.ofNat 32 (seq + 1) ∧
          t.recd.stepNext = false ∧
          ((∀ t0, r.releasedT0 = some t0 → t0 + 20000 < e.stamp) → t.recd.staged = r.staged ++ [x] ∧ t.recd.log = r.log) ∧
          (∀ t0, r.releasedT0 = some t0 → e.stamp ≤ t0 + 20000 → t.recd.staged = r.staged ∧ t.regB Reg.REC_STAT 13 = true ∧
            t.recd.log.map (fun y => y.record) = r.log.map (fun y => y.record) ++ [x.withFlag 2])) ∧
        (¬ free → b.spent < s.burst range → (t.recd.bucket (bucketKey e.code e.cell)).spent = b.spent + 1) ∧
        (free ∨ b.spent < s.burst range → s.fits size = false → counted t Reg.REC_DROP ∧ t.regB Reg.REC_STAT 15 = true ∧
          t.recd.staged = r.staged ∧ t.recd.log = r.log ∧ t.recd.drops = ⟨1, size, e.stamp, e.stamp, e.code, e.code⟩) ∧
        (¬ free → s.burst range ≤ b.spent → counted t Reg.REC_SUPP ∧ t.regB Reg.REC_STAT 14 = true ∧
          t.recd.staged = r.staged ∧ t.recd.log = r.log ∧ t.reg Reg.REC_SEQ = s.reg Reg.REC_SEQ ∧
          (t.recd.bucket (bucketKey e.code e.cell)).supp = b.supp + 1 ∧
          (t.recd.bucket (bucketKey e.code e.cell)).last = e.stamp)) ∧
    (let b := r.bucket k
      let ivl := s.ivl (bucketRange k)
      let due := s.gainBase (bucketRange k) + (b.ticks + 1) * ivl * 1000000;
      (ivl = 0 ∨ s.dtb < due → exec (.tokenBucketTick k) s = .next s) ∧
      (ivl ≠ 0 → due ≤ s.dtb → ∃ t, exec (.tokenBucketTick k) s = .next t ∧ only t ∧
        (t.recd.bucket k).ticks = b.ticks + 1 ∧ (t.recd.bucket k).spent = b.spent - 1 ∧
        (b.spent = 0 ∨ b.supp = 0 → t.act = s.act ∧ t.recd = { r with buckets := t.recd.buckets }) ∧
        (b.spent ≠ 0 → b.supp ≠ 0 → (t.recd.bucket k).supp = 0 ∧
          (r.drops.count = 0 ∨ s.fits 288 = false → writes t Ev.REC_SUMMARY) ∧
          (r.drops.count ≠ 0 → s.fits 288 = true → t.recd.drops.count = 0 ∧ t.reg Reg.REC_SEQ = BitVec.ofNat 32 (seq + 2))))) ∧
    (r.drops.count = 0 ∨ s.fits 288 = false → exec .recOverflow s = .next s) ∧
    (r.drops.count ≠ 0 → s.fits 288 = true → ∃ t, exec .recOverflow s = .next t ∧ only t ∧ t.recd.drops.count = 0 ∧
      writes t Ev.REC_OVERFLOW) ∧
    (r.staged = [] → exec .logGroupRelease s = .next s) ∧
    (∀ t0, firstStamp r.staged = some t0 → (s.dtb < t0 + 1020000 → exec .logGroupRelease s = .next s) ∧
      (t0 + 1020000 ≤ s.dtb → ∃ t, exec .logGroupRelease s = .next t ∧ only t ∧ t.recd.releasedT0 = some t0 ∧
        t.recd.staged = r.staged.filter (fun x => decide (t0 + 20000 < x.stamp)) ∧
        t.recd.log.map (fun y => y.record) = r.log.map (fun y => y.record) ++ groupOf t0 0 r.staged)) ∧
    (r.logPos ≤ 252 * r.linesWritten → exec .logLineWrite s = .next s) ∧
    (252 * r.linesWritten < r.logPos →
      let wrote (n : Nat) : Prop := ∃ t, exec .logLineWrite s = .next t ∧ only t ∧
        State.OnlyRegs [Reg.REC_STAT, Reg.REC_SEQ] s t ∧ t.recd.linesWritten = r.linesWritten + 1 ∧
        (r.drops.count = 0 → t.reg Reg.REC_SEQ = s.reg Reg.REC_SEQ ∧ t.recd.logPos = max r.logPos (252 * (r.linesWritten + 1)) ∧
          t.recd.staged = r.staged ∧
          t.recd.log = (r.log.filter fun x => decide (252 * (r.linesWritten + 1 - 180224) ≤ x.start))) ∧
        (r.drops.count ≠ 0 → ({ s with recd := r.writeLine } : State).fits 288 = true → t.recd.drops.count = 0 ∧
          t.reg Reg.REC_SEQ = BitVec.ofNat 32 (seq + 1)) ∧
        (t.tag n).ran = true ∧ (t.tag n).err = 0 ∧ (t.engine 9).running = some n
      (∀ n, (s.engine 9).running = some n → (s.tag n).op = some .logLine → (s.tag n).ran = false → wrote n) ∧
      (∀ n, s.engineFree 9 = true → (s.internals 2).head? = some n → (s.tag n).op = some .logLine →
        s.flushing = true ∨ 0 < s.reserveLeft 2 → wrote n) ∧
      (held → exec .logLineWrite s = .next s)) ∧
    (s.granted w Reg.REC_CMD = true → s.flushing = true → exec (.flush w) s = .next s) ∧
    (s.granted w Reg.REC_CMD = true → s.flushing = false → ∃ t, exec (.flush w) s = .next t ∧ only t ∧ State.OnlyRegs [Reg.REC_STAT] s t ∧
      t.recd.flush = some .command ∧ t.recd.flushStart = s.dtb ∧ t.regF Reg.REC_STAT 31 28 = 1 ∧ t.recd.staged = [] ∧
      t.recd.handed = r.handed ∧ t.recd.log.length = r.log.length + r.staged.length) ∧
    (r.flush = none → exec .flushComplete s = .next s) ∧
    (held → s.ctl.island = none → exec .flushComplete s = .next s) ∧
    (∀ why, r.flush = some why → s.ctl.island = none → s.engineFree 9 = true → s.hasInternal .logLine = false →
      s.hasInternal .marker = false → s.hwk.owed = [] → s.freeReserved ≠ none → r.drops.count = 0 →
      ∃ t, exec .flushComplete s = .next t ∧
      State.Only (if why = .tierT5 then [.recd, .act, .hwk, .svcTag] else [.recd, .act, .hwk]) s t ∧
      State.OnlyRegs [Reg.REC_SEQ, Reg.REC_STAT, Reg.REC_FLUSHT, Reg.HWK_ENCNT 9] s t ∧
      t.reg (Reg.HWK_ENCNT 9) = s.reg (Reg.HWK_ENCNT 9) + BitVec.ofNat 32 (t.recd.linesWritten - r.linesWritten + 1) ∧
      t.engineFree 9 = true ∧ t.hasInternal .logLine = false ∧
      t.recd.flush = none ∧ t.recd.staged = [] ∧ t.recd.logPos ≤ 252 * t.recd.linesWritten ∧
      t.reg Reg.REC_SEQ = BitVec.ofNat 32 (seq + 1) ∧ t.recd.lastMarker = s.dtb ∧
      t.recd.markers.head? = some ⟨(s.reg Reg.REC_HOURS).toNat, (s.reg Reg.REC_PCC).toNat, (seq + 1) % 2 ^ 32,
        why != .command, true⟩ ∧
      t.regF Reg.REC_STAT 31 28 = (if why = .tierT5 then 2 else 0) ∧
      t.regF Reg.REC_FLUSHT 15 0 = min ((s.dtb - r.flushStart) / 1000) 0xFFFF) ∧
    (s.ctl.por.isSome = true ∨ s.flushing = true ∨ s.dtb < r.lastMarker + 60000000000 → exec .markerWrite s = .next s) ∧
    (s.ctl.por = none → s.flushing = false → r.lastMarker + 60000000000 ≤ s.dtb →
      (s.engineFree 9 = false → (∀ n, (s.engine 9).running = some n → (s.tag n).ran = false ∧ (s.tag n).op ≠ some .marker) →
        ∃ t, exec .markerWrite s = .next t ∧ State.Only [.hwk] s t ∧ t.hasInternal .marker = true) ∧
      (s.engineFree 9 = true → s.internals 2 = [] → s.hasInternal .marker = false → s.hwk.owed = [] → s.freeReserved ≠ none →
        0 < s.reserveLeft 2 → ∃ t, exec .markerWrite s = .next t ∧ only t ∧ State.OnlyRegs [Reg.HWK_ENCNT 9] s t ∧
          t.reg (Reg.HWK_ENCNT 9) = s.reg (Reg.HWK_ENCNT 9) + 1 ∧ t.engineFree 9 = true ∧ t.recd = { r with
          markers := (⟨(s.reg Reg.REC_HOURS).toNat, (s.reg Reg.REC_PCC).toNat, seq, false, true⟩ :: r.markers).take 64,
          lastMarker := s.dtb })) ∧
    (s.granted w Reg.REC_CURSOR = true →
      let c := s.whoCell w
      let starts (i : Instr) (mode : Nat) : Prop := ∃ t, exec i s = .next t ∧ only t ∧
        State.OnlyRegs [bk c Reg.REC_WSTAT] s t ∧ t.regB (bk c Reg.REC_WSTAT) 31 = false ∧
        t.recd.fills.find? (fun e => e.1 == c) = some (c, ⟨mode, (s.reg (bk c Reg.REC_CSEQ)).toNat⟩);
      starts (.cursorOldest w) 0 ∧ starts (.cursorAt w) 1 ∧ starts (.cursorAfter w) 2 ∧ starts (.cursorNewest w) 3) ∧
    (r.fills.find? (fun e => e.1 == k) = none → exec (.windowFillComplete k) s = .next s) ∧
    (∀ f, r.fills.find? (fun e => e.1 == k) = some (k, f) →
      let res := s.runFill 4096 k f.mode f.cseq
      let ws := res.recs.flatMap LogRec.words
      ∃ t, exec (.windowFillComplete k) s = .next t ∧ only t ∧ t.regB (bk k Reg.REC_WSTAT) 31 = true ∧
        t.regB (bk k Reg.REC_WSTAT) 30 = res.more ∧ t.regB (bk k Reg.REC_WSTAT) 29 = res.gap ∧
        t.regF (bk k Reg.REC_WSTAT) 28 22 = res.recs.length % 128 ∧ t.reg (bk k Reg.REC_WNEXT) = BitVec.ofNat 32 res.next ∧
        (∀ i, i < ws.length → t.reg (bk k (Reg.REC_WIN i)) = ws.getD i 0) ∧
        t.recd.fills.find? (fun e => e.1 == k) = none)

/-- The non-volatile store (R404, R417 to R424). One transaction per access, the commit record in two, rests on log 38, sequences undone
whole on logs 60 and 105, the order of a set's image on log 59, records of bad words on log 98. -/
def Obligations.CellStoreAndSets : Prop :=
  ∀ (s : State) (w : Who) (m set fail cell : Nat) (bad : Bool),
    let x := s.tag m
    let d := x.desc
    let words := descLen d / 4
    let at' := 4096 * x.cell + (descArg d 0).toNat
    let rd (i : Nat) := s.dmaRead x.cell (descSrc d + 4 * i)
    let src := (List.range words).map fun i => (rd i).1
    let first (i : Nat) : Prop := i < words ∧ (rd i).2.2 = true ∧ ∀ j, j < i → (rd j).2.2 = false
    let clean := ∀ i, i < words → (rd i).2.2 = false
    let y := s.nvSet set
    let failed := s.event Ev.NVS_STORE_FAIL 0
    (s.granted w Reg.REC_CMD = true → s.whoCell w ≠ 0 → exec (.nverase w cell) s = .next s) ∧
    (s.granted w Reg.REC_CMD = true → s.whoCell w = 0 → ∃ t, exec (.nverase w cell) s = .next t ∧ State.Only [.recd] s t ∧
      t.recd = { s.recd with cellNv := t.recd.cellNv } ∧
      ∀ k, mget 0 k t.recd.cellNv = if k / 4096 = cell then 0 else mget 0 k s.recd.cellNv) ∧
    (s.mayRun m 2 0x01 = true → exec (.nvsRead m bad) s = .next ((s.dmaWrite m (descDst d)
      ((List.range words).map fun i => (memWord s.recd.cellNv (at' + 4 * i), false))).ranWith m (if bad then 2 else 0))) ∧
    (s.mayRun m 2 0x02 = true →
      (∀ i, first i → ∃ t, exec (.nvsWrite ⟨m, []⟩) s = .next t ∧ t.recd.cellNv = s.recd.cellNv ∧ t.recd.nvUndo = s.recd.nvUndo ∧
        (t.tag m).ran = true ∧ (t.tag m).err = 2) ∧
      (clean → ∃ t, exec (.nvsWrite ⟨m, []⟩) s = .next t ∧ State.Only [.recd, .act, .hwk] s t ∧ t.hwk = (s.ranWith m 0).hwk ∧
        State.OnlyRegs [Reg.REC_WEAR] s t ∧
        (∀ j, j < 4 * words → mget 0 (at' + j) t.recd.cellNv = (wordBytes src).getD j 0) ∧
        (∀ k, k < at' ∨ at' + 4 * words ≤ k → mget 0 k t.recd.cellNv = mget 0 k s.recd.cellNv) ∧
        t.recd.nvUndo = s.nvMark x ∧ t.recd.poolWrites = s.recd.poolWrites + ((at' + descLen d - 1) / 256 - at' / 256 + 1))) ∧
    (s.mayRun m 2 0x10 = true →
      (∀ i, first i → exec (.nvsEmit ⟨m, []⟩) s =
        .next ((s.dmaUncorrectable x.cell (descSrc d + 4 * i)).ranWith m 2)) ∧
      (clean → exec (.nvsEmit ⟨m, []⟩) s = .next ((s.emitAt (s.engine (x.engine.getD 9)).since
        (0xF00 + (descArg d 0).toNat % 256) x.cell src).ranWith m 0))) ∧
    (s.mayRun m 2 0x01 = false → exec (.nvsRead m bad) s = .next s) ∧
    (∀ es, (s.mayRun m 2 0x02 = false → exec (.nvsWrite ⟨m, es⟩) s = .next s) ∧
      (s.mayRun m 2 0x10 = false → exec (.nvsEmit ⟨m, es⟩) s = .next s) ∧
      (s.mayRun m 2 0x02 = true ∨ s.mayRun m 2 0x10 = true → ∃ s0, State.Only [.cells, .marked, .recd] s s0 ∧
        exec (.nvsWrite ⟨m, es⟩) s = exec (.nvsWrite ⟨m, []⟩) s0 ∧ exec (.nvsEmit ⟨m, es⟩) s = exec (.nvsEmit ⟨m, []⟩) s0 ∧
        ∀ i, i < words → (descSrc d + 4 * i, Ecc.double) ∈ es →
          (sharedBase ≤ descSrc d + 4 * i ∧ descSrc d + 4 * i < 0x30000000) ∨ s.viewKey x.cell (descSrc d + 4 * i) ≠ none →
          (s0.dmaRead x.cell (descSrc d + 4 * i)).2.2 = true)) ∧
    (∀ u, s.recd.nvUndo = some u → u.1 = x.head → x.err ≠ 0 → x.op = none → s.isRunning m = true → x.ran = true →
      s.emitWaits x = false → ∃ t, exec (.transactionComplete m) s = .next t ∧ t.recd.cellNv = u.2 ∧ t.recd.nvUndo = none) ∧
    (let starts (i : Instr) : Prop :=
        ∃ t, exec i s = .next t ∧ State.Only [.recd, .act, .host, .hwk] s t ∧ t.recd.handed = s.recd.handed ∧
          t.nvSet set = { y.setContent y.other (s.setImage set) with
            storing := some (s.setImage set), lastStart := some s.dtb, requested := false, pending := false,
            left := 2 * accessesOf (s.setImage set) + 2, failing := fail } ∧
          t.regF (Reg.REC_SSTAT set) 31 28 = 4 ∧ t.hasInternal (.store set) = true;
      (16 ≤ set ∨ s.flushing = true ∨ s.reqMasked (.store set) = true ∨ y.free s.dtb = false →
        exec (.nvsStoreStart set fail) s = .next s ∧ exec (.nvsStorePendingStart set fail) s = .next s) ∧
      (y.requested = false → exec (.nvsStoreStart set fail) s = .next s) ∧
      (y.pending = false → exec (.nvsStorePendingStart set fail) s = .next s) ∧
      (set < 16 → s.flushing = false → s.reqMasked (.store set) = false → y.free s.dtb = true →
        (y.requested = true → starts (.nvsStoreStart set fail)) ∧ (y.pending = true → starts (.nvsStorePendingStart set fail)))) ∧
    (y.storing = none ∨ s.flushing = true → exec (.storeCommit set bad) s = .next s) ∧
    (s.engineFree 9 = false → y.left ≠ 0 →
      (∀ n, (s.engine 9).running = some n → (s.tag n).ran = false ∧ (s.tag n).op ≠ some (.store set)) →
      exec (.storeCommit set bad) s = .next s) ∧
    (∀ n image, y.storing = some image → s.flushing = false → set < 16 → s.engineFree 9 = true → s.internals 2 = [n] →
      (s.tag n).op = some (.store set) → (∀ e ∈ s.hwk.tags, e.2.op = some (.store set) → e.1 = n) → 0xFC00 ≤ n → n < 0x10000 →
      s.hwk.owed = [] → s.hwk.waiting = [] ∨ y.left ≤ s.reserveLeft 2 →
      let only (t : State) : Prop := State.Only [.recd, .act, .host, .fe, .sessions, .hwk] s t
      (y.failing = 2 ∨ y.failing = 3 → y.left ≠ 0 → ∃ t, exec (.storeCommit set bad) s = .next t ∧ only t ∧
        (t.nvSet set).storing = none ∧ (t.nvSet set).seq = y.seq ∧ (t.nvSet set).bank = y.bank ∧ t.regB Reg.REC_STAT 12 = true ∧
        failed [BitVec.ofNat 32 set, BitVec.ofNat 32 y.failing] ∈ t.recd.handed) ∧
      (y.failing ≠ 2 → y.failing ≠ 3 → ∃ t, exec (.storeCommit set true) s = .next t ∧ only t ∧
        (t.nvSet set).storing = none ∧ (t.nvSet set).seq = y.seq ∧ (t.nvSet set).bank = y.bank ∧
        (t.nvSet set).ring.head?.map (fun c => c.ownOk) = some false ∧ failed [BitVec.ofNat 32 set, 4] ∈ t.recd.handed) ∧
      (y.failing ≠ 2 → y.failing ≠ 3 → ∃ t, exec (.storeCommit set false) s = .next t ∧ only t ∧
        t.reg (Reg.HWK_ENCNT 9) = s.reg (Reg.HWK_ENCNT 9) + BitVec.ofNat 32 y.left ∧
        (t.nvSet set).storing = none ∧ (t.nvSet set).bank = y.other ∧ (t.nvSet set).fallback = false ∧
        (t.nvSet set).seq = (if y.seq = 0 then 1 else (y.seq + 1) % 2 ^ 32) ∧
        (1 ≤ set → t.reg (Reg.REC_SSEQ set) = BitVec.ofNat 32 (t.nvSet set).seq) ∧
        (2 ≤ set → s.event Ev.NVS_COMMIT 0 [BitVec.ofNat 32 set, BitVec.ofNat 32 (t.nvSet set).seq] ∈ t.recd.handed)))

/-- The RTC, its backup RAM and latched reads (R425 to R433, R524). A SET or SHIFT that changes the seconds as a seconds tick rests on
log 101. -/
def Obligations.ClockAndBackupRam : Prop :=
  ∀ (s : State) (w : Who) (i bad : Nat),
    -- an apply of the page that is pending, in a domain not handed over
    let pend := mhas rtcPage s.pend && !s.ctl.rtcHanded
    let op := fld (s.shadow Reg.RTC_CTL) 1 0
    let now := s.rtc.ticks
    let st := Reg.RTC_STAT
    let stage := 0x40680FFC
    -- an apply of the page: PENDING and DIRTY clear, DONE sets, the operation and the shadow copies end
    let applied (t : State) : Prop := State.Only [.rtc, .act, .shd, .pend, .recd] s t ∧ mhas rtcPage t.pend = false ∧
      t.regB stage 0 = false ∧ t.regB stage 2 = false ∧ t.regB stage 4 = true ∧ t.regF Reg.RTC_CTL 1 0 = 0 ∧
      t.reg Reg.RTC_TRIM = s.shadow Reg.RTC_TRIM ∧
      (s.shadow Reg.RTC_TRIM = s.reg Reg.RTC_TRIM → (t.nvSet 7) = s.nvSet 7) ∧
      (s.shadow Reg.RTC_TRIM ≠ s.reg Reg.RTC_TRIM → (t.nvSet 7).requested = true ∨ (t.nvSet 7).pending = true)
    let plain := (s.rtc.trimPhase + 1) % 1048576 ≠ 0 ∧ s.rtc.toOmit = 0
    let b := whoBank w
    (pend = false → plain → ∃ t, exec .rtcTick s = .next t ∧ State.Only [.rtc, .act] s t ∧
      State.OnlyRegs [Reg.RTC_PPSL, Reg.RTC_PPSH] s t ∧ t.rtc.ticks = (now + 1) % 2 ^ 64 ∧ t.rtc.lastEdge = s.dtb ∧
      (((now + 1) % 2 ^ 64) / 65536 = now / 65536 ∨ s.ctl.rtcHanded = true → t.act = s.act) ∧
      (((now + 1) % 2 ^ 64) / 65536 ≠ now / 65536 → s.ctl.rtcHanded = false → t.reg Reg.RTC_PPSL = BitVec.ofNat 32 s.dtb ∧
        t.reg Reg.RTC_PPSH = BitVec.ofNat 32 (s.dtb / 2 ^ 32))) ∧
    (pend = false → (s.rtc.trimPhase + 1) % 1048576 ≠ 0 → s.rtc.toOmit ≠ 0 → now < 2 ^ 64 → exec .rtcTick s =
      .next { s with rtc := { s.rtc with
        trimPhase := (s.rtc.trimPhase + 1) % 1048576, toOmit := s.rtc.toOmit - 1, lastEdge := s.dtb } }) ∧
    (pend = false → (s.rtc.trimPhase + 1) % 1048576 = 0 →
      let tr := sext 8 (s.regF Reg.RTC_TRIM 7 0)
      ∃ t, exec .rtcTick s = .next t ∧ State.Only [.rtc, .act] s t ∧ State.OnlyRegs [Reg.RTC_PPSL, Reg.RTC_PPSH] s t ∧
        t.rtc.trimPhase = 0 ∧ t.rtc.lastEdge = s.dtb ∧
        (0 ≤ tr → s.rtc.toOmit = 0 → (t.rtc.ticks : Int) = ((now : Int) + 1 + tr) % 2 ^ 64 ∧ t.rtc.toOmit = 0) ∧
        (tr < 0 → now < 2 ^ 64 → t.rtc.ticks = now ∧ (t.rtc.toOmit : Int) = s.rtc.toOmit - tr - 1)) ∧
    (pend = true → ∃ t, exec .rtcTick s = .next t ∧ applied t) ∧
    (pend = false ∨ op ≠ 1 → exec .rtcSet s = .next s) ∧ (pend = false ∨ op ≠ 2 → exec .rtcShift s = .next s) ∧
    (pend = false ∨ op ≠ 0 → exec .trimChange s = .next s) ∧
    (pend = true → op = 1 →
      let v := ((s.shadow Reg.RTC_SETL).toNat + fld (s.shadow Reg.RTC_SETH) 15 0 * 2 ^ 32) * 65536 +
        fld (s.shadow Reg.RTC_SETH) 31 16
      ∃ t, exec .rtcSet s = .next t ∧ applied t ∧ t.rtc.ticks = v ∧ t.rtc.lastEdge = s.dtb ∧ t.regB st 2 = true ∧ t.regF st 1 0 = 0 ∧
        s.event Ev.RTC_SET 0 (rtcWords now ++ rtcWords v) ∈ t.recd.handed) ∧
    (pend = true → op = 2 → plain →
      let sh := sext 17 (fld (s.shadow Reg.RTC_SHIFT) 16 0)
      ∃ t, exec .rtcShift s = .next t ∧ applied t ∧ (t.rtc.ticks : Int) = ((now : Int) + 1 + sh) % 2 ^ 64 ∧
        t.regB st 2 = true ∧ s.event Ev.RTC_SHIFT 0 (BitVec.ofInt 32 sh :: rtcWords t.rtc.ticks) ∈ t.recd.handed) ∧
    (pend = true → op = 0 → ∃ t, exec .trimChange s = .next t ∧ applied t ∧ (plain → t.rtc.ticks = (now + 1) % 2 ^ 64)) ∧
    (s.granted w Reg.RTC_FRAC = true → ∃ t, exec (.rtcFracRead w) s = .next t ∧ State.Only [.act, .answer] s t ∧
      State.OnlyRegs [bk b Reg.RTC_SECL, bk b Reg.RTC_SECH] s t ∧ t.answer = BitVec.ofNat 32 (now % 65536) ∧
      t.reg (bk b Reg.RTC_SECL) = BitVec.ofNat 32 (now / 65536) ∧
      t.reg (bk b Reg.RTC_SECH) = BitVec.ofNat 32 (now / 65536 / 2 ^ 32)) ∧
    (s.granted w Reg.CLK_DTBL = true → ∃ t, exec (.clkDtblRead w) s = .next t ∧ State.Only [.act, .answer] s t ∧ State.OnlyRegs [bk b Reg.CLK_DTBH] s t ∧
      t.answer = BitVec.ofNat 32 s.dtb ∧ t.reg (bk b Reg.CLK_DTBH) = BitVec.ofNat 32 (s.dtb / 2 ^ 32)) ∧
    (s.dtb < s.rtc.lastEdge + 250000 ∨ s.regB st 0 = true → exec .rtcOscStop s = .next s) ∧
    (s.rtc.lastEdge + 250000 ≤ s.dtb → s.regB st 0 = false →
      (s.ctl.por = none → exec .rtcOscStop s = .next ((s.setRegB st 0 true).emit Ev.RTC_OSC_STOP 0 (rtcWords now))) ∧
      (s.ctl.por ≠ none → exec .rtcOscStop s = .next (s.setRegB st 0 true))) ∧
    (let n := s.regF Reg.RTC_SWCNT 15 0
      ∃ t, exec .rtcBackupSwitch s = .next t ∧ State.Only [.act] s t ∧
        State.OnlyRegs [Reg.RTC_SWL, Reg.RTC_SWH, Reg.RTC_SWCNT] s t ∧ t.regF Reg.RTC_SWCNT 15 0 = min (n + 1) 0xFFFF ∧
        (n ≠ 0 → t.reg Reg.RTC_SWL = s.reg Reg.RTC_SWL ∧ t.reg Reg.RTC_SWH = s.reg Reg.RTC_SWH) ∧
        (n = 0 → t.reg Reg.RTC_SWL = BitVec.ofNat 32 (now / 65536) ∧ t.regF Reg.RTC_SWH 31 16 = now % 65536 ∧
          t.regF Reg.RTC_SWH 15 0 = now / 65536 / 2 ^ 32 % 65536)) ∧
    (32 ≤ i → exec (.bkramRead w i bad) s = .next s) ∧
    (i < 32 → s.granted w (Reg.RTC_BK i) = true → ∃ t, exec (.bkramRead w i bad) s = .next t ∧ State.Only [.act, .rtc, .recd, .answer] s t ∧
      t.answer = s.reg (Reg.RTC_BK i) ∧ t.rtc.ticks = now ∧
      ∀ j, j < 4 →
        let byte := 4 * i + j
        let isBad := bad / 2 ^ j % 2 = 1 ∨ mget false byte s.rtc.badParity = true
        (¬ isBad → t.regB (Reg.RTC_BKPERR (byte / 32)) (byte % 32) = s.regB (Reg.RTC_BKPERR (byte / 32)) (byte % 32)) ∧
        (isBad → t.regB (Reg.RTC_BKPERR (byte / 32)) (byte % 32) = true ∧ mget false byte t.rtc.badParity = true ∧
          (s.regB (Reg.RTC_BKPERR (byte / 32)) (byte % 32) = false → t.regB st 3 = true ∧
            s.event Ev.RTC_BKRAM_PARITY 0 [BitVec.ofNat 32 i] ∈ t.recd.handed))) ∧
    (s.granted w Reg.RTC_CMD = true → s.ctl.rtcHanded = true → exec (.clrperr w) s = .next s ∧ exec (.clrsw w) s = .next s) ∧
    (s.granted w Reg.RTC_CMD = true → s.ctl.rtcHanded = false → ∃ t, exec (.clrperr w) s = .next t ∧ State.Only [.act] s t ∧
      State.OnlyRegs [st, Reg.RTC_BKPERR 0, Reg.RTC_BKPERR 1, Reg.RTC_BKPERR 2, Reg.RTC_BKPERR 3] s t ∧
      t.regB st 3 = false ∧ ∀ j, j < 4 → t.reg (Reg.RTC_BKPERR j) = 0) ∧
    (s.granted w Reg.RTC_CMD = true → s.ctl.rtcHanded = false → ∃ t, exec (.clrsw w) s = .next t ∧ State.Only [.act] s t ∧
      State.OnlyRegs [Reg.RTC_SWL, Reg.RTC_SWH, Reg.RTC_SWCNT] s t ∧ t.reg Reg.RTC_SWL = 0 ∧ t.reg Reg.RTC_SWH = 0 ∧
      t.reg Reg.RTC_SWCNT = 0)

/-- Host links and gPTP (R434 to R444). Model choices: log 110 (the reason of HST_LINK_UP, the frames discarded and counted), log 62
(the master chosen, asCapable and the rate), log 63 (cable faults, HST_SYNC). -/
def Obligations.HostLinksAndTime : Prop :=
  ∀ (s : State) (l n k interval t2 t3 t4 : Nat) (fr : HostFrame) (pol cap : Bool) (target sender : Word) (data : List Byte) (o c : Int), l < 2 →
    let x := s.ptp l
    let up := s.linkUp l
    let st := Reg.HST_LSTAT l
    let cnt := Reg.HST_LCNT l
    let num := BitVec.ofNat 32 l
    let sends (i : Instr) (kind : Nat) (bytes : List Byte) : Prop :=
      exec i s = .next (s.setHost { s.host with sent := some ⟨l, kind, bytes⟩ })
    -- the instance has become `y`, and the disciplining one is chosen again
    let chosen (t : State) (y : Ptp) : Prop := State.Only [.host, .act, .recd] s t ∧ t.ptp l = y ∧ t.ptp (1 - l) = s.ptp (1 - l) ∧
      t.host.disc = t.bestPtp ∧ t.host.sent = s.host.sent ∧
      (t.host.disc ≠ none → t.regF Reg.HST_PTPSTAT 31 30 = 1)
    let moved (t : State) (y : Ptp) : Prop := chosen t { y with synced := s.ptpOk y } ∧
      (s.host.disc = none → t.host.disc = none → State.Logs [] s t) ∧
      (s.host.disc = none → t.host.disc ≠ none → State.Logs [s.event Ev.HST_SYNC 0 []] s t) ∧
      (s.host.disc ≠ none → t.host.disc = none → State.Logs [s.event Ev.HST_SYNC_LOST 0 []] s t)
    (s.linkEn l = false ∨ s.linkState l ≠ 0 → exec (.hstLinkUp l pol) s = .next s) ∧
    (s.linkEn l = true → s.linkState l = 0 → ∃ t, exec (.hstLinkUp l pol) s = .next t ∧ State.Only [.act, .recd] s t ∧
      State.OnlyRegs [st] s t ∧ t.linkState l = 1 ∧ t.regB st 29 = pol ∧
      State.Logs [s.event Ev.HST_LINK_UP 0 [num, BitVec.ofNat 32 (mget 0 l s.host.upReason)]] s t) ∧
    (up = false → exec (.hstLinkDown l) s = .next s) ∧
    (up = true → ∃ t more, exec (.hstLinkDown l) s = .next t ∧ chosen t Ptp.reset ∧ t.linkState l = 0 ∧ t.regB st 29 = false ∧
      mget 0 l t.host.upReason = 0 ∧
      t.regF cnt 31 16 = min (s.regF cnt 31 16 + 1) 0xFFFF ∧
      State.Logs (s.event Ev.HST_LINK_DOWN 0 [num, 0] :: more) s t) ∧
    (s.linkState l ≠ 0 ∨ s.dtb < mget 0 l s.host.nextDiag → exec (.cableDiagnostic l n k) s = .next s) ∧
    (s.linkState l = 0 → mget 0 l s.host.nextDiag ≤ s.dtb → ∃ t, exec (.cableDiagnostic l n k) s = .next t ∧
      State.Only [.host, .act, .recd] s t ∧ State.OnlyRegs [st] s t ∧ t.regF st 21 17 = n % 32 ∧
      t.regF st 15 0 = min k 0xFFFF ∧ mget 0 l t.host.nextDiag = s.dtb + 1000000000 ∧
      State.Logs (((List.range 5).filter fun b => n / 2 ^ b % 2 == 1 && s.regF st 21 17 / 2 ^ b % 2 == 0).map fun b =>
        s.event Ev.HST_CABLE_FAULT 0 [num, BitVec.ofNat 32 (17 + b), ratF k 10]) s t) ∧
    (up = false ∨ s.onSafe = true → exec (.arpRequest l fr target sender) s = .next s ∧ exec (.icmpEcho l fr target sender data) s = .next s ∧
      exec (.announce l n k interval) s = .next s ∧ exec (.syncMessage l n interval o c) s = .next s ∧
      exec (.pdelayReqSend l) s = .next s ∧ exec (.pdelayResp l t2 t3 t4 cap) s = .next s ∧
      exec (.pdelayReq l t2) s = .next s) ∧
    (up = true → s.onSafe = false →
      let mine := 64 ≤ fr.size ∧ fr.size ≤ 1518 ∧ (fr.vid = 0 ∨ fr.vid = s.regF (Reg.HST_LCFG l) 11 0) ∧ fr.kind = .plain
      let ours := target = s.reg (Reg.HST_IP l)
      let dropped (i : Instr) : Prop := ∃ t, exec i s = .next t ∧ State.Only [.act] s t ∧ State.OnlyRegs [cnt] s t ∧
        t.regF cnt 15 0 = min (s.regF cnt 15 0 + 1) 0xFFFF
      (¬ mine → dropped (.arpRequest l fr target sender) ∧ dropped (.icmpEcho l fr target sender data)) ∧
      (mine → ¬ ours → exec (.arpRequest l fr target sender) s = .next s ∧
        exec (.icmpEcho l fr target sender data) s = .next s) ∧
      (mine → ours → sends (.arpRequest l fr target sender) sentArp
          ((List.range 6).map (Config.macAddr l) ++ bytesOf 4 target.toNat ++ bytesOf 4 sender.toNat) ∧
        sends (.icmpEcho l fr target sender data) sentEcho (bytesOf 4 sender.toNat ++ data)) ∧
      (∃ t, exec (.announce l n k interval) s = .next t ∧
        moved t { x with annAt := some s.dtb, annInt := interval, prio := n, gm := k }) ∧
      (s.dtb < x.nextReq → exec (.pdelayReqSend l) s = .next s) ∧
      (x.nextReq ≤ s.dtb → ∃ t, exec (.pdelayReqSend l) s = .next t ∧ State.Only [.host] s t ∧
        t.host.sent = some ⟨l, sentPdelayReq, []⟩ ∧
        t.ptp l = { x with reqAt := some s.dtb, nextReq := s.dtb + 1000000000 } ∧ t.host.disc = s.host.disc) ∧
      (x.reqAt = none → exec (.pdelayResp l t2 t3 t4 cap) s = .next s) ∧
      (∀ t1, x.reqAt = some t1 → ∃ t, exec (.pdelayResp l t2 t3 t4 cap) s = .next t ∧
        moved t { x with reqAt := none, delay := (((t4 : Int) - t1) - ((t3 : Int) - t2)) / 2, capable := cap }) ∧
      sends (.pdelayReq l t2) sentPdelayResp (bytesOf 8 t2 ++ bytesOf 8 s.dtb) ∧
      (let run := match x.syncAt with
        | some a => if s.dtb ≤ a + 3 * interval then x.run + 1 else 1
        | none => 1
        let off : Int := (n : Int) - (o + c + x.delay)
        let step := s.regB Reg.HST_PTPCFG 31 = true ∧ s.regF Reg.HST_PTPCFG 29 0 < off.natAbs
        ∃ u t, moved u { x with syncAt := some s.dtb, syncInt := interval, run := run } ∧
          exec (.syncMessage l n interval o c) s = .next t ∧ (u.host.disc ≠ some l → t = u) ∧
          (u.host.disc = some l → t.reg Reg.HST_OFFSET = BitVec.ofInt 32 (max (-0x7FFFFFFF) (min 0x7FFFFFFF off)) ∧
            (step → t.dtb = corrected s.dtb off ∧
              ⟨Ev.HST_DTB_STEP, 0, t.dtb, t.dtb, dtbWords s.dtb ++ dtbWords t.dtb⟩ ∈ t.recd.handed) ∧
            (¬ step → t.dtb = s.dtb ∧ t.recd = u.recd ∧ t.host = u.host ∧ -250000 ≤ t.rateNow ∧ t.rateNow ≤ 250000)))) ∧
    (s.ptpOk x = true → exec (.syncTimeout l) s = .next s) ∧
    (s.ptpOk x = false → ∃ t, exec (.syncTimeout l) s = .next t ∧
      ((∃ a, x.syncAt = some a ∧ s.dtb ≤ a + 3 * x.syncInt) → moved t x) ∧
      ((∀ a, x.syncAt = some a → a + 3 * x.syncInt < s.dtb) → moved t { x with run := 0 }))

/-- The Host Access Protocol (R446 to R457). Model choices: log 110 (bytes that spell another command's request do nothing here; an
unknown TYPE is answered before the rights are asked), log 111 (a session opens with fresh banked registers), and logs 41
and 64 to 67 (the TAG, the order of the checks, sessions, loads and secrets). -/
def Obligations.HostAccessProtocol : Prop :=
  ∀ (s : State) (m : HapMsg) (cred a b : Nat) (nonce data : List Byte) (addrs key : List Word) (pairs : List (Word × Word)),
    let seq := m.seq % 2 ^ 32
    let x := s.session m.sid
    -- a datagram that reaches HAP (R434, R438), a broadcast, and an authentic message (R446)
    let runs := s.linkUp m.link = true ∧ s.onSafe = false
    let takes := 64 ≤ m.frame.size ∧ m.frame.size ≤ 1518 ∧ (m.frame.vid = 0 ∨ m.frame.vid = s.regF (Reg.HST_LCFG m.link) 11 0) ∧
      m.frame.kind = .plain
    let wide := m.dst = 0xFFFFFFFF ∨ m.dst = (s.reg (Reg.HST_IP m.link) ||| ~~~ s.reg (Reg.HST_MASK m.link))
    let up := runs ∧ takes ∧ m.dst = s.reg (Reg.HST_IP m.link) ∧ m.port = s.regF Reg.HST_UDP 15 0
    -- the bytes sent where the command's operands spell `body`; and a message that is just what they spell
    let bytes (body : List Byte) := body.take (body.length - m.cut) ++ m.extra
    let plain := m.cut = 0 ∧ m.extra = [] ∧ m.type = none
    let auth (k : List Byte) (type : Nat) (body : List Byte) : Prop := m.magic = 0x4148 ∧ m.ver = 1 ∧
      m.len = (bytes body).length ∧ m.len ≤ 1424 ∧ m.tag = hmacBytes k (hapHead m (m.type.getD type) ++ bytes body) 16
    -- the bytes of another command's request
    let another (type : Nat) (body : List Byte) : Prop := ¬ plain ∧ hapShape (m.type.getD type) (bytes body) = true
    let isOpen := mhas m.sid s.sessions
    let u := s.setSession m.sid (({ x with lastAt := s.dtb }).mark seq)
    let requests : List (Instr × Nat × List Byte) := [(.hapClose m, hapClose, []), (.ping m, hapPing, []),
      (.rd m addrs, hapRd, wordBytes addrs), (.wr m pairs, hapWr, wordBytes (pairs.flatMap fun p => [p.1, p.2])),
      (.evt m a b, hapEvt, bytesOf 1 a ++ bytesOf 3 0 ++ bytesOf 4 b), (.hapTime m, hapTime, []),
      (.hapCell m a b, hapCell, bytesOf 2 a ++ bytesOf 2 b), (.imgBegin m a b, hapImgBegin, bytesOf 2 a ++ bytesOf 2 0 ++ bytesOf 4 b),
      (.imgData m a data, hapImgData, bytesOf 4 a ++ data), (.imgEnd m, hapImgEnd, []), (.imgStatus m, hapImgStatus, []),
      (.keySet m a key, hapKeySet, bytesOf 1 a ++ bytesOf 3 0 ++ wordBytes key),
      (.credSet m cred a b data, hapCredSet, bytesOf 1 cred ++ bytesOf 1 a ++ bytesOf 2 b ++ data)]
    let valid (r : Instr × Nat × List Byte) : Prop := ¬ another r.2.1 r.2.2 ∧ isOpen = true ∧ auth x.key r.2.1 r.2.2
    let answers (i : Instr) (type code : Nat) (body : List Byte) (t : State) : Prop :=
      exec i s = .next (t.hapReply [m.link] m.sid seq type code body)
    -- a valid request of a known type under a right: refused without it, in LOCAL mode where it writes, or for a body that is not one
    -- of its type (R447), else as `more` says
    let guarded (i : Instr) (type : Nat) (right writes : Bool) (more : Prop) : Prop := (∃ r ∈ requests, r.1 = i ∧ valid r) → m.type = none →
      (right = false → answers i type 4 [] u) ∧
      (right = true → writes = true → s.localMode = true → x.rights / 8 % 2 = 0 → answers i type 3 [] u) ∧
      (right = true → writes = false ∨ s.localMode = false ∨ x.rights / 8 % 2 = 1 →
        (¬ plain → answers i type 2 [] u) ∧ (plain → more))
    -- values that wait for the commit of a set, with the request
    let awaits (i : Instr) (set type code : Nat) (body : List Word) : Prop := ∃ t, exec i s = .next t ∧
      t.host.waits = s.host.waits ++ [⟨set, m.sid, seq, [m.link], type, code, body, false⟩] ∧ t.host.sent = s.host.sent ∧
      t.recd.handed = s.recd.handed ∧ ((t.nvSet set).requested = true ∨ (t.nvSet set).pending = true)
    (¬ up → (∀ i ∈ Instr.hapOpen m cred nonce :: requests.map Prod.fst, exec i s = .next
      (if runs ∧ (¬ takes ∨ wide) then s.dropFrame m.link else s))) ∧
    (up → ∀ r ∈ requests, (another r.2.1 r.2.2 → exec r.1 s = .next s) ∧
      (¬ another r.2.1 r.2.2 → ¬ valid r → exec r.1 s = .next (s.hapDiscard m)) ∧
      (valid r →
        let seen := s.setSession m.sid { x with lastAt := s.dtb }
        let found := x.cache.find? fun e => e.1 == seq
        (∀ b, found = some (seq, some b) → x.takes seq = false → exec r.1 s = .next (seen.hapSend m.link b)) ∧
        (found = some (seq, none) → x.takes seq = false → exec r.1 s = .next (seen.hapJoin m.link m.sid seq)) ∧
        (found = none → x.takes seq = false → exec r.1 s = .next seen) ∧
        (∀ n, found = none → x.takes seq = true → m.type = some n → answers r.1 n 2 [] u))) ∧
    (up → x.cache.find? (fun e => e.1 == seq) = none → x.takes seq = true →
      (valid (.hapClose m, hapClose, []) → plain →
        exec (.hapClose m) s = .next ((u.hapReply [m.link] m.sid seq hapClose 0 []).closeSession m.sid 0)) ∧
      (valid (.hapClose m, hapClose, []) → m.type = none → ¬ plain → answers (.hapClose m) hapClose 2 [] u) ∧
      guarded (.ping m) hapPing x.canRead false
        (answers (.ping m) hapPing 0 (bytesOf 8 s.dtb ++ bytesOf 4 (s.reg Reg.HST_PTPSTAT).toNat) u) ∧
      guarded (.rd m addrs) hapRd x.canRead false (
        (addrs = [] ∨ 256 < addrs.length → answers (.rd m addrs) hapRd 2 [] u) ∧
        (addrs ≠ [] → addrs.length ≤ 256 →
          let r := State.hapReads (.session m.sid) addrs [] u
          answers (.rd m addrs) hapRd (if r.2.1 then 0 else 1)
            (bytesOf 2 r.1.length ++ bytesOf 2 0 ++ wordBytes r.1.reverse) r.2.2)) ∧
      guarded (.wr m pairs) hapWr x.canWrite true (
        (pairs = [] ∨ 128 < pairs.length → answers (.wr m pairs) hapWr 2 [] u) ∧
        (pairs ≠ [] → pairs.length ≤ 128 →
          let r := State.hapWrites (.session m.sid) pairs 0 u
          answers (.wr m pairs) hapWr (if r.2.1 then 0 else 1) (bytesOf 2 r.1 ++ bytesOf 2 0) r.2.2)) ∧
      guarded (.evt m a b) hapEvt x.canRead false (
        (3 < a → answers (.evt m a b) hapEvt 2 [] u) ∧
        (a ≤ 3 →
          let r := u.runFill 1344 x.cell a (b % 2 ^ 32)
          answers (.evt m a b) hapEvt 0 (bytesOf 4 (r.more.toNat + 2 * r.gap.toNat) ++ bytesOf 4 r.recs.length ++
            bytesOf 4 r.next ++ wordBytes (r.recs.flatMap LogRec.words)) u)) ∧
      guarded (.hapTime m) hapTime x.canRead false (answers (.hapTime m) hapTime 0
        (bytesOf 8 s.dtb ++ bytesOf 8 (s.rtc.ticks / 65536) ++ bytesOf 4 (s.rtc.ticks % 65536) ++
          bytesOf 4 (s.reg Reg.HST_OFFSET).toNat ++ bytesOf 4 (s.reg Reg.HST_PTPSTAT).toNat) u) ∧
      guarded (.hapCell m a b) hapCell (x.canWrite && x.cell == 0) true (
        (1024 ≤ a → answers (.hapCell m a b) hapCell 2 [] u) ∧
        (a < 1024 → b % 16 = 2 ∨ b % 16 = 3 → answers (.hapCell m a b) hapCell 0 (bytesOf 4 cresNoperm) u) ∧
        (a < 1024 → b % 16 ≠ 2 → b % 16 ≠ 3 → answers (.hapCell m a b) hapCell 0 (bytesOf 4 (u.cellCommand 0 a (b % 16)).1) (u.cellCommand 0 a (b % 16)).2)) ∧
      guarded (.imgBegin m a b) hapImgBegin x.canWrite true (
        (1024 ≤ a ∨ b < 128 ∨ 33554432 < b → answers (.imgBegin m a b) hapImgBegin 2 [] u) ∧
        (a < 1024 → 128 ≤ b → b ≤ 33554432 →
          let busy := (s.cell a).loading ≠ none ∨ ∃ d ∈ u.receivings, d.cell = a
          (x.cell ≠ 0 → x.cell ≠ a → answers (.imgBegin m a b) hapImgBegin 1 [] u) ∧
          (x.cell = 0 ∨ x.cell = a →
            (busy → answers (.imgBegin m a b) hapImgBegin 5 [] u) ∧
            (¬ busy → x.receiving ≠ none → answers (.imgBegin m a b) hapImgBegin 6 [] u) ∧
            (¬ busy → x.receiving = none → 33554432 < u.areaUsed + b → answers (.imgBegin m a b) hapImgBegin 7 [] u) ∧
            (¬ busy → x.receiving = none → u.areaUsed + b ≤ 33554432 → answers (.imgBegin m a b) hapImgBegin 0 []
              (u.setLoad m.sid (some ⟨a, b, [], [], 1, 0, s.dtb⟩)))))) ∧
      guarded (.imgData m a data) hapImgData x.canWrite true (
        (data = [] ∨ 1024 < data.length → answers (.imgData m a data) hapImgData 2 [] u) ∧
        (data ≠ [] → data.length ≤ 1024 →
          (x.receiving = none → answers (.imgData m a data) hapImgData 6 [] u) ∧
          ∀ d, x.receiving = some d →
            (d.total < a + data.length → answers (.imgData m a data) hapImgData 2 [] u) ∧
            (a + data.length ≤ d.total → answers (.imgData m a data) hapImgData 0 [] (u.setLoad m.sid (some { d with
              bytes := msetList 0 a data d.bytes, written := addRange a (a + data.length) d.written, lastData := s.dtb })
                |>.askInternal (.image m.sid))))) ∧
      guarded (.imgEnd m) hapImgEnd x.canWrite true (
        (x.receiving = none → answers (.imgEnd m) hapImgEnd 6 [] u) ∧
        ∀ d, x.receiving = some d →
          (d.written ≠ [(0, d.total)] → answers (.imgEnd m) hapImgEnd 2 [] u) ∧
          (d.written = [(0, d.total)] → answers (.imgEnd m) hapImgEnd 0 [] (u.handImage m.sid d))) ∧
      guarded (.imgStatus m) hapImgStatus x.canRead false (
        (x.load = none → answers (.imgStatus m) hapImgStatus 0 (bytesOf 4 0 ++ bytesOf 4 0) u) ∧
        ∀ d, x.load = some d → answers (.imgStatus m) hapImgStatus 0 (bytesOf 4 d.state ++ bytesOf 4 d.result) u) ∧
      guarded (.keySet m a key) hapKeySet x.admin true (
        (16 ≤ a ∨ key.length ≠ 8 → answers (.keySet m a key) hapKeySet 2 [] u) ∧
        (a < 16 → key.length = 8 →
          (s.keyEmpty a = false → s.localMode = false → answers (.keySet m a key) hapKeySet 3 [] u) ∧
          (s.keyEmpty a = true ∨ s.localMode = true →
            awaits (.keySet m a key) 8 hapKeySet Ev.HAP_KEY_SET [BitVec.ofNat 32 a, key.headD 0]))) ∧
      guarded (.credSet m cred a b data) hapCredSet x.admin true (
        (credOk cred a b data = false → answers (.credSet m cred a b data) hapCredSet 2 [] u) ∧
        (credOk cred a b data = true →
          (s.credNeedsLocal cred a b = true → s.localMode = false → answers (.credSet m cred a b data) hapCredSet 3 [] u) ∧
          (s.credNeedsLocal cred a b = false ∨ s.localMode = true → awaits (.credSet m cred a b data) 9 hapCredSet
            Ev.HAP_CRED_SET [BitVec.ofNat 32 cred, BitVec.ofNat 32 b, BitVec.ofNat 32 a])))) ∧
    (up →
      let body := bytesOf 1 cred ++ nonce
      let ok := (bytes body).take 1 = bytesOf 1 cred ∧ auth (s.secret cred) hapOpen body
      let replies (n : Nat) : Prop := exec (.hapOpen m cred nonce) s =
        .next (s.hapSend m.link (hapBytes (s.secret cred) hapOpen 0 seq n []))
      -- another command's bytes, and an unknown TYPE: a request of a session
      (another hapOpen body → exec (.hapOpen m cred nonce) s = .next s) ∧
      (∀ n, m.type = some n → ¬ another hapOpen body →
        (¬ (isOpen = true ∧ auth x.key hapOpen body) → exec (.hapOpen m cred nonce) s = .next (s.hapDiscard m)) ∧
        (isOpen = true → auth x.key hapOpen body → x.cache.find? (fun e => e.1 == seq) = none → x.takes seq = true →
          answers (.hapOpen m cred nonce) n 2 [] u)) ∧
      (m.type = none → ¬ another hapOpen body →
      (64 ≤ cred ∨ (mhas cred s.host.blocked = true ∧ ¬ ok) → exec (.hapOpen m cred nonce) s = .next (s.hapDiscard m)) ∧
      (cred < 64 →
        (mhas cred s.host.blocked = true → ok → exec (.hapOpen m cred nonce) s = .next s) ∧
        (mhas cred s.host.blocked = false →
          (¬ ok → exec (.hapOpen m cred nonce) s = .next ((s.hapDiscard m).openFailed cred)) ∧
          (ok → s.credEmpty cred = true → exec (.hapOpen m cred nonce) s = .next (s.openFailed cred)) ∧
          (ok → s.credEmpty cred = false →
            (¬ plain → replies 2) ∧
            (plain → 64 ≤ s.sessions.length → replies 7) ∧
            (plain → s.sessions.length < 64 → ∃ t sid, exec (.hapOpen m cred nonce) s = .next t ∧
              State.Only [.sessions, .recd, .host, .drawn, .act] s t ∧ mhas sid t.sessions = true ∧
              (t.session sid).cell = s.regF (Reg.HST_CRED cred) 9 0 ∧ (t.session sid).rights = s.regF (Reg.HST_CRED cred) 13 10 ∧
              (t.session sid).high = none ∧ State.Logs [s.event Ev.HAP_OPEN (s.regF (Reg.HST_CRED cred) 9 0)
                [BitVec.ofNat 32 cred, BitVec.ofNat 32 (s.regF (Reg.HST_CRED cred) 9 0), BitVec.ofNat 32 m.link, m.src]] s t)))))) ∧
    (let ends := mhas cred s.host.blocked = true ∧ mget 0 cred s.host.blocked ≤ s.dtb;
      (¬ ends → exec (.credBlockEnd cred) s = .next s) ∧
      (ends → exec (.credBlockEnd cred) s = .next (s.setHost { s.host with blocked := mdel cred s.host.blocked }))) ∧
    (let idle := mhas a s.sessions = true ∧ (s.session a).lastAt + s.regF Reg.HST_HAPCFG 31 16 * 1000000000 ≤ s.dtb;
      (¬ idle → exec (.hapIdleTimeout a) s = .next s) ∧ (idle → exec (.hapIdleTimeout a) s = .next (s.closeSession a 1))) ∧
    ((s.session a).receiving = none ∨ mhas a s.sessions = false → exec (.imgLoadTimeout a) s = .next s) ∧
    (∀ d, (s.session a).receiving = some d → mhas a s.sessions = true → exec (.imgLoadTimeout a) s =
      .next (if d.lastData + 120000000000 ≤ s.dtb then s.setLoad a none else s))

/-- The service tag (R459 to R464). Model choices: log 41 (the tag's identity), log 56 (the error 0x10), log 68 (what commissioning
takes), log 70 (a field lost with a block held, the place in the status ring). -/
def Obligations.ServiceTag : Prop :=
  ∀ (s : State) (w : Who) (b n : Nat) (data : List Byte) (v : Word) (bad : Bool),
    let x := s.svcTag
    let st := Reg.TAG_STAT
    let sends (i : Instr) (bytes : List Byte) : Prop :=
      exec i s = .next (s.setHost { s.host with sent := some ⟨2, sentTag, bytes⟩ })
    let error (i : Instr) (code : Byte) : Prop := sends i [1, code]
    let read (k m : Nat) : List Byte := 0 :: (List.range (16 * m)).map fun i => mget 0 (16 * k + i) x.mem
    let only (t : State) : Prop := State.Only [.svcTag, .act, .host, .recd] s t
    -- block `k` committed with `d`, every other byte kept
    let commits (t : State) (k : Nat) (d : List Byte) : Prop := ∀ i, mget 0 i t.svcTag.mem =
      if 16 * k ≤ i ∧ i < 16 * k + (d.take 16).length then d.getD (i - 16 * k) 0 else mget 0 i x.mem
    sends .inventory (0 :: Config.tagInventory) ∧ sends .getSystemInformation (0 :: Config.tagSystem) ∧
    (b < 512 → sends (.extendedReadSingleBlock b) (read b 1)) ∧ (512 ≤ b → error (.extendedReadSingleBlock b) 0x10) ∧
    (n ≤ 16 → b + n ≤ 512 → sends (.extendedReadMultipleBlocks b n) (read b n)) ∧
    (16 < n ∨ 512 < b + n → error (.extendedReadMultipleBlocks b n) 0x10) ∧
    (512 ≤ b → error (.extendedWriteSingleBlock b data) 0x10) ∧ (b < 64 → error (.extendedWriteSingleBlock b data) 0x12) ∧
    (64 ≤ b → b < 512 → x.hold ≠ none → exec (.extendedWriteSingleBlock b data) s = .next s) ∧
    (64 ≤ b → b < 512 → x.hold = none → ∃ t, exec (.extendedWriteSingleBlock b data) s = .next t ∧ only t ∧
      State.OnlyRegs [st] s t ∧ t.svcTag = { x with hold := some (b, data, s.dtb) } ∧ t.regB st 30 = true ∧
      t.regF st 24 16 = b) ∧
    (x.hold = none → exec .fieldWriteCommit s = .next s) ∧
    (∀ h, x.hold = some h → (∃ r, x.wired = some r ∧ r.1 = h.1) → exec .fieldWriteCommit s = .next s) ∧
    (∀ h, x.hold = some h → (∀ r, x.wired = some r → r.1 ≠ h.1) → ∃ t, exec .fieldWriteCommit s = .next t ∧ only t ∧
      commits t h.1 h.2.1 ∧ t.svcTag.hold = none ∧ t.regB st 30 = false ∧ t.reg Reg.TAG_FCNT = s.reg Reg.TAG_FCNT + 1 ∧
      t.regB st (if h.1 < 80 then 0 else 1) = true ∧ t.host.sent = some ⟨2, sentTag, [0]⟩) ∧
    (x.hold = none ∨ bad = true → exec (.readerField bad) s = .next (s.setRegB st 31 bad)) ∧
    (∀ h, x.hold = some h → ∃ t, exec (.readerField false) s = .next t ∧ State.Only [.svcTag, .act, .drawn] s t ∧
      t.svcTag.hold = none ∧ t.regB st 31 = false ∧ t.regB st 30 = false ∧ (t.svcTag.mem = x.mem ∨ commits t h.1 h.2.1)) ∧
    (let k := fld v 8 0
      let mine := ∃ h, x.hold = some h ∧ h.1 = k
      let result (code : Nat) (t : State) : Prop := t.regF Reg.TAG_WRES 31 28 = code
      s.granted w Reg.TAG_WCMD = true →
      (bitAt v 31 = false → exec (.tagWcmd w v) s = .next s) ∧
      (bitAt v 31 = true →
        (k < 80 → ∃ t, exec (.tagWcmd w v) s = .next t ∧ State.Only [.act] s t ∧ State.OnlyRegs [Reg.TAG_WRES] s t ∧
          result 4 t) ∧
        (80 ≤ k → x.wired ≠ none ∨ mine → ∃ t, exec (.tagWcmd w v) s = .next t ∧ State.Only [.act] s t ∧
          State.OnlyRegs [Reg.TAG_WRES] s t ∧ result 3 t) ∧
        (80 ≤ k → x.wired = none → ¬ mine → ∃ t, exec (.tagWcmd w v) s = .next t ∧ only t ∧
          State.OnlyRegs [Reg.TAG_WRES] s t ∧ result 2 t ∧ t.svcTag = { x with
            wired := some (k, wordBytes ((List.range 4).map fun i => s.reg (Reg.TAG_WBUF i)), s.dtb) }))) ∧
    (x.wired = none → exec .wiredCommitComplete s = .next s) ∧
    (∀ r, x.wired = some r → ∃ t, exec .wiredCommitComplete s = .next t ∧ only t ∧ State.OnlyRegs [Reg.TAG_WRES] s t ∧
      commits t r.1 r.2.1 ∧ t.svcTag.wired = none ∧ t.svcTag.hold = x.hold ∧ t.regF Reg.TAG_WRES 31 28 = 1) ∧
    (s.dtb < x.nextStatus → exec .tagStatusWrite s = .next s) ∧
    (x.nextStatus ≤ s.dtb → ∃ t, exec .tagStatusWrite s = .next t ∧ State.Only [.svcTag] s t ∧
      t.svcTag.nextStatus = s.dtb + 10000000000 ∧ t.svcTag.heads = x.heads + s.newHeads.length ∧
      (∀ i, i < 16 → mget 0 (256 + i) t.svcTag.mem = (wordBytes [s.reg Reg.REC_PCC, s.reg Reg.REC_HOURS,
        BitVec.ofNat 32 s.recd.startFlags, BitVec.ofNat 32 (s.regF Reg.PWR_STAT 19 17)]).getD i 0) ∧
      (∀ i, i < 256 ∨ 1024 ≤ i → mget 0 i t.svcTag.mem = mget 0 i x.mem) ∧
      (∀ j (r : LogRec), s.newHeads[j]? = some r → s.newHeads.length ≤ j + 47 → ∀ i, i < 16 →
        mget 0 (16 * (17 + (x.heads + j) % 47) + i) t.svcTag.mem = (wordBytes (r.record.headWords.take 4)).getD i 0) ∧
      t.svcTag.headPos = (s.newHeads.getLast?.map LogRec.stop).getD x.headPos) ∧
    (∀ r, r ∈ s.newHeads ↔ r ∈ s.recd.log ∧ r.record.code < 0xC00 ∧ x.headPos < r.stop) ∧
    (s.dtb < x.nextCheck → exec (.tagAntCheck bad) s = .next s) ∧
    (x.nextCheck ≤ s.dtb → ∃ t, exec (.tagAntCheck bad) s = .next t ∧ only t ∧ State.OnlyRegs [st] s t ∧
      t.svcTag = { x with nextCheck := s.dtb + 10000000000 } ∧ t.regB st 28 = bad ∧
      State.Logs (if bad && !s.regB st 28 then [s.event Ev.TAG_ANT_FAULT 0 []] else []) s t) ∧
    (let held := ∃ h, x.hold = some h ∧ 64 ≤ h.1 ∧ h.1 < 80
      let box := (List.range 256).map fun i => mget 0 (1024 + i) x.mem
      let read0 := s.setTagSt { x with mbxDue := false }
      let crcOk := crc32 (box.take 252) = BitVec.ofNat 32 (ofBytes (box.drop 252))
      (x.mbxDue = false ∨ held → exec .tagCommission s = .next s) ∧
      (x.mbxDue = true → ¬ held →
        (ofBytes (box.take 4) ≠ 0x42584D43 → exec .tagCommission s = .next read0) ∧
        (ofBytes (box.take 4) = 0x42584D43 → ¬ crcOk → exec .tagCommission s = .next (read0.setRegB st 2 true)) ∧
        (ofBytes (box.take 4) = 0x42584D43 → crcOk → ∃ t, exec .tagCommission s = .next t ∧ t.svcTag.mbxDue = false ∧
          (∀ i, i < 256 → mget 0 (1024 + i) t.svcTag.mem = 0) ∧
          (∀ i, i < 1024 ∨ 1280 ≤ i → mget 0 i t.svcTag.mem = mget 0 i x.mem) ∧
          ∃ f : Nat, (t.recd.handed.getLast?) = some (s.event Ev.TAG_COMMISSION 0 [BitVec.ofNat 32 f]) ∧
            (let secret := (box.drop 4).take 32;
              ((∀ y ∈ secret, y = 0) → f % 2 = 0) ∧
              ((∃ y ∈ secret, y ≠ 0) → s.credEmpty 0 = true ∨ s.localMode = true → f % 2 = 1 ∧ ∀ i, i < 8 →
                t.reg (hiddenKey 9 i) = (wordsOf secret).getD i 0) ∧
              ((∃ y ∈ secret, y ≠ 0) → s.credEmpty 0 = false → s.localMode = false → f % 2 = 0 ∧ f / 4 % 2 = 1)) ∧
            (let words := wordsOf ((box.drop 36).take 24);
              ((∀ y ∈ words, y = 0) → f / 2 % 2 = 0) ∧
              (f / 2 % 2 = 1 → t.isPending hstPage = true ∧ ∀ j, j < 6 → words.getD j 0 ≠ 0 →
                t.shadow (mailboxRegs.getD j 0) = words.getD j 0)))))

/-- The front face, and commands of the trace buffers (R142, R144, R465 to R467). Model choices: log 56 (the bodies of FACE_LOCAL and
FACE_KEY_STUCK are empty), log 93 (a trigger while T1 is shed), log 94 (a CLEAR discards the waiting entries and an owed GAP). -/
def Obligations.FrontFaceAndTraces : Prop :=
  ∀ (s : State) (w : Who) (k n : Nat) (v : Word),
    let fk := Reg.HST_FKEY
    let al := Reg.HST_ALARM
    let f := s.face
    -- key `j` is stuck where it has not been up for 100 ms
    let stuck (j : Nat) : Bool := s.regB fk (8 + j) && !(!s.regB fk (4 + j) && decide (mget 0 j f.upAt + 100000000 ≤ s.dtb))
    let count (t : State) (j : Nat) : Nat := t.regF Reg.HST_FKCNT (8 * j + 7) (8 * j)
    let pressed (i : Instr) (j : Nat) (more : State → Prop) : Prop := ∃ t, exec i s = .next t ∧
      State.Only [.face, .act, .recd] s t ∧ t.regB fk (4 + j) = true ∧ mget 0 j t.face.downAt = s.dtb ∧
      (stuck j = true → t.recd = s.recd ∧ count t j = count s j ∧ t.face.localAt = f.localAt ∧ t.face.testAt = f.testAt ∧
        t.reg al = s.reg al) ∧
      (stuck j = false → t.regB fk j = true ∧ count t j = (count s j + 1) % 256 ∧ t.face.lastPress = s.dtb ∧ more t ∧
        State.Logs [s.event Ev.FACE_KEY 0 [BitVec.ofNat 32 j, BitVec.ofNat 32 s.localMode.toNat]] s t)
    let same (t : State) : Prop := t.face.localAt = f.localAt ∧ t.face.testAt = f.testAt
    let goesLocal (i : Instr) (on : Bool) : Prop := ∃ t, exec i s = .next t ∧ State.Only [.face, .act, .recd, .svcTag] s t ∧
      t.localMode = on ∧ State.OnlyRegs [fk] s t ∧ State.Logs [s.event Ev.FACE_LOCAL 0 []] s t ∧
      (on = true → t.svcTag = { s.svcTag with mbxDue := true }) ∧ (on = false → t.svcTag = s.svcTag)
    pressed .ack 0 (fun t => same t ∧ t.regB al 1 = false) ∧ pressed .silence 1 (fun t => same t ∧ t.reg al = s.reg al) ∧
    pressed .localI 2 (fun t => t.face.localAt = some s.dtb ∧ t.face.testAt = f.testAt ∧ t.reg al = s.reg al) ∧
    pressed .test 3 (fun t => t.face.testAt = some s.dtb ∧ t.face.localAt = f.localAt ∧ t.reg al = s.reg al) ∧
    ((∀ u, f.localAt = some u → s.dtb < u + 2000000000) → exec .faceLocal s = .next s) ∧
    (∀ u, f.localAt = some u → u + 2000000000 ≤ s.dtb → goesLocal .faceLocal (!s.localMode)) ∧
    (let past := s.localMode = true ∧ f.lastPress + s.regF Reg.HST_HAPCFG 7 0 * 60000000000 ≤ s.dtb;
      (¬ past → exec .localTimeout s = .next s) ∧ (past → goesLocal .localTimeout false)) ∧
    (let sticks := k < 4 ∧ s.regB fk (4 + k) = true ∧ s.regB fk (8 + k) = false ∧ mget 0 k f.downAt + 30000000000 < s.dtb;
      (¬ sticks → exec (.faceKeyStuck k) s = .next s) ∧
      (sticks → exec (.faceKeyStuck k) s = .next ((s.setRegB fk (8 + k) true).emit Ev.FACE_KEY_STUCK 0 []))) ∧
    (4 ≤ k → exec (.keyReleased k) s = .next s) ∧
    (k < 4 → s.regB fk (4 + k) = true → ∃ t, exec (.keyReleased k) s = .next t ∧ State.Only [.face, .act] s t ∧
      State.OnlyRegs [fk] s t ∧ t.regB fk (4 + k) = false ∧ mget 0 k t.face.upAt = s.dtb ∧
      t.face.localAt = (if k = 2 then none else f.localAt)) ∧
    (k < 4 → s.regB fk (4 + k) = false → exec (.keyReleased k) s = .next (if s.regB fk (8 + k) = true ∧
      mget 0 k f.upAt + 100000000 ≤ s.dtb then s.setRegB fk (8 + k) false else s)) ∧
    ((∀ u, f.testAt = some u → s.dtb < u + 3000000000) → exec .ledTestEnd s = .next s) ∧
    (∀ u, f.testAt = some u → u + 3000000000 ≤ s.dtb → exec .ledTestEnd s =
      .next (s.setFace { f with testAt := none })) ∧
    (s.granted w Reg.HST_ALARM = true → ∃ t, exec (.alarmWrite w v) s = .next t ∧ State.Only [.act] s t ∧ State.OnlyRegs [al] s t ∧ t.regB al 0 = bitAt v 0 ∧
      t.regB al 1 = ((bitAt v 0 && !s.regB al 0) || (s.regB al 1 && !bitAt v 2))) ∧
    (n < 16 → s.granted w (Reg.TRC_CTL n) = true →
      let st := Reg.TRC_STAT n
      let post := s.regF (Reg.TRC_CFG n) 14 0
      let triggers := s.trcMode n = 3 ∧ s.regB st 19 = false ∧ s.trcCapturing n = true
      (¬ triggers → exec (.trcTrig w n) s = .next s) ∧
      (triggers → ∃ t, exec (.trcTrig w n) s = .next t ∧ State.Only [.traces, .act] s t ∧ t.regB st 19 = true ∧
        t.regF (Reg.TRC_TIDX n) 13 0 = s.trcWidx n ∧ t.trace n = { s.trace n with post := some post } ∧
        t.regB st 20 = (if post = 0 then true else s.regB st 20)) ∧
      ∃ t, exec (.trcClear w n) s = .next t ∧ State.Only [.traces, .act] s t ∧ t.trcWidx n = 0 ∧
        t.reg (Reg.TRC_TIDX n) = 0 ∧ t.reg (Reg.TRC_LOST n) = 0 ∧ t.regF st 20 17 = (if t.trcCapturing n then 2 else 0) ∧
        t.regF st 23 22 = 0 ∧ t.trace n = { s.trace n with waiting := [], post := none, captured := 0, gap := false })

/-- Tiers and their demands (R485 to R495). Model choices: log 57 (PWR_BROWNOUT outside a dip, the thermal demand's fall), log 58 (the
samples raise the voltage demand, one tier a sample), log 30 (T4 and its pairs), log 93 (traces under T1). -/
def Obligations.TiersAndDemands : Prop :=
  ∀ (s : State) (w : Who) (v : Word) (a b : List Nat) (tb tj : Int),
    let st := Reg.PWR_STAT
    let p := s.pwr
    let only (t : State) : Prop := State.Only [.pwr, .act, .recd] s t
    let vin := vins a b
    let last (l : List Nat) : Nat := l.getLastD 0
    -- three samples running below a threshold, and the tiers whose thresholds samples have crossed
    let below (th : Nat) (v : List Nat) : Bool :=
      (List.range (v.length - 2)).any fun i => [0, 1, 2].all fun j => decide (v.getD (i + j) 0 < th)
    let depth (v : List Nat) : Nat := ([1620, 1560, 1500, 1450, 1400].filter fun th => below th v).length
    let three := vin.drop (vin.length - 3)
    let all := p.hist ++ vin
    -- the samples since the last command, 10 µs apart, the newest now
    let at' (i : Nat) : Nat := s.dtb - 10000 * (vin.length - 1 - i)
    let low := vin.foldl min p.dipMin
    let lowAt := if low < p.dipMin then at' (vin.idxOf low) else p.dipMinAt
    let lastLow := (List.range vin.length).foldl (fun x i => if vin.getD i 0 ≤ 1850 then at' i else x) p.lastLow
    let demV := if s.inDip then max s.demV (depth all) else s.demV
    let other := max s.demT s.demF
    let ins := Reg.PWR_INSTAT
    -- each input shows its newest sample, 0 where reversed, its flags, and CARRY
    let shown (t : State) : Prop := ∀ i, i < 2 → t.regF (ins i) 15 1 = s.regF (ins i) 15 1 ∧
      ((if i = 0 then a else b) = [] ∨ s.inFlag i 3 = true → t.inVolt i = s.inVolt i) ∧
      ((if i = 0 then a else b) ≠ [] → s.inFlag i 3 = false → t.inVolt i = min 0xFFFF (last (if i = 0 then a else b))) ∧
      t.inFlag i 0 = (t.inGood i && (!t.inGood (1 - i) || decide (t.inVolt (1 - i) ≤ t.inVolt i)))
    p.deepest ≤ 5 → (p.deepest = 5 → p.down ≠ none) →
    -- dips
    (s.inDip = true ∨ below 1750 three = false ∨ p.down ≠ none → exec (.dipBegin a b) s = .next s) ∧
    (s.inDip = false → below 1750 three = true → p.down = none → ∃ t, exec (.dipBegin a b) s = .next t ∧
      State.Only [.pwr, .act] s t ∧ State.OnlyRegs [st, ins 0, ins 1] s t ∧ shown t ∧ t.inDip = true ∧ t.demV = max p.deepest (depth three) ∧
      t.regB st 15 = false ∧ t.pwr.testAt = none ∧ t.pwr.dipStart = s.dtb ∧ t.pwr.dipMinAt = s.dtb ∧
      t.pwr.dipMin = last vin ∧ t.pwr.minA = last a ∧ t.pwr.minB = last b ∧ t.pwr.lastLow = s.dtb ∧ t.pwr.hist = three.drop 1 ∧
      t.pwr.dipDeep = p.deepest ∧ t.pwr.deepest = p.deepest ∧ t.pwr.dipThermal = (s.demT != 0) ∧
      t.pwr.dipForced = (s.demF != 0)) ∧
    (s.inDip = false ∨ p.down ≠ none → exec (.pwrDip a b) s = .next s) ∧
    (s.inDip = true → p.down = none → s.dtb < lastLow + 50010000 → ∃ t, exec (.pwrDip a b) s = .next t ∧
      State.Only [.pwr, .act] s t ∧ State.OnlyRegs [st, ins 0, ins 1] s t ∧ shown t ∧ t.inDip = true ∧ t.demV = demV ∧
      (p.deepest ≤ max demV other → t.regB st 15 = false) ∧ t.pwr.hist = all.drop (all.length - 2) ∧
      t.pwr.dipMin = low ∧ t.pwr.dipMinAt = lowAt ∧ t.pwr.lastLow = lastLow) ∧
    (s.inDip = true → p.down = none → lastLow + 50010000 ≤ s.dtb →
      let us := (s.dtb - p.dipStart) / 1000
      ∃ t, exec (.pwrDip a b) s = .next t ∧ only t ∧
        State.OnlyRegs [st, ins 0, ins 1, Reg.PWR_DIPV, Reg.PWR_DIPT, Reg.PWR_DIPCNT] s t ∧ shown t ∧ t.inDip = false ∧ t.demV = 0 ∧
        t.regB st 2 = true ∧ t.reg Reg.PWR_DIPV = voltF low ∧
        t.reg Reg.PWR_DIPT = BitVec.ofNat 32 (min 0xFFFF (us / 1000) * 0x10000 + p.dipDeep) ∧
        (t.reg Reg.PWR_DIPCNT).toNat = min 0xFFFFFFFF ((s.reg Reg.PWR_DIPCNT).toNat + 1) ∧
        State.Logs [s.event Ev.PWR_DIP 0 ([voltF low] ++ dtbWords lowAt ++ dtbWords p.dipStart ++
          [BitVec.ofNat 32 us, BitVec.ofNat 32 p.dipDeep, voltF (a.foldl min p.minA : Nat), voltF (b.foldl min p.minB : Nat),
            BitVec.ofNat 32 ((p.dipThermal || s.demT != 0).toNat + 2 * (p.dipForced || s.demF != 0).toNat)])] s t) ∧
    -- tiers
    (let n := p.deepest + 1
      let now : Int := ((s.dtb : Int) - p.sampleAt) / 10000
      let asked := n ≤ max demV other ∧ p.tierAt ≠ some now
      let due := p.down = none ∧ s.ctl.por = none ∧ asked
      let sampled (t : State) : Prop := State.Only [.pwr, .act] s t ∧ State.OnlyRegs [st, ins 0, ins 1] s t ∧ shown t ∧ t.demV = demV;
      (p.down ≠ none ∨ s.ctl.por ≠ none → exec (.tierTakeEffect a b) s = .next s) ∧
      (p.down = none → s.ctl.por = none → ¬ asked → ∃ t, exec (.tierTakeEffect a b) s = .next t ∧ sampled t ∧
        t.pwr.deepest = p.deepest ∧ t.pwr.tierAt = p.tierAt) ∧
      (due → ∃ u, exec (.tierTakeEffect a b) s = .next (u.shedTier n) ∧ sampled u ∧ u.pwr.deepest = n ∧
        u.pwr.tierAt = some now ∧
        u.regF st 31 29 = n ∧ u.regF st 19 17 = max (s.regF st 19 17) n ∧ u.regB st 15 = false ∧
        (n = 1 → (u.shedTier 1).regB Reg.TAG_STAT 29 = false ∧ (u.shedTier 1).regB Reg.LAT_GSTAT 31 = true ∧
          ∀ k, k < 16 → (u.shedTier 1).regB (Reg.TRC_STAT k) 21 = true) ∧
        (n = 5 →
          let t := u.shedTier 5
          let why := if demV < 5 ∧ s.demT = 5 then 1 else if s.inFlag 0 2 = true ∧ s.inFlag 1 2 = true then 2 else 0
          t.pwr.down = some why ∧ t.pwr.thermalHold = (why == 1) ∧ t.regF Reg.CTL_ISTAT 31 28 = 1 ∧
          (∃ r, t.ctl.run = some r ∧ r.scope = 0 ∧ r.cause = (if why = 1 then 2 else 1) ∧ r.asserted = false ∧
            r.flushed = false) ∧
          (s.ctl.island = none → t.ctl.island = some ⟨0, s.dtb, [1, 2, 3, 4], [], [4, 5, 6], false, [], false⟩) ∧
          (s.ctl.run = none → ∃ m start, State.Logs [s.event Ev.PWR_BROWNOUT 0 (m :: dtbWords start ++
            [5, BitVec.ofNat 32 why])] s t ∧ (s.inDip = true → m = voltF low ∧ start = p.dipStart))))) ∧
    (let n := p.deepest
      let dem := max s.demV other
      let due := p.down = none ∧ dem < n ∧ (s.regB st 15 = true → p.nextRestore ≤ s.dtb);
      (¬ due → exec .tierRestore s = .next s) ∧
      (due → ∃ u, exec .tierRestore s = .next (u.returnTier n) ∧ State.Only [.pwr, .act, .pairs] s u ∧
        State.OnlyRegs [st] s u ∧ (n ≠ 4 → State.Only [.pwr, .act] s u) ∧
        (n = 4 → ∀ k ∈ allPairs, (s.pair k).state = pairActive → s.pairCode k = pairSpare → (u.pair k).check = true) ∧
        u.pwr.deepest = n - 1 ∧ u.pwr.nextRestore = s.dtb + 10000000 ∧ u.regF st 31 29 = n - 1 ∧
        u.regB st 15 = decide (dem < n - 1) ∧
        (n = 1 → (u.returnTier 1).regB Reg.TAG_STAT 29 = true ∧ (u.returnTier 1).regB Reg.LAT_GSTAT 31 = false ∧
          ∀ k, k < 16 → (u.returnTier 1).regB (Reg.TRC_STAT k) 21 = false))) ∧
    -- the thermal demand
    (∃ t, exec (.pwrThermal tb tj) s = .next t ∧ only t ∧ State.OnlyRegs [st, Reg.PWR_TEMP] s t ∧
      (t.reg Reg.PWR_TEMP).extractLsb' 16 16 = BitVec.ofInt 16 tj ∧ (t.reg Reg.PWR_TEMP).extractLsb' 0 16 = BitVec.ofInt 16 tb ∧
      let old := s.demT
      let new := t.demT
      let th (k : Nat) : Int := [1270, 1300, 1330, 1360, 1400].getD k 0
      let hot (k : Nat) : Prop := th k ≤ tb ∨ (k = 4 ∧ 1600 ≤ tj)
      let held (k : Nat) : Prop := k < 5 ∧ ∃ x, t.pwr.rise.getD k none = some x ∧ x + 1000000000 ≤ s.dtb
      let cooled : Prop := old ≠ 0 ∧ tb ≤ th (old - 1) - 50 ∧ ∃ x, p.fall = some x ∧ x + 10000000000 ≤ s.dtb;
      (∀ k, k < 5 → (hot k → t.pwr.rise.getD k none = some ((p.rise.getD k none).getD s.dtb)) ∧
        (¬ hot k → t.pwr.rise.getD k none = none)) ∧
      (∀ k, held k → k + 1 ≤ new ∨ new < old) ∧
      (old < new → held (new - 1)) ∧
      (new < old ↔ cooled ∧ ∀ k, held k → k < old) ∧ (new < old → new + 1 = old) ∧
      t.regB st 3 = (s.regB st 3 || old != new) ∧
      (old ≠ new → p.deepest ≤ max s.demV (max new s.demF) → t.regB st 15 = false) ∧
      State.Logs (if (old = 0 ↔ new = 0) then [] else [s.event Ev.PWR_THERMAL 0 [degF t.pwr.hiTb, degF t.pwr.hiTj,
        BitVec.ofNat 32 t.pwr.thDeep]]) s t ∧
      t.pwr.fall = (if new = old then (if old ≠ 0 ∧ tb ≤ th (old - 1) - 50 then some (p.fall.getD s.dtb) else none)
        else if new ≠ 0 ∧ tb ≤ th (new - 1) - 50 then some s.dtb else none) ∧
      t.pwr.hiTb = (if old = 0 then tb else max p.hiTb tb) ∧ t.pwr.hiTj = (if old = 0 then tj else max p.hiTj tj) ∧
      t.pwr.thDeep = (if old = 0 then new else max p.thDeep new)) ∧
    (let due := p.thermalHold = true ∧ s.ctl.por ≠ none ∧ tb ≤ 1100;
      (¬ due → exec (.thermalRestart tb) s = .next s) ∧
      (due → exec (.thermalRestart tb) s = .next (s.setPwr { p with thermalHold := false }))) ∧
    -- the forced demand
    (s.granted w Reg.PWR_FORCE = true →
      let n := fld v 2 0;
      (4 < n → exec (.pwrForceWrite w v) s = .next s) ∧
      (n ≤ 4 → ∃ t, exec (.pwrForceWrite w v) s = .next t ∧ only t ∧ State.OnlyRegs [st, Reg.PWR_FORCE] s t ∧ t.demF = n ∧
        t.reg Reg.PWR_FORCE = BitVec.ofNat 32 n ∧ (p.deepest ≤ max s.demV (max s.demT n) → t.regB st 15 = false) ∧
        State.Logs (if n = s.demF then [] else [s.event Ev.PWR_FORCE 0 [BitVec.ofNat 32 s.demF, BitVec.ofNat 32 n]]) s t))

/-- Supplies and miswiring (R478 to R483, Table 14.6). Model choices: log 55 (numbers of the supplies, durations as operands, the higher
good input carries), log 56 (the body of PWR_HOLDUP_LOW is empty). -/
def Obligations.SuppliesAndMiswiring : Prop :=
  ∀ (s : State) (w : Who) (i time vst ns cur : Nat) (v : Int), i < 2 →
    let st := Reg.PWR_STAT
    let ins := Reg.PWR_INSTAT i
    let fs := Reg.PWR_FSTAT
    let p := s.pwr
    let flag (k : Nat) : Bool := s.inFlag i k
    let volt := min 0xFFFF v.toNat
    let body (n : Nat) : List Word := [BitVec.ofNat 32 n, voltF v]
    -- input `i` shows its voltage and just these flags (REV, OV, ABSENT as bits 2 to 0), with these events
    let shows (c : Instr) (flags : Nat) (evs : List Event) : Prop := ∃ t, exec c s = .next t ∧ State.Only [.act, .recd] s t ∧
      State.OnlyRegs [Reg.PWR_INSTAT 0, Reg.PWR_INSTAT 1, st] s t ∧ t.regF ins 31 16 = volt ∧ t.regF ins 15 1 = flags ∧
      t.regB st 5 = (s.regB st 5 || s.regF ins 3 1 != flags) ∧
      (∀ j, j < 2 → t.inFlag j 0 = (t.inGood j && (!t.inGood (1 - j) || decide (t.inVolt (1 - j) ≤ t.inVolt j)))) ∧
      (∀ k, 1 ≤ k → k < 32 → t.regB (Reg.PWR_INSTAT (1 - i)) k = s.regB (Reg.PWR_INSTAT (1 - i)) k) ∧ State.Logs evs s t
    let ev (b : Bool) (code n : Nat) : List Event := if b then [s.event code 0 (body n)] else []
    -- an input's event, outside a power-on reset
    let told (b : Bool) (code : Nat) : List Event := ev (b && s.ctl.por.isNone) code i
    let stays := 2 * (flag 2).toNat
    (-100 ≤ v → exec (.pwrInputRev i v) s = .next s) ∧
    (v < -100 → shows (.pwrInputRev i v) (4 + stays) (told (!flag 3 && !s.inFlag (1 - i) 3) Ev.PWR_INPUT_REV)) ∧
    (600 ≤ v ∨ v < -100 → exec (.pwrInputLost i v) s = .next s) ∧
    (v < 600 → -100 ≤ v → shows (.pwrInputLost i v) (1 + stays) (told (!flag 1 && flag 0) Ev.PWR_INPUT_LOST)) ∧
    (v ≤ 3800 → exec (.pwrInputOv i v) s = .next s) ∧
    (3800 < v → shows (.pwrInputOv i v) 2 (told (!flag 2) Ev.PWR_INPUT_OV ++ told (flag 1) Ev.PWR_INPUT_OK)) ∧
    (v < 600 ∨ 3800 < v → exec (.pwrInputOk i ⟨v, ns⟩) s = .next s) ∧
    (600 ≤ v → v ≤ 3800 → shows (.pwrInputOk i ⟨v, ns⟩) (if flag 2 = true ∧ (3600 < v ∨ ns < 10000000) then 2 else 0)
      (told (flag 1) Ev.PWR_INPUT_OK)) ∧
    -- FIELD
    (let state := s.fieldState
      let f := p.field
      let code (g : FieldSw) : Nat := if g.rev then 6 else if g.ov then 5 else if g.uv then 7 else if g.latched then 4
        else if g.tripAt.isSome then 3 else if g.on then 2 else if g.startAt.isSome then 1 else 0
      -- a switch that nothing holds open soft-starts
      let start (g : FieldSw) : FieldSw :=
        if g.rev || g.ov || g.uv || g.latched || g.tripAt.isSome then g else { g with startAt := some s.dtb }
      let trips := match f.startAt with
        | some x => if x + 1000000000 ≤ s.dtb then 0 else s.regF fs 11 8
        | none => s.regF fs 11 8
      -- every solenoid channel without supply
      let dark (t : State) : Prop := ∀ n, n < 24 → t.regB (Reg.SV_STAT n) 22 = true ∧ t.svOn n = false
      let became (c : Instr) (g : FieldSw) (n : Nat) (evs : List Event) (shown : Bool) (bit : Nat) : Prop :=
        ∃ t, exec c s = .next t ∧ State.Only [.pwr, .act, .recd, .sv] s t ∧ t.pwr = { p with field := g } ∧ t.fieldState = code g ∧
          t.regB st 6 = (s.regB st 6 || code g != state) ∧ t.regF fs 11 8 = n ∧ State.Logs evs s t ∧
          t.regF fs 31 16 = (if shown then volt else s.regF fs 31 16) ∧ (bit ≠ 0 → t.regB fs bit = true) ∧
          (state = 2 → code g ≠ 2 → dark t) ∧ (state ≠ 2 ∨ code g = 2 → t.sv = s.sv) ∧
          (code g = state ∨ (state ≠ 2 ∧ code g < 3) → State.OnlyRegs [fs, st] s t) ∧
          (state ≠ 2 → code g ≠ state → 3 ≤ code g → State.OnlyRegs (fs :: st :: (List.range 24).map Reg.SV_STAT) s t ∧
            ∀ n, n < 24 → t.regB (Reg.SV_STAT n) 22 = true)
      let volts (c : Instr) : Prop := exec c s = .next (s.setRegF fs 31 16 volt)
      (v < -100 ∨ 1600 ≤ v → exec (.pwrFieldUv ⟨v, ns⟩) s = .next s) ∧
      (-100 ≤ v → v < 1600 → f.uv = true ∨ ns < 1000000 → became (.pwrFieldUv ⟨v, ns⟩) { f with rev := false } trips [] true 0) ∧
      (-100 ≤ v → v < 1600 → f.uv = false → 1000000 ≤ ns → became (.pwrFieldUv ⟨v, ns⟩)
        { f with uv := true, rev := false, startAt := none, on := false } trips (ev true Ev.PWR_FIELD_UV 2) true 5) ∧
      (v ≤ 3600 → exec (.pwrFieldOv v) s = .next s) ∧ (3600 < v → f.ov = true → volts (.pwrFieldOv v)) ∧
      (3600 < v → f.ov = false → became (.pwrFieldOv v)
        { f with ov := true, uv := false, rev := false, startAt := none, on := false } trips (ev true Ev.PWR_FIELD_OV 2) true 6) ∧
      (-100 ≤ v → exec (.pwrFieldRev v) s = .next s) ∧ (v < -100 → f.rev = true → volts (.pwrFieldRev v)) ∧
      (v < -100 → f.rev = false → became (.pwrFieldRev v)
        { f with rev := true, uv := false, startAt := none, on := false } trips (ev true Ev.PWR_FIELD_REV 2) true 7) ∧
      (let trip := ∃ x, f.startAt = some x ∧ ((f.on = false ∧ x + 5000000 ≤ s.dtb ∧ v < 1000) ∨ (6000 ≤ cur ∧ 1000000 ≤ ns) ∨
          (4400 < cur ∧ 100000000 ≤ ns))
        let latch := decide (5 ≤ trips + 1)
        (¬ trip → exec (.pwrFieldTrip ⟨v, cur, ns⟩) s = .next s) ∧
        (trip → became (.pwrFieldTrip ⟨v, cur, ns⟩)
          { f with startAt := none, on := false, latched := latch, tripAt := if latch then none else some s.dtb } ((trips + 1) % 16)
          (ev true Ev.PWR_FIELD_TRIP 2 ++ ev latch Ev.PWR_FIELD_LATCH 2) false 4)) ∧
      (∀ x, f.tripAt = some x → x + 1000000000 ≤ s.dtb →
        became .fieldSwitchRetry (start { f with tripAt := none }) trips [] false 0) ∧
      ((∀ x, f.tripAt = some x → s.dtb < x + 1000000000) → exec .fieldSwitchRetry s = .next s) ∧
      (s.granted w Reg.PWR_CMD = true → f.latched = false → exec (.fretry w) s = .next s) ∧
      (s.granted w Reg.PWR_CMD = true → f.latched = true → became (.fretry w) (start { f with latched := false }) 0 [] false 0) ∧
      (v < 1600 ∨ 3600 < v → exec (.pwrFieldOk ⟨v, ns⟩) s = .next s) ∧
      (1600 ≤ v → v ≤ 3600 →
        let g := { f with rev := false, uv := false, ov := f.ov && (decide (3400 < v) || decide (ns < 10000000)) }
        (f.startAt = none → became (.pwrFieldOk ⟨v, ns⟩) (start g) trips [] true 0) ∧
        ∀ x, f.startAt = some x →
          (f.on = true ∨ v < 1700 ∨ 3400 < v ∨ ns < 10000000 ∨ s.dtb < x + 10000000 → became (.pwrFieldOk ⟨v, ns⟩) g trips [] true 0) ∧
          (f.on = false → 1700 ≤ v → v ≤ 3400 → 10000000 ≤ ns → x + 10000000 ≤ s.dtb → ∃ t, exec (.pwrFieldOk ⟨v, ns⟩) s = .next t ∧
            State.Only [.pwr, .act, .recd, .sv] s t ∧ t.pwr = { p with field := { g with on := true } } ∧
            t.fieldState = code { g with on := true } ∧ t.regF fs 31 16 = volt ∧ t.regF fs 11 8 = trips ∧
            (∃ more, t.recd = { s.recd with handed := s.recd.handed ++ s.event Ev.PWR_FIELD_OK 0 (body 2) :: more }) ∧
            ∀ n, n < 24 → s.svHsOff (n / 6) = false → t.regB (Reg.SV_STAT n) 22 = false))) ∧
    -- the hold-up store and VBAK
    (s.granted w Reg.PWR_CMD = true → s.inDip = true → exec (.hutest w) s = .next s) ∧
    (s.granted w Reg.PWR_CMD = true → s.inDip = false → exec (.hutest w) s = .next (s.setPwr { p with testAt := some s.dtb })) ∧
    (let due := s.inDip = false ∧ (p.testAt ≠ none ∨ ∀ x, p.testedAt = some x → x + 86400000000000 ≤ s.dtb);
      (¬ due → exec (.holdupTest time vst) s = .next s) ∧
      (due → ∃ t, exec (.holdupTest time vst) s = .next t ∧ State.Only [.pwr, .act, .recd] s t ∧
        State.OnlyRegs [Reg.PWR_HU, st] s t ∧ t.regF Reg.PWR_HU 31 16 = min 0xFFFF vst ∧
        t.regF Reg.PWR_HU 15 0 = min 0xFFFF time ∧ t.pwr = { p with testAt := none, testedAt := some s.dtb } ∧
        t.regB st 7 = (s.regB st 7 || decide (time < 200)) ∧
        State.Logs (if time < 200 then [s.event Ev.PWR_HOLDUP_LOW 0 []] else []) s t)) ∧
    (vst < 5200 → exec (.holdupCharged vst) s = .next s) ∧
    (5200 ≤ vst → ∃ t, exec (.holdupCharged vst) s = .next t ∧ State.Only [.act] s t ∧ State.OnlyRegs [Reg.PWR_HU, st] s t ∧
      t.regF Reg.PWR_HU 31 16 = min 0xFFFF vst ∧ t.regF Reg.PWR_HU 15 0 = s.regF Reg.PWR_HU 15 0 ∧ t.regB st 14 = true) ∧
    (let due := p.nextVbak ≤ s.dtb ∧ s.regF Reg.PWR_CFG 29 28 ≠ 2
      let old := s.regF Reg.PWR_VBAK 3 0
      let new := if 3800 < v then 8 else if v < -200 then 4 else if v < 1500 then 1 else if v ≤ 2400 then 2 else 0;
      (¬ due → exec (.vbakTest v) s = .next s) ∧
      (due → ∃ t, exec (.vbakTest v) s = .next t ∧ State.Only [.pwr, .act, .recd] s t ∧
        State.OnlyRegs [Reg.PWR_VBAK, st] s t ∧ t.regF Reg.PWR_VBAK 31 16 = volt ∧ t.regF Reg.PWR_VBAK 15 0 = new ∧
        t.pwr = { p with nextVbak := s.dtb + 10000000000 } ∧ t.regB st 4 = (s.regB st 4 || new != old) ∧
        State.Logs (if new = old then [] else [s.event (if new = 0 then Ev.PWR_VBAK_OK else Ev.PWR_VBAK_LOW) 0
          [3, ratF v 1000]]) s t))

/-- Clocks (R503 to R508). Model choices: log 80 (what a relock ends, the earliest CLK_RELOCK), log 76 (a failure during a reset sequence),
log 72 (no CTL_RESET of a clock failure), log 81 (ROOTOK in the hold). -/
def Obligations.ClocksAndRelock : Prop :=
  ∀ (s : State) (w : Who) (checks : List Nat) (kind : Nat) (dev : Int) (rootOk pllOk : Bool),
    let cs := Reg.CLK_STAT
    let is := Reg.CTL_ISTAT
    let c := s.ctl
    -- no sequence past its flush is deepened, which would end the stores
    let calm : Prop := ∀ r, c.run = some r → r.scope = 1 → r.flushed = false
    let only (t : State) : Prop := State.Only [.act, .ctl, .recd, .fe, .host, .sessions] s t ∧ (calm → State.Only [.act, .ctl, .recd] s t)
    let ppm (k : Nat) : Word := BitVec.ofInt 32 (Int.tdiv (((k : Int) - 1500) * 1000000) 1500)
    let tail (k : Nat) : List Nat := checks.drop (checks.length - k)
    let lost := (4 ≤ checks.length ∧ ∀ x ∈ tail 4, x < 1499 ∨ 1501 < x) ∨ (2 ≤ checks.length ∧ ∀ x ∈ tail 2, 1515 < x)
    let starts (t : State) : Prop := State.Only [.act, .dio, .trunks, .ports, .ctl, .recd] s t ∧ t.regF cs 31 30 = 1 ∧
      t.regB cs 27 = false ∧ t.ctl = { c with relock := some ⟨s.dtb, s.dtb, 1⟩ } ∧
      t.dio = { s.dio with flight := (if s.dio.island = 0 then [] else s.dio.flight), up := [] } ∧ (∀ k, k < 32 → (t.trunk k).sel = none) ∧
      (∀ k, k < 4 → (t.port k).sel = none)
    -- the power-on reset of a failure, held by the island
    let fails (t : State) (cause : Nat) : Prop := only t ∧ t.ctl.held = true ∧ t.ctl.failAt = s.dtb ∧
      t.ctl.nextRetry = s.dtb + 1000000000 ∧ t.ctl.relock = none ∧ t.regF is 31 28 = 1 ∧
      (∃ r, t.ctl.run = some r ∧ r.scope = 0 ∧ r.flushed = false ∧ r.asserted = false ∧ (c.run = none → r.cause = cause)) ∧
      (c.island = none → t.ctl.island = some ⟨3, s.dtb, [1, 2, 3], [], [4, 5, 6], false, [], false⟩)
    (∀ r, c.run = some r → r.scope ≤ 2 ∧ (r.scope = 0 → r.asserted = false)) →
    -- CLK_VCODEV holds the deviation of the last lock check (R524)
    let checked : State := if checks = [] then s else s.setReg Reg.CLK_VCODEV (ppm (checks.getLastD 0))
    (s.onSafe = true → exec (.pllLockLoss checks) s = .next s) ∧
    (s.onSafe = false → ¬ lost → exec (.pllLockLoss checks) s = .next checked) ∧
    (s.onSafe = false → lost → ∃ t, exec (.pllLockLoss checks) s = .next t ∧ starts t ∧ t.regB cs 7 = true ∧
      t.reg Reg.CLK_VCODEV = ppm (checks.getLastD 0) ∧
      State.Logs [s.event Ev.CLK_UNLOCK 0 [BitVec.ofNat 32 (checks.getLastD 0)]] s t) ∧
    (s.granted w Reg.CLK_CMD = true → s.whoCell w ≠ 0 ∨ s.onSafe = true → exec (.relock w) s = .next s) ∧
    (s.granted w Reg.CLK_CMD = true → s.whoCell w = 0 → s.onSafe = false → ∃ t, exec (.relock w) s = .next t ∧ starts t ∧ t.recd = s.recd) ∧
    (c.relock = none → exec (.clkRelock checks) s = .next s ∧ exec .relockAttemptTimeout s = .next s) ∧
    (∀ r, c.relock = some r →
      let inBand := 64 ≤ checks.length ∧ ∀ x ∈ tail 64, 1499 ≤ x ∧ x ≤ 1501
      let us := (s.dtb - r.since) / 1000
      (¬ inBand ∨ s.dtb < r.tried + 64000 → exec (.clkRelock checks) s = .next checked) ∧
      (inBand → r.tried + 64000 ≤ s.dtb → ∃ t, exec (.clkRelock checks) s = .next t ∧
        State.Only [.act, .fe, .dio, .trunks, .ports, .ctl, .recd] s t ∧
        State.OnlyRegs [cs, Reg.CLK_LCNT, Reg.CLK_VCODEV] s t ∧ t.regF cs 31 30 = 0 ∧ t.regB cs 27 = true ∧
        t.regB cs 6 = true ∧ t.reg Reg.CLK_VCODEV = ppm (checks.getLastD 0) ∧
        t.regF Reg.CLK_LCNT 31 16 = min 0xFFFF (s.regF Reg.CLK_LCNT 31 16 + 1) ∧ t.regF Reg.CLK_LCNT 15 0 = min 0xFFFF us ∧
        t.ctl = { c with relock := none, beat := s.dtb } ∧ t.dio.nextDown = (s.dtb + 19999) / 20000 * 20000 ∧
        (∀ e ∈ t.fe.chans, ∀ sl, e.2.slot = some sl → sl.start = s.dtb) ∧
        State.Logs [s.event Ev.CLK_RELOCK 0 [BitVec.ofNat 32 us, BitVec.ofNat 32 r.tries]] s t) ∧
      (s.dtb < r.tried + 2000000 → exec .relockAttemptTimeout s = .next s) ∧
      (r.tried + 2000000 ≤ s.dtb → r.tries < 3 → exec .relockAttemptTimeout s =
        .next (s.setCtl { c with relock := some { r with tried := s.dtb, tries := r.tries + 1 } })) ∧
      (r.tried + 2000000 ≤ s.dtb → 3 ≤ r.tries → ∃ t, exec .relockAttemptTimeout s = .next t ∧ fails t 9 ∧
        (calm → State.OnlyRegs [is] s t) ∧ (c.run = none →
          State.Logs [s.event Ev.CLK_LOCK_FAIL 0 [BitVec.ofNat 32 r.tries]] s t))) ∧
    (let due := (kind = 0 ∨ (kind = 1 ∧ 50000 < dev.natAbs ∧ s.regB Reg.RTC_STAT 0 = false)) ∧ s.regB cs 26 = true ∧
        c.por = none;
      (¬ due → exec (.clkRootFail kind dev) s =
        .next (if kind = 1 ∧ c.por = none then s.setReg Reg.CLK_ROOTDEV (BitVec.ofInt 32 dev) else s)) ∧
      (due → ∃ t, exec (.clkRootFail kind dev) s = .next t ∧ fails t 8 ∧ (calm → State.OnlyRegs [is, cs, Reg.CLK_ROOTDEV] s t) ∧
        t.regB cs 26 = false ∧ t.regB cs 5 = true ∧
        t.reg Reg.CLK_ROOTDEV = (if kind = 1 then BitVec.ofInt 32 dev else s.reg Reg.CLK_ROOTDEV) ∧
        (c.run = none → State.Logs [s.event Ev.CLK_ROOT_FAIL 0 [BitVec.ofNat 32 kind,
          if kind = 1 then BitVec.ofInt 32 (Int.tdiv dev 100) else 0]] s t))) ∧
    (let due := c.held = true ∧ c.por ≠ none ∧ c.nextRetry ≤ s.dtb
      let again := { c with nextRetry := s.dtb + 1000000000 };
      (¬ due → exec (.islandRetry rootOk pllOk) s = .next s) ∧
      (due → rootOk = false → exec (.islandRetry rootOk pllOk) s = .next (s.setCtl again)) ∧
      (due → rootOk = true → ∃ t, exec (.islandRetry rootOk pllOk) s = .next t ∧ only t ∧ State.OnlyRegs [is, cs] s t ∧
        t.regB cs 26 = true ∧ t.regB cs 5 = (s.regB cs 5 || !s.regB cs 26) ∧
        t.ctl = { again with held := !pllOk } ∧ (pllOk = true → t.regF is 31 28 = 0) ∧
        State.Logs (if s.regB cs 26 then [] else [s.event Ev.CLK_ROOT_OK 0 [BitVec.ofNat 32
          ((s.dtb - c.failAt) / 1000000)]]) s t))

/-- Resets, the safety island and start-up (R509 to R526). Model choices: log 2 (start-up is one step), log 72, 106 (merged requests, the
amended CTL_RESET), log 73, 102 (what a reset keeps, LOCAL mode ends), log 74 (the DTB starts at 0), log 75 (the island's operations),
log 79 (CTL_START after a system reset), log 81 (the release), log 104 (the stores of a block in reset). -/
def Obligations.ResetsAndStartUp : Prop :=
  ∀ (s : State) (w : Who) (v : Word) (a b : Int) (stable : Nat) (lost : Bool) (failed : List Nat),
    let is := Reg.CTL_ISTAT
    let rc := Reg.CTL_RCAUSE
    let c := s.ctl
    let word (k : Nat) : Word := BitVec.ofNat 32 k
    let only (t : State) : Prop := State.Only [.act, .ctl, .recd] s t
    let runs (trig : Nat) (blocks : List Nat) (x : CtlSt) : Prop := c.island = none →
      x.island = some ⟨trig, s.dtb, if trig = 4 then [1, 2] else [1, 2, 3], [], blocks, false, [], false⟩
    -- `t` after a request, with the events and the control state before it
    let ends (scope : Nat) : Prop := scope = 0 ∧ ∃ r, c.run = some r ∧ r.scope = 1 ∧ r.flushed = true
    let requests (t : State) (scope cause blocks : Nat) (pre : List Event) (x : CtlSt) : Prop := (¬ ends scope → only t) ∧
      -- a sequence past its flush that now includes the recorder ends the stores (R423)
      (ends scope → State.Only [.act, .ctl, .recd, .fe, .host, .sessions] s t ∧ ∀ n ∈ allSets, (t.nvSet n).storing = none ∧
        ((s.nvSet n).storing ≠ none → t.regB (Reg.REC_SSTAT n) 16 = true)) ∧
      (c.run = none → State.Logs (pre ++ [s.event Ev.CTL_RESET 0 ([word cause, word (2 ^ cause), word scope, word blocks] ++
          dtbWords s.dtb)]) s t ∧ ∃ isl, t.ctl = { x with
            run := some ⟨scope, cause, 2 ^ cause, blocks, scope == 2, false, true⟩, island := isl }) ∧
      (∀ r, c.run = some r → ∃ r', t.ctl.run = some r' ∧ r'.scope = min r.scope scope ∧ r'.cause = r.cause ∧
        r'.mask = r.mask ||| 2 ^ cause ∧ r'.blocks = r.blocks ||| blocks ∧
        r'.asserted = (r.asserted && !decide (scope < r.scope) && (r.scope != 2 || scope != 2)))
    let granted := s.granted w Reg.CTL_RESET = true ∧ s.granted w Reg.CTL_BRST = true ∧ s.granted w Reg.CTL_WDKICK = true
    (granted → s.whoCell w ≠ 0 → exec (.sys w) s = .next s ∧ exec (.full w) s = .next s ∧
      exec (.ctlBrstWrite w v) s = .next s ∧ exec (.ctlWdkickWrite w v) s = .next s) ∧
    (granted → s.whoCell w = 0 →
      (∃ t, exec (.sys w) s = .next t ∧ requests t 1 7 0 [] c ∧ State.OnlyRegs [is] s t ∧
        (c.run = none → t.regF is 31 28 = 1 ∧ runs 1 [4, 5, 6] t.ctl)) ∧
      (∃ t, exec (.full w) s = .next t ∧ requests t 0 3 0 [] c ∧ (¬ ends 0 → State.OnlyRegs [is] s t) ∧
        (c.run = none → t.regF is 31 28 = 1 ∧ runs 2 [4, 5, 6] t.ctl)) ∧
      (let blk := fld v 9 0
        let out := [4, 5, 6].filter fun k => blk / 2 ^ k % 2 == 1;
        (fld v 31 24 ≠ 0xC3 ∨ blk = 0 → exec (.ctlBrstWrite w v) s = .next s) ∧
        (fld v 31 24 = 0xC3 → blk ≠ 0 → ∃ t, exec (.ctlBrstWrite w v) s = .next t ∧ requests t 2 10 blk [] c ∧
          State.OnlyRegs [is] s t ∧ (c.run = none → (out = [] → t.ctl.island = c.island) ∧
            (out ≠ [] → t.regF is 31 28 = 1 ∧ runs 4 out t.ctl)))) ∧
      (let ms := s.regF Reg.CTL_CFG 31 16;
        (v ≠ 0xA55A → exec (.ctlWdkickWrite w v) s = .next (s.emit Ev.CTL_WDKICK_BAD 0 [v])) ∧
        (v = 0xA55A → exec (.ctlWdkickWrite w v) s =
          .next (if ms = 0 then s else s.setCtl { c with wdLeft := some (ms * 1000000) })))) ∧
    (c.wdLeft ≠ some 0 → exec .ctlWatchdog s = .next s) ∧
    (c.wdLeft = some 0 → ∃ t, exec .ctlWatchdog s = .next t ∧ State.OnlyRegs [is] s t ∧ t.regB is 3 = true ∧
      t.ctl.wdLeft = none ∧ requests t 1 4 0 [s.event Ev.CTL_WATCHDOG 0 [word (s.regF Reg.CTL_CFG 31 16)]]
        { c with wdLeft := none }) ∧
    (let due := s.onSafe = false ∧ c.por = none ∧ (∀ r, c.run = some r → r.asserted = false ∨ 2 ≤ r.scope) ∧ c.beat + 1000000 ≤ s.dtb;
      (¬ due → exec .ctlWedge s = .next s) ∧
      (due → ∃ t, exec .ctlWedge s = .next t ∧ State.OnlyRegs [is] s t ∧ t.regB is 2 = true ∧
        requests t 1 5 0 [s.event Ev.CTL_WEDGE 0 (dtbWords c.beat)] c)) ∧
    -- the island
    ((∀ x, c.island = some x → x.todo = []) → exec .islandAct s = .next s) ∧
    (∀ x, c.island = some x → x.todo ≠ [] → ∃ t, exec .islandAct s = .next t ∧
      (1 ∈ x.todo ∨ 2 ∈ x.todo → ∀ k ∈ x.blocks, k ∈ t.ctl.posts ∧
        ∀ m, m < 104 → slotBlock m = k → (t.slot m).value = none ∧ (t.slot m).next = []) ∧
      (4 ∈ x.todo → t.ctl.rtcHanded = true) ∧
      (3 ∈ x.todo → t.recd.flush ≠ none ∧ ∃ y, t.ctl.island = some y ∧ y.todo = [] ∧ y.flushing = true) ∧
      (3 ∉ x.todo → x.flushing = false → t.ctl.island = none ∧ t.regB is 1 = true ∧
        (x.recorded = false → 4 ∉ x.todo → ∃ e, t.recd.handed.getLast? = some e ∧ e.code = Ev.CTL_ISLAND))) ∧
    -- reset asserted and released
    ((∀ r, c.run = some r → r.asserted = true ∨ r.flushed = false ∨ c.island ≠ none) → exec .resetAssert s = .next s) ∧
    ((∀ e ∈ s.sv.chans, e.1 < 24) → ∀ r, c.run = some r → r.asserted = false → r.flushed = true → c.island = none →
      ∃ t, exec .resetAssert s = .next t ∧
      t.dtb = s.dtb ∧ t.pending = s.pending ∧ t.rtc = s.rtc ∧
      (∀ i, mget 0 i t.svcTag.mem = mget 0 i s.svcTag.mem ∨ ∃ x, s.svcTag.wired = some x ∧ 16 * x.1 ≤ i ∧ i < 16 * x.1 + 16) ∧
      (r.scope = 0 → t.ctl.por = some r.cause ∧ t.ctl.run = none ∧ t.loops = [] ∧ t.cells = [] ∧ t.sessions = [] ∧
        t.pwr = { PwrSt.reset with thermalHold := s.pwr.thermalHold } ∧
        ∀ k, 0x40680000 ≤ k → k < 0x40700000 → t.reg k = s.reg k) ∧
      (r.scope ≠ 0 → t.ctl.run = some { r with asserted := true } ∧ t.regF rc 27 24 = r.cause % 16 ∧ t.pwr = s.pwr) ∧
      (r.scope = 1 → t.regF rc 31 28 = 1 ∧ t.loops = [] ∧ t.cells = [] ∧ t.slots = [] ∧ t.sessions = [] ∧
        (∀ k, sysKeeps k = true → k ≠ rc → t.reg k = s.reg k) ∧
        ((∀ m, (s.nvSet m).seq = 0) → ∀ k, sysKeeps k = false → (∀ m, m < 24 → k ≠ Reg.SV_STAT m) →
          (∀ l, l < 2 → k ≠ Reg.HST_LSTAT l) → t.reg k = resetOf k)) ∧
      (r.scope = 2 → t.regF rc 31 28 = 2 ∧ t.regF rc 9 0 = r.blocks % 1024 ∧ State.Only [.act, .shd, .pend, .fe, .col,
          .trunks, .ports, .dio, .host, .face, .sessions, .traces, .recd, .ctl, .hwk, .svcTag, .drawn] s t ∧
        ∀ k, (∀ m ∈ blocksOf r.blocks, inBlock m k = false) → k ≠ rc → t.reg k = s.reg k)) ∧
    ((∀ r, c.run = some r → r.asserted = false) → exec (.resetRelease failed) s = .next s) ∧
    (∀ r, c.run = some r → r.asserted = true →
      (r.scope = 1 → ∃ u : State, exec (.resetRelease failed) s = .next (u.startAll failed) ∧ State.Only [.act, .ctl] s u ∧
        State.OnlyRegs [Reg.CTL_RCNT] s u ∧ u.regF Reg.CTL_RCNT 31 16 = min 0xFFFF (s.regF Reg.CTL_RCNT 31 16 + 1) ∧
        u.ctl = { c with run := none, relAt := s.dtb, beat := s.dtb, wdLeft := none }) ∧
      (r.scope ≠ 1 → ∃ t, exec (.resetRelease failed) s = .next t ∧ t.ctl.run = none ∧ t.dtb = s.dtb ∧ t.pwr = s.pwr ∧
        t.rtc = s.rtc ∧ t.loops = s.loops ∧ (6 ∉ blocksOf r.blocks →
          t.ctl.posts = c.posts.filter fun k => k != 4 && k != 5))) ∧
    -- start-up
    (let ready := c.held = false ∧ s.pwr.thermalHold = false ∧ 1650 ≤ max a b ∧ 10000000 ≤ stable;
      (c.por = none ∨ ¬ ready → exec (.powerOnResetRelease a b stable lost failed) s = .next s) ∧
      (∀ cause, c.por = some cause → ready → ∃ u : State, exec (.powerOnResetRelease a b stable lost failed) s =
        .next (u.startAll failed) ∧ u.dtb = 0 ∧ u.pending = s.pending ∧ u.loops = [] ∧ u.cells = [] ∧ u.sessions = [] ∧
        u.pwr.deepest = 0 ∧ u.ctl.por = none ∧ u.ctl.run = none ∧ u.ctl.island = none ∧ u.regF rc 31 28 = 0 ∧
        u.regF rc 27 24 = cause % 16 ∧ u.regB Reg.CLK_STAT 26 = true ∧ u.regF (Reg.PWR_INSTAT 0) 31 16 = min 0xFFFF a.toNat ∧
        u.regF (Reg.PWR_INSTAT 1) 31 16 = min 0xFFFF b.toNat ∧ u.svcTag.mbxDue = true ∧
        (max a b ≤ 1750 → u.inDip = true ∧ u.pwr.dipStart = 0 ∧ u.pwr.dipMin = (max a b).toNat) ∧
        (∀ i, i < 256 → mget 0 i u.svcTag.mem = Config.tagIdentity i))) ∧
    (c.house = none ∨ c.live = true ∨ s.quickHouse.all s.isLive = false → exec .ctlStart s = .next s) ∧
    (∀ h, c.house = some h → c.live = false → s.quickHouse.all s.isLive = true → ∃ t, exec .ctlStart s = .next t ∧ only t ∧
      State.OnlyRegs [Reg.CTL_TSTART] s t ∧ t.ctl = { c with live := true } ∧
      t.regF Reg.CTL_TSTART 15 0 = min 0xFFFF ((s.dtb - c.relAt) / 1000000) ∧
      t.regF Reg.CTL_TSTART 31 16 = s.regF Reg.CTL_TSTART 31 16 ∧
      State.Logs [s.event Ev.CTL_START 0 (dtbWords c.tSets ++ dtbWords h ++ dtbWords s.dtb)] s t) ∧
    (let late (n : Nat) : Bool := s.latEn n && !(s.trunk n).fullDone
      let due := c.por = none ∧ c.late = false ∧ c.relAt + 3000000000 ≤ s.dtb ∧ ∃ n, n < 32 ∧ late n = true;
      (¬ due → exec .ctlCensusLate s = .next s) ∧
      (due → ∃ m : Word, (∀ n, n < 32 → bitAt m n = late n) ∧
        exec .ctlCensusLate s = .next ((s.setCtl { c with late := true }).emit Ev.CTL_CENSUS_LATE 0 [m])))

/-- One step of the block: first in, first out; the tick on an empty queue is the model's choice (notes/assumptions/1.md). -/
def Obligations.StepRunsTheFrontCommand : Prop :=
  ∀ (s : State) (c : Instr) (rest : List Instr),
    step { s with pending := c :: rest } = exec c { s with pending := rest } ∧
    step { s with pending := [] } = .next (State.tick { s with pending := [] })

/-- No command stops the block, and none touches the queue; hence a queue of `n` commands is empty after `n` steps. -/
def Obligations.CommandsCompleteAndKeepTheQueue : Prop :=
  (∀ (c : Instr) (s : State), ∃ t, exec c s = .next t ∧ t.pending = s.pending) ∧
  ∀ (n : Nat) (run : Nat → State), (∀ k, k < n → step (run k) = .next (run (k + 1))) → n ≤ (run 0).pending.length →
    (run n).pending = (run 0).pending.drop n

/-- A tick of the clock (R23, R443, R500). -/
def Obligations.TheTickAdvancesTime : Prop :=
  ∀ s : State, s.pending = [] → (∀ e ∈ s.traces, e.1 < 16) → ∃ t, step s = .next t ∧
    State.Only [.dtb, .act, .host, .ctl, .traces, .recd, .dio] s t ∧
    (s.onSafe = true → t.dtb = (s.dtb + 40) % 2 ^ 64 ∧ t.host = s.host) ∧
    (s.onSafe = false → ∃ a : Nat, (a = 8 ∨ a = 16 ∨ a = 0) ∧ t.dtb = (s.dtb + a) % 2 ^ 64 ∧
      t.host = { s.host with rateAcc := s.host.rateAcc + 8 * s.rateNow - ((a : Int) - 8) * 1000000000 }) ∧
    (s.onSafe = false → s.rateNow = 0 → s.host.rateAcc = 0 → t.dtb = (s.dtb + 8) % 2 ^ 64) ∧
    t.ctl = { s.ctl with wdLeft := s.ctl.wdLeft.map fun x => if s.wdCounts then x - 8 else x } ∧
    (∀ n, (t.trace n).waiting = []) ∧
    (let passed := s.recd.hoursAt + 1000000000 ≤ t.dtb ∧ s.ctl.por = none;
      (t.reg Reg.REC_HOURS).toNat = (if passed then min (2 ^ 32 - 1) ((s.reg Reg.REC_HOURS).toNat + 1)
        else (s.reg Reg.REC_HOURS).toNat) ∧
      t.recd = { s.recd with hoursAt := if passed then s.recd.hoursAt + 1000000000 else s.recd.hoursAt })

/-- The state at power-on (R20, R500). -/
def Obligations.ResetState : Prop :=
  let s := State.reset
  s.DtbOk ∧ s.dtb = 0 ∧ s.pending = [] ∧ s.shd = [] ∧ s.pend = [] ∧ s.loops = [] ∧ s.cells = [] ∧ s.sessions = [] ∧
  s.image = [] ∧ s.pwr.deepest = 0 ∧ s.recd.handed = [] ∧ s.ctl.por ≠ none ∧ s.ctl.run = none ∧
  (∀ k, s.reg k = resetOf k ∧ s.shadow k = resetOf k) ∧ s.InOrder ∧
  s.reg 0x40000000 = 0x0000040A ∧ s.reg 0x40010000 = 0x05243728 ∧ s.reg 0x40020000 = 0x17701900 ∧
  s.reg Reg.CLK_STAT = 0x0C000000 ∧ s.reg 0x40030000 = 0x20042000 ∧ s.reg 0x40040000 = 0x08410000 ∧
  s.reg 0x40100000 = 0x30C0400F ∧ s.reg 0x40180000 = 0x10010040 ∧ s.reg 0x40220000 = 0x20102008 ∧
  s.reg 0x40310000 = 0x04031000 ∧ s.reg 0x40400000 = 0x18043000 ∧ s.reg 0x40480000 = 0x10080000 ∧
  s.reg 0x40500000 = 0x40101400 ∧ s.reg 0x40600000 = 0x00400200 ∧ s.reg 0x40700000 = 0x02401010 ∧
  s.reg 0x40780000 = 0x02000010 ∧ s.reg 0x40810000 = 0x00104000 ∧ s.reg Reg.RTC_STAT = 3 ∧ s.reg Reg.CTL_WDREM = 0xFFFFFFFF

/-- The DTB is a multiple of 8 ns at all times (R23, R500). -/
def Obligations.TheDtbStaysAMultipleOfEight : Prop :=
  ∀ s t : State, s.DtbOk → step s = .next t → t.DtbOk

/-- The invariants that other statements have as hypotheses, kept by every step. -/
def Obligations.EveryStepKeepsTheOrderOfTheState : Prop :=
  ∀ s t : State, s.InOrder → step s = .next t → t.InOrder
end

