-- ==== Sys2Proof/Laws/Bits.lean ====
section
/-! SUPPORT. Laws of bit fields: a field reads as it was written, and a write leaves every field beside it alone. -/
namespace Sys2Proof.Machine

theorem fld_testBit (w : Word) (hi lo i : Nat) : (fld w hi lo).testBit i = (decide (i < hi - lo + 1) && w.toNat.testBit (lo + i)) := by
  simp [fld, Nat.testBit_mod_two_pow, Nat.testBit_div_two_pow, Nat.add_comm]

/-- The number of a word with a field replaced. -/
theorem setFld_nat (w : Word) (hi lo v : Nat) (h : lo ≤ hi) (h31 : hi ≤ 31) :
    (setFld w hi lo v).toNat = 2 ^ lo * (2 ^ (hi - lo + 1) * (w.toNat / 2 ^ (hi + 1)) + v % 2 ^ (hi - lo + 1)) + w.toNat % 2 ^ lo := by
  have hw := w.isLt
  have e1 : (2 : Nat) ^ (hi + 1) = 2 ^ lo * 2 ^ (hi - lo + 1) := by rw [← Nat.pow_add]; congr 1; omega
  have e2 : (2 : Nat) ^ 32 = 2 ^ (hi + 1) * 2 ^ (31 - hi) := by rw [← Nat.pow_add]; congr 1; omega
  have p1 : 0 < (2 : Nat) ^ lo := Nat.two_pow_pos lo
  have p2 : 0 < (2 : Nat) ^ (hi - lo + 1) := Nat.two_pow_pos _
  have d1 := Nat.div_add_mod w.toNat (2 ^ lo)
  have d2 := Nat.div_add_mod (w.toNat / 2 ^ lo) (2 ^ (hi - lo + 1))
  rw [Nat.div_div_eq_div_mul, ← e1] at d2
  have hB : w.toNat / 2 ^ (hi + 1) < 2 ^ (31 - hi) := by
    apply Nat.div_lt_of_lt_mul; rw [← e2]; exact hw
  have hx := Nat.mod_lt v p2
  have hA := Nat.mod_lt w.toNat p1
  generalize hBe : w.toNat / 2 ^ (hi + 1) = B at *
  generalize hxe : v % 2 ^ (hi - lo + 1) = x at *
  generalize hAe : w.toNat % 2 ^ lo = A at *
  have hf : fld w hi lo = w.toNat / 2 ^ lo % 2 ^ (hi - lo + 1) := rfl
  generalize hfe : w.toNat / 2 ^ lo % 2 ^ (hi - lo + 1) = f at *
  have hval : w.toNat - f * 2 ^ lo + x * 2 ^ lo = 2 ^ lo * (2 ^ (hi - lo + 1) * B + x) + A := by
    rw [← d1, ← d2, Nat.mul_add, Nat.mul_add, Nat.mul_comm f, Nat.mul_comm x]
    omega
  have hlt : 2 ^ lo * (2 ^ (hi - lo + 1) * B + x) + A < 2 ^ 32 := by
    rw [e2, e1]
    calc 2 ^ lo * (2 ^ (hi - lo + 1) * B + x) + A < 2 ^ lo * (2 ^ (hi - lo + 1) * B + x) + 2 ^ lo := by omega
      _ = 2 ^ lo * (2 ^ (hi - lo + 1) * B + x + 1) := by ring
      _ ≤ 2 ^ lo * (2 ^ (hi - lo + 1) * B + 2 ^ (hi - lo + 1)) := Nat.mul_le_mul_left _ (by omega)
      _ = 2 ^ lo * 2 ^ (hi - lo + 1) * (B + 1) := by ring
      _ ≤ _ := Nat.mul_le_mul_left _ hB
  unfold setFld
  rw [hf, hxe, w32, BitVec.toNat_ofNat, hval, Nat.mod_eq_of_lt hlt]

theorem setFld_testBit (w : Word) (hi lo v i : Nat) (h : lo ≤ hi) (h31 : hi ≤ 31) :
    (setFld w hi lo v).toNat.testBit i = if lo ≤ i ∧ i ≤ hi then v.testBit (i - lo) else w.toNat.testBit i := by
  rw [setFld_nat w hi lo v h h31, Nat.testBit_two_pow_mul_add _ (Nat.mod_lt _ (Nat.two_pow_pos lo)),
    Nat.testBit_two_pow_mul_add _ (Nat.mod_lt _ (Nat.two_pow_pos _)), Nat.testBit_mod_two_pow, Nat.testBit_mod_two_pow,
    Nat.testBit_div_two_pow]
  by_cases h1 : i < lo
  · simp [h1, Nat.not_le.mpr h1]
  · by_cases h2 : i ≤ hi
    · have : i - lo < hi - lo + 1 := by omega
      simp [h1, h2, this, Nat.not_lt.mp h1]
    · have a : ¬ i - lo < hi - lo + 1 := by omega
      have b : i - lo - (hi - lo + 1) + (hi + 1) = i := by omega
      simp [h1, h2, a, b]

/-- A field reads as it was written. -/
theorem fld_setFld_same (w : Word) (hi lo v : Nat) (h : lo ≤ hi) (h31 : hi ≤ 31) :
    fld (setFld w hi lo v) hi lo = v % 2 ^ (hi - lo + 1) := by
  apply Nat.eq_of_testBit_eq
  intro i
  rw [fld_testBit, setFld_testBit w hi lo v _ h h31, Nat.testBit_mod_two_pow]
  by_cases hi' : i < hi - lo + 1
  · have : lo + i ≤ hi := by omega
    simp [hi', this]
  · simp [hi']

/-- A write of a field leaves every field beside it alone. -/
theorem fld_setFld_ne (w : Word) (hi lo v hi' lo' : Nat) (h : lo ≤ hi) (h31 : hi ≤ 31) (hne : hi' < lo ∨ hi < lo') (h' : lo' ≤ hi') :
    fld (setFld w hi lo v) hi' lo' = fld w hi' lo' := by
  apply Nat.eq_of_testBit_eq
  intro i
  rw [fld_testBit, fld_testBit, setFld_testBit w hi lo v _ h h31]
  by_cases hi2 : i < hi' - lo' + 1
  · have : ¬ (lo ≤ lo' + i ∧ lo' + i ≤ hi) := by omega
    simp [hi2, this]
  · simp [hi2]

theorem bitAt_eq (w : Word) (i : Nat) : bitAt w i = w.toNat.testBit i := by
  rw [bitAt, Nat.testBit_eq_decide_div_mod_eq]; rfl

/-- A bit reads as it was written. -/
theorem bitAt_setBit_same (w : Word) (i : Nat) (b : Bool) (h : i ≤ 31) : bitAt (setBit w i b) i = b := by
  rw [bitAt_eq, setBit, setFld_testBit w i i _ _ (Nat.le_refl i) h]
  cases b <;> simp

/-- A write of a bit leaves every other bit alone. -/
theorem bitAt_setBit_ne (w : Word) (i j : Nat) (b : Bool) (h : i ≤ 31) (hne : j ≠ i) : bitAt (setBit w i b) j = bitAt w j := by
  rw [bitAt_eq, bitAt_eq, setBit, setFld_testBit w i i _ _ (Nat.le_refl i) h]
  have : ¬ (i ≤ j ∧ j ≤ i) := by omega
  simp [this]

/-- A write of a field leaves every bit outside it alone. -/
theorem bitAt_setFld_ne (w : Word) (hi lo v j : Nat) (h : lo ≤ hi) (h31 : hi ≤ 31) (hne : j < lo ∨ hi < j) :
    bitAt (setFld w hi lo v) j = bitAt w j := by
  rw [bitAt_eq, bitAt_eq, setFld_testBit w hi lo v _ h h31]
  have : ¬ (lo ≤ j ∧ j ≤ hi) := by omega
  simp [this]

end Sys2Proof.Machine
end

