-- ==== Sys2Proof/Laws/Map.lean ====
section
/-! SUPPORT. Laws of sparse maps: a read after a write, and the canonical form that every write keeps. -/
namespace Sys2Proof.Machine

variable {α : Type}

theorem mget_mdel_same (d : α) (k : Nat) (m : SMap α) : mget d k (mdel k m) = d := by
  induction m with
  | nil => rfl
  | cons e t ih =>
    obtain ⟨j, v⟩ := e
    by_cases h : j = k <;> simp [mdel, mget, h, ih]

theorem mget_mdel_ne (d : α) {j k : Nat} (h : j ≠ k) (m : SMap α) : mget d j (mdel k m) = mget d j m := by
  induction m with
  | nil => rfl
  | cons e t ih =>
    obtain ⟨i, v⟩ := e
    by_cases hk : i = k
    · have : i ≠ j := fun e => h (e ▸ hk)
      simp [mdel, mget, hk, ih, Ne.symm h]
    · rw [mdel, if_neg hk, mget, mget, ih]

theorem mget_mins_ne (d : α) {j k : Nat} (h : j ≠ k) (v : α) (m : SMap α) : mget d j (mins k v m) = mget d j m := by
  induction m with
  | nil => simp [mins, mget, Ne.symm h]
  | cons e t ih =>
    obtain ⟨i, w⟩ := e
    by_cases hk : k < i <;> simp [mins, mget, hk, ih, Ne.symm h]

theorem mget_mins_same (d : α) (k : Nat) (v : α) (m : SMap α) : mget d k (mins k v (mdel k m)) = v := by
  induction m with
  | nil => simp [mdel, mins, mget]
  | cons e t ih =>
    obtain ⟨i, w⟩ := e
    by_cases hk : i = k
    · simpa [mdel, hk] using ih
    · by_cases hl : k < i <;> simp [mdel, mins, mget, hk, hl, ih]

/-- A read after a write to the same key gives the value written. -/
@[simp] theorem mget_mset_same [DecidableEq α] (d : α) (k : Nat) (v : α) (m : SMap α) : mget d k (mset d k v m) = v := by
  unfold mset
  split
  · next h => rw [mget_mdel_same, h]
  · exact mget_mins_same d k v m

/-- A write leaves every other key alone. -/
@[simp] theorem mget_mset_ne [DecidableEq α] (d d' : α) {j k : Nat} (h : j ≠ k) (v : α) (m : SMap α) :
    mget d j (mset d' k v m) = mget d j m := by
  unfold mset
  split
  · exact mget_mdel_ne d h m
  · rw [mget_mins_ne d h, mget_mdel_ne d h]

/-- A read after a write, whichever the key. -/
theorem mget_mset [DecidableEq α] (d : α) (j k : Nat) (v : α) (m : SMap α) :
    mget d j (mset d k v m) = if j = k then v else mget d j m := by
  split
  · next h => rw [h, mget_mset_same]
  · next h => exact mget_mset_ne d d h v m

theorem mRising_mono {lo lo' : Nat} (h : lo' ≤ lo) (m : SMap α) (hm : mRising lo m = true) : mRising lo' m = true := by
  cases m with
  | nil => rfl
  | cons e t =>
    obtain ⟨k, v⟩ := e
    simp only [mRising, Bool.and_eq_true, decide_eq_true_eq] at hm ⊢
    exact ⟨by omega, hm.2⟩

theorem mRising_mdel (lo k : Nat) (m : SMap α) (hm : mRising lo m = true) : mRising lo (mdel k m) = true := by
  induction m generalizing lo with
  | nil => rfl
  | cons e t ih =>
    obtain ⟨j, v⟩ := e
    simp only [mRising, Bool.and_eq_true, decide_eq_true_eq] at hm
    by_cases h : j = k
    · simp only [mdel, h, if_true]
      exact mRising_mono (by omega) _ (ih _ hm.2)
    · simp [mdel, h, mRising, hm.1, ih _ hm.2]

theorem mRising_mins (lo k : Nat) (v : α) (m : SMap α) (hlo : lo ≤ k) (hm : mRising lo m = true) (hk : mdel k m = m) :
    mRising lo (mins k v m) = true := by
  induction m generalizing lo with
  | nil => simp [mins, mRising, hlo]
  | cons e t ih =>
    obtain ⟨j, w⟩ := e
    simp only [mRising, Bool.and_eq_true, decide_eq_true_eq] at hm
    by_cases hj : j = k
    · exfalso
      have h2 : (mdel k ((j, w) :: t)).length = ((j, w) :: t).length := congrArg _ hk
      have h3 : (mdel k t).length ≤ t.length := by
        clear ih hm h2 hk
        induction t with
        | nil => exact Nat.le_refl 0
        | cons e t ih => obtain ⟨i, u⟩ := e; by_cases hi : i = k <;> simp [mdel, hi] <;> omega
      simp [mdel, hj] at h2
      omega
    · have ht : mdel k t = t := by simpa [mdel, hj] using hk
      by_cases hl : k < j
      · simp only [mins, hl, if_true, mRising, Bool.and_eq_true, decide_eq_true_eq]
        exact ⟨hlo, by omega, hm.2⟩
      · simp only [mins, hl, if_false, mRising, Bool.and_eq_true, decide_eq_true_eq]
        exact ⟨hm.1, ih (j + 1) (by omega) hm.2 ht⟩

theorem mdel_mdel (k : Nat) (m : SMap α) : mdel k (mdel k m) = mdel k m := by
  induction m with
  | nil => rfl
  | cons e t ih => obtain ⟨j, v⟩ := e; by_cases h : j = k <;> simp [mdel, h, ih]

theorem mem_mdel {k : Nat} {m : SMap α} {e : Nat × α} (h : e ∈ mdel k m) : e ∈ m := by
  induction m with
  | nil => exact h
  | cons f t ih =>
    obtain ⟨j, v⟩ := f
    by_cases hj : j = k
    · rw [mdel, if_pos hj] at h
      exact List.mem_cons_of_mem _ (ih h)
    · rw [mdel, if_neg hj] at h
      rcases List.mem_cons.mp h with h | h
      · exact h ▸ List.mem_cons_self
      · exact List.mem_cons_of_mem _ (ih h)

theorem mem_mins {k : Nat} {v : α} {m : SMap α} {e : Nat × α} (h : e ∈ mins k v m) : e = (k, v) ∨ e ∈ m := by
  induction m with
  | nil => exact Or.inl (List.mem_singleton.mp h)
  | cons f t ih =>
    obtain ⟨j, w⟩ := f
    by_cases hk : k < j
    · rw [mins, if_pos hk] at h
      exact List.mem_cons.mp h
    · rw [mins, if_neg hk] at h
      rcases List.mem_cons.mp h with h | h
      · exact Or.inr (h ▸ List.mem_cons_self)
      · rcases ih h with h | h
        · exact Or.inl h
        · exact Or.inr (List.mem_cons_of_mem _ h)

/-- A write keeps the canonical form. -/
theorem mWf_mset [DecidableEq α] (d : α) (k : Nat) (v : α) (m : SMap α) (h : mWf d m = true) :
    mWf d (mset d k v m) = true := by
  simp only [mWf, Bool.and_eq_true, List.all_eq_true, decide_eq_true_eq] at h ⊢
  unfold mset
  split
  · exact ⟨mRising_mdel 0 k m h.1, fun e he => h.2 e (mem_mdel he)⟩
  · next hv =>
    refine ⟨mRising_mins 0 k v _ (Nat.zero_le k) (mRising_mdel 0 k m h.1) (mdel_mdel k m), fun e he => ?_⟩
    rcases mem_mins he with rfl | he
    · exact hv
    · exact h.2 e (mem_mdel he)

/-- A write of consecutive keys keeps the canonical form. -/
theorem mWf_msetList [DecidableEq α] (d : α) (k : Nat) (vs : List α) (m : SMap α) (h : mWf d m = true) :
    mWf d (msetList d k vs m) = true := by
  induction vs generalizing k m with
  | nil => exact h
  | cons v t ih => exact ih (k + 1) _ (mWf_mset d k v m h)

/-- A write of consecutive keys leaves every key outside them alone. -/
theorem mget_msetList_ne [DecidableEq α] (d : α) (k : Nat) (vs : List α) (m : SMap α) (j : Nat)
    (h : j < k ∨ k + vs.length ≤ j) : mget d j (msetList d k vs m) = mget d j m := by
  induction vs generalizing k m with
  | nil => rfl
  | cons v t ih =>
    rw [msetList, ih, mget_mset_ne]
    · rcases h with h | h
      · omega
      · rw [List.length_cons] at h; omega
    · rcases h with h | h
      · omega
      · rw [List.length_cons] at h; omega

end Sys2Proof.Machine
end

