-- ==== Sys2Proof/Laws/State.lean ====
section
/-! SUPPORT. Every update of the state and every field of it: what an update leaves alone, and what it writes. -/
namespace Sys2Proof.Machine

variable (s : State)

@[simp] theorem setReg_pending (k : Nat) (w : Word) : (s.setReg k w).pending = s.pending := rfl
@[simp] theorem setReg_dtb (k : Nat) (w : Word) : (s.setReg k w).dtb = s.dtb := rfl
@[simp] theorem setReg_shd (k : Nat) (w : Word) : (s.setReg k w).shd = s.shd := rfl
@[simp] theorem setReg_pend (k : Nat) (w : Word) : (s.setReg k w).pend = s.pend := rfl
@[simp] theorem setReg_nextFrame (k : Nat) (w : Word) : (s.setReg k w).nextFrame = s.nextFrame := rfl
@[simp] theorem setReg_answer (k : Nat) (w : Word) : (s.setReg k w).answer = s.answer := rfl
@[simp] theorem setReg_drawn (k : Nat) (w : Word) : (s.setReg k w).drawn = s.drawn := rfl
@[simp] theorem setReg_loops (k : Nat) (w : Word) : (s.setReg k w).loops = s.loops := rfl
@[simp] theorem setReg_pairs (k : Nat) (w : Word) : (s.setReg k w).pairs = s.pairs := rfl
@[simp] theorem setReg_slots (k : Nat) (w : Word) : (s.setReg k w).slots = s.slots := rfl
@[simp] theorem setReg_cells (k : Nat) (w : Word) : (s.setReg k w).cells = s.cells := rfl
@[simp] theorem setReg_placer (k : Nat) (w : Word) : (s.setReg k w).placer = s.placer := rfl
@[simp] theorem setReg_image (k : Nat) (w : Word) : (s.setReg k w).image = s.image := rfl
@[simp] theorem setReg_marked (k : Nat) (w : Word) : (s.setReg k w).marked = s.marked := rfl
@[simp] theorem setReg_hwk (k : Nat) (w : Word) : (s.setReg k w).hwk = s.hwk := rfl
@[simp] theorem setReg_traces (k : Nat) (w : Word) : (s.setReg k w).traces = s.traces := rfl
@[simp] theorem setReg_pwr (k : Nat) (w : Word) : (s.setReg k w).pwr = s.pwr := rfl
@[simp] theorem setReg_sessions (k : Nat) (w : Word) : (s.setReg k w).sessions = s.sessions := rfl
@[simp] theorem setReg_fe (k : Nat) (w : Word) : (s.setReg k w).fe = s.fe := rfl
@[simp] theorem setReg_col (k : Nat) (w : Word) : (s.setReg k w).col = s.col := rfl
@[simp] theorem setReg_trunks (k : Nat) (w : Word) : (s.setReg k w).trunks = s.trunks := rfl
@[simp] theorem setReg_nodeHist (k : Nat) (w : Word) : (s.setReg k w).nodeHist = s.nodeHist := rfl
@[simp] theorem setReg_ports (k : Nat) (w : Word) : (s.setReg k w).ports = s.ports := rfl
@[simp] theorem setReg_sv (k : Nat) (w : Word) : (s.setReg k w).sv = s.sv := rfl
@[simp] theorem setReg_fans (k : Nat) (w : Word) : (s.setReg k w).fans = s.fans := rfl
@[simp] theorem setReg_dio (k : Nat) (w : Word) : (s.setReg k w).dio = s.dio := rfl
@[simp] theorem setReg_host (k : Nat) (w : Word) : (s.setReg k w).host = s.host := rfl
@[simp] theorem setReg_face (k : Nat) (w : Word) : (s.setReg k w).face = s.face := rfl
@[simp] theorem setReg_svcTag (k : Nat) (w : Word) : (s.setReg k w).svcTag = s.svcTag := rfl
@[simp] theorem setReg_recd (k : Nat) (w : Word) : (s.setReg k w).recd = s.recd := rfl
@[simp] theorem setReg_rtc (k : Nat) (w : Word) : (s.setReg k w).rtc = s.rtc := rfl
@[simp] theorem setReg_ctl (k : Nat) (w : Word) : (s.setReg k w).ctl = s.ctl := rfl

@[simp] theorem setShadow_pending (k : Nat) (w : Word) : (s.setShadow k w).pending = s.pending := rfl
@[simp] theorem setShadow_dtb (k : Nat) (w : Word) : (s.setShadow k w).dtb = s.dtb := rfl
@[simp] theorem setShadow_act (k : Nat) (w : Word) : (s.setShadow k w).act = s.act := rfl
@[simp] theorem setShadow_pend (k : Nat) (w : Word) : (s.setShadow k w).pend = s.pend := rfl
@[simp] theorem setShadow_nextFrame (k : Nat) (w : Word) : (s.setShadow k w).nextFrame = s.nextFrame := rfl
@[simp] theorem setShadow_answer (k : Nat) (w : Word) : (s.setShadow k w).answer = s.answer := rfl
@[simp] theorem setShadow_drawn (k : Nat) (w : Word) : (s.setShadow k w).drawn = s.drawn := rfl
@[simp] theorem setShadow_loops (k : Nat) (w : Word) : (s.setShadow k w).loops = s.loops := rfl
@[simp] theorem setShadow_pairs (k : Nat) (w : Word) : (s.setShadow k w).pairs = s.pairs := rfl
@[simp] theorem setShadow_slots (k : Nat) (w : Word) : (s.setShadow k w).slots = s.slots := rfl
@[simp] theorem setShadow_cells (k : Nat) (w : Word) : (s.setShadow k w).cells = s.cells := rfl
@[simp] theorem setShadow_placer (k : Nat) (w : Word) : (s.setShadow k w).placer = s.placer := rfl
@[simp] theorem setShadow_image (k : Nat) (w : Word) : (s.setShadow k w).image = s.image := rfl
@[simp] theorem setShadow_marked (k : Nat) (w : Word) : (s.setShadow k w).marked = s.marked := rfl
@[simp] theorem setShadow_hwk (k : Nat) (w : Word) : (s.setShadow k w).hwk = s.hwk := rfl
@[simp] theorem setShadow_traces (k : Nat) (w : Word) : (s.setShadow k w).traces = s.traces := rfl
@[simp] theorem setShadow_pwr (k : Nat) (w : Word) : (s.setShadow k w).pwr = s.pwr := rfl
@[simp] theorem setShadow_sessions (k : Nat) (w : Word) : (s.setShadow k w).sessions = s.sessions := rfl
@[simp] theorem setShadow_fe (k : Nat) (w : Word) : (s.setShadow k w).fe = s.fe := rfl
@[simp] theorem setShadow_col (k : Nat) (w : Word) : (s.setShadow k w).col = s.col := rfl
@[simp] theorem setShadow_trunks (k : Nat) (w : Word) : (s.setShadow k w).trunks = s.trunks := rfl
@[simp] theorem setShadow_nodeHist (k : Nat) (w : Word) : (s.setShadow k w).nodeHist = s.nodeHist := rfl
@[simp] theorem setShadow_ports (k : Nat) (w : Word) : (s.setShadow k w).ports = s.ports := rfl
@[simp] theorem setShadow_sv (k : Nat) (w : Word) : (s.setShadow k w).sv = s.sv := rfl
@[simp] theorem setShadow_fans (k : Nat) (w : Word) : (s.setShadow k w).fans = s.fans := rfl
@[simp] theorem setShadow_dio (k : Nat) (w : Word) : (s.setShadow k w).dio = s.dio := rfl
@[simp] theorem setShadow_host (k : Nat) (w : Word) : (s.setShadow k w).host = s.host := rfl
@[simp] theorem setShadow_face (k : Nat) (w : Word) : (s.setShadow k w).face = s.face := rfl
@[simp] theorem setShadow_svcTag (k : Nat) (w : Word) : (s.setShadow k w).svcTag = s.svcTag := rfl
@[simp] theorem setShadow_recd (k : Nat) (w : Word) : (s.setShadow k w).recd = s.recd := rfl
@[simp] theorem setShadow_rtc (k : Nat) (w : Word) : (s.setShadow k w).rtc = s.rtc := rfl
@[simp] theorem setShadow_ctl (k : Nat) (w : Word) : (s.setShadow k w).ctl = s.ctl := rfl

@[simp] theorem setRegF_pending (k hi lo v : Nat) : (s.setRegF k hi lo v).pending = s.pending := rfl
@[simp] theorem setRegF_dtb (k hi lo v : Nat) : (s.setRegF k hi lo v).dtb = s.dtb := rfl
@[simp] theorem setRegF_shd (k hi lo v : Nat) : (s.setRegF k hi lo v).shd = s.shd := rfl
@[simp] theorem setRegF_pend (k hi lo v : Nat) : (s.setRegF k hi lo v).pend = s.pend := rfl
@[simp] theorem setRegF_nextFrame (k hi lo v : Nat) : (s.setRegF k hi lo v).nextFrame = s.nextFrame := rfl
@[simp] theorem setRegF_answer (k hi lo v : Nat) : (s.setRegF k hi lo v).answer = s.answer := rfl
@[simp] theorem setRegF_drawn (k hi lo v : Nat) : (s.setRegF k hi lo v).drawn = s.drawn := rfl
@[simp] theorem setRegF_loops (k hi lo v : Nat) : (s.setRegF k hi lo v).loops = s.loops := rfl
@[simp] theorem setRegF_pairs (k hi lo v : Nat) : (s.setRegF k hi lo v).pairs = s.pairs := rfl
@[simp] theorem setRegF_slots (k hi lo v : Nat) : (s.setRegF k hi lo v).slots = s.slots := rfl
@[simp] theorem setRegF_cells (k hi lo v : Nat) : (s.setRegF k hi lo v).cells = s.cells := rfl
@[simp] theorem setRegF_placer (k hi lo v : Nat) : (s.setRegF k hi lo v).placer = s.placer := rfl
@[simp] theorem setRegF_image (k hi lo v : Nat) : (s.setRegF k hi lo v).image = s.image := rfl
@[simp] theorem setRegF_marked (k hi lo v : Nat) : (s.setRegF k hi lo v).marked = s.marked := rfl
@[simp] theorem setRegF_hwk (k hi lo v : Nat) : (s.setRegF k hi lo v).hwk = s.hwk := rfl
@[simp] theorem setRegF_traces (k hi lo v : Nat) : (s.setRegF k hi lo v).traces = s.traces := rfl
@[simp] theorem setRegF_pwr (k hi lo v : Nat) : (s.setRegF k hi lo v).pwr = s.pwr := rfl
@[simp] theorem setRegF_sessions (k hi lo v : Nat) : (s.setRegF k hi lo v).sessions = s.sessions := rfl
@[simp] theorem setRegF_fe (k hi lo v : Nat) : (s.setRegF k hi lo v).fe = s.fe := rfl
@[simp] theorem setRegF_col (k hi lo v : Nat) : (s.setRegF k hi lo v).col = s.col := rfl
@[simp] theorem setRegF_trunks (k hi lo v : Nat) : (s.setRegF k hi lo v).trunks = s.trunks := rfl
@[simp] theorem setRegF_nodeHist (k hi lo v : Nat) : (s.setRegF k hi lo v).nodeHist = s.nodeHist := rfl
@[simp] theorem setRegF_ports (k hi lo v : Nat) : (s.setRegF k hi lo v).ports = s.ports := rfl
@[simp] theorem setRegF_sv (k hi lo v : Nat) : (s.setRegF k hi lo v).sv = s.sv := rfl
@[simp] theorem setRegF_fans (k hi lo v : Nat) : (s.setRegF k hi lo v).fans = s.fans := rfl
@[simp] theorem setRegF_dio (k hi lo v : Nat) : (s.setRegF k hi lo v).dio = s.dio := rfl
@[simp] theorem setRegF_host (k hi lo v : Nat) : (s.setRegF k hi lo v).host = s.host := rfl
@[simp] theorem setRegF_face (k hi lo v : Nat) : (s.setRegF k hi lo v).face = s.face := rfl
@[simp] theorem setRegF_svcTag (k hi lo v : Nat) : (s.setRegF k hi lo v).svcTag = s.svcTag := rfl
@[simp] theorem setRegF_recd (k hi lo v : Nat) : (s.setRegF k hi lo v).recd = s.recd := rfl
@[simp] theorem setRegF_rtc (k hi lo v : Nat) : (s.setRegF k hi lo v).rtc = s.rtc := rfl
@[simp] theorem setRegF_ctl (k hi lo v : Nat) : (s.setRegF k hi lo v).ctl = s.ctl := rfl

@[simp] theorem setRegB_pending (k i : Nat) (b : Bool) : (s.setRegB k i b).pending = s.pending := rfl
@[simp] theorem setRegB_dtb (k i : Nat) (b : Bool) : (s.setRegB k i b).dtb = s.dtb := rfl
@[simp] theorem setRegB_shd (k i : Nat) (b : Bool) : (s.setRegB k i b).shd = s.shd := rfl
@[simp] theorem setRegB_pend (k i : Nat) (b : Bool) : (s.setRegB k i b).pend = s.pend := rfl
@[simp] theorem setRegB_nextFrame (k i : Nat) (b : Bool) : (s.setRegB k i b).nextFrame = s.nextFrame := rfl
@[simp] theorem setRegB_answer (k i : Nat) (b : Bool) : (s.setRegB k i b).answer = s.answer := rfl
@[simp] theorem setRegB_drawn (k i : Nat) (b : Bool) : (s.setRegB k i b).drawn = s.drawn := rfl
@[simp] theorem setRegB_loops (k i : Nat) (b : Bool) : (s.setRegB k i b).loops = s.loops := rfl
@[simp] theorem setRegB_pairs (k i : Nat) (b : Bool) : (s.setRegB k i b).pairs = s.pairs := rfl
@[simp] theorem setRegB_slots (k i : Nat) (b : Bool) : (s.setRegB k i b).slots = s.slots := rfl
@[simp] theorem setRegB_cells (k i : Nat) (b : Bool) : (s.setRegB k i b).cells = s.cells := rfl
@[simp] theorem setRegB_placer (k i : Nat) (b : Bool) : (s.setRegB k i b).placer = s.placer := rfl
@[simp] theorem setRegB_image (k i : Nat) (b : Bool) : (s.setRegB k i b).image = s.image := rfl
@[simp] theorem setRegB_marked (k i : Nat) (b : Bool) : (s.setRegB k i b).marked = s.marked := rfl
@[simp] theorem setRegB_hwk (k i : Nat) (b : Bool) : (s.setRegB k i b).hwk = s.hwk := rfl
@[simp] theorem setRegB_traces (k i : Nat) (b : Bool) : (s.setRegB k i b).traces = s.traces := rfl
@[simp] theorem setRegB_pwr (k i : Nat) (b : Bool) : (s.setRegB k i b).pwr = s.pwr := rfl
@[simp] theorem setRegB_sessions (k i : Nat) (b : Bool) : (s.setRegB k i b).sessions = s.sessions := rfl
@[simp] theorem setRegB_fe (k i : Nat) (b : Bool) : (s.setRegB k i b).fe = s.fe := rfl
@[simp] theorem setRegB_col (k i : Nat) (b : Bool) : (s.setRegB k i b).col = s.col := rfl
@[simp] theorem setRegB_trunks (k i : Nat) (b : Bool) : (s.setRegB k i b).trunks = s.trunks := rfl
@[simp] theorem setRegB_nodeHist (k i : Nat) (b : Bool) : (s.setRegB k i b).nodeHist = s.nodeHist := rfl
@[simp] theorem setRegB_ports (k i : Nat) (b : Bool) : (s.setRegB k i b).ports = s.ports := rfl
@[simp] theorem setRegB_sv (k i : Nat) (b : Bool) : (s.setRegB k i b).sv = s.sv := rfl
@[simp] theorem setRegB_fans (k i : Nat) (b : Bool) : (s.setRegB k i b).fans = s.fans := rfl
@[simp] theorem setRegB_dio (k i : Nat) (b : Bool) : (s.setRegB k i b).dio = s.dio := rfl
@[simp] theorem setRegB_host (k i : Nat) (b : Bool) : (s.setRegB k i b).host = s.host := rfl
@[simp] theorem setRegB_face (k i : Nat) (b : Bool) : (s.setRegB k i b).face = s.face := rfl
@[simp] theorem setRegB_svcTag (k i : Nat) (b : Bool) : (s.setRegB k i b).svcTag = s.svcTag := rfl
@[simp] theorem setRegB_recd (k i : Nat) (b : Bool) : (s.setRegB k i b).recd = s.recd := rfl
@[simp] theorem setRegB_rtc (k i : Nat) (b : Bool) : (s.setRegB k i b).rtc = s.rtc := rfl
@[simp] theorem setRegB_ctl (k i : Nat) (b : Bool) : (s.setRegB k i b).ctl = s.ctl := rfl

@[simp] theorem countReg_pending (k hi lo max n : Nat) : (s.countReg k hi lo max n).pending = s.pending := rfl
@[simp] theorem countReg_dtb (k hi lo max n : Nat) : (s.countReg k hi lo max n).dtb = s.dtb := rfl
@[simp] theorem countReg_shd (k hi lo max n : Nat) : (s.countReg k hi lo max n).shd = s.shd := rfl
@[simp] theorem countReg_pend (k hi lo max n : Nat) : (s.countReg k hi lo max n).pend = s.pend := rfl
@[simp] theorem countReg_nextFrame (k hi lo max n : Nat) : (s.countReg k hi lo max n).nextFrame = s.nextFrame := rfl
@[simp] theorem countReg_answer (k hi lo max n : Nat) : (s.countReg k hi lo max n).answer = s.answer := rfl
@[simp] theorem countReg_drawn (k hi lo max n : Nat) : (s.countReg k hi lo max n).drawn = s.drawn := rfl
@[simp] theorem countReg_loops (k hi lo max n : Nat) : (s.countReg k hi lo max n).loops = s.loops := rfl
@[simp] theorem countReg_pairs (k hi lo max n : Nat) : (s.countReg k hi lo max n).pairs = s.pairs := rfl
@[simp] theorem countReg_slots (k hi lo max n : Nat) : (s.countReg k hi lo max n).slots = s.slots := rfl
@[simp] theorem countReg_cells (k hi lo max n : Nat) : (s.countReg k hi lo max n).cells = s.cells := rfl
@[simp] theorem countReg_placer (k hi lo max n : Nat) : (s.countReg k hi lo max n).placer = s.placer := rfl
@[simp] theorem countReg_image (k hi lo max n : Nat) : (s.countReg k hi lo max n).image = s.image := rfl
@[simp] theorem countReg_marked (k hi lo max n : Nat) : (s.countReg k hi lo max n).marked = s.marked := rfl
@[simp] theorem countReg_hwk (k hi lo max n : Nat) : (s.countReg k hi lo max n).hwk = s.hwk := rfl
@[simp] theorem countReg_traces (k hi lo max n : Nat) : (s.countReg k hi lo max n).traces = s.traces := rfl
@[simp] theorem countReg_pwr (k hi lo max n : Nat) : (s.countReg k hi lo max n).pwr = s.pwr := rfl
@[simp] theorem countReg_sessions (k hi lo max n : Nat) : (s.countReg k hi lo max n).sessions = s.sessions := rfl
@[simp] theorem countReg_fe (k hi lo max n : Nat) : (s.countReg k hi lo max n).fe = s.fe := rfl
@[simp] theorem countReg_col (k hi lo max n : Nat) : (s.countReg k hi lo max n).col = s.col := rfl
@[simp] theorem countReg_trunks (k hi lo max n : Nat) : (s.countReg k hi lo max n).trunks = s.trunks := rfl
@[simp] theorem countReg_nodeHist (k hi lo max n : Nat) : (s.countReg k hi lo max n).nodeHist = s.nodeHist := rfl
@[simp] theorem countReg_ports (k hi lo max n : Nat) : (s.countReg k hi lo max n).ports = s.ports := rfl
@[simp] theorem countReg_sv (k hi lo max n : Nat) : (s.countReg k hi lo max n).sv = s.sv := rfl
@[simp] theorem countReg_fans (k hi lo max n : Nat) : (s.countReg k hi lo max n).fans = s.fans := rfl
@[simp] theorem countReg_dio (k hi lo max n : Nat) : (s.countReg k hi lo max n).dio = s.dio := rfl
@[simp] theorem countReg_host (k hi lo max n : Nat) : (s.countReg k hi lo max n).host = s.host := rfl
@[simp] theorem countReg_face (k hi lo max n : Nat) : (s.countReg k hi lo max n).face = s.face := rfl
@[simp] theorem countReg_svcTag (k hi lo max n : Nat) : (s.countReg k hi lo max n).svcTag = s.svcTag := rfl
@[simp] theorem countReg_recd (k hi lo max n : Nat) : (s.countReg k hi lo max n).recd = s.recd := rfl
@[simp] theorem countReg_rtc (k hi lo max n : Nat) : (s.countReg k hi lo max n).rtc = s.rtc := rfl
@[simp] theorem countReg_ctl (k hi lo max n : Nat) : (s.countReg k hi lo max n).ctl = s.ctl := rfl

@[simp] theorem emitAt_pending (stamp code cell : Nat) (body : List Word) : (s.emitAt stamp code cell body).pending = s.pending := rfl
@[simp] theorem emitAt_dtb (stamp code cell : Nat) (body : List Word) : (s.emitAt stamp code cell body).dtb = s.dtb := rfl
@[simp] theorem emitAt_act (stamp code cell : Nat) (body : List Word) : (s.emitAt stamp code cell body).act = s.act := rfl
@[simp] theorem emitAt_shd (stamp code cell : Nat) (body : List Word) : (s.emitAt stamp code cell body).shd = s.shd := rfl
@[simp] theorem emitAt_pend (stamp code cell : Nat) (body : List Word) : (s.emitAt stamp code cell body).pend = s.pend := rfl
@[simp] theorem emitAt_nextFrame (stamp code cell : Nat) (body : List Word) : (s.emitAt stamp code cell body).nextFrame = s.nextFrame := rfl
@[simp] theorem emitAt_answer (stamp code cell : Nat) (body : List Word) : (s.emitAt stamp code cell body).answer = s.answer := rfl
@[simp] theorem emitAt_drawn (stamp code cell : Nat) (body : List Word) : (s.emitAt stamp code cell body).drawn = s.drawn := rfl
@[simp] theorem emitAt_loops (stamp code cell : Nat) (body : List Word) : (s.emitAt stamp code cell body).loops = s.loops := rfl
@[simp] theorem emitAt_pairs (stamp code cell : Nat) (body : List Word) : (s.emitAt stamp code cell body).pairs = s.pairs := rfl
@[simp] theorem emitAt_slots (stamp code cell : Nat) (body : List Word) : (s.emitAt stamp code cell body).slots = s.slots := rfl
@[simp] theorem emitAt_cells (stamp code cell : Nat) (body : List Word) : (s.emitAt stamp code cell body).cells = s.cells := rfl
@[simp] theorem emitAt_placer (stamp code cell : Nat) (body : List Word) : (s.emitAt stamp code cell body).placer = s.placer := rfl
@[simp] theorem emitAt_image (stamp code cell : Nat) (body : List Word) : (s.emitAt stamp code cell body).image = s.image := rfl
@[simp] theorem emitAt_marked (stamp code cell : Nat) (body : List Word) : (s.emitAt stamp code cell body).marked = s.marked := rfl
@[simp] theorem emitAt_hwk (stamp code cell : Nat) (body : List Word) : (s.emitAt stamp code cell body).hwk = s.hwk := rfl
@[simp] theorem emitAt_traces (stamp code cell : Nat) (body : List Word) : (s.emitAt stamp code cell body).traces = s.traces := rfl
@[simp] theorem emitAt_pwr (stamp code cell : Nat) (body : List Word) : (s.emitAt stamp code cell body).pwr = s.pwr := rfl
@[simp] theorem emitAt_sessions (stamp code cell : Nat) (body : List Word) : (s.emitAt stamp code cell body).sessions = s.sessions := rfl
@[simp] theorem emitAt_fe (stamp code cell : Nat) (body : List Word) : (s.emitAt stamp code cell body).fe = s.fe := rfl
@[simp] theorem emitAt_col (stamp code cell : Nat) (body : List Word) : (s.emitAt stamp code cell body).col = s.col := rfl
@[simp] theorem emitAt_trunks (stamp code cell : Nat) (body : List Word) : (s.emitAt stamp code cell body).trunks = s.trunks := rfl
@[simp] theorem emitAt_nodeHist (stamp code cell : Nat) (body : List Word) : (s.emitAt stamp code cell body).nodeHist = s.nodeHist := rfl
@[simp] theorem emitAt_ports (stamp code cell : Nat) (body : List Word) : (s.emitAt stamp code cell body).ports = s.ports := rfl
@[simp] theorem emitAt_sv (stamp code cell : Nat) (body : List Word) : (s.emitAt stamp code cell body).sv = s.sv := rfl
@[simp] theorem emitAt_fans (stamp code cell : Nat) (body : List Word) : (s.emitAt stamp code cell body).fans = s.fans := rfl
@[simp] theorem emitAt_dio (stamp code cell : Nat) (body : List Word) : (s.emitAt stamp code cell body).dio = s.dio := rfl
@[simp] theorem emitAt_host (stamp code cell : Nat) (body : List Word) : (s.emitAt stamp code cell body).host = s.host := rfl
@[simp] theorem emitAt_face (stamp code cell : Nat) (body : List Word) : (s.emitAt stamp code cell body).face = s.face := rfl
@[simp] theorem emitAt_svcTag (stamp code cell : Nat) (body : List Word) : (s.emitAt stamp code cell body).svcTag = s.svcTag := rfl
@[simp] theorem emitAt_rtc (stamp code cell : Nat) (body : List Word) : (s.emitAt stamp code cell body).rtc = s.rtc := rfl
@[simp] theorem emitAt_ctl (stamp code cell : Nat) (body : List Word) : (s.emitAt stamp code cell body).ctl = s.ctl := rfl

@[simp] theorem emit_pending (code cell : Nat) (body : List Word) : (s.emit code cell body).pending = s.pending := rfl
@[simp] theorem emit_dtb (code cell : Nat) (body : List Word) : (s.emit code cell body).dtb = s.dtb := rfl
@[simp] theorem emit_act (code cell : Nat) (body : List Word) : (s.emit code cell body).act = s.act := rfl
@[simp] theorem emit_shd (code cell : Nat) (body : List Word) : (s.emit code cell body).shd = s.shd := rfl
@[simp] theorem emit_pend (code cell : Nat) (body : List Word) : (s.emit code cell body).pend = s.pend := rfl
@[simp] theorem emit_nextFrame (code cell : Nat) (body : List Word) : (s.emit code cell body).nextFrame = s.nextFrame := rfl
@[simp] theorem emit_answer (code cell : Nat) (body : List Word) : (s.emit code cell body).answer = s.answer := rfl
@[simp] theorem emit_drawn (code cell : Nat) (body : List Word) : (s.emit code cell body).drawn = s.drawn := rfl
@[simp] theorem emit_loops (code cell : Nat) (body : List Word) : (s.emit code cell body).loops = s.loops := rfl
@[simp] theorem emit_pairs (code cell : Nat) (body : List Word) : (s.emit code cell body).pairs = s.pairs := rfl
@[simp] theorem emit_slots (code cell : Nat) (body : List Word) : (s.emit code cell body).slots = s.slots := rfl
@[simp] theorem emit_cells (code cell : Nat) (body : List Word) : (s.emit code cell body).cells = s.cells := rfl
@[simp] theorem emit_placer (code cell : Nat) (body : List Word) : (s.emit code cell body).placer = s.placer := rfl
@[simp] theorem emit_image (code cell : Nat) (body : List Word) : (s.emit code cell body).image = s.image := rfl
@[simp] theorem emit_marked (code cell : Nat) (body : List Word) : (s.emit code cell body).marked = s.marked := rfl
@[simp] theorem emit_hwk (code cell : Nat) (body : List Word) : (s.emit code cell body).hwk = s.hwk := rfl
@[simp] theorem emit_traces (code cell : Nat) (body : List Word) : (s.emit code cell body).traces = s.traces := rfl
@[simp] theorem emit_pwr (code cell : Nat) (body : List Word) : (s.emit code cell body).pwr = s.pwr := rfl
@[simp] theorem emit_sessions (code cell : Nat) (body : List Word) : (s.emit code cell body).sessions = s.sessions := rfl
@[simp] theorem emit_fe (code cell : Nat) (body : List Word) : (s.emit code cell body).fe = s.fe := rfl
@[simp] theorem emit_col (code cell : Nat) (body : List Word) : (s.emit code cell body).col = s.col := rfl
@[simp] theorem emit_trunks (code cell : Nat) (body : List Word) : (s.emit code cell body).trunks = s.trunks := rfl
@[simp] theorem emit_nodeHist (code cell : Nat) (body : List Word) : (s.emit code cell body).nodeHist = s.nodeHist := rfl
@[simp] theorem emit_ports (code cell : Nat) (body : List Word) : (s.emit code cell body).ports = s.ports := rfl
@[simp] theorem emit_sv (code cell : Nat) (body : List Word) : (s.emit code cell body).sv = s.sv := rfl
@[simp] theorem emit_fans (code cell : Nat) (body : List Word) : (s.emit code cell body).fans = s.fans := rfl
@[simp] theorem emit_dio (code cell : Nat) (body : List Word) : (s.emit code cell body).dio = s.dio := rfl
@[simp] theorem emit_host (code cell : Nat) (body : List Word) : (s.emit code cell body).host = s.host := rfl
@[simp] theorem emit_face (code cell : Nat) (body : List Word) : (s.emit code cell body).face = s.face := rfl
@[simp] theorem emit_svcTag (code cell : Nat) (body : List Word) : (s.emit code cell body).svcTag = s.svcTag := rfl
@[simp] theorem emit_rtc (code cell : Nat) (body : List Word) : (s.emit code cell body).rtc = s.rtc := rfl
@[simp] theorem emit_ctl (code cell : Nat) (body : List Word) : (s.emit code cell body).ctl = s.ctl := rfl

@[simp] theorem draw_pending : (s.draw).pending = s.pending := rfl
@[simp] theorem draw_dtb : (s.draw).dtb = s.dtb := rfl
@[simp] theorem draw_act : (s.draw).act = s.act := rfl
@[simp] theorem draw_shd : (s.draw).shd = s.shd := rfl
@[simp] theorem draw_pend : (s.draw).pend = s.pend := rfl
@[simp] theorem draw_nextFrame : (s.draw).nextFrame = s.nextFrame := rfl
@[simp] theorem draw_answer : (s.draw).answer = s.answer := rfl
@[simp] theorem draw_loops : (s.draw).loops = s.loops := rfl
@[simp] theorem draw_pairs : (s.draw).pairs = s.pairs := rfl
@[simp] theorem draw_slots : (s.draw).slots = s.slots := rfl
@[simp] theorem draw_cells : (s.draw).cells = s.cells := rfl
@[simp] theorem draw_placer : (s.draw).placer = s.placer := rfl
@[simp] theorem draw_image : (s.draw).image = s.image := rfl
@[simp] theorem draw_marked : (s.draw).marked = s.marked := rfl
@[simp] theorem draw_hwk : (s.draw).hwk = s.hwk := rfl
@[simp] theorem draw_traces : (s.draw).traces = s.traces := rfl
@[simp] theorem draw_pwr : (s.draw).pwr = s.pwr := rfl
@[simp] theorem draw_sessions : (s.draw).sessions = s.sessions := rfl
@[simp] theorem draw_fe : (s.draw).fe = s.fe := rfl
@[simp] theorem draw_col : (s.draw).col = s.col := rfl
@[simp] theorem draw_trunks : (s.draw).trunks = s.trunks := rfl
@[simp] theorem draw_nodeHist : (s.draw).nodeHist = s.nodeHist := rfl
@[simp] theorem draw_ports : (s.draw).ports = s.ports := rfl
@[simp] theorem draw_sv : (s.draw).sv = s.sv := rfl
@[simp] theorem draw_fans : (s.draw).fans = s.fans := rfl
@[simp] theorem draw_dio : (s.draw).dio = s.dio := rfl
@[simp] theorem draw_host : (s.draw).host = s.host := rfl
@[simp] theorem draw_face : (s.draw).face = s.face := rfl
@[simp] theorem draw_svcTag : (s.draw).svcTag = s.svcTag := rfl
@[simp] theorem draw_recd : (s.draw).recd = s.recd := rfl
@[simp] theorem draw_rtc : (s.draw).rtc = s.rtc := rfl
@[simp] theorem draw_ctl : (s.draw).ctl = s.ctl := rfl

@[simp] theorem setLoop_pending (l : Nat) (x : Loop) : (s.setLoop l x).pending = s.pending := rfl
@[simp] theorem setLoop_dtb (l : Nat) (x : Loop) : (s.setLoop l x).dtb = s.dtb := rfl
@[simp] theorem setLoop_act (l : Nat) (x : Loop) : (s.setLoop l x).act = s.act := rfl
@[simp] theorem setLoop_shd (l : Nat) (x : Loop) : (s.setLoop l x).shd = s.shd := rfl
@[simp] theorem setLoop_pend (l : Nat) (x : Loop) : (s.setLoop l x).pend = s.pend := rfl
@[simp] theorem setLoop_nextFrame (l : Nat) (x : Loop) : (s.setLoop l x).nextFrame = s.nextFrame := rfl
@[simp] theorem setLoop_answer (l : Nat) (x : Loop) : (s.setLoop l x).answer = s.answer := rfl
@[simp] theorem setLoop_drawn (l : Nat) (x : Loop) : (s.setLoop l x).drawn = s.drawn := rfl
@[simp] theorem setLoop_pairs (l : Nat) (x : Loop) : (s.setLoop l x).pairs = s.pairs := rfl
@[simp] theorem setLoop_slots (l : Nat) (x : Loop) : (s.setLoop l x).slots = s.slots := rfl
@[simp] theorem setLoop_cells (l : Nat) (x : Loop) : (s.setLoop l x).cells = s.cells := rfl
@[simp] theorem setLoop_placer (l : Nat) (x : Loop) : (s.setLoop l x).placer = s.placer := rfl
@[simp] theorem setLoop_image (l : Nat) (x : Loop) : (s.setLoop l x).image = s.image := rfl
@[simp] theorem setLoop_marked (l : Nat) (x : Loop) : (s.setLoop l x).marked = s.marked := rfl
@[simp] theorem setLoop_hwk (l : Nat) (x : Loop) : (s.setLoop l x).hwk = s.hwk := rfl
@[simp] theorem setLoop_traces (l : Nat) (x : Loop) : (s.setLoop l x).traces = s.traces := rfl
@[simp] theorem setLoop_pwr (l : Nat) (x : Loop) : (s.setLoop l x).pwr = s.pwr := rfl
@[simp] theorem setLoop_sessions (l : Nat) (x : Loop) : (s.setLoop l x).sessions = s.sessions := rfl
@[simp] theorem setLoop_fe (l : Nat) (x : Loop) : (s.setLoop l x).fe = s.fe := rfl
@[simp] theorem setLoop_col (l : Nat) (x : Loop) : (s.setLoop l x).col = s.col := rfl
@[simp] theorem setLoop_trunks (l : Nat) (x : Loop) : (s.setLoop l x).trunks = s.trunks := rfl
@[simp] theorem setLoop_nodeHist (l : Nat) (x : Loop) : (s.setLoop l x).nodeHist = s.nodeHist := rfl
@[simp] theorem setLoop_ports (l : Nat) (x : Loop) : (s.setLoop l x).ports = s.ports := rfl
@[simp] theorem setLoop_sv (l : Nat) (x : Loop) : (s.setLoop l x).sv = s.sv := rfl
@[simp] theorem setLoop_fans (l : Nat) (x : Loop) : (s.setLoop l x).fans = s.fans := rfl
@[simp] theorem setLoop_dio (l : Nat) (x : Loop) : (s.setLoop l x).dio = s.dio := rfl
@[simp] theorem setLoop_host (l : Nat) (x : Loop) : (s.setLoop l x).host = s.host := rfl
@[simp] theorem setLoop_face (l : Nat) (x : Loop) : (s.setLoop l x).face = s.face := rfl
@[simp] theorem setLoop_svcTag (l : Nat) (x : Loop) : (s.setLoop l x).svcTag = s.svcTag := rfl
@[simp] theorem setLoop_recd (l : Nat) (x : Loop) : (s.setLoop l x).recd = s.recd := rfl
@[simp] theorem setLoop_rtc (l : Nat) (x : Loop) : (s.setLoop l x).rtc = s.rtc := rfl
@[simp] theorem setLoop_ctl (l : Nat) (x : Loop) : (s.setLoop l x).ctl = s.ctl := rfl

@[simp] theorem setPair_pending (p : Nat) (x : Pair) : (s.setPair p x).pending = s.pending := rfl
@[simp] theorem setPair_dtb (p : Nat) (x : Pair) : (s.setPair p x).dtb = s.dtb := rfl
@[simp] theorem setPair_act (p : Nat) (x : Pair) : (s.setPair p x).act = s.act := rfl
@[simp] theorem setPair_shd (p : Nat) (x : Pair) : (s.setPair p x).shd = s.shd := rfl
@[simp] theorem setPair_pend (p : Nat) (x : Pair) : (s.setPair p x).pend = s.pend := rfl
@[simp] theorem setPair_nextFrame (p : Nat) (x : Pair) : (s.setPair p x).nextFrame = s.nextFrame := rfl
@[simp] theorem setPair_answer (p : Nat) (x : Pair) : (s.setPair p x).answer = s.answer := rfl
@[simp] theorem setPair_drawn (p : Nat) (x : Pair) : (s.setPair p x).drawn = s.drawn := rfl
@[simp] theorem setPair_loops (p : Nat) (x : Pair) : (s.setPair p x).loops = s.loops := rfl
@[simp] theorem setPair_slots (p : Nat) (x : Pair) : (s.setPair p x).slots = s.slots := rfl
@[simp] theorem setPair_cells (p : Nat) (x : Pair) : (s.setPair p x).cells = s.cells := rfl
@[simp] theorem setPair_placer (p : Nat) (x : Pair) : (s.setPair p x).placer = s.placer := rfl
@[simp] theorem setPair_image (p : Nat) (x : Pair) : (s.setPair p x).image = s.image := rfl
@[simp] theorem setPair_marked (p : Nat) (x : Pair) : (s.setPair p x).marked = s.marked := rfl
@[simp] theorem setPair_hwk (p : Nat) (x : Pair) : (s.setPair p x).hwk = s.hwk := rfl
@[simp] theorem setPair_traces (p : Nat) (x : Pair) : (s.setPair p x).traces = s.traces := rfl
@[simp] theorem setPair_pwr (p : Nat) (x : Pair) : (s.setPair p x).pwr = s.pwr := rfl
@[simp] theorem setPair_sessions (p : Nat) (x : Pair) : (s.setPair p x).sessions = s.sessions := rfl
@[simp] theorem setPair_fe (p : Nat) (x : Pair) : (s.setPair p x).fe = s.fe := rfl
@[simp] theorem setPair_col (p : Nat) (x : Pair) : (s.setPair p x).col = s.col := rfl
@[simp] theorem setPair_trunks (p : Nat) (x : Pair) : (s.setPair p x).trunks = s.trunks := rfl
@[simp] theorem setPair_nodeHist (p : Nat) (x : Pair) : (s.setPair p x).nodeHist = s.nodeHist := rfl
@[simp] theorem setPair_ports (p : Nat) (x : Pair) : (s.setPair p x).ports = s.ports := rfl
@[simp] theorem setPair_sv (p : Nat) (x : Pair) : (s.setPair p x).sv = s.sv := rfl
@[simp] theorem setPair_fans (p : Nat) (x : Pair) : (s.setPair p x).fans = s.fans := rfl
@[simp] theorem setPair_dio (p : Nat) (x : Pair) : (s.setPair p x).dio = s.dio := rfl
@[simp] theorem setPair_host (p : Nat) (x : Pair) : (s.setPair p x).host = s.host := rfl
@[simp] theorem setPair_face (p : Nat) (x : Pair) : (s.setPair p x).face = s.face := rfl
@[simp] theorem setPair_svcTag (p : Nat) (x : Pair) : (s.setPair p x).svcTag = s.svcTag := rfl
@[simp] theorem setPair_recd (p : Nat) (x : Pair) : (s.setPair p x).recd = s.recd := rfl
@[simp] theorem setPair_rtc (p : Nat) (x : Pair) : (s.setPair p x).rtc = s.rtc := rfl
@[simp] theorem setPair_ctl (p : Nat) (x : Pair) : (s.setPair p x).ctl = s.ctl := rfl

@[simp] theorem setSlot_pending (n : Nat) (x : Slot) : (s.setSlot n x).pending = s.pending := rfl
@[simp] theorem setSlot_dtb (n : Nat) (x : Slot) : (s.setSlot n x).dtb = s.dtb := rfl
@[simp] theorem setSlot_act (n : Nat) (x : Slot) : (s.setSlot n x).act = s.act := rfl
@[simp] theorem setSlot_shd (n : Nat) (x : Slot) : (s.setSlot n x).shd = s.shd := rfl
@[simp] theorem setSlot_pend (n : Nat) (x : Slot) : (s.setSlot n x).pend = s.pend := rfl
@[simp] theorem setSlot_nextFrame (n : Nat) (x : Slot) : (s.setSlot n x).nextFrame = s.nextFrame := rfl
@[simp] theorem setSlot_answer (n : Nat) (x : Slot) : (s.setSlot n x).answer = s.answer := rfl
@[simp] theorem setSlot_drawn (n : Nat) (x : Slot) : (s.setSlot n x).drawn = s.drawn := rfl
@[simp] theorem setSlot_loops (n : Nat) (x : Slot) : (s.setSlot n x).loops = s.loops := rfl
@[simp] theorem setSlot_pairs (n : Nat) (x : Slot) : (s.setSlot n x).pairs = s.pairs := rfl
@[simp] theorem setSlot_cells (n : Nat) (x : Slot) : (s.setSlot n x).cells = s.cells := rfl
@[simp] theorem setSlot_placer (n : Nat) (x : Slot) : (s.setSlot n x).placer = s.placer := rfl
@[simp] theorem setSlot_image (n : Nat) (x : Slot) : (s.setSlot n x).image = s.image := rfl
@[simp] theorem setSlot_marked (n : Nat) (x : Slot) : (s.setSlot n x).marked = s.marked := rfl
@[simp] theorem setSlot_hwk (n : Nat) (x : Slot) : (s.setSlot n x).hwk = s.hwk := rfl
@[simp] theorem setSlot_traces (n : Nat) (x : Slot) : (s.setSlot n x).traces = s.traces := rfl
@[simp] theorem setSlot_pwr (n : Nat) (x : Slot) : (s.setSlot n x).pwr = s.pwr := rfl
@[simp] theorem setSlot_sessions (n : Nat) (x : Slot) : (s.setSlot n x).sessions = s.sessions := rfl
@[simp] theorem setSlot_fe (n : Nat) (x : Slot) : (s.setSlot n x).fe = s.fe := rfl
@[simp] theorem setSlot_col (n : Nat) (x : Slot) : (s.setSlot n x).col = s.col := rfl
@[simp] theorem setSlot_trunks (n : Nat) (x : Slot) : (s.setSlot n x).trunks = s.trunks := rfl
@[simp] theorem setSlot_nodeHist (n : Nat) (x : Slot) : (s.setSlot n x).nodeHist = s.nodeHist := rfl
@[simp] theorem setSlot_ports (n : Nat) (x : Slot) : (s.setSlot n x).ports = s.ports := rfl
@[simp] theorem setSlot_sv (n : Nat) (x : Slot) : (s.setSlot n x).sv = s.sv := rfl
@[simp] theorem setSlot_fans (n : Nat) (x : Slot) : (s.setSlot n x).fans = s.fans := rfl
@[simp] theorem setSlot_dio (n : Nat) (x : Slot) : (s.setSlot n x).dio = s.dio := rfl
@[simp] theorem setSlot_host (n : Nat) (x : Slot) : (s.setSlot n x).host = s.host := rfl
@[simp] theorem setSlot_face (n : Nat) (x : Slot) : (s.setSlot n x).face = s.face := rfl
@[simp] theorem setSlot_svcTag (n : Nat) (x : Slot) : (s.setSlot n x).svcTag = s.svcTag := rfl
@[simp] theorem setSlot_recd (n : Nat) (x : Slot) : (s.setSlot n x).recd = s.recd := rfl
@[simp] theorem setSlot_rtc (n : Nat) (x : Slot) : (s.setSlot n x).rtc = s.rtc := rfl
@[simp] theorem setSlot_ctl (n : Nat) (x : Slot) : (s.setSlot n x).ctl = s.ctl := rfl

@[simp] theorem setCell_pending (c : Nat) (x : Cell) : (s.setCell c x).pending = s.pending := rfl
@[simp] theorem setCell_dtb (c : Nat) (x : Cell) : (s.setCell c x).dtb = s.dtb := rfl
@[simp] theorem setCell_act (c : Nat) (x : Cell) : (s.setCell c x).act = s.act := rfl
@[simp] theorem setCell_shd (c : Nat) (x : Cell) : (s.setCell c x).shd = s.shd := rfl
@[simp] theorem setCell_pend (c : Nat) (x : Cell) : (s.setCell c x).pend = s.pend := rfl
@[simp] theorem setCell_nextFrame (c : Nat) (x : Cell) : (s.setCell c x).nextFrame = s.nextFrame := rfl
@[simp] theorem setCell_answer (c : Nat) (x : Cell) : (s.setCell c x).answer = s.answer := rfl
@[simp] theorem setCell_drawn (c : Nat) (x : Cell) : (s.setCell c x).drawn = s.drawn := rfl
@[simp] theorem setCell_loops (c : Nat) (x : Cell) : (s.setCell c x).loops = s.loops := rfl
@[simp] theorem setCell_pairs (c : Nat) (x : Cell) : (s.setCell c x).pairs = s.pairs := rfl
@[simp] theorem setCell_slots (c : Nat) (x : Cell) : (s.setCell c x).slots = s.slots := rfl
@[simp] theorem setCell_placer (c : Nat) (x : Cell) : (s.setCell c x).placer = s.placer := rfl
@[simp] theorem setCell_image (c : Nat) (x : Cell) : (s.setCell c x).image = s.image := rfl
@[simp] theorem setCell_marked (c : Nat) (x : Cell) : (s.setCell c x).marked = s.marked := rfl
@[simp] theorem setCell_hwk (c : Nat) (x : Cell) : (s.setCell c x).hwk = s.hwk := rfl
@[simp] theorem setCell_traces (c : Nat) (x : Cell) : (s.setCell c x).traces = s.traces := rfl
@[simp] theorem setCell_pwr (c : Nat) (x : Cell) : (s.setCell c x).pwr = s.pwr := rfl
@[simp] theorem setCell_sessions (c : Nat) (x : Cell) : (s.setCell c x).sessions = s.sessions := rfl
@[simp] theorem setCell_fe (c : Nat) (x : Cell) : (s.setCell c x).fe = s.fe := rfl
@[simp] theorem setCell_col (c : Nat) (x : Cell) : (s.setCell c x).col = s.col := rfl
@[simp] theorem setCell_trunks (c : Nat) (x : Cell) : (s.setCell c x).trunks = s.trunks := rfl
@[simp] theorem setCell_nodeHist (c : Nat) (x : Cell) : (s.setCell c x).nodeHist = s.nodeHist := rfl
@[simp] theorem setCell_ports (c : Nat) (x : Cell) : (s.setCell c x).ports = s.ports := rfl
@[simp] theorem setCell_sv (c : Nat) (x : Cell) : (s.setCell c x).sv = s.sv := rfl
@[simp] theorem setCell_fans (c : Nat) (x : Cell) : (s.setCell c x).fans = s.fans := rfl
@[simp] theorem setCell_dio (c : Nat) (x : Cell) : (s.setCell c x).dio = s.dio := rfl
@[simp] theorem setCell_host (c : Nat) (x : Cell) : (s.setCell c x).host = s.host := rfl
@[simp] theorem setCell_face (c : Nat) (x : Cell) : (s.setCell c x).face = s.face := rfl
@[simp] theorem setCell_svcTag (c : Nat) (x : Cell) : (s.setCell c x).svcTag = s.svcTag := rfl
@[simp] theorem setCell_recd (c : Nat) (x : Cell) : (s.setCell c x).recd = s.recd := rfl
@[simp] theorem setCell_rtc (c : Nat) (x : Cell) : (s.setCell c x).rtc = s.rtc := rfl
@[simp] theorem setCell_ctl (c : Nat) (x : Cell) : (s.setCell c x).ctl = s.ctl := rfl

@[simp] theorem setPlacer_pending (p : Placer) : (s.setPlacer p).pending = s.pending := rfl
@[simp] theorem setPlacer_dtb (p : Placer) : (s.setPlacer p).dtb = s.dtb := rfl
@[simp] theorem setPlacer_act (p : Placer) : (s.setPlacer p).act = s.act := rfl
@[simp] theorem setPlacer_shd (p : Placer) : (s.setPlacer p).shd = s.shd := rfl
@[simp] theorem setPlacer_pend (p : Placer) : (s.setPlacer p).pend = s.pend := rfl
@[simp] theorem setPlacer_nextFrame (p : Placer) : (s.setPlacer p).nextFrame = s.nextFrame := rfl
@[simp] theorem setPlacer_answer (p : Placer) : (s.setPlacer p).answer = s.answer := rfl
@[simp] theorem setPlacer_drawn (p : Placer) : (s.setPlacer p).drawn = s.drawn := rfl
@[simp] theorem setPlacer_loops (p : Placer) : (s.setPlacer p).loops = s.loops := rfl
@[simp] theorem setPlacer_pairs (p : Placer) : (s.setPlacer p).pairs = s.pairs := rfl
@[simp] theorem setPlacer_slots (p : Placer) : (s.setPlacer p).slots = s.slots := rfl
@[simp] theorem setPlacer_cells (p : Placer) : (s.setPlacer p).cells = s.cells := rfl
@[simp] theorem setPlacer_image (p : Placer) : (s.setPlacer p).image = s.image := rfl
@[simp] theorem setPlacer_marked (p : Placer) : (s.setPlacer p).marked = s.marked := rfl
@[simp] theorem setPlacer_hwk (p : Placer) : (s.setPlacer p).hwk = s.hwk := rfl
@[simp] theorem setPlacer_traces (p : Placer) : (s.setPlacer p).traces = s.traces := rfl
@[simp] theorem setPlacer_pwr (p : Placer) : (s.setPlacer p).pwr = s.pwr := rfl
@[simp] theorem setPlacer_sessions (p : Placer) : (s.setPlacer p).sessions = s.sessions := rfl
@[simp] theorem setPlacer_fe (p : Placer) : (s.setPlacer p).fe = s.fe := rfl
@[simp] theorem setPlacer_col (p : Placer) : (s.setPlacer p).col = s.col := rfl
@[simp] theorem setPlacer_trunks (p : Placer) : (s.setPlacer p).trunks = s.trunks := rfl
@[simp] theorem setPlacer_nodeHist (p : Placer) : (s.setPlacer p).nodeHist = s.nodeHist := rfl
@[simp] theorem setPlacer_ports (p : Placer) : (s.setPlacer p).ports = s.ports := rfl
@[simp] theorem setPlacer_sv (p : Placer) : (s.setPlacer p).sv = s.sv := rfl
@[simp] theorem setPlacer_fans (p : Placer) : (s.setPlacer p).fans = s.fans := rfl
@[simp] theorem setPlacer_dio (p : Placer) : (s.setPlacer p).dio = s.dio := rfl
@[simp] theorem setPlacer_host (p : Placer) : (s.setPlacer p).host = s.host := rfl
@[simp] theorem setPlacer_face (p : Placer) : (s.setPlacer p).face = s.face := rfl
@[simp] theorem setPlacer_svcTag (p : Placer) : (s.setPlacer p).svcTag = s.svcTag := rfl
@[simp] theorem setPlacer_recd (p : Placer) : (s.setPlacer p).recd = s.recd := rfl
@[simp] theorem setPlacer_rtc (p : Placer) : (s.setPlacer p).rtc = s.rtc := rfl
@[simp] theorem setPlacer_ctl (p : Placer) : (s.setPlacer p).ctl = s.ctl := rfl

@[simp] theorem setTrace_pending (n : Nat) (x : Trace) : (s.setTrace n x).pending = s.pending := rfl
@[simp] theorem setTrace_dtb (n : Nat) (x : Trace) : (s.setTrace n x).dtb = s.dtb := rfl
@[simp] theorem setTrace_act (n : Nat) (x : Trace) : (s.setTrace n x).act = s.act := rfl
@[simp] theorem setTrace_shd (n : Nat) (x : Trace) : (s.setTrace n x).shd = s.shd := rfl
@[simp] theorem setTrace_pend (n : Nat) (x : Trace) : (s.setTrace n x).pend = s.pend := rfl
@[simp] theorem setTrace_nextFrame (n : Nat) (x : Trace) : (s.setTrace n x).nextFrame = s.nextFrame := rfl
@[simp] theorem setTrace_answer (n : Nat) (x : Trace) : (s.setTrace n x).answer = s.answer := rfl
@[simp] theorem setTrace_drawn (n : Nat) (x : Trace) : (s.setTrace n x).drawn = s.drawn := rfl
@[simp] theorem setTrace_loops (n : Nat) (x : Trace) : (s.setTrace n x).loops = s.loops := rfl
@[simp] theorem setTrace_pairs (n : Nat) (x : Trace) : (s.setTrace n x).pairs = s.pairs := rfl
@[simp] theorem setTrace_slots (n : Nat) (x : Trace) : (s.setTrace n x).slots = s.slots := rfl
@[simp] theorem setTrace_cells (n : Nat) (x : Trace) : (s.setTrace n x).cells = s.cells := rfl
@[simp] theorem setTrace_placer (n : Nat) (x : Trace) : (s.setTrace n x).placer = s.placer := rfl
@[simp] theorem setTrace_image (n : Nat) (x : Trace) : (s.setTrace n x).image = s.image := rfl
@[simp] theorem setTrace_marked (n : Nat) (x : Trace) : (s.setTrace n x).marked = s.marked := rfl
@[simp] theorem setTrace_hwk (n : Nat) (x : Trace) : (s.setTrace n x).hwk = s.hwk := rfl
@[simp] theorem setTrace_pwr (n : Nat) (x : Trace) : (s.setTrace n x).pwr = s.pwr := rfl
@[simp] theorem setTrace_sessions (n : Nat) (x : Trace) : (s.setTrace n x).sessions = s.sessions := rfl
@[simp] theorem setTrace_fe (n : Nat) (x : Trace) : (s.setTrace n x).fe = s.fe := rfl
@[simp] theorem setTrace_col (n : Nat) (x : Trace) : (s.setTrace n x).col = s.col := rfl
@[simp] theorem setTrace_trunks (n : Nat) (x : Trace) : (s.setTrace n x).trunks = s.trunks := rfl
@[simp] theorem setTrace_nodeHist (n : Nat) (x : Trace) : (s.setTrace n x).nodeHist = s.nodeHist := rfl
@[simp] theorem setTrace_ports (n : Nat) (x : Trace) : (s.setTrace n x).ports = s.ports := rfl
@[simp] theorem setTrace_sv (n : Nat) (x : Trace) : (s.setTrace n x).sv = s.sv := rfl
@[simp] theorem setTrace_fans (n : Nat) (x : Trace) : (s.setTrace n x).fans = s.fans := rfl
@[simp] theorem setTrace_dio (n : Nat) (x : Trace) : (s.setTrace n x).dio = s.dio := rfl
@[simp] theorem setTrace_host (n : Nat) (x : Trace) : (s.setTrace n x).host = s.host := rfl
@[simp] theorem setTrace_face (n : Nat) (x : Trace) : (s.setTrace n x).face = s.face := rfl
@[simp] theorem setTrace_svcTag (n : Nat) (x : Trace) : (s.setTrace n x).svcTag = s.svcTag := rfl
@[simp] theorem setTrace_recd (n : Nat) (x : Trace) : (s.setTrace n x).recd = s.recd := rfl
@[simp] theorem setTrace_rtc (n : Nat) (x : Trace) : (s.setTrace n x).rtc = s.rtc := rfl
@[simp] theorem setTrace_ctl (n : Nat) (x : Trace) : (s.setTrace n x).ctl = s.ctl := rfl

@[simp] theorem setTag_pending (t : Nat) (x : Tag) : (s.setTag t x).pending = s.pending := rfl
@[simp] theorem setTag_dtb (t : Nat) (x : Tag) : (s.setTag t x).dtb = s.dtb := rfl
@[simp] theorem setTag_act (t : Nat) (x : Tag) : (s.setTag t x).act = s.act := rfl
@[simp] theorem setTag_shd (t : Nat) (x : Tag) : (s.setTag t x).shd = s.shd := rfl
@[simp] theorem setTag_pend (t : Nat) (x : Tag) : (s.setTag t x).pend = s.pend := rfl
@[simp] theorem setTag_nextFrame (t : Nat) (x : Tag) : (s.setTag t x).nextFrame = s.nextFrame := rfl
@[simp] theorem setTag_answer (t : Nat) (x : Tag) : (s.setTag t x).answer = s.answer := rfl
@[simp] theorem setTag_drawn (t : Nat) (x : Tag) : (s.setTag t x).drawn = s.drawn := rfl
@[simp] theorem setTag_loops (t : Nat) (x : Tag) : (s.setTag t x).loops = s.loops := rfl
@[simp] theorem setTag_pairs (t : Nat) (x : Tag) : (s.setTag t x).pairs = s.pairs := rfl
@[simp] theorem setTag_slots (t : Nat) (x : Tag) : (s.setTag t x).slots = s.slots := rfl
@[simp] theorem setTag_cells (t : Nat) (x : Tag) : (s.setTag t x).cells = s.cells := rfl
@[simp] theorem setTag_placer (t : Nat) (x : Tag) : (s.setTag t x).placer = s.placer := rfl
@[simp] theorem setTag_image (t : Nat) (x : Tag) : (s.setTag t x).image = s.image := rfl
@[simp] theorem setTag_marked (t : Nat) (x : Tag) : (s.setTag t x).marked = s.marked := rfl
@[simp] theorem setTag_traces (t : Nat) (x : Tag) : (s.setTag t x).traces = s.traces := rfl
@[simp] theorem setTag_pwr (t : Nat) (x : Tag) : (s.setTag t x).pwr = s.pwr := rfl
@[simp] theorem setTag_sessions (t : Nat) (x : Tag) : (s.setTag t x).sessions = s.sessions := rfl
@[simp] theorem setTag_fe (t : Nat) (x : Tag) : (s.setTag t x).fe = s.fe := rfl
@[simp] theorem setTag_col (t : Nat) (x : Tag) : (s.setTag t x).col = s.col := rfl
@[simp] theorem setTag_trunks (t : Nat) (x : Tag) : (s.setTag t x).trunks = s.trunks := rfl
@[simp] theorem setTag_nodeHist (t : Nat) (x : Tag) : (s.setTag t x).nodeHist = s.nodeHist := rfl
@[simp] theorem setTag_ports (t : Nat) (x : Tag) : (s.setTag t x).ports = s.ports := rfl
@[simp] theorem setTag_sv (t : Nat) (x : Tag) : (s.setTag t x).sv = s.sv := rfl
@[simp] theorem setTag_fans (t : Nat) (x : Tag) : (s.setTag t x).fans = s.fans := rfl
@[simp] theorem setTag_dio (t : Nat) (x : Tag) : (s.setTag t x).dio = s.dio := rfl
@[simp] theorem setTag_host (t : Nat) (x : Tag) : (s.setTag t x).host = s.host := rfl
@[simp] theorem setTag_face (t : Nat) (x : Tag) : (s.setTag t x).face = s.face := rfl
@[simp] theorem setTag_svcTag (t : Nat) (x : Tag) : (s.setTag t x).svcTag = s.svcTag := rfl
@[simp] theorem setTag_recd (t : Nat) (x : Tag) : (s.setTag t x).recd = s.recd := rfl
@[simp] theorem setTag_rtc (t : Nat) (x : Tag) : (s.setTag t x).rtc = s.rtc := rfl
@[simp] theorem setTag_ctl (t : Nat) (x : Tag) : (s.setTag t x).ctl = s.ctl := rfl

@[simp] theorem setEngine_pending (e : Nat) (x : Engine) : (s.setEngine e x).pending = s.pending := rfl
@[simp] theorem setEngine_dtb (e : Nat) (x : Engine) : (s.setEngine e x).dtb = s.dtb := rfl
@[simp] theorem setEngine_act (e : Nat) (x : Engine) : (s.setEngine e x).act = s.act := rfl
@[simp] theorem setEngine_shd (e : Nat) (x : Engine) : (s.setEngine e x).shd = s.shd := rfl
@[simp] theorem setEngine_pend (e : Nat) (x : Engine) : (s.setEngine e x).pend = s.pend := rfl
@[simp] theorem setEngine_nextFrame (e : Nat) (x : Engine) : (s.setEngine e x).nextFrame = s.nextFrame := rfl
@[simp] theorem setEngine_answer (e : Nat) (x : Engine) : (s.setEngine e x).answer = s.answer := rfl
@[simp] theorem setEngine_drawn (e : Nat) (x : Engine) : (s.setEngine e x).drawn = s.drawn := rfl
@[simp] theorem setEngine_loops (e : Nat) (x : Engine) : (s.setEngine e x).loops = s.loops := rfl
@[simp] theorem setEngine_pairs (e : Nat) (x : Engine) : (s.setEngine e x).pairs = s.pairs := rfl
@[simp] theorem setEngine_slots (e : Nat) (x : Engine) : (s.setEngine e x).slots = s.slots := rfl
@[simp] theorem setEngine_cells (e : Nat) (x : Engine) : (s.setEngine e x).cells = s.cells := rfl
@[simp] theorem setEngine_placer (e : Nat) (x : Engine) : (s.setEngine e x).placer = s.placer := rfl
@[simp] theorem setEngine_image (e : Nat) (x : Engine) : (s.setEngine e x).image = s.image := rfl
@[simp] theorem setEngine_marked (e : Nat) (x : Engine) : (s.setEngine e x).marked = s.marked := rfl
@[simp] theorem setEngine_traces (e : Nat) (x : Engine) : (s.setEngine e x).traces = s.traces := rfl
@[simp] theorem setEngine_pwr (e : Nat) (x : Engine) : (s.setEngine e x).pwr = s.pwr := rfl
@[simp] theorem setEngine_sessions (e : Nat) (x : Engine) : (s.setEngine e x).sessions = s.sessions := rfl
@[simp] theorem setEngine_fe (e : Nat) (x : Engine) : (s.setEngine e x).fe = s.fe := rfl
@[simp] theorem setEngine_col (e : Nat) (x : Engine) : (s.setEngine e x).col = s.col := rfl
@[simp] theorem setEngine_trunks (e : Nat) (x : Engine) : (s.setEngine e x).trunks = s.trunks := rfl
@[simp] theorem setEngine_nodeHist (e : Nat) (x : Engine) : (s.setEngine e x).nodeHist = s.nodeHist := rfl
@[simp] theorem setEngine_ports (e : Nat) (x : Engine) : (s.setEngine e x).ports = s.ports := rfl
@[simp] theorem setEngine_sv (e : Nat) (x : Engine) : (s.setEngine e x).sv = s.sv := rfl
@[simp] theorem setEngine_fans (e : Nat) (x : Engine) : (s.setEngine e x).fans = s.fans := rfl
@[simp] theorem setEngine_dio (e : Nat) (x : Engine) : (s.setEngine e x).dio = s.dio := rfl
@[simp] theorem setEngine_host (e : Nat) (x : Engine) : (s.setEngine e x).host = s.host := rfl
@[simp] theorem setEngine_face (e : Nat) (x : Engine) : (s.setEngine e x).face = s.face := rfl
@[simp] theorem setEngine_svcTag (e : Nat) (x : Engine) : (s.setEngine e x).svcTag = s.svcTag := rfl
@[simp] theorem setEngine_recd (e : Nat) (x : Engine) : (s.setEngine e x).recd = s.recd := rfl
@[simp] theorem setEngine_rtc (e : Nat) (x : Engine) : (s.setEngine e x).rtc = s.rtc := rfl
@[simp] theorem setEngine_ctl (e : Nat) (x : Engine) : (s.setEngine e x).ctl = s.ctl := rfl

@[simp] theorem setCredit_pending (c k : Nat) (v : Int) : (s.setCredit c k v).pending = s.pending := rfl
@[simp] theorem setCredit_dtb (c k : Nat) (v : Int) : (s.setCredit c k v).dtb = s.dtb := rfl
@[simp] theorem setCredit_act (c k : Nat) (v : Int) : (s.setCredit c k v).act = s.act := rfl
@[simp] theorem setCredit_shd (c k : Nat) (v : Int) : (s.setCredit c k v).shd = s.shd := rfl
@[simp] theorem setCredit_pend (c k : Nat) (v : Int) : (s.setCredit c k v).pend = s.pend := rfl
@[simp] theorem setCredit_nextFrame (c k : Nat) (v : Int) : (s.setCredit c k v).nextFrame = s.nextFrame := rfl
@[simp] theorem setCredit_answer (c k : Nat) (v : Int) : (s.setCredit c k v).answer = s.answer := rfl
@[simp] theorem setCredit_drawn (c k : Nat) (v : Int) : (s.setCredit c k v).drawn = s.drawn := rfl
@[simp] theorem setCredit_loops (c k : Nat) (v : Int) : (s.setCredit c k v).loops = s.loops := rfl
@[simp] theorem setCredit_pairs (c k : Nat) (v : Int) : (s.setCredit c k v).pairs = s.pairs := rfl
@[simp] theorem setCredit_slots (c k : Nat) (v : Int) : (s.setCredit c k v).slots = s.slots := rfl
@[simp] theorem setCredit_cells (c k : Nat) (v : Int) : (s.setCredit c k v).cells = s.cells := rfl
@[simp] theorem setCredit_placer (c k : Nat) (v : Int) : (s.setCredit c k v).placer = s.placer := rfl
@[simp] theorem setCredit_image (c k : Nat) (v : Int) : (s.setCredit c k v).image = s.image := rfl
@[simp] theorem setCredit_marked (c k : Nat) (v : Int) : (s.setCredit c k v).marked = s.marked := rfl
@[simp] theorem setCredit_traces (c k : Nat) (v : Int) : (s.setCredit c k v).traces = s.traces := rfl
@[simp] theorem setCredit_pwr (c k : Nat) (v : Int) : (s.setCredit c k v).pwr = s.pwr := rfl
@[simp] theorem setCredit_sessions (c k : Nat) (v : Int) : (s.setCredit c k v).sessions = s.sessions := rfl
@[simp] theorem setCredit_fe (c k : Nat) (v : Int) : (s.setCredit c k v).fe = s.fe := rfl
@[simp] theorem setCredit_col (c k : Nat) (v : Int) : (s.setCredit c k v).col = s.col := rfl
@[simp] theorem setCredit_trunks (c k : Nat) (v : Int) : (s.setCredit c k v).trunks = s.trunks := rfl
@[simp] theorem setCredit_nodeHist (c k : Nat) (v : Int) : (s.setCredit c k v).nodeHist = s.nodeHist := rfl
@[simp] theorem setCredit_ports (c k : Nat) (v : Int) : (s.setCredit c k v).ports = s.ports := rfl
@[simp] theorem setCredit_sv (c k : Nat) (v : Int) : (s.setCredit c k v).sv = s.sv := rfl
@[simp] theorem setCredit_fans (c k : Nat) (v : Int) : (s.setCredit c k v).fans = s.fans := rfl
@[simp] theorem setCredit_dio (c k : Nat) (v : Int) : (s.setCredit c k v).dio = s.dio := rfl
@[simp] theorem setCredit_host (c k : Nat) (v : Int) : (s.setCredit c k v).host = s.host := rfl
@[simp] theorem setCredit_face (c k : Nat) (v : Int) : (s.setCredit c k v).face = s.face := rfl
@[simp] theorem setCredit_svcTag (c k : Nat) (v : Int) : (s.setCredit c k v).svcTag = s.svcTag := rfl
@[simp] theorem setCredit_recd (c k : Nat) (v : Int) : (s.setCredit c k v).recd = s.recd := rfl
@[simp] theorem setCredit_rtc (c k : Nat) (v : Int) : (s.setCredit c k v).rtc = s.rtc := rfl
@[simp] theorem setCredit_ctl (c k : Nat) (v : Int) : (s.setCredit c k v).ctl = s.ctl := rfl

@[simp] theorem setFeChan_pending (c : Nat) (x : FeChan) : (s.setFeChan c x).pending = s.pending := rfl
@[simp] theorem setFeChan_dtb (c : Nat) (x : FeChan) : (s.setFeChan c x).dtb = s.dtb := rfl
@[simp] theorem setFeChan_act (c : Nat) (x : FeChan) : (s.setFeChan c x).act = s.act := rfl
@[simp] theorem setFeChan_shd (c : Nat) (x : FeChan) : (s.setFeChan c x).shd = s.shd := rfl
@[simp] theorem setFeChan_pend (c : Nat) (x : FeChan) : (s.setFeChan c x).pend = s.pend := rfl
@[simp] theorem setFeChan_nextFrame (c : Nat) (x : FeChan) : (s.setFeChan c x).nextFrame = s.nextFrame := rfl
@[simp] theorem setFeChan_answer (c : Nat) (x : FeChan) : (s.setFeChan c x).answer = s.answer := rfl
@[simp] theorem setFeChan_drawn (c : Nat) (x : FeChan) : (s.setFeChan c x).drawn = s.drawn := rfl
@[simp] theorem setFeChan_loops (c : Nat) (x : FeChan) : (s.setFeChan c x).loops = s.loops := rfl
@[simp] theorem setFeChan_pairs (c : Nat) (x : FeChan) : (s.setFeChan c x).pairs = s.pairs := rfl
@[simp] theorem setFeChan_slots (c : Nat) (x : FeChan) : (s.setFeChan c x).slots = s.slots := rfl
@[simp] theorem setFeChan_cells (c : Nat) (x : FeChan) : (s.setFeChan c x).cells = s.cells := rfl
@[simp] theorem setFeChan_placer (c : Nat) (x : FeChan) : (s.setFeChan c x).placer = s.placer := rfl
@[simp] theorem setFeChan_image (c : Nat) (x : FeChan) : (s.setFeChan c x).image = s.image := rfl
@[simp] theorem setFeChan_marked (c : Nat) (x : FeChan) : (s.setFeChan c x).marked = s.marked := rfl
@[simp] theorem setFeChan_hwk (c : Nat) (x : FeChan) : (s.setFeChan c x).hwk = s.hwk := rfl
@[simp] theorem setFeChan_traces (c : Nat) (x : FeChan) : (s.setFeChan c x).traces = s.traces := rfl
@[simp] theorem setFeChan_pwr (c : Nat) (x : FeChan) : (s.setFeChan c x).pwr = s.pwr := rfl
@[simp] theorem setFeChan_sessions (c : Nat) (x : FeChan) : (s.setFeChan c x).sessions = s.sessions := rfl
@[simp] theorem setFeChan_col (c : Nat) (x : FeChan) : (s.setFeChan c x).col = s.col := rfl
@[simp] theorem setFeChan_trunks (c : Nat) (x : FeChan) : (s.setFeChan c x).trunks = s.trunks := rfl
@[simp] theorem setFeChan_nodeHist (c : Nat) (x : FeChan) : (s.setFeChan c x).nodeHist = s.nodeHist := rfl
@[simp] theorem setFeChan_ports (c : Nat) (x : FeChan) : (s.setFeChan c x).ports = s.ports := rfl
@[simp] theorem setFeChan_sv (c : Nat) (x : FeChan) : (s.setFeChan c x).sv = s.sv := rfl
@[simp] theorem setFeChan_fans (c : Nat) (x : FeChan) : (s.setFeChan c x).fans = s.fans := rfl
@[simp] theorem setFeChan_dio (c : Nat) (x : FeChan) : (s.setFeChan c x).dio = s.dio := rfl
@[simp] theorem setFeChan_host (c : Nat) (x : FeChan) : (s.setFeChan c x).host = s.host := rfl
@[simp] theorem setFeChan_face (c : Nat) (x : FeChan) : (s.setFeChan c x).face = s.face := rfl
@[simp] theorem setFeChan_svcTag (c : Nat) (x : FeChan) : (s.setFeChan c x).svcTag = s.svcTag := rfl
@[simp] theorem setFeChan_recd (c : Nat) (x : FeChan) : (s.setFeChan c x).recd = s.recd := rfl
@[simp] theorem setFeChan_rtc (c : Nat) (x : FeChan) : (s.setFeChan c x).rtc = s.rtc := rfl
@[simp] theorem setFeChan_ctl (c : Nat) (x : FeChan) : (s.setFeChan c x).ctl = s.ctl := rfl

@[simp] theorem setFeIn_pending (i : Nat) (x : FeInput) : (s.setFeIn i x).pending = s.pending := rfl
@[simp] theorem setFeIn_dtb (i : Nat) (x : FeInput) : (s.setFeIn i x).dtb = s.dtb := rfl
@[simp] theorem setFeIn_act (i : Nat) (x : FeInput) : (s.setFeIn i x).act = s.act := rfl
@[simp] theorem setFeIn_shd (i : Nat) (x : FeInput) : (s.setFeIn i x).shd = s.shd := rfl
@[simp] theorem setFeIn_pend (i : Nat) (x : FeInput) : (s.setFeIn i x).pend = s.pend := rfl
@[simp] theorem setFeIn_nextFrame (i : Nat) (x : FeInput) : (s.setFeIn i x).nextFrame = s.nextFrame := rfl
@[simp] theorem setFeIn_answer (i : Nat) (x : FeInput) : (s.setFeIn i x).answer = s.answer := rfl
@[simp] theorem setFeIn_drawn (i : Nat) (x : FeInput) : (s.setFeIn i x).drawn = s.drawn := rfl
@[simp] theorem setFeIn_loops (i : Nat) (x : FeInput) : (s.setFeIn i x).loops = s.loops := rfl
@[simp] theorem setFeIn_pairs (i : Nat) (x : FeInput) : (s.setFeIn i x).pairs = s.pairs := rfl
@[simp] theorem setFeIn_slots (i : Nat) (x : FeInput) : (s.setFeIn i x).slots = s.slots := rfl
@[simp] theorem setFeIn_cells (i : Nat) (x : FeInput) : (s.setFeIn i x).cells = s.cells := rfl
@[simp] theorem setFeIn_placer (i : Nat) (x : FeInput) : (s.setFeIn i x).placer = s.placer := rfl
@[simp] theorem setFeIn_image (i : Nat) (x : FeInput) : (s.setFeIn i x).image = s.image := rfl
@[simp] theorem setFeIn_marked (i : Nat) (x : FeInput) : (s.setFeIn i x).marked = s.marked := rfl
@[simp] theorem setFeIn_hwk (i : Nat) (x : FeInput) : (s.setFeIn i x).hwk = s.hwk := rfl
@[simp] theorem setFeIn_traces (i : Nat) (x : FeInput) : (s.setFeIn i x).traces = s.traces := rfl
@[simp] theorem setFeIn_pwr (i : Nat) (x : FeInput) : (s.setFeIn i x).pwr = s.pwr := rfl
@[simp] theorem setFeIn_sessions (i : Nat) (x : FeInput) : (s.setFeIn i x).sessions = s.sessions := rfl
@[simp] theorem setFeIn_col (i : Nat) (x : FeInput) : (s.setFeIn i x).col = s.col := rfl
@[simp] theorem setFeIn_trunks (i : Nat) (x : FeInput) : (s.setFeIn i x).trunks = s.trunks := rfl
@[simp] theorem setFeIn_nodeHist (i : Nat) (x : FeInput) : (s.setFeIn i x).nodeHist = s.nodeHist := rfl
@[simp] theorem setFeIn_ports (i : Nat) (x : FeInput) : (s.setFeIn i x).ports = s.ports := rfl
@[simp] theorem setFeIn_sv (i : Nat) (x : FeInput) : (s.setFeIn i x).sv = s.sv := rfl
@[simp] theorem setFeIn_fans (i : Nat) (x : FeInput) : (s.setFeIn i x).fans = s.fans := rfl
@[simp] theorem setFeIn_dio (i : Nat) (x : FeInput) : (s.setFeIn i x).dio = s.dio := rfl
@[simp] theorem setFeIn_host (i : Nat) (x : FeInput) : (s.setFeIn i x).host = s.host := rfl
@[simp] theorem setFeIn_face (i : Nat) (x : FeInput) : (s.setFeIn i x).face = s.face := rfl
@[simp] theorem setFeIn_svcTag (i : Nat) (x : FeInput) : (s.setFeIn i x).svcTag = s.svcTag := rfl
@[simp] theorem setFeIn_recd (i : Nat) (x : FeInput) : (s.setFeIn i x).recd = s.recd := rfl
@[simp] theorem setFeIn_rtc (i : Nat) (x : FeInput) : (s.setFeIn i x).rtc = s.rtc := rfl
@[simp] theorem setFeIn_ctl (i : Nat) (x : FeInput) : (s.setFeIn i x).ctl = s.ctl := rfl

@[simp] theorem setFi_pending (k : Nat) (w : Word) : (s.setFi k w).pending = s.pending := rfl
@[simp] theorem setFi_dtb (k : Nat) (w : Word) : (s.setFi k w).dtb = s.dtb := rfl
@[simp] theorem setFi_act (k : Nat) (w : Word) : (s.setFi k w).act = s.act := rfl
@[simp] theorem setFi_shd (k : Nat) (w : Word) : (s.setFi k w).shd = s.shd := rfl
@[simp] theorem setFi_pend (k : Nat) (w : Word) : (s.setFi k w).pend = s.pend := rfl
@[simp] theorem setFi_nextFrame (k : Nat) (w : Word) : (s.setFi k w).nextFrame = s.nextFrame := rfl
@[simp] theorem setFi_answer (k : Nat) (w : Word) : (s.setFi k w).answer = s.answer := rfl
@[simp] theorem setFi_drawn (k : Nat) (w : Word) : (s.setFi k w).drawn = s.drawn := rfl
@[simp] theorem setFi_loops (k : Nat) (w : Word) : (s.setFi k w).loops = s.loops := rfl
@[simp] theorem setFi_pairs (k : Nat) (w : Word) : (s.setFi k w).pairs = s.pairs := rfl
@[simp] theorem setFi_slots (k : Nat) (w : Word) : (s.setFi k w).slots = s.slots := rfl
@[simp] theorem setFi_cells (k : Nat) (w : Word) : (s.setFi k w).cells = s.cells := rfl
@[simp] theorem setFi_placer (k : Nat) (w : Word) : (s.setFi k w).placer = s.placer := rfl
@[simp] theorem setFi_marked (k : Nat) (w : Word) : (s.setFi k w).marked = s.marked := rfl
@[simp] theorem setFi_hwk (k : Nat) (w : Word) : (s.setFi k w).hwk = s.hwk := rfl
@[simp] theorem setFi_traces (k : Nat) (w : Word) : (s.setFi k w).traces = s.traces := rfl
@[simp] theorem setFi_pwr (k : Nat) (w : Word) : (s.setFi k w).pwr = s.pwr := rfl
@[simp] theorem setFi_sessions (k : Nat) (w : Word) : (s.setFi k w).sessions = s.sessions := rfl
@[simp] theorem setFi_fe (k : Nat) (w : Word) : (s.setFi k w).fe = s.fe := rfl
@[simp] theorem setFi_col (k : Nat) (w : Word) : (s.setFi k w).col = s.col := rfl
@[simp] theorem setFi_trunks (k : Nat) (w : Word) : (s.setFi k w).trunks = s.trunks := rfl
@[simp] theorem setFi_nodeHist (k : Nat) (w : Word) : (s.setFi k w).nodeHist = s.nodeHist := rfl
@[simp] theorem setFi_ports (k : Nat) (w : Word) : (s.setFi k w).ports = s.ports := rfl
@[simp] theorem setFi_sv (k : Nat) (w : Word) : (s.setFi k w).sv = s.sv := rfl
@[simp] theorem setFi_fans (k : Nat) (w : Word) : (s.setFi k w).fans = s.fans := rfl
@[simp] theorem setFi_dio (k : Nat) (w : Word) : (s.setFi k w).dio = s.dio := rfl
@[simp] theorem setFi_host (k : Nat) (w : Word) : (s.setFi k w).host = s.host := rfl
@[simp] theorem setFi_face (k : Nat) (w : Word) : (s.setFi k w).face = s.face := rfl
@[simp] theorem setFi_svcTag (k : Nat) (w : Word) : (s.setFi k w).svcTag = s.svcTag := rfl
@[simp] theorem setFi_recd (k : Nat) (w : Word) : (s.setFi k w).recd = s.recd := rfl
@[simp] theorem setFi_rtc (k : Nat) (w : Word) : (s.setFi k w).rtc = s.rtc := rfl
@[simp] theorem setFi_ctl (k : Nat) (w : Word) : (s.setFi k w).ctl = s.ctl := rfl

@[simp] theorem setColumn_pending (d : Nat) (x : Col) : (s.setColumn d x).pending = s.pending := rfl
@[simp] theorem setColumn_dtb (d : Nat) (x : Col) : (s.setColumn d x).dtb = s.dtb := rfl
@[simp] theorem setColumn_act (d : Nat) (x : Col) : (s.setColumn d x).act = s.act := rfl
@[simp] theorem setColumn_shd (d : Nat) (x : Col) : (s.setColumn d x).shd = s.shd := rfl
@[simp] theorem setColumn_pend (d : Nat) (x : Col) : (s.setColumn d x).pend = s.pend := rfl
@[simp] theorem setColumn_nextFrame (d : Nat) (x : Col) : (s.setColumn d x).nextFrame = s.nextFrame := rfl
@[simp] theorem setColumn_answer (d : Nat) (x : Col) : (s.setColumn d x).answer = s.answer := rfl
@[simp] theorem setColumn_drawn (d : Nat) (x : Col) : (s.setColumn d x).drawn = s.drawn := rfl
@[simp] theorem setColumn_loops (d : Nat) (x : Col) : (s.setColumn d x).loops = s.loops := rfl
@[simp] theorem setColumn_pairs (d : Nat) (x : Col) : (s.setColumn d x).pairs = s.pairs := rfl
@[simp] theorem setColumn_slots (d : Nat) (x : Col) : (s.setColumn d x).slots = s.slots := rfl
@[simp] theorem setColumn_cells (d : Nat) (x : Col) : (s.setColumn d x).cells = s.cells := rfl
@[simp] theorem setColumn_placer (d : Nat) (x : Col) : (s.setColumn d x).placer = s.placer := rfl
@[simp] theorem setColumn_image (d : Nat) (x : Col) : (s.setColumn d x).image = s.image := rfl
@[simp] theorem setColumn_marked (d : Nat) (x : Col) : (s.setColumn d x).marked = s.marked := rfl
@[simp] theorem setColumn_hwk (d : Nat) (x : Col) : (s.setColumn d x).hwk = s.hwk := rfl
@[simp] theorem setColumn_traces (d : Nat) (x : Col) : (s.setColumn d x).traces = s.traces := rfl
@[simp] theorem setColumn_pwr (d : Nat) (x : Col) : (s.setColumn d x).pwr = s.pwr := rfl
@[simp] theorem setColumn_sessions (d : Nat) (x : Col) : (s.setColumn d x).sessions = s.sessions := rfl
@[simp] theorem setColumn_fe (d : Nat) (x : Col) : (s.setColumn d x).fe = s.fe := rfl
@[simp] theorem setColumn_trunks (d : Nat) (x : Col) : (s.setColumn d x).trunks = s.trunks := rfl
@[simp] theorem setColumn_nodeHist (d : Nat) (x : Col) : (s.setColumn d x).nodeHist = s.nodeHist := rfl
@[simp] theorem setColumn_ports (d : Nat) (x : Col) : (s.setColumn d x).ports = s.ports := rfl
@[simp] theorem setColumn_sv (d : Nat) (x : Col) : (s.setColumn d x).sv = s.sv := rfl
@[simp] theorem setColumn_fans (d : Nat) (x : Col) : (s.setColumn d x).fans = s.fans := rfl
@[simp] theorem setColumn_dio (d : Nat) (x : Col) : (s.setColumn d x).dio = s.dio := rfl
@[simp] theorem setColumn_host (d : Nat) (x : Col) : (s.setColumn d x).host = s.host := rfl
@[simp] theorem setColumn_face (d : Nat) (x : Col) : (s.setColumn d x).face = s.face := rfl
@[simp] theorem setColumn_svcTag (d : Nat) (x : Col) : (s.setColumn d x).svcTag = s.svcTag := rfl
@[simp] theorem setColumn_recd (d : Nat) (x : Col) : (s.setColumn d x).recd = s.recd := rfl
@[simp] theorem setColumn_rtc (d : Nat) (x : Col) : (s.setColumn d x).rtc = s.rtc := rfl
@[simp] theorem setColumn_ctl (d : Nat) (x : Col) : (s.setColumn d x).ctl = s.ctl := rfl

@[simp] theorem setTrunk_pending (n : Nat) (x : Trunk) : (s.setTrunk n x).pending = s.pending := rfl
@[simp] theorem setTrunk_dtb (n : Nat) (x : Trunk) : (s.setTrunk n x).dtb = s.dtb := rfl
@[simp] theorem setTrunk_act (n : Nat) (x : Trunk) : (s.setTrunk n x).act = s.act := rfl
@[simp] theorem setTrunk_shd (n : Nat) (x : Trunk) : (s.setTrunk n x).shd = s.shd := rfl
@[simp] theorem setTrunk_pend (n : Nat) (x : Trunk) : (s.setTrunk n x).pend = s.pend := rfl
@[simp] theorem setTrunk_nextFrame (n : Nat) (x : Trunk) : (s.setTrunk n x).nextFrame = s.nextFrame := rfl
@[simp] theorem setTrunk_answer (n : Nat) (x : Trunk) : (s.setTrunk n x).answer = s.answer := rfl
@[simp] theorem setTrunk_drawn (n : Nat) (x : Trunk) : (s.setTrunk n x).drawn = s.drawn := rfl
@[simp] theorem setTrunk_loops (n : Nat) (x : Trunk) : (s.setTrunk n x).loops = s.loops := rfl
@[simp] theorem setTrunk_pairs (n : Nat) (x : Trunk) : (s.setTrunk n x).pairs = s.pairs := rfl
@[simp] theorem setTrunk_slots (n : Nat) (x : Trunk) : (s.setTrunk n x).slots = s.slots := rfl
@[simp] theorem setTrunk_cells (n : Nat) (x : Trunk) : (s.setTrunk n x).cells = s.cells := rfl
@[simp] theorem setTrunk_placer (n : Nat) (x : Trunk) : (s.setTrunk n x).placer = s.placer := rfl
@[simp] theorem setTrunk_image (n : Nat) (x : Trunk) : (s.setTrunk n x).image = s.image := rfl
@[simp] theorem setTrunk_marked (n : Nat) (x : Trunk) : (s.setTrunk n x).marked = s.marked := rfl
@[simp] theorem setTrunk_hwk (n : Nat) (x : Trunk) : (s.setTrunk n x).hwk = s.hwk := rfl
@[simp] theorem setTrunk_traces (n : Nat) (x : Trunk) : (s.setTrunk n x).traces = s.traces := rfl
@[simp] theorem setTrunk_pwr (n : Nat) (x : Trunk) : (s.setTrunk n x).pwr = s.pwr := rfl
@[simp] theorem setTrunk_sessions (n : Nat) (x : Trunk) : (s.setTrunk n x).sessions = s.sessions := rfl
@[simp] theorem setTrunk_fe (n : Nat) (x : Trunk) : (s.setTrunk n x).fe = s.fe := rfl
@[simp] theorem setTrunk_col (n : Nat) (x : Trunk) : (s.setTrunk n x).col = s.col := rfl
@[simp] theorem setTrunk_nodeHist (n : Nat) (x : Trunk) : (s.setTrunk n x).nodeHist = s.nodeHist := rfl
@[simp] theorem setTrunk_ports (n : Nat) (x : Trunk) : (s.setTrunk n x).ports = s.ports := rfl
@[simp] theorem setTrunk_sv (n : Nat) (x : Trunk) : (s.setTrunk n x).sv = s.sv := rfl
@[simp] theorem setTrunk_fans (n : Nat) (x : Trunk) : (s.setTrunk n x).fans = s.fans := rfl
@[simp] theorem setTrunk_dio (n : Nat) (x : Trunk) : (s.setTrunk n x).dio = s.dio := rfl
@[simp] theorem setTrunk_host (n : Nat) (x : Trunk) : (s.setTrunk n x).host = s.host := rfl
@[simp] theorem setTrunk_face (n : Nat) (x : Trunk) : (s.setTrunk n x).face = s.face := rfl
@[simp] theorem setTrunk_svcTag (n : Nat) (x : Trunk) : (s.setTrunk n x).svcTag = s.svcTag := rfl
@[simp] theorem setTrunk_recd (n : Nat) (x : Trunk) : (s.setTrunk n x).recd = s.recd := rfl
@[simp] theorem setTrunk_rtc (n : Nat) (x : Trunk) : (s.setTrunk n x).rtc = s.rtc := rfl
@[simp] theorem setTrunk_ctl (n : Nat) (x : Trunk) : (s.setTrunk n x).ctl = s.ctl := rfl

@[simp] theorem setPort_pending (n : Nat) (x : CanPort) : (s.setPort n x).pending = s.pending := rfl
@[simp] theorem setPort_dtb (n : Nat) (x : CanPort) : (s.setPort n x).dtb = s.dtb := rfl
@[simp] theorem setPort_act (n : Nat) (x : CanPort) : (s.setPort n x).act = s.act := rfl
@[simp] theorem setPort_shd (n : Nat) (x : CanPort) : (s.setPort n x).shd = s.shd := rfl
@[simp] theorem setPort_pend (n : Nat) (x : CanPort) : (s.setPort n x).pend = s.pend := rfl
@[simp] theorem setPort_nextFrame (n : Nat) (x : CanPort) : (s.setPort n x).nextFrame = s.nextFrame := rfl
@[simp] theorem setPort_answer (n : Nat) (x : CanPort) : (s.setPort n x).answer = s.answer := rfl
@[simp] theorem setPort_drawn (n : Nat) (x : CanPort) : (s.setPort n x).drawn = s.drawn := rfl
@[simp] theorem setPort_loops (n : Nat) (x : CanPort) : (s.setPort n x).loops = s.loops := rfl
@[simp] theorem setPort_pairs (n : Nat) (x : CanPort) : (s.setPort n x).pairs = s.pairs := rfl
@[simp] theorem setPort_slots (n : Nat) (x : CanPort) : (s.setPort n x).slots = s.slots := rfl
@[simp] theorem setPort_cells (n : Nat) (x : CanPort) : (s.setPort n x).cells = s.cells := rfl
@[simp] theorem setPort_placer (n : Nat) (x : CanPort) : (s.setPort n x).placer = s.placer := rfl
@[simp] theorem setPort_image (n : Nat) (x : CanPort) : (s.setPort n x).image = s.image := rfl
@[simp] theorem setPort_marked (n : Nat) (x : CanPort) : (s.setPort n x).marked = s.marked := rfl
@[simp] theorem setPort_hwk (n : Nat) (x : CanPort) : (s.setPort n x).hwk = s.hwk := rfl
@[simp] theorem setPort_traces (n : Nat) (x : CanPort) : (s.setPort n x).traces = s.traces := rfl
@[simp] theorem setPort_pwr (n : Nat) (x : CanPort) : (s.setPort n x).pwr = s.pwr := rfl
@[simp] theorem setPort_sessions (n : Nat) (x : CanPort) : (s.setPort n x).sessions = s.sessions := rfl
@[simp] theorem setPort_fe (n : Nat) (x : CanPort) : (s.setPort n x).fe = s.fe := rfl
@[simp] theorem setPort_col (n : Nat) (x : CanPort) : (s.setPort n x).col = s.col := rfl
@[simp] theorem setPort_trunks (n : Nat) (x : CanPort) : (s.setPort n x).trunks = s.trunks := rfl
@[simp] theorem setPort_nodeHist (n : Nat) (x : CanPort) : (s.setPort n x).nodeHist = s.nodeHist := rfl
@[simp] theorem setPort_sv (n : Nat) (x : CanPort) : (s.setPort n x).sv = s.sv := rfl
@[simp] theorem setPort_fans (n : Nat) (x : CanPort) : (s.setPort n x).fans = s.fans := rfl
@[simp] theorem setPort_dio (n : Nat) (x : CanPort) : (s.setPort n x).dio = s.dio := rfl
@[simp] theorem setPort_host (n : Nat) (x : CanPort) : (s.setPort n x).host = s.host := rfl
@[simp] theorem setPort_face (n : Nat) (x : CanPort) : (s.setPort n x).face = s.face := rfl
@[simp] theorem setPort_svcTag (n : Nat) (x : CanPort) : (s.setPort n x).svcTag = s.svcTag := rfl
@[simp] theorem setPort_recd (n : Nat) (x : CanPort) : (s.setPort n x).recd = s.recd := rfl
@[simp] theorem setPort_rtc (n : Nat) (x : CanPort) : (s.setPort n x).rtc = s.rtc := rfl
@[simp] theorem setPort_ctl (n : Nat) (x : CanPort) : (s.setPort n x).ctl = s.ctl := rfl

@[simp] theorem setSvc_pending (n : Nat) (x : SvChan) : (s.setSvc n x).pending = s.pending := rfl
@[simp] theorem setSvc_dtb (n : Nat) (x : SvChan) : (s.setSvc n x).dtb = s.dtb := rfl
@[simp] theorem setSvc_act (n : Nat) (x : SvChan) : (s.setSvc n x).act = s.act := rfl
@[simp] theorem setSvc_shd (n : Nat) (x : SvChan) : (s.setSvc n x).shd = s.shd := rfl
@[simp] theorem setSvc_pend (n : Nat) (x : SvChan) : (s.setSvc n x).pend = s.pend := rfl
@[simp] theorem setSvc_nextFrame (n : Nat) (x : SvChan) : (s.setSvc n x).nextFrame = s.nextFrame := rfl
@[simp] theorem setSvc_answer (n : Nat) (x : SvChan) : (s.setSvc n x).answer = s.answer := rfl
@[simp] theorem setSvc_drawn (n : Nat) (x : SvChan) : (s.setSvc n x).drawn = s.drawn := rfl
@[simp] theorem setSvc_loops (n : Nat) (x : SvChan) : (s.setSvc n x).loops = s.loops := rfl
@[simp] theorem setSvc_pairs (n : Nat) (x : SvChan) : (s.setSvc n x).pairs = s.pairs := rfl
@[simp] theorem setSvc_slots (n : Nat) (x : SvChan) : (s.setSvc n x).slots = s.slots := rfl
@[simp] theorem setSvc_cells (n : Nat) (x : SvChan) : (s.setSvc n x).cells = s.cells := rfl
@[simp] theorem setSvc_placer (n : Nat) (x : SvChan) : (s.setSvc n x).placer = s.placer := rfl
@[simp] theorem setSvc_image (n : Nat) (x : SvChan) : (s.setSvc n x).image = s.image := rfl
@[simp] theorem setSvc_marked (n : Nat) (x : SvChan) : (s.setSvc n x).marked = s.marked := rfl
@[simp] theorem setSvc_hwk (n : Nat) (x : SvChan) : (s.setSvc n x).hwk = s.hwk := rfl
@[simp] theorem setSvc_traces (n : Nat) (x : SvChan) : (s.setSvc n x).traces = s.traces := rfl
@[simp] theorem setSvc_pwr (n : Nat) (x : SvChan) : (s.setSvc n x).pwr = s.pwr := rfl
@[simp] theorem setSvc_sessions (n : Nat) (x : SvChan) : (s.setSvc n x).sessions = s.sessions := rfl
@[simp] theorem setSvc_fe (n : Nat) (x : SvChan) : (s.setSvc n x).fe = s.fe := rfl
@[simp] theorem setSvc_col (n : Nat) (x : SvChan) : (s.setSvc n x).col = s.col := rfl
@[simp] theorem setSvc_trunks (n : Nat) (x : SvChan) : (s.setSvc n x).trunks = s.trunks := rfl
@[simp] theorem setSvc_nodeHist (n : Nat) (x : SvChan) : (s.setSvc n x).nodeHist = s.nodeHist := rfl
@[simp] theorem setSvc_ports (n : Nat) (x : SvChan) : (s.setSvc n x).ports = s.ports := rfl
@[simp] theorem setSvc_fans (n : Nat) (x : SvChan) : (s.setSvc n x).fans = s.fans := rfl
@[simp] theorem setSvc_dio (n : Nat) (x : SvChan) : (s.setSvc n x).dio = s.dio := rfl
@[simp] theorem setSvc_host (n : Nat) (x : SvChan) : (s.setSvc n x).host = s.host := rfl
@[simp] theorem setSvc_face (n : Nat) (x : SvChan) : (s.setSvc n x).face = s.face := rfl
@[simp] theorem setSvc_svcTag (n : Nat) (x : SvChan) : (s.setSvc n x).svcTag = s.svcTag := rfl
@[simp] theorem setSvc_recd (n : Nat) (x : SvChan) : (s.setSvc n x).recd = s.recd := rfl
@[simp] theorem setSvc_rtc (n : Nat) (x : SvChan) : (s.setSvc n x).rtc = s.rtc := rfl
@[simp] theorem setSvc_ctl (n : Nat) (x : SvChan) : (s.setSvc n x).ctl = s.ctl := rfl

@[simp] theorem setSvk_pending (b : Nat) (x : SvBank) : (s.setSvk b x).pending = s.pending := rfl
@[simp] theorem setSvk_dtb (b : Nat) (x : SvBank) : (s.setSvk b x).dtb = s.dtb := rfl
@[simp] theorem setSvk_act (b : Nat) (x : SvBank) : (s.setSvk b x).act = s.act := rfl
@[simp] theorem setSvk_shd (b : Nat) (x : SvBank) : (s.setSvk b x).shd = s.shd := rfl
@[simp] theorem setSvk_pend (b : Nat) (x : SvBank) : (s.setSvk b x).pend = s.pend := rfl
@[simp] theorem setSvk_nextFrame (b : Nat) (x : SvBank) : (s.setSvk b x).nextFrame = s.nextFrame := rfl
@[simp] theorem setSvk_answer (b : Nat) (x : SvBank) : (s.setSvk b x).answer = s.answer := rfl
@[simp] theorem setSvk_drawn (b : Nat) (x : SvBank) : (s.setSvk b x).drawn = s.drawn := rfl
@[simp] theorem setSvk_loops (b : Nat) (x : SvBank) : (s.setSvk b x).loops = s.loops := rfl
@[simp] theorem setSvk_pairs (b : Nat) (x : SvBank) : (s.setSvk b x).pairs = s.pairs := rfl
@[simp] theorem setSvk_slots (b : Nat) (x : SvBank) : (s.setSvk b x).slots = s.slots := rfl
@[simp] theorem setSvk_cells (b : Nat) (x : SvBank) : (s.setSvk b x).cells = s.cells := rfl
@[simp] theorem setSvk_placer (b : Nat) (x : SvBank) : (s.setSvk b x).placer = s.placer := rfl
@[simp] theorem setSvk_image (b : Nat) (x : SvBank) : (s.setSvk b x).image = s.image := rfl
@[simp] theorem setSvk_marked (b : Nat) (x : SvBank) : (s.setSvk b x).marked = s.marked := rfl
@[simp] theorem setSvk_hwk (b : Nat) (x : SvBank) : (s.setSvk b x).hwk = s.hwk := rfl
@[simp] theorem setSvk_traces (b : Nat) (x : SvBank) : (s.setSvk b x).traces = s.traces := rfl
@[simp] theorem setSvk_pwr (b : Nat) (x : SvBank) : (s.setSvk b x).pwr = s.pwr := rfl
@[simp] theorem setSvk_sessions (b : Nat) (x : SvBank) : (s.setSvk b x).sessions = s.sessions := rfl
@[simp] theorem setSvk_fe (b : Nat) (x : SvBank) : (s.setSvk b x).fe = s.fe := rfl
@[simp] theorem setSvk_col (b : Nat) (x : SvBank) : (s.setSvk b x).col = s.col := rfl
@[simp] theorem setSvk_trunks (b : Nat) (x : SvBank) : (s.setSvk b x).trunks = s.trunks := rfl
@[simp] theorem setSvk_nodeHist (b : Nat) (x : SvBank) : (s.setSvk b x).nodeHist = s.nodeHist := rfl
@[simp] theorem setSvk_ports (b : Nat) (x : SvBank) : (s.setSvk b x).ports = s.ports := rfl
@[simp] theorem setSvk_fans (b : Nat) (x : SvBank) : (s.setSvk b x).fans = s.fans := rfl
@[simp] theorem setSvk_dio (b : Nat) (x : SvBank) : (s.setSvk b x).dio = s.dio := rfl
@[simp] theorem setSvk_host (b : Nat) (x : SvBank) : (s.setSvk b x).host = s.host := rfl
@[simp] theorem setSvk_face (b : Nat) (x : SvBank) : (s.setSvk b x).face = s.face := rfl
@[simp] theorem setSvk_svcTag (b : Nat) (x : SvBank) : (s.setSvk b x).svcTag = s.svcTag := rfl
@[simp] theorem setSvk_recd (b : Nat) (x : SvBank) : (s.setSvk b x).recd = s.recd := rfl
@[simp] theorem setSvk_rtc (b : Nat) (x : SvBank) : (s.setSvk b x).rtc = s.rtc := rfl
@[simp] theorem setSvk_ctl (b : Nat) (x : SvBank) : (s.setSvk b x).ctl = s.ctl := rfl

@[simp] theorem setFan_pending (n : Nat) (x : FanChan) : (s.setFan n x).pending = s.pending := rfl
@[simp] theorem setFan_dtb (n : Nat) (x : FanChan) : (s.setFan n x).dtb = s.dtb := rfl
@[simp] theorem setFan_act (n : Nat) (x : FanChan) : (s.setFan n x).act = s.act := rfl
@[simp] theorem setFan_shd (n : Nat) (x : FanChan) : (s.setFan n x).shd = s.shd := rfl
@[simp] theorem setFan_pend (n : Nat) (x : FanChan) : (s.setFan n x).pend = s.pend := rfl
@[simp] theorem setFan_nextFrame (n : Nat) (x : FanChan) : (s.setFan n x).nextFrame = s.nextFrame := rfl
@[simp] theorem setFan_answer (n : Nat) (x : FanChan) : (s.setFan n x).answer = s.answer := rfl
@[simp] theorem setFan_drawn (n : Nat) (x : FanChan) : (s.setFan n x).drawn = s.drawn := rfl
@[simp] theorem setFan_loops (n : Nat) (x : FanChan) : (s.setFan n x).loops = s.loops := rfl
@[simp] theorem setFan_pairs (n : Nat) (x : FanChan) : (s.setFan n x).pairs = s.pairs := rfl
@[simp] theorem setFan_slots (n : Nat) (x : FanChan) : (s.setFan n x).slots = s.slots := rfl
@[simp] theorem setFan_cells (n : Nat) (x : FanChan) : (s.setFan n x).cells = s.cells := rfl
@[simp] theorem setFan_placer (n : Nat) (x : FanChan) : (s.setFan n x).placer = s.placer := rfl
@[simp] theorem setFan_image (n : Nat) (x : FanChan) : (s.setFan n x).image = s.image := rfl
@[simp] theorem setFan_marked (n : Nat) (x : FanChan) : (s.setFan n x).marked = s.marked := rfl
@[simp] theorem setFan_hwk (n : Nat) (x : FanChan) : (s.setFan n x).hwk = s.hwk := rfl
@[simp] theorem setFan_traces (n : Nat) (x : FanChan) : (s.setFan n x).traces = s.traces := rfl
@[simp] theorem setFan_pwr (n : Nat) (x : FanChan) : (s.setFan n x).pwr = s.pwr := rfl
@[simp] theorem setFan_sessions (n : Nat) (x : FanChan) : (s.setFan n x).sessions = s.sessions := rfl
@[simp] theorem setFan_fe (n : Nat) (x : FanChan) : (s.setFan n x).fe = s.fe := rfl
@[simp] theorem setFan_col (n : Nat) (x : FanChan) : (s.setFan n x).col = s.col := rfl
@[simp] theorem setFan_trunks (n : Nat) (x : FanChan) : (s.setFan n x).trunks = s.trunks := rfl
@[simp] theorem setFan_nodeHist (n : Nat) (x : FanChan) : (s.setFan n x).nodeHist = s.nodeHist := rfl
@[simp] theorem setFan_ports (n : Nat) (x : FanChan) : (s.setFan n x).ports = s.ports := rfl
@[simp] theorem setFan_sv (n : Nat) (x : FanChan) : (s.setFan n x).sv = s.sv := rfl
@[simp] theorem setFan_dio (n : Nat) (x : FanChan) : (s.setFan n x).dio = s.dio := rfl
@[simp] theorem setFan_host (n : Nat) (x : FanChan) : (s.setFan n x).host = s.host := rfl
@[simp] theorem setFan_face (n : Nat) (x : FanChan) : (s.setFan n x).face = s.face := rfl
@[simp] theorem setFan_svcTag (n : Nat) (x : FanChan) : (s.setFan n x).svcTag = s.svcTag := rfl
@[simp] theorem setFan_recd (n : Nat) (x : FanChan) : (s.setFan n x).recd = s.recd := rfl
@[simp] theorem setFan_rtc (n : Nat) (x : FanChan) : (s.setFan n x).rtc = s.rtc := rfl
@[simp] theorem setFan_ctl (n : Nat) (x : FanChan) : (s.setFan n x).ctl = s.ctl := rfl

@[simp] theorem setDio_pending (x : DioSt) : (s.setDio x).pending = s.pending := rfl
@[simp] theorem setDio_dtb (x : DioSt) : (s.setDio x).dtb = s.dtb := rfl
@[simp] theorem setDio_act (x : DioSt) : (s.setDio x).act = s.act := rfl
@[simp] theorem setDio_shd (x : DioSt) : (s.setDio x).shd = s.shd := rfl
@[simp] theorem setDio_pend (x : DioSt) : (s.setDio x).pend = s.pend := rfl
@[simp] theorem setDio_nextFrame (x : DioSt) : (s.setDio x).nextFrame = s.nextFrame := rfl
@[simp] theorem setDio_answer (x : DioSt) : (s.setDio x).answer = s.answer := rfl
@[simp] theorem setDio_drawn (x : DioSt) : (s.setDio x).drawn = s.drawn := rfl
@[simp] theorem setDio_loops (x : DioSt) : (s.setDio x).loops = s.loops := rfl
@[simp] theorem setDio_pairs (x : DioSt) : (s.setDio x).pairs = s.pairs := rfl
@[simp] theorem setDio_slots (x : DioSt) : (s.setDio x).slots = s.slots := rfl
@[simp] theorem setDio_cells (x : DioSt) : (s.setDio x).cells = s.cells := rfl
@[simp] theorem setDio_placer (x : DioSt) : (s.setDio x).placer = s.placer := rfl
@[simp] theorem setDio_image (x : DioSt) : (s.setDio x).image = s.image := rfl
@[simp] theorem setDio_marked (x : DioSt) : (s.setDio x).marked = s.marked := rfl
@[simp] theorem setDio_hwk (x : DioSt) : (s.setDio x).hwk = s.hwk := rfl
@[simp] theorem setDio_traces (x : DioSt) : (s.setDio x).traces = s.traces := rfl
@[simp] theorem setDio_pwr (x : DioSt) : (s.setDio x).pwr = s.pwr := rfl
@[simp] theorem setDio_sessions (x : DioSt) : (s.setDio x).sessions = s.sessions := rfl
@[simp] theorem setDio_fe (x : DioSt) : (s.setDio x).fe = s.fe := rfl
@[simp] theorem setDio_col (x : DioSt) : (s.setDio x).col = s.col := rfl
@[simp] theorem setDio_trunks (x : DioSt) : (s.setDio x).trunks = s.trunks := rfl
@[simp] theorem setDio_nodeHist (x : DioSt) : (s.setDio x).nodeHist = s.nodeHist := rfl
@[simp] theorem setDio_ports (x : DioSt) : (s.setDio x).ports = s.ports := rfl
@[simp] theorem setDio_sv (x : DioSt) : (s.setDio x).sv = s.sv := rfl
@[simp] theorem setDio_fans (x : DioSt) : (s.setDio x).fans = s.fans := rfl
@[simp] theorem setDio_host (x : DioSt) : (s.setDio x).host = s.host := rfl
@[simp] theorem setDio_face (x : DioSt) : (s.setDio x).face = s.face := rfl
@[simp] theorem setDio_svcTag (x : DioSt) : (s.setDio x).svcTag = s.svcTag := rfl
@[simp] theorem setDio_recd (x : DioSt) : (s.setDio x).recd = s.recd := rfl
@[simp] theorem setDio_rtc (x : DioSt) : (s.setDio x).rtc = s.rtc := rfl
@[simp] theorem setDio_ctl (x : DioSt) : (s.setDio x).ctl = s.ctl := rfl

@[simp] theorem setField_pending (x : FieldSide) : (s.setField x).pending = s.pending := rfl
@[simp] theorem setField_dtb (x : FieldSide) : (s.setField x).dtb = s.dtb := rfl
@[simp] theorem setField_act (x : FieldSide) : (s.setField x).act = s.act := rfl
@[simp] theorem setField_shd (x : FieldSide) : (s.setField x).shd = s.shd := rfl
@[simp] theorem setField_pend (x : FieldSide) : (s.setField x).pend = s.pend := rfl
@[simp] theorem setField_nextFrame (x : FieldSide) : (s.setField x).nextFrame = s.nextFrame := rfl
@[simp] theorem setField_answer (x : FieldSide) : (s.setField x).answer = s.answer := rfl
@[simp] theorem setField_drawn (x : FieldSide) : (s.setField x).drawn = s.drawn := rfl
@[simp] theorem setField_loops (x : FieldSide) : (s.setField x).loops = s.loops := rfl
@[simp] theorem setField_pairs (x : FieldSide) : (s.setField x).pairs = s.pairs := rfl
@[simp] theorem setField_slots (x : FieldSide) : (s.setField x).slots = s.slots := rfl
@[simp] theorem setField_cells (x : FieldSide) : (s.setField x).cells = s.cells := rfl
@[simp] theorem setField_placer (x : FieldSide) : (s.setField x).placer = s.placer := rfl
@[simp] theorem setField_image (x : FieldSide) : (s.setField x).image = s.image := rfl
@[simp] theorem setField_marked (x : FieldSide) : (s.setField x).marked = s.marked := rfl
@[simp] theorem setField_hwk (x : FieldSide) : (s.setField x).hwk = s.hwk := rfl
@[simp] theorem setField_traces (x : FieldSide) : (s.setField x).traces = s.traces := rfl
@[simp] theorem setField_pwr (x : FieldSide) : (s.setField x).pwr = s.pwr := rfl
@[simp] theorem setField_sessions (x : FieldSide) : (s.setField x).sessions = s.sessions := rfl
@[simp] theorem setField_fe (x : FieldSide) : (s.setField x).fe = s.fe := rfl
@[simp] theorem setField_col (x : FieldSide) : (s.setField x).col = s.col := rfl
@[simp] theorem setField_trunks (x : FieldSide) : (s.setField x).trunks = s.trunks := rfl
@[simp] theorem setField_nodeHist (x : FieldSide) : (s.setField x).nodeHist = s.nodeHist := rfl
@[simp] theorem setField_ports (x : FieldSide) : (s.setField x).ports = s.ports := rfl
@[simp] theorem setField_sv (x : FieldSide) : (s.setField x).sv = s.sv := rfl
@[simp] theorem setField_fans (x : FieldSide) : (s.setField x).fans = s.fans := rfl
@[simp] theorem setField_host (x : FieldSide) : (s.setField x).host = s.host := rfl
@[simp] theorem setField_face (x : FieldSide) : (s.setField x).face = s.face := rfl
@[simp] theorem setField_svcTag (x : FieldSide) : (s.setField x).svcTag = s.svcTag := rfl
@[simp] theorem setField_recd (x : FieldSide) : (s.setField x).recd = s.recd := rfl
@[simp] theorem setField_rtc (x : FieldSide) : (s.setField x).rtc = s.rtc := rfl
@[simp] theorem setField_ctl (x : FieldSide) : (s.setField x).ctl = s.ctl := rfl

@[simp] theorem setFch_pending (n : Nat) (c : FieldChan) : (s.setFch n c).pending = s.pending := rfl
@[simp] theorem setFch_dtb (n : Nat) (c : FieldChan) : (s.setFch n c).dtb = s.dtb := rfl
@[simp] theorem setFch_act (n : Nat) (c : FieldChan) : (s.setFch n c).act = s.act := rfl
@[simp] theorem setFch_shd (n : Nat) (c : FieldChan) : (s.setFch n c).shd = s.shd := rfl
@[simp] theorem setFch_pend (n : Nat) (c : FieldChan) : (s.setFch n c).pend = s.pend := rfl
@[simp] theorem setFch_nextFrame (n : Nat) (c : FieldChan) : (s.setFch n c).nextFrame = s.nextFrame := rfl
@[simp] theorem setFch_answer (n : Nat) (c : FieldChan) : (s.setFch n c).answer = s.answer := rfl
@[simp] theorem setFch_drawn (n : Nat) (c : FieldChan) : (s.setFch n c).drawn = s.drawn := rfl
@[simp] theorem setFch_loops (n : Nat) (c : FieldChan) : (s.setFch n c).loops = s.loops := rfl
@[simp] theorem setFch_pairs (n : Nat) (c : FieldChan) : (s.setFch n c).pairs = s.pairs := rfl
@[simp] theorem setFch_slots (n : Nat) (c : FieldChan) : (s.setFch n c).slots = s.slots := rfl
@[simp] theorem setFch_cells (n : Nat) (c : FieldChan) : (s.setFch n c).cells = s.cells := rfl
@[simp] theorem setFch_placer (n : Nat) (c : FieldChan) : (s.setFch n c).placer = s.placer := rfl
@[simp] theorem setFch_image (n : Nat) (c : FieldChan) : (s.setFch n c).image = s.image := rfl
@[simp] theorem setFch_marked (n : Nat) (c : FieldChan) : (s.setFch n c).marked = s.marked := rfl
@[simp] theorem setFch_hwk (n : Nat) (c : FieldChan) : (s.setFch n c).hwk = s.hwk := rfl
@[simp] theorem setFch_traces (n : Nat) (c : FieldChan) : (s.setFch n c).traces = s.traces := rfl
@[simp] theorem setFch_pwr (n : Nat) (c : FieldChan) : (s.setFch n c).pwr = s.pwr := rfl
@[simp] theorem setFch_sessions (n : Nat) (c : FieldChan) : (s.setFch n c).sessions = s.sessions := rfl
@[simp] theorem setFch_fe (n : Nat) (c : FieldChan) : (s.setFch n c).fe = s.fe := rfl
@[simp] theorem setFch_col (n : Nat) (c : FieldChan) : (s.setFch n c).col = s.col := rfl
@[simp] theorem setFch_trunks (n : Nat) (c : FieldChan) : (s.setFch n c).trunks = s.trunks := rfl
@[simp] theorem setFch_nodeHist (n : Nat) (c : FieldChan) : (s.setFch n c).nodeHist = s.nodeHist := rfl
@[simp] theorem setFch_ports (n : Nat) (c : FieldChan) : (s.setFch n c).ports = s.ports := rfl
@[simp] theorem setFch_sv (n : Nat) (c : FieldChan) : (s.setFch n c).sv = s.sv := rfl
@[simp] theorem setFch_fans (n : Nat) (c : FieldChan) : (s.setFch n c).fans = s.fans := rfl
@[simp] theorem setFch_host (n : Nat) (c : FieldChan) : (s.setFch n c).host = s.host := rfl
@[simp] theorem setFch_face (n : Nat) (c : FieldChan) : (s.setFch n c).face = s.face := rfl
@[simp] theorem setFch_svcTag (n : Nat) (c : FieldChan) : (s.setFch n c).svcTag = s.svcTag := rfl
@[simp] theorem setFch_recd (n : Nat) (c : FieldChan) : (s.setFch n c).recd = s.recd := rfl
@[simp] theorem setFch_rtc (n : Nat) (c : FieldChan) : (s.setFch n c).rtc = s.rtc := rfl
@[simp] theorem setFch_ctl (n : Nat) (c : FieldChan) : (s.setFch n c).ctl = s.ctl := rfl

@[simp] theorem setBucket_pending (key : Nat) (b : Bucket) : (s.setBucket key b).pending = s.pending := rfl
@[simp] theorem setBucket_dtb (key : Nat) (b : Bucket) : (s.setBucket key b).dtb = s.dtb := rfl
@[simp] theorem setBucket_act (key : Nat) (b : Bucket) : (s.setBucket key b).act = s.act := rfl
@[simp] theorem setBucket_shd (key : Nat) (b : Bucket) : (s.setBucket key b).shd = s.shd := rfl
@[simp] theorem setBucket_pend (key : Nat) (b : Bucket) : (s.setBucket key b).pend = s.pend := rfl
@[simp] theorem setBucket_nextFrame (key : Nat) (b : Bucket) : (s.setBucket key b).nextFrame = s.nextFrame := rfl
@[simp] theorem setBucket_answer (key : Nat) (b : Bucket) : (s.setBucket key b).answer = s.answer := rfl
@[simp] theorem setBucket_drawn (key : Nat) (b : Bucket) : (s.setBucket key b).drawn = s.drawn := rfl
@[simp] theorem setBucket_loops (key : Nat) (b : Bucket) : (s.setBucket key b).loops = s.loops := rfl
@[simp] theorem setBucket_pairs (key : Nat) (b : Bucket) : (s.setBucket key b).pairs = s.pairs := rfl
@[simp] theorem setBucket_slots (key : Nat) (b : Bucket) : (s.setBucket key b).slots = s.slots := rfl
@[simp] theorem setBucket_cells (key : Nat) (b : Bucket) : (s.setBucket key b).cells = s.cells := rfl
@[simp] theorem setBucket_placer (key : Nat) (b : Bucket) : (s.setBucket key b).placer = s.placer := rfl
@[simp] theorem setBucket_image (key : Nat) (b : Bucket) : (s.setBucket key b).image = s.image := rfl
@[simp] theorem setBucket_marked (key : Nat) (b : Bucket) : (s.setBucket key b).marked = s.marked := rfl
@[simp] theorem setBucket_hwk (key : Nat) (b : Bucket) : (s.setBucket key b).hwk = s.hwk := rfl
@[simp] theorem setBucket_traces (key : Nat) (b : Bucket) : (s.setBucket key b).traces = s.traces := rfl
@[simp] theorem setBucket_pwr (key : Nat) (b : Bucket) : (s.setBucket key b).pwr = s.pwr := rfl
@[simp] theorem setBucket_sessions (key : Nat) (b : Bucket) : (s.setBucket key b).sessions = s.sessions := rfl
@[simp] theorem setBucket_fe (key : Nat) (b : Bucket) : (s.setBucket key b).fe = s.fe := rfl
@[simp] theorem setBucket_col (key : Nat) (b : Bucket) : (s.setBucket key b).col = s.col := rfl
@[simp] theorem setBucket_trunks (key : Nat) (b : Bucket) : (s.setBucket key b).trunks = s.trunks := rfl
@[simp] theorem setBucket_nodeHist (key : Nat) (b : Bucket) : (s.setBucket key b).nodeHist = s.nodeHist := rfl
@[simp] theorem setBucket_ports (key : Nat) (b : Bucket) : (s.setBucket key b).ports = s.ports := rfl
@[simp] theorem setBucket_sv (key : Nat) (b : Bucket) : (s.setBucket key b).sv = s.sv := rfl
@[simp] theorem setBucket_fans (key : Nat) (b : Bucket) : (s.setBucket key b).fans = s.fans := rfl
@[simp] theorem setBucket_dio (key : Nat) (b : Bucket) : (s.setBucket key b).dio = s.dio := rfl
@[simp] theorem setBucket_host (key : Nat) (b : Bucket) : (s.setBucket key b).host = s.host := rfl
@[simp] theorem setBucket_face (key : Nat) (b : Bucket) : (s.setBucket key b).face = s.face := rfl
@[simp] theorem setBucket_svcTag (key : Nat) (b : Bucket) : (s.setBucket key b).svcTag = s.svcTag := rfl
@[simp] theorem setBucket_rtc (key : Nat) (b : Bucket) : (s.setBucket key b).rtc = s.rtc := rfl
@[simp] theorem setBucket_ctl (key : Nat) (b : Bucket) : (s.setBucket key b).ctl = s.ctl := rfl

@[simp] theorem setHost_pending (x : HostSt) : (s.setHost x).pending = s.pending := rfl
@[simp] theorem setHost_dtb (x : HostSt) : (s.setHost x).dtb = s.dtb := rfl
@[simp] theorem setHost_act (x : HostSt) : (s.setHost x).act = s.act := rfl
@[simp] theorem setHost_shd (x : HostSt) : (s.setHost x).shd = s.shd := rfl
@[simp] theorem setHost_pend (x : HostSt) : (s.setHost x).pend = s.pend := rfl
@[simp] theorem setHost_nextFrame (x : HostSt) : (s.setHost x).nextFrame = s.nextFrame := rfl
@[simp] theorem setHost_answer (x : HostSt) : (s.setHost x).answer = s.answer := rfl
@[simp] theorem setHost_drawn (x : HostSt) : (s.setHost x).drawn = s.drawn := rfl
@[simp] theorem setHost_loops (x : HostSt) : (s.setHost x).loops = s.loops := rfl
@[simp] theorem setHost_pairs (x : HostSt) : (s.setHost x).pairs = s.pairs := rfl
@[simp] theorem setHost_slots (x : HostSt) : (s.setHost x).slots = s.slots := rfl
@[simp] theorem setHost_cells (x : HostSt) : (s.setHost x).cells = s.cells := rfl
@[simp] theorem setHost_placer (x : HostSt) : (s.setHost x).placer = s.placer := rfl
@[simp] theorem setHost_image (x : HostSt) : (s.setHost x).image = s.image := rfl
@[simp] theorem setHost_marked (x : HostSt) : (s.setHost x).marked = s.marked := rfl
@[simp] theorem setHost_hwk (x : HostSt) : (s.setHost x).hwk = s.hwk := rfl
@[simp] theorem setHost_traces (x : HostSt) : (s.setHost x).traces = s.traces := rfl
@[simp] theorem setHost_pwr (x : HostSt) : (s.setHost x).pwr = s.pwr := rfl
@[simp] theorem setHost_sessions (x : HostSt) : (s.setHost x).sessions = s.sessions := rfl
@[simp] theorem setHost_fe (x : HostSt) : (s.setHost x).fe = s.fe := rfl
@[simp] theorem setHost_col (x : HostSt) : (s.setHost x).col = s.col := rfl
@[simp] theorem setHost_trunks (x : HostSt) : (s.setHost x).trunks = s.trunks := rfl
@[simp] theorem setHost_nodeHist (x : HostSt) : (s.setHost x).nodeHist = s.nodeHist := rfl
@[simp] theorem setHost_ports (x : HostSt) : (s.setHost x).ports = s.ports := rfl
@[simp] theorem setHost_sv (x : HostSt) : (s.setHost x).sv = s.sv := rfl
@[simp] theorem setHost_fans (x : HostSt) : (s.setHost x).fans = s.fans := rfl
@[simp] theorem setHost_dio (x : HostSt) : (s.setHost x).dio = s.dio := rfl
@[simp] theorem setHost_face (x : HostSt) : (s.setHost x).face = s.face := rfl
@[simp] theorem setHost_svcTag (x : HostSt) : (s.setHost x).svcTag = s.svcTag := rfl
@[simp] theorem setHost_recd (x : HostSt) : (s.setHost x).recd = s.recd := rfl
@[simp] theorem setHost_rtc (x : HostSt) : (s.setHost x).rtc = s.rtc := rfl
@[simp] theorem setHost_ctl (x : HostSt) : (s.setHost x).ctl = s.ctl := rfl

@[simp] theorem send_pending (port kind : Nat) (bytes : List Byte) : (s.send port kind bytes).pending = s.pending := rfl
@[simp] theorem send_dtb (port kind : Nat) (bytes : List Byte) : (s.send port kind bytes).dtb = s.dtb := rfl
@[simp] theorem send_act (port kind : Nat) (bytes : List Byte) : (s.send port kind bytes).act = s.act := rfl
@[simp] theorem send_shd (port kind : Nat) (bytes : List Byte) : (s.send port kind bytes).shd = s.shd := rfl
@[simp] theorem send_pend (port kind : Nat) (bytes : List Byte) : (s.send port kind bytes).pend = s.pend := rfl
@[simp] theorem send_nextFrame (port kind : Nat) (bytes : List Byte) : (s.send port kind bytes).nextFrame = s.nextFrame := rfl
@[simp] theorem send_answer (port kind : Nat) (bytes : List Byte) : (s.send port kind bytes).answer = s.answer := rfl
@[simp] theorem send_drawn (port kind : Nat) (bytes : List Byte) : (s.send port kind bytes).drawn = s.drawn := rfl
@[simp] theorem send_loops (port kind : Nat) (bytes : List Byte) : (s.send port kind bytes).loops = s.loops := rfl
@[simp] theorem send_pairs (port kind : Nat) (bytes : List Byte) : (s.send port kind bytes).pairs = s.pairs := rfl
@[simp] theorem send_slots (port kind : Nat) (bytes : List Byte) : (s.send port kind bytes).slots = s.slots := rfl
@[simp] theorem send_cells (port kind : Nat) (bytes : List Byte) : (s.send port kind bytes).cells = s.cells := rfl
@[simp] theorem send_placer (port kind : Nat) (bytes : List Byte) : (s.send port kind bytes).placer = s.placer := rfl
@[simp] theorem send_image (port kind : Nat) (bytes : List Byte) : (s.send port kind bytes).image = s.image := rfl
@[simp] theorem send_marked (port kind : Nat) (bytes : List Byte) : (s.send port kind bytes).marked = s.marked := rfl
@[simp] theorem send_hwk (port kind : Nat) (bytes : List Byte) : (s.send port kind bytes).hwk = s.hwk := rfl
@[simp] theorem send_traces (port kind : Nat) (bytes : List Byte) : (s.send port kind bytes).traces = s.traces := rfl
@[simp] theorem send_pwr (port kind : Nat) (bytes : List Byte) : (s.send port kind bytes).pwr = s.pwr := rfl
@[simp] theorem send_sessions (port kind : Nat) (bytes : List Byte) : (s.send port kind bytes).sessions = s.sessions := rfl
@[simp] theorem send_fe (port kind : Nat) (bytes : List Byte) : (s.send port kind bytes).fe = s.fe := rfl
@[simp] theorem send_col (port kind : Nat) (bytes : List Byte) : (s.send port kind bytes).col = s.col := rfl
@[simp] theorem send_trunks (port kind : Nat) (bytes : List Byte) : (s.send port kind bytes).trunks = s.trunks := rfl
@[simp] theorem send_nodeHist (port kind : Nat) (bytes : List Byte) : (s.send port kind bytes).nodeHist = s.nodeHist := rfl
@[simp] theorem send_ports (port kind : Nat) (bytes : List Byte) : (s.send port kind bytes).ports = s.ports := rfl
@[simp] theorem send_sv (port kind : Nat) (bytes : List Byte) : (s.send port kind bytes).sv = s.sv := rfl
@[simp] theorem send_fans (port kind : Nat) (bytes : List Byte) : (s.send port kind bytes).fans = s.fans := rfl
@[simp] theorem send_dio (port kind : Nat) (bytes : List Byte) : (s.send port kind bytes).dio = s.dio := rfl
@[simp] theorem send_face (port kind : Nat) (bytes : List Byte) : (s.send port kind bytes).face = s.face := rfl
@[simp] theorem send_svcTag (port kind : Nat) (bytes : List Byte) : (s.send port kind bytes).svcTag = s.svcTag := rfl
@[simp] theorem send_recd (port kind : Nat) (bytes : List Byte) : (s.send port kind bytes).recd = s.recd := rfl
@[simp] theorem send_rtc (port kind : Nat) (bytes : List Byte) : (s.send port kind bytes).rtc = s.rtc := rfl
@[simp] theorem send_ctl (port kind : Nat) (bytes : List Byte) : (s.send port kind bytes).ctl = s.ctl := rfl

@[simp] theorem setSession_pending (sid : Nat) (x : Session) : (s.setSession sid x).pending = s.pending := rfl
@[simp] theorem setSession_dtb (sid : Nat) (x : Session) : (s.setSession sid x).dtb = s.dtb := rfl
@[simp] theorem setSession_act (sid : Nat) (x : Session) : (s.setSession sid x).act = s.act := rfl
@[simp] theorem setSession_shd (sid : Nat) (x : Session) : (s.setSession sid x).shd = s.shd := rfl
@[simp] theorem setSession_pend (sid : Nat) (x : Session) : (s.setSession sid x).pend = s.pend := rfl
@[simp] theorem setSession_nextFrame (sid : Nat) (x : Session) : (s.setSession sid x).nextFrame = s.nextFrame := rfl
@[simp] theorem setSession_answer (sid : Nat) (x : Session) : (s.setSession sid x).answer = s.answer := rfl
@[simp] theorem setSession_drawn (sid : Nat) (x : Session) : (s.setSession sid x).drawn = s.drawn := rfl
@[simp] theorem setSession_loops (sid : Nat) (x : Session) : (s.setSession sid x).loops = s.loops := rfl
@[simp] theorem setSession_pairs (sid : Nat) (x : Session) : (s.setSession sid x).pairs = s.pairs := rfl
@[simp] theorem setSession_slots (sid : Nat) (x : Session) : (s.setSession sid x).slots = s.slots := rfl
@[simp] theorem setSession_cells (sid : Nat) (x : Session) : (s.setSession sid x).cells = s.cells := rfl
@[simp] theorem setSession_placer (sid : Nat) (x : Session) : (s.setSession sid x).placer = s.placer := rfl
@[simp] theorem setSession_image (sid : Nat) (x : Session) : (s.setSession sid x).image = s.image := rfl
@[simp] theorem setSession_marked (sid : Nat) (x : Session) : (s.setSession sid x).marked = s.marked := rfl
@[simp] theorem setSession_hwk (sid : Nat) (x : Session) : (s.setSession sid x).hwk = s.hwk := rfl
@[simp] theorem setSession_traces (sid : Nat) (x : Session) : (s.setSession sid x).traces = s.traces := rfl
@[simp] theorem setSession_pwr (sid : Nat) (x : Session) : (s.setSession sid x).pwr = s.pwr := rfl
@[simp] theorem setSession_fe (sid : Nat) (x : Session) : (s.setSession sid x).fe = s.fe := rfl
@[simp] theorem setSession_col (sid : Nat) (x : Session) : (s.setSession sid x).col = s.col := rfl
@[simp] theorem setSession_trunks (sid : Nat) (x : Session) : (s.setSession sid x).trunks = s.trunks := rfl
@[simp] theorem setSession_nodeHist (sid : Nat) (x : Session) : (s.setSession sid x).nodeHist = s.nodeHist := rfl
@[simp] theorem setSession_ports (sid : Nat) (x : Session) : (s.setSession sid x).ports = s.ports := rfl
@[simp] theorem setSession_sv (sid : Nat) (x : Session) : (s.setSession sid x).sv = s.sv := rfl
@[simp] theorem setSession_fans (sid : Nat) (x : Session) : (s.setSession sid x).fans = s.fans := rfl
@[simp] theorem setSession_dio (sid : Nat) (x : Session) : (s.setSession sid x).dio = s.dio := rfl
@[simp] theorem setSession_host (sid : Nat) (x : Session) : (s.setSession sid x).host = s.host := rfl
@[simp] theorem setSession_face (sid : Nat) (x : Session) : (s.setSession sid x).face = s.face := rfl
@[simp] theorem setSession_svcTag (sid : Nat) (x : Session) : (s.setSession sid x).svcTag = s.svcTag := rfl
@[simp] theorem setSession_recd (sid : Nat) (x : Session) : (s.setSession sid x).recd = s.recd := rfl
@[simp] theorem setSession_rtc (sid : Nat) (x : Session) : (s.setSession sid x).rtc = s.rtc := rfl
@[simp] theorem setSession_ctl (sid : Nat) (x : Session) : (s.setSession sid x).ctl = s.ctl := rfl

@[simp] theorem setFace_pending (x : FaceSt) : (s.setFace x).pending = s.pending := rfl
@[simp] theorem setFace_dtb (x : FaceSt) : (s.setFace x).dtb = s.dtb := rfl
@[simp] theorem setFace_act (x : FaceSt) : (s.setFace x).act = s.act := rfl
@[simp] theorem setFace_shd (x : FaceSt) : (s.setFace x).shd = s.shd := rfl
@[simp] theorem setFace_pend (x : FaceSt) : (s.setFace x).pend = s.pend := rfl
@[simp] theorem setFace_nextFrame (x : FaceSt) : (s.setFace x).nextFrame = s.nextFrame := rfl
@[simp] theorem setFace_answer (x : FaceSt) : (s.setFace x).answer = s.answer := rfl
@[simp] theorem setFace_drawn (x : FaceSt) : (s.setFace x).drawn = s.drawn := rfl
@[simp] theorem setFace_loops (x : FaceSt) : (s.setFace x).loops = s.loops := rfl
@[simp] theorem setFace_pairs (x : FaceSt) : (s.setFace x).pairs = s.pairs := rfl
@[simp] theorem setFace_slots (x : FaceSt) : (s.setFace x).slots = s.slots := rfl
@[simp] theorem setFace_cells (x : FaceSt) : (s.setFace x).cells = s.cells := rfl
@[simp] theorem setFace_placer (x : FaceSt) : (s.setFace x).placer = s.placer := rfl
@[simp] theorem setFace_image (x : FaceSt) : (s.setFace x).image = s.image := rfl
@[simp] theorem setFace_marked (x : FaceSt) : (s.setFace x).marked = s.marked := rfl
@[simp] theorem setFace_hwk (x : FaceSt) : (s.setFace x).hwk = s.hwk := rfl
@[simp] theorem setFace_traces (x : FaceSt) : (s.setFace x).traces = s.traces := rfl
@[simp] theorem setFace_pwr (x : FaceSt) : (s.setFace x).pwr = s.pwr := rfl
@[simp] theorem setFace_sessions (x : FaceSt) : (s.setFace x).sessions = s.sessions := rfl
@[simp] theorem setFace_fe (x : FaceSt) : (s.setFace x).fe = s.fe := rfl
@[simp] theorem setFace_col (x : FaceSt) : (s.setFace x).col = s.col := rfl
@[simp] theorem setFace_trunks (x : FaceSt) : (s.setFace x).trunks = s.trunks := rfl
@[simp] theorem setFace_nodeHist (x : FaceSt) : (s.setFace x).nodeHist = s.nodeHist := rfl
@[simp] theorem setFace_ports (x : FaceSt) : (s.setFace x).ports = s.ports := rfl
@[simp] theorem setFace_sv (x : FaceSt) : (s.setFace x).sv = s.sv := rfl
@[simp] theorem setFace_fans (x : FaceSt) : (s.setFace x).fans = s.fans := rfl
@[simp] theorem setFace_dio (x : FaceSt) : (s.setFace x).dio = s.dio := rfl
@[simp] theorem setFace_host (x : FaceSt) : (s.setFace x).host = s.host := rfl
@[simp] theorem setFace_svcTag (x : FaceSt) : (s.setFace x).svcTag = s.svcTag := rfl
@[simp] theorem setFace_recd (x : FaceSt) : (s.setFace x).recd = s.recd := rfl
@[simp] theorem setFace_rtc (x : FaceSt) : (s.setFace x).rtc = s.rtc := rfl
@[simp] theorem setFace_ctl (x : FaceSt) : (s.setFace x).ctl = s.ctl := rfl

@[simp] theorem setTagSt_pending (x : TagSt) : (s.setTagSt x).pending = s.pending := rfl
@[simp] theorem setTagSt_dtb (x : TagSt) : (s.setTagSt x).dtb = s.dtb := rfl
@[simp] theorem setTagSt_act (x : TagSt) : (s.setTagSt x).act = s.act := rfl
@[simp] theorem setTagSt_shd (x : TagSt) : (s.setTagSt x).shd = s.shd := rfl
@[simp] theorem setTagSt_pend (x : TagSt) : (s.setTagSt x).pend = s.pend := rfl
@[simp] theorem setTagSt_nextFrame (x : TagSt) : (s.setTagSt x).nextFrame = s.nextFrame := rfl
@[simp] theorem setTagSt_answer (x : TagSt) : (s.setTagSt x).answer = s.answer := rfl
@[simp] theorem setTagSt_drawn (x : TagSt) : (s.setTagSt x).drawn = s.drawn := rfl
@[simp] theorem setTagSt_loops (x : TagSt) : (s.setTagSt x).loops = s.loops := rfl
@[simp] theorem setTagSt_pairs (x : TagSt) : (s.setTagSt x).pairs = s.pairs := rfl
@[simp] theorem setTagSt_slots (x : TagSt) : (s.setTagSt x).slots = s.slots := rfl
@[simp] theorem setTagSt_cells (x : TagSt) : (s.setTagSt x).cells = s.cells := rfl
@[simp] theorem setTagSt_placer (x : TagSt) : (s.setTagSt x).placer = s.placer := rfl
@[simp] theorem setTagSt_image (x : TagSt) : (s.setTagSt x).image = s.image := rfl
@[simp] theorem setTagSt_marked (x : TagSt) : (s.setTagSt x).marked = s.marked := rfl
@[simp] theorem setTagSt_hwk (x : TagSt) : (s.setTagSt x).hwk = s.hwk := rfl
@[simp] theorem setTagSt_traces (x : TagSt) : (s.setTagSt x).traces = s.traces := rfl
@[simp] theorem setTagSt_pwr (x : TagSt) : (s.setTagSt x).pwr = s.pwr := rfl
@[simp] theorem setTagSt_sessions (x : TagSt) : (s.setTagSt x).sessions = s.sessions := rfl
@[simp] theorem setTagSt_fe (x : TagSt) : (s.setTagSt x).fe = s.fe := rfl
@[simp] theorem setTagSt_col (x : TagSt) : (s.setTagSt x).col = s.col := rfl
@[simp] theorem setTagSt_trunks (x : TagSt) : (s.setTagSt x).trunks = s.trunks := rfl
@[simp] theorem setTagSt_nodeHist (x : TagSt) : (s.setTagSt x).nodeHist = s.nodeHist := rfl
@[simp] theorem setTagSt_ports (x : TagSt) : (s.setTagSt x).ports = s.ports := rfl
@[simp] theorem setTagSt_sv (x : TagSt) : (s.setTagSt x).sv = s.sv := rfl
@[simp] theorem setTagSt_fans (x : TagSt) : (s.setTagSt x).fans = s.fans := rfl
@[simp] theorem setTagSt_dio (x : TagSt) : (s.setTagSt x).dio = s.dio := rfl
@[simp] theorem setTagSt_host (x : TagSt) : (s.setTagSt x).host = s.host := rfl
@[simp] theorem setTagSt_face (x : TagSt) : (s.setTagSt x).face = s.face := rfl
@[simp] theorem setTagSt_recd (x : TagSt) : (s.setTagSt x).recd = s.recd := rfl
@[simp] theorem setTagSt_rtc (x : TagSt) : (s.setTagSt x).rtc = s.rtc := rfl
@[simp] theorem setTagSt_ctl (x : TagSt) : (s.setTagSt x).ctl = s.ctl := rfl

@[simp] theorem setPwr_pending (x : PwrSt) : (s.setPwr x).pending = s.pending := rfl
@[simp] theorem setPwr_dtb (x : PwrSt) : (s.setPwr x).dtb = s.dtb := rfl
@[simp] theorem setPwr_act (x : PwrSt) : (s.setPwr x).act = s.act := rfl
@[simp] theorem setPwr_shd (x : PwrSt) : (s.setPwr x).shd = s.shd := rfl
@[simp] theorem setPwr_pend (x : PwrSt) : (s.setPwr x).pend = s.pend := rfl
@[simp] theorem setPwr_nextFrame (x : PwrSt) : (s.setPwr x).nextFrame = s.nextFrame := rfl
@[simp] theorem setPwr_answer (x : PwrSt) : (s.setPwr x).answer = s.answer := rfl
@[simp] theorem setPwr_drawn (x : PwrSt) : (s.setPwr x).drawn = s.drawn := rfl
@[simp] theorem setPwr_loops (x : PwrSt) : (s.setPwr x).loops = s.loops := rfl
@[simp] theorem setPwr_pairs (x : PwrSt) : (s.setPwr x).pairs = s.pairs := rfl
@[simp] theorem setPwr_slots (x : PwrSt) : (s.setPwr x).slots = s.slots := rfl
@[simp] theorem setPwr_cells (x : PwrSt) : (s.setPwr x).cells = s.cells := rfl
@[simp] theorem setPwr_placer (x : PwrSt) : (s.setPwr x).placer = s.placer := rfl
@[simp] theorem setPwr_image (x : PwrSt) : (s.setPwr x).image = s.image := rfl
@[simp] theorem setPwr_marked (x : PwrSt) : (s.setPwr x).marked = s.marked := rfl
@[simp] theorem setPwr_hwk (x : PwrSt) : (s.setPwr x).hwk = s.hwk := rfl
@[simp] theorem setPwr_traces (x : PwrSt) : (s.setPwr x).traces = s.traces := rfl
@[simp] theorem setPwr_sessions (x : PwrSt) : (s.setPwr x).sessions = s.sessions := rfl
@[simp] theorem setPwr_fe (x : PwrSt) : (s.setPwr x).fe = s.fe := rfl
@[simp] theorem setPwr_col (x : PwrSt) : (s.setPwr x).col = s.col := rfl
@[simp] theorem setPwr_trunks (x : PwrSt) : (s.setPwr x).trunks = s.trunks := rfl
@[simp] theorem setPwr_nodeHist (x : PwrSt) : (s.setPwr x).nodeHist = s.nodeHist := rfl
@[simp] theorem setPwr_ports (x : PwrSt) : (s.setPwr x).ports = s.ports := rfl
@[simp] theorem setPwr_sv (x : PwrSt) : (s.setPwr x).sv = s.sv := rfl
@[simp] theorem setPwr_fans (x : PwrSt) : (s.setPwr x).fans = s.fans := rfl
@[simp] theorem setPwr_dio (x : PwrSt) : (s.setPwr x).dio = s.dio := rfl
@[simp] theorem setPwr_host (x : PwrSt) : (s.setPwr x).host = s.host := rfl
@[simp] theorem setPwr_face (x : PwrSt) : (s.setPwr x).face = s.face := rfl
@[simp] theorem setPwr_svcTag (x : PwrSt) : (s.setPwr x).svcTag = s.svcTag := rfl
@[simp] theorem setPwr_recd (x : PwrSt) : (s.setPwr x).recd = s.recd := rfl
@[simp] theorem setPwr_rtc (x : PwrSt) : (s.setPwr x).rtc = s.rtc := rfl
@[simp] theorem setPwr_ctl (x : PwrSt) : (s.setPwr x).ctl = s.ctl := rfl

@[simp] theorem setCtl_pending (x : CtlSt) : (s.setCtl x).pending = s.pending := rfl
@[simp] theorem setCtl_dtb (x : CtlSt) : (s.setCtl x).dtb = s.dtb := rfl
@[simp] theorem setCtl_act (x : CtlSt) : (s.setCtl x).act = s.act := rfl
@[simp] theorem setCtl_shd (x : CtlSt) : (s.setCtl x).shd = s.shd := rfl
@[simp] theorem setCtl_pend (x : CtlSt) : (s.setCtl x).pend = s.pend := rfl
@[simp] theorem setCtl_nextFrame (x : CtlSt) : (s.setCtl x).nextFrame = s.nextFrame := rfl
@[simp] theorem setCtl_answer (x : CtlSt) : (s.setCtl x).answer = s.answer := rfl
@[simp] theorem setCtl_drawn (x : CtlSt) : (s.setCtl x).drawn = s.drawn := rfl
@[simp] theorem setCtl_loops (x : CtlSt) : (s.setCtl x).loops = s.loops := rfl
@[simp] theorem setCtl_pairs (x : CtlSt) : (s.setCtl x).pairs = s.pairs := rfl
@[simp] theorem setCtl_slots (x : CtlSt) : (s.setCtl x).slots = s.slots := rfl
@[simp] theorem setCtl_cells (x : CtlSt) : (s.setCtl x).cells = s.cells := rfl
@[simp] theorem setCtl_placer (x : CtlSt) : (s.setCtl x).placer = s.placer := rfl
@[simp] theorem setCtl_image (x : CtlSt) : (s.setCtl x).image = s.image := rfl
@[simp] theorem setCtl_marked (x : CtlSt) : (s.setCtl x).marked = s.marked := rfl
@[simp] theorem setCtl_hwk (x : CtlSt) : (s.setCtl x).hwk = s.hwk := rfl
@[simp] theorem setCtl_traces (x : CtlSt) : (s.setCtl x).traces = s.traces := rfl
@[simp] theorem setCtl_pwr (x : CtlSt) : (s.setCtl x).pwr = s.pwr := rfl
@[simp] theorem setCtl_sessions (x : CtlSt) : (s.setCtl x).sessions = s.sessions := rfl
@[simp] theorem setCtl_fe (x : CtlSt) : (s.setCtl x).fe = s.fe := rfl
@[simp] theorem setCtl_col (x : CtlSt) : (s.setCtl x).col = s.col := rfl
@[simp] theorem setCtl_trunks (x : CtlSt) : (s.setCtl x).trunks = s.trunks := rfl
@[simp] theorem setCtl_nodeHist (x : CtlSt) : (s.setCtl x).nodeHist = s.nodeHist := rfl
@[simp] theorem setCtl_ports (x : CtlSt) : (s.setCtl x).ports = s.ports := rfl
@[simp] theorem setCtl_sv (x : CtlSt) : (s.setCtl x).sv = s.sv := rfl
@[simp] theorem setCtl_fans (x : CtlSt) : (s.setCtl x).fans = s.fans := rfl
@[simp] theorem setCtl_dio (x : CtlSt) : (s.setCtl x).dio = s.dio := rfl
@[simp] theorem setCtl_host (x : CtlSt) : (s.setCtl x).host = s.host := rfl
@[simp] theorem setCtl_face (x : CtlSt) : (s.setCtl x).face = s.face := rfl
@[simp] theorem setCtl_svcTag (x : CtlSt) : (s.setCtl x).svcTag = s.svcTag := rfl
@[simp] theorem setCtl_recd (x : CtlSt) : (s.setCtl x).recd = s.recd := rfl
@[simp] theorem setCtl_rtc (x : CtlSt) : (s.setCtl x).rtc = s.rtc := rfl

/-! Reads after writes. -/

@[simp] theorem reg_setReg_same (k : Nat) (w : Word) : (s.setReg k w).reg k = w := mget_mset_same ..
theorem reg_setReg_ne {j k : Nat} (h : j ≠ k) (w : Word) : (s.setReg k w).reg j = s.reg j := mget_mset_ne _ _ h ..
theorem reg_setReg (j k : Nat) (w : Word) : (s.setReg k w).reg j = if j = k then w else s.reg j := by
  split
  · next h => rw [h, reg_setReg_same]
  · next h => exact reg_setReg_ne s h w
@[simp] theorem reg_setRegF_same (k hi lo v : Nat) : (s.setRegF k hi lo v).reg k = setFld (s.reg k) hi lo v := reg_setReg_same ..
theorem reg_setRegF_ne {j k : Nat} (h : j ≠ k) (hi lo v : Nat) : (s.setRegF k hi lo v).reg j = s.reg j := reg_setReg_ne _ h _
@[simp] theorem reg_setRegB_same (k i : Nat) (b : Bool) : (s.setRegB k i b).reg k = setBit (s.reg k) i b := reg_setReg_same ..
theorem reg_setRegB_ne {j k : Nat} (h : j ≠ k) (i : Nat) (b : Bool) : (s.setRegB k i b).reg j = s.reg j := reg_setReg_ne _ h _

@[simp] theorem loop_setLoop_same (l : Nat) (x : Loop) : (s.setLoop l x).loop l = x := mget_mset_same ..
theorem loop_setLoop_ne {i j : Nat} (h : i ≠ j) (x : Loop) : (s.setLoop j x).loop i = s.loop i := mget_mset_ne _ _ h ..
@[simp] theorem pair_setPair_same (p : Nat) (x : Pair) : (s.setPair p x).pair p = x := mget_mset_same ..
theorem pair_setPair_ne {i j : Nat} (h : i ≠ j) (x : Pair) : (s.setPair j x).pair i = s.pair i := mget_mset_ne _ _ h ..
@[simp] theorem slot_setSlot_same (n : Nat) (x : Slot) : (s.setSlot n x).slot n = x := mget_mset_same ..
theorem slot_setSlot_ne {i j : Nat} (h : i ≠ j) (x : Slot) : (s.setSlot j x).slot i = s.slot i := mget_mset_ne _ _ h ..
@[simp] theorem cell_setCell_same (c : Nat) (x : Cell) : (s.setCell c x).cell c = x := mget_mset_same ..
theorem cell_setCell_ne {i j : Nat} (h : i ≠ j) (x : Cell) : (s.setCell j x).cell i = s.cell i := mget_mset_ne _ _ h ..
@[simp] theorem trace_setTrace_same (n : Nat) (x : Trace) : (s.setTrace n x).trace n = x := mget_mset_same ..
theorem trace_setTrace_ne {i j : Nat} (h : i ≠ j) (x : Trace) : (s.setTrace j x).trace i = s.trace i := mget_mset_ne _ _ h ..
@[simp] theorem trunk_setTrunk_same (n : Nat) (x : Trunk) : (s.setTrunk n x).trunk n = x := mget_mset_same ..
theorem trunk_setTrunk_ne {i j : Nat} (h : i ≠ j) (x : Trunk) : (s.setTrunk j x).trunk i = s.trunk i := mget_mset_ne _ _ h ..
@[simp] theorem port_setPort_same (n : Nat) (x : CanPort) : (s.setPort n x).port n = x := mget_mset_same ..
theorem port_setPort_ne {i j : Nat} (h : i ≠ j) (x : CanPort) : (s.setPort j x).port i = s.port i := mget_mset_ne _ _ h ..
@[simp] theorem svc_setSvc_same (n : Nat) (x : SvChan) : (s.setSvc n x).svc n = x := mget_mset_same ..
theorem svc_setSvc_ne {i j : Nat} (h : i ≠ j) (x : SvChan) : (s.setSvc j x).svc i = s.svc i := mget_mset_ne _ _ h ..
@[simp] theorem fan_setFan_same (n : Nat) (x : FanChan) : (s.setFan n x).fan n = x := mget_mset_same ..
theorem fan_setFan_ne {i j : Nat} (h : i ≠ j) (x : FanChan) : (s.setFan j x).fan i = s.fan i := mget_mset_ne _ _ h ..
@[simp] theorem feChan_setFeChan_same (c : Nat) (x : FeChan) : (s.setFeChan c x).feChan c = x := mget_mset_same ..
theorem feChan_setFeChan_ne {i j : Nat} (h : i ≠ j) (x : FeChan) : (s.setFeChan j x).feChan i = s.feChan i := mget_mset_ne _ _ h ..
@[simp] theorem feIn_setFeIn_same (i : Nat) (x : FeInput) : (s.setFeIn i x).feIn i = x := mget_mset_same ..
theorem feIn_setFeIn_ne {i j : Nat} (h : i ≠ j) (x : FeInput) : (s.setFeIn j x).feIn i = s.feIn i := mget_mset_ne _ _ h ..
@[simp] theorem tag_setTag_same (t : Nat) (x : Tag) : (s.setTag t x).tag t = x := mget_mset_same ..
theorem tag_setTag_ne {i j : Nat} (h : i ≠ j) (x : Tag) : (s.setTag j x).tag i = s.tag i := mget_mset_ne _ _ h ..
@[simp] theorem engine_setEngine_same (e : Nat) (x : Engine) : (s.setEngine e x).engine e = x := mget_mset_same ..
theorem engine_setEngine_ne {i j : Nat} (h : i ≠ j) (x : Engine) : (s.setEngine j x).engine i = s.engine i := mget_mset_ne _ _ h ..

/-! Reads of one part after writes of another. -/

@[simp] theorem loop_setReg (q : Nat) (k : Nat) (w : Word) : (s.setReg k w).loop q = s.loop q := rfl
@[simp] theorem pair_setReg (q : Nat) (k : Nat) (w : Word) : (s.setReg k w).pair q = s.pair q := rfl
@[simp] theorem slot_setReg (q : Nat) (k : Nat) (w : Word) : (s.setReg k w).slot q = s.slot q := rfl
@[simp] theorem cell_setReg (q : Nat) (k : Nat) (w : Word) : (s.setReg k w).cell q = s.cell q := rfl
@[simp] theorem trace_setReg (q : Nat) (k : Nat) (w : Word) : (s.setReg k w).trace q = s.trace q := rfl
@[simp] theorem trunk_setReg (q : Nat) (k : Nat) (w : Word) : (s.setReg k w).trunk q = s.trunk q := rfl
@[simp] theorem port_setReg (q : Nat) (k : Nat) (w : Word) : (s.setReg k w).port q = s.port q := rfl
@[simp] theorem svc_setReg (q : Nat) (k : Nat) (w : Word) : (s.setReg k w).svc q = s.svc q := rfl
@[simp] theorem fan_setReg (q : Nat) (k : Nat) (w : Word) : (s.setReg k w).fan q = s.fan q := rfl
@[simp] theorem feChan_setReg (q : Nat) (k : Nat) (w : Word) : (s.setReg k w).feChan q = s.feChan q := rfl
@[simp] theorem feIn_setReg (q : Nat) (k : Nat) (w : Word) : (s.setReg k w).feIn q = s.feIn q := rfl
@[simp] theorem tag_setReg (q : Nat) (k : Nat) (w : Word) : (s.setReg k w).tag q = s.tag q := rfl
@[simp] theorem engine_setReg (q : Nat) (k : Nat) (w : Word) : (s.setReg k w).engine q = s.engine q := rfl
@[simp] theorem loop_setShadow (q : Nat) (k : Nat) (w : Word) : (s.setShadow k w).loop q = s.loop q := rfl
@[simp] theorem pair_setShadow (q : Nat) (k : Nat) (w : Word) : (s.setShadow k w).pair q = s.pair q := rfl
@[simp] theorem slot_setShadow (q : Nat) (k : Nat) (w : Word) : (s.setShadow k w).slot q = s.slot q := rfl
@[simp] theorem cell_setShadow (q : Nat) (k : Nat) (w : Word) : (s.setShadow k w).cell q = s.cell q := rfl
@[simp] theorem reg_setShadow (q : Nat) (k : Nat) (w : Word) : (s.setShadow k w).reg q = s.reg q := rfl
@[simp] theorem loop_setRegF (q : Nat) (k hi lo v : Nat) : (s.setRegF k hi lo v).loop q = s.loop q := rfl
@[simp] theorem pair_setRegF (q : Nat) (k hi lo v : Nat) : (s.setRegF k hi lo v).pair q = s.pair q := rfl
@[simp] theorem slot_setRegF (q : Nat) (k hi lo v : Nat) : (s.setRegF k hi lo v).slot q = s.slot q := rfl
@[simp] theorem cell_setRegF (q : Nat) (k hi lo v : Nat) : (s.setRegF k hi lo v).cell q = s.cell q := rfl
@[simp] theorem trace_setRegF (q : Nat) (k hi lo v : Nat) : (s.setRegF k hi lo v).trace q = s.trace q := rfl
@[simp] theorem trunk_setRegF (q : Nat) (k hi lo v : Nat) : (s.setRegF k hi lo v).trunk q = s.trunk q := rfl
@[simp] theorem port_setRegF (q : Nat) (k hi lo v : Nat) : (s.setRegF k hi lo v).port q = s.port q := rfl
@[simp] theorem svc_setRegF (q : Nat) (k hi lo v : Nat) : (s.setRegF k hi lo v).svc q = s.svc q := rfl
@[simp] theorem fan_setRegF (q : Nat) (k hi lo v : Nat) : (s.setRegF k hi lo v).fan q = s.fan q := rfl
@[simp] theorem feChan_setRegF (q : Nat) (k hi lo v : Nat) : (s.setRegF k hi lo v).feChan q = s.feChan q := rfl
@[simp] theorem feIn_setRegF (q : Nat) (k hi lo v : Nat) : (s.setRegF k hi lo v).feIn q = s.feIn q := rfl
@[simp] theorem tag_setRegF (q : Nat) (k hi lo v : Nat) : (s.setRegF k hi lo v).tag q = s.tag q := rfl
@[simp] theorem engine_setRegF (q : Nat) (k hi lo v : Nat) : (s.setRegF k hi lo v).engine q = s.engine q := rfl
@[simp] theorem loop_setRegB (q : Nat) (k i : Nat) (b : Bool) : (s.setRegB k i b).loop q = s.loop q := rfl
@[simp] theorem pair_setRegB (q : Nat) (k i : Nat) (b : Bool) : (s.setRegB k i b).pair q = s.pair q := rfl
@[simp] theorem slot_setRegB (q : Nat) (k i : Nat) (b : Bool) : (s.setRegB k i b).slot q = s.slot q := rfl
@[simp] theorem cell_setRegB (q : Nat) (k i : Nat) (b : Bool) : (s.setRegB k i b).cell q = s.cell q := rfl
@[simp] theorem trace_setRegB (q : Nat) (k i : Nat) (b : Bool) : (s.setRegB k i b).trace q = s.trace q := rfl
@[simp] theorem trunk_setRegB (q : Nat) (k i : Nat) (b : Bool) : (s.setRegB k i b).trunk q = s.trunk q := rfl
@[simp] theorem port_setRegB (q : Nat) (k i : Nat) (b : Bool) : (s.setRegB k i b).port q = s.port q := rfl
@[simp] theorem svc_setRegB (q : Nat) (k i : Nat) (b : Bool) : (s.setRegB k i b).svc q = s.svc q := rfl
@[simp] theorem fan_setRegB (q : Nat) (k i : Nat) (b : Bool) : (s.setRegB k i b).fan q = s.fan q := rfl
@[simp] theorem feChan_setRegB (q : Nat) (k i : Nat) (b : Bool) : (s.setRegB k i b).feChan q = s.feChan q := rfl
@[simp] theorem feIn_setRegB (q : Nat) (k i : Nat) (b : Bool) : (s.setRegB k i b).feIn q = s.feIn q := rfl
@[simp] theorem tag_setRegB (q : Nat) (k i : Nat) (b : Bool) : (s.setRegB k i b).tag q = s.tag q := rfl
@[simp] theorem engine_setRegB (q : Nat) (k i : Nat) (b : Bool) : (s.setRegB k i b).engine q = s.engine q := rfl
@[simp] theorem loop_countReg (q : Nat) (k hi lo max n : Nat) : (s.countReg k hi lo max n).loop q = s.loop q := rfl
@[simp] theorem pair_countReg (q : Nat) (k hi lo max n : Nat) : (s.countReg k hi lo max n).pair q = s.pair q := rfl
@[simp] theorem slot_countReg (q : Nat) (k hi lo max n : Nat) : (s.countReg k hi lo max n).slot q = s.slot q := rfl
@[simp] theorem cell_countReg (q : Nat) (k hi lo max n : Nat) : (s.countReg k hi lo max n).cell q = s.cell q := rfl
@[simp] theorem trace_countReg (q : Nat) (k hi lo max n : Nat) : (s.countReg k hi lo max n).trace q = s.trace q := rfl
@[simp] theorem trunk_countReg (q : Nat) (k hi lo max n : Nat) : (s.countReg k hi lo max n).trunk q = s.trunk q := rfl
@[simp] theorem port_countReg (q : Nat) (k hi lo max n : Nat) : (s.countReg k hi lo max n).port q = s.port q := rfl
@[simp] theorem svc_countReg (q : Nat) (k hi lo max n : Nat) : (s.countReg k hi lo max n).svc q = s.svc q := rfl
@[simp] theorem fan_countReg (q : Nat) (k hi lo max n : Nat) : (s.countReg k hi lo max n).fan q = s.fan q := rfl
@[simp] theorem feChan_countReg (q : Nat) (k hi lo max n : Nat) : (s.countReg k hi lo max n).feChan q = s.feChan q := rfl
@[simp] theorem feIn_countReg (q : Nat) (k hi lo max n : Nat) : (s.countReg k hi lo max n).feIn q = s.feIn q := rfl
@[simp] theorem tag_countReg (q : Nat) (k hi lo max n : Nat) : (s.countReg k hi lo max n).tag q = s.tag q := rfl
@[simp] theorem engine_countReg (q : Nat) (k hi lo max n : Nat) : (s.countReg k hi lo max n).engine q = s.engine q := rfl
@[simp] theorem loop_emitAt (q : Nat) (stamp code cell : Nat) (body : List Word) : (s.emitAt stamp code cell body).loop q = s.loop q := rfl
@[simp] theorem pair_emitAt (q : Nat) (stamp code cell : Nat) (body : List Word) : (s.emitAt stamp code cell body).pair q = s.pair q := rfl
@[simp] theorem slot_emitAt (q : Nat) (stamp code cell : Nat) (body : List Word) : (s.emitAt stamp code cell body).slot q = s.slot q := rfl
@[simp] theorem cell_emitAt (q : Nat) (stamp code cell : Nat) (body : List Word) : (s.emitAt stamp code cell body).cell q = s.cell q := rfl
@[simp] theorem reg_emitAt (q : Nat) (stamp code cell : Nat) (body : List Word) : (s.emitAt stamp code cell body).reg q = s.reg q := rfl
@[simp] theorem loop_emit (q : Nat) (code cell : Nat) (body : List Word) : (s.emit code cell body).loop q = s.loop q := rfl
@[simp] theorem pair_emit (q : Nat) (code cell : Nat) (body : List Word) : (s.emit code cell body).pair q = s.pair q := rfl
@[simp] theorem slot_emit (q : Nat) (code cell : Nat) (body : List Word) : (s.emit code cell body).slot q = s.slot q := rfl
@[simp] theorem cell_emit (q : Nat) (code cell : Nat) (body : List Word) : (s.emit code cell body).cell q = s.cell q := rfl
@[simp] theorem trace_emit (q : Nat) (code cell : Nat) (body : List Word) : (s.emit code cell body).trace q = s.trace q := rfl
@[simp] theorem trunk_emit (q : Nat) (code cell : Nat) (body : List Word) : (s.emit code cell body).trunk q = s.trunk q := rfl
@[simp] theorem port_emit (q : Nat) (code cell : Nat) (body : List Word) : (s.emit code cell body).port q = s.port q := rfl
@[simp] theorem svc_emit (q : Nat) (code cell : Nat) (body : List Word) : (s.emit code cell body).svc q = s.svc q := rfl
@[simp] theorem fan_emit (q : Nat) (code cell : Nat) (body : List Word) : (s.emit code cell body).fan q = s.fan q := rfl
@[simp] theorem feChan_emit (q : Nat) (code cell : Nat) (body : List Word) : (s.emit code cell body).feChan q = s.feChan q := rfl
@[simp] theorem feIn_emit (q : Nat) (code cell : Nat) (body : List Word) : (s.emit code cell body).feIn q = s.feIn q := rfl
@[simp] theorem tag_emit (q : Nat) (code cell : Nat) (body : List Word) : (s.emit code cell body).tag q = s.tag q := rfl
@[simp] theorem engine_emit (q : Nat) (code cell : Nat) (body : List Word) : (s.emit code cell body).engine q = s.engine q := rfl
@[simp] theorem reg_emit (q : Nat) (code cell : Nat) (body : List Word) : (s.emit code cell body).reg q = s.reg q := rfl
@[simp] theorem loop_draw (q : Nat) : (s.draw).loop q = s.loop q := rfl
@[simp] theorem pair_draw (q : Nat) : (s.draw).pair q = s.pair q := rfl
@[simp] theorem slot_draw (q : Nat) : (s.draw).slot q = s.slot q := rfl
@[simp] theorem cell_draw (q : Nat) : (s.draw).cell q = s.cell q := rfl
@[simp] theorem reg_draw (q : Nat) : (s.draw).reg q = s.reg q := rfl
@[simp] theorem pair_setLoop (q : Nat) (l : Nat) (x : Loop) : (s.setLoop l x).pair q = s.pair q := rfl
@[simp] theorem slot_setLoop (q : Nat) (l : Nat) (x : Loop) : (s.setLoop l x).slot q = s.slot q := rfl
@[simp] theorem cell_setLoop (q : Nat) (l : Nat) (x : Loop) : (s.setLoop l x).cell q = s.cell q := rfl
@[simp] theorem reg_setLoop (q : Nat) (l : Nat) (x : Loop) : (s.setLoop l x).reg q = s.reg q := rfl
@[simp] theorem loop_setPair (q : Nat) (p : Nat) (x : Pair) : (s.setPair p x).loop q = s.loop q := rfl
@[simp] theorem slot_setPair (q : Nat) (p : Nat) (x : Pair) : (s.setPair p x).slot q = s.slot q := rfl
@[simp] theorem cell_setPair (q : Nat) (p : Nat) (x : Pair) : (s.setPair p x).cell q = s.cell q := rfl
@[simp] theorem reg_setPair (q : Nat) (p : Nat) (x : Pair) : (s.setPair p x).reg q = s.reg q := rfl
@[simp] theorem loop_setSlot (q : Nat) (n : Nat) (x : Slot) : (s.setSlot n x).loop q = s.loop q := rfl
@[simp] theorem pair_setSlot (q : Nat) (n : Nat) (x : Slot) : (s.setSlot n x).pair q = s.pair q := rfl
@[simp] theorem cell_setSlot (q : Nat) (n : Nat) (x : Slot) : (s.setSlot n x).cell q = s.cell q := rfl
@[simp] theorem reg_setSlot (q : Nat) (n : Nat) (x : Slot) : (s.setSlot n x).reg q = s.reg q := rfl
@[simp] theorem loop_setCell (q : Nat) (c : Nat) (x : Cell) : (s.setCell c x).loop q = s.loop q := rfl
@[simp] theorem pair_setCell (q : Nat) (c : Nat) (x : Cell) : (s.setCell c x).pair q = s.pair q := rfl
@[simp] theorem slot_setCell (q : Nat) (c : Nat) (x : Cell) : (s.setCell c x).slot q = s.slot q := rfl
@[simp] theorem reg_setCell (q : Nat) (c : Nat) (x : Cell) : (s.setCell c x).reg q = s.reg q := rfl
@[simp] theorem loop_setPlacer (q : Nat) (p : Placer) : (s.setPlacer p).loop q = s.loop q := rfl
@[simp] theorem pair_setPlacer (q : Nat) (p : Placer) : (s.setPlacer p).pair q = s.pair q := rfl
@[simp] theorem slot_setPlacer (q : Nat) (p : Placer) : (s.setPlacer p).slot q = s.slot q := rfl
@[simp] theorem cell_setPlacer (q : Nat) (p : Placer) : (s.setPlacer p).cell q = s.cell q := rfl
@[simp] theorem reg_setPlacer (q : Nat) (p : Placer) : (s.setPlacer p).reg q = s.reg q := rfl
@[simp] theorem loop_setTrace (q : Nat) (n : Nat) (x : Trace) : (s.setTrace n x).loop q = s.loop q := rfl
@[simp] theorem pair_setTrace (q : Nat) (n : Nat) (x : Trace) : (s.setTrace n x).pair q = s.pair q := rfl
@[simp] theorem slot_setTrace (q : Nat) (n : Nat) (x : Trace) : (s.setTrace n x).slot q = s.slot q := rfl
@[simp] theorem cell_setTrace (q : Nat) (n : Nat) (x : Trace) : (s.setTrace n x).cell q = s.cell q := rfl
@[simp] theorem reg_setTrace (q : Nat) (n : Nat) (x : Trace) : (s.setTrace n x).reg q = s.reg q := rfl
@[simp] theorem loop_setTag (q : Nat) (t : Nat) (x : Tag) : (s.setTag t x).loop q = s.loop q := rfl
@[simp] theorem pair_setTag (q : Nat) (t : Nat) (x : Tag) : (s.setTag t x).pair q = s.pair q := rfl
@[simp] theorem slot_setTag (q : Nat) (t : Nat) (x : Tag) : (s.setTag t x).slot q = s.slot q := rfl
@[simp] theorem cell_setTag (q : Nat) (t : Nat) (x : Tag) : (s.setTag t x).cell q = s.cell q := rfl
@[simp] theorem reg_setTag (q : Nat) (t : Nat) (x : Tag) : (s.setTag t x).reg q = s.reg q := rfl
@[simp] theorem loop_setEngine (q : Nat) (e : Nat) (x : Engine) : (s.setEngine e x).loop q = s.loop q := rfl
@[simp] theorem pair_setEngine (q : Nat) (e : Nat) (x : Engine) : (s.setEngine e x).pair q = s.pair q := rfl
@[simp] theorem slot_setEngine (q : Nat) (e : Nat) (x : Engine) : (s.setEngine e x).slot q = s.slot q := rfl
@[simp] theorem cell_setEngine (q : Nat) (e : Nat) (x : Engine) : (s.setEngine e x).cell q = s.cell q := rfl
@[simp] theorem reg_setEngine (q : Nat) (e : Nat) (x : Engine) : (s.setEngine e x).reg q = s.reg q := rfl
@[simp] theorem loop_setCredit (q : Nat) (c k : Nat) (v : Int) : (s.setCredit c k v).loop q = s.loop q := rfl
@[simp] theorem pair_setCredit (q : Nat) (c k : Nat) (v : Int) : (s.setCredit c k v).pair q = s.pair q := rfl
@[simp] theorem slot_setCredit (q : Nat) (c k : Nat) (v : Int) : (s.setCredit c k v).slot q = s.slot q := rfl
@[simp] theorem cell_setCredit (q : Nat) (c k : Nat) (v : Int) : (s.setCredit c k v).cell q = s.cell q := rfl
@[simp] theorem reg_setCredit (q : Nat) (c k : Nat) (v : Int) : (s.setCredit c k v).reg q = s.reg q := rfl
@[simp] theorem loop_setFeChan (q : Nat) (c : Nat) (x : FeChan) : (s.setFeChan c x).loop q = s.loop q := rfl
@[simp] theorem pair_setFeChan (q : Nat) (c : Nat) (x : FeChan) : (s.setFeChan c x).pair q = s.pair q := rfl
@[simp] theorem slot_setFeChan (q : Nat) (c : Nat) (x : FeChan) : (s.setFeChan c x).slot q = s.slot q := rfl
@[simp] theorem cell_setFeChan (q : Nat) (c : Nat) (x : FeChan) : (s.setFeChan c x).cell q = s.cell q := rfl
@[simp] theorem reg_setFeChan (q : Nat) (c : Nat) (x : FeChan) : (s.setFeChan c x).reg q = s.reg q := rfl
@[simp] theorem loop_setFeIn (q : Nat) (i : Nat) (x : FeInput) : (s.setFeIn i x).loop q = s.loop q := rfl
@[simp] theorem pair_setFeIn (q : Nat) (i : Nat) (x : FeInput) : (s.setFeIn i x).pair q = s.pair q := rfl
@[simp] theorem slot_setFeIn (q : Nat) (i : Nat) (x : FeInput) : (s.setFeIn i x).slot q = s.slot q := rfl
@[simp] theorem cell_setFeIn (q : Nat) (i : Nat) (x : FeInput) : (s.setFeIn i x).cell q = s.cell q := rfl
@[simp] theorem reg_setFeIn (q : Nat) (i : Nat) (x : FeInput) : (s.setFeIn i x).reg q = s.reg q := rfl
@[simp] theorem loop_setFi (q : Nat) (k : Nat) (w : Word) : (s.setFi k w).loop q = s.loop q := rfl
@[simp] theorem pair_setFi (q : Nat) (k : Nat) (w : Word) : (s.setFi k w).pair q = s.pair q := rfl
@[simp] theorem slot_setFi (q : Nat) (k : Nat) (w : Word) : (s.setFi k w).slot q = s.slot q := rfl
@[simp] theorem cell_setFi (q : Nat) (k : Nat) (w : Word) : (s.setFi k w).cell q = s.cell q := rfl
@[simp] theorem reg_setFi (q : Nat) (k : Nat) (w : Word) : (s.setFi k w).reg q = s.reg q := rfl
@[simp] theorem loop_setColumn (q : Nat) (d : Nat) (x : Col) : (s.setColumn d x).loop q = s.loop q := rfl
@[simp] theorem pair_setColumn (q : Nat) (d : Nat) (x : Col) : (s.setColumn d x).pair q = s.pair q := rfl
@[simp] theorem slot_setColumn (q : Nat) (d : Nat) (x : Col) : (s.setColumn d x).slot q = s.slot q := rfl
@[simp] theorem cell_setColumn (q : Nat) (d : Nat) (x : Col) : (s.setColumn d x).cell q = s.cell q := rfl
@[simp] theorem reg_setColumn (q : Nat) (d : Nat) (x : Col) : (s.setColumn d x).reg q = s.reg q := rfl
@[simp] theorem loop_setTrunk (q : Nat) (n : Nat) (x : Trunk) : (s.setTrunk n x).loop q = s.loop q := rfl
@[simp] theorem pair_setTrunk (q : Nat) (n : Nat) (x : Trunk) : (s.setTrunk n x).pair q = s.pair q := rfl
@[simp] theorem slot_setTrunk (q : Nat) (n : Nat) (x : Trunk) : (s.setTrunk n x).slot q = s.slot q := rfl
@[simp] theorem cell_setTrunk (q : Nat) (n : Nat) (x : Trunk) : (s.setTrunk n x).cell q = s.cell q := rfl
@[simp] theorem reg_setTrunk (q : Nat) (n : Nat) (x : Trunk) : (s.setTrunk n x).reg q = s.reg q := rfl
@[simp] theorem loop_setPort (q : Nat) (n : Nat) (x : CanPort) : (s.setPort n x).loop q = s.loop q := rfl
@[simp] theorem pair_setPort (q : Nat) (n : Nat) (x : CanPort) : (s.setPort n x).pair q = s.pair q := rfl
@[simp] theorem slot_setPort (q : Nat) (n : Nat) (x : CanPort) : (s.setPort n x).slot q = s.slot q := rfl
@[simp] theorem cell_setPort (q : Nat) (n : Nat) (x : CanPort) : (s.setPort n x).cell q = s.cell q := rfl
@[simp] theorem reg_setPort (q : Nat) (n : Nat) (x : CanPort) : (s.setPort n x).reg q = s.reg q := rfl
@[simp] theorem loop_setSvc (q : Nat) (n : Nat) (x : SvChan) : (s.setSvc n x).loop q = s.loop q := rfl
@[simp] theorem pair_setSvc (q : Nat) (n : Nat) (x : SvChan) : (s.setSvc n x).pair q = s.pair q := rfl
@[simp] theorem slot_setSvc (q : Nat) (n : Nat) (x : SvChan) : (s.setSvc n x).slot q = s.slot q := rfl
@[simp] theorem cell_setSvc (q : Nat) (n : Nat) (x : SvChan) : (s.setSvc n x).cell q = s.cell q := rfl
@[simp] theorem reg_setSvc (q : Nat) (n : Nat) (x : SvChan) : (s.setSvc n x).reg q = s.reg q := rfl
@[simp] theorem loop_setSvk (q : Nat) (b : Nat) (x : SvBank) : (s.setSvk b x).loop q = s.loop q := rfl
@[simp] theorem pair_setSvk (q : Nat) (b : Nat) (x : SvBank) : (s.setSvk b x).pair q = s.pair q := rfl
@[simp] theorem slot_setSvk (q : Nat) (b : Nat) (x : SvBank) : (s.setSvk b x).slot q = s.slot q := rfl
@[simp] theorem cell_setSvk (q : Nat) (b : Nat) (x : SvBank) : (s.setSvk b x).cell q = s.cell q := rfl
@[simp] theorem reg_setSvk (q : Nat) (b : Nat) (x : SvBank) : (s.setSvk b x).reg q = s.reg q := rfl
@[simp] theorem loop_setFan (q : Nat) (n : Nat) (x : FanChan) : (s.setFan n x).loop q = s.loop q := rfl
@[simp] theorem pair_setFan (q : Nat) (n : Nat) (x : FanChan) : (s.setFan n x).pair q = s.pair q := rfl
@[simp] theorem slot_setFan (q : Nat) (n : Nat) (x : FanChan) : (s.setFan n x).slot q = s.slot q := rfl
@[simp] theorem cell_setFan (q : Nat) (n : Nat) (x : FanChan) : (s.setFan n x).cell q = s.cell q := rfl
@[simp] theorem reg_setFan (q : Nat) (n : Nat) (x : FanChan) : (s.setFan n x).reg q = s.reg q := rfl
@[simp] theorem loop_setDio (q : Nat) (x : DioSt) : (s.setDio x).loop q = s.loop q := rfl
@[simp] theorem pair_setDio (q : Nat) (x : DioSt) : (s.setDio x).pair q = s.pair q := rfl
@[simp] theorem slot_setDio (q : Nat) (x : DioSt) : (s.setDio x).slot q = s.slot q := rfl
@[simp] theorem cell_setDio (q : Nat) (x : DioSt) : (s.setDio x).cell q = s.cell q := rfl
@[simp] theorem reg_setDio (q : Nat) (x : DioSt) : (s.setDio x).reg q = s.reg q := rfl
@[simp] theorem loop_setField (q : Nat) (x : FieldSide) : (s.setField x).loop q = s.loop q := rfl
@[simp] theorem pair_setField (q : Nat) (x : FieldSide) : (s.setField x).pair q = s.pair q := rfl
@[simp] theorem slot_setField (q : Nat) (x : FieldSide) : (s.setField x).slot q = s.slot q := rfl
@[simp] theorem cell_setField (q : Nat) (x : FieldSide) : (s.setField x).cell q = s.cell q := rfl
@[simp] theorem reg_setField (q : Nat) (x : FieldSide) : (s.setField x).reg q = s.reg q := rfl
@[simp] theorem loop_setFch (q : Nat) (n : Nat) (c : FieldChan) : (s.setFch n c).loop q = s.loop q := rfl
@[simp] theorem pair_setFch (q : Nat) (n : Nat) (c : FieldChan) : (s.setFch n c).pair q = s.pair q := rfl
@[simp] theorem slot_setFch (q : Nat) (n : Nat) (c : FieldChan) : (s.setFch n c).slot q = s.slot q := rfl
@[simp] theorem cell_setFch (q : Nat) (n : Nat) (c : FieldChan) : (s.setFch n c).cell q = s.cell q := rfl
@[simp] theorem reg_setFch (q : Nat) (n : Nat) (c : FieldChan) : (s.setFch n c).reg q = s.reg q := rfl
@[simp] theorem loop_setBucket (q : Nat) (key : Nat) (b : Bucket) : (s.setBucket key b).loop q = s.loop q := rfl
@[simp] theorem pair_setBucket (q : Nat) (key : Nat) (b : Bucket) : (s.setBucket key b).pair q = s.pair q := rfl
@[simp] theorem slot_setBucket (q : Nat) (key : Nat) (b : Bucket) : (s.setBucket key b).slot q = s.slot q := rfl
@[simp] theorem cell_setBucket (q : Nat) (key : Nat) (b : Bucket) : (s.setBucket key b).cell q = s.cell q := rfl
@[simp] theorem reg_setBucket (q : Nat) (key : Nat) (b : Bucket) : (s.setBucket key b).reg q = s.reg q := rfl
@[simp] theorem loop_setHost (q : Nat) (x : HostSt) : (s.setHost x).loop q = s.loop q := rfl
@[simp] theorem pair_setHost (q : Nat) (x : HostSt) : (s.setHost x).pair q = s.pair q := rfl
@[simp] theorem slot_setHost (q : Nat) (x : HostSt) : (s.setHost x).slot q = s.slot q := rfl
@[simp] theorem cell_setHost (q : Nat) (x : HostSt) : (s.setHost x).cell q = s.cell q := rfl
@[simp] theorem reg_setHost (q : Nat) (x : HostSt) : (s.setHost x).reg q = s.reg q := rfl
@[simp] theorem loop_send (q : Nat) (port kind : Nat) (bytes : List Byte) : (s.send port kind bytes).loop q = s.loop q := rfl
@[simp] theorem pair_send (q : Nat) (port kind : Nat) (bytes : List Byte) : (s.send port kind bytes).pair q = s.pair q := rfl
@[simp] theorem slot_send (q : Nat) (port kind : Nat) (bytes : List Byte) : (s.send port kind bytes).slot q = s.slot q := rfl
@[simp] theorem cell_send (q : Nat) (port kind : Nat) (bytes : List Byte) : (s.send port kind bytes).cell q = s.cell q := rfl
@[simp] theorem reg_send (q : Nat) (port kind : Nat) (bytes : List Byte) : (s.send port kind bytes).reg q = s.reg q := rfl
@[simp] theorem loop_setSession (q : Nat) (sid : Nat) (x : Session) : (s.setSession sid x).loop q = s.loop q := rfl
@[simp] theorem pair_setSession (q : Nat) (sid : Nat) (x : Session) : (s.setSession sid x).pair q = s.pair q := rfl
@[simp] theorem slot_setSession (q : Nat) (sid : Nat) (x : Session) : (s.setSession sid x).slot q = s.slot q := rfl
@[simp] theorem cell_setSession (q : Nat) (sid : Nat) (x : Session) : (s.setSession sid x).cell q = s.cell q := rfl
@[simp] theorem reg_setSession (q : Nat) (sid : Nat) (x : Session) : (s.setSession sid x).reg q = s.reg q := rfl
@[simp] theorem loop_setFace (q : Nat) (x : FaceSt) : (s.setFace x).loop q = s.loop q := rfl
@[simp] theorem pair_setFace (q : Nat) (x : FaceSt) : (s.setFace x).pair q = s.pair q := rfl
@[simp] theorem slot_setFace (q : Nat) (x : FaceSt) : (s.setFace x).slot q = s.slot q := rfl
@[simp] theorem cell_setFace (q : Nat) (x : FaceSt) : (s.setFace x).cell q = s.cell q := rfl
@[simp] theorem reg_setFace (q : Nat) (x : FaceSt) : (s.setFace x).reg q = s.reg q := rfl
@[simp] theorem loop_setTagSt (q : Nat) (x : TagSt) : (s.setTagSt x).loop q = s.loop q := rfl
@[simp] theorem pair_setTagSt (q : Nat) (x : TagSt) : (s.setTagSt x).pair q = s.pair q := rfl
@[simp] theorem slot_setTagSt (q : Nat) (x : TagSt) : (s.setTagSt x).slot q = s.slot q := rfl
@[simp] theorem cell_setTagSt (q : Nat) (x : TagSt) : (s.setTagSt x).cell q = s.cell q := rfl
@[simp] theorem reg_setTagSt (q : Nat) (x : TagSt) : (s.setTagSt x).reg q = s.reg q := rfl
@[simp] theorem loop_setPwr (q : Nat) (x : PwrSt) : (s.setPwr x).loop q = s.loop q := rfl
@[simp] theorem pair_setPwr (q : Nat) (x : PwrSt) : (s.setPwr x).pair q = s.pair q := rfl
@[simp] theorem slot_setPwr (q : Nat) (x : PwrSt) : (s.setPwr x).slot q = s.slot q := rfl
@[simp] theorem cell_setPwr (q : Nat) (x : PwrSt) : (s.setPwr x).cell q = s.cell q := rfl
@[simp] theorem reg_setPwr (q : Nat) (x : PwrSt) : (s.setPwr x).reg q = s.reg q := rfl
@[simp] theorem loop_setCtl (q : Nat) (x : CtlSt) : (s.setCtl x).loop q = s.loop q := rfl
@[simp] theorem pair_setCtl (q : Nat) (x : CtlSt) : (s.setCtl x).pair q = s.pair q := rfl
@[simp] theorem slot_setCtl (q : Nat) (x : CtlSt) : (s.setCtl x).slot q = s.slot q := rfl
@[simp] theorem cell_setCtl (q : Nat) (x : CtlSt) : (s.setCtl x).cell q = s.cell q := rfl
@[simp] theorem reg_setCtl (q : Nat) (x : CtlSt) : (s.setCtl x).reg q = s.reg q := rfl

end Sys2Proof.Machine
end

