-- ==== Sys2Proof/Laws/Loops.lean ====
section
/-! SUPPORT. What executing an instruction of a loop does, said once: a loop that is ready executes it; one that computes on
registers writes them, goes on to the next word and changes nothing else. -/
namespace Sys2Proof.Machine

variable (s : State) (l : Nat)

theorem mdel_mins_same {α : Type} (k : Nat) (u : α) (m : SMap α) : mdel k (mins k u m) = mdel k m := by
  induction m with
  | nil => simp [mins, mdel]
  | cons e t ih =>
    obtain ⟨j, w⟩ := e
    by_cases hk : k < j
    · simp [mins, mdel, hk]
    · by_cases hj : j = k <;> simp [mins, mdel, hk, hj, ih]

/-- Of two writes to one key the later stands. -/
theorem mset_mset {α : Type} [DecidableEq α] (d : α) (k : Nat) (u v : α) (m : SMap α) :
    mset d k v (mset d k u m) = mset d k v m := by
  have h : mdel k (mset d k u m) = mdel k m := by
    unfold mset
    split
    · exact mdel_mdel k m
    · rw [mdel_mins_same, mdel_mdel]
  unfold mset at h ⊢
  split <;> simp [h]

@[simp] theorem setLoop_setLoop (x y : Loop) : (s.setLoop l x).setLoop l y = s.setLoop l y := by
  simp [State.setLoop, mset_mset]

/-- Reads of general registers after a write (R59). -/
theorem rg_wg (L : Loop) (d r : Reg) (v : Word) : (L.wg d v).rg r = if r = 0 then 0 else if r = d then v else L.rg r := by
  unfold Loop.wg Loop.rg
  by_cases hr : r = 0
  · rw [if_pos hr, if_pos hr]
  · rw [if_neg hr, if_neg hr]
    by_cases hd : d = 0
    · have : r ≠ d := fun e => hr (e.trans hd)
      rw [if_pos hd, if_neg this, if_neg hr]
    · rw [if_neg hd]
      by_cases h : r = d
      · rw [if_pos h, h]; exact mget_mset_same ..
      · have : r.toNat ≠ d.toNat := fun e => h (BitVec.eq_of_toNat_eq e)
        rw [if_neg h, if_neg hr]; exact mget_mset_ne _ _ this ..

/-- The registers alone decide what a loop reads. -/
theorem rg_congr {L M : Loop} (h : M.g = L.g) (r : Reg) : M.rg r = L.rg r := by simp [Loop.rg, h]

theorem wg_frame (L : Loop) (d : Reg) (v : Word) : L.wg d v = { L with g := (L.wg d v).g } := by
  unfold Loop.wg; split <;> rfl

/-- An instruction of a ready loop: it acts, or it raises its trap. -/
theorem runInstr_ready {s : State} {l : Nat} (h : s.Ready l) (word : Word) (n : Nat) (act : State → InstrRes) :
    s.runInstr l word n act = match act s with
      | .ok t => t.setLoop l { t.loop l with cycles := (s.loop l).cycles + n }
      | .error t => s.takeTrap l t (s.late (s.loop l) n) word := by
  obtain ⟨h1, h2, h3⟩ := h
  have h3' : ¬ (s.loop l).codeSize ≤ (s.loop l).pc := by omega
  simp only [State.runInstr, h1, h2, if_neg h3']
  rfl

/-- An instruction of a ready loop that only computes on its registers. -/
theorem compute_ready {s : State} {l : Nat} (h : s.Ready l) (word : Word) (n : Nat) (f : Loop → Loop) :
    s.compute l word n f =
      s.setLoop l { f (s.loop l) with
        pc := ((f (s.loop l)).pc + 4) % 0x100000000, cycles := (s.loop l).cycles + n } := by
  simp [State.compute, runInstr_ready h, State.stepLoop]

/-- Such an instruction retires as `Retired` says where it writes `v` to gd and changes FLG. -/
theorem retired_compute {s : State} {l : Nat} (h : s.Ready l) (word : Word) (n : Nat) (f : Loop → Loop) (d : Reg) (v flg : Word)
    (hf : f (s.loop l) = { (s.loop l).wg d v with flg := flg }) :
    State.Retired l d v flg n s (s.compute l word n f) ∧ ((s.compute l word n f).loop l).flg = flg := by
  rw [compute_ready h, hf]
  refine ⟨⟨by simp, fun r => ?_, ?_⟩, by simp⟩
  · rw [loop_setLoop_same, ← rg_wg]
    exact rg_congr rfl r
  · rw [loop_setLoop_same, wg_frame]

/-! ### Flags -/

theorem setFlag_eq (L : Loop) (i : Nat) (b : Bool) : L.setFlag i b = { L with flg := setBit L.flg i b } := rfl

theorem flags_setBit (old w : Word) (i : Nat) (b : Bool) (f : Nat → Option Bool) (hi : i < 32) (h : FlagsAre old w f) :
    FlagsAre old (setBit w i b) (fun k => if k = i then some b else f k) := by
  intro k hk
  by_cases e : k = i
  · subst e; simp [bitAt_setBit_same w k b (by omega)]
  · simp [bitAt_setBit_ne w i k b (by omega) e, e, h k hk]

theorem flags_refl (old : Word) : FlagsAre old old fun _ => none := fun _ _ => rfl

theorem bitAt_msb (w : Word) : bitAt w 31 = w.msb := by
  rw [bitAt_eq, BitVec.msb_eq_getLsbD_last]; rfl

end Sys2Proof.Machine
end

