-- ==== Sys2Proof/Machine/Leds.lean ====
section
/-! DEFINITION. What the LEDs of the front face show (R468 and Table 13.9 of 13_host_service.md): outputs, computed from the state. -/
namespace Sys2Proof.Machine

/-- What an LED shows: off, on, flashing with a period in ms, or flashing n times in each 2 s. -/
inductive Light where
  | off
  | on
  | flash (ms : Nat)
  | burst (n : Nat)
  deriving DecidableEq, Repr

/-- The LEDs of Table 13.9. -/
inductive Led where
  | pwr
  | run
  | fault
  | alarm
  | localMode
  | test
  | link (l : Nat)
  | sync
  | tier
  | nfc
  | probe
  deriving DecidableEq, Repr

/-- An LED that is on, else flashes at 2 Hz, else is off. -/
def lightOf (on flash : Bool) : Light := if on then .on else if flash then .flash 500 else .off

/-- A module fault that holds the FAULT LED on. -/
def State.moduleFault (s : State) : Bool :=
  allPairs.any (fun p => (s.pair p).state == pairFailed || (s.pair p).state == pairRetired) ||
    allSets.any (fun n => (s.nvSet n).stateCode == 2) || [0, 1, 2].any (fun r => s.refState r == 2) || s.regB Reg.REC_STAT 15

/-- Something of the house's cells stands still: a cell suspended by T4 or a loop STOPPED. -/
def State.standsStill (s : State) : Bool := s.cells.any (fun e => e.2.t4) || s.loops.any fun e => e.2.state == .stopped

/-- A socket holds a probe and one of its inputs has VALID 0. -/
def State.probeFault (s : State) : Bool :=
  (List.range 16).any fun n => s.regB (Reg.FE_STAT n) 31 && [0, 1].any fun k => !(mget FeInput.reset (4 * n + k) s.fe.ins).valid

/-- The LED test is on for 3 s (R465). -/
def State.ledTest (s : State) : Bool := match s.face.testAt with
  | none => false
  | some t => decide (s.dtb < t + 3000000000)

/-- What an LED shows; the LED test lights every LED (R465). -/
def State.led (s : State) (x : Led) : Light :=
  if s.ledTest then .on
  else match x with
    | .pwr => if s.ctl.por.isSome then .off else lightOf s.ctl.house.isSome true
    | .run => if (s.cell 0).state ≠ 2 then .off else lightOf (!s.standsStill) true
    | .fault => lightOf s.moduleFault (s.regB Reg.HST_LED 0)
    | .alarm =>
      let active := s.regB Reg.HST_ALARM 0
      if s.regB Reg.HST_ALARM 1 then .flash (if active then 500 else 2000) else lightOf active false
    | .localMode => lightOf s.localMode s.face.localAt.isSome
    | .test => lightOf (s.regB Reg.HST_LED 1) false
    | .link l => lightOf (s.linkUp l) (s.linkState l == 0 && s.regF (Reg.HST_LSTAT l) 21 17 != 0)
    | .sync => lightOf (s.regF Reg.HST_PTPSTAT 31 30 == 1) (s.regF Reg.HST_PTPSTAT 31 30 == 2)
    | .tier => if s.pwr.deepest = 0 then .off else .burst s.pwr.deepest
    | .nfc => if s.svcTag.hold.isSome then .flash 500 else lightOf (s.regB Reg.TAG_STAT 31) false
    | .probe =>
      let plugged := match s.face.probeAt with
        | some t => decide (s.dtb < t + 2000000000)
        | none => false
      if plugged then .flash 500 else lightOf s.probeFault false

end Sys2Proof.Machine
end

