-- ==== Sys2Proof/Tests/Slice0.lean ====
section
/-! SUPPORT. Small checks: ill-formed terms, words written from the encodings, states that meet the hypotheses of the statements,
and one step of a command of each family.  Expected results are read off the rules named. -/
namespace Sys2Proof.Tests
open Sys2Proof Sys2Proof.Machine

set_option maxRecDepth 20000

/-! ### Helpers -/

/-- The next state of an outcome meets a test. -/
def okk (o : Out) (p : State → Bool) : Bool := match o with
  | .next t => p t
  | _ => false

/-- A memory with words at addresses. -/
def wordsAt (ws : List (Nat × Word)) : SMap Byte := ws.foldl (fun m e => memSetWord m e.1 e.2) []

/-- A loop of cell 3 in a period of 10 ms on pair 2, with general registers and words of its data segment. -/
def wLoop (g : SMap Word) (data : SMap Byte) : Loop :=
  { Loop.free with
    state := .running, cell := 3, inPeriod := true, codeSize := 64, g := g, data := data, pair := 2, pc := 8,
    decl := { Decl.none with pidx := 8, dl := 900, wcet := 100000, dsize := 0x4000, slots := [40] } }

/-- Loop 5 alone. -/
def wSt (g : SMap Word) (data : SMap Byte) : State := { State.reset with loops := [(5, wLoop g data)] }

/-! ### Ill-formed terms -/

theorem wf_loop : Instr.wf (.add 8192 1 2 3) = false ∧ Instr.wf (.add 8191 1 2 3) = true := by decide
theorem wf_who : Who.wf (.session 0) = false ∧ Who.wf (.session 0x100000000) = false ∧ Who.wf (.loop 8192) = false ∧
    Who.wf (.session 0xFFFFFFFF) = true := by decide
theorem wf_address : Instr.wf (.registerWrite (.loop 0) 0x40000002 0) = false ∧
    Instr.wf (.registerWrite (.loop 0) 0x40000004 0) = true := by decide
theorem wf_page : Instr.wf (.apply (.loop 0) 0x40000800) = false ∧ Instr.wf (.apply (.loop 0) 0x40001000) = true := by decide
theorem wf_pair : Instr.wf (.lockstepMismatch ⟨32, .ok, 0⟩) = false ∧ Instr.wf (.lockstepMismatch ⟨31, .ok, 0⟩) = true := by decide
theorem wf_cell : Instr.wf (.imagePlace 1024) = false ∧ Instr.wf (.imagePlace 1023) = true := by decide
theorem wf_channel : Instr.wf (.inputSlotStart 48) = false ∧ Instr.wf (.inputSlotStart 47) = true := by decide
theorem wf_socket : Instr.wf (.probeRemoved 16) = false ∧ Instr.wf (.probeRemoved 15) = true := by decide
theorem wf_law_mode : Instr.wf (.pids 0 1 2 3 4 24) = false ∧ Instr.wf (.pids 0 1 2 3 4 23) = true := by decide
theorem wf_tag : Instr.wf (.xferFill 65536) = false ∧ Instr.wf (.xferFill 65535) = true := by decide
theorem wf_engine : Instr.wf (.engineDrained 11) = false ∧ Instr.wf (.engineGrant ⟨4, .ok⟩) = false ∧ Instr.wf (.engineDrained 10) = true := by
  decide
theorem wf_reference : Instr.wf (.refFail 3 false 0 0 0) = false ∧ Instr.wf (.refFail 2 false 0 0 0) = true := by decide
theorem wf_column : Instr.wf (.columnInputWrite (.loop 0) 16 0 0) = false ∧
    Instr.wf (.columnInputWrite (.loop 0) 15 0 0) = true := by decide
theorem wf_trunk : Instr.wf (.frameSelection 32) = false ∧ Instr.wf (.frameSelection 31) = true := by decide
theorem wf_can : CanFrame.wf ⟨false, false, false, 0x20000000, false, false, 0, [], 0⟩ = false ∧
    CanFrame.wf ⟨false, false, false, 0, false, false, 16, [], 0⟩ = false ∧
    CanFrame.wf ⟨false, false, false, 0, false, false, 15, List.replicate 65 0, 0⟩ = false ∧
    Instr.wf (.canBusoff 4) = false ∧ Instr.wf (.canBusoff 3) = true := by decide
theorem wf_solenoid : Instr.wf (.svShortRetry 24) = false ∧ Instr.wf (.svBankOff 4 0) = false ∧ Instr.wf (.svShortRetry 23) = true := by
  decide
theorem wf_fan : Instr.wf (.fanFail 16) = false ∧ Instr.wf (.tachometerPulse 16) = false ∧ Instr.wf (.fanFail 15) = true := by decide
theorem wf_io : Instr.wf (.dioOt 64) = false ∧ Instr.wf (.counterGateEnd 16) = false ∧ Instr.wf (.dioOt 63) = true := by decide
theorem wf_set : Instr.wf (.storeCommit 16 true) = false ∧ Instr.wf (.storeCommit 15 true) = true := by decide
theorem wf_backup : Instr.wf (.bkramRead (.loop 0) 32 0) = false ∧ Instr.wf (.bkramRead (.loop 0) 31 0) = true := by decide
theorem wf_link : Instr.wf (.hstLinkDown 2) = false ∧ Instr.wf (.hstLinkDown 1) = true := by decide
/-- A well-formed request of a type whose fixed body has n bytes. -/
def msgLen (n : Nat) : HapMsg := ⟨0, ⟨0, 64, .plain⟩, 0, 0, 4660, 0x5453, 1, none, 1, 0, n, 0, [], []⟩
theorem wf_message : HapMsg.wf { msgLen 0 with link := 2 } = false ∧ HapMsg.wf { msgLen 0 with sid := 0x100000000 } = false ∧
    HapMsg.wf { msgLen 0 with seq := 0x100000000 } = false ∧ HapMsg.wf { msgLen 0 with frame := ⟨0x1000, 64, .plain⟩ } = false ∧ HapMsg.wf { msgLen 0 with type := some 0x100 } = false ∧
    HapMsg.wf { msgLen 0 with ver := 0x100 } = false ∧ HapMsg.wf { msgLen 0 with link := 1 } = true := by decide
theorem wf_requests : Instr.wf (.hapOpen (msgLen 17) 0 (List.replicate 15 0)) = false ∧
    Instr.wf (.hapOpen (msgLen 17) 256 (List.replicate 16 0)) = false ∧
    Instr.wf (.evt (msgLen 4) 256 0) = false ∧ Instr.wf (.hapCell (msgLen 4) 65536 0) = false ∧
    Instr.wf (.imgBegin (msgLen 8) 0 0x100000000) = false ∧
    Instr.wf (.imgData (msgLen 4) 0x100000000 []) = false ∧
    Instr.wf (.keySet (msgLen 12) 0 (List.replicate 7 0)) = false ∧
    Instr.wf (.credSet (msgLen 36) 0 0 0 (List.replicate 31 0)) = false ∧
    Instr.wf (.hapOpen (msgLen 17) 63 (List.replicate 16 0)) = true := by decide
theorem wf_session_end : Instr.wf (.hapIdleTimeout 0x100000000) = false ∧ Instr.wf (.credBlockEnd 64) = false := by decide
theorem wf_tag_block : Instr.wf (.extendedWriteSingleBlock 65536 (List.replicate 16 0)) = false ∧
    Instr.wf (.extendedWriteSingleBlock 511 (List.replicate 15 0)) = false ∧
    Instr.wf (.extendedWriteSingleBlock 511 (List.replicate 16 0)) = true := by decide
theorem wf_key : Instr.wf (.faceKeyStuck 4) = false ∧ Instr.wf (.faceKeyStuck 3) = true := by decide
theorem wf_trace : Instr.wf (.trcTrig (.loop 0) 16) = false ∧ Instr.wf (.trcTrig (.loop 0) 15) = true := by decide

/-! ### Words of the Mbarov instructions, bit by bit (Tables 2.5, 2.7 to 2.13) -/

theorem decode_add : decodeMbarov 5 (0b0000001#7 ++ 0b00001#5 ++ 0b00010#5 ++ 0b00011#5 ++ 0b0000000000#10) =
    some (.add 5 1 2 3) := by decide
theorem decode_max : decodeMbarov 5 (0b0000001#7 ++ 0b11111#5 ++ 0b10000#5 ++ 0b01000#5 ++ 0b0000010010#10) =
    some (.max 5 31 16 8) := by decide
theorem decode_addi : decodeMbarov 5 (0b0000010#7 ++ 0b00001#5 ++ 0b00010#5 ++ 0b111111111111110#15) =
    some (.addi 5 1 2 0x7FFE) := by decide
theorem decode_sari : decodeMbarov 5 (0b0001000#7 ++ 0b00001#5 ++ 0b00010#5 ++ 0b000000000011111#15) =
    some (.sari 5 1 2 31) := by decide
theorem decode_lui : decodeMbarov 5 (0b0001001#7 ++ 0b00010#5 ++ 0b00111111100000000000#20) = some (.lui 5 2 0x3F800) := by decide
theorem decode_fma : decodeMbarov 5 (0b0010000#7 ++ 0b00001#5 ++ 0b00010#5 ++ 0b00011#5 ++ 0b0000000101#10) =
    some (.fma 5 1 2 3) := by decide
theorem decode_fcmp : decodeMbarov 5 (0b0010000#7 ++ 0b00000#5 ++ 0b00010#5 ++ 0b00011#5 ++ 0b0000001010#10) =
    some (.fcmp 5 2 3) := by decide
theorem decode_ldw : decodeMbarov 5 (0b0100000#7 ++ 0b00001#5 ++ 0b00010#5 ++ 0b000000000000100#15) =
    some (.ldw 5 1 2 4 .ok) := by decide
theorem decode_stb : decodeMbarov 5 (0b0101010#7 ++ 0b00001#5 ++ 0b00010#5 ++ 0b111111111111111#15) =
    some (.stb 5 1 2 0x7FFF .ok) := by decide
theorem decode_bgeu : decodeMbarov 5 (0b0110101#7 ++ 0b00001#5 ++ 0b00010#5 ++ 0b111111111111110#15) =
    some (.bgeu 5 1 2 0x7FFE) := by decide
theorem decode_jal : decodeMbarov 5 (0b0111000#7 ++ 0b00000#5 ++ 0b11111111111111111110#20) = some (.jal 5 0 0xFFFFE) := by decide
theorem decode_jalr : decodeMbarov 5 (0b0111001#7 ++ 0b00001#5 ++ 0b00010#5 ++ 0b000000000001000#15) =
    some (.jalr 5 1 2 8) := by decide
theorem decode_wait : decodeMbarov 5 (0b0111100#7 ++ 0b00011#5 ++ 0b00000#5 ++ 0b00000#5 ++ 0b0000000001#10) =
    some (.wait 5 3) := by decide
theorem decode_mfs : decodeMbarov 5 (0b0111100#7 ++ 0b00011#5 ++ 0b01011#5 ++ 0b00000#5 ++ 0b0000000011#10) =
    some (.mfs 5 3 11) := by decide
theorem decode_trap : decodeMbarov 5 (0b0111100#7 ++ 0b00000#5 ++ 0b00000#5 ++ 0b10001#5 ++ 0b0000000010#10) =
    some (.trap 5 17) := by decide
theorem decode_pids : decodeMbarov 5 (0b1000000#7 ++ 0b00001#5 ++ 0b00010#5 ++ 0b00011#5 ++ 0b00100#5 ++ 0b01001#5) =
    some (.pids 5 1 2 3 4 9) := by decide
theorem decode_skim : decodeMbarov 5 (0b1000100#7 ++ 0b00001#5 ++ 0b00010#5 ++ 0b00011#5 ++ 0b00000#5 ++ 0b00001#5) =
    some (.skim 5 1 2 3 ⟨true, .ok, .ok⟩) := by decide
theorem decode_tap : decodeMbarov 5 (0b1001000#7 ++ 0b00000#5 ++ 0b00010#5 ++ 0b00011#5 ++ 0b00000#5 ++ 0b11111#5) =
    some (.tap 5 31 2 3) := by decide
theorem decode_fir : decodeMbarov 5 (0b1001001#7 ++ 0b00001#5 ++ 0b00010#5 ++ 0b00011#5 ++ 0b00000#5 ++ 0b01001#5) =
    some (.fir 5 1 2 3 9 .ok) := by decide
theorem decode_out : decodeMbarov 5 (0b1001010#7 ++ 0b00000#5 ++ 0b00001#5 ++ 0b00010#5 ++ 0b00000#5 ++ 0b00000#5) =
    some (.out 5 1 2) := by decide
/-- A PIDS with derivative mode 0b11, a NOP with a register and OP 0 are no instructions (R69). -/
theorem decode_illegal :
    decodeMbarov 5 (0b1000000#7 ++ 0b00001#5 ++ 0b00010#5 ++ 0b00011#5 ++ 0b00100#5 ++ 0b11000#5) = none ∧
    decodeMbarov 5 (0b0111100#7 ++ 0b00001#5 ++ 0b00000#5 ++ 0b00000#5 ++ 0b0000000000#10) = none ∧
    decodeMbarov 5 0 = none := by decide
/-- No row of the table has bits. -/
theorem decode_table : decodeTableWord 32 0 = none := rfl

/-! ### Loops: states that meet the hypotheses, and results -/

theorem wSt_ready (g : SMap Word) (data : SMap Byte) : (wSt g data).Ready 5 :=
  ⟨rfl, by
    simp [State.overdue, State.overdueAt, wSt, wLoop, State.loop, mget, State.reset, Loop.free], (by decide : (8 : Nat) < 64)⟩

theorem witness_IntegerResults : (wSt [] []).Ready 5 := wSt_ready _ _
theorem witness_FpResults : (wSt [] []).Ready 5 := wSt_ready _ _
theorem witness_CompareFlags : (wSt [] []).Ready 5 := wSt_ready _ _

/-- A divisor 0, the overflow, and neither. -/
theorem witness_IntegerResults_divisions :
    ((wSt [(1, 7)] []).Ready 5 ∧ ((wSt [(1, 7)] []).loop 5).rg 2 = 0) ∧
    ((wSt [(1, 0x80000000), (2, 0xFFFFFFFF)] []).Ready 5 ∧ ((wSt [(1, 0x80000000), (2, 0xFFFFFFFF)] []).loop 5).rg 1 = 0x80000000 ∧
      ((wSt [(1, 0x80000000), (2, 0xFFFFFFFF)] []).loop 5).rg 2 = 0xFFFFFFFF) ∧
    ((wSt [(1, 7), (2, 2)] []).Ready 5 ∧ ((wSt [(1, 7), (2, 2)] []).loop 5).rg 2 ≠ 0 ∧
      ((wSt [(1, 7), (2, 2)] []).loop 5).rg 1 ≠ 0x80000000) :=
  ⟨⟨wSt_ready _ _, by decide⟩, ⟨wSt_ready _ _, by decide⟩, wSt_ready _ _, by decide⟩

/-- A magnitude that fits, one that is rounded and a tie; a signalling NaN; an underflow. -/
theorem witness_RoundingAndNaN :
    (fpRound24 3 0 false).2.1 ≤ 0 ∧ 0 < (fpRound24 0x1000003 0 false).2.1 ∧
    2 * ((fpRound24 0x1000003 0 false).1 * 2 - 0x1000003) = 2 ∧
    fpIsNaN 0x7F800001 = true ∧ fpIsNaN (fpRun (fadd 0x7F800001 0)).1 = true ∧
    fld (fpRun (fmul 0x00800000 0x3F000000)).1 30 23 = 0 := by decide

/-- The real value of a word, as the statement of exact results reads it. -/
noncomputable def realVal (w : Word) : ℝ := if fld w 30 23 = 0 then 0
  else (if bitAt w 31 then -1 else 1) * ((2 ^ 23 + fld w 22 0 : ℕ) : ℝ) * (2 : ℝ) ^ ((fld w 30 23 : ℤ) - 150)
/-- The largest finite word, 1.0 and a subnormal number: a divisor other than 0, one that counts as 0, an operand of a root. -/
theorem witness_FpRoundsTheExactResult : (fld (0x7F7FFFFF : Word) 30 23 < 255 ∧ fld (0x3F800000 : Word) 30 23 < 255 ∧ fld (1 : Word) 30 23 < 255) ∧
    realVal 0x3F800000 ≠ 0 ∧ realVal 1 = 0 ∧ 0 ≤ realVal 0x3F800000 := by
  have h : fld (0x3F800000 : Word) 30 23 ≠ 0 := by decide
  have hs : bitAt (0x3F800000 : Word) 31 = false := by decide
  have hv : 0 < realVal 0x3F800000 := by
    rw [realVal, if_neg h, hs]
    simp only [Bool.false_eq_true, if_false, one_mul]
    positivity
  exact ⟨by decide, ne_of_gt hv, if_pos (by decide), le_of_lt hv⟩

/-- Taken inside the code segment, not taken, and taken outside it; jumps inside, outside and misaligned. -/
theorem witness_BranchesJumpsAndSystem :
    (wSt [(1, 10)] []).Ready 5 ∧ ((wSt [(1, 10)] []).loop 5).pc = 8 ∧ ((wSt [(1, 10)] []).loop 5).codeSize = 64 ∧
    ((wSt [(1, 10)] []).loop 5).rg 2 = ((wSt [(1, 10)] []).loop 5).rg 3 ∧
    ((wSt [(1, 10)] []).loop 5).rg 1 ≠ ((wSt [(1, 10)] []).loop 5).rg 2 ∧
    (((8 : Int) + 4 * (13 : BitVec 15).toInt) % 2 ^ 32).toNat = 60 ∧
    (((8 : Int) + 4 * (14 : BitVec 15).toInt) % 2 ^ 32).toNat = 64 ∧
    (((8 : Int) + 4 * (0x7FFD : BitVec 15).toInt) % 2 ^ 32).toNat = 0xFFFFFFFC ∧
    (((wSt [(1, 10)] []).loop 5).rg 1 + BitVec.ofInt 32 (2 : BitVec 15).toInt).toNat = 12 ∧
    (((wSt [(1, 10)] []).loop 5).rg 1 + BitVec.ofInt 32 (1 : BitVec 15).toInt).toNat % 4 ≠ 0 :=
  ⟨wSt_ready _ _, by decide⟩

/-- Loop 5, its cell granted the register page 0x40501 that g1 names. -/
def grSt : State := { wSt [(1, 0x40501000)] [] with act := [(bk 3 (Reg.PLC_GPAGE 40), 2)] }
/-- Selectors 0, 12 and 11, a reserved one, a word of no instruction, and a register of a granted page. -/
theorem witness_BranchesJumpsAndSystem_system : (wSt [] []).Ready 5 ∧ ((0 : BitVec 5) ≠ 11 ∧ (12 : BitVec 5) ≠ 11) ∧ (mfsListed 5) = false ∧
    decodeMbarov 5 0 = none ∧ grSt.Ready 5 ∧ ((grSt.loop 5).rg 1 + BitVec.ofInt 32 (0 : BitVec 15).toInt).toNat = 0x40501000 ∧
    inExtent 0x40501000 = true ∧ grSt.pageGranted (grSt.loop 5).cell 0x40501000 = true :=
  ⟨wSt_ready _ _, by decide, by decide, by decide, ⟨rfl, by decide, by decide⟩, by decide⟩

/-- A WAIT in progress with nothing outstanding. -/
def waitSt : State := { State.reset with loops := [(5, { wLoop [] [] with waiting := some 3 })] }
theorem witness_WaitEndsThePeriod : (wSt [] []).Ready 5 ∧ (waitSt.loop 5).inPeriod = true ∧ (waitSt.loop 5).waiting.isSome = true ∧
    waitSt.overdue (waitSt.loop 5) = false ∧ waitSt.storesPosted 5 = false ∧ (waitSt.loop 5).stopReq = false ∧
    (waitSt.loop 5).cmdSusp = false ∧ (waitSt.loop 5).t4Susp = false :=
  ⟨wSt_ready _ _, by decide⟩

/-- A loop past its deadline with an OUT of this period. -/
def lateSt : State := { State.reset with dtb := 900000, loops := [(5, { wLoop [] [] with outs := [40] })] }
theorem witness_TrapTaking : (40 ∈ (lateSt.loop 5).outs) ∧ lateSt.overdue (lateSt.loop 5) = true := by decide

/-- An address in the code segment, one in the data segment, the last word of each; one nowhere; one misaligned; a view; shared data. -/
def memSt : State :=
  { wSt [(1, 60), (2, 0x13FFC), (3, 0x14000), (4, 0x10001), (6, 0x10000000), (7, 0x2000FFFC), (8, 0x20010000),
    (9, 0x40501000), (10, 0x7FFFFFFC), (11, 0x30100000)] [] with
    cells := [(3, { Cell.empty with mem := 1 })] }
theorem memSt_ready : memSt.Ready 5 := ⟨rfl, by decide, by decide⟩
def ea (a : Reg) : Nat := ((memSt.loop 5).rg a + BitVec.ofInt 32 (0 : BitVec 15).toInt).toNat
/-- A pair with a store of loop 5 waiting, or with 16. -/
def postSt : State := { memSt with pairs := [(2, { Pair.starting with queue := [⟨5, 3, 0, 0, [1, 2, 3, 4]⟩] })] }
def fullSt : State := { memSt with pairs := [(2, { Pair.starting with queue := List.replicate 16 ⟨5, 3, 0, 0, [1, 2, 3, 4]⟩ })] }
theorem witness_LoadsDeliverMemory : memSt.Ready 5 ∧ ea 1 + 4 ≤ (memSt.loop 5).codeSize ∧ ea 1 % 4 = 0 ∧
    (0x10000 ≤ ea 2 ∧ ea 2 + 4 ≤ 0x10000 + (memSt.loop 5).decl.dsize) ∧ ea 2 % 4 = 0 ∧
    (0x10000 + (memSt.loop 5).decl.dsize < ea 7 + 4 ∧ 0x20000000 ≤ ea 7 ∧
      ea 7 + 4 ≤ 0x20000000 + (memSt.cell (memSt.loop 5).cell).mem * 0x10000 ∧ ea 7 + 4 ≤ 0x30000000 ∧
      (memSt.seen 5).badWords.contains ((ea 7 - 0x20000000) / 4) = false ∧
      ({ memSt with cells := [(3, { Cell.empty with mem := 1, badWords := [0x3FFF] })] }.seen 5).badWords.contains 0x3FFF = true) ∧
    (postSt.postedBy 5 = [] ++ ⟨5, 3, 0, 0, [1, 2, 3, 4]⟩ :: [] ∧ memSt.postedBy 5 = []) ∧
    (0x10000000 ≤ ea 6 ∧ ea 6 + 4 ≤ 0x20000000 ∧ 0x30000000 ≤ ea 11 ∧ ea 11 + 4 ≤ 0x40000000 ∧
      0x100000 ≤ ea 11 - 0x30000000 ∧ ea 11 - 0x30000000 < 0x140000) ∧
    (grSt.Ready 5 ∧ 0x20000000 + (grSt.cell (grSt.loop 5).cell).mem * 0x10000 ≤ 0x40501000 ∧ (grSt.loop 5).codeSize ≤ 0x40501000 ∧
      0x10000 + (grSt.loop 5).decl.dsize ≤ 0x40501000 ∧ (0x40501000 : Nat) % 4 = 0 ∧ inExtent 0x40501000 = true ∧
      grSt.pageGranted (grSt.loop 5).cell 0x40501000 = true) :=
  ⟨memSt_ready, by decide, by decide, by decide, by decide, by decide, by decide, by decide, ⟨rfl, by decide, by decide⟩, by decide⟩
theorem witness_StoresToTheDataSegment : memSt.Ready 5 ∧ (memSt.loop 5).codeSize < ea 2 + 4 ∧ 0x10000 ≤ ea 2 ∧
    ea 2 + 4 ≤ 0x10000 + (memSt.loop 5).decl.dsize ∧ ea 2 % 4 = 0 :=
  ⟨memSt_ready, by decide⟩
theorem witness_BadAccessesTrap : memSt.Ready 5 ∧
    (¬ (0x10000 ≤ ea 3 ∧ ea 3 + 4 ≤ 0x10000 + (memSt.loop 5).decl.dsize) ∧ ea 3 < 0x10000000 ∧ ¬ ea 3 + 4 ≤ 64) ∧
    ((0x10000 ≤ ea 4 ∧ ea 4 + 4 ≤ 0x10000 + (memSt.loop 5).decl.dsize) ∧ ea 4 % 4 ≠ 0 ∧ ea 4 % 2 ≠ 0) ∧
    (0x10000000 ≤ ea 6 ∧ ea 6 + 4 ≤ 0x20000000) ∧ (ea 1 + 4 ≤ (memSt.loop 5).codeSize) ∧
    (¬ ea 8 + 4 ≤ 0x20000000 + (memSt.cell (memSt.loop 5).cell).mem * 0x10000) ∧
    (0x40000000 ≤ ea 9 ∧ inExtent (ea 9) = true ∧ memSt.pageGranted (memSt.loop 5).cell (ea 9) = false ∧ inExtent (ea 10) = false ∧
      (memSt.loop 5).codeSize ≤ ea 9 ∧ 0x10000 + (memSt.loop 5).decl.dsize ≤ ea 9 ∧
      0x20000000 + (memSt.cell (memSt.loop 5).cell).mem * 0x10000 ≤ ea 9) :=
  ⟨memSt_ready, by decide⟩
theorem witness_SharedDataStoresArePosted : memSt.Ready 5 ∧ 0x20000000 ≤ ea 7 ∧
    ea 7 + 4 ≤ 0x20000000 + (memSt.cell (memSt.loop 5).cell).mem * 0x10000 ∧ ea 7 + 4 ≤ 0x30000000 ∧ ea 7 % 4 = 0 ∧
    (memSt.loop 5).codeSize ≤ ea 7 ∧ 0x10000 + (memSt.loop 5).decl.dsize ≤ ea 7 ∧
    (memSt.pair (memSt.loop 5).pair).queue.length < 16 ∧
    (∀ p, p < 32 → p ≠ (memSt.loop 5).pair → ∀ y ∈ (memSt.pair p).queue, y.loop ≠ 5) ∧ (postSt.pair 2).queue = ⟨5, 3, 0, 0, [1, 2, 3, 4]⟩ :: [] ∧
    16 ≤ (fullSt.pair (fullSt.loop 5).pair).queue.length ∧ (0x40501000 : Nat) ≠ Reg.HWK_SUBMIT :=
  ⟨memSt_ready, by decide⟩

/-- 7 + -2: 5, with carry out and no overflow (R73). -/
theorem test_addi : okk (exec (.addi 5 3 1 0x7FFE) (wSt [(1, 7)] [])) (fun t =>
    (t.loop 5).rg 3 == 5 && bitAt (t.loop 5).flg 2 && !bitAt (t.loop 5).flg 3 && (t.loop 5).pc == 12) = true := by decide
/-- 0x7FFF_FFFF + 1 overflows into N (R73). -/
theorem test_add_wraps : okk (exec (.add 5 3 1 2) (wSt [(1, 0x7FFFFFFF), (2, 1)] [])) (fun t =>
    (t.loop 5).rg 3 == 0x80000000 && bitAt (t.loop 5).flg 1 && bitAt (t.loop 5).flg 3) = true := by decide
/-- A shift by 33 shifts by 1 (R73); g0 takes no write (R59). -/
theorem test_shift : okk (exec (.shl 5 3 1 2) (wSt [(1, 3), (2, 33)] [])) (fun t => (t.loop 5).rg 3 == 6) = true ∧
    okk (exec (.shl 5 0 1 2) (wSt [(1, 3), (2, 33)] [])) (fun t => (t.loop 5).rg 0 == 0) = true := by decide
/-- -7 / 2 = -3 with remainder -1 (R73, R74). -/
theorem test_div : okk (exec (.div 5 3 1 2) (wSt [(1, 0xFFFFFFF9), (2, 2)] [])) (fun t => (t.loop 5).rg 3 == 0xFFFFFFFD) = true ∧
    okk (exec (.rem 5 3 1 2) (wSt [(1, 0xFFFFFFF9), (2, 2)] [])) (fun t => (t.loop 5).rg 3 == 0xFFFFFFFF) = true := by decide
/-- 1.5 + 2.5 = 4.0; 1 / 0 gives infinity and DZ (R75, R76). -/
theorem test_fp : okk (exec (.fadd 5 3 1 2) (wSt [(1, 0x3FC00000), (2, 0x40200000)] [])) (fun t =>
      (t.loop 5).rg 3 == 0x40800000 && (t.loop 5).flg == 0) = true ∧
    okk (exec (.fdiv 5 3 1 2) (wSt [(1, 0x3F800000)] [])) (fun t =>
      (t.loop 5).rg 3 == 0x7F800000 && (t.loop 5).flg != 0) = true := by decide
/-- FCVTI of 3e9 saturates (R78). -/
theorem test_fcvti : okk (exec (.fcvti 5 3 1) (wSt [(1, 0x4F32D05E)] [])) (fun t => (t.loop 5).rg 3 == 0x7FFFFFFF) = true := by decide
/-- A store and a load of a halfword, low byte first and with its sign (R9, R79). -/
theorem test_memory : okk (exec (.sth 5 1 2 2 .ok) (wSt [(1, 0x1234ABCD), (2, 0x10000)] [])) (fun t =>
      mget 0 2 (t.loop 5).data == 0xCD && mget 0 3 (t.loop 5).data == 0xAB && mget 0 4 (t.loop 5).data == 0) = true ∧
    okk (exec (.ldh 5 1 2 2 .ok) (wSt [(2, 0x10000)] [(2, 0xCD), (3, 0xAB)])) (fun t => (t.loop 5).rg 1 == 0xFFFFABCD) = true := by
  decide
/-- A loop's load sees its own posted store (R67); a store to a full queue waits for the first to be accepted. -/
theorem test_posted : okk (exec (.ldw 5 1 12 0 .ok) { postSt with loops := [(5, wLoop [(12, 0x20000000)] [])] }) (fun t =>
      (t.loop 5).rg 1 == 0x04030201) = true ∧
    okk (exec (.stb 5 4 7 0 .ok) fullSt) (fun t =>
      (t.pair 2).queue.getLast? == some ⟨5, 3, 0, 0xFFFC, [1]⟩ && (t.pair 2).queue.length == 16 && mget 0 0 (t.cell 3).shared == 1) = true := by
  decide
/-- JAL back by two words links PC + 4 (R82). -/
theorem test_jal : okk (exec (.jal 5 1 0xFFFFE) (wSt [] [])) (fun t =>
    (t.loop 5).pc == 0 && (t.loop 5).rg 1 == 12 && (t.loop 5).cycles == 2) = true := by decide

/-! ### Law blocks -/

def w1 : Word := 0x3F800000
/-- A PID block at 0x1_0000: KP 1.0, XMIN 0, XMAX the word given; g1 the block, g2 the measurement, g3 the set point. -/
def pidSt (umax y : Word) : State := wSt [(1, 0x10000), (2, y), (3, w1)] (wordsAt [(0, w1), (20, umax)])
def blk (s : State) (k : Nat) : Word := (s.loop 5).dw (0x10000 + 4 * k)
theorem witness_PidStep :
    ((pidSt w1 0).Ready 5 ∧ (0x10000 ≤ 0x10000 ∧ 0x10000 + 64 ≤ 0x10000 + ((pidSt w1 0).loop 5).decl.dsize ∧ 0x10000 % 64 = 0) ∧
      (∀ k, k < 10 → fpIsFinite (blk (pidSt w1 0) k) = true) ∧ fpLt (blk (pidSt w1 0) 3) 0 = false ∧
      fpLt (blk (pidSt w1 0) 3) 0x3F800000 = true ∧ fpGt (blk (pidSt w1 0) 4) (blk (pidSt w1 0) 5) = false ∧
      blk (pidSt w1 0) 11 = 0 ∧ blk (pidSt w1 0) 12 = 0 ∧ fpIsNaN ((pidSt w1 0).loop 5 |>.rg 2) = false) ∧
    fpIsNaN ((pidSt w1 0x7FC00000).loop 5 |>.rg 2) = true ∧ fpGt (blk (pidSt 0xBF800000 0) 4) (blk (pidSt 0xBF800000 0) 5) = true :=
  ⟨⟨wSt_ready _ _, by decide⟩, by decide⟩
/-- A derivative mode, and law blocks outside the data segment and misaligned. -/
theorem witness_PidStep_blocks : (23 : BitVec 5).toNat / 8 < 3 ∧ (wSt [(1, 0x13FF0), (2, 0x10020)] []).Ready 5 ∧
    ¬ (0x10000 ≤ 0x13FF0 ∧ 0x13FF0 + 64 ≤ 0x10000 + ((wSt [(1, 0x13FF0), (2, 0x10020)] []).loop 5).decl.dsize) ∧
    ((wSt [(1, 0x13FF0), (2, 0x10020)] []).loop 5).rg 1 = 0x13FF0 ∧ ((wSt [(1, 0x13FF0), (2, 0x10020)] []).loop 5).rg 2 = 0x10020 ∧
    (0x10000 ≤ 0x10020 ∧ 0x10020 + 64 ≤ 0x10000 + ((wSt [(1, 0x13FF0), (2, 0x10020)] []).loop 5).decl.dsize) ∧ 0x10020 % 64 ≠ 0 :=
  ⟨by decide, wSt_ready _ _, by decide⟩

/-- Error 1.0 at KP 1.0 gives 1.0, below XMAX 100.0 (R111); above XMAX 0.5 it saturates high. -/
theorem test_pids : okk (exec (.pids 5 4 1 2 3 0) (pidSt 0x42C80000 0)) (fun t => (t.loop 5).rg 4 == w1 && (t.loop 5).cycles == 22) = true ∧
    okk (exec (.pids 5 4 1 2 3 0) (pidSt 0x3F000000 0)) (fun t =>
      (t.loop 5).rg 4 == 0x3F000000 && bitAt (t.loop 5).flg 10) = true := by decide

/-- An integrator block (gain 1.0, limits 0 and 1.0, X given) at 0x1_0000 and a slew block (1.0 up and down, LAST 0) at 0x1_0040. -/
def lawSt (x u f : Word) : State :=
  wSt [(1, 0x10000), (2, u), (3, f), (4, 0x10040), (6, w1), (7, 0x40000000)]
    (wordsAt [(0, w1), (8, w1), (12, x), (0x40, w1), (0x44, w1)])
theorem witness_IntegratorSlewAndClamp :
    ((lawSt 0 w1 0).Ready 5 ∧ (0x10000 + 16 ≤ 0x10000 + ((lawSt 0 w1 0).loop 5).decl.dsize) ∧
      (∀ k, k < 4 → fpIsFinite (blk (lawSt 0 w1 0) k) = true) ∧ fpGt (blk (lawSt 0 w1 0) 1) (blk (lawSt 0 w1 0) 2) = false ∧
      fpIsNaN ((lawSt 0 w1 0).loop 5 |>.rg 2) = false ∧ ((lawSt 0 w1 0).loop 5).rg 3 = 0) ∧
    (((lawSt 0 w1 1).loop 5).rg 3 ≠ 0 ∧ (fpGe (blk (lawSt w1 w1 0) 3) (blk (lawSt w1 w1 0) 2) = true)) ∧
    (fpGt (blk (lawSt 0 0 0) 16) 0 = true ∧ fpGt (blk (lawSt 0 0 0) 17) 0 = true ∧ fpIsFinite (blk (lawSt 0 0 0) 18) = true ∧
      fpGt (subF 0x40000000 0) (mulF w1 (lawSt 0 0 0 |>.loop 5).ts) = true ∧
      fpLt (subF 0xC0000000 0) ((mulF w1 (lawSt 0 0 0 |>.loop 5).ts) ^^^ 0x80000000) = true) ∧
    (fpGt ((lawSt 0 0 0).loop 5 |>.rg 2) ((lawSt 0 0 0).loop 5 |>.rg 6) = false ∧
      fpGt ((lawSt 0 0 0).loop 5 |>.rg 6) ((lawSt 0 0 0).loop 5 |>.rg 2) = true) ∧
    (fpIsNaN ((lawSt 0 fpNaN 0).loop 5 |>.rg 2) = true ∧ fpIsFinite (blk (lawSt 0x7F800000 0 0) 3) = false ∧
      ¬ fpGt (blk (wSt [] []) 16) 0 = true) :=
  ⟨⟨wSt_ready _ _, by decide⟩, by decide⟩
/-- CLMP of 2.0 between 0 and 1.0 (R89); SLEW with RESET takes the goal at once (R127). -/
theorem test_clamp_slew : okk (exec (.clmp 5 8 7 0 6) (lawSt 0 0 0)) (fun t =>
      (t.loop 5).rg 8 == w1 && bitAt (t.loop 5).flg 10) = true ∧
    okk (exec (.slew 5 8 4 7 true) (lawSt 0 0 0)) (fun t =>
      (t.loop 5).rg 8 == 0x40000000 && (t.loop 5).dw 0x10048 == 0x40000000) = true := by decide

/-- A select block of two candidates with outputs 1.0 and 0.5 and H 0. -/
def minsSt : State := wSt [(1, 0x10000)]
  (wordsAt [(0, 2), (16, 0x10040), (20, 0x10080), (0x64, w1), (0xA4, 0x3F000000)])
/-- A schedule block with edges 0 to 8.0 on both axes, no region yet, its gains at 0x1_0400 and its PID block at 0x1_0080. -/
def schedSt : State := wSt [(1, 0x10000), (2, 0x40200000), (3, 0x3F000000)]
  (wordsAt (([0, w1, 0x40000000, 0x40400000, 0x40800000, 0x40A00000, 0x40C00000, 0x40E00000, 0x41000000] : List Word).zipIdx.flatMap
    (fun e => [(4 * e.2, e.1), (36 + 4 * e.2, e.1)]) ++
    [(80, 0xFFFFFFFF), (84, 0x10400), (88, 0x10080)]))
/-- Every candidate NaN; a count of 9; a NaN input of SCHED; equal edges. -/
def nanSt : State := wSt [(1, 0x10000)] (wordsAt [(0, 2), (16, 0x10040), (20, 0x10080), (0x64, fpNaN), (0xA4, fpNaN)])
theorem witness_SelectionAndSchedule_nan :
    (nanSt.Ready 5 ∧ (blk nanSt 0).toNat = 2 ∧ (∀ i, i < 2 → fpIsNaN ((nanSt.loop 5).dw ((blk nanSt (4 + i)).toNat + 36)) = true)) ∧
    (8 < (blk (wSt [] (wordsAt [(0, 9)])) 0).toNat ∧ (blk (wSt [] []) 0).toNat < 2) ∧
    (fpIsNaN ((wSt [(2, fpNaN)] []).loop 5 |>.rg 2) = true ∧ ¬ fpLt (blk (wSt [] []) 0) (blk (wSt [] []) 1) = true) :=
  ⟨⟨wSt_ready _ _, by decide⟩, by decide⟩
theorem witness_SelectionAndSchedule :
    (minsSt.Ready 5 ∧ (blk minsSt 0).toNat = 2 ∧ (blk minsSt 2).toNat < 2 ∧ blk minsSt 4 = 0x10040 ∧ blk minsSt 5 = 0x10080 ∧
      fpIsNaN (blk minsSt 1) = false ∧ fpLt (blk minsSt 1) 0 = false ∧ fpIsNaN ((minsSt.loop 5).dw (0x10080 + 36)) = false ∧
      fpLt ((minsSt.loop 5).dw (0x10080 + 36)) ((minsSt.loop 5).dw (0x10040 + 36)) = true) ∧
    (schedSt.Ready 5 ∧ blk schedSt 20 = 0xFFFFFFFF ∧ blk schedSt 21 = 0x10400 ∧ blk schedSt 22 = 0x10080 ∧
      axisBad ((List.range 9).map fun i => blk schedSt i) (blk schedSt 18) = false ∧
      axisBad ((List.range 9).map fun i => blk schedSt (9 + i)) (blk schedSt 19) = false ∧
      fpGe ((schedSt.loop 5).rg 2) (blk schedSt 2) = true ∧ (∀ j, j < 8 → 2 < j → fpGe ((schedSt.loop 5).rg 2) (blk schedSt j) = false) ∧
      (∀ j, j < 8 → 0 < j → fpGe ((schedSt.loop 5).rg 3) (blk schedSt (9 + j)) = false)) :=
  ⟨⟨wSt_ready _ _, by decide⟩, wSt_ready _ _, by decide⟩
/-- The smaller candidate is selected (R116); inputs 2.5 and 0.5 lie in region 8 * 2 + 0 (R121). -/
theorem test_select : okk (exec (.mins 5 8 1) minsSt) (fun t => (t.loop 5).rg 8 == 0x3F000000 && (t.loop 5).dw 0x10008 == 1) = true ∧
    okk (exec (.sched 5 8 1 2 3) schedSt) (fun t => (t.loop 5).rg 8 == 16 && (t.loop 5).dw 0x10050 == 16) = true := by decide

/-- A Skim block of 4 words at 0x1_0100, at its last position, and a plausibility block at 0x1_0040 in verdict FAIL. -/
def skimSt : State := wSt [(1, 0x10000), (2, w1), (3, 0x10040)]
  (wordsAt [(0, 4), (4, 3), (8, 3), (12, w1), (16, w1), (20, 0x10100), (0x40, w1), (0x44, 1), (0x48, 0xFFFF), (0x50, 2)])
/-- The same Skim block with its memory at the start of the cell's shared data, and at an offset that holds a bad word. -/
def skimShared (bad : List Nat) : State :=
  { wSt [(1, 0x10000), (2, w1)] (wordsAt [(0, 4), (4, 3), (8, 3), (12, w1), (16, w1), (20, 0x20000000)]) with
    cells := [(3, { Cell.empty with mem := 1, badWords := bad, shared := wordsAt [(8, w1)] })] }
theorem witness_SkimAndPlausibility_shared : (skimShared []).Ready 5 ∧ (blk (skimShared []) 5).toNat = 0x20000000 ∧
    0x20000000 + 4 * 4 ≤ 0x20000000 + ((skimShared []).cell ((skimShared []).loop 5).cell).mem * 0x10000 ∧
    0x10000 + ((skimShared []).loop 5).decl.dsize < 0x20000000 + 4 * 4 ∧
    (∀ i, i < 4 → ((skimShared []).seen 5).badWords.contains i = false) ∧
    fpIsNaN ((skimShared []).loop 5 |>.rg 2) = false ∧ fpIsNaN ((skimSt.loop 5).rg 5) = false ∧ fpIsNaN fpNaN = true ∧
    fpGt (blk (wSt [] []) 4) 0 = false :=
  ⟨⟨rfl, by decide, by decide⟩, by decide⟩
theorem witness_SkimAndPlausibility :
    (skimSt.Ready 5 ∧ (blk skimSt 0).toNat = 4 ∧ (blk skimSt 1).toNat < 4 ∧ (blk skimSt 2).toNat < 4 ∧ (blk skimSt 5).toNat = 0x10100 ∧
      fpIsFinite (blk skimSt 3) = true ∧ fpGt (blk skimSt 4) 0 = true ∧ fpGt (blk skimSt 4) 0x3F800000 = false ∧
      fpIsNaN (blk skimSt 4) = false ∧ fpIsNaN ((skimSt.loop 5).rg 2) = false) ∧
    (fpIsFinite (blk skimSt 16) = true ∧ fpGt (blk skimSt 16) 0 = true ∧ (blk skimSt 17).toNat = 1 ∧
      (blk skimSt 18).toNat = 65535 ∧ (blk skimSt 20).toNat = 2) :=
  ⟨⟨wSt_ready _ _, by decide⟩, by decide⟩
/-- SKIM learns at POS and wraps it (R125); PLAUS within tolerance counts towards recovery and stays FAIL (Table 3.9). -/
theorem test_skim_plaus : okk (exec (.skim 5 8 1 2 ⟨true, .ok, .ok⟩) skimSt) (fun t =>
      (t.loop 5).rg 8 == 0 && (t.loop 5).dw 0x10004 == 0 && (t.loop 5).dw 0x1010C == w1) = true ∧
    okk (exec (.plaus 5 8 3 2 2) skimSt) (fun t => (t.loop 5).rg 8 == 2 && (t.loop 5).dw 0x1004C == 1) = true ∧
    okk (exec (.skim 5 8 1 2 ⟨true, .ok, .ok⟩) (skimShared [])) (fun t =>
      (t.loop 5).rg 8 == w1 && (t.pair 2).queue == [⟨5, 3, 0, 12, [0, 0, 0x80, 0x3F]⟩]) = true := by decide

/-! ### Outputs, taps, field image, dispatch and boundaries -/

/-- Loop 5 owns slot 0 and not slot 103; buffer 0 captures taps 7 of loop 5. -/
def outSt : State :=
  { (wSt [(1, 0), (2, w1), (3, 103), (4, 104), (6, 0x7F800000), (7, 0x10040), (8, 191)] []) with
    slots := [(0, { Slot.empty with owner := some 5 })],
    act := [(Reg.TRC_CFG 0, 0x40000000 + 3 * 0x80000), (Reg.TRC_SLOOP 0 0, 0x80000005), (Reg.TRC_SMASK 0 0, 0x80)] }
theorem outSt_ready : outSt.Ready 5 := ⟨rfl, by decide, by decide⟩
theorem witness_OutTapAndFir : outSt.Ready 5 ∧ 104 ≤ ((outSt.loop 5).rg 4).toNat ∧ outSt.ownsSlot 5 103 = false ∧
    outSt.ownsSlot 5 0 = true ∧ fpIsFinite ((outSt.loop 5).rg 6) = false ∧ fpIsFinite ((outSt.loop 5).rg 2) = true ∧
    outSt.tapArmed 5 6 = false ∧ outSt.tapArmed 5 7 = true ∧ ((outSt.loop 5).rg 7).toNat % 64 = 0 ∧
    ((8 : BitVec 5).toNat / 8 < 3 ∧ ((outSt.loop 5).rg 8).toNat < 192 ∧ 192 ≤ ((outSt.loop 5).rg 7).toNat ∧
      0x10000 ≤ ((outSt.loop 5).rg 7).toNat ∧ ((outSt.loop 5).rg 7).toNat + 64 ≤ 0x10000 + (outSt.loop 5).decl.dsize ∧
      ((outSt.loop 5).rg 8).toNat % 64 ≠ 0) ∧
    ((outSt.trace 0).waiting.length ≤ 64 ∧ 64 < ({ Trace.empty with waiting := List.replicate 65 [] } : Trace).waiting.length ∧
      (outSt.shed 1 = false ∧ bitAt (outSt.reg (Reg.TRC_SLOOP 0 0)) 30 = false)) :=
  ⟨outSt_ready, by decide⟩
/-- OUT puts the value up for the next boundary and names the slot (R95); slot 104 traps (R94). -/
theorem test_out : okk (exec (.out 5 1 2) outSt) (fun t => (t.slot 0).next == [⟨0, 0, w1⟩] && (t.slot 0).value == none &&
      (t.loop 5).outs == [0]) = true ∧
    okk (exec (.out 5 4 2) outSt) (fun t => !(t.loop 5).inPeriod && (t.loop 5).cause == 2) = true := by decide
/-- The entry of Table 3.12 waits at the buffer (R139). -/
theorem test_tap : okk (exec (.tap 5 7 1 2) outSt) (fun t =>
    (t.trace 0).waiting == [[0, w1, 0xE005, 0]] && (t.loop 5).cycles == 3) = true := by decide
/-- A field-image entry that is not granted reads 0 with status 0 and STL (R92). -/
theorem test_fir : okk (exec (.fir 5 9 8 7 8 .ok) outSt) (fun t =>
    (t.loop 5).rg 9 == 0 && bitAt (t.loop 5).flg 14) = true := by decide

/-- Loop 5 due on an ACTIVE pair 2, from a WAIT that named g3 in the period before the last. -/
def dueSt : State :=
  { State.reset with
    dtb := 20000000, pairs := [(2, { Pair.starting with state := pairActive })],
    loops := [(5, { wLoop [] [] with inPeriod := false, due := 20000000, boundary := 20000000, ckptA := ⟨[], 12, 0, 7, [], 3, 0, false⟩ })],
    slots := [(40, { Slot.empty with owner := some 5, next := [⟨19000000, 6, w1⟩, ⟨20000000, 7, 0⟩] })],
    act := [(Reg.DIO_CFG 0, 0xC0000000)] }
theorem witness_LoopDispatchResumesTheCheckpoint :
    (dueSt.dueNow (dueSt.loop 5) = true ∧ dueSt.onSafe = false ∧ (dueSt.pair 2).state = pairActive ∧ (dueSt.pair 2).check = false ∧
      (dueSt.loop 5).onPairs = [2] ∧ (dueSt.pair 2).running = none ∧ dueSt.first 5 5 = true ∧ mRising 0 dueSt.loops = true) ∧
    (wSt [] []).dueNow ((wSt [] []).loop 5) = false := by decide
/-- Two periods have begun since: g3 and PER say so (R100). -/
theorem test_dispatch : okk (exec (.loopDispatch 5) dueSt) (fun t =>
    (t.loop 5).rg 3 == 2 && (t.loop 5).per == 9 && (t.loop 5).pc == 12 && (t.pair 2).running == some 5) = true := by decide
theorem witness_BoundariesTakeUpSlots :
    ((dueSt.loop 5).boundary ≤ dueSt.dtb ∧ (dueSt.loop 5).state ≠ .free ∧ dueSt.goes (dueSt.loop 5) = true ∧ dueSt.onSafe = false ∧
      (dueSt.loop 5).decl.slots.Nodup ∧ 40 ∈ (dueSt.loop 5).decl.slots ∧ (dueSt.slot 40).owner = some 5 ∧
      dueSt.slotIsOut 40 = true ∧ dueSt.ctl.posts.contains (slotBlock 40) = false ∧ (dueSt.slot 40).next.filter (fun w => decide (w.arrived < 20000000)) = [⟨19000000, 6, w1⟩]) ∧
    (dueSt.nextFrame ≤ dueSt.dtb ∧ dueSt.pend = [] ∧
      ∃ r, ((dueSt.setSlot 7 { Slot.empty with value := some w1, released := some 5000 }).slot 7).released = some r ∧
        (r / 10000 + 1) * 10000 ≤ dueSt.dtb) ∧ (State.reset.dtb < State.reset.nextFrame) := by decide
/-- Loop 5 still executes a period that began at 4 ms, past its deadline, and its OUT of that period waits. -/
def doomedSt : State :=
  { dueSt with
    loops := [(5, { wLoop [] [] with start := 10000000, due := 20000000, boundary := 20000000, per := 6, outs := [40] })] }
theorem witness_BoundariesTakeUpSlots_doomed : (doomedSt.loop 5).inPeriod = true ∧
    (doomedSt.loop 5).start < doomedSt.dtb / (doomedSt.loop 5).period * (doomedSt.loop 5).period ∧
    (doomedSt.loop 5).start + (doomedSt.loop 5).decl.dl * 1000 ≤ doomedSt.dtb / (doomedSt.loop 5).period * (doomedSt.loop 5).period ∧
    (doomedSt.loop 5).boundary ≤ doomedSt.dtb ∧ doomedSt.goes (doomedSt.loop 5) = true := by decide
/-- Its value is not taken up (R102, R104). -/
theorem test_doomed : okk (exec (.periodBoundary 5) doomedSt) (fun t =>
    (t.slot 40).value == none && (t.slot 40).next == [⟨19000000, 6, w1⟩, ⟨20000000, 7, 0⟩]) = true := by decide
theorem test_boundary : okk (exec (.periodBoundary 5) dueSt) (fun t =>
    (t.slot 40).value == some w1 && (t.slot 40).next == [⟨20000000, 7, 0⟩] && (t.loop 5).boundary == 30000000) = true := by decide

/-! ### Registers -/

/-- A loop of cell 0, one of cell 3, and a pending apply of the page of IO00. -/
def regSt : State :=
  { State.reset with loops := [(0, { wLoop [] [] with cell := 0 }), (5, wLoop [] [])] }
def pendSt : State := { regSt with dtb := 20000, pend := [(0x40501000, ⟨0, 0⟩)] }
theorem witness_RegisterWriteFollowsAccessCodes :
    (inExtent Reg.HST_LED = true ∧ regSt.pageGranted (regSt.whoCell (.loop 5)) Reg.HST_LED = false) ∧
    (regSt.pageGranted (regSt.whoCell (.loop 0)) Reg.HST_LED = true ∧ regSt.whoCell (.loop 0) = 0 ∧
      Reg.HST_LED % 0x1000 < 0xFF8 ∧ regSt.coreCmd (.loop 0) Reg.HST_LED 1 = none ∧ regSt.linkCmd Reg.HST_LED 1 = none ∧
      regSt.sideCmd (.loop 0) Reg.HST_LED 1 = none ∧ (regRow Reg.HST_LED).any (fun r => r.staged == 0) = true) ∧
    (inExtent (Reg.DIO_CFG 0) = true ∧ regSt.pageGranted 0 (Reg.DIO_CFG 0) = true ∧
      regSt.coreCmd (.loop 0) (Reg.DIO_CFG 0) 1 = none ∧ regSt.linkCmd (Reg.DIO_CFG 0) 1 = none ∧
      regSt.sideCmd (.loop 0) (Reg.DIO_CFG 0) 1 = none ∧
      (regRow (Reg.DIO_CFG 0)).any (fun r => r.staged != 0 && r.rw == 0 && r.w1c == 0) = true ∧
      regSt.isPending (pageOf (Reg.DIO_CFG 0)) = false ∧ pendSt.isPending (pageOf (Reg.DIO_CFG 0)) = true) ∧
    (stagedPage 0x40501000 = true ∧ (0x40501FFC : Nat) % 0x1000 = 0xFFC ∧ regSt.coreCmd (.loop 0) 0x40501FFC 0xF0 = none ∧
      regSt.linkCmd 0x40501FFC 0xF0 = none ∧ regSt.sideCmd (.loop 0) 0x40501FFC 0xF0 = none ∧ regSt.ctl.rtcHanded = false ∧
      cellZeroPage 0x40501FFC = false) ∧
    ((regRow (Reg.DIO_STAT 0)).any (fun r => r.w1c != 0) = true) ∧
    regSt.granted (.loop 5) Reg.PLC_CCMD = false ∧ regSt.granted (.loop 5) (Reg.RTC_BK 31) = false ∧
    regSt.granted (.loop 5) (Reg.COL_IN 15 5) = false := by decide
/-- A staged write changes the shadow copy alone and sets DIRTY (R42, R44). -/
theorem test_staged : okk (exec (.registerWrite (.loop 0) (Reg.DIO_CFG 0) 0x80000000) regSt) (fun t =>
    t.shadow (Reg.DIO_CFG 0) == 0x80000000 && t.reg (Reg.DIO_CFG 0) == 0 && t.regB 0x40501FFC 2) = true := by decide
/-- A cell without the page is denied (R40). -/
theorem test_denied : okk (exec (.registerWrite (.loop 5) (Reg.DIO_CFG 0) 0x80000000) regSt) (fun t =>
    t.shd == [] && t.recd.handed.map (·.code) == [Ev.PAGE_DENIED, Ev.LOOP_TRAP] && (t.loop 5).cause == 2) = true := by decide

/-- Two permissives that name one slot (R516): agreement rule of CTL page 1 fails. -/
def rejSt : State := { regSt with act := [(0x40001FFC, 4)] ++ regSt.act, shd := [(Reg.CTL_PERM 0, 0x80000000), (Reg.CTL_PERM 1, 0x80000000)] }
theorem witness_ApplyAndDiscard :
    inExtent (0x40501000 + 0xFF8) = true ∧ stagedPage 0x40501000 = true ∧ regSt.pageGranted 0 (0x40501000 + 0xFF8) = true ∧
    pendSt.isPending 0x40501000 = true ∧ (regSt.isPending 0x40501000 = false ∧ regSt.agree 0x40501000 = 0) ∧
    (inExtent (0x40001000 + 0xFF8) = true ∧ stagedPage 0x40001000 = true ∧ rejSt.pageGranted 0 (0x40001000 + 0xFF8) = true ∧
      rejSt.isPending 0x40001000 = false ∧ rejSt.regB 0x40001FFC 2 = true ∧ rejSt.agree 0x40001000 ≠ 0) := by decide
theorem test_apply : okk (exec (.apply (.loop 0) 0x40501000) regSt) (fun t => t.isPending 0x40501000 && t.regB 0x40501FFC 0) = true ∧
    okk (exec (.apply (.loop 0) 0x40001000) rejSt) (fun t => !t.isPending 0x40001000 && t.regB 0x40001FFC 5) = true := by decide

theorem witness_AppliesTakeEffectWhole :
    (recRlPage % 0x1000 = 0 ∧ mRising 0 { regSt with dtb := 20000, pend := [(recRlPage, ⟨0, 0⟩)] }.shd = true ∧
      { regSt with dtb := 20000, pend := [(recRlPage, ⟨0, 0⟩)] }.recd.buckets = [] ∧
      { regSt with dtb := 20000, pend := [(recRlPage, ⟨0, 0⟩)] }.isPending recRlPage = true ∧
      { regSt with dtb := 20000, pend := [(recRlPage, ⟨0, 0⟩)] }.frameReached recRlPage = true) ∧
    regSt.isPending 0x40501000 = false ∧
    (pendSt.isPending 0x40501000 = true ∧ mRising 0 pendSt.pend = true ∧ mRising 0 pendSt.shd = true ∧
      (0x40501000 : Nat) % 0x1000 = 0 ∧ (0x40501000 : Nat) ≠ rtcPage ∧ blockOf 0x40501000 = blockOf 0x40501000 ∧
      ((pendSt.atFrame 0x40501000 && pendSt.frameReached 0x40501000) || pendSt.atPoint 0x40501000) = true) ∧
    (({ regSt with pend := [(rtcPage, ⟨0, 0⟩)] } : State).isPending rtcPage = true ∧ (∀ e ∈ pendSt.pend, e.1 % 0x1000 = 0) ∧
      mhas (0x40501000 + 0xFFC) pendSt.shd = false ∧
      ∀ e ∈ ({ pendSt with shd := [(Reg.DIO_CFG 0, 0x80000000)] } : State).shd, addrOf e.1 % 0x1000 < 0xFF8) := by decide
/-- An apply at a frame boundary: COUNT 1, DONE, PENDING clear (R43, R46). -/
theorem test_take_effect : okk (exec (.applyTakesEffect 0x40501000) { pendSt with shd := [(Reg.DIO_CFG 0, 0x80000000)] }) (fun t =>
    t.reg 0x40501FFC == 0x00010010 && t.reg (Reg.DIO_CFG 0) == 0x80000000 && t.pend == []) = true := by decide

/-! ### Placer, cells and engines -/

/-- Pair 2 runs loop 5, pair 3 is STANDBY. -/
def pairSt : State :=
  { State.reset with
    dtb := 20000000,
    pairs := [(2, { Pair.starting with state := pairActive }), (3, { Pair.starting with state := pairStandby })],
    loops := [(5, wLoop [] [])] }
/-- Pair 2 is TESTING since 10 ms; pair 3 is STANDBY since 1 s; pair 4 has a check outstanding. -/
def testSt : State :=
  { State.reset with
    dtb := 1000000000,
    pairs := [(2, { Pair.starting with state := pairTesting, stoppedAt := 990000000 }),
      (3, { Pair.starting with state := pairStandby }), (4, { Pair.starting with check := true })] }
/-- A pinned loop 5 on pair 2 that lost its second pair when its checkpoint's period began at 4 ns; pair 3 is STANDBY. -/
def pinSt : State :=
  { pairSt with
    pairs := [(2, { Pair.starting with state := pairActive }), (3, { Pair.starting with state := pairStandby })],
    placer := { Placer.reset with degraded := [(5, 4)] },
    loops := [(5, { wLoop [] [] with inPeriod := false, decl := { (wLoop [] []).decl with pin := true } })] }
theorem witness_PairsStopAndReturn :
    ((2 < 32 ∧ pairSt.pairCode 2 = pairActive) ∧ (pairSt.pair 3).state = pairStandby ∧
      (∀ k, k < 3 → (pairSt.pair k).state ≠ pairStandby) ∧ (pairSt.loop 5).state ≠ .free ∧ (pairSt.loop 5).pair = 2 ∧
      (pairSt.loop 5).pair2 = none) ∧
    (¬ (pairSt.pairCode 0 = pairActive ∨ pairSt.pairCode 0 = pairStandby)) ∧
    (pairSt.placer.degraded.find? (fun e => e.1 == 5) = none) ∧
    (pinSt.placer.degraded.find? (fun e => e.1 == 5) = some (5, 4) ∧ (pinSt.loop 5).inPeriod = false ∧ (pinSt.loop 5).ckpt.start ≠ 4 ∧
      (pinSt.pair 3).state = pairStandby ∧ ∀ k, k < 3 → (pinSt.pair k).state ≠ pairStandby) ∧
    ((testSt.pair 2).check = false ∧ (testSt.pair 2).state = pairTesting ∧ (testSt.pair 2).stoppedAt + 10000000 ≤ testSt.dtb) ∧
    ((testSt.pair 4).check = true) ∧
    ((testSt.pair 3).state = pairStandby ∧ (testSt.pair 3).stoppedAt + 1000000000 ≤ testSt.dtb) ∧
    ((pairSt.pair 3).check = false ∧ (pairSt.pair 3).state ≠ pairTesting ∧ pairSt.dtb < (pairSt.pair 3).stoppedAt + 1000000000) := by
  decide
/-- A mismatch moves loop 5 to the standby pair and keeps its checkpoint (R162). -/
theorem test_mismatch : okk (exec (.lockstepMismatch ⟨2, .ok, 0⟩) pairSt) (fun t =>
    (t.loop 5).pair == 3 && !(t.loop 5).inPeriod && (t.pair 2).state == pairTesting && (t.pair 2).misses == 1) = true := by decide
/-- The fourth mismatch retires the pair (R165). -/
theorem test_retired : okk (exec (.lockstepMismatch ⟨2, .double, 64⟩)
      { pairSt with pairs := [(2, { Pair.starting with state := pairActive, misses := 3 })] }) (fun t =>
    (t.pair 2).state == pairRetired) = true := by decide

/-- A load of cell 3 of an image of 128 bytes of 0 waits at the head of the queue, and a planned move of loop 5. -/
def loadSt (whys : List ReplanWhy) : State :=
  { State.reset with
    placer := { Placer.reset with replans := whys, moves := [(5, 2, 3)] },
    pairs := [(2, { Pair.starting with state := pairActive }), (3, { Pair.starting with state := pairActive })],
    cells := [(3, { Cell.empty with state := 1, loading := some ⟨[], 128⟩, viaHap := true })],
    loops := [(5, { wLoop [] [] with inPeriod := false, due := 10000000 })] }
theorem witness_LoadsAndReplans :
    (State.reset.placer.replans = []) ∧ ((loadSt [.config]).placer.replans = .config :: []) ∧
    ((loadSt [.config]).placer.replans.head? ≠ some (.load 3)) ∧
    ((loadSt [.load 3]).placer.replans = .load 3 :: [] ∧ ((loadSt [.load 3]).cell 3).loading = some ⟨[], 128⟩ ∧
      ((loadSt [.load 3]).cell 3).state ≠ 4 ∧ (loadSt [.load 3]).shed 4 = false ∧
      (⟨[], 128⟩ : Image).headerOk 3 = false) ∧
    (State.reset.placer.moves.find? (fun m => m.1 == 5) = none) ∧
    ((loadSt []).placer.moves.find? (fun m => m.1 == 5) = some (5, 2, 3) ∧ ((loadSt []).loop 5).inPeriod = false ∧
      ¬(((loadSt []).loop 5).runs = true ∧ ((loadSt []).loop 5).due ≤ (loadSt []).dtb) ∧
      ((loadSt []).loop 5).pair = 2 ∧ (loadSt []).fitsOn 3 ((loadSt []).loop 5) = true ∧ ((loadSt []).loop 5).pair2 ≠ some 3) ∧
    (State.reset.dtb / 100000000 = State.reset.placer.lastLoadCheck / 100000000) ∧
    (testSt.dtb / 100000000 ≠ testSt.placer.lastLoadCheck / 100000000) := by decide
/-- Loop 5 without a pair, pair 2 ACTIVE, a grant's re-plan queued; a re-plan for T4's end with a check to come; a move under T4;
engines loaded above 0.95 of their capacity. -/
def strandSt : State :=
  { loadSt [.grant 3] with loops := [(5, { wLoop [] [] with pair := noPair, state := .stopped, inPeriod := false })] }
def darkSt : State := { loadSt [] with pwr := { PwrSt.reset with deepest := 4 }, pairs := (List.range 32).map fun p => (p, { Pair.starting with state := pairActive }), placer := { Placer.reset with moves := [(5, 2, 31)] } }
theorem witness_LoadsAndReplans_stranded :
    (strandSt.placer.replans = .grant 3 :: [] ∧ mRising 0 strandSt.loops = true ∧ (strandSt.loop 5).state ≠ .free ∧ (strandSt.loop 5).pair = noPair ∧
      strandSt.pairCode 2 = pairActive ∧ strandSt.fitsOn 2 (strandSt.loop 5) = true) ∧
    ((testSt.pair 4).check = true ∧ (loadSt [.tier 4 false]).placer.replans = .tier 4 false :: []) ∧
    (darkSt.placer.moves.find? (fun m => m.1 == 5) = some (5, 2, 31) ∧ (darkSt.pair 31).state = pairActive ∧ darkSt.pairCode 31 ≠ pairActive) ∧
    (95 * capOf 0 < 100 * { State.reset with hwk := { HwkSt.reset with busy := [[100000000000, 0, 0, 0]] } }.loadOf 0) := by decide
/-- A grant's re-plan places the stranded loop (R164). -/
theorem test_stranded : okk (exec (.replan .ok) strandSt) (fun t => (t.loop 5).pair == 2) = true ∧
    okk (exec .engineLoadCheck { State.reset with dtb := 100000000, hwk := { HwkSt.reset with busy := [[100000000000, 0, 0, 0]] } }) (fun t =>
      t.recd.handed.map (·.code) == [Ev.ENGINE_OVER] && t.regB Reg.PLC_STAT 4) = true := by decide
/-- An image of one loop of period 10 ms, LID 0, with 64 bytes of code and data (Tables 4.1 and 13.6), its load first in the queue. -/
def goodImage : Image := ⟨wordsAt [(0, 0x4D495847), (4, 0x30001), (8, 384), (12, 0x10001), (16, 64), (20, 128), (64, 0x80000), (68, 900),
  (72, 1000), (80, 64), (84, 256), (128, 192), (132, 64)], 384⟩
def placeSt : State :=
  { State.reset with
    placer := { Placer.reset with replans := [.load 3] }, act := [(bk 3 Reg.PLC_GQUOTA, 1)],
    pairs := [(2, { Pair.starting with state := pairActive })],
    cells := [(3, { Cell.empty with state := 1, loading := some goodImage })] }
/-- What IMAGE_PLACE plans with. -/
def planSt : State :=
  (placeSt.setPlacer { placeSt.placer with replans := [] }).setCell 3 { placeSt.cell 3 with loading := none, viaHap := false, state := 0 }
theorem witness_LoadsAndReplans_placed : placeSt.placer.replans = .load 3 :: [] ∧ (placeSt.cell 3).loading = some goodImage ∧
    ¬((placeSt.cell 3).state = 4 ∨ placeSt.shed 4 = true) ∧ goodImage.headerOk 3 = true ∧ (placeSt.cell 3).settled = 0 ∧
    ((planSt.freeLoops 3).planImage 3 goodImage).1 = loadPlaced := by decide +kernel
/-- The loop of the image is placed on the ACTIVE pair and awaits its period 0 (R153). -/
theorem test_placed : okk (exec (.imagePlace 3) placeSt) (fun t =>
    (t.loop 0).cell == 3 && (t.loop 0).pair == 2 && (t.loop 0).decl.dl == 900 && (t.loop 0).state == .awaiting &&
    (t.cell 3).image == some goodImage) = true := by decide +kernel
/-- An image whose header fails is not placed: CELL_LOAD says FORMAT (R169). -/
theorem test_place : okk (exec (.imagePlace 3) (loadSt [.load 3])) (fun t =>
    (t.cell 3).loading.isNone && (t.recd.handed.map fun e => (e.code, e.body)) == [(Ev.CELL_LOAD, [3, 2, 0]), (Ev.HAP_IMAGE, [3, 0, 2])]) = true := by decide

/-- Cell 0's loop 0, cell 3's loop 5; PLC_CSEL of both and PLC_LSEL of cell 0 name cell 3 and loop 5; cell 3 in a given state. -/
def cellSt (x : Cell) : State :=
  { State.reset with
    loops := [(0, { wLoop [] [] with cell := 0 }), (5, wLoop [] [])], cells := [(3, x)],
    act := [(bk 0 Reg.PLC_CSEL, 3), (bk 0 Reg.PLC_LSEL, 5), (bk 3 Reg.PLC_CSEL, 3), (bk 3 Reg.PLC_LSEL, 0), (bk 3 (Reg.PLC_GPAGE 1), 0xA0000)] }
def csel (s : State) (w : Who) : Nat := s.regF (bk (s.whoCell w) Reg.PLC_CSEL) 9 0
theorem witness_CellCommands :
    mRising 0 (cellSt Cell.empty).loops = true ∧ (cellSt Cell.empty).whoCell (.loop 0) = 0 ∧
    (cellSt Cell.empty).whoCell (.loop 5) = 3 ∧ csel (cellSt Cell.empty) (.loop 0) = 3 ∧ csel (cellSt Cell.empty) (.loop 5) = 3 ∧
    ((cellSt Cell.empty).cell 3).state = 0 ∧ ((cellSt { Cell.empty with state := 4 }).cell 3).state = 4 ∧
    ((cellSt { Cell.empty with state := 2 }).cell 3).state = 2 ∧
    (((cellSt { Cell.empty with state := 3, csusp := true }).cell 3).state = 3 ∧
      ((cellSt { Cell.empty with state := 3, csusp := true }).cell 3).csusp = true) ∧
    (cellSt Cell.empty).granted (.loop 0) Reg.PLC_CCMD = true ∧ (cellSt Cell.empty).granted (.loop 5) Reg.PLC_CCMD = true ∧
    (cellSt Cell.empty).fabCycle 1000 ≠ (cellSt Cell.empty).fabCycle 0 ∧ (csel State.reset (.loop 5) = 0) := by decide
/-- A reset of a running cell takes the next incarnation (R173); a suspend by another cell is NOPERM. -/
theorem test_cell : okk (exec (.cellReset (.loop 5)) (cellSt { Cell.empty with state := 2, inc := 0xFFFF })) (fun t =>
      (t.cell 3).state == 4 && (t.cell 3).inc == 0 && !(t.loop 5).inPeriod && (t.loop 0).inPeriod) = true ∧
    okk (exec (.cellSuspend (.loop 5)) (cellSt { Cell.empty with state := 2 })) (fun t =>
      t.reg (bk 3 Reg.PLC_CRES) == 2 && (t.cell 3).state == 2) = true := by decide

theorem witness_CellResetsEndAndLoopCommands :
    (((cellSt { Cell.empty with state := 4 }).cell 3).state = 4 ∧ (cellSt { Cell.empty with state := 4 }).cellPosted 3 = false ∧
      (cellSt { Cell.empty with state := 4 }).sameIncTag 3 = false) ∧
    ({ cellSt { Cell.empty with state := 4, unloading := true } with dtb := 10000 }.cellPosted 3 = false ∧
      (((cellSt { Cell.empty with state := 4, unloading := true }).cell 3).resetAt / 10000 + 1) * 10000 ≤ 10000) ∧
    (((cellSt Cell.empty).loop 5).state ≠ .free ∧ ((cellSt Cell.empty).loop 5).runs = true ∧ ((cellSt Cell.empty).loop 5).state ≠ .stopped) ∧
    ((cellSt Cell.empty).whoCell (.loop 5) ≠ 0 ∧ ((cellSt Cell.empty).regF (bk 3 Reg.PLC_LSEL) 12 0 = 0) ∧
      ((cellSt Cell.empty).loop 0).cell ≠ 3) ∧
    (({ cellSt Cell.empty with loops := [(5, { wLoop [] [] with state := .stopped, inPeriod := false })] }.loop 5).state = .stopped ∧
      (wLoop [] []).pair ≠ noPair ∧ (strandSt.loop 5).state = .stopped ∧ (strandSt.loop 5).pair2 = none ∧
      strandSt.pairCode 2 = pairActive ∧ strandSt.fitsOn 2 (strandSt.loop 5) = true) ∧
    ((cellSt Cell.empty).granted (.loop 0) Reg.PLC_LCMD = true ∧ (cellSt Cell.empty).granted (.loop 5) Reg.PLC_LCMD = true ∧
      (cellSt Cell.empty).granted (.loop 0) Reg.PLC_GSEL = true) ∧
    (State.reset.regB (stageOf grantPage) 2 = false ∧ State.reset.isPending grantPage = false) ∧
    ({ State.reset with pend := [(grantPage, ⟨0, 0⟩)] }.isPending grantPage = true) := by decide
/-- STOP of a loop in its period waits for the period's end (R176). -/
theorem test_stop : okk (exec (.loopStop (.loop 0)) (cellSt { Cell.empty with state := 2 })) (fun t =>
    (t.loop 5).stopReq && (t.loop 5).state == .running && t.reg (bk 0 Reg.PLC_LRES) == 1) = true := by decide

/-- A FILL of 64 bytes at offset 0x100 with 0x5A5A_5A5A: its descriptor lies at offset 0 of cell 3's shared data. -/
def fillDesc : List Word := [0x00020000, 64, 0, 0x20000100, 0x5A5A5A5A, 0, 0, 0]
def engSt (x : HwkSt) : State :=
  { State.reset with
    act := [(bk 3 (Reg.PLC_GPAGE 2), 8)],
    hwk := x, loops := [(0, { wLoop [] [] with cell := 0 }), (5, wLoop [] [])],
    cells := [(3, { Cell.empty with state := 2, mem := 1, shared := wordsAt (fillDesc.zipIdx.map fun e => (4 * e.2, e.1)) })] }
def fillTag (e : Option Nat) (ran : Bool) : Tag := ⟨true, false, 3, 0, 0, e, fillDesc, 0x20000000, 0, 0, 1, ran, 0, none⟩
def copyTag : Tag := { fillTag (some 0) false with desc := [0x00010000, 64, 0x20000000, 0x20000100, 0, 0, 0, 0] }
def queued : State := engSt { HwkSt.reset with tags := [(0, fillTag none false)], waiting := [0], credit := [(12, 300)] }
def running (t : Tag) : State := engSt { HwkSt.reset with tags := [(0, t)], engines := [(0, { Engine.idle with running := some 0 })] }
/-- T3 in force, the column engine frozen for it (R198). -/
def shedSt : State := { State.reset with pwr := { PwrSt.reset with deepest := 3 }, act := [(Reg.HWK_FSTAT, 0x01000000)] }
theorem witness_RequestsAreAcceptedOrRefused :
    ((engSt HwkSt.reset).submitCheck 3 0x20000000 ((engSt HwkSt.reset).otherFormat 3)).1 = resAccepted ∧
    ((engSt HwkSt.reset).tag 0).used = false ∧ (engSt HwkSt.reset).granted (.loop 5) Reg.HWK_SUBMIT = true ∧
    (engSt HwkSt.reset).granted (.loop 5) Reg.HWK_CANCEL = true ∧ (engSt HwkSt.reset).granted (.loop 0) Reg.HWK_FRZ = true ∧
    ((engSt HwkSt.reset).cell 3).state ≠ 4 ∧
    (((engSt HwkSt.reset).submitCheck 3 0x30000000 ((engSt HwkSt.reset).otherFormat 3)).1 ≠ resAccepted ∧
      ((engSt HwkSt.reset).submitCheck 3 0x30000000 ((engSt HwkSt.reset).otherFormat 3)).1 ≠ resNotag) ∧
    ((queued.tag 0).used = true ∧ (queued.tag 0).internal = false ∧ (queued.tag 0).cell = 3 ∧ (queued.tag 0).inc = (queued.cell 3).inc ∧
      queued.hwk.waiting.contains (queued.tag 0).head = true) ∧
    ((running (fillTag (some 0) false)).hwk.waiting.contains 0 = false) ∧ ((engSt HwkSt.reset).tag 1).used = false ∧
    ((engSt HwkSt.reset).whoCell (.loop 5) ≠ 0 ∧ (engSt HwkSt.reset).whoCell (.loop 0) = 0 ∧ State.reset.reg Reg.HWK_FRZ ≠ 1 &&& 0x7FF) ∧
    ({ State.reset with act := [(Reg.HWK_FRZ, 1)] }.engineFrozen 0 = true ∧ (State.reset.engine 0).running = none) ∧
    ((engSt { HwkSt.reset with engines := [(0, { Engine.idle with resetAt := some 0 })] }).engine 0).resetAt ≠ none ∧
    (shedSt.engineFrozen 8 = true ∧ (shedSt.engine 8).running = none ∧ (shedSt.engine 8).rest = [] ∧ shedSt.shed 3 = true ∧
      shedSt.regB Reg.HWK_FSTAT 24 = true ∧ shedSt.hwk.shedKinds.contains 1 = false) := by decide
/-- A submission takes tag 0 and writes QUEUED to its descriptor (R181, R184). -/
theorem test_submit : okk (exec (.hwkSubmit (.loop 5) ⟨0x20000000, []⟩) (engSt HwkSt.reset)) (fun t =>
    t.hwk.waiting == [0] && (t.cell 3).sharedWord 0x20 == 0x10000000) = true := by decide

/-- Every tag of the cells' share in use, and TAGLIM 0. -/
def tagSt (tags : SMap Tag) : State :=
  { engSt { HwkSt.reset with tags := tags } with act := [(bk 3 (Reg.PLC_GPAGE 2), 8), (Reg.HWK_CFG, 10)] }
def allTags (n : Nat) : SMap Tag := (List.range n).map fun i => (i, fillTag none false)
theorem allTags_used (n : Nat) : (tagSt (allTags n)).cellTags = n := by
  simp [State.cellTags, tagSt, engSt, allTags, fillTag, List.filter_map, Function.comp_def]
theorem witness_RequestsAreAcceptedOrRefused_tags :
    ((tagSt []).submitCheck 3 0x20000000 ((tagSt []).otherFormat 3)).1 = resNotag ∧
    (tagSt []).cellTags + ((tagSt []).submitCheck 3 0x20000000 ((tagSt []).otherFormat 3)).2.length ≤ 0xFC00 := by
  decide
theorem tagSt_check (ts : SMap Tag) : (tagSt ts).submitCheck 3 0x20000000 ((tagSt ts).otherFormat 3) = (resNotag, [fillDesc]) := by
  have h1 : (tagSt ts).cell 3 = (tagSt []).cell 3 := rfl
  have h2 : (tagSt ts).otherFormat 3 = (tagSt []).otherFormat 3 := rfl
  have h3 : (tagSt ts).tagLim = 0 := (rfl : (tagSt ts).tagLim = (tagSt []).tagLim).trans (by decide : (tagSt []).tagLim = 0)
  have h4 : (tagSt ts).hwk.shedKinds = [] := rfl
  unfold State.submitCheck
  dsimp only
  rw [h1, h2, h3, h4]
  simp only [Nat.zero_lt_succ, decide_true, Bool.or_true, ← Nat.add_assoc]
  decide
theorem tagSt_granted (ts : SMap Tag) : (tagSt ts).granted (.loop 5) Reg.HWK_SUBMIT = true ∧ ((tagSt ts).cell 3).state = 2 :=
  ⟨(rfl : (tagSt ts).granted (.loop 5) Reg.HWK_SUBMIT = (tagSt []).granted (.loop 5) Reg.HWK_SUBMIT).trans
    (by decide : (tagSt []).granted (.loop 5) Reg.HWK_SUBMIT = true), rfl⟩
theorem witness_RequestsAreAcceptedOrRefused_tagfull : (tagSt (allTags 0xFC00)).granted (.loop 5) Reg.HWK_SUBMIT = true ∧
    ((tagSt (allTags 0xFC00)).cell 3).state ≠ 4 ∧
    ((tagSt (allTags 0xFC00)).submitCheck 3 0x20000000 ((tagSt (allTags 0xFC00)).otherFormat 3)).1 = resNotag ∧
    0xFC00 < (tagSt (allTags 0xFC00)).cellTags +
      ((tagSt (allTags 0xFC00)).submitCheck 3 0x20000000 ((tagSt (allTags 0xFC00)).otherFormat 3)).2.length := by
  rw [tagSt_check, allTags_used, (tagSt_granted _).1, (tagSt_granted _).2]
  exact ⟨rfl, by decide, rfl, Nat.lt_succ_self _⟩

/-- A log line of the recorder waits for engine 9 under a reserved tag (R181, R187). -/
def logWaits : State := engSt { HwkSt.reset with tags := [(65280, { fillTag none false with internal := true, kind := 2, op := some .logLine })], iwaiting := [65280] }
theorem witness_CreditsAndGrants :
    (State.reset.dtb < State.reset.hwk.nextRefill) ∧
    ({ State.reset with dtb := 100000 }.hwk.nextRefill ≤ 100000 ∧ (∀ p ∈ hwkPages, mhas p State.reset.pend = false) ∧
      State.reset.hwk.waiting = [] ∧ State.reset.hwk.iwaiting = []) ∧
    ((kindEngines 0).find? queued.engineFree = some 0 ∧ queued.select 0 = .cellHead 0) ∧
    (State.reset.select 3 = .nothing) ∧ ((queued.tag 0).head = 0 ∧ (queued.tag 0).internal = false ∧ (queued.tag 0).engine = none) ∧
    ((kindEngines 2).find? logWaits.engineFree = some 9 ∧ logWaits.select 2 = .internal 65280) := by decide
/-- The grant takes the lowest free engine and 256 of the credit (R188). -/
theorem test_grant : okk (exec (.engineGrant ⟨0, .ok⟩) queued) (fun t =>
    (t.engine 0).running == some 0 && t.hwk.waiting == [] && t.credit 3 0 == 44) = true := by decide

/-- The first of a locked sequence of two has been carried out. -/
def seqSt : State :=
  engSt { HwkSt.reset with
    tags := [(0, { fillTag (some 0) true with count := 2 }), (1, { fillTag (some 0) false with seq := 1, count := 2 })],
    engines := [(0, { Engine.idle with running := some 0, rest := [1] })] }
theorem witness_TransfersRunToTheirEnd :
    (running (fillTag (some 0) false)).mayRun 0 0 2 = true ∧
    ((running copyTag).mayRun 0 0 1 = true ∧
      ∀ i, i < 16 → ((running copyTag).dmaRead 3 (0x20000000 + 4 * i)).2.2 = false) ∧
    ({ running copyTag with cells := [(3, { Cell.empty with state := 2, mem := 1, badWords := [1] })] }.dmaRead 3 0x20000004).2.2 = true ∧
    ((running (fillTag (some 0) false)).mayRun 0 0 1 = false ∧ (running copyTag).mayRun 0 0 2 = false) ∧
    ((running (fillTag (some 0) false)).isRunning 0 = true ∧ (running (fillTag (some 0) true)).isRunning 0 = true ∧
      ((running (fillTag (some 0) true)).tag 0).ran = true ∧ ((running (fillTag (some 0) true)).tag 0).op = none ∧
      ((running (fillTag (some 0) true)).tag 0).internal = false ∧ ((running (fillTag (some 0) true)).engine 0).rest = [] ∧
      ((running (fillTag (some 0) true)).cell 3).inShared (0x20000000 + 0x20) 12 = true) ∧
    (((running (fillTag (some 0) true)).engine 0).since + 4 * tmax (engineKind 0) ≤ 1000000000 ∧
      ¬ ((running (fillTag (some 0) true)).engine 0).since + 4 * tmax (engineKind 0) ≤ 0) ∧
    ((running (fillTag (some 0) true)).emitWaits ((running (fillTag (some 0) true)).tag 0) = false ∧
      (running (fillTag (some 0) true)).shed 3 = false ∧ ((running (fillTag (some 0) true)).tag 0).err = 0 ∧
      (seqSt.engine 0).rest = 1 :: [] ∧ ((seqSt.tag 0).op = none ∧ (seqSt.tag 0).ran = true ∧ seqSt.isRunning 0 = true)) := by decide
/-- A FILL writes its pattern to the end and no further (R183). -/
theorem test_fill : okk (exec (.xferFill 0) (running (fillTag (some 0) false))) (fun t =>
    (t.cell 3).sharedWord 0x100 == 0x5A5A5A5A && (t.cell 3).sharedWord 0x13C == 0x5A5A5A5A && (t.cell 3).sharedWord 0x140 == 0) = true ∧
    okk (exec (.xferFill 0) (running (fillTag (some 0) false))) (fun t => (t.tag 0).ran && (t.tag 0).err == 0) = true := by decide
/-- The end of a transaction frees its tag and writes DONE (R182). -/
theorem test_complete : okk (exec (.transactionComplete 0) (running (fillTag (some 0) true))) (fun t =>
    (t.cell 3).sharedWord 0x20 == 0x30000000 && !(t.tag 0).used && (t.engine 0).running == none) = true ∧
    okk (exec (.engineWatchdog 0) { running (fillTag (some 0) false) with dtb := 1000000000 }) (fun t =>
      (t.cell 3).sharedWord 0x20 == 0x41000000 && !(t.tag 0).used && t.regB Reg.HWK_STAT 30) = true := by decide

/-! ### Front end -/

/-- Channel 16 converts input 64 in mode MA (4 to 20 mA) with gain 1.0; channel 17 input 68 in mode DIEL with spot 0. -/
def feSt (d : Nat) (chans : SMap FeChan) : State :=
  { State.reset with
    dtb := d, fe := { FeSt.reset with chans := chans },
    act := [(Reg.FE_INCFG 16 0, 0x60000000), (Reg.FE_INCFG 17 0, 0x10000000), (Reg.FE_INSET 17 0, 0x00010000),
      (Reg.FE_CHCFG 16, 1), (Reg.FE_CHCFG 17, 1), (corrKey 64 0, 1), (corrKey 64 1, w1)] }
def slotOf (i : Nat) (rep ovl : List Nat) : FeChan := { FeChan.idle with slot := some ⟨i, 0, 1000, 0, rep, ovl, false, false, none⟩ }
def ma10 : FeMeas := ⟨0x41200000, 0, 0, [], false, false⟩
theorem witness_ScansAndConversions :
    (((feSt 0 [(16, slotOf 64 [] [])]).feChan 16).slot ≠ none) ∧
    (((feSt 0 []).feChan 16).slot = none ∧ ((feSt 0 []).feChan 16).freeAt ≤ (feSt 0 []).dtb ∧ (feSt 0 []).onSafe = false ∧
      fld ((feSt 0 []).reg (feCfgK 64)) 31 28 ≠ 1) ∧
    (({ feSt 0 [] with fe := { FeSt.reset with chans := [(16, { FeChan.idle with todo := [64] })] } }.feChan 16).todo.filter
      (feSt 0 []).feEligible = 64 :: []) ∧
    ((feSt 0 [(16, slotOf 64 [] [])]).dtb < 1000) ∧
    (1000 ≤ (feSt 1000 [(16, slotOf 64 [] [])]).dtb ∧ (feSt 1000 [(16, slotOf 64 [] [])]).isPending (fePage 16) = false ∧
      (({ feSt 1000 [] with fe := { FeSt.reset with ins := [(64, { FeInput.reset with discard := 1 })] } }.feIn 64).discard > 0) ∧
      ((feSt 1000 []).feIn 64).discard = 0 ∧ (feSt 1000 []).feModeOf 64 = 6 ∧ ((feSt 1000 []).feIn 64).hidx < 32 ∧
      (feSt 1000 []).fe.cal.sel ≠ some 64 ∧ (feSt 1000 []).refUsable = true) ∧
    (fpLtRat (addF (mulF ((feSt 1000 []).feCorr 64 1) ma10.raw) ((feSt 1000 []).feCorr 64 2)) 18 5 = false ∧
      fpLtRat (addF (mulF ((feSt 1000 []).feCorr 64 1) ma10.raw) ((feSt 1000 []).feCorr 64 2)) 21 1 = true ∧
      fpLtRat ma10.cmv (cmWindow 6 ((feSt 1000 []).reg (feCmK 64))).1 10 = false ∧
      fpGtRat ma10.cmv (cmWindow 6 ((feSt 1000 []).reg (feCmK 64))).2 10 = false) ∧
    ((feSt 0 []).feModeOf 68 = 1 ∧ ((feSt 0 []).feSpots 68).contains 0 = true ∧ ([0] : List Nat).contains 0 = true ∧
      ([] : List Nat).contains 0 = false) := by decide
/-- A dielectric input of one spot, both frequencies of its profile that spot. -/
def dielSt : State := feSt 1000 [(17, slotOf 68 [] [])]
theorem witness_ScansAndConversions_dielectric :
    (dielSt.feModeOf 68 = 1 ∧ (dielSt.feIn 68).discard = 0 ∧ (dielSt.feIn 68).hidx < 32 ∧ (slotOf 68 [] []).slot.map (·.ref) = some 0 ∧
      dielSt.isPending (fePage 17) = false ∧ dielSt.onSafe = false ∧ (1000 : Nat) ≤ dielSt.dtb) ∧
    (({ ma10 with spots := [[]] } : FeMeas).spots.length = (dielSt.feSpots 68).length ∧ (dielSt.feSpots 68)[0]? = some 0) ∧
    (let P := dielSt.profileWords (feProf (dielSt.reg (feCfgK 68)))
     (dielSt.feSpots 68).contains (fld (P.getD 25 0) 3 0) = true ∧ (dielSt.feSpots 68).contains (fld (P.getD 25 0) 7 4) = true) := by decide
/-- An ended conversion of 10.0 mA writes its entry VALID with SEQ 1 (R219). -/
theorem test_conversion : okk (exec (.conversionBoundary 16 ma10) (feSt 1000 [(16, slotOf 64 [] [])])) (fun t =>
    t.fiWord (fiFe 64) == 0x41200000 && bitAt (t.fiWord (fiFe 64 + 2)) 0 && t.fiWord (fiFe 64 + 3) == 1) = true := by decide
theorem test_slot : okk (exec (.inputSlotStart 16) (feSt 0 [(16, { FeChan.idle with todo := [64] })])) (fun t =>
    (t.feChan 16).slot.map (·.input) == some 64) = true := by decide

/-- A probe in socket 3; references at 2.5 V, or the selected one off. -/
def plugSt : State := { feSt 0 [(3, slotOf 14 [] [])] with act := [(Reg.FE_STAT 3, 0x80000000), (Reg.FE_REFCFG, 4), (Reg.FE_REFSTAT, 0)] }
def secSt (count : Nat) : State := { plugSt with dtb := 1000000000, act := [(Reg.FE_REFCFG, 4), (Reg.FE_REFSTAT, BitVec.ofNat 32 count)] }
theorem witness_ProbesAndReferences :
    (plugSt.regB (Reg.FE_STAT 3) 31 = true ∧ plugSt.regB (Reg.FE_STAT 2) 31 = false ∧ plugSt.dielShed = false ∧
      (plugSt.feChan 3).slot ≠ none ∧ plugSt.dtb < mget 0 2 plugSt.fe.opened + 200010000 ∧
      mget 0 2 { plugSt with dtb := 200010000 }.fe.opened + 200010000 ≤ { plugSt with dtb := 200010000 }.dtb) ∧
    (plugSt.dtb < plugSt.fe.nextAvg ∧ (secSt 0).fe.nextAvg ≤ (secSt 0).dtb ∧ (∀ q, q < 3 → (secSt 0).refState q ≠ 1)) ∧
    (devAbove ((secSt 0).refDev (refVolts 2500 2500 2500) (secSt 0).refSel) 150 = false) ∧
    (devAbove ((secSt 59).refDev (refVolts 2510 2500 2500) (secSt 59).refSel) 150 = true ∧
      (secSt 59).refDecidable (refVolts 2510 2500 2500) (secSt 59).refSel = true ∧ (secSt 58).regF Reg.FE_REFSTAT 7 0 < 59 ∧
      (secSt 59).regF Reg.FE_REFSTAT 7 0 = 59 ∧ (secSt 59).refBetter (refVolts 2510 2500 2500) (secSt 59).refSel = some 1 ∧
      (secSt 59).refSel < 3) ∧
    (2 ≤ { secSt 0 with act := [(Reg.FE_REFSTAT, 0x20000)] }.refState 0) ∧
    ((secSt 0).refState 0 < 2 ∧ 0 ∈ (secSt 0).refsFitted ∧ (secSt 0).refSel = 0 ∧ (secSt 0).refSel ≠ 1 ∧
      (secSt 0).refBetter (refVolts 0 2500 2500) 0 = some 1) := by decide
/-- After 60 averages beyond 0.15 % the module selects reference 1 and reference 0 is in DRIFT (R228). -/
theorem test_references : okk (exec (.refAverage 2510 2500 2500) (secSt 59)) (fun t =>
      t.refSel == 1 && t.refState 0 == 1 && t.recd.handed.map (·.code) == [Ev.FE_REF_SWITCH]) = true ∧
    okk (exec (.refFail 0 true 0 2500 2500) (secSt 0)) (fun t => t.refSel == 1 && t.refState 0 == 2) = true := by decide
theorem test_probe : okk (exec (.probeRemoved 3) plugSt) (fun t =>
      !t.regB (Reg.FE_STAT 3) 31 && t.fiWord (fiFe 12) == fpNaN && bitAt (t.fiWord (fiFe 13 + 2)) 12) = true ∧
    okk (exec (.probeInserted 2) { plugSt with dtb := 200010000 }) (fun t => t.regB (Reg.FE_STAT 2) 31 && (t.feIn 8).discard == 1) = true := by decide

/-- Input 64 selected with points 4.0 and 20.0 measured as given, and FE_CALSTAT.STATE given. -/
def calSt (st : Nat) (c : FeCal) : State :=
  { feSt 0 [] with
    fe := { FeSt.reset with cal := c },
    act := [(Reg.FE_INCFG 16 0, 0x60000000), (Reg.FE_CALSTAT, BitVec.ofNat 32 (st * 0x10000000)), (Reg.FE_CALREF, 0x40800000)] }
def pt (raw ref : Word) : FePoint := ⟨[(raw, 0)], ref, 0⟩
def both (hi : Word) : FeCal := { FeCal.idle with sel := some 64, lo := some (pt 0x40800000 0x40800000), hi := some (pt hi 0x41A00000) }
def measured (raws : List Word) : FeCal := { FeCal.idle with sel := some 64, measuring := some false, samples := raws.map fun r => [(r, 0)] }
theorem witness_CalibrationOfAnInput :
    ((calSt 1 (measured [])).calBusy = true ∧ (calSt 3 (both 0x41A00000)).calBusy = true ∧ (calSt 3 (both 0x41A00000)).calState = 3 ∧
      (calSt 0 FeCal.idle).calBusy = false ∧ (calSt 0 FeCal.idle).calState ≠ 3 ∧ (calSt 0 FeCal.idle).granted (.loop 5) Reg.FE_CALSEL = true) ∧
    (bitAt (0x800000BF : Word) 31 = true ∧ fld (0x800000BF : Word) 7 0 ≤ 191 ∧ 191 < fld (0x800000C0 : Word) 7 0) ∧
    ((calSt 2 (both 0x41A00000)).calBusy = false ∧ ((calSt 2 (both 0x41A00000)).nvSet 0).storing.isSome = false ∧
      (calSt 2 (both 0x41A00000)).feModeOf 64 ≠ 1) ∧
    ((calSt 2 (both 0x41A00000)).plainCorr 64 (pt 0x40800000 0x40800000) (pt 0x41A00000 0x41A00000) =
      some [(corrKey 64 0, 1), (corrKey 64 1, 0x3F800000), (corrKey 64 2, 0)]) ∧
    ((calSt 2 (both 0x41000000)).plainCorr 64 (pt 0x40800000 0x40800000) (pt 0x41000000 0x41A00000) = none) ∧
    ((measured (List.replicate 15 w1)).samples.length < 16 ∧ 16 ≤ (measured (List.replicate 16 w1)).samples.length ∧
      (calSt 1 FeCal.idle).calUnstable 64 (measured (List.replicate 16 w1)).samples = false ∧
      (calSt 1 FeCal.idle).calUnstable 64 (measured (0 :: List.replicate 15 w1)).samples = true) ∧
    (fld (0 : Word) 3 0 = 0 ∧ 4 < fld (5 : Word) 3 0) := by decide
/-- Sixteen stable conversions hold the low point (R234); a COMMIT with gain 1 goes to STORING (R235); one with gain 4 ends it with RES 3. -/
theorem test_calibration : okk (exec .calPointDone (calSt 1 (measured (List.replicate 16 w1)))) (fun t =>
      t.fe.cal.lo == some ⟨[(w1, 0)], 0x40800000, 0⟩ && t.calState == 2) = true ∧
    okk (exec (.commit (.loop 0)) (calSt 2 (both 0x41A00000))) (fun t => t.calState == 3 && mget 0 (corrKey 64 1) t.fe.newCorr == w1) = true ∧
    okk (exec (.commit (.loop 0)) (calSt 2 (both 0x41000000))) (fun t => t.calState == 0 && t.regF Reg.FE_CALSTAT 27 24 == 3) = true := by
  decide

/-! ### Column -/

/-- Column 3 in WARM and configured with the fit of no region; every input of it invalid, or a prediction asked of it. -/
def colSt (d : Nat) (st : Nat) : State :=
  { State.reset with
    dtb := d, act := [(Reg.COL_CCFG 3, 0x80000000)], col := { ColSt.reset with cols := [(3, { Col.off with state := st })] } }
/-- The same column with every input in use valid. -/
def goodCol : State :=
  { State.reset with
    dtb := 1000000000, act := [(Reg.COL_CCFG 3, 0x80000000), (Reg.COL_AGE 3, 100), (Reg.COL_SRC 3, 0x4140), (Reg.COL_TPSRC 3, 0x42)] ++
      (List.range 6).map (fun x => (Reg.COL_IN 3 x, w1)),
    image := ([64, 65, 66] : List Nat).flatMap fun e => [(fiFe e, w1), (fiFe e + 2, 1), (fiFe e + 4, 0x3B9ACA00)],
    col := { ColSt.reset with cols := [(3, { Col.off with state := 3, written := List.replicate 6 (some 1000000000) })] } }
def predSt (st : Nat) : State :=
  { running { fillTag (some 9) false with kind := 1, desc := [0x00010000, 0, 0, 0x20000100, 3, 0, 0, 0] } with
    col := { ColSt.reset with cols := [(3, { Col.off with state := st })] },
    hwk := { HwkSt.reset with
      tags := [(0, { fillTag (some 9) false with kind := 1, desc := [0x00010000, 0, 0, 0x20000100, 3, 0, 0, 0] })],
      engines := [(9, { Engine.idle with running := some 0 })] } }
theorem witness_ColumnUpdateAndPrediction :
    ((colSt 0 1).dtb < (colSt 0 1).col.nextUpd) ∧
    ((colSt 1000000000 1).col.nextUpd ≤ (colSt 1000000000 1).dtb ∧ (colSt 1000000000 1).shed 3 = false ∧
      (colSt 1000000000 1).colEn 3 = true ∧ (∀ e, e < 16 → e ≠ 3 → (colSt 1000000000 1).colEn e = false) ∧
      (∀ e, e < 16 → mhas (colPage e) (colSt 1000000000 1).pend = false ∧ mhas (colFitPage e) (colSt 1000000000 1).pend = false) ∧
      ((colSt 1000000000 1).column 3).layers.length = 256 ∧ (colSt 1000000000 1).colInvalid 3 ≠ 0) ∧
    (goodCol.col.nextUpd ≤ goodCol.dtb ∧ goodCol.colEn 3 = true ∧ (∀ e, e < 16 → e ≠ 3 → goodCol.colEn e = false) ∧
      (goodCol.column 3).layers.length = 256 ∧ goodCol.colInvalid 3 = 0) ∧
    (goodCol.granted (.loop 5) (Reg.COL_IN 15 5) = true) ∧
    ((predSt 0).mayRun 0 1 1 = true ∧ ((predSt 0).column ((descArg ((predSt 0).tag 0).desc 0).toNat % 16)).state = 0 ∧
      ((predSt 1).column ((descArg ((predSt 1).tag 0).desc 0).toNat % 16)).state = colWarm) := by decide
/-- A column without inputs goes to HOLD with CONF 0 (R248, R259); an input register is written at once. -/
theorem test_column : okk (exec (.columnUpdate 70) (colSt 1000000000 1)) (fun t =>
      (t.column 3).state == colHold && t.reg (Reg.COL_SCONF 3) == 0 && t.reg Reg.COL_UTIME == 70 && t.col.nextUpd == 2000000000) = true ∧
    okk (exec (.columnInputWrite (.loop 0) 3 0 w1) (colSt 5 1)) (fun t =>
      t.reg (Reg.COL_IN 3 0) == w1 && (t.column 3).written.getD 0 none == some 5) = true := by decide
/-- PREDICT of a column that does not run ends with ERR 3. -/
theorem test_predict : okk (exec (.predict 0) (predSt 0)) (fun t => (t.tag 0).ran && (t.tag 0).err == 3) = true := by decide

/-! ### Lathline and CAN -/

/-- Trunk 1 enabled, with its registers given beside. -/
def trkSt (d : Nat) (x : Trunk) (act : SMap Word) : State :=
  { State.reset with dtb := d, trunks := [(1, x)], act := [(Reg.LAT_CFG 1, 0x80000000)] ++ act }
/-- Entry 0 holds a NODE_CMD, entry 1 a RATE and entry 15 a private frame of class 14; all owned where asked. -/
def entries (owned : Word) : SMap Word :=
  [(txKey 1 0 0, 0x88100005), (txKey 1 0 4, 0x10), (txKey 1 1 0, 0x88100004), (txKey 1 1 4, 5), (txKey 1 15 0, 0x08E00001),
   (Reg.LAT_TXST 1, owned)]
def sending (src : LatSrc) : Trunk := { Trunk.reset with sel := some src }
def sweepAt (m : Nat) : LatSweep := ⟨true, m, 5, 0, none⟩
theorem witness_TrunksSelectAndSend :
    ((trkSt 0 (sending .time) []).isPending (latPage 1) && (trkSt 0 (sending .time) []).frameReached (latPage 1)) = false ∧
    (let t := { trkSt 20000 Trunk.reset [] with pend := [(latPage 1, ⟨0, 0⟩)] }; (t.isPending (latPage 1) && t.frameReached (latPage 1)) = true) ∧
    ((trkSt 0 (sending .time) []).trunk 1).sel ≠ none ∧ (trkSt 0 Trunk.reset []).latOffers 1 = [] ∧
    ((trkSt 0 { Trunk.reset with due := true } (entries 0x80030000)).latOffers 1 =
      [] ++ (0, .time) :: [(0x100005, .entry 0), (0x100004, .entry 1), (0xE00001, .entry 15)]) ∧
    ((trkSt 0 Trunk.reset (entries 0x80030000)).latOffers 1 =
      [(0x100005, .entry 0)] ++ (0x100004, .entry 1) :: [(0xE00001, .entry 15)]) ∧
    ((trkSt 9999999 Trunk.reset []).dtb < Trunk.reset.nextTime ∧ Trunk.reset.nextTime ≤ (trkSt 10000000 Trunk.reset []).dtb) ∧
    (sending .engine).sel ≠ some .time ∧ (sending .time).sel ≠ some .engine ∧
    ({ sending .engine with cmd := some (.census 0 63 true) }.cmd = some (.census 0 63 true)) ∧
    ({ sending .engine with cmd := some (.sweepOpen true 5 256 100 7) }.cmd = some (.sweepOpen true 5 256 100 7)) ∧
    ({ sending .engine with cmd := some .sweepClose, sweep := some (sweepAt 4) }.sweep = some (sweepAt 4) ∧
      (sweepAt 4).closing.getD 0 < 4) ∧
    (Trunk.reset.sweep = none) ∧
    ((trkSt 0 Trunk.reset (entries 0)).txArb 1 0 / 0x100000 = 1 ∧ (trkSt 0 Trunk.reset (entries 0)).txByte0 1 0 = 0x10 ∧
      (trkSt 0 Trunk.reset (entries 0)).txArb 1 1 / 0x100000 = 1 ∧ (trkSt 0 Trunk.reset (entries 0)).txByte0 1 1 = 5 ∧
      (trkSt 0 Trunk.reset (entries 0)).txArb 1 15 / 0x100000 = 14) ∧
    ((trkSt 0 Trunk.reset []).latQuiet 1 = false ∧ (trkSt 5 Trunk.reset [(Reg.LAT_STAT 1, 0x20000000)]).latQuiet 1 = true) := by decide
/-- The lowest arbitration field is selected (R310); a RATE begins the quiet interval (R330). -/
theorem test_selection : okk (exec (.frameSelection 1) (trkSt 0 Trunk.reset (entries 0x80030000))) (fun t =>
      (t.trunk 1).sel == some (.entry 1)) = true ∧
    okk (exec (.rate 1 77) (trkSt 5 (sending (.entry 1)) (entries 0x80030000))) (fun t =>
      t.latQuiet 1 && (t.trunk 1).quietEnd == 1000005 && !t.txOwned 1 1 && t.reg (txKey 1 1 2) == 0x20010000 && t.reg (txKey 1 1 3) == 77) =
      true := by decide
/-- A TIME frame selected: SEQ, the stamp before, flags and rate code (Table 8.15); sent, its stamp; a census sent. -/
theorem test_time : okk (exec (.frameSelection 1) (trkSt 5 { Trunk.reset with due := true, seq := 0x0201, prev := 3, prevOk := true } []))
      (fun t => (t.trunk 1).sel == some .time && (t.trunk 1).pay == [1, 2, 3, 0, 0, 0, 0, 0, 0, 0, 1, 0]) = true ∧
    okk (exec (.time 1 9) (trkSt 5 { sending .time with pay := List.replicate 12 7 } [])) (fun t =>
      (t.trunk 1).out.map (·.payload) == some (List.replicate 12 7) && (t.trunk 1).sent == some 9) = true ∧
    okk (exec (.census 1 9) (trkSt 5 { sending .engine with cmd := some (.census 0 63 true) } [])) (fun t =>
      (t.trunk 1).out.map (·.payload) == some [1, 1, 0, 63, 0, 0, 0, 0] && t.regB (Reg.LAT_STAT 1) 27) = true := by decide

theorem witness_TransmitEntries :
    (bitAt (0x8000 : Word) 15 = true ∧ bitAt (0x8000 : Word) 0 = false ∧ (trkSt 0 Trunk.reset (entries 0)).txOwned 1 15 = false ∧
      (trkSt 0 Trunk.reset (entries 0)).txCheck 1 15 = 0 ∧ (trkSt 0 Trunk.reset (entries 0)).txCheck 1 2 ≠ 0 ∧
      (trkSt 0 Trunk.reset (entries 0x80030000)).txOwned 1 15 = true) ∧
    ((sending (.entry 15)).sel = some (.entry 15) ∧ (sending (.entry 0)).sel ≠ some (.entry 15)) ∧
    (({ sending (.entry 15) with marked := [15] } : Trunk).marked.contains 15 = true ∧ (sending (.entry 15)).marked.contains 15 = false ∧
      (trkSt 0 Trunk.reset [(txKey 1 15 1, 1)]).txOneshot 1 15 = true ∧ (trkSt 0 Trunk.reset []).txOneshot 1 15 = false) ∧
    ((∀ a ∈ [Reg.LAT_TXQ 31, Reg.LAT_TXCAN 31, Reg.LAT_RXACK 31], (trkSt 0 Trunk.reset []).granted (.loop 0) a = true)) ∧
    ((sending .time).sel ≠ none ∧ ∀ k, k < 16 → (sending .time).sel ≠ some (.entry k)) := by decide
/-- Entry 15 is queued; entry 2, of class 0, is rejected with reason 1 (R313). -/
theorem test_queue : okk (exec (.latTxqWrite (.loop 0) 1 0x8004) (trkSt 0 Trunk.reset (entries 0))) (fun t =>
      t.txOwned 1 15 && t.reg (txKey 1 15 2) == 0x10000000 && t.reg (txKey 1 2 2) == 0x41000000) = true ∧
    okk (exec (.latTxcanWrite (.loop 0) 1 0x8000) (trkSt 0 Trunk.reset (entries 0x80030000))) (fun t =>
      !t.txOwned 1 15 && t.reg (txKey 1 15 2) == 0x31000000) = true := by decide

/-- A frame of a class with a payload; trunk 1 accepts all into its queue (LAT_CFG.RXALL) and holds what is given. -/
def latF (cls low : Nat) (p : List Byte) : LatFrame := ⟨(classBrs cls).getD true, false, cls * 0x100000 + low, p, 1234⟩
/-- A frame as it stands on the wire, acknowledged. -/
def wireOf (f : LatFrame) : List Bool := (frameBits f).set (ackPlace f) false
def hearSt (x : Trunk) (act : SMap Word) : State :=
  { State.reset with dtb := 0x50000, trunks := [(1, x)], act := [(Reg.LAT_CFG 1, 0x88000000)] ++ act }
def swept : Trunk := { Trunk.reset with sweep := some (sweepAt 4), sweepNum := 9 }
def counted : Trunk := { Trunk.reset with census := some ⟨0, 63, 7, 0, none, []⟩, censusNum := 2 }
/-- Node 0x0102 of a sweep report: 2.5 degrees, 0.5 moisture, both valid, sweep 9. -/
def hot9 : LatFrame := latF 3 0 [1, 2, 160, 0, 32, 0, 3, 9]
def zeros (n : Nat) : List Byte := List.replicate n 0
def offAct (rec : Word) : SMap Word := [(Reg.LAT_STAT 1, 0x80000000 ||| rec)]
/-- The frame read, of each class, as a node sends it; what it hears; bits of an error as a receiver and as the sender of a TIME frame. -/
theorem witness_TrunksReceive_frames :
    (∀ f ∈ [latF 5 0 [0], latF 15 0xFFFFF [], hot9, latF 2 0 (zeros 8), latF 8 0 (List.replicate 64 0x80), latF 8 0 (zeros 64),
      latF 4 5 [1, 2, 3, 0, 1, 0, 0, 0], latF 4 0 (2 :: zeros 7), latF 4 0 (3 :: zeros 7)],
      latRead (wireOf f) 1234 = .frame f ∧ (hearSt Trunk.reset []).latListens 1 (wireOf f) = true) ∧
    ((hearSt Trunk.reset []).latSending 1 0 = none ∧ latRead (List.replicate 6 false) 0 = .error lecStuff 6 none ∧
      (hearSt Trunk.reset []).latTec 1 ≤ 255) ∧
    (((hearSt { sending .time with pay := zeros 12 } []).latSending 1 0).map (fun g => latSend g [true] 0) = some (.error lecBit 1)) ∧
    latRead [false] 0 = .more := by decide +kernel
/-- A frame of class 5 with the payload byte 0x55 is as Table 8.6 and R282 and R283 lay it out, bit by bit. -/
theorem test_frame_bits : headBits (latF 5 1 [0x55]) =
      [false, false, true, false, true] ++ List.replicate 19 false ++ [true] ++ [true, false, true, false] ++ [false, false, false, false, false, false, true] ∧
    (stuffed (headBits (latF 5 1 [0x55]))).take 14 = [false, false, true, false, true, false, false, false, false, false, true, false, false, false] ∧
    stuffCount 3 = [false, true, false, true] ∧ crc24 [] = 0xFFFFFF := by decide
theorem witness_TrunksReceive :
    ((hearSt Trunk.reset []).latRuns 1 && !(hearSt Trunk.reset []).latOff 1) = true ∧
    ((hearSt Trunk.reset (offAct 0)).latRuns 1 && !(hearSt Trunk.reset (offAct 0)).latOff 1) = false ∧
    ((trkSt 0 Trunk.reset []).latFilter 1 0 = none ∧ (hearSt Trunk.reset []).latFilter 1 0 = some 0xFF ∧
      (hearSt Trunk.reset [(Reg.LAT_RXST 1, 31)]).regF (Reg.LAT_RXST 1) 5 0 < 32 ∧
      32 ≤ (hearSt Trunk.reset [(Reg.LAT_RXST 1, 32)]).regF (Reg.LAT_RXST 1) 5 0 ∧
      (hearSt Trunk.reset [(Reg.LAT_RXST 1, 32)]).regB (Reg.LAT_STAT 1) 5 = false) ∧
    ((latF 5 0 []).arb / 0x100000 = 5 ∧ (latF 15 0xFFFFF []).arb / 0x100000 = 15 ∧ hot9.arb / 0x100000 = 3) ∧
    (swept.sweep = some (sweepAt 4) ∧ (sweepAt 4).wet ≠ false ∧ payAt hot9 7 1 = swept.sweepNum ∧ payAt (latF 3 0 []) 7 1 ≠ swept.sweepNum) ∧
    ((hearSt swept [(Reg.LAT_SWSTAT 1, 255)]).regF (Reg.LAT_SWSTAT 1) 8 0 < 256) ∧
    (counted.census = some ⟨0, 63, 7, 0, none, []⟩ ∧ payAt (latF 8 0 (List.replicate 64 0x80)) 0 4 / 2 ^ 31 % 2 = 1 ∧
      payAt (latF 8 0 (zeros 64)) 60 4 / 2 ^ 31 % 2 = 0 ∧
      bitAt ({ hearSt counted [] with image := [(fiNode 32768 + 2, 1)] }.fiWord (fiNode (32768 * 1 + 0) + 2)) 0 = true) ∧
    (payAt (latF 4 0 [1, 2]) 0 1 = 1 ∧ payAt (latF 4 0 [1, 2]) 1 1 = counted.censusNum ∧ payAt (latF 4 0 [1, 3]) 1 1 ≠ counted.censusNum ∧
      payAt (latF 4 0 [2]) 0 1 = 2 ∧ payAt (latF 4 0 [3]) 0 1 ≠ 1 ∧ payAt (latF 4 0 [3]) 0 1 ≠ 2) ∧
    (State.reset.latEn 1 = false ∧ (hearSt Trunk.reset []).latEn 1 = true ∧ (hearSt Trunk.reset []).latOff 1 = false ∧
      (hearSt Trunk.reset []).latTec 1 + 8 ≤ 255 ∧ 255 < (hearSt Trunk.reset [(Reg.LAT_ERR 1, 0x00F80000)]).latTec 1 + 8 ∧
      (hearSt Trunk.reset []).latTec 1 ≤ 255) ∧
    ((hearSt Trunk.reset (offAct 0)).latOff 1 = true ∧ (hearSt Trunk.reset (offAct 0)).regB (Reg.LAT_STAT 1) 26 = false ∧
      (hearSt Trunk.reset (offAct 0x04000000)).latOff 1 = true ∧ (hearSt Trunk.reset (offAct 0x04000000)).regB (Reg.LAT_STAT 1) 26 = true) ∧
    ({ hearSt Trunk.reset (offAct 0x04000000) with dtb := 100000000 }.regB (Reg.LAT_STAT 1) 26 = true ∧
      0 + 128 * 11 * (8000 / 2 ^ (hearSt Trunk.reset []).regF (Reg.LAT_BTA 1) 31 30) ≤ 100000000) := by decide
/-- With 32 records in the queue a frame is lost and LAT_RX_OVERFLOW recorded (R319). -/
theorem test_full_queue : okk (exec (.reply 1 ⟨wireOf (latF 5 0 [0]), 1234⟩) (hearSt Trunk.reset [(Reg.LAT_RXST 1, 32)])) (fun t =>
    t.reg (Reg.LAT_RXLOST 1) == 1 && t.regF (Reg.LAT_RXST 1) 5 0 == 32 && t.recd.handed.map (·.code) == [Ev.LAT_RX_OVERFLOW]) = true := by decide
/-- A report of the open sweep writes its node's entry (R322) and the list; an END of the census writes the junction table. -/
theorem test_report : okk (exec (.wet 1 ⟨wireOf hot9, 1234⟩) (hearSt swept [])) (fun t =>
      t.fiWord (fiNode (32768 + 258)) == 0x40200000 && t.fiWord (fiNode (32768 + 258) + 1) == 0x3F000000 &&
      bitAt (t.fiWord (fiNode (32768 + 258) + 2)) 0 && t.regF (Reg.LAT_SWSTAT 1) 8 0 == 1 && t.regF (Reg.LAT_RXST 1) 5 0 == 1) = true ∧
    okk (exec (.jstat 1 ⟨wireOf (latF 4 5 [1, 2, 3, 0, 1, 0, 0, 0]), 1234⟩) (hearSt counted [])) (fun t =>
      t.reg (Reg.LAT_JT 1 10) == 5 && t.reg (Reg.LAT_JT 1 11) == 0x00810302) = true := by decide
/-- TEC 248 and a transmit error: bus-off with one LAT_BUSOFF (R329). -/
theorem test_busoff : okk (exec (.busError 1 ⟨[true], 0, [], false, 0⟩) (hearSt { sending .time with pay := zeros 12 } [(Reg.LAT_ERR 1, 0x00F80000)])) (fun t =>
    t.latOff 1 && t.latTec 1 == 256 && (t.recd.handed.map (·.code)).contains Ev.LAT_BUSOFF) = true := by decide

/-- A census of junction 5 alone, missed once before; it began at 0. -/
def oneJ (act : Option Nat) (ends : List Nat) : Trunk := { Trunk.reset with census := some ⟨5, 5, 0, 0, act, ends⟩ }
def jSt (d : Nat) (x : Trunk) : State := trkSt d x [(Reg.LAT_JT 1 11, 0x00400000)]
/-- A request of kind 3 on trunk 1: a sweep, a census or a LINE of node 0x8000, in cell 3's shared data. -/
def latReq (opc : Word) (arg : Word) : Tag := { fillTag (some 7) false with kind := 3, desc := [opc * 0x10000 + 3, 0, 0x20000000, 0, arg, 0, 0, 0] }
def reqSt (t : Tag) (x : Trunk) : State :=
  { engSt { HwkSt.reset with tags := [(0, t)], engines := [(engineIx t, { Engine.idle with running := some 0 })] } with
    trunks := [(1, x)], act := [(Reg.LAT_CFG 1, 0x80000000)] }
where engineIx (t : Tag) : Nat := t.engine.getD 0
def badLine : State :=
  { reqSt (latReq 0x10 0x8000) Trunk.reset with cells := [(3, { Cell.empty with state := 2, mem := 1, badWords := [1] })] }
theorem witness_CensusesSweepsAndLines :
    (State.reset.latRuns 1 = false ∧ (trkSt 0 Trunk.reset [(Reg.LAT_CS 1, 0x003F0001)]).latRuns 1 = true ∧
      fld ((trkSt 0 Trunk.reset [(Reg.LAT_CS 1, 0x003F0001)]).reg (Reg.LAT_CS 1)) 7 0 * 100000000 ≠ 0 ∧ Trunk.reset.nextCensus ≤ 0 ∧
      counted.census.isSome = true ∧ (trkSt 0 Trunk.reset []).latOff 1 = false ∧ Trunk.reset.cmd = none ∧ Trunk.reset.sweep = none ∧
      Trunk.reset.census = none ∧ Trunk.reset.alarmDue = false ∧ State.reset.shed 1 = false) ∧
    (fld (0x01000003 : Word) 31 24 * 10000000 ≠ 0 ∧ fld (0x01000003 : Word) 1 0 ≠ 0 ∧ Trunk.reset.nextAlarm ≤ 0) ∧
    ((List.range 64).filter (fun j => decide (5 ≤ j) && decide (j ≤ 5) && !([] : List Nat).contains j) = [5] ∧
      (List.range 64).filter (fun j => decide (5 ≤ j) && decide (j ≤ 5) && !([5] : List Nat).contains j) = [] ∧
      (jSt 1000000 (oneJ (some 0) [])).regB (Reg.LAT_JT 1 11) 22 = true ∧ (jSt 1000000 (oneJ (some 0) [])).regB (Reg.LAT_JT 1 11) 21 = false ∧
      bitAt ({ jSt 0 Trunk.reset with image := [(fiNode (32768 + 2560) + 2, 1)] }.fiWord (fiNode (32768 * 1 + 512 * 5 + 0) + 2)) 0 = true) ∧
    ((reqSt (latReq 1 1) Trunk.reset).mayRun 0 3 1 = true ∧ (reqSt (latReq 2 0x003F0001) Trunk.reset).mayRun 0 3 2 = true ∧
      (reqSt (latReq 0x10 0x8000) Trunk.reset).mayRun 0 3 0x10 = true ∧
      fld (descArg ((reqSt (latReq 1 1) Trunk.reset).tag 0).desc 0) 4 0 = 1 ∧ Trunk.reset.reqs.length < 4 ∧
      4 ≤ (List.replicate 4 (LatReq.census 0 63)).length ∧ (reqSt (latReq 1 1) Trunk.reset).latRuns 1 = true ∧
      (reqSt (latReq 1 1) Trunk.reset).latOff 1 = false) ∧
    ((∀ i, i < 16 → ((reqSt (latReq 0x10 0x8000) Trunk.reset).dmaRead 3 (0x20000000 + 4 * i)).2.2 = false) ∧
      (badLine.dmaRead 3 0x20000004).2.2 = true ∧ (∀ j, j < 1 → (badLine.dmaRead 3 (0x20000000 + 4 * j)).2.2 = false)) ∧
    ((trkSt 0 Trunk.reset []).regB (Reg.LAT_STAT 1) 16 = false ∧ (trkSt 0 Trunk.reset []).latEn 1 = true ∧
      (trkSt 0 Trunk.reset []).latBlocked 1 = false ∧ (trkSt 0 Trunk.reset [(Reg.LAT_STAT 1, 0x00410000)]).regB (Reg.LAT_STAT 1) 22 = true) := by
  decide
/-- A second miss in a row is recorded (R326); a request of a sweep waits as the engine's command (R327). -/
theorem test_census_end : okk (exec (.censusEnd 1 true) (jSt 1000000 (oneJ (some 0) []))) (fun t =>
      t.regB (Reg.LAT_JT 1 11) 21 && t.recd.handed.map (·.code) == [Ev.LAT_JUNCTION_MISS] && t.reg (Reg.LAT_CENS 1) == 0x00010001) = true ∧
    okk (exec (.sweep 0) (reqSt (latReq 1 1) Trunk.reset)) (fun t =>
      (t.trunk 1).cmd == some (.sweepOpen false 0 0 0 0) && (t.tag 0).ran && (t.tag 0).err == 0) = true := by decide
theorem test_wire : okk (exec (.latWireFault 1 22) (trkSt 0 Trunk.reset [])) (fun t =>
    t.regB (Reg.LAT_STAT 1) 22 && t.regB (Reg.LAT_STAT 1) 2 && t.recd.handed.map (·.body) == [[1, 22]]) = true ∧
    okk (exec (.latWireFault 1 21) (trkSt 0 (sending (.entry 15)) (entries 0x80008000))) (fun t =>
      t.regB (Reg.LAT_STAT 1) 21 && (t.trunk 1).sel == none) = true := by decide

/-- CAN port 3 enabled with CAN FD and RXALL; its registers and receive state given. -/
def canSt (x : CanPort) (act : SMap Word) : State :=
  { State.reset with ports := [(3, x)], act := [(Reg.CAN_CFG 3, 0xC1000000)] ++ act }
def canF (remote : Bool) : CanFrame := ⟨false, false, false, 0x123 * 0x40000, false, remote, 2, [0xAB, 0xCD], 5⟩
theorem witness_CanPorts :
    (bitAt (4 : Word) 2 = true ∧ bitAt (0x40 : Word) (4 + 2) = true ∧ (canSt CanPort.reset [(Reg.CAN_TXST 3, 4)]).canOwned 3 2 = true ∧
      (canSt CanPort.reset []).canOwned 3 2 = false ∧ (canSt CanPort.reset []).canReject 3 2 = false ∧
      (canSt CanPort.reset [(Reg.CAN_TXB 3 2 0, 1)]).canReject 3 2 = true) ∧
    (∀ a ∈ [Reg.CAN_TXCMD 3, Reg.CAN_RXREL 3, Reg.CAN_CMD 3], (canSt CanPort.reset []).granted (.loop 0) a = true) ∧
    (({ CanPort.reset with selAt := 9, marked := [2] } : CanPort).marked.contains 2 = true ∧ CanPort.reset.selAt ≤ 5 ∧
      bitAt ((canSt CanPort.reset [(Reg.CAN_TXB 3 2 1, 0x100)]).canWord 3 2 1) 8 = true) ∧
    (({ CanPort.reset with sel := some 2 } : CanPort).sel = some 2 ∧ CanPort.reset.sel = none ∧ (canSt CanPort.reset []).canLbk 3 = 0) ∧
    (State.reset.canEn 3 = false ∧ (canSt CanPort.reset []).canEn 3 = true ∧ (canSt CanPort.reset []).canOff 3 = false ∧
      (canSt CanPort.reset []).canFde 3 = true ∧ (canSt CanPort.reset []).canFilter 3 (canF false) = some 0xFF ∧
      { State.reset with act := [(Reg.CAN_CFG 3, 0x80000000)] }.canFilter 3 (canF false) = none ∧ (canF true).remote = true) ∧
    ((canSt CanPort.reset []).regB (Reg.CAN_RXST 3) 31 = false ∧
      (canSt CanPort.reset [(Reg.CAN_RXST 3, 0x80000000)]).regB (Reg.CAN_RXST 3) 30 = false ∧
      (canSt CanPort.reset [(Reg.CAN_RXST 3, 0xC0000000)]).regB (Reg.CAN_RXST 3) 30 = true ∧
      ({ CanPort.reset with shadow := List.replicate 20 1 } : CanPort).shadow.length = 20) ∧
    ((canSt CanPort.reset [(Reg.CAN_ERR 3, 0x01000000)]).canTec 3 = 256 ∧ (canSt CanPort.reset []).canTec 3 ≤ 255 ∧
      (canSt CanPort.reset [(Reg.CAN_STAT 3, 0x80000000)]).canOff 3 = true ∧
      (canSt CanPort.reset [(Reg.CAN_STAT 3, 0x80000000)]).regB (Reg.CAN_STAT 3) 29 = false ∧
      (canSt CanPort.reset [(Reg.CAN_STAT 3, 0xA0000000)]).regB (Reg.CAN_STAT 3) 29 = true ∧
      1408 * nominalNs ((canSt CanPort.reset []).reg (Reg.CAN_NBT 3)) ≤ 100000000) ∧
    ((canSt CanPort.reset []).regB (Reg.CAN_STAT 3) 16 = false ∧
      (canSt CanPort.reset [(Reg.CAN_STAT 3, 0x00400000)]).regB (Reg.CAN_STAT 3) 22 = true) := by decide
/-- A received frame goes to the buffer and, while that is full, to the shadow (R338). -/
theorem test_can : okk (exec (.canFrameReceived 3 (canF false)) (canSt CanPort.reset [])) (fun t =>
      t.regB (Reg.CAN_RXST 3) 31 && t.reg (Reg.CAN_RXB 3 4) == 0xCDAB) = true ∧
    okk (exec (.canFrameReceived 3 (canF false)) (canSt CanPort.reset [(Reg.CAN_RXST 3, 0x80000000)])) (fun t =>
      t.regB (Reg.CAN_RXST 3) 30 && (t.port 3).shadow.length == 20) = true := by decide
theorem test_can_request : okk (exec (.canTxRequest (.loop 0) 3 4) (canSt CanPort.reset [])) (fun t =>
    t.canOwned 3 2 && (t.port 3).sel == some 2) = true := by decide


/-! ### Solenoids, fans and field inputs and outputs -/

/-- Solenoid 7 (bank 1) enabled with dip detection, posture HOLD of 50 ms and 3 retries, FIELD on; its state code, record and other
registers given. -/
def svA (d st : Nat) (c : SvChan) (act : SMap Word) : State :=
  { State.reset with
    dtb := d, sv := { SvSt.reset with chans := [(7, c)] },
    act := act ++ [(Reg.SV_CFG 7, 0x94050300), (Reg.SV_STAT 7, BitVec.ofNat 32 (st * 0x10000000)), (Reg.PWR_FSTAT, 0x2000),
      (Reg.SV_CUR 7, 0x14000014), (Reg.SV_TIME 7, 0x050A)] }
def pulling : SvChan := { SvChan.reset with cmd := true, cur := 0x14000014, time := 0x050A, peak := 500 }
theorem witness_granted_actuation : ∀ a ∈ [Reg.SV_CMD 23, Reg.SV_GCMD, Reg.FAN_CMD 15, Reg.DIO_CMD 63], State.reset.granted (.loop 5) a = true := by
  decide
theorem witness_SolenoidChannels :
    ({ State.reset with act := [(Reg.SV_BCFG, 2)] }.svPar = true ∧ (svA 0 3 pulling []).svLead 7 = 7) ∧
    ((svA 0 1 SvChan.reset []).svNext = some 7 ∧ (svA 0 0 SvChan.reset []).svNext ≠ some 7) ∧
    ((svA 0 2 pulling []).svState 7 = svPull ∧ pulling.judged = false ∧ 480 + (svA 0 2 pulling []).regF (Reg.SV_CUR 7) 15 0 ≤ pulling.peak ∧
      pulling.peak < 481 + (svA 0 2 pulling []).regF (Reg.SV_CUR 7) 15 0 ∧ fld pulling.cur 31 24 * 50 ≤ 1000 ∧
      999 < fld pulling.cur 31 24 * 50 ∧ pulling.peak < 1000 + (svA 0 2 pulling []).regF (Reg.SV_CUR 7) 15 0) ∧
    ((svA 9999999 2 pulling []).svPullOver 7 = false ∧ (svA 10000000 2 pulling []).svPullOver 7 = true) ∧
    ((svA 50000000 4 pulling []).svState 7 = svPosture ∧
      pulling.holdAt + (svA 50000000 4 pulling []).regF (Reg.SV_CFG 7) 23 16 * 10000000 ≤ 50000000 ∧
      ¬ pulling.holdAt + (svA 0 4 pulling []).regF (Reg.SV_CFG 7) 23 16 * 10000000 ≤ 49999999) ∧
    ((svA 0 0 pulling []).svOn 7 = false ∧ (svA 0 3 pulling []).svOn 7 = true ∧
      (svA 0 3 pulling []).regF (Reg.SV_CFG 7) 10 8 ≤ min 7 ((svA 0 3 pulling [(Reg.SV_STAT 7, 0x36000000)]).regF (Reg.SV_STAT 7) 27 25 + 0) ∧
      ¬ (svA 0 3 pulling []).regF (Reg.SV_CFG 7) 10 8 ≤ 0) ∧
    (({ pulling with waitTill := some 5 } : SvChan).waitTill = some 5 ∧ pulling.waitTill = none ∧ pulling.cmd = true ∧ SvChan.reset.cmd = false ∧
      (svA 5 5 pulling []).svEn 7 = true ∧ (svA 5 5 pulling []).svBarred 7 = false ∧
      (svA 5 5 pulling [(Reg.SV_STAT 7, 0x51000000)]).svBarred 7 = true) ∧
    ((svA 5 5 pulling [(Reg.SV_STAT 7, 0x51000000)]).regB (Reg.SV_STAT 7) 24 = true ∧
      (svA 5 5 pulling [(Reg.SV_STAT 7, 0x51000000)]).regB (Reg.SV_STAT 7) 23 = false ∧ pulling.tripped = false ∧
      (svA 5 5 pulling []).regB (Reg.SV_BKSTAT 1) 6 = false ∧ (svA 5 5 pulling []).fieldOn = true) ∧
    ((svA 5 5 pulling [(Reg.SV_STAT 7, 0x50800000), (Reg.SV_TEMP 7, 0x42C80000), (Reg.SV_THM2 7, 100)]).svCool 7 = false ∧
      (svA 5 5 pulling [(Reg.SV_STAT 7, 0x50800000)]).regB (Reg.SV_STAT 7) 23 = true) ∧
    ((svA 0 0 pulling []).regF (Reg.SV_THM 7) 15 0 = 0 ∧ (svA 0 0 pulling [(Reg.SV_THM 7, 0x00640064)]).regF (Reg.SV_THM 7) 15 0 ≠ 0) ∧
    (fpGtRat (0x409AE147 : Word) 484 100 = false ∧ fpGtRat (0x409AE148 : Word) 484 100 = true) := by decide
/-- A pull-in starts and counts (R346, R347); 20 mA below the peak is a movement (R348). -/
theorem test_pull_in : okk (exec (.pullInStart 7) (svA 5 1 SvChan.reset [])) (fun t =>
      t.svState 7 == svPull && t.reg (Reg.SV_PCNT 7) == 1 && (t.svc 7).start == 5) = true ∧
    okk (exec (.svMovementDip 7 2000 480) (svA 5 2 pulling [])) (fun t => t.regF (Reg.SV_MEAS 7) 15 0 == 2000 && t.regB (Reg.SV_STAT 7) 2) = true := by
  decide
/-- The pull-in ends in HOLD (R345); a short of a channel with 3 failed retries latches (R353). -/
theorem test_hold : okk (exec (.pullInEnd 7 600) (svA 10000000 2 { pulling with judged := true } [])) (fun t =>
      t.svState 7 == svHold && t.recd.handed == []) = true ∧
    okk (exec (.svShort 7 true) (svA 0 3 pulling [(Reg.SV_STAT 7, 0x36000000)])) (fun t =>
      t.svState 7 == svFault && t.regB (Reg.SV_STAT 7) 24 && t.recd.handed.map (·.code) == [Ev.SV_SHORT, Ev.SV_SHORT_LATCH]) = true := by decide

/-- Bank 1 with its record and registers given. -/
def bankSt (d : Nat) (x : SvBank) (c : SvChan) (act : SMap Word) : State :=
  { svA d 0 c act with sv := { SvSt.reset with chans := [(7, c)], banks := [(1, x)] } }
def cut (v : Word) : SMap Word := [(Reg.SV_BKSTAT 1, v)]
def boostSt (rail : Nat) (hic : Bool) : State :=
  { State.reset with
    dtb := 180000000, sv := { SvSt.reset with hiccup := hic, owesOk := hic },
    act := [(Reg.SV_BCFG, 1), (Reg.SV_BSTAT, BitVec.ofNat 32 (rail * 0x10000000)), (Reg.PWR_FSTAT, 0x2000)] }
theorem witness_SolenoidBanksAndBoost :
    (7 / 6 = 1 ∧ State.reset.svHsOn 1 = false ∧ (bankSt 0 SvBank.reset SvChan.reset []).svHsOn 1 = true ∧
      (bankSt 0 SvBank.reset SvChan.reset []).svOn 7 = false ∧ SvChan.reset.waitTill = none ∧
      ([100] : List Nat).foldl (· + ·) 0 + 100 < 201 ∧ ¬ ([100] : List Nat).foldl (· + ·) 0 + 100 < 200) ∧
    ((bankSt 0 SvBank.reset SvChan.reset (cut 0x40)).svHsOff 1 = true ∧
      ((bankSt 5 ⟨true, 5⟩ SvChan.reset (cut 0x40)).svk 1).ground = true ∧ ((bankSt 5 ⟨true, 5⟩ SvChan.reset (cut 0x40)).svk 1).nextTry ≤ 5 ∧
      (bankSt 5 ⟨true, 5⟩ SvChan.reset (cut 0x40)).fieldOn = true ∧ SvBank.reset.ground = false ∧
      (bankSt 0 SvBank.reset SvChan.reset (cut 0x40)).regB (Reg.SV_BKSTAT 1) 7 = false ∧
      (bankSt 0 SvBank.reset SvChan.reset (cut 0xC0)).regB (Reg.SV_BKSTAT 1) 7 = true ∧ bitAt (2 : Word) 1 = true) ∧
    ((100 : Nat) ≤ 100 ∧ (100 : Nat) < 101 ∧ ([] : List Nat) = [] ∧ (bankSt 5 ⟨true, 5⟩ SvChan.reset (cut 0x40)).svLead 7 = 7 ∧
      (bankSt 5 ⟨true, 5⟩ SvChan.reset (cut 0x40)).svOn 7 = false ∧ State.reset.granted (.loop 5) Reg.SV_GCMD = true) ∧
    ((boostSt 0 false).boostEn = true ∧ (boostSt 0 false).shed 3 = false ∧ (boostSt 0 false).fieldOn = true ∧ (boostSt 0 false).rail = 0 ∧
      (boostSt 1 true).rail = 1 ∧ (boostSt 2 false).rail = 2 ∧ (boostSt 3 true).rail = 3 ∧
      (boostSt 3 true).sv.hicAt + 180000000 ≤ (boostSt 3 true).dtb) := by decide
/-- A second test with a leak opens the bank for 1 s (R354); the rail is ready at 45.00 V (R356). -/
theorem test_bank : okk (exec (.bankTest 1 201 [100] [7]) (bankSt 0 SvBank.reset { SvChan.reset with gnds := 1 } [])) (fun t =>
      t.svHsOff 1 && t.svk 1 == ⟨true, 1000000000⟩ && t.recd.handed.map (·.body) == [[7, 1]]) = true ∧
    okk (exec (.boostReady 4500) (boostSt 1 true)) (fun t => t.rail == 2 && t.recd.handed.map (·.code) == [Ev.SV_BOOST_OK]) = true ∧
    okk (exec (.boostReady 4499) (boostSt 1 true)) (fun t => t.rail == 1) = true := by decide

/-- Fan 9 enabled in group 2 with a PWM period of 1000 ticks, kick of 500 ms above 51/255, its record and registers given. -/
def fanSt (d : Nat) (cfg : Word) (c : FanChan) (act : SMap Word) : State :=
  { State.reset with
    dtb := d, fans := [(9, c)],
    act := act ++ [(Reg.FAN_CFG 9, cfg), (Reg.FAN_PWM 9, 1000), (Reg.FAN_KICK 9, 0xFF3301F4), (Reg.FAN_MON 9, 0x01F40A05),
      (Reg.PWR_FSTAT, 0x2000)] }
def half : FanChan := { FanChan.reset with cmd := some 0x3F000000 }
/-- Fan 10 of the same group has failed. -/
def groupSt : State := fanSt 5 0x90200000 half [(Reg.FAN_CFG 10, 0x90200000), (Reg.FAN_STAT 10, 0x08000000)]
theorem witness_FanChannels :
    (State.reset.fanEn 9 = false ∧ (fanSt 5 0x90200000 half []).fanEn 9 = true ∧ half.reloadAt ≤ 5 ∧
      (fanSt 5 0x90200000 half []).isPending (fanPage 9) = false ∧ (fanSt 5 0x90200000 half []).fanImode 9 = 1 ∧
      (fanSt 5 0xA0200000 half []).fanImode 9 = 2) ∧
    ((fanSt 5 0x90200000 half []).fanIsOff 9 ((fanSt 5 0x90200000 half []).fanLoad 9) = false ∧
      ((fanSt 5 0x90200000 half []).fanLoad 9).supOff.isSome = false ∧ (fanSt 5 0x90200000 half []).fieldOn = true ∧
      fpGtRat ((fanSt 5 0x90200000 half []).fanBase 9 ((fanSt 5 0x90200000 half []).fanLoad 9)).2.1
        ((fanSt 5 0x90200000 half []).regF (Reg.FAN_KICK 9) 23 16) 255 = true ∧
      (fanSt 5 0x90200000 half []).fanFull 9 = false ∧ groupSt.fanFull 9 = true ∧ (fanSt 5 0x90200000 half []).fanAuto 9 = false ∧
      ((fanSt 5 0x90200000 half []).fanLoad 9).cmd = some 0x3F000000) ∧
    ((fanSt 5 0x90200000 FanChan.reset []).fanIsOff 9 ((fanSt 5 0x90200000 FanChan.reset []).fanLoad 9) = true ∧
      (fanSt 5 0x92200000 FanChan.reset []).fanPosture 9 = 2 ∧ (fanSt 5 0x91200000 FanChan.reset []).fanPosture 9 = 1 ∧
      (fanSt 5 0x91200000 FanChan.reset []).fanIsOff 9 ((fanSt 5 0x91200000 FanChan.reset []).fanLoad 9) = false ∧
      (fanSt 5 0x94200000 FanChan.reset []).fanAuto 9 = true ∧ ((fanSt 5 0x91200000 FanChan.reset []).fanLoad 9).cmd = none) ∧
    ((fanSt 5000000000 0x90200000 { half with badSince := some 0 } []).fanFailed 9 = false ∧
      0 + (fanSt 0 0x90200000 half []).regF (Reg.FAN_MON 9) 15 8 * 100000000 ≤ 5000000000 ∧
      (fanSt 0 0x90200000 half []).fanGroup 9 ≠ 0 ∧ (fanSt 0 0x90000000 half []).fanGroup 9 = 0) ∧
    ((fanSt 0 0x90200000 half [(Reg.FAN_STAT 9, 0x08000000)]).fanFailed 9 = true ∧ ({ half with goodSince := some 0 } : FanChan).goodSince = some 0) ∧
    ((fanSt 0 0x90A00000 half []).regB (Reg.FAN_CFG 9) 23 = true ∧ fpLtRat (0xC2480001 : Word) (-50) 1 = true ∧
      fpLtRat (0xC2480000 : Word) (-50) 1 = false ∧ fpGtRat (0x432F0001 : Word) 175 1 = true) ∧
    (half.outOff = none ∧ half.supOff = none ∧ ({ half with outOff := some 5 } : FanChan).outOff = some 5 ∧
      ({ half with supOff := some 5 } : FanChan).supOff = some 5) ∧
    ((fanSt 20000000 0x91200200 { FanChan.reset with holdAt := some 0 } []).fanPosture 9 = 1 ∧
      0 + (fanSt 0 0x91200200 half []).regF (Reg.FAN_CFG 9) 15 8 * 10000000 ≤ 20000000) := by decide
/-- A command of 0.5 from rest kicks (R365); with another fan of the group failed the channel runs at full speed (R367). -/
theorem test_fan : okk (exec (.fanReload 9 0) (fanSt 5 0x90200000 half [])) (fun t =>
      t.regF (Reg.FAN_STAT 9) 31 28 == 3 && (t.fan 9).out == w1 && (t.fan 9).kick == some 5 && (t.fan 9).reloadAt == 8000) = true ∧
    okk (exec (.fanReload 9 0) groupSt) (fun t => t.regF (Reg.FAN_STAT 9) 31 28 == 6 && t.reg (Reg.FAN_OUT 9) == 0x03E803E8) = true := by decide
/-- 50 ms between two pulses of 1 per revolution: 1200 rpm (R366). -/
theorem test_tachometer : okk (exec (.tachometerPulse 9) (fanSt 50000000 0x90200000 { half with lastPulse := some 0 } [])) (fun t =>
      t.reg (Reg.FAN_SPD 9) == 0x44960000) = true ∧
    okk (exec (.fanFail 9) (fanSt 5000000000 0x90200000 { half with badSince := some 0 } [])) (fun t =>
      t.fanFailed 9 && t.regB Reg.FAN_GSTAT 18 && t.recd.handed.map (·.code) == [Ev.FAN_FAIL, Ev.FAN_GROUP_FULL]) = true := by decide

/-- An I/O module whose field side is powered, with a frame under way in each direction and its channels given. -/
def ioUp : UpFrame := ⟨6, 0, 0, true, true, false, [], [], 10, List.replicate 64 0, List.replicate 16 3, List.replicate 16 0, 0, 0⟩
def ioDown (run : Bool) (outs : List (Bool × Nat)) : KeyFrame :=
  ⟨5, 0, run, false, outs ++ List.replicate (64 - outs.length) (false, 0), 10, List.replicate 16 none, []⟩
/-- A receiver in lock between two frames, the last of a SEQ. -/
def locked (seq : Nat) : KeyRx := { KeyRx.reset with lock := some ⟨0, [], 0, seq, 0⟩ }
def ioSt (d : Nat) (k : KeyFrame) (chans : SMap FieldChan) : State :=
  { State.reset with
    dtb := d, act := [(Reg.DIO_CFG 2, 0xC0000000), (Reg.DIO_CFG 3, 0x80000000), (Reg.DIO_KCFG, 10), (Reg.DIO_KSTAT, 0x80000000)],
    dio := { DioSt.reset with
      flight := [k], up := [ioUp], rx := locked 5,
      field := { FieldSide.dark with powered := true, rx := locked 4, checked := true, chans := chans, common := 10 } } }
def swOn : FieldChan := { FieldChan.off with cfg := 0xC0230200, want := true, on := true, inPost := false, q := 32767, cmdOn := true }
def cnt (mode : Word) : FieldChan := { FieldChan.off with cfg := 0x80000000 ||| mode }
theorem witness_KeyLinkAndFieldSide :
    ((ioSt 0 (ioDown true []) []).dio.nextDown ≤ 0 ∧ (ioSt 0 (ioDown true []) []).onSafe = false ∧
      (ioSt 0 (ioDown true []) []).isPending dioCommonPage = false ∧ (∀ k, k < 64 → (ioSt 0 (ioDown true []) []).isPending (dioPage k) = false) ∧
      (ioSt 0 (ioDown true []) []).dio.island = 0 ∧ (ioSt 0 (ioDown true []) []).dio.held = false ∧
      (ioSt 0 (ioDown true []) []).ioDrives 2 = true ∧ (ioSt 0 (ioDown true []) []).ioDrives 3 = false ∧
      { (ioSt 0 (ioDown true []) []).dio with island := 1 }.island ≠ 0 ∧ { (ioSt 0 (ioDown true []) []).dio with held := true }.held = true) ∧
    (State.reset.dio.flight = [] ∧ (ioSt 0 (ioDown true []) []).dio.flight = ioDown true [] :: [] ∧
      (ioDown true []).start + 21000 ≤ 21000 ∧ (ioSt 0 (ioDown true []) []).dio.field.powered = true ∧
      State.reset.dio.field.powered = false) ∧
    ((ioSt 0 (ioDown true []) []).dio.field.checked = true ∧ (ioDown true []).clears = [] ∧
      ioEn swOn.cfg = true ∧ ioOut swOn.cfg = true ∧ swOn.pwm = false ∧ ({ swOn with pwm := true, reloadAt := 5 } : FieldChan).pwm = true ∧ 0 < 5 ∧ swOn.latch = false ∧ swOn.waitTill = none ∧ swOn.ot = false ∧ swOn.pwm = false ∧
      (ioDown true [(false, 0), (false, 32767), (true, 0)]).outs.getD 1 (false, 0) = (false, 32767) ∧
      (ioDown true [(false, 0), (false, 32767), (true, 0)]).outs.getD 2 (false, 0) = (true, 0)) ∧
    ((ioSt 0 (ioDown true []) []).dio.field.safe = false ∧
      (ioSt 0 (ioDown true []) []).dio.field.lastValid + fld (ioSt 0 (ioDown true []) []).dio.field.common 12 0 * 20000 ≤ 200000 ∧
      ((ioDown true []).start + 21000 ≤ 200000 ∧ ¬ { ioDown true [] with start := 200000 }.start + 21000 ≤ 200000) ∧
      0 + 1 * 20000 < 21000) ∧
    (State.reset.dio.up = [] ∧ (ioSt 0 (ioDown true []) []).dio.up = ioUp :: [] ∧ ioUp.start + 29968 ≤ 29968 ∧
      ioOut (ioUp.cfgs.getD 3 0) = false ∧ (8 : Nat) / 2 ^ 3 % 2 = 1 ∧
      ioOut ({ ioUp with cfgs := [0xC0000000] }.cfgs.getD 0 0) = true) ∧
    (∃ c, { locked 4 with bad := 3, lock := some ⟨2499, [], 0, 4, 0⟩ }.lock = some c ∧ 2496 ≤ c.n) ∧
    ((ioSt 0 (ioDown true []) []).regB Reg.DIO_KSTAT 29 = false ∧
      (ioSt 0 (ioDown true []) []).dio.lastAt + ((ioSt 0 (ioDown true []) []).regF Reg.DIO_KCFG 12 0 + 1) * 20000 ≤ 220000) := by decide
def outsDown : KeyFrame := ioDown true [(false, 0), (false, 32767), (true, 0)]
def upVals : UpValues := ioUp.values (ioSt 0 (ioDown true []) []).dio.field 8 0 2400 25
/-- What the receivers make of a frame as sent, with one bit inverted, and of one that began before the receiver ran. -/
theorem witness_KeyLinkAndFieldSide_down : (locked 4).feed downSync (heard 0 0 [] (downBits outsDown)) =
      (locked 5, [.valid ((downBits outsDown).take 2496) none]) ∧
    (let g := readDown ((downBits outsDown).take 2496) 0 []
     g.run = true ∧ g.slots.filterMap id = [] ∧ g.outs.getD 1 (false, 0) = (false, 32767) ∧ g.outs.getD 2 (false, 0) = (true, 0)) := by
  decide +kernel
theorem witness_KeyLinkAndFieldSide_lost : ((locked 4).feed downSync (heard 0 0 [700] (downBits (ioDown true [])))).2 = [.bad true] ∧
    ((locked 4).feed downSync (heard 0 20000 [] (downBits (ioDown true [])))).2 = [] := by decide +kernel
theorem witness_KeyLinkAndFieldSide_up : ((locked 5).feed upSync (heard 10000 0 [] (upBits ioUp upVals))).2 =
    [.valid ((upBits ioUp upVals).take 2496) none] := by decide +kernel
/-- A valid frame that asks for the switch turns it on (R393). -/
theorem test_key : okk (exec (.keyFieldApply []) (ioSt 21000 (ioDown true [(false, 32767)]) [(0, { swOn with on := false, want := false, cmdOn := false })]))
    (fun t => (t.fch 0).on && t.dio.flight == [] && t.dio.field.rx == locked 5) = true := by decide +kernel
/-- 10 frame times without a valid frame put an output in posture (R395). -/
theorem test_key_loss : okk (exec .keyFieldLoss (ioSt 200000 { ioDown true [] with start := 200000 } [(0, { swOn with cfg := 0xC0000000 })])) (fun t =>
      t.dio.field.safe && !(t.fch 0).on && (t.fch 0).inPost) = true := by decide
theorem test_upstream : okk (exec (.keyUpstreamFrame [] [] 0 0 ⟨2400, 25⟩) (ioSt 31000 (ioDown true []) [(3, { FieldChan.off with cfg := 0x80000000, level := true, raw := true })])) (fun t =>
    t.reg Reg.DIO_INSEQ == 6 && t.regB (Reg.DIO_STAT 3) 27 && t.reg (Reg.DIO_CNT 0) == 3 && t.regF Reg.DIO_FIELD 15 0 == 2400) = true := by decide +kernel

theorem witness_FieldChannels :
    ((ioSt 0 (ioDown true []) [(0, swOn)]).dio.field.powered = true ∧ ((ioSt 0 (ioDown true []) [(0, swOn)]).fch 0).on = true ∧
      (ioSt 0 (ioDown true []) [(0, swOn)]).dio.field.lead 0 = 0 ∧
      (ioSt 0 (ioDown true []) [(0, { swOn with cfg := 0xC0330000 })]).dio.field.lead 1 = 0) ∧
    (({ swOn with waitTill := some 7 } : FieldChan).waitTill = some 7 ∧ swOn.want = true ∧ FieldChan.off.want = false ∧ swOn.waitTill = none) ∧
    (ioEn (0xC0080000 : Word) = true ∧ ioOut (0xC0080000 : Word) = true ∧ bitAt (0xC0080000 : Word) 19 = true) ∧
    (({ swOn with ot := true } : FieldChan).ot = true ∧ swOn.ot = false) ∧
    (({ swOn with inPost := true } : FieldChan).inPost = true ∧ ioHold swOn.cfg = true ∧ swOn.want = true ∧
      ({ swOn with holdNs := some 20000000 } : FieldChan).holdNs = some 20000000 ∧ swOn.holdAt + (20000000 : Nat) ≤ 20000000) ∧
    ((cnt 0xC00000).counts = true ∧ ioCmode (cnt 0x400000).cfg = 1 ∧ ioCmode (cnt 0x800000).cfg = 2 ∧ ioCmode (cnt 0xC00000).cfg = 3 ∧
      (cnt 0).counts = false ∧ (cnt 0x400000).lastGate < 1000000 / gateNs 0 * gateNs 0 ∧ (cnt 0x400000).latest = none ∧
      0 * 8 + ftoNs 0 ≤ 1000000000 / 8 * 8 ∧ 1000000 / 8 * 8 < 5 * 8 + ftoNs 0 ∧ 2 ≤ ({ cnt 0x400000 with edges := 2 } : FieldChan).edges) := by decide
/-- A short with 3 failed retries and 3 allowed latches (R387); the second of two equal samples 125 ns apart is a rising edge that counts,
and one sample is none (R378, R380). -/
theorem test_io : okk (exec (.dioShort 0 true) (ioSt 5 (ioDown true []) [(0, { swOn with fails := 3 })])) (fun t =>
      !(t.fch 0).on && (t.fch 0).latch && (t.fch 0).waitTill == none) = true ∧
    okk (exec (.filteredEdge 0 [(true, 3)]) (ioSt 2000 (ioDown true []) [(0, cnt 0x400000)])) (fun t =>
      (t.fch 0).count == 1 && (t.fch 0).latest == some 234 && (t.fch 0).level) = true ∧
    okk (exec (.filteredEdge 0 [(true, 1)]) (ioSt 2000 (ioDown true []) [(0, cnt 0x400000)])) (fun t =>
      (t.fch 0).count == 0 && (t.fch 0).diff == 1) = true := by decide

/-! ### Recorder, stored sets, clock and backup RAM -/

/-- The recorder runs; events handed over, its own state and registers given. -/
def recSt (d : Nat) (r : RecSt) (act : SMap Word) : State :=
  { State.reset with dtb := d, recd := r, act := act ++ [(Reg.REC_STAT, 0), (Reg.REC_RL 3, 0x000203E8)] }
def ev3 : Event := ⟨0x301, 0, 100, 100, [7]⟩
def rec3 (stamp : Nat) : Record := ⟨0x301, 0, 0, 0, stamp, 0, 0, 0, [], []⟩
def handed3 : RecSt := { RecSt.reset with handed := [ev3] }
def spent (n supp : Nat) : RecSt := { handed3 with buckets := [(0x301, { Bucket.full with spent := n, supp := supp })] }
/-- A staging buffer with no room for another record. -/
def fullRec : RecSt := { handed3 with staged := List.replicate 1792 { rec3 5 with body := List.replicate 64 0 } }
/-- An NVS transaction of cell 3 on engine 9, its words at offset 0x100 of its area. -/
def nvTag (opc : Word) (ran : Bool) : Tag :=
  { fillTag (some 9) ran with kind := 2, desc := [opc * 0x10000, 64, 0x20000000, 0x20000100, 0x100, 0, 0, 0] }
def nvSt (opc : Word) (bad : List Nat) : State :=
  { engSt { HwkSt.reset with tags := [(0, nvTag opc false)], engines := [(9, { Engine.idle with running := some 0 })] } with
    cells := [(3, { Cell.empty with state := 2, mem := 1, badWords := bad, shared := wordsAt [(4, 0x01020304)] })] }
/-- A log line with data waiting, and its internal transaction waiting or on the store engine. -/
inductive LineAt where
  | waiting
  | running
def lineSt (p : LineAt) : State :=
  { recSt 100 { RecSt.reset with logPos := 1 } [] with
    hwk := match p with
      | .waiting => logWaits.hwk
      | .running => { logWaits.hwk with
          tags := [(65280, { fillTag (some 9) false with internal := true, kind := 2, op := some .logLine })], iwaiting := [],
          engines := [(9, { Engine.idle with running := some 65280 })] } }
/-- The machine runs and a minute is over; the store engine free, or held by a transaction of a loop. -/
def mkSt : State := { State.reset with dtb := 60000000000, ctl := { CtlSt.reset with por := none } }
def mkBusy : State := { nvSt 2 [] with dtb := 60000000000, ctl := { CtlSt.reset with por := none } }
theorem witness_RecorderCommands :
    ((recSt 100 handed3 []).recStarting = false ∧ (recSt 100 handed3 [(Reg.REC_STAT, 0x30000000)]).recStarting = true ∧
      RecSt.reset.handed = [] ∧ nextEvent handed3.handed = some ev3 ∧ handed3.drops.count = 0) ∧
    (neverLimited Ev.REC_FLUSH = true ∧ neverLimited ev3.code = false ∧ (recSt 100 handed3 []).ivl 3 ≠ 0 ∧
      (recSt 100 handed3 [(Reg.REC_RL 3, 0x00020000)]).ivl 3 = 0 ∧ bucketRange (bucketKey ev3.code ev3.cell) = 3 ∧
      ((spent 1 0).bucket (bucketKey ev3.code ev3.cell)).spent < (recSt 100 handed3 []).burst 3 ∧
      (recSt 100 handed3 []).burst 3 ≤ ((spent 2 0).bucket (bucketKey ev3.code ev3.cell)).spent ∧
      (recSt 100 handed3 []).fits (32 + 4 * (padBody ev3.body).length) = true ∧ handed3.releasedT0 = none ∧
      ({ handed3 with releasedT0 := some 99 } : RecSt).releasedT0 = some 99 ∧ ev3.stamp ≤ 99 + 20000) ∧
    ((recSt 100 fullRec []).fits (32 + 4 * (padBody ev3.body).length) = false) ∧
    ((recSt 1000000000 (spent 1 4) []).gainBase (bucketRange 0x301) + (((spent 1 4).bucket 0x301).ticks + 1) *
        (recSt 1000000000 (spent 1 4) []).ivl (bucketRange 0x301) * 1000000 ≤ 1000000000 ∧ ((spent 1 4).bucket 0x301).supp ≠ 0) ∧
    (({ handed3 with drops := ⟨1, 36, 5, 5, 3, 3⟩ } : RecSt).drops.count ≠ 0 ∧ (recSt 0 handed3 []).fits 288 = true ∧
      (recSt 100 fullRec []).fits 288 = false) ∧
    (firstStamp [rec3 9, rec3 5] = some 5 ∧ 5 + 1020000 ≤ 1020005) ∧
    (252 * RecSt.reset.linesWritten < ({ RecSt.reset with logPos := 1 } : RecSt).logPos) ∧
    (((lineSt .running).engine 9).running = some 65280 ∧ ((lineSt .running).tag 65280).op = some .logLine ∧
      ((lineSt .running).tag 65280).ran = false) ∧
    ((lineSt .waiting).engineFree 9 = true ∧ ((lineSt .waiting).internals 2).head? = some 65280 ∧
      ((lineSt .waiting).tag 65280).op = some .logLine ∧ 0 < (lineSt .waiting).reserveLeft 2) ∧
    ((nvSt 2 []).engineFree 9 = false ∧ ∀ n, ((nvSt 2 []).engine 9).running = some n → ((nvSt 2 []).tag n).ran = false ∧
      ((nvSt 2 []).tag n).op ≠ some .logLine) ∧
    ((recSt 0 { handed3 with flush := some .command } []).engineFree 9 = true ∧
      (recSt 0 { handed3 with flush := some .command } []).hasInternal .logLine = false ∧
      (recSt 0 { handed3 with flush := some .command } []).freeReserved ≠ none) ∧
    (∀ a ∈ [Reg.REC_CMD, Reg.REC_CURSOR], (recSt 0 handed3 []).granted (.loop 5) a = true) ∧
    ((recSt 0 handed3 []).flushing = false ∧ (recSt 0 { handed3 with flush := some .command } []).flushing = true ∧
      State.reset.ctl.island = none) ∧
    (RecSt.reset.lastMarker + 60000000000 ≤ 60000000000) ∧
    (({ RecSt.reset with fills := [(3, ⟨0, 0⟩)] } : RecSt).fills.find? (fun e => e.1 == 3) = some (3, ⟨0, 0⟩) ∧
      RecSt.reset.fills.find? (fun e => e.1 == 3) = none) := by decide
/-- A flush that waits, a marker due, events with drops and the arbiter's own premises. -/
theorem witness_RecorderCommands_accesses :
    ((nvSt 2 []).ctl.island = none ∧ (recSt 0 { handed3 with flush := some .tierT5 } []).hasInternal .marker = false ∧
      (recSt 0 handed3 []).hwk.owed = [] ∧ RecSt.reset.drops.count = 0) ∧
    (State.reset.ctl.por.isSome = true ∧ mkSt.ctl.por = none ∧ mkSt.flushing = false ∧ mkSt.recd.lastMarker + 60000000000 ≤ mkSt.dtb ∧
      mkSt.engineFree 9 = true ∧ mkSt.internals 2 = [] ∧ mkSt.hasInternal .marker = false ∧ mkSt.hwk.owed = [] ∧
      mkSt.freeReserved ≠ none ∧ 0 < mkSt.reserveLeft 2 ∧ mkBusy.ctl.por = none ∧ mkBusy.flushing = false ∧ mkBusy.engineFree 9 = false ∧
      (∀ n, (mkBusy.engine 9).running = some n → (mkBusy.tag n).ran = false ∧ (mkBusy.tag n).op ≠ some .marker)) ∧
    (({ recSt 0 { (lineSt .running).recd with drops := ⟨1, 36, 5, 5, 3, 3⟩ } [] with hwk := (lineSt .running).hwk } : State).fits 288 = true) := by
  decide
/-- An event becomes the next record (R406); past the burst it is suppressed (R407). -/
theorem test_accept : okk (exec .eventAccept (recSt 200 handed3 [(Reg.REC_SEQ, 41)])) (fun t =>
      t.recd.staged.map (fun x => (x.code, x.seq, x.stamp, x.body.headD 0)) == [(0x301, 41, 100, 7)] && t.reg Reg.REC_SEQ == 42) = true ∧
    okk (exec .eventAccept (recSt 200 (spent 2 0) [])) (fun t =>
      t.recd.staged == [] && t.reg Reg.REC_SUPP == 1 && (t.recd.bucket 0x301).supp == 1) = true := by decide
/-- A line with data written on its own transaction takes the rest of its 252 bytes (R412). -/
theorem test_line : okk (exec .logLineWrite (lineSt .running)) (fun t =>
    t.recd.linesWritten == 1 && t.recd.logPos == 252 && (t.tag 65280).ran) = true := by decide
/-- A group holds the stamps within 20 us of the earliest (R410). -/
theorem test_group : okk (exec .logGroupRelease (recSt 1020005 { RecSt.reset with staged := [rec3 9, rec3 5, rec3 20006] } [])) (fun t =>
    t.recd.staged.map (·.stamp) == [20006] && t.recd.log.map (fun y => y.record.stamp) == [9, 5]) = true := by decide

/-- Set 15 is being stored, its accesses under the internal tag 65280. -/
def commitSt : State :=
  { State.reset with
    dtb := 1000000000, recd := { RecSt.reset with sets := [(15, { NvSet.absent with storing := some [], left := 4 })] },
    hwk := { logWaits.hwk with tags := [(65280, { fillTag none false with internal := true, kind := 2, op := some (.store 15) })] } }
def setSt (x : NvSet) : State := { State.reset with dtb := 1000000000, recd := { RecSt.reset with sets := [(15, x)] } }
theorem witness_CellStoreAndSets :
    (State.reset.whoCell (.session 5) = 0 ∧ (engSt HwkSt.reset).whoCell (.loop 5) ≠ 0) ∧
    ((nvSt 1 []).mayRun 0 2 0x01 = true ∧ (nvSt 2 []).mayRun 0 2 0x02 = true ∧ (nvSt 0x10 []).mayRun 0 2 0x10 = true ∧
      (nvSt 2 []).mayRun 0 2 0x01 = false) ∧
    ((∀ i, i < descLen (nvTag 2 false).desc / 4 → ((nvSt 2 []).dmaRead 3 (descSrc (nvTag 2 false).desc + 4 * i)).2.2 = false) ∧
      ((nvSt 2 [1]).dmaRead 3 (0x20000000 + 4 * 1)).2.2 = true ∧ (∀ j, j < 1 → ((nvSt 2 [1]).dmaRead 3 (0x20000000 + 4 * j)).2.2 = false)) ∧
    ({ NvSet.absent with requested := true }.free 1000000000 = true ∧ { NvSet.absent with requested := true, lastStart := some 1 }.free 1000000000 = false ∧
      { NvSet.absent with requested := true, lastStart := some 0 }.free 1000000000 = true ∧ (setSt NvSet.absent).flushing = false ∧
      ((setSt { NvSet.absent with requested := true }).nvSet 15).requested = true ∧
      ((setSt { NvSet.absent with pending := true }).nvSet 15).pending = true ∧ NvSet.absent.pending = false) ∧
    (commitSt.granted (.loop 0) Reg.REC_CMD = true ∧ (commitSt.nvSet 15).storing = some [] ∧ commitSt.flushing = false ∧
      commitSt.engineFree 9 = true ∧ commitSt.internals 2 = [65280] ∧ (commitSt.tag 65280).op = some (.store 15) ∧
      (∀ e ∈ commitSt.hwk.tags, e.2.op = some (.store 15) → e.1 = 65280) ∧ commitSt.hwk.waiting = [] ∧
      (commitSt.nvSet 15).failing ≠ 2 ∧ (commitSt.nvSet 15).failing ≠ 3 ∧ ({ NvSet.absent with failing := 3, left := 5 } : NvSet).left ≠ 0) ∧
    ((nvSt 2 []).engineFree 9 = false ∧ ∀ n, ((nvSt 2 []).engine 9).running = some n → ((nvSt 2 []).tag n).ran = false ∧
      ((nvSt 2 []).tag n).op ≠ some (.store 15)) := by decide
/-- A commit not masked, with room in the reserve; a WRITE that ended in error, its sequence to be undone. -/
def nvErr : State :=
  { nvSt 2 [] with
    recd := { RecSt.reset with nvUndo := some (0, [(4096, 7)]) },
    hwk := { (nvSt 2 []).hwk with tags := [(0, { nvTag 2 true with err := 2 })] } }
theorem witness_CellStoreAndSets_sequences :
    (commitSt.reqMasked (.store 15) = false ∧ commitSt.hwk.owed = [] ∧ (commitSt.nvSet 15).left ≠ 0 ∧ 2 ≤ commitSt.reserveLeft 2) ∧
    (nvErr.recd.nvUndo = some (0, [(4096, 7)]) ∧ (nvErr.tag 0).head = 0 ∧ (nvErr.tag 0).err ≠ 0 ∧ (nvErr.tag 0).op = none ∧
      nvErr.isRunning 0 = true ∧ (nvErr.tag 0).ran = true ∧ nvErr.emitWaits (nvErr.tag 0) = false) := by decide
/-- A WRITE reaches the cell's area, low byte first (R417); a commit of a set has sequence number 1 (R420). -/
theorem test_store : okk (exec (.nvsWrite ⟨0, []⟩) (nvSt 2 [])) (fun t =>
      mget 0 (4096 * 3 + 0x104) t.recd.cellNv == 4 && mget 0 (4096 * 3 + 0x107) t.recd.cellNv == 1 && (t.tag 0).err == 0) = true ∧
    okk (exec (.storeCommit 15 false) commitSt) (fun t =>
      (t.nvSet 15).seq == 1 && t.recd.handed.map (·.code) == [Ev.NVS_COMMIT] && t.reg (Reg.HWK_ENCNT 9) == 4) = true := by decide

/-- The RTC at a count, an apply of its page pending with an operation where asked. -/
def rtcSt (n : Nat) (page : Bool) (op : Word) : State :=
  { State.reset with
    dtb := 250000, rtc := { RtcSt.reset with ticks := n }, pend := if page then [(rtcPage, ⟨0, 0⟩)] else [],
    shd := [(Reg.RTC_CTL, op), (Reg.RTC_SETL, 1), (Reg.RTC_SETH, 0x80000000), (Reg.RTC_SHIFT, 0x1FFFF)], act := [(Reg.RTC_STAT, 2)] }
theorem witness_ClockAndBackupRam :
    (mhas rtcPage (rtcSt 0 false 0).pend = false ∧ mhas rtcPage (rtcSt 0 true 1).pend = true) ∧
    ((RtcSt.reset.trimPhase + 1) % 1048576 ≠ 0 ∧ RtcSt.reset.toOmit = 0 ∧ ({ RtcSt.reset with toOmit := 1 } : RtcSt).toOmit ≠ 0 ∧
      (rtcSt 65535 false 0).rtc.ticks < 2 ^ 64 ∧ (65535 + 1) % 2 ^ 64 / 65536 ≠ 65535 / 65536) ∧
    (fld ((rtcSt 0 true 0).shadow Reg.RTC_CTL) 1 0 = 0 ∧ fld ((rtcSt 0 true 1).shadow Reg.RTC_CTL) 1 0 = 1 ∧
      fld ((rtcSt 0 true 2).shadow Reg.RTC_CTL) 1 0 = 2) ∧
    ((rtcSt 0 false 0).rtc.lastEdge + 250000 ≤ (rtcSt 0 false 0).dtb ∧ (rtcSt 0 false 0).regB Reg.RTC_STAT 0 = false ∧
      State.reset.regB Reg.RTC_STAT 0 = true) ∧
    (mget false 127 ({ RtcSt.reset with badParity := [(127, true)] } : RtcSt).badParity = true ∧ 8 / 2 ^ 3 % 2 = 1 ∧
      (rtcSt 0 false 0).regB (Reg.RTC_BKPERR (127 / 32)) (127 % 32) = false) ∧
    (({ RtcSt.reset with trimPhase := 1048575 } : RtcSt).trimPhase + 1) % 1048576 = 0 ∧ sext 8 0x85 < 0 ∧ 0 ≤ sext 8 0x7F ∧
    (State.reset.ctl.rtcHanded = false ∧ ({ CtlSt.reset with rtcHanded := true } : CtlSt).rtcHanded = true ∧
      State.reset.granted (.loop 2) Reg.RTC_CMD = true) := by decide
/-- A tick at which TRIM is due adds 1 + TRIM, or starts to omit (R427). -/
def trimSt (v : Word) : State := { rtcSt 5 false 0 with rtc := { RtcSt.reset with ticks := 5, trimPhase := 1048575 }, act := [(Reg.RTC_TRIM, v)] }
theorem test_trim : okk (exec .rtcTick (trimSt 3)) (fun t => t.rtc.ticks == 9) = true ∧
    okk (exec .rtcTick (trimSt 0xFE)) (fun t => t.rtc.ticks == 5 && t.rtc.toOmit == 1) = true := by decide
/-- SET to 1 s and a half (R428); a SHIFT of -1 with its tick leaves the count (R428); FRAC latches the seconds (R429). -/
theorem test_rtc : okk (exec .rtcSet (rtcSt 5 true 1)) (fun t => t.rtc.ticks == 98304 && !t.isPending rtcPage) = true ∧
    okk (exec .rtcShift (rtcSt 5 true 2)) (fun t => t.rtc.ticks == 5) = true ∧
    okk (exec (.rtcFracRead (.loop 2)) (rtcSt 98304 false 0)) (fun t => t.answer == 0x8000 && t.reg (bk 2 Reg.RTC_SECL) == 1) = true := by
  decide
theorem test_backup : okk (exec (.bkramRead (.loop 2) 31 8) (rtcSt 5 false 0)) (fun t =>
    t.regB (Reg.RTC_BKPERR 3) 31 && t.regB Reg.RTC_STAT 3 && t.recd.handed.map (·.body) == [[31]]) = true := by decide

/-! ### Host links, HAP and the service tag -/

/-- Link HL-B enabled and up, at address 0xC0A80002 in VLAN 5; the other link disabled. -/
def lnkSt (st : Word) (x : Ptp) (disc : Option Nat) : State :=
  { State.reset with
    dtb := 1000000000, host := { HostSt.reset with ptps := [(1, x)], disc := disc },
    act := [(Reg.HST_LCFG 1, 0x80000005), (Reg.HST_LSTAT 1, st), (Reg.HST_IP 1, 0xC0A80002), (Reg.HST_PTPCFG, 0x80000064)] }
def inSync : Ptp := { Ptp.reset with capable := true, annAt := some 999999000, annInt := 1000, syncAt := some 999999000, syncInt := 1000, run := 4 }
theorem witness_HostLinksAndTime :
    ((lnkSt 0xC0000000 Ptp.reset none).linkEn 1 = true ∧ (lnkSt 0 Ptp.reset none).linkState 1 = 0 ∧ { State.reset with act := [(Reg.HST_LCFG 1, 5)] }.linkEn 1 = false ∧
      (lnkSt 0x40000000 Ptp.reset none).linkUp 1 = true ∧ (lnkSt 0 Ptp.reset none).linkUp 1 = false) ∧
    (mget 0 1 (lnkSt 0 Ptp.reset none).host.nextDiag ≤ 1000000000 ∧
      (lnkSt 0 Ptp.reset none).dtb < mget 0 1 { (lnkSt 0 Ptp.reset none).host with nextDiag := [(1, 1000000001)] }.nextDiag) ∧
    (5 = (lnkSt 0x40000000 Ptp.reset none).regF (Reg.HST_LCFG 1) 11 0 ∧ 6 ≠ (lnkSt 0x40000000 Ptp.reset none).regF (Reg.HST_LCFG 1) 11 0 ∧
      (lnkSt 0x40000000 Ptp.reset none).reg (Reg.HST_IP 1) = 0xC0A80002) ∧
    (Ptp.reset.nextReq ≤ 1000000000 ∧ Ptp.reset.reqAt = none ∧ ({ Ptp.reset with reqAt := some 7 } : Ptp).reqAt = some 7) ∧
    ((lnkSt 0x40000000 inSync none).ptpOk inSync = true ∧ (lnkSt 0x40000000 inSync none).ptpOk Ptp.reset = false) ∧
    ((lnkSt 0x40000000 inSync (some 1)).regB Reg.HST_PTPCFG 31 = true ∧
      (lnkSt 0x40000000 inSync (some 1)).regF Reg.HST_PTPCFG 29 0 < ((1000 : Int) - (0 + 0 + 0)).natAbs ∧
      ¬ (lnkSt 0x40000000 inSync (some 1)).regF Reg.HST_PTPCFG 29 0 < ((100 : Int) - (0 + 0 + 0)).natAbs) := by decide
/-- An offset of 1000 ns on the disciplining link steps the DTB back (R442); a link that comes up is recorded (R438). -/
theorem test_sync : okk (exec (.syncMessage 1 1000 1000 0 0) (lnkSt 0x40000000 inSync (some 1))) (fun t =>
      t.reg Reg.HST_OFFSET == 1000 && t.dtb == 999999000 && (t.recd.handed.map (·.code)).contains Ev.HST_DTB_STEP) = true ∧
    okk (exec (.hstLinkUp 1 true) (lnkSt 0 Ptp.reset none)) (fun t => t.linkUp 1 && t.recd.handed.map (·.body) == [[1, 0]]) = true := by
  decide
/-- The link delay from the four instants (R442): ((40 - 7) - (25 - 22)) / 2. -/
theorem test_delay : okk (exec (.pdelayResp 1 22 25 40 true) (lnkSt 0x40000000 { Ptp.reset with reqAt := some 7 } none)) (fun t =>
    (t.ptp 1).delay == 15 && (t.ptp 1).capable) = true := by decide

/-- Link HL-A up, credential 63 with a secret, cell 0 and rights 3; session 77 as given. -/
def hapSt (x : Session) : State :=
  { State.reset with
    dtb := 1000000000, sessions := [(77, x)],
    act := [(Reg.HST_LSTAT 0, 0x40000000), (Reg.HST_IP 0, 0xC0A80002), (Reg.HST_MASK 0, 0xFFFFFF00), (hiddenKey 9 504, 1), (Reg.HST_CRED 63, 0x80000C00)] }
def ses (rights : Nat) : Session := { Session.none with rights := rights, lastAt := 1000000000 }
def inLocal (s : State) : State := { s with act := (Reg.HST_FKEY, 0x1000) :: s.act }
/-- A message of session 77 on HL-A, untagged, its TAG that of the session's key, of bytes `extra` after the body. -/
def hx (key : List Byte) (seq type : Nat) (body extra : List Byte) : HapMsg :=
  let m : HapMsg := ⟨0, ⟨0, 100, .plain⟩, 0xC0A80002, 0xC0A80001, 0xB7A2, 0x4148, 1, none, 77, seq, (body ++ extra).length, 0, extra, []⟩
  { m with tag := hmacBytes key (hapHead m type ++ (body ++ extra)) 16 }
def hm (seq type : Nat) (body : List Byte) : HapMsg := hx [] seq type body []
/-- The same with no TAG, of another VLAN or another port. -/
def hbad : HapMsg := { hm 1 hapPing [] with tag := [] }
def other : HostFrame := ⟨9, 64, .plain⟩
def load9 (at' : List (Nat × Nat)) : HapLoad := ⟨9, 200, [], at', 1, 0, 0⟩
def recv (at' : List (Nat × Nat)) : Session := { ses 2 with load := some (load9 at') }
theorem witness_HostAccessProtocol :
    ((hapSt (ses 7)).linkUp 0 = true ∧ State.reset.linkUp 0 = false ∧ mhas 77 (hapSt (ses 7)).sessions = true ∧
      mhas 76 (hapSt (ses 7)).sessions = false ∧ (hapSt (ses 7)).onSafe = false ∧ hbad.frame.vid = 0 ∧
      hbad.port = (hapSt (ses 7)).regF Reg.HST_UDP 15 0 ∧ ¬ hbad.tag = hmacBytes [] (hapHead hbad hapPing) 16 ∧
      hbad.frame.kind = .plain ∧ hbad.dst = (hapSt (ses 7)).reg (Reg.HST_IP 0) ∧
      0xC0A800FF = ((hapSt (ses 7)).reg (Reg.HST_IP 0) ||| ~~~ (hapSt (ses 7)).reg (Reg.HST_MASK 0)) ∧
      ¬ other.vid = (hapSt (ses 7)).regF (Reg.HST_LCFG 0) 11 0 ∧
      ({ hapSt (ses 7) with act := (Reg.HST_LCFG 0, 9) :: (hapSt (ses 7)).act } : State).regF (Reg.HST_LCFG 0) 11 0 = 9) ∧
    (({ ses 7 with high := some 70, done := [70], cache := [(70, some []), (69, none)] } : Session).cache.find? (fun e => e.1 == 70) = some (70, some []) ∧
      ({ ses 7 with high := some 70, done := [70, 69], cache := [(70, some []), (69, none)] } : Session).cache.find? (fun e => e.1 == 69) = some (69, none) ∧
      ({ ses 7 with high := some 70, done := [70, 69] } : Session).takes 69 = false ∧
      ({ ses 7 with high := some 70, done := [70] } : Session).takes 70 = false ∧
      ({ ses 7 with high := some 70, done := [70] } : Session).takes 6 = true ∧
      ({ ses 7 with high := some 70, done := [70] } : Session).takes 5 = false ∧
      ({ ses 7 with high := some 70, done := [70] } : Session).cache.find? (fun e => e.1 == 5) = none ∧
      (ses 7).cache.find? (fun e => e.1 == 1) = none ∧ (ses 7).takes 1 = true) ∧
    ((ses 1).canRead = true ∧ (ses 0).canRead = false ∧ (ses 2).canWrite = true ∧ (ses 1).canWrite = false ∧ (ses 4).admin = true ∧
      (ses 2).admin = false ∧ (inLocal (hapSt (ses 7))).localMode = true ∧ (hapSt (ses 7)).localMode = false ∧ (ses 7).rights / 8 % 2 = 0 ∧
      (ses 15).rights / 8 % 2 = 1) ∧
    ((List.replicate 256 (0 : Word)).length ≤ 256 ∧ 256 < (List.replicate 257 (0 : Word)).length ∧
      (List.replicate 128 ((0, 0) : Word × Word)).length ≤ 128 ∧ 128 < (List.replicate 129 ((0, 0) : Word × Word)).length ∧
      (List.replicate 1024 (0 : Byte)).length ≤ 1024 ∧ 1024 < (List.replicate 1025 (0 : Byte)).length) ∧
    (((hapSt (ses 7)).cell 9).loading = none ∧ (hapSt (ses 7)).receivings = [] ∧ (hapSt (recv [])).receivings = [load9 []] ∧
      (ses 7).receiving = none ∧ (recv []).receiving = some (load9 []) ∧ (hapSt (ses 7)).areaUsed + 33554432 ≤ 33554432 ∧
      33554432 < { hapSt (ses 7) with cells := [(8, { Cell.empty with viaHap := true, loading := some ⟨[], 1⟩ })] }.areaUsed + 33554432 ∧
      ({ ses 2 with cell := 8 } : Session).cell ≠ 9) := by decide
theorem witness_HostAccessProtocol_loads :
    ((load9 []).total < 100 + (List.replicate 101 (0 : Byte)).length ∧ 100 + (List.replicate 100 (0 : Byte)).length ≤ (load9 []).total ∧
      (load9 []).written ≠ [(0, 200)] ∧ (load9 [(0, 200)]).written = [(0, 200)]) ∧
    ((List.replicate 8 (0 : Word)).length = 8 ∧ (hapSt (ses 7)).keyEmpty 15 = true ∧
      { hapSt (ses 7) with act := [(Reg.HST_KEY 15 0, 1)] }.keyEmpty 15 = false ∧
      credOk 5 1 0 (List.replicate 32 0) = true ∧ credOk 64 1 0 (List.replicate 32 0) = false ∧
      (hapSt (ses 7)).credNeedsLocal 0 15 0 = true ∧ (hapSt (ses 7)).credNeedsLocal 5 1 0 = false) ∧
    (mhas 63 (hapSt (ses 7)).host.blocked = false ∧ mhas 63 ({ HostSt.reset with blocked := [(63, 1000000000)] } : HostSt).blocked = true ∧
      mget 0 63 ({ HostSt.reset with blocked := [(63, 1000000000)] } : HostSt).blocked ≤ 1000000000 ∧
      (hapSt (ses 7)).credEmpty 63 = false ∧ (hapSt (ses 7)).credEmpty 62 = true ∧ (hapSt (ses 7)).sessions.length < 64 ∧
      64 ≤ ((List.range 64).map fun i => (i + 1, ses 7)).length) ∧
    (({ ses 7 with lastAt := 0 } : Session).lastAt + (hapSt (ses 7)).regF Reg.HST_HAPCFG 31 16 * 1000000000 ≤ 10000000000000 ∧
      (load9 []).lastData + 120000000000 ≤ 120000000000) := by decide
/-- An authentic message: of an open session, of a credential's secret, and with a byte after its body. -/
theorem witness_HostAccessProtocol_authentic :
    (let m := hm 1 hapPing []; m.magic = 0x4148 ∧ m.ver = 1 ∧ m.len = ([] ++ m.extra).length ∧ m.len ≤ 1424 ∧
      m.tag = hmacBytes ((hapSt (ses 7)).session 77).key (hapHead m hapPing ++ ([] ++ m.extra)) 16 ∧ m.cut = 0 ∧ m.extra = [] ∧ m.type = none) ∧
    (let m := hx [] 1 hapClose [] [5]; m.len = ([] ++ m.extra).length ∧ m.len ≤ 1424 ∧
      m.tag = hmacBytes [] (hapHead m hapClose ++ ([] ++ m.extra)) 16 ∧ m.extra ≠ [] ∧ hapShape hapClose m.extra = false ∧ hapShape hapOpen m.extra = false) ∧
    -- the bytes of EVT under the operands of CELL: another command's
    hapShape hapEvt (bytesOf 2 3 ++ bytesOf 2 0 ++ [0, 0, 0, 0]) = true ∧
    (let s := hapSt (ses 7); let nonce := List.replicate 16 (3 : Byte); let body := bytesOf 1 63 ++ nonce
     let m := hx (s.secret 63) 1 hapOpen body []; m.len = (body ++ m.extra).length ∧ m.len ≤ 1424 ∧
      m.tag = hmacBytes (s.secret 63) (hapHead m hapOpen ++ (body ++ m.extra)) 16) := by
  refine ⟨⟨rfl, rfl, rfl, by decide, rfl, rfl, rfl, rfl⟩, ⟨rfl, by decide, rfl, by decide, rfl, rfl⟩, rfl, ⟨rfl, by decide, rfl⟩⟩
/-- A fresh authentic request is executed and answered. -/
theorem hap_fresh (s : State) (m : HapMsg) (type : Nat) (body : List Byte) (f : State → HapRes)
    (h1 : s.hapReaches m = true) (h2 : s.hapAuth m type body = true) (h3 : (s.session m.sid).cache = [])
    (h4 : (s.session m.sid).high = none) (h5 : hapPlain m = true) :
    s.hapRequest m type body f =
      (let r := f ((s.setSession m.sid { s.session m.sid with lastAt := s.dtb }).setSession m.sid
          (({ s.session m.sid with lastAt := s.dtb }).mark (m.seq % 0x100000000)))
       match r.1 with
       | none => r.2
       | some a => r.2.hapReply [m.link] m.sid (m.seq % 0x100000000) type a.1 a.2) := by
  have h6 : m.type = none := by simp only [hapPlain, Bool.and_eq_true, Option.isNone_iff_eq_none] at h5; exact h5.2
  simp [State.hapRequest, State.hapServe, hapAnother, h1, h2, h3, Session.takes, h4, h5, h6] <;> rfl
theorem hap_auth (s : State) (key body extra : List Byte) (seq type : Nat) (h1 : mhas 77 s.sessions = true)
    (h2 : (s.session 77).key = key) (h3 : (body ++ extra).length ≤ 1424) : s.hapAuth (hx key seq type body extra) type body = true := by
  subst h2
  simp only [List.length_append] at h3
  simp [State.hapAuth, hapAuthentic, hx, h1, h3, hapHead, hapBody]
/-- A session that may not write changes no register by WR and is answered; a byte stream of an image is placed (R453, R455); a
message of no TAG is discarded and counted, and one of another VLAN is a dropped frame (R434, R446). -/
theorem test_hap :
    (let m := hm 1 hapWr (wordBytes ([((0x40704004 : Word), (7 : Word))].flatMap fun p => [p.1, p.2])); okk (exec (.wr m [(0x40704004, 7)]) (hapSt (ses 1))) (fun t =>
      t.act == (hapSt (ses 1)).act && (t.session 77).high == some 1 && t.host.sent.isSome) = true) ∧
    (let m := hm 1 hapImgData (bytesOf 4 100 ++ [1, 2, 3]); okk (exec (.imgData m 100 [1, 2, 3]) (hapSt (recv []))) (fun t =>
      ((t.session 77).load.map fun d => (d.written, mget 0 102 d.bytes)) == some ([(100, 103)], 3)) = true) ∧
    okk (exec (.ping hbad) (hapSt (ses 7))) (fun t =>
      t.reg Reg.HST_HAPCNT == 1 && t.recd.handed.map (·.code) == [Ev.HAP_AUTH_FAIL]) = true ∧
    okk (exec (.ping { hbad with frame := other }) (hapSt (ses 7))) (fun t =>
      t.regF (Reg.HST_LCNT 0) 15 0 == 1 && t.recd.handed == []) = true := by
  refine ⟨?_, ?_, by decide, by decide⟩
  · simp only [exec, execWr, hm]
    rw [hap_fresh (h2 := hap_auth _ _ _ _ _ _ ?_ ?_ ?_)] <;> decide
  · simp only [exec, execImgData, hm]
    rw [hap_fresh (h2 := hap_auth _ _ _ _ _ _ ?_ ?_ ?_)] <;> decide

/-- A commissioning mailbox (Table 13.9) that is to be read: MAGIC, zeros and its CRC, or a wrong CRC. -/
def boxSt (crc : Word) (due : Bool) (hold : Option (Nat × List Byte × Nat)) : State :=
  { State.reset with
    dtb := 10000000000,
    svcTag := { TagSt.reset with mbxDue := due, hold := hold, mem := [(1024, 0x43), (1025, 0x4D), (1026, 0x58), (1027, 0x42)] ++
      ((List.range 4).map fun i => (1276 + i, BitVec.ofNat 8 (crc.toNat / 256 ^ i))) } }
def boxOf (s : State) : List Byte := (List.range 256).map fun i => mget 0 (1024 + i) s.svcTag.mem
theorem witness_ServiceTag :
    (TagSt.reset.hold = none ∧ (boxSt 0 true (some (64, [], 0))).svcTag.hold = some (64, [], 0) ∧ TagSt.reset.wired = none ∧
      ({ TagSt.reset with wired := some (64, [], 0) } : TagSt).wired = some (64, [], 0) ∧
      ({ TagSt.reset with wired := some (511, [], 0) } : TagSt).wired = some (511, [], 0)) ∧
    (bitAt (0x80000050 : Word) 31 = true ∧ fld (0x80000050 : Word) 8 0 = 80 ∧ fld (0x8000004F : Word) 8 0 < 80) ∧
    (TagSt.reset.nextStatus ≤ 0 ∧ TagSt.reset.nextCheck ≤ 0) ∧
    ((boxSt 0x346C4FA0 true none).svcTag.mbxDue = true ∧ ofBytes ((boxOf (boxSt 0x346C4FA0 true none)).take 4) = 0x42584D43 ∧
      ofBytes ((boxOf State.reset).take 4) ≠ 0x42584D43 ∧ (boxSt 0 false none).svcTag.mbxDue = false) ∧
    (State.reset.granted (.loop 0) Reg.TAG_WCMD = true ∧ (boxSt 0 true none).granted (.session 9) Reg.TAG_WCMD = true) := by decide
theorem witness_ServiceTag_crc : crc32 ((boxOf (boxSt 0x346C4FA0 true none)).take 252) =
    BitVec.ofNat 32 (ofBytes ((boxOf (boxSt 0x346C4FA0 true none)).drop 252)) := by decide +kernel
/-- Block 80 is beyond the status blocks: a wired write of it starts (R462); a reader's read of block 512 is error 0x10 (R459). -/
theorem test_tag : okk (exec (.tagWcmd (.loop 0) 0x80000050) State.reset) (fun t => t.svcTag.wired.isSome && t.regF Reg.TAG_WRES 31 28 == 2) = true ∧
    okk (exec (.extendedReadSingleBlock 512) State.reset) (fun t => t.host.sent.map (·.bytes) == some [1, 0x10]) = true := by decide
/-- A mailbox of zeros is cleared and recorded (R463). -/
theorem test_commission : okk (exec .tagCommission (boxSt 0x346C4FA0 true none)) (fun t =>
      mget 0 1024 t.svcTag.mem == 0 && t.recd.handed.map (·.code) == [Ev.TAG_COMMISSION]) = true := by decide +kernel

/-- Face registers and instants given; trace buffer 15 captures in mode 3. -/
def faceSt (d : Nat) (f : FaceSt) (key : Word) : State :=
  { State.reset with dtb := d, face := f, act := [(Reg.HST_FKEY, key), (Reg.TRC_CFG 15, 0xC0000003), (Reg.HST_HAPCFG, 0x003C0001)] }
theorem witness_FrontFaceAndTraces :
    ((faceSt 0 FaceSt.reset 0x200).regB Reg.HST_FKEY 9 = true ∧ (faceSt 0 FaceSt.reset 0).regB Reg.HST_FKEY 9 = false ∧
      ¬ mget 0 1 FaceSt.reset.upAt + 100000000 ≤ 99999999) ∧
    (({ FaceSt.reset with localAt := some 5 } : FaceSt).localAt = some 5 ∧ 5 + 2000000000 ≤ 2000000005 ∧
      ({ FaceSt.reset with testAt := some 5 } : FaceSt).testAt = some 5 ∧ FaceSt.reset.localAt = none) ∧
    ((faceSt 60000000000 FaceSt.reset 0x1000).localMode = true ∧
      FaceSt.reset.lastPress + (faceSt 0 FaceSt.reset 0).regF Reg.HST_HAPCFG 7 0 * 60000000000 ≤ 60000000000) ∧
    ((faceSt 30000000001 FaceSt.reset 0x80).regB Reg.HST_FKEY (4 + 3) = true ∧ (faceSt 0 FaceSt.reset 0x80).regB Reg.HST_FKEY (8 + 3) = false ∧
      mget 0 3 FaceSt.reset.downAt + 30000000000 < 30000000001) ∧
    ((faceSt 0 FaceSt.reset 0).trcMode 15 = 3 ∧ (faceSt 0 FaceSt.reset 0).regB (Reg.TRC_STAT 15) 19 = false ∧
      (faceSt 0 FaceSt.reset 0).trcCapturing 15 = true ∧ State.reset.trcMode 15 ≠ 3) ∧
    ((faceSt 0 FaceSt.reset 0).granted (.loop 0) Reg.HST_ALARM = true ∧ (faceSt 0 FaceSt.reset 0).granted (.loop 5) (Reg.TRC_CTL 15) = true ∧
      mget 0 3 FaceSt.reset.upAt + 100000000 ≤ (faceSt 100000000 FaceSt.reset 0x800).dtb ∧
      (faceSt 100000000 FaceSt.reset 0x800).regB Reg.HST_FKEY (8 + 3) = true) := by decide
/-- ACK clears SOUND and counts (R465, R466); LOCAL after 2 s (R467). -/
theorem test_face : okk (exec .ack { faceSt 9 FaceSt.reset 0 with act := [(Reg.HST_ALARM, 3)] }) (fun t =>
      t.reg Reg.HST_ALARM == 1 && t.regF Reg.HST_FKCNT 7 0 == 1 && t.recd.handed.map (·.code) == [Ev.FACE_KEY]) = true ∧
    okk (exec .faceLocal (faceSt 2000000005 { FaceSt.reset with localAt := some 5 } 0)) (fun t => t.localMode && t.svcTag.mbxDue) = true ∧
    okk (exec (.trcTrig (.loop 0) 15) (faceSt 9 FaceSt.reset 0)) (fun t =>
      (t.trace 15).post == some 3 && t.regB (Reg.TRC_STAT 15) 19) = true := by decide

/-! ### Power, clocks, resets and the step -/

/-- The module out of power-on reset, its power manager and registers given. -/
def pwrSt (d : Nat) (p : PwrSt) (act : SMap Word) : State :=
  { State.reset with dtb := d, pwr := p, ctl := { CtlSt.reset with por := none }, act := act }
def dip : SMap Word := [(Reg.PWR_STAT, 0x00010000)]
def b3 (v : Nat) : List Nat := [1800, v, v, v]
/-- The deepest tier of three samples running below its threshold, as the statement counts it. -/
def deep (v : List Nat) : Nat := ([1620, 1560, 1500, 1450, 1400].filter fun th =>
  (List.range (v.length - 2)).any fun i => [0, 1, 2].all fun j => decide (v.getD (i + j) 0 < th)).length
def lowSince (s : State) (v : List Nat) : Nat := (List.range v.length).foldl
  (fun x i => if v.getD i 0 ≤ 1850 then s.dtb - 10000 * (v.length - 1 - i) else x) s.pwr.lastLow
theorem witness_TiersAndDemands :
    (PwrSt.reset.deepest ≤ 5 ∧ (pwrSt 0 PwrSt.reset dip).demV ≤ 5 ∧ (pwrSt 0 PwrSt.reset dip).demT ≤ 5 ∧ (pwrSt 0 PwrSt.reset dip).demF ≤ 4) ∧
    ((pwrSt 0 PwrSt.reset dip).inDip = true ∧ (pwrSt 0 PwrSt.reset []).inDip = false ∧ PwrSt.reset.down = none) ∧
    ((List.range (3 - 2)).any (fun i => [0, 1, 2].all fun j => decide (((vins (b3 1749) (b3 0)).drop 1).getD (i + j) 0 < 1750)) = true ∧
      (List.range (3 - 2)).any (fun i => [0, 1, 2].all fun j => decide (((vins (b3 1750) (b3 0)).drop 1).getD (i + j) 0 < 1750)) = false) ∧
    ((pwrSt 50009999 PwrSt.reset dip).dtb < lowSince (pwrSt 50009999 PwrSt.reset dip) [1851] + 50010000 ∧
      lowSince (pwrSt 50010000 PwrSt.reset dip) [1851] + 50010000 ≤ (pwrSt 50010000 PwrSt.reset dip).dtb ∧
      (pwrSt 50010000 PwrSt.reset dip).dtb < lowSince (pwrSt 50010000 PwrSt.reset dip) [1850, 1851] + 50010000) ∧
    ((pwrSt 0 PwrSt.reset dip).ctl.por = none ∧ State.reset.ctl.por ≠ none ∧
      0 + 1 ≤ max (max (pwrSt 0 PwrSt.reset dip).demV (deep (vins (b3 1619) (b3 0)))) 0 ∧
      max (max (pwrSt 0 PwrSt.reset dip).demV (deep (vins (b3 1620) (b3 0)))) 0 < 0 + 1 ∧
      4 + 1 ≤ max (max (pwrSt 0 PwrSt.reset dip).demV (deep (vins (b3 1399) (b3 0)))) 0 ∧
      PwrSt.reset.tierAt ≠ some ((((pwrSt 0 PwrSt.reset dip).dtb : Int) - PwrSt.reset.sampleAt) / 10000) ∧
      ({ PwrSt.reset with tierAt := some 0 } : PwrSt).tierAt = some ((((pwrSt 9999 PwrSt.reset dip).dtb : Int) - PwrSt.reset.sampleAt) / 10000) ∧
      (pwrSt 0 PwrSt.reset dip).demT ≠ 5 ∧ State.reset.ctl.island = none ∧ State.reset.ctl.run = none) ∧
    (max (pwrSt 5 PwrSt.reset []).demV (max (pwrSt 5 PwrSt.reset []).demT (pwrSt 5 PwrSt.reset []).demF) < 1 ∧
      (pwrSt 5 PwrSt.reset []).regB Reg.PWR_STAT 15 = false) ∧
    ((1400 : Int) ≤ 1400 ∧ ¬ (1400 : Int) ≤ 1399 ∧
      ({ PwrSt.reset with rise := [some 0, none, none, none, none] } : PwrSt).rise.getD 0 none = some 0 ∧ 0 + 1000000000 ≤ 1000000000 ∧
      (pwrSt 0 PwrSt.reset [(Reg.PWR_STAT, 0x00800000)]).demT = 1 ∧ (1220 : Int) ≤ 1270 - 50 ∧
      ({ PwrSt.reset with fall := some 0 } : PwrSt).fall = some 0) ∧
    (({ PwrSt.reset with thermalHold := true } : PwrSt).thermalHold = true ∧ (1100 : Int) ≤ 1100) ∧
    (4 < fld (5 : Word) 2 0 ∧ fld (4 : Word) 2 0 ≤ 4 ∧ (pwrSt 0 PwrSt.reset []).granted (.session 9) Reg.PWR_FORCE = true) := by decide
/-- Three samples of 16.19 V in a dip take T1 (R488); three of 16.20 V do not. -/
theorem test_tier : okk (exec (.tierTakeEffect (b3 1619) (b3 0)) (pwrSt 0 PwrSt.reset dip)) (fun t => t.pwr.deepest == 1 && t.regB Reg.LAT_GSTAT 31) = true ∧
    okk (exec (.tierTakeEffect (b3 1620) (b3 0)) (pwrSt 0 PwrSt.reset dip)) (fun t => t.pwr.deepest == 0) = true ∧
    okk (exec (.pwrDip [1851] [0]) (pwrSt 50010000 PwrSt.reset dip)) (fun t => !t.inDip) = true ∧
    okk (exec (.pwrDip [1850, 1851] [0, 0]) (pwrSt 50010000 PwrSt.reset dip)) (fun t => t.inDip) = true := by decide
/-- 127.0 degrees for 1 s demand T1 (R486); a forced tier is recorded (R487). -/
theorem test_demands : okk (exec (.pwrThermal 1270 0) (pwrSt 1000000000 { PwrSt.reset with rise := [some 0, none, none, none, none] } []))
      (fun t => t.demT == 1 && t.recd.handed.map (·.code) == [Ev.PWR_THERMAL]) = true ∧
    okk (exec (.pwrForceWrite (.session 1) 4) (pwrSt 5 PwrSt.reset [])) (fun t => t.demF == 4 && t.recd.handed.map (·.body) == [[0, 4]]) = true := by
  decide

/-- Flags of supply input 1, and the FIELD state with its trips. -/
def supSt (d : Nat) (p : PwrSt) (flags field : Word) : State := pwrSt d p [(Reg.PWR_INSTAT 1, flags), (Reg.PWR_FSTAT, field)]
theorem witness_SuppliesAndMiswiring :
    ((supSt 0 PwrSt.reset 0 0).inFlag 1 3 = false ∧ (supSt 0 PwrSt.reset 8 0).inFlag 1 3 = true ∧ (supSt 0 PwrSt.reset 2 0).inFlag 1 1 = true ∧
      (supSt 0 PwrSt.reset 4 0).inFlag 1 2 = true ∧ (-101 : Int) < -100 ∧ (599 : Int) < 600 ∧ (3800 : Int) < 3801 ∧ (600 : Int) ≤ 3600) ∧
    ((supSt 0 PwrSt.reset 0 0x2000).fieldState = 2 ∧ ¬ ((supSt 0 PwrSt.reset 0 0x2000).fieldState = 3 ∨ (supSt 0 PwrSt.reset 0 0x2000).fieldState = 4) ∧
      (supSt 0 PwrSt.reset 0 0x7000).fieldState = 7 ∧ (supSt 0 PwrSt.reset 0 0x1000).fieldState = 1 ∧ (1599 : Int) < 1600 ∧ (3600 : Int) < 3601 ∧
      ((1600 : Int) ≤ 1600 ∧ (1600 : Int) ≤ 3600 ∧ (1600 : Int) < 1700) ∧ (1700 : Int) ≤ 3400) ∧
    (({ FieldSw.reset with startAt := some 0 } : FieldSw).startAt = some 0 ∧ 0 + 1000000000 ≤ 1000000000 ∧ FieldSw.reset.startAt = none ∧
      5 ≤ (supSt 5 PwrSt.reset 0 0x1400).regF Reg.PWR_FSTAT 11 8 + 1 ∧ 0 + 5000000 ≤ 5000000 ∧ (999 : Int) < 1000 ∧
      FieldSw.reset.on = false ∧ ({ FieldSw.reset with on := true } : FieldSw).on = true ∧ FieldSw.reset.uv = false ∧
      ({ FieldSw.reset with uv := true } : FieldSw).uv = true ∧ ({ FieldSw.reset with ov := true } : FieldSw).ov = true ∧
      ({ FieldSw.reset with rev := true } : FieldSw).rev = true) ∧
    ((supSt 1000000000 PwrSt.reset 0 0x3000).fieldState = 3 ∧ ({ FieldSw.reset with tripAt := some 0 } : FieldSw).tripAt = some 0 ∧
      ({ FieldSw.reset with latched := true } : FieldSw).latched = true ∧ FieldSw.reset.latched = false ∧
      (supSt 0 PwrSt.reset 0 0).granted (.loop 0) Reg.PWR_CMD = true ∧
      (supSt 0 PwrSt.reset 0 0x4500).fieldState = 4 ∧ (supSt 0 PwrSt.reset 0 0x7000).svHsOff (7 / 6) = false) ∧
    ((pwrSt 0 PwrSt.reset dip).inDip = true ∧ (pwrSt 0 PwrSt.reset []).inDip = false ∧ PwrSt.reset.testedAt = none ∧
      ({ PwrSt.reset with testedAt := some 0 } : PwrSt).testedAt = some 0 ∧ ({ PwrSt.reset with testAt := some 0 } : PwrSt).testAt ≠ none) ∧
    (PwrSt.reset.nextVbak ≤ 0 ∧ (pwrSt 0 PwrSt.reset []).regF Reg.PWR_CFG 29 28 ≠ 2) := by decide
/-- The fifth trip in a second latches (R481); VIN-B reversed (Table 14.6). -/
theorem test_field : okk (exec (.pwrFieldTrip ⟨999, 0, 0⟩)
      (supSt 5000000 { PwrSt.reset with field := { FieldSw.reset with startAt := some 0 } } 0 0x1400)) (fun t =>
      t.fieldState == 4 && t.recd.handed.map (·.code) == [Ev.PWR_FIELD_TRIP, Ev.PWR_FIELD_LATCH]) = true ∧
    okk (exec (.pwrInputRev 1 (-101)) (supSt 5 PwrSt.reset 0 0)) (fun t =>
      t.regF (Reg.PWR_INSTAT 1) 15 0 == 8 && t.recd.handed.map (·.code) == [Ev.PWR_INPUT_REV]) = true := by decide

/-- Loop 5 of cell 3, granted the CTL and the CLK page. -/
def grantSt : State := { engSt HwkSt.reset with act := [(bk 3 (Reg.PLC_GPAGE 0), 1), (bk 3 (Reg.PLC_GPAGE 1), 1)] }
/-- The module in SAFE mode with a relock, or with an island that holds power-on reset. -/
def clkSt (d : Nat) (c : CtlSt) (stat : Word) : State := { State.reset with dtb := d, ctl := c, act := [(Reg.CLK_STAT, stat)] }
def relocking (n : Nat) : CtlSt := { CtlSt.reset with por := none, relock := some ⟨0, 0, n⟩ }
theorem witness_ClocksAndRelock :
    (∀ r, CtlSt.reset.run = some r → r.scope ≤ 2 ∧ (r.scope = 0 → r.asserted = false)) ∧
    ((clkSt 0 (relocking 1) 0x40000000).onSafe = true ∧ (clkSt 0 (relocking 1) 0x04000000).onSafe = false) ∧
    ((∀ x ∈ [1498, 1498, 1498, 1498], x < 1499 ∨ 1501 < x) ∧ (∀ x ∈ [1516, 1516], 1515 < x) ∧ (∀ x ∈ List.replicate 64 1501, 1499 ≤ x ∧ x ≤ 1501) ∧
      ¬ (∀ x ∈ [1498, 1499, 1498, 1498], x < 1499 ∨ 1501 < x)) ∧
    (State.reset.whoCell (.session 9) = 0 ∧ (engSt HwkSt.reset).whoCell (.loop 5) ≠ 0 ∧
      State.reset.granted (.session 9) Reg.CLK_CMD = true ∧ grantSt.granted (.loop 5) Reg.CLK_CMD = true ∧
      grantSt.whoCell (.loop 5) ≠ 0) ∧
    (CtlSt.reset.relock = none ∧ (relocking 3).relock = some ⟨0, 0, 3⟩ ∧ (1499 : Nat) ≤ 1501 ∧ 0 + 64000 ≤ 64000 ∧ 0 + 2000000 ≤ 2000000) ∧
    ((clkSt 0 (relocking 1) 0x04000000).regB Reg.CLK_STAT 26 = true ∧ (relocking 1).por = none ∧ 50000 < (50001 : Int).natAbs ∧
      ({ State.reset with act := [(Reg.RTC_STAT, 2)] } : State).regB Reg.RTC_STAT 0 = false) ∧
    (({ CtlSt.reset with held := true } : CtlSt).held = true ∧ ({ CtlSt.reset with held := true } : CtlSt).por ≠ none ∧
      ({ CtlSt.reset with held := true } : CtlSt).nextRetry ≤ 0) :=
  ⟨(fun _ h => nomatch h), by decide⟩
/-- Four counts below 1499 lose the lock (R503); 64 us of lock in band relocks (R504). -/
theorem test_clock : okk (exec (.pllLockLoss [1498, 1498, 1498, 1498]) (clkSt 0 { CtlSt.reset with por := none } 0x0C000000)) (fun t =>
      t.onSafe && t.ctl.relock == some ⟨0, 0, 1⟩ && t.recd.handed.map (·.code) == [Ev.CLK_UNLOCK]) = true ∧
    okk (exec (.pllLockLoss [1498, 1499, 1498, 1498]) (clkSt 0 { CtlSt.reset with por := none } 0x0C000000)) (fun t => !t.onSafe) = true := by
  decide
theorem test_relock : okk (exec (.clkRelock (List.replicate 64 1501)) (clkSt 64000 (relocking 2) 0x40000000)) (fun t =>
    !t.onSafe && t.recd.handed.map (·.body) == [[64, 2]]) = true := by decide

/-- A reset sequence in progress, and an island's action. -/
def runSt (d : Nat) (r : Option ResetRun) (isl : Option IslandAct) : State :=
  { State.reset with
    dtb := d, ctl := { CtlSt.reset with por := none, run := r, island := isl, wdLeft := some 0, house := some 5 },
    act := [(Reg.CTL_CFG, 0x00640000), (Reg.LAT_CFG 31, 0x80000000)] }
def blockRun (asserted : Bool) : ResetRun := ⟨2, 10, 1024, 0x40, true, asserted, true⟩
def sysRun (asserted : Bool) : ResetRun := ⟨1, 7, 128, 0, true, asserted, true⟩
def porRun : ResetRun := ⟨0, 3, 8, 0, true, false, true⟩
def isl (todo : List Nat) : IslandAct := ⟨1, 0, todo, [], [4, 5, 6], false, [], false⟩
theorem witness_ResetsAndStartUp_granted : grantSt.whoCell (.loop 5) ≠ 0 ∧
    (∀ a ∈ [Reg.CTL_RESET, Reg.CTL_BRST, Reg.CTL_WDKICK], grantSt.granted (.loop 5) a = true ∧
      (runSt 0 none none).granted (.session 9) a = true) := by decide
theorem witness_ResetsAndStartUp :
    ((engSt HwkSt.reset).whoCell (.loop 5) ≠ 0 ∧ (runSt 0 none none).whoCell (.session 9) = 0 ∧ (runSt 0 none none).ctl.run = none ∧
      (runSt 0 (some (blockRun true)) none).ctl.run = some (blockRun true)) ∧
    (fld (0xC3000040 : Word) 31 24 = 0xC3 ∧ fld (0xC3000040 : Word) 9 0 ≠ 0 ∧ fld (0xC3000000 : Word) 9 0 = 0 ∧
      fld (0xC2000040 : Word) 31 24 ≠ 0xC3 ∧ (0x1A55A : Word) ≠ 0xA55A) ∧
    ((runSt 0 none none).ctl.wdLeft = some 0 ∧ CtlSt.reset.wdLeft ≠ some 0) ∧
    ((runSt 1000000 none none).onSafe = false ∧ (runSt 1000000 none none).ctl.por = none ∧ CtlSt.reset.beat + 1000000 ≤ 1000000) ∧
    ((isl []).todo = [] ∧ (isl [1, 2, 3]).todo ≠ [] ∧ 1 ∈ (isl [1, 2, 3]).todo ∧ 3 ∈ (isl [1, 2, 3]).todo ∧ 3 ∉ (isl [1, 2]).todo ∧
      (isl [1, 2]).flushing = false ∧ (isl [1, 2]).recorded = false ∧ 4 ∉ (isl [1, 2]).todo ∧ 4 ∈ (isl [4]).todo) ∧
    ((blockRun false).asserted = false ∧ (blockRun false).flushed = true ∧ (runSt 0 (some (blockRun false)) none).ctl.island = none ∧
      (sysRun false).scope = 1 ∧ porRun.scope = 0 ∧ porRun.asserted = false ∧ (blockRun false).scope = 2 ∧
      (runSt 0 (some (sysRun false)) none).sv.chans = []) ∧
    ((sysRun true).asserted = true ∧ (blockRun true).asserted = true ∧ 6 ∉ blocksOf ({ blockRun true with blocks := 0x10 } : ResetRun).blocks) ∧
    (CtlSt.reset.held = false ∧ PwrSt.reset.thermalHold = false ∧ 1650 ≤ max 1650 0 ∧ CtlSt.reset.por = some 0 ∧ max 1750 0 ≤ 1750) ∧
    ((runSt 0 none none).ctl.house = some 5 ∧ (runSt 0 none none).ctl.live = false ∧
      (runSt 0 none none).quickHouse.all (runSt 0 none none).isLive = true) ∧
    ((runSt 3000000000 none none).ctl.late = false ∧ (runSt 3000000000 none none).ctl.relAt + 3000000000 ≤ 3000000000 ∧
      ((runSt 0 none none).latEn 31 && !((runSt 0 none none).trunk 31).fullDone) = true ∧
      (State.reset.latEn 31 && !(State.reset.trunk 31).fullDone) = false) := by decide
/-- A key other than 0xA55A is recorded and does not feed the watchdog (R511); its expiry asks for a system reset with cause 4. -/
theorem test_watchdog : okk (exec (.ctlWdkickWrite (.session 9) 0x1A55A) (runSt 0 none none)) (fun t =>
      t.ctl.wdLeft == some 0 && t.recd.handed.map (·.code) == [Ev.CTL_WDKICK_BAD]) = true ∧
    okk (exec .ctlWatchdog (runSt 0 none none)) (fun t => t.ctl.run.map (·.cause) == some 4 && t.ctl.wdLeft == none) = true := by decide
/-- A block reset of the I/O block drops its posture when it is released (R515). -/
theorem test_block_reset : okk (exec .resetAssert (runSt 0 (some (blockRun false)) none)) (fun t =>
      t.ctl.run == some (blockRun true) && t.regF Reg.CTL_RCAUSE 31 28 == 2 && t.regF Reg.CTL_RCAUSE 9 0 == 0x40) = true ∧
    okk (exec (.resetRelease []) (runSt 0 (some (blockRun true)) none)) (fun t => t.ctl.run == none) = true := by decide
/-- Power-on reset stays in force at 16.49 V and after less than 10 ms (R510, R520). -/
theorem test_release : okk (exec (.powerOnResetRelease 1649 0 10000000 false []) State.reset) (fun t => t.ctl.por == some 0) = true ∧
    okk (exec (.powerOnResetRelease 1650 0 9999999 false []) State.reset) (fun t => t.ctl.por == some 0) = true := by decide

/-- A queue of one command that changes nothing else. -/
def queueSt : State := { State.reset with pending := [.frameSelection 0] }
theorem witness_CommandsCompleteAndKeepTheQueue : (∀ k, k < 1 → step (if k = 0 then queueSt else State.reset) = .next State.reset) ∧
    1 ≤ queueSt.pending.length := by
  constructor
  · intro k h
    have h0 : k = 0 := by omega
    subst h0
    rfl
  · decide
theorem witness_TheTickAdvancesTime : (State.reset.pending = [] ∧ (∀ e ∈ State.reset.traces, e.1 < 16)) ∧
    (State.reset.onSafe = false ∧ State.reset.rateNow = 0 ∧ State.reset.host.rateAcc = 0) ∧
    ({ State.reset with act := [(Reg.CLK_STAT, 0x40000000)] }.onSafe = true) ∧
    (State.reset.recd.hoursAt + 1000000000 ≤ { State.reset with dtb := 1000000000 }.dtb) := by decide
/-- A tick of the root clock adds 8 ns (R23), in SAFE mode one of 25 MHz 40 ns (R500). -/
theorem test_tick : okk (step State.reset) (fun t => t.dtb == 8) = true ∧
    okk (step { State.reset with act := [(Reg.CLK_STAT, 0x40000000)] }) (fun t => t.dtb == 40) = true := by decide
theorem witness_TheDtbStaysAMultipleOfEight : State.reset.dtb % 8 = 0 ∧ State.reset.dtb < 0x10000000000000000 ∧
    ∃ t, step State.reset = .next t := ⟨by decide, by decide, ⟨_, rfl⟩⟩
theorem witness_EveryStepKeepsTheOrderOfTheState : State.reset.InOrder ∧ ∃ t, step State.reset = .next t :=
  ⟨⟨by decide, by decide, by decide, by decide, by decide, by decide, by decide, by decide, by decide, fun _ h => nomatch h⟩, ⟨_, rfl⟩⟩

end Sys2Proof.Tests
end

section
/-! SUPPORT. The state at power-on (R20, R500). -/
namespace Sys2Proof.Machine

theorem reset_reg (k : Nat) : State.reset.reg k = resetOf k := rfl

theorem reset_shadow (k : Nat) : State.reset.shadow k = resetOf k := rfl

theorem reset_inOrder : State.reset.InOrder := by
  refine ⟨rfl, rfl, rfl, ?_, ?_, ?_, ?_, ?_, ?_, ?_⟩ <;> simp [State.reset, SvSt.reset, PwrSt.reset, CtlSt.reset]

/-- Settles O58, by evaluation: an untouched register reads its reset value, and the maps of the state are empty. -/
theorem resetState : Obligations.ResetState := by
  unfold Obligations.ResetState
  refine ⟨⟨rfl, by decide⟩, rfl, rfl, rfl, rfl, rfl, rfl, rfl, rfl, rfl, rfl, by decide, rfl,
    fun k => ⟨reset_reg k, reset_shadow k⟩, reset_inOrder, ?_⟩
  simp only [reset_reg]
  decide
end Sys2Proof.Machine
end

section
/-! SUPPORT. A tick can complete a valid frame of the Key link (R394), whose events go to the recorder. -/
namespace Sys2Proof.Machine

/-! ### A receiver in lock between the ends of two frames -/

theorem push_n (c : KeyCand) (b : Bool) : (c.push b).n = if c.n = 2499 then 0 else c.n + 1 := by
  unfold KeyCand.push; split <;> rfl

theorem lockBit_silent (sync : Nat) (r : KeyRx) (c : KeyCand) (b : Bool) (h : c.n ≠ 2495) :
    r.lockBit sync c b = ({ r with lock := some (c.push b) }, none) := by
  have hn : (c.push b).n ≠ 2496 := by rw [push_n]; split <;> omega
  simp [KeyRx.lockBit, hn]

/-- In lock, bits that do not reach the last CRC bit of a frame end none. -/
theorem feed_lock_silent (sync : Nat) (bs : List Bool) (r : KeyRx) (c : KeyCand) (hl : r.lock = some c) (hn : c.n ≤ 2499)
    (h : bs.length ≤ (4995 - c.n) % 2500) : (r.feed sync bs).2 = [] := by
  induction bs generalizing r c with
  | nil => rfl
  | cons b bs ih =>
    rw [List.length_cons] at h
    have hbit : r.bit sync b = ({ r with lock := some (c.push b) }, none) := by
      rw [KeyRx.bit, hl]; exact lockBit_silent sync r c b (by omega)
    simp only [KeyRx.feed, hbit, Option.toList_none, List.nil_append]
    exact ih _ (c.push b) rfl (by rw [push_n]; split <;> omega) (by rw [push_n]; split <;> omega)

/-! ### A valid frame after a loss of the link -/

/-- It is recorded (R397): DIO_LINK_OK, and DIO_FIELD_SAFE where SAFECNT has moved. -/
theorem keyValid_records (s : State) (f : UpFrame × UpValues) (hlos : s.regB Reg.DIO_KSTAT 29 = true) (hlost : s.dio.lost = true) :
    (s.keyValid f).recd.handed ≠ [] := by
  have show_ (t : State) : t.ioShow.recd = t.recd := by
    unfold State.ioShow
    induction allIo generalizing t with
    | nil => rfl
    | cons n l ih => rw [List.foldl_cons, ih, setReg_recd]
  simp only [State.keyValid, show_, hlos, hlost, Bool.and_self, if_true]
  split <;> simp [State.setDio, State.emitAt]

/-! ### The counterexample -/

/-- An upstream frame with SEQ 1 and nothing to report; its CRC ends in a 0. -/
def plainFrame : List Bool :=
  upBits ⟨1, 0, 0, false, false, false, [], [], 0, [], List.replicate 16 0, List.replicate 16 0, 0, 0⟩
    ⟨0, 2400, 25, List.replicate 64 0⟩

/-- The logic side's receiver in lock, after a frame with SEQ 0 and all but the last CRC bit of `plainFrame`. -/
def cutRx : KeyRx := { KeyRx.reset with lock := some ⟨2495, (plainFrame.take 2495).reverse, 3, 0, 0⟩ }

/-- The link is lost, the field side has no power, the logic side's receiver is `rx`, and the next tick brings the sample instant of an
upstream frame. -/
def lostState (rx : KeyRx) : State := { State.reset with dtb := 29992, dio := { DioSt.reset with rx := rx, lost := true } }

/-- The same after the tick, before the field side acts. -/
def tickedState (rx : KeyRx) : State := { lostState rx with dtb := 30000 }

/-- At that tick the receiver hears a frame time of a quiet lane (R394). -/
theorem tickedState_keyInstant (rx : KeyRx) (h : rx.idle = false) :
    (tickedState rx).keyInstant 20000 = (tickedState rx).keyHear 20000 quietBits := by
  have hsafe : (tickedState rx).onSafe = false := show (fld (resetOf Reg.CLK_STAT) 31 30 != 0) = false by decide
  have hdark : (tickedState rx).dio.field.powered = false := rfl
  have hhears : ((tickedState rx).dio.held || rx.idle) = false := h
  have hrx : (tickedState rx).dio.rx = rx := rfl
  simp [State.keyInstant, State.upQuiet, hsafe, hdark, hrx, hhears]

theorem lostState_tick (rx : KeyRx) (h : rx.idle = false) :
    (lostState rx).tick = (tickedState rx).keyHear 20000 quietBits := by
  have hsafe : (lostState rx).onSafe = false := show (fld (resetOf Reg.CLK_STAT) 31 30 != 0) = false by decide
  have hrate : (lostState rx).rateNow = 0 := show sext 32 (resetOf Reg.HST_RATE).toNat = 0 by decide
  have hacc : (lostState rx).host.rateAcc = 0 := rfl
  have htick : (lostState rx).tickOf = (8, 0) := by simp [State.tickOf, hsafe, hrate, hacc]
  have hnow : (lostState rx).dtb = 29992 := rfl
  have hdtb : (29992 + 8) % dtbMod = 30000 := by decide
  have hstate : ({ lostState rx with
      dtb := 30000
      host := { (lostState rx).host with rateAcc := 0 }
      ctl := { (lostState rx).ctl with wdLeft := (lostState rx).wdTick 8 } } : State) = tickedState rx := rfl
  have hdrain (t : State) : ((lostState rx).traces.map Prod.fst).foldl State.trcDrain t = t := rfl
  have hhours : (tickedState rx).hoursTick = tickedState rx := if_neg (by simp [tickedState, lostState, State.reset, RecSt.reset])
  have hsample : sampleIn 29992 (tickedState rx).dtb = some 20000 := show sampleIn 29992 30000 = some 20000 by decide
  unfold State.tick
  rw [htick, hsafe]
  simp only [Bool.false_eq_true, if_false, hnow, hdtb, hstate, hdrain, hhours, hsample]
  exact tickedState_keyInstant rx h

set_option maxRecDepth 20000 in
/-- The first bit of a quiet lane completes the frame. -/
theorem cutRx_bit : (cutRx.bit upSync false).2 = some (.valid (plainFrame.take 2496) none) ∧
   (cutRx.bit upSync false).1.lock.map KeyCand.n = some 2496 := by decide +kernel

theorem cutRx_feed : (cutRx.feed upSync quietBits).2 = [.valid (plainFrame.take 2496) none] := by
  have hq : quietBits = false :: List.replicate 2499 false := rfl
  obtain ⟨hgot, hlock⟩ := cutRx_bit
  obtain ⟨c, hc, hn⟩ := Option.map_eq_some_iff.mp hlock
  have hrest := feed_lock_silent upSync (List.replicate 2499 false) _ c hc (by omega) (by rw [List.length_replicate, hn])
  rw [hq, KeyRx.feed, hgot, hrest]
  rfl

/-- A receiver that completes one frame, in lock, makes the link's return known to the recorder. -/
theorem keyHear_records (s : State) (start : Nat) (bits frame : List Bool) (hlos : s.regB Reg.DIO_KSTAT 29 = true)
    (hlost : s.dio.lost = true) (hfeed : (s.dio.rx.feed upSync bits).2 = [.valid frame none]) :
    (s.keyHear start bits).recd.handed ≠ [] := by
  have hheed (t : State) : t.keyHeed start (.valid frame none) = t.keyValid (readUp frame start) := rfl
  rw [State.keyHear, hfeed, List.foldl_cons, List.foldl_nil, hheed]
  refine keyValid_records _ _ ?_ (by rw [setRegF_dio]; exact hlost)
  rw [State.regB, reg_setRegF_same, bitAt_setFld_ne _ _ _ _ _ (by decide) (by decide) (by decide)]
  exact hlos

/-- Refutes O57: a tick also lets the logic side's receiver hear a frame time of a quiet lane, where the field side sends nothing.  In
lock and one CRC bit short of a valid frame, the receiver takes the lane's 0 for that bit, and the end of a link loss is recorded: the
recorder's part changes by more than the hours. -/
theorem not_theTickAdvancesTime : ¬ Obligations.TheTickAdvancesTime := by
  unfold Obligations.TheTickAdvancesTime
  intro h
  obtain ⟨t, ht, -, -, -, -, -, -, -, hrecd⟩ := h (lostState cutRx) rfl (fun _ he => nomatch he)
  have e : t = (lostState cutRx).tick := (Host.Outcome.next.inj ht).symm
  have hnone : t.recd.handed = [] := by rw [hrecd]; rfl
  rw [e, lostState_tick cutRx rfl] at hnone
  have hrx : (tickedState cutRx).dio.rx = cutRx := rfl
  have hlos : (tickedState cutRx).regB Reg.DIO_KSTAT 29 = true := show bitAt (resetOf Reg.DIO_KSTAT) 29 = true by decide
  have hfeed := cutRx_feed
  rw [← hrx] at hfeed
  exact keyHear_records (tickedState cutRx) 20000 quietBits _ hlos rfl hfeed hnone
end Sys2Proof.Machine
end

section
/-! SUPPORT. The queue and the timebase kept (R23): registers, records, stores and the field image. -/
namespace Sys2Proof.Machine

/-- `t` has the queue and the timebase of `s`. Nearly every operation keeps both, so the lemmas below say it operation by
operation in the order of the model's files; `simp` reads such a lemma from the outermost operation inward. -/
@[simp ↓, reducible] def State.Keeps (s t : State) : Prop := t.pending = s.pending ∧ t.dtb = s.dtb

theorem State.Keeps.refl (s : State) : s.Keeps s := ⟨rfl, rfl⟩

theorem State.Keeps.trans {s t u : State} (h : s.Keeps t) (h' : t.Keeps u) : s.Keeps u := ⟨h'.1.trans h.1, h'.2.trans h.2⟩

theorem State.Keeps.ite {s t u : State} {c : Prop} [Decidable c] (ht : s.Keeps t) (hu : s.Keeps u) :
    s.Keeps (if c then t else u) := by
  split
  · exact ht
  · exact hu

@[simp ↓] theorem ite_keeps (c : Prop) [Decidable c] (s t : State) :
    (if c then s else t).pending = (if c then s.pending else t.pending) ∧
      (if c then s else t).dtb = if c then s.dtb else t.dtb :=
  ⟨apply_ite .., apply_ite ..⟩

@[simp ↓] theorem foldl_keeps {α : Type} (f : State → α → State) (l : List α) (s : State)
    (h : ∀ (s : State) (x : α), s.Keeps (f s x)) : s.Keeps (l.foldl f s) := by
  induction l generalizing s with
  | nil => exact .refl s
  | cons x l ih => exact (h s x).trans (ih _)

theorem keeps_of_some {s t u : State} (h : some u = some t) (hu : s.Keeps u) : s.Keeps t := Option.some.inj h ▸ hu

/-- What a command that may find nothing to do answers keeps the queue and the timebase. -/
def State.KeepsSome (s : State) (o : Option State) : Prop := ∀ t, o = some t → s.Keeps t

theorem State.KeepsSome.some {s t : State} (h : s.Keeps t) : s.KeepsSome (.some t) := fun _ hu => keeps_of_some hu h

theorem State.KeepsSome.none (s : State) : s.KeepsSome .none := fun _ h => nomatch h

theorem State.KeepsSome.ite {s : State} {o p : Option State} {c : Prop} [Decidable c] (ho : s.KeepsSome o)
    (hp : s.KeepsSome p) : s.KeepsSome (if c then o else p) := by
  split
  · exact ho
  · exact hp

/-- The answer is a next state with the queue and the timebase of `s`. -/
def State.Answers (s : State) (o : Out) : Prop := ∃ t, o = .next t ∧ s.Keeps t

theorem State.Answers.next {s t : State} (h : s.Keeps t) : s.Answers (.next t) := ⟨t, rfl, h⟩

theorem State.Answers.ite {s : State} {o p : Out} {c : Prop} [Decidable c] (ho : s.Answers o) (hp : s.Answers p) :
    s.Answers (if c then o else p) := by
  split
  · exact ho
  · exact hp

@[simp ↓] theorem answers_next {s t : State} : s.Answers (.next t) ↔ s.Keeps t :=
  ⟨fun ⟨_, hu, h⟩ => Host.Outcome.next.inj hu ▸ h, .next⟩

/-! Updates of one part of the state: by these lemmas the kernel need not look into the new part. -/

theorem keeps_with_shd_pend (s : State) (x : SMap Word) (p : SMap Pend) : s.Keeps { s with shd := x, pend := p } := ⟨rfl, rfl⟩

theorem keeps_with_rtc (s : State) (x : RtcSt) : s.Keeps { s with rtc := x } := ⟨rfl, rfl⟩

theorem keeps_with_hwk (s : State) (x : HwkSt) : s.Keeps { s with hwk := x } := ⟨rfl, rfl⟩

theorem keeps_with_recd (s : State) (x : RecSt) : s.Keeps { s with recd := x } := ⟨rfl, rfl⟩

theorem keeps_with_fe (s : State) (x : FeSt) : s.Keeps { s with fe := x } := ⟨rfl, rfl⟩

theorem keeps_with_face (s : State) (x : FaceSt) : s.Keeps { s with face := x } := ⟨rfl, rfl⟩

/-! ### Registers -/

@[simp ↓] theorem freshBank_keeps (s : State) (b : Nat) : s.Keeps (s.freshBank b) := by
  unfold State.freshBank
  simp

@[simp ↓] theorem setReg_keeps (s : State) (k : Nat) (w : Word) : s.Keeps (s.setReg k w) := ⟨rfl, rfl⟩

@[simp ↓] theorem setShadow_keeps (s : State) (k : Nat) (w : Word) : s.Keeps (s.setShadow k w) := ⟨rfl, rfl⟩

@[simp ↓] theorem setRegF_keeps (s : State) (k hi lo v : Nat) : s.Keeps (s.setRegF k hi lo v) := ⟨rfl, rfl⟩

@[simp ↓] theorem setRegB_keeps (s : State) (k i : Nat) (b : Bool) : s.Keeps (s.setRegB k i b) := ⟨rfl, rfl⟩

@[simp ↓] theorem countReg_keeps (s : State) (k hi lo max n : Nat) : s.Keeps (s.countReg k hi lo max n) := ⟨rfl, rfl⟩

@[simp ↓] theorem emitAt_keeps (s : State) (stamp code cell : Nat) (body : List Word) :
    s.Keeps (s.emitAt stamp code cell body) := ⟨rfl, rfl⟩

@[simp ↓] theorem emit_keeps (s : State) (code cell : Nat) (body : List Word) : s.Keeps (s.emit code cell body) := ⟨rfl, rfl⟩

@[simp ↓] theorem setLoop_keeps (s : State) (l : Nat) (x : Loop) : s.Keeps (s.setLoop l x) := ⟨rfl, rfl⟩

@[simp ↓] theorem setPair_keeps (s : State) (p : Nat) (x : Pair) : s.Keeps (s.setPair p x) := ⟨rfl, rfl⟩

@[simp ↓] theorem setSlot_keeps (s : State) (n : Nat) (x : Slot) : s.Keeps (s.setSlot n x) := ⟨rfl, rfl⟩

@[simp ↓] theorem setCell_keeps (s : State) (c : Nat) (x : Cell) : s.Keeps (s.setCell c x) := ⟨rfl, rfl⟩

@[simp ↓] theorem draw_keeps (s : State) : s.Keeps s.draw := ⟨rfl, rfl⟩

/-! ### Traces -/

@[simp ↓] theorem setTrace_keeps (s : State) (n : Nat) (x : Trace) : s.Keeps (s.setTrace n x) := ⟨rfl, rfl⟩

@[simp ↓] theorem trcRun_keeps (s : State) (n : Nat) : s.Keeps (s.trcRun n) := by
  unfold State.trcRun
  simp

@[simp ↓] theorem trcFull_keeps (s : State) (n : Nat) : s.Keeps (s.trcFull n) := by
  unfold State.trcFull
  simp

@[simp ↓] theorem trcTrigger_keeps (s : State) (n idx : Nat) : s.Keeps (s.trcTrigger n idx) := by
  unfold State.trcTrigger
  simp

@[simp ↓] theorem trcPut_keeps (s : State) (n : Nat) (entry : List Word) : s.Keeps (s.trcPut n entry) := by
  unfold State.trcPut
  simp

@[simp ↓] theorem trcTap_keeps (l m : Nat) (a b : Word) (s : State) (n : Nat) : s.Keeps (State.trcTap l m a b s n) := by
  unfold State.trcTap
  simp

@[simp ↓] theorem trapTrigger_keeps (s : State) (l : Nat) : s.Keeps (s.trapTrigger l) := by
  unfold State.trapTrigger
  simp

@[simp ↓] theorem trcClear_keeps (s : State) (n : Nat) : s.Keeps (s.trcClear n) := by
  unfold State.trcClear
  simp

@[simp ↓] theorem trcXcell_keeps (s : State) (n : Nat) : s.Keeps (s.trcXcell n) := by
  unfold State.trcXcell
  simp

@[simp ↓] theorem trcApplied_keeps (old s : State) (n : Nat) : s.Keeps (State.trcApplied old s n) := by
  unfold State.trcApplied
  simp

@[simp ↓] theorem trcCtl_keeps (s : State) (n : Nat) (v : Word) : s.Keeps (s.trcCtl n v) := by
  unfold State.trcCtl
  simp

@[simp ↓] theorem trcShed_keeps (s : State) (shed : Bool) : s.Keeps (s.trcShed shed) := by
  unfold State.trcShed
  simp

/-! ### Transactions of the program -/

@[simp ↓] theorem setTag_keeps (s : State) (t : Nat) (x : Tag) : s.Keeps (s.setTag t x) := ⟨rfl, rfl⟩

@[simp ↓] theorem setEngine_keeps (s : State) (e : Nat) (x : Engine) : s.Keeps (s.setEngine e x) := ⟨rfl, rfl⟩

@[simp ↓] theorem takeReserved_keeps (s : State) (r : InternalReq) : s.Keeps (s.takeReserved r) := by
  unfold State.takeReserved
  split <;> simp

@[simp ↓] theorem askInternal_keeps (s : State) (r : InternalReq) : s.Keeps (s.askInternal r) := by
  unfold State.askInternal
  simp

@[simp ↓] theorem payOwed_keeps (s : State) : s.Keeps s.payOwed := by
  unfold State.payOwed
  split <;> simp

@[simp ↓] theorem withdrawInternal_keeps (s : State) (p : InternalReq → Bool) : s.Keeps (s.withdrawInternal p) := by
  unfold State.withdrawInternal
  simp

/-! ### The recorder -/

@[simp ↓] theorem askLine_keeps (s : State) : s.Keeps s.askLine := by
  unfold State.askLine
  simp

@[simp ↓] theorem recFill_keeps (s : State) : s.Keeps s.recFill := by
  unfold State.recFill
  simp

@[simp ↓] theorem acceptRecord_keeps (s : State) (stamp code cell : Nat) (body : List Word) (named : List Nat) :
    s.Keeps (s.acceptRecord stamp code cell body named) := by
  unfold State.acceptRecord
  simp

@[simp ↓] theorem setBucket_keeps (s : State) (key : Nat) (b : Bucket) : s.Keeps (s.setBucket key b) := ⟨rfl, rfl⟩

@[simp ↓] theorem overflow_keeps (s : State) : s.Keeps s.overflow := by
  unfold State.overflow
  simp

@[simp ↓] theorem writeSystem_keeps (s : State) (code : Nat) (body : List Word) (named : List Nat) :
    s.Keeps (s.writeSystem code body named) := by
  unfold State.writeSystem
  simp

@[simp ↓] theorem summarise_keeps (s : State) (key : Nat) : s.Keeps (s.summarise key) := by
  unfold State.summarise
  simp

@[simp ↓] theorem suppress_keeps (s : State) (e : Event) : s.Keeps (s.suppress e) := by
  unfold State.suppress
  simp

@[simp ↓] theorem dropEvent_keeps (s : State) (e : Event) (size : Nat) : s.Keeps (s.dropEvent e size) := by
  unfold State.dropEvent
  simp

@[simp ↓] theorem stage_keeps (s : State) (e : Event) : s.Keeps (s.stage e) := by
  unfold State.stage
  simp

@[simp ↓] theorem limit_keeps (s : State) (e : Event) : s.Keeps (s.limit e) := by
  unfold State.limit
  simp

theorem execEventAccept_answers (s : State) : s.Answers (execEventAccept s) := by
  unfold execEventAccept
  split
  · simp
  · split <;> simp

theorem execTokenBucketTick_answers (key : Nat) (s : State) : s.Answers (execTokenBucketTick key s) := by
  unfold execTokenBucketTick
  dsimp only
  split <;> simp

@[simp ↓] theorem refillRange_keeps (s : State) (range : Nat) : s.Keeps (s.refillRange range) := by
  unfold State.refillRange
  simp

theorem execRecOverflow_answers (s : State) : s.Answers (execRecOverflow s) := by
  unfold execRecOverflow
  simp

theorem execLogGroupRelease_answers (s : State) : s.Answers (execLogGroupRelease s) := by
  unfold execLogGroupRelease
  split
  · simp
  · split <;> simp

@[simp ↓] theorem writeMarker_keeps (s : State) (clean : Bool) : s.Keeps (s.writeMarker clean) := by
  unfold State.writeMarker
  simp

@[simp ↓] theorem releaseStaged_keeps (s : State) : s.Keeps s.releaseStaged := by
  unfold State.releaseStaged
  simp

@[simp ↓] theorem startFlush_keeps (s : State) (why : FlushWhy) : s.Keeps (s.startFlush why) := by
  unfold State.startFlush
  simp

@[simp ↓] theorem acceptAll_keeps (n : Nat) (s : State) : s.Keeps (State.acceptAll n s) := by
  induction n generalizing s with
  | zero => exact .refl s
  | succ n ih =>
    unfold State.acceptAll
    split
    · simp
    · exact State.Keeps.trans (by simp) (ih _)

@[simp ↓] theorem flushOn_keeps (s : State) (why : FlushWhy) : s.Keeps (s.flushOn why) := by
  unfold State.flushOn
  dsimp only
  split <;> simp

@[simp ↓] theorem flushRecord_keeps (s : State) : s.Keeps s.flushRecord := by
  unfold State.flushRecord
  simp

@[simp ↓] theorem endFlush_keeps (s : State) (why : FlushWhy) : s.Keeps (s.endFlush why) := by
  unfold State.endFlush
  simp

@[simp ↓] theorem showWear_keeps (s : State) : s.Keeps s.showWear := by
  unfold State.showWear
  simp

@[simp ↓] theorem holdLimit_keeps (s : State) : s.Keeps s.holdLimit := by
  unfold State.holdLimit
  simp

@[simp ↓] theorem recStart_keeps (s : State) (ticks : Nat) : s.Keeps (s.recStart ticks) := by
  unfold State.recStart
  simp

@[simp ↓] theorem recDtbStep_keeps (s : State) : s.Keeps s.recDtbStep := by
  unfold State.recDtbStep
  simp

@[simp ↓] theorem clearWindow_keeps (s : State) (cell : Nat) : s.Keeps (s.clearWindow cell) := by
  unfold State.clearWindow
  simp

@[simp ↓] theorem putWindow_keeps (s : State) (cell i : Nat) (ws : List Word) : s.Keeps (State.putWindow cell i ws s) := by
  induction ws generalizing s i with
  | nil => exact .refl s
  | cons w ws ih =>
    rw [State.putWindow.eq_def]
    exact (setReg_keeps s (bk cell (Reg.REC_WIN i)) w).trans (ih ..)

@[simp ↓] theorem finishFill_keeps (s : State) (cell : Nat) (f : Fill) : s.Keeps (s.finishFill cell f) := by
  unfold State.finishFill
  simp

@[simp ↓] theorem startFill_keeps (s : State) (cell mode : Nat) : s.Keeps (s.startFill cell mode) := by
  unfold State.startFill
  simp

theorem execWindowFillComplete_answers (cell : Nat) (s : State) : s.Answers (execWindowFillComplete cell s) := by
  unfold execWindowFillComplete
  split <;> simp

/-! ### Sessions -/

@[simp ↓] theorem setHost_keeps (s : State) (x : HostSt) : s.Keeps (s.setHost x) := ⟨rfl, rfl⟩

@[simp ↓] theorem send_keeps (s : State) (port kind : Nat) (bytes : List Byte) :
    s.Keeps (s.send port kind bytes) := ⟨rfl, rfl⟩

@[simp ↓] theorem setSession_keeps (s : State) (sid : Nat) (x : Session) : s.Keeps (s.setSession sid x) := ⟨rfl, rfl⟩

@[simp ↓] theorem hapSend_keeps (s : State) (link : Nat) (bytes : List Byte) : s.Keeps (s.hapSend link bytes) := by
  unfold State.hapSend
  simp

@[simp ↓] theorem hapReply_keeps (s : State) (links : List Nat) (sid seq type result : Nat) (body : List Byte) :
    s.Keeps (s.hapReply links sid seq type result body) := by
  unfold State.hapReply
  simp

@[simp ↓] theorem waitReply_keeps (s : State) (w : HapWait) (result : Nat) : s.Keeps (s.waitReply w result) := by
  unfold State.waitReply
  simp

@[simp ↓] theorem hapJoin_keeps (s : State) (link sid seq : Nat) : s.Keeps (s.hapJoin link sid seq) := by
  unfold State.hapJoin
  simp

@[simp ↓] theorem failWaits_keeps (s : State) (set : Nat) (every : Bool) : s.Keeps (s.failWaits set every) := by
  unfold State.failWaits
  simp

@[simp ↓] theorem endWaits_keeps (s : State) (set : Nat) : s.Keeps (s.endWaits set) := by
  unfold State.endWaits
  simp

/-! ### Cell stores -/

@[simp ↓] theorem setNvSet_keeps (s : State) (n : Nat) (x : NvSet) : s.Keeps (s.setNvSet n x) := by
  unfold State.setNvSet
  simp

@[simp ↓] theorem storeReq_keeps (s : State) (n : Nat) : s.Keeps (s.storeReq n) := by
  unfold State.storeReq
  simp

@[simp ↓] theorem dropNew_keeps (s : State) (n : Nat) (m : SMap Word) : s.Keeps (s.dropNew n m) := by
  unfold State.dropNew
  simp

@[simp ↓] theorem dropCorr_keeps (s : State) : s.Keeps s.dropCorr := by
  unfold State.dropCorr
  simp

@[simp ↓] theorem storeFail_keeps (s : State) (n step : Nat) : s.Keeps (s.storeFail n step) := by
  unfold State.storeFail
  simp

@[simp ↓] theorem storeRefused_keeps (s : State) (n step : Nat) : s.Keeps (s.storeRefused n step) := by
  unfold State.storeRefused
  simp

@[simp ↓] theorem storeStart_keeps (s : State) (n fail : Nat) : s.Keeps (s.storeStart n fail) := by
  unfold State.storeStart
  simp

@[simp ↓] theorem takeNew_keeps (s : State) (n : Nat) (m : SMap Word) : s.Keeps (s.takeNew n m) := by
  unfold State.takeNew
  simp

@[simp ↓] theorem storeDropped_keeps (s : State) (n : Nat) : s.Keeps (s.storeDropped n) := by
  unfold State.storeDropped
  simp

@[simp ↓] theorem storeUndone_keeps (s : State) (n : Nat) : s.Keeps (s.storeUndone n) := by
  unfold State.storeUndone
  simp

@[simp ↓] theorem storeCommit_keeps (s : State) (n : Nat) : s.Keeps (s.storeCommit n) := by
  unfold State.storeCommit
  dsimp only
  split <;> simp

@[simp ↓] theorem decideSet_keeps (s : State) (n : Nat) : s.Keeps (s.decideSet n) := by
  unfold State.decideSet
  dsimp only
  split <;> simp

@[simp ↓] theorem loadSet_keeps (s : State) (n : Nat) : s.Keeps (s.loadSet n) := by
  unfold State.loadSet
  simp

@[simp ↓] theorem abandonStores_keeps (s : State) : s.Keeps s.abandonStores := by
  unfold State.abandonStores
  simp

/-! ### Loops -/

@[simp ↓] theorem releaseSlot_keeps (s : State) (n : Nat) : s.Keeps (s.releaseSlot n) := by
  unfold State.releaseSlot
  simp

@[simp ↓] theorem releaseSlots_keeps (s : State) (L : Loop) : s.Keeps (s.releaseSlots L) := by
  unfold State.releaseSlots
  simp

@[simp ↓] theorem withdrawOuts_keeps (s : State) (per : Nat) (outs : List Nat) : s.Keeps (s.withdrawOuts per outs) := by
  unfold State.withdrawOuts
  simp

@[simp ↓] theorem showMig_keeps (s : State) (m : Migration) : s.Keeps (s.showMig m) := by
  unfold State.showMig
  simp

@[simp ↓] theorem migDone_keeps (s : State) (m : Migration) : s.Keeps (s.migDone m) := by
  unfold State.migDone
  simp

@[simp ↓] theorem migEnded_keeps (s : State) (l : Nat) : s.Keeps (s.migEnded l) := by
  unfold State.migEnded
  simp

@[simp ↓] theorem freePair_keeps (l : Nat) (s : State) (p : Nat) : s.Keeps (State.freePair l s p) := by
  unfold State.freePair
  simp

@[simp ↓] theorem leavePair_keeps (s : State) (l : Nat) (L : Loop) : s.Keeps (s.leavePair l L) := by
  unfold State.leavePair
  simp

@[simp ↓] theorem periodEnd_keeps (s : State) (l : Nat) : s.Keeps (s.periodEnd l) := by
  unfold State.periodEnd
  simp

@[simp ↓] theorem suspendLoop_keeps (s : State) (l : Nat) : s.Keeps (s.suspendLoop l) := by
  unfold State.suspendLoop
  simp

@[simp ↓] theorem placerTrap_keeps (s : State) (l : Nat) : s.Keeps (s.placerTrap l) := by
  unfold State.placerTrap
  simp

@[simp ↓] theorem takeTrap_keeps (s : State) (l : Nat) (t : Trap) (dl : Bool) (word : Word) :
    s.Keeps (s.takeTrap l t dl word) := by
  unfold State.takeTrap
  simp

@[simp ↓] theorem takeDeadline_keeps (s : State) (l : Nat) : s.Keeps (s.takeDeadline l) := by
  unfold State.takeDeadline
  simp

/-- An instruction keeps what its action keeps where it retires. -/
theorem runInstr_keeps (s : State) (l : Nat) (word : Word) (cycles : Nat) (act : State → InstrRes)
    (hact : ∀ t, act s = .ok t → s.Keeps t) : s.Keeps (s.runInstr l word cycles act) := by
  unfold State.runInstr
  dsimp only
  split_ifs
  · simp
  · simp
  · simp
  · split
    · next t h => exact (hact t h).trans (by simp)
    · simp

@[simp ↓] theorem stepLoop_keeps (s : State) (l : Nat) (f : Loop → Loop) : s.Keeps (s.stepLoop l f) := by
  unfold State.stepLoop
  simp

@[simp ↓] theorem compute_keeps (s : State) (l : Nat) (word : Word) (cycles : Nat) (f : Loop → Loop) :
    s.Keeps (s.compute l word cycles f) :=
  runInstr_keeps _ _ _ _ _ fun _ h => Except.ok.inj h ▸ stepLoop_keeps ..

/-! ### The field image -/

@[simp ↓] theorem setFi_keeps (s : State) (k : Nat) (w : Word) : s.Keeps (s.setFi k w) := ⟨rfl, rfl⟩

@[simp ↓] theorem setFis_keeps (s : State) (k : Nat) (ws : List Word) : s.Keeps (s.setFis k ws) := by
  induction ws generalizing s k with
  | nil => exact .refl s
  | cons w ws ih =>
    rw [State.setFis]
    exact (setFi_keeps ..).trans (ih ..)

@[simp ↓] theorem writeLine_keeps (s : State) (k : Nat) (ws : List Word) : s.Keeps (s.writeLine k ws) := by
  unfold State.writeLine
  simp

@[simp ↓] theorem markLine_keeps (s : State) (k cell : Nat) : s.Keeps (s.markLine k cell) := by
  unfold State.markLine
  simp

@[simp ↓] theorem eccCorrected_keeps (s : State) (mem addr : Nat) (pair : Option Nat) :
    s.Keeps (s.eccCorrected mem addr pair) := by
  unfold State.eccCorrected
  simp

@[simp ↓] theorem fiEcc_keeps (s : State) (k cell : Nat) (pair : Option Nat) (e : Ecc) :
    s.Keeps (s.fiEcc k cell pair e) := by
  unfold State.fiEcc
  split <;> simp

@[simp ↓] theorem sharedEcc_keeps (s : State) (c a : Nat) (e : Ecc) : s.Keeps (s.sharedEcc c a e) := by
  unfold State.sharedEcc
  split <;> simp

/-! ### Access rights -/

@[simp ↓] theorem pageDenied_keeps (s : State) (cell a : Nat) : s.Keeps (s.pageDenied cell a) := by
  unfold State.pageDenied
  simp

@[simp ↓] theorem accessTrap_keeps (s : State) (w : Who) (sub a : Nat) : s.Keeps (s.accessTrap w sub a) := by
  unfold State.accessTrap
  split <;> simp

@[simp ↓] theorem access_keeps (s : State) (w : Who) (a : Nat) (f : State → State) (hf :
    s.Keeps (f s)) : s.Keeps (s.access w a f) := by
  unfold State.access
  split_ifs
  · simp
  · simp
  · exact hf

/-! ### Staged pages -/

@[simp ↓] theorem commitPage_keeps (s : State) (page : Nat) : s.Keeps (s.commitPage page) := by
  unfold State.commitPage
  simp

@[simp ↓] theorem discard_keeps (s : State) (page : Nat) : s.Keeps (s.discard page) := by
  unfold State.discard
  simp

@[simp ↓] theorem writeStaged_keeps (s : State) (k mask : Nat) (v : Word) (cell : Nat) :
    s.Keeps (s.writeStaged k mask v cell) := by
  unfold State.writeStaged
  simp

end Sys2Proof.Machine
end

section
/-! SUPPORT. The queue and the timebase kept (R23): front end, engines and field buses. -/
namespace Sys2Proof.Machine

/-! ### The front end -/

@[simp ↓] theorem setFeChan_keeps (s : State) (c : Nat) (x : FeChan) : s.Keeps (s.setFeChan c x) := ⟨rfl, rfl⟩

@[simp ↓] theorem setFeIn_keeps (s : State) (i : Nat) (x : FeInput) : s.Keeps (s.setFeIn i x) := ⟨rfl, rfl⟩

@[simp ↓] theorem setRefState_keeps (s : State) (r v : Nat) : s.Keeps (s.setRefState r v) := by
  unfold State.setRefState
  simp

@[simp ↓] theorem writeEntry0_keeps (s : State) (i : Nat) (ws : List Word) : s.Keeps (s.writeEntry0 i ws) := by
  unfold State.writeEntry0
  simp

@[simp ↓] theorem writeBlank_keeps (s : State) (i : Nat) : s.Keeps (s.writeBlank i) := by
  unfold State.writeBlank
  simp

@[simp ↓] theorem remarkEntry_keeps (s : State) (i : Nat) (f : Nat → Nat) (value : Option Word) :
    s.Keeps (s.remarkEntry i f value) := by
  unfold State.remarkEntry
  simp

@[simp ↓] theorem startSlot_keeps (s : State) (c i : Nat) (rest : List Nat) (scanStart : Nat) :
    s.Keeps (s.startSlot c i rest scanStart) := by
  unfold State.startSlot
  simp

theorem execInputSlotStart_answers (c : Nat) (s : State) : s.Answers (execInputSlotStart c s) := by
  unfold execInputSlotStart
  dsimp only
  split
  · simp
  · split
    · simp
    · split
      · split <;> simp
      · split <;> simp

theorem execDielOverload_answers (c spot : Nat) (s : State) : s.Answers (execDielOverload c spot s) := by
  unfold execDielOverload
  dsimp only
  split
  · simp
  · split
    · simp
    · split <;> simp

theorem execTerminalOvervoltage_answers (c : Nat) (s : State) : s.Answers (execTerminalOvervoltage c s) := by
  unfold execTerminalOvervoltage
  dsimp only
  split <;> simp

@[simp ↓] theorem writeConversion_keeps (s : State) (i : Nat) (sl : FeSlot) (m : FeMeas) (r : FeResult) :
    s.Keeps (s.writeConversion i sl m r) := by
  unfold State.writeConversion
  simp

@[simp ↓] theorem setCal_keeps (s : State) (st : Nat) (res : Option Nat) (c : FeCal) : s.Keeps (s.setCal st res c) := by
  unfold State.setCal
  simp

@[simp ↓] theorem calRes_keeps (s : State) (r : Nat) : s.Keeps (s.calRes r) := by
  unfold State.calRes
  simp

@[simp ↓] theorem calUnmark_keeps (s : State) : s.Keeps s.calUnmark := by
  unfold State.calUnmark
  split <;> simp

@[simp ↓] theorem calEnd_keeps (s : State) (res : Option Nat) : s.Keeps (s.calEnd res) := by
  unfold State.calEnd
  simp

@[simp ↓] theorem calUnstore_keeps (s : State) : s.Keeps s.calUnstore := by
  unfold State.calUnstore
  simp

@[simp ↓] theorem calEvent_keeps (s : State) (applies : Nat → Bool) (res : Nat) : s.Keeps (s.calEvent applies res) := by
  unfold State.calEvent
  split <;> simp

@[simp ↓] theorem calAbort_keeps (s : State) : s.Keeps s.calAbort := by
  unfold State.calAbort
  simp

@[simp ↓] theorem calSelect_keeps (s : State) (v : Word) : s.Keeps (s.calSelect v) := by
  unfold State.calSelect
  simp

@[simp ↓] theorem calRefWrite_keeps (s : State) (k : Nat) (v : Word) : s.Keeps (s.calRefWrite k v) := by
  unfold State.calRefWrite
  simp

@[simp ↓] theorem calPoint_keeps (s : State) (hi : Bool) : s.Keeps (s.calPoint hi) := by
  unfold State.calPoint
  simp

@[simp ↓] theorem calSample_keeps (s : State) (i ref : Nat) (r : FeResult) : s.Keeps (s.calSample i ref r) := by
  unfold State.calSample
  simp

theorem execCalPointDone_answers (s : State) : s.Answers (execCalPointDone s) := by
  unfold execCalPointDone
  dsimp only
  split
  · split <;> simp
  · simp

@[simp ↓] theorem calCommit_keeps (s : State) : s.Keeps s.calCommit := by
  unfold State.calCommit
  dsimp only
  split
  · simp
  · split
    · split <;> simp
    · simp

@[simp ↓] theorem feStoreFailed_keeps (s : State) : s.Keeps s.feStoreFailed := by
  unfold State.feStoreFailed
  simp

@[simp ↓] theorem feStoreDone_keeps (s : State) : s.Keeps s.feStoreDone := by
  unfold State.feStoreDone
  simp

theorem execFeCalselWrite_answers (w : Who) (v : Word) (s : State) : s.Answers (execFeCalselWrite w v s) := by
  unfold execFeCalselWrite
  simp

@[simp ↓] theorem calCmd_keeps (s : State) (v : Word) : s.Keeps (s.calCmd v) := by
  unfold State.calCmd
  split <;> simp

theorem execPointlo_answers (w : Who) (s : State) : s.Answers (execPointlo w s) := by
  unfold execPointlo
  simp

theorem execPointhi_answers (w : Who) (s : State) : s.Answers (execPointhi w s) := by
  unfold execPointhi
  simp

theorem execCommit_answers (w : Who) (s : State) : s.Answers (execCommit w s) := by
  unfold execCommit
  simp

theorem execAbortI_answers (w : Who) (s : State) : s.Answers (execAbortI w s) := by
  unfold execAbortI
  simp

theorem execCalBadCmd_answers (w : Who) (v : Word) (s : State) : s.Answers (execCalBadCmd w v s) := by
  unfold execCalBadCmd
  split <;> simp

@[simp ↓] theorem feChannelApplied_keeps (old s : State) (c : Nat) : s.Keeps (State.feChannelApplied old s c) := by
  unfold State.feChannelApplied
  simp

@[simp ↓] theorem keepProfiles_keeps (s : State) (q : Nat) : s.Keeps (s.keepProfiles q) := by
  unfold State.keepProfiles
  simp

@[simp ↓] theorem refFitted_keeps (s : State) : s.Keeps s.refFitted := by
  unfold State.refFitted
  simp

@[simp ↓] theorem refRunEnd_keeps (s : State) (r : Nat) : s.Keeps (s.refRunEnd r) := by
  unfold State.refRunEnd
  simp

@[simp ↓] theorem suspectSlots_keeps (s : State) : s.Keeps s.suspectSlots := by
  unfold State.suspectSlots
  simp

@[simp ↓] theorem feCommonApplied_keeps (old s : State) : s.Keeps (State.feCommonApplied old s) := by
  unfold State.feCommonApplied
  simp

@[simp ↓] theorem feApplyChannel_keeps (s : State) (c : Nat) : s.Keeps (s.feApplyChannel c) := by
  unfold State.feApplyChannel
  simp

theorem execConversionBoundary_answers (c : Nat) (m : FeMeas) (s : State) : s.Answers (execConversionBoundary c m s) := by
  unfold execConversionBoundary
  dsimp only
  split
  · simp
  · split <;> simp

@[simp ↓] theorem abandonSlot_keeps (s : State) (c : Nat) (f : Nat → Bool) : s.Keeps (s.abandonSlot c f) := by
  unfold State.abandonSlot
  dsimp only
  split <;> simp

@[simp ↓] theorem dropTodo_keeps (s : State) (f : Nat → Bool) : s.Keeps (s.dropTodo f) := by
  unfold State.dropTodo
  simp

theorem execProbeRemoved_answers (n : Nat) (s : State) : s.Answers (execProbeRemoved n s) := by
  unfold execProbeRemoved
  extract_lets src s0 s1 s2 s3
  have h0 : s.Keeps s0 := keeps_with_fe ..
  clear_value s0
  have h2 : s.Keeps s2 := h0.trans ((abandonSlot_keeps ..).trans ((dropTodo_keeps ..).trans
    ((setRegB_keeps ..).trans (setRegB_keeps ..))))
  clear_value s2
  have h3 : s.Keeps s3 := h2.trans (foldl_keeps _ _ _ fun _ _ => (setFeIn_keeps ..).trans (remarkEntry_keeps ..))
  clear_value s3
  exact .ite (.next (.refl s)) (.ite (.next h0) (.next (h3.trans ((calEvent_keeps ..).trans (emit_keeps ..)))))

theorem execProbeInserted_answers (n : Nat) (s : State) : s.Answers (execProbeInserted n s) := by
  unfold execProbeInserted
  extract_lets s1 s2 s3 src s4
  have h2 : s.Keeps s2 := ((setRegB_keeps ..).trans (setRegB_keeps ..)).trans (foldl_keeps _ _ _ fun _ _ => setFeIn_keeps ..)
  clear_value s2
  have h3 : s.Keeps s3 := h2.trans (.ite (remarkEntry_keeps ..) (.refl s2))
  clear_value s3
  exact .ite (.next (.refl s)) (.next (h3.trans ((keeps_with_face ..).trans (emit_keeps ..))))

@[simp ↓] theorem feShed_keeps (s : State) : s.Keeps s.feShed := by
  unfold State.feShed
  simp

@[simp ↓] theorem feRestore_keeps (s : State) : s.Keeps s.feRestore := by
  unfold State.feRestore
  simp

@[simp ↓] theorem refSwitch_keeps (s : State) (v : Nat → Nat) (old new : Nat) : s.Keeps (s.refSwitch v old new) := by
  unfold State.refSwitch
  simp

@[simp ↓] theorem refDisagree_keeps (s : State) : s.Keeps s.refDisagree := by
  unfold State.refDisagree
  simp

@[simp ↓] theorem refOff_keeps (s : State) (v : Nat → Nat) (r : Nat) : s.Keeps (s.refOff v r) := by
  unfold State.refOff
  extract_lets n s1 s2
  have h2 : s.Keeps s2 := by simp [s2, s1]
  split
  · exact h2
  · split
    · exact h2.trans (by simp)
    · exact h2

@[simp ↓] theorem refRecover_keeps (s : State) (v : Nat → Nat) : s.Keeps (s.refRecover v) := by
  unfold State.refRecover
  simp

theorem execRefAverage_answers (va vb vx : Nat) (s : State) : s.Answers (execRefAverage va vb vx s) := by
  unfold execRefAverage
  dsimp only
  split <;> simp

theorem execRefFail_answers (r : Nat) (trip : Bool) (va vb vx : Nat) (s : State) :
    s.Answers (execRefFail r trip va vb vx s) := by
  unfold execRefFail
  dsimp only
  split
  · simp
  · split
    · split
      · simp
      · split <;> simp
    · split
      · simp
      · split <;> simp

@[simp ↓] theorem feStart_keeps (s : State) : s.Keeps s.feStart := by
  unfold State.feStart
  simp

/-! ### Engines and tags -/

@[simp ↓] theorem setCredit_keeps (s : State) (c k : Nat) (v : Int) : s.Keeps (s.setCredit c k v) := ⟨rfl, rfl⟩

@[simp ↓] theorem writeStatus_keeps (s : State) (t code err : Nat) (fcast : Option Nat) (tdone : Nat) :
    s.Keeps (s.writeStatus t code err fcast tdone) := by
  unfold State.writeStatus
  simp

@[simp ↓] theorem startOn_keeps (s : State) (e t : Nat) (rest : List Nat) : s.Keeps (s.startOn e t rest) := by
  unfold State.startOn
  simp

@[simp ↓] theorem startInternal_keeps (s : State) (e k t : Nat) : s.Keeps (s.startInternal e k t) := by
  unfold State.startInternal
  simp

@[simp ↓] theorem grantKind_keeps (s : State) (k : Nat) : s.Keeps (s.grantKind k) := by
  unfold State.grantKind
  split
  · simp
  · split <;> simp

@[simp ↓] theorem writeForecasts_keeps (s : State) : s.Keeps s.writeForecasts := by
  unfold State.writeForecasts
  simp

@[simp ↓] theorem refillCell_keeps (s : State) (c : Nat) : s.Keeps (s.refillCell c) := by
  unfold State.refillCell
  simp

@[simp ↓] theorem arbitrate_keeps (s : State) : s.Keeps s.arbitrate := by
  unfold State.arbitrate
  simp

@[simp ↓] theorem refill_keeps (s : State) : s.Keeps s.refill := by
  unfold State.refill
  extract_lets s1 src s2 w src' s3
  have h1 : s.Keeps s1 := foldl_keeps _ _ _ fun s p => by
    split
    · exact .ite (commitPage_keeps ..) ((commitPage_keeps ..).trans (storeReq_keeps ..))
    · exact .refl s
  clear_value s1
  have h2 : s.Keeps s2 := h1.trans <|
    (keeps_with_hwk ..).trans (foldl_keeps _ _ _ refillCell_keeps)
  clear_value s2
  have h3 : s.Keeps s3 := h2.trans (keeps_with_hwk ..)
  exact h3.trans ((arbitrate_keeps _).trans (writeForecasts_keeps _))

theorem execCreditRefill_answers (s : State) : s.Answers (execCreditRefill s) := by
  unfold execCreditRefill
  split <;> simp

@[simp ↓] theorem setSres_keeps (s : State) (b res tag : Nat) : s.Keeps (s.setSres b res tag) := by
  unfold State.setSres
  simp

@[simp ↓] theorem acceptSeq_keeps (s : State) (c kind addr : Nat) (ds : List (List Word)) (ts : List Nat) :
    s.Keeps (s.acceptSeq c kind addr ds ts) := by
  unfold State.acceptSeq
  simp

@[simp ↓] theorem submit_keeps (s : State) (b c addr : Nat) (other : Cell → List Word → Nat) :
    s.Keeps (s.submit b c addr other) := by
  unfold State.submit
  simp

@[simp ↓] theorem freeTagList_keeps (s : State) (ts : List Nat) : s.Keeps (s.freeTagList ts) := by
  unfold State.freeTagList
  simp

@[simp ↓] theorem endWaiting_keeps (s : State) (head code : Nat) : s.Keeps (s.endWaiting head code) := by
  unfold State.endWaiting
  simp

@[simp ↓] theorem cancel_keeps (s : State) (b c t : Nat) : s.Keeps (s.cancel b c t) := by
  unfold State.cancel
  simp

@[simp ↓] theorem undrain_keeps (s : State) : s.Keeps s.undrain := by
  unfold State.undrain
  simp

@[simp ↓] theorem writeFreeze_keeps (s : State) (v : Word) : s.Keeps (s.writeFreeze v) := by
  unfold State.writeFreeze
  simp

@[simp ↓] theorem pmFreeze_keeps (s : State) (e : Nat) (b : Bool) : s.Keeps (s.pmFreeze e b) := by
  unfold State.pmFreeze
  simp

@[simp ↓] theorem shedKind_keeps (s : State) (k : Nat) : s.Keeps (s.shedKind k) := by
  unfold State.shedKind
  simp

@[simp ↓] theorem shedDrained_keeps (s : State) : s.Keeps s.shedDrained := by
  unfold State.shedDrained
  simp

theorem execEngineDrained_answers (e : Nat) (s : State) : s.Answers (execEngineDrained e s) := by
  unfold execEngineDrained
  dsimp only
  split <;> simp

@[simp ↓] theorem unshedKind_keeps (s : State) (k : Nat) : s.Keeps (s.unshedKind k) := by
  unfold State.unshedKind
  simp

@[simp ↓] theorem withdraw_keeps (s : State) (c : Nat) : s.Keeps (s.withdraw c) := by
  unfold State.withdraw
  simp

@[simp ↓] theorem zeroCredits_keeps (s : State) (c : Nat) : s.Keeps (s.zeroCredits c) := by
  unfold State.zeroCredits
  simp

@[simp ↓] theorem ranWith_keeps (s : State) (t err : Nat) : s.Keeps (s.ranWith t err) := by
  unfold State.ranWith
  simp

@[simp ↓] theorem dmaWrite_keeps (s : State) (t addr : Nat) (ws : List (Word × Bool)) : s.Keeps (s.dmaWrite t addr ws) := by
  unfold State.dmaWrite
  simp

@[simp ↓] theorem sourceEcc_keeps (s : State) (c lo n : Nat) (es : List (Nat × Ecc)) : s.Keeps (s.sourceEcc c lo n es) :=
  foldl_keeps _ _ _ fun s e => by
    split
    · simp
    · split
      · simp
      · split <;> simp

@[simp ↓] theorem dmaUncorrectable_keeps (s : State) (c a : Nat) : s.Keeps (s.dmaUncorrectable c a) := by
  unfold State.dmaUncorrectable
  simp

theorem execXferCopy_answers (t : TagReads) (s : State) : s.Answers (execXferCopy t s) := by
  unfold execXferCopy
  split
  · simp
  · dsimp only
    split <;> simp

theorem execXferFill_answers (t : Nat) (s : State) : s.Answers (execXferFill t s) := by
  unfold execXferFill
  dsimp only
  split <;> simp

@[simp ↓] theorem addBusy_keeps (s : State) (k ns : Nat) : s.Keeps (s.addBusy k ns) := by
  unfold State.addBusy
  simp

@[simp ↓] theorem drained_keeps (s : State) (c inc before : Nat) : s.Keeps (s.drained c inc before) := by
  unfold State.drained
  simp

@[simp ↓] theorem endRunning_keeps (s : State) (e t code err : Nat) : s.Keeps (s.endRunning e t code err) := by
  unfold State.endRunning
  extract_lets x eng before s1 s2 s3 s4 s' s5
  have h4 : s.Keeps s4 := by simp [s4, s3, s2, s1]
  have h5 : s4.Keeps s5 := by
    simp only [s5]
    split
    · simp [s']
    · split <;> simp
  split
  · exact h4.trans h5
  · exact (h4.trans h5).trans (by simp)

theorem execEngineResetEnd_answers (e : Nat) (s : State) : s.Answers (execEngineResetEnd e s) := by
  unfold execEngineResetEnd
  split <;> simp

/-! ### Trunks -/

@[simp ↓] theorem setTrunk_keeps (s : State) (n : Nat) (x : Trunk) : s.Keeps (s.setTrunk n x) := ⟨rfl, rfl⟩

@[simp ↓] theorem txReturn_keeps (s : State) (n e st reason tsof : Nat) : s.Keeps (s.txReturn n e st reason tsof) := by
  unfold State.txReturn
  simp

@[simp ↓] theorem txQueue1_keeps (n : Nat) (s : State) (e : Nat) : s.Keeps (State.txQueue1 n s e) := by
  unfold State.txQueue1
  simp

@[simp ↓] theorem latTxq_keeps (s : State) (n : Nat) (v : Word) : s.Keeps (s.latTxq n v) := by
  unfold State.latTxq
  simp

@[simp ↓] theorem txCancel1_keeps (n : Nat) (s : State) (e : Nat) : s.Keeps (State.txCancel1 n s e) := by
  unfold State.txCancel1
  simp

@[simp ↓] theorem latTxcan_keeps (s : State) (n : Nat) (v : Word) : s.Keeps (s.latTxcan n v) := by
  unfold State.latTxcan
  simp

@[simp ↓] theorem latTxWrite_keeps (s : State) (n i : Nat) (v : Word) : s.Keeps (s.latTxWrite n i v) := by
  unfold State.latTxWrite
  simp

theorem execLatTxqWrite_answers (w : Who) (n : Nat) (v : Word) (s : State) : s.Answers (execLatTxqWrite w n v s) := by
  unfold execLatTxqWrite
  split <;> simp

theorem execLatTxcanWrite_answers (w : Who) (n : Nat) (v : Word) (s : State) : s.Answers (execLatTxcanWrite w n v s) := by
  unfold execLatTxcanWrite
  split <;> simp

@[simp ↓] theorem setRegs_keeps (s : State) (k : Nat) (ws : List Word) : s.Keeps (s.setRegs k ws) := by
  induction ws generalizing s k with
  | nil => exact .refl s
  | cons w ws ih =>
    rw [State.setRegs]
    exact (setReg_keeps ..).trans (ih ..)

@[simp ↓] theorem latReceive_keeps (s : State) (n : Nat) (f : LatFrame) (own : Bool) : s.Keeps (s.latReceive n f own) := by
  unfold State.latReceive
  split
  · simp
  · dsimp only
    split_ifs <;> simp

@[simp ↓] theorem latRxack_keeps (s : State) (n : Nat) (v : Word) : s.Keeps (s.latRxack n v) := by
  unfold State.latRxack
  simp

theorem execLatRxackWrite_answers (w : Who) (n : Nat) (v : Word) (s : State) : s.Answers (execLatRxackWrite w n v s) := by
  unfold execLatRxackWrite
  split <;> simp

@[simp ↓] theorem latCounts_keeps (s : State) (n tec rec : Nat) : s.Keeps (s.latCounts n tec rec) := by
  unfold State.latCounts
  simp

@[simp ↓] theorem latPick_keeps (s : State) (n : Nat) : s.Keeps (s.latPick n) := by
  unfold State.latPick
  dsimp only
  split
  · simp
  · split
    · simp
    · split
      · simp
      · split <;> simp

@[simp ↓] theorem sweepClosed_keeps (s : State) (n why : Nat) : s.Keeps (s.sweepClosed n why) := by
  unfold State.sweepClosed
  simp

@[simp ↓] theorem latAbandon_keeps (s : State) (n : Nat) : s.Keeps (s.latAbandon n) := by
  unfold State.latAbandon
  simp

@[simp ↓] theorem latUnschedule_keeps (s : State) (n : Nat) : s.Keeps (s.latUnschedule n) := by
  unfold State.latUnschedule
  simp

@[simp ↓] theorem latBusOff_keeps (s : State) (n : Nat) : s.Keeps (s.latBusOff n) := by
  unfold State.latBusOff
  simp

theorem execFrameSelection_answers (n : Nat) (s : State) : s.Answers (execFrameSelection n s) := by
  unfold execFrameSelection
  dsimp only
  split
  · simp
  · split <;> simp

@[simp ↓] theorem latAttempt_keeps (s : State) (n : Nat) : s.Keeps (s.latAttempt n) := by
  unfold State.latAttempt
  dsimp only
  split <;> simp

@[simp ↓] theorem latLost_keeps (s : State) (n : Nat) : s.Keeps (s.latLost n) := by
  unfold State.latLost
  split <;> simp

theorem execTxEntryReturn_answers (n : Nat) (s : State) : s.Answers (execTxEntryReturn n s) := by
  unfold execTxEntryReturn
  simp

@[simp ↓] theorem latWire_keeps (s : State) (n f : Nat) (on : Bool) : s.Keeps (s.latWire n f on) := by
  unfold State.latWire
  simp

@[simp ↓] theorem latAcked_keeps (s : State) (n : Nat) (acked : Bool) : s.Keeps (s.latAcked n acked) := by
  unfold State.latAcked
  simp

@[simp ↓] theorem latSent_keeps (s : State) (n : Nat) (f : LatFrame) : s.Keeps (s.latSent n f) := by
  unfold State.latSent
  simp

theorem execTimeFrameDue_answers (n : Nat) (s : State) : s.Answers (execTimeFrameDue n s) := by
  unfold execTimeFrameDue
  dsimp only
  split <;> simp

theorem execTime_answers (n sof : Nat) (s : State) : s.Answers (execTime n sof s) := by
  unfold execTime
  dsimp only
  split <;> simp

theorem execCensus_answers (n sof : Nat) (s : State) : s.Answers (execCensus n sof s) := by
  unfold execCensus
  dsimp only
  split <;> simp

theorem execSweepOpen_answers (n sof : Nat) (s : State) : s.Answers (execSweepOpen n sof s) := by
  unfold execSweepOpen
  dsimp only
  split <;> simp

@[simp ↓] theorem closeSweep_keeps (s : State) (n why : Nat) : s.Keeps (s.closeSweep n why) := by
  unfold State.closeSweep
  dsimp only
  split <;> simp

theorem execSweepDrained_answers (n : Nat) (s : State) : s.Answers (execSweepDrained n s) := by
  unfold execSweepDrained
  simp

theorem execSweepTimeLimit_answers (n : Nat) (s : State) : s.Answers (execSweepTimeLimit n s) := by
  unfold execSweepTimeLimit
  split
  · split <;> simp
  · simp

theorem execSweepClose_answers (n sof : Nat) (s : State) : s.Answers (execSweepClose n sof s) := by
  unfold execSweepClose
  dsimp only
  split <;> simp

@[simp ↓] theorem txDone_keeps (s : State) (n e sof : Nat) : s.Keeps (s.txDone n e sof) := by
  unfold State.txDone
  simp

theorem execRate_answers (n sof : Nat) (s : State) : s.Answers (execRate n sof s) := by
  unfold execRate
  dsimp only
  split <;> simp

theorem execNodeCmd_answers (n sof : Nat) (s : State) : s.Answers (execNodeCmd n sof s) := by
  unfold execNodeCmd
  split <;> simp

theorem execPrivateI_answers (n sof : Nat) (s : State) : s.Answers (execPrivateI n sof s) := by
  unfold execPrivateI
  split <;> simp

theorem execQuietIntervalEnd_answers (n : Nat) (s : State) : s.Answers (execQuietIntervalEnd n s) := by
  unfold execQuietIntervalEnd
  split <;> simp

@[simp ↓] theorem nodeHistory_keeps (s : State) (a latch t64 moist : Nat) (tv mv : Bool) :
    s.Keeps (s.nodeHistory a latch t64 moist tv mv) := by
  unfold State.nodeHistory
  simp

@[simp ↓] theorem nodeMax_keeps (s : State) (a latch : Nat) (temp moist : Option Word) (cen swp abs : Nat) :
    s.Keeps (s.nodeMax a latch temp moist cen swp abs) := by
  unfold State.nodeMax
  simp

@[simp ↓] theorem nodeWrite_keeps (s : State) (trunk node raw src latch m : Nat) (sweep unsync hist : Bool) :
    s.Keeps (s.nodeWrite trunk node raw src latch m sweep unsync hist) := by
  unfold State.nodeWrite
  simp

@[simp ↓] theorem nodeAbsent_keeps (s : State) (trunk node src latch : Nat) (hist : Bool) :
    s.Keeps (s.nodeAbsent trunk node src latch hist) := by
  unfold State.nodeAbsent
  simp

@[simp ↓] theorem latStray_keeps (s : State) (n : Nat) : s.Keeps (s.latStray n) := by
  unfold State.latStray
  simp

@[simp ↓] theorem latGood_keeps (s : State) (n : Nat) (f : LatFrame) : s.Keeps (s.latGood n f) := by
  unfold State.latGood
  extract_lets s0 s1
  exact (latLost_keeps ..).trans ((latCounts_keeps ..).trans ((setTrunk_keeps ..).trans (latReceive_keeps ..)))

@[simp ↓] theorem sweepReport_keeps (s : State) (n : Nat) (f : LatFrame) (wet : Bool) : s.Keeps (s.sweepReport n f wet) := by
  unfold State.sweepReport
  dsimp only
  split
  · simp
  · split_ifs <;> simp

theorem execHot_answers (n : Nat) (w : RxBits) (s : State) : s.Answers (execHot n w s) := by
  unfold execHot
  split <;> simp

theorem execWet_answers (n : Nat) (w : RxBits) (s : State) : s.Answers (execWet n w s) := by
  unfold execWet
  split <;> simp

@[simp ↓] theorem censusRecord_keeps (n latch num : Nat) (s : State) (p : Nat × Nat) :
    s.Keeps (State.censusRecord n latch num s p) := by
  unfold State.censusRecord
  simp

theorem execCensusBatch_answers (n : Nat) (w : RxBits) (s : State) : s.Answers (execCensusBatch n w s) := by
  unfold execCensusBatch
  obtain ⟨good, hG⟩ : ∃ g, State.latGood = g := ⟨_, rfl⟩
  rw [hG]
  split
  · exact .next (.refl s)
  · next f _ =>
    have h1 : s.Keeps (good s n f) := hG ▸ latGood_keeps s n f
    extract_lets s1 x b
    replace h1 : s.Keeps s1 := h1
    clear_value s1 b
    split
    · exact .next (h1.trans (latStray_keeps ..))
    · exact .next (h1.trans ((setTrunk_keeps ..).trans (foldl_keeps _ _ _ fun _ _ => censusRecord_keeps ..)))

theorem execJstat_answers (n : Nat) (w : RxBits) (s : State) : s.Answers (execJstat n w s) := by
  unfold execJstat
  obtain ⟨good, hG⟩ : ∃ g, State.latGood = g := ⟨_, rfl⟩
  rw [hG]
  split
  · exact .next (.refl s)
  · next f _ =>
    have h1 : s.Keeps (good s n f) := hG ▸ latGood_keeps s n f
    extract_lets s1 x j k stamp v s2
    replace h1 : s.Keeps s1 := h1
    clear_value s1 k stamp
    have h2 : s.Keeps s2 := h1.trans ((setReg_keeps ..).trans (setReg_keeps ..))
    clear_value s2
    refine .ite ?_ (.ite (.next (h1.trans ((setReg_keeps ..).trans (setRegB_keeps ..)))) (.next h1))
    split
    · exact .next (h1.trans (latStray_keeps ..))
    · exact .ite (.next (h1.trans (latStray_keeps ..))) (.next (h2.trans (setTrunk_keeps ..)))

theorem execReply_answers (n : Nat) (w : RxBits) (s : State) : s.Answers (execReply n w s) := by
  unfold execReply
  split <;> simp

theorem execPrivateReceived_answers (n : Nat) (w : RxBits) (s : State) : s.Answers (execPrivateReceived n w s) := by
  unfold execPrivateReceived
  split <;> simp

@[simp ↓] theorem nodeJmiss_keeps (n : Nat) (s : State) (node : Nat) : s.Keeps (State.nodeJmiss n s node) := by
  unfold State.nodeJmiss
  simp

@[simp ↓] theorem junctionMiss_keeps (n : Nat) (s : State) (j : Nat) : s.Keeps (State.junctionMiss n s j) := by
  unfold State.junctionMiss
  simp

@[simp ↓] theorem censusDone_keeps (s : State) : s.Keeps s.censusDone := by
  unfold State.censusDone
  simp

theorem execCensusEnd_answers (n : Nat) (idle : Bool) (s : State) : s.Answers (execCensusEnd n idle s) := by
  unfold execCensusEnd
  extract_lets x
  split
  · exact .next (.refl s)
  · extract_lets range missing quiet s1 w s2 s3
    have h1 : s.Keeps s1 := foldl_keeps _ _ _ (junctionMiss_keeps n)
    clear_value s1
    have h2 : s.Keeps s2 := h1.trans ((setReg_keeps ..).trans (setRegB_keeps ..))
    clear_value s2
    exact .ite (.next (.refl s)) (.next (h2.trans ((setTrunk_keeps ..).trans ((censusDone_keeps _).trans (latPick_keeps ..)))))

theorem execCensusDue_answers (n : Nat) (s : State) : s.Answers (execCensusDue n s) := by
  unfold execCensusDue
  dsimp only
  split <;> simp

theorem execAlarmSweepDue_answers (n : Nat) (s : State) : s.Answers (execAlarmSweepDue n s) := by
  unfold execAlarmSweepDue
  dsimp only
  split <;> simp

@[simp ↓] theorem latCollide_keeps (s : State) (n : Nat) (head : Option (Nat × Nat)) : s.Keeps (s.latCollide n head) := by
  unfold State.latCollide
  split <;> simp

theorem execBusError_answers (n : Nat) (e : LatError) (s : State) : s.Answers (execBusError n e s) := by
  unfold execBusError
  dsimp only
  split <;> simp

@[simp ↓] theorem latRecover_keeps (s : State) (n : Nat) : s.Keeps (s.latRecover n) := by
  unfold State.latRecover
  simp

theorem execRecover_answers (w : Who) (n : Nat) (s : State) : s.Answers (execRecover w n s) := by
  unfold execRecover
  split <;> simp

theorem execLatBusoffEnd_answers (n : Nat) (s : State) : s.Answers (execLatBusoffEnd n s) := by
  unfold execLatBusoffEnd
  dsimp only
  split <;> simp

theorem execLatWireFault_answers (n f : Nat) (s : State) : s.Answers (execLatWireFault n f s) := by
  unfold execLatWireFault
  dsimp only
  split <;> simp

theorem execLatWireOk_answers (n f : Nat) (s : State) : s.Answers (execLatWireOk n f s) := by
  unfold execLatWireOk
  split <;> simp

theorem execSweep_answers (t : Nat) (s : State) : s.Answers (execSweep t s) := by
  unfold execSweep
  split
  · simp
  · dsimp only
    split <;> simp

theorem execCensusRequest_answers (t : Nat) (s : State) : s.Answers (execCensusRequest t s) := by
  unfold execCensusRequest
  split
  · simp
  · dsimp only
    split <;> simp

theorem execLine_answers (t : TagReads) (s' : State) : s'.Answers (execLine t s') := by
  unfold execLine
  split
  · simp
  · dsimp only
    split <;> simp

@[simp ↓] theorem txCancelAll_keeps (s : State) (n reason : Nat) : s.Keeps (s.txCancelAll n reason) := by
  unfold State.txCancelAll
  simp

@[simp ↓] theorem latApplied_keeps (old s : State) (n : Nat) : s.Keeps (State.latApplied old s n) := by
  unfold State.latApplied
  extract_lets a1 a2 a3 src b1 b2 src' s1 x s2 per y
  have ha : s.Keeps a3 :=
    State.Keeps.trans (t := a1) ((txCancelAll_keeps ..).trans ((latAbandon_keeps ..).trans (latUnschedule_keeps ..)))
      ((foldl_keeps _ _ _ fun _ _ => latWire_keeps ..).trans
        ((setRegF_keeps ..).trans ((setRegF_keeps ..).trans ((setReg_keeps ..).trans (setRegB_keeps ..)))))
  clear_value a3
  have hb1 : s.Keeps b1 := (txCancelAll_keeps ..).trans (latAbandon_keeps ..)
  clear_value b1
  have hb : s.Keeps b2 := hb1.trans (.ite (latUnschedule_keeps ..) (.refl b1))
  clear_value b2
  have h1 : s.Keeps s1 := .ite (ha.trans (setTrunk_keeps ..)) (.ite (hb.trans (setTrunk_keeps ..)) (.refl s))
  clear_value s1
  have h2 : s1.Keeps s2 := .ite (setTrunk_keeps ..) (.ite (setTrunk_keeps ..) (.refl s1))
  clear_value s2
  exact h1.trans (h2.trans (State.Keeps.trans (.ite (.refl s2) (setTrunk_keeps ..))
    ((latPick_keeps ..).trans (storeReq_keeps ..))))

@[simp ↓] theorem latShed_keeps (s : State) : s.Keeps s.latShed := by
  unfold State.latShed
  simp

@[simp ↓] theorem latRestore_keeps (s : State) : s.Keeps s.latRestore :=
  (setRegB_keeps ..).trans (foldl_keeps _ _ _ fun s n => by split <;> simp)

@[simp ↓] theorem latStepped_keeps (s : State) : s.Keeps s.latStepped := by
  unfold State.latStepped
  simp

@[simp ↓] theorem latStart_keeps (s : State) : s.Keeps s.latStart := by
  unfold State.latStart
  simp

/-! ### CAN ports -/

@[simp ↓] theorem setPort_keeps (s : State) (n : Nat) (x : CanPort) : s.Keeps (s.setPort n x) := ⟨rfl, rfl⟩

@[simp ↓] theorem canResult_keeps (s : State) (n b r : Nat) : s.Keeps (s.canResult n b r) := by
  unfold State.canResult
  simp

@[simp ↓] theorem canReturn_keeps (s : State) (n b r : Nat) : s.Keeps (s.canReturn n b r) := by
  unfold State.canReturn
  simp

@[simp ↓] theorem canPick_keeps (s : State) (n : Nat) : s.Keeps (s.canPick n) := by
  unfold State.canPick
  simp

@[simp ↓] theorem canRequest1_keeps (n : Nat) (s : State) (b : Nat) : s.Keeps (State.canRequest1 n s b) := by
  unfold State.canRequest1
  simp

@[simp ↓] theorem canRequest_keeps (s : State) (n : Nat) (v : Word) : s.Keeps (s.canRequest n v) := by
  unfold State.canRequest
  simp

@[simp ↓] theorem canCancel1_keeps (n : Nat) (s : State) (b : Nat) : s.Keeps (State.canCancel1 n s b) := by
  unfold State.canCancel1
  simp

@[simp ↓] theorem canCancel_keeps (s : State) (n : Nat) (v : Word) : s.Keeps (s.canCancel n v) := by
  unfold State.canCancel
  simp

@[simp ↓] theorem canTxcmd_keeps (s : State) (n : Nat) (v : Word) : s.Keeps (s.canTxcmd n v) := by
  unfold State.canTxcmd
  simp

@[simp ↓] theorem canTxWrite_keeps (s : State) (n b w : Nat) (v : Word) : s.Keeps (s.canTxWrite n b w v) := by
  unfold State.canTxWrite
  simp

theorem execCanTxRequest_answers (w : Who) (n : Nat) (v : Word) (s : State) : s.Answers (execCanTxRequest w n v s) := by
  unfold execCanTxRequest
  split <;> simp

theorem execCanTxCancel_answers (w : Who) (n : Nat) (v : Word) (s : State) : s.Answers (execCanTxCancel w n v s) := by
  unfold execCanTxCancel
  split <;> simp

@[simp ↓] theorem canAccept_keeps (s : State) (n : Nat) (f : CanFrame) (own : Bool) : s.Keeps (s.canAccept n f own) := by
  unfold State.canAccept
  split
  · simp
  · dsimp only
    split_ifs <;> simp

@[simp ↓] theorem canRelease_keeps (s : State) (n : Nat) : s.Keeps (s.canRelease n) := by
  unfold State.canRelease
  simp

theorem execCanRxrel_answers (w : Who) (n : Nat) (s : State) : s.Answers (execCanRxrel w n s) := by
  unfold execCanRxrel
  split <;> simp

@[simp ↓] theorem canCounts_keeps (s : State) (n tec rec : Nat) : s.Keeps (s.canCounts n tec rec) := by
  unfold State.canCounts
  simp

@[simp ↓] theorem canLost_keeps (s : State) (n : Nat) : s.Keeps (s.canLost n) := by
  unfold State.canLost
  split <;> simp

@[simp ↓] theorem canYield_keeps (s : State) (n sof : Nat) : s.Keeps (s.canYield n sof) := by
  unfold State.canYield
  split
  · simp
  · dsimp only
    split
    · simp
    · split <;> simp

@[simp ↓] theorem canWire_keeps (s : State) (n f : Nat) (on : Bool) : s.Keeps (s.canWire n f on) := by
  unfold State.canWire
  simp

@[simp ↓] theorem canAcked_keeps (s : State) (n : Nat) (acked : Bool) : s.Keeps (s.canAcked n acked) := by
  unfold State.canAcked
  simp

theorem execCanFrameReceived_answers (n : Nat) (f : CanFrame) (s : State) : s.Answers (execCanFrameReceived n f s) := by
  unfold execCanFrameReceived
  dsimp only
  split <;> simp

theorem execCanFrameSent_answers (n sof : Nat) (s : State) : s.Answers (execCanFrameSent n sof s) := by
  unfold execCanFrameSent
  dsimp only
  split <;> simp

theorem execCanPortError_answers (n : Nat) (e : PortError) (s : State) : s.Answers (execCanPortError n e s) := by
  unfold execCanPortError
  dsimp only
  split <;> simp

theorem execCanBusoff_answers (n : Nat) (s : State) : s.Answers (execCanBusoff n s) := by
  unfold execCanBusoff
  dsimp only
  split <;> simp

@[simp ↓] theorem canRecover_keeps (s : State) (n : Nat) : s.Keeps (s.canRecover n) := by
  unfold State.canRecover
  simp

theorem execCanRecover_answers (w : Who) (n : Nat) (s : State) : s.Answers (execCanRecover w n s) := by
  unfold execCanRecover
  split <;> simp

theorem execCanBusoffEnd_answers (n : Nat) (s : State) : s.Answers (execCanBusoffEnd n s) := by
  unfold execCanBusoffEnd
  dsimp only
  split <;> simp

theorem execCanWireFault_answers (n f : Nat) (s : State) : s.Answers (execCanWireFault n f s) := by
  unfold execCanWireFault
  split <;> simp

theorem execCanWireOk_answers (n f : Nat) (s : State) : s.Answers (execCanWireOk n f s) := by
  unfold execCanWireOk
  split <;> simp

@[simp ↓] theorem canApplied_keeps (old s : State) (n : Nat) : s.Keeps (State.canApplied old s n) := by
  unfold State.canApplied
  simp

@[simp ↓] theorem canStart_keeps (s : State) : s.Keeps s.canStart := by
  unfold State.canStart
  simp

end Sys2Proof.Machine
end

section
/-! SUPPORT. The queue and the timebase kept (R23): loops, laws and outputs. -/
namespace Sys2Proof.Machine

/-! ### Branches, traps and waits -/

theorem jump_keeps {s t : State} {l target : Nat} {link : Option Reg} (h : s.jump l target link = .ok t) : s.Keeps t := by
  unfold State.jump at h
  dsimp only at h
  split_ifs at h
  cases h
  simp

@[simp ↓] theorem branch_keeps (s : State) (l : Nat) (word : Word) (off : BitVec 15) (cond : Loop → Bool) :
    s.Keeps (s.branch l word off cond) :=
  runInstr_keeps _ _ _ _ _ fun t h => by
    split at h
    · exact jump_keeps h
    · exact Except.ok.inj h ▸ stepLoop_keeps ..

theorem execBeq_answers (l : Nat) (a b : Reg) (off : BitVec 15) (s : State) : s.Answers (execBeq l a b off s) := by
  unfold execBeq
  simp

theorem execBne_answers (l : Nat) (a b : Reg) (off : BitVec 15) (s : State) : s.Answers (execBne l a b off s) := by
  unfold execBne
  simp

theorem execBlt_answers (l : Nat) (a b : Reg) (off : BitVec 15) (s : State) : s.Answers (execBlt l a b off s) := by
  unfold execBlt
  simp

theorem execBge_answers (l : Nat) (a b : Reg) (off : BitVec 15) (s : State) : s.Answers (execBge l a b off s) := by
  unfold execBge
  simp

theorem execBltu_answers (l : Nat) (a b : Reg) (off : BitVec 15) (s : State) : s.Answers (execBltu l a b off s) := by
  unfold execBltu
  simp

theorem execBgeu_answers (l : Nat) (a b : Reg) (off : BitVec 15) (s : State) : s.Answers (execBgeu l a b off s) := by
  unfold execBgeu
  simp

theorem execBfs_answers (l : Nat) (n : BitVec 5) (off : BitVec 15) (s : State) : s.Answers (execBfs l n off s) := by
  unfold execBfs
  simp

theorem execBfc_answers (l : Nat) (n : BitVec 5) (off : BitVec 15) (s : State) : s.Answers (execBfc l n off s) := by
  unfold execBfc
  simp

theorem execJal_answers (l : Nat) (d : Reg) (off : BitVec 20) (s : State) : s.Answers (execJal l d off s) :=
  .next (runInstr_keeps _ _ _ _ _ fun _ h => jump_keeps h)

theorem execJalr_answers (l : Nat) (d a : Reg) (imm : BitVec 15) (s : State) : s.Answers (execJalr l d a imm s) :=
  .next (runInstr_keeps _ _ _ _ _ fun _ h => jump_keeps h)

theorem execNop_answers (l : Nat) (s : State) : s.Answers (execNop l s) := by
  unfold execNop
  simp

theorem execTrap_answers (l : Nat) (n : BitVec 5) (s : State) : s.Answers (execTrap l n s) :=
  .next (runInstr_keeps _ _ _ _ _ fun _ h => nomatch h)

theorem execMfs_answers (l : Nat) (d : Reg) (sel : BitVec 5) (s : State) : s.Answers (execMfs l d sel s) := by
  refine .next (runInstr_keeps _ _ _ _ _ fun t h => ?_)
  split at h
  · cases h
  · exact Except.ok.inj h ▸ stepLoop_keeps ..

theorem execMtf_answers (l : Nat) (a : Reg) (s : State) : s.Answers (execMtf l a s) := by
  unfold execMtf
  simp

theorem execIllegalInstruction_answers (l : Nat) (word : Word) (s : State) : s.Answers (execIllegalInstruction l word s) :=
  .ite (.next (.refl s)) (.next (runInstr_keeps _ _ _ _ _ fun _ h => nomatch h))

theorem execDeadlineTrap_answers (l : Nat) (s : State) : s.Answers (execDeadlineTrap l s) := by
  unfold execDeadlineTrap
  split <;> simp

theorem execWait_answers (l : Nat) (d : Reg) (s : State) : s.Answers (execWait l d s) :=
  .next (runInstr_keeps _ _ _ _ _ fun _ h => Except.ok.inj h ▸ setLoop_keeps ..)

@[simp ↓] theorem retireWait_keeps (s : State) (l : Nat) : s.Keeps (s.retireWait l) := by
  unfold State.retireWait
  simp

theorem execWaitRetire_answers (l : Nat) (s : State) : s.Answers (execWaitRetire l s) := by
  unfold execWaitRetire
  dsimp only
  split
  · simp
  · split
    · simp
    · split <;> simp

/-! ### Law instructions -/

@[simp ↓] theorem law_keeps (s : State) (l : Nat) (word : Word) (cycles : Nat) (f : Loop → Except Trap Loop) :
    s.Keeps (s.law l word cycles f) :=
  runInstr_keeps _ _ _ _ _ fun t h => by
    split at h
    · cases h
    · exact Except.ok.inj h ▸ stepLoop_keeps ..

theorem execClmp_answers (l : Nat) (d a b c : Reg) (s : State) : s.Answers (execClmp l d a b c s) := by
  unfold execClmp
  simp

theorem execPids_answers (l : Nat) (d a b c : Reg) (m : BitVec 5) (s : State) : s.Answers (execPids l d a b c m s) := by
  unfold execPids
  simp

theorem execMins_answers (l : Nat) (d a : Reg) (s : State) : s.Answers (execMins l d a s) := by
  unfold execMins
  dsimp only
  split <;> simp

theorem execIntf_answers (l : Nat) (d a b c : Reg) (s : State) : s.Answers (execIntf l d a b c s) := by
  unfold execIntf
  simp

theorem execSched_answers (l : Nat) (d a b c : Reg) (s : State) : s.Answers (execSched l d a b c s) := by
  unfold execSched
  dsimp only
  split <;> simp

theorem execSlew_answers (l : Nat) (d a b : Reg) (m : Bool) (s : State) : s.Answers (execSlew l d a b m s) := by
  unfold execSlew
  dsimp only
  split <;> simp

theorem execPlaus_answers (l : Nat) (d a b c : Reg) (s : State) : s.Answers (execPlaus l d a b c s) := by
  unfold execPlaus
  simp

/-! ### Columns -/

@[simp ↓] theorem setColumn_keeps (s : State) (d : Nat) (x : Col) : s.Keeps (s.setColumn d x) := ⟨rfl, rfl⟩

@[simp ↓] theorem writeLinesOf_keeps (s : State) (d : Nat) (x : Col) (off : Bool) : s.Keeps (s.writeLinesOf d x off) := by
  unfold State.writeLinesOf
  simp

@[simp ↓] theorem writeColumn_keeps (s : State) (d : Nat) (off : Bool) : s.Keeps (s.writeColumn d off) := by
  unfold State.writeColumn
  simp

@[simp ↓] theorem colStatus_keeps (s : State) (d : Nat) : s.Keeps (s.colStatus d) := by
  unfold State.colStatus
  simp

@[simp ↓] theorem colState_keeps (s : State) (d new : Nat) : s.Keeps (s.colState d new) := by
  unfold State.colState
  simp

@[simp ↓] theorem colVerdicts_keeps (s : State) (d : Nat) (judge : Bool) (rs : List (Option Word)) :
    s.Keeps (s.colVerdicts d judge rs) := by
  unfold State.colVerdicts
  simp

@[simp ↓] theorem colInit_keeps (s : State) (d : Nat) : s.Keeps (s.colInit d) := by
  unfold State.colInit
  simp

@[simp ↓] theorem colAdvance_keeps (s : State) (d upd : Nat) : s.Keeps (s.colAdvance d upd) := by
  unfold State.colAdvance
  simp

@[simp ↓] theorem colHoldUpdate_keeps (s : State) (d upd : Nat) : s.Keeps (s.colHoldUpdate d upd) := by
  unfold State.colHoldUpdate
  simp

@[simp ↓] theorem colUpdate_keeps (s : State) (d upd : Nat) : s.Keeps (s.colUpdate d upd) := by
  unfold State.colUpdate
  simp

@[simp ↓] theorem colApplied_keeps (old s : State) (d : Nat) : s.Keeps (State.colApplied old s d) := by
  unfold State.colApplied
  simp

@[simp ↓] theorem colApplyPage_keeps (s : State) (d page : Nat) : s.Keeps (s.colApplyPage d page) := by
  unfold State.colApplyPage
  simp

theorem execColumnUpdate_answers (us : Nat) (s : State) : s.Answers (execColumnUpdate us s) := by
  unfold execColumnUpdate
  dsimp only
  split <;> simp

@[simp ↓] theorem colInputWrite_keeps (s : State) (d x : Nat) (v : Word) : s.Keeps (s.colInputWrite d x v) := by
  unfold State.colInputWrite
  simp

theorem execColumnInputWrite_answers (w : Who) (d x : Nat) (v : Word) (s : State) :
    s.Answers (execColumnInputWrite w d x v s) := by
  unfold execColumnInputWrite
  split <;> simp

@[simp ↓] theorem colShed_keeps (s : State) : s.Keeps s.colShed := by
  unfold State.colShed
  simp

@[simp ↓] theorem colRestore_keeps (s : State) : s.Keeps s.colRestore := by
  unfold State.colRestore
  simp

@[simp ↓] theorem colStart_keeps (s : State) : s.Keeps s.colStart := by
  unfold State.colStart
  extract_lets s1 s2
  exact State.Keeps.trans (by simp [s2, s1]) (foldl_keeps _ _ s2 fun s d => by split <;> simp)

@[simp ↓] theorem colStoreDone_keeps (s : State) : s.Keeps s.colStoreDone := by
  unfold State.colStoreDone
  simp

theorem execPredict_answers (t : Nat) (s : State) : s.Answers (execPredict t s) := by
  unfold execPredict
  split
  · simp
  · dsimp only
    split <;> simp

/-! ### Solenoid drivers -/

@[simp ↓] theorem setSvc_keeps (s : State) (n : Nat) (x : SvChan) : s.Keeps (s.setSvc n x) := ⟨rfl, rfl⟩

@[simp ↓] theorem setSvk_keeps (s : State) (b : Nat) (x : SvBank) : s.Keeps (s.setSvk b x) := ⟨rfl, rfl⟩

@[simp ↓] theorem svGo_keeps (s : State) (n st : Nat) : s.Keeps (s.svGo n st) := by
  unfold State.svGo
  simp

@[simp ↓] theorem svFlag_keeps (s : State) (n i : Nat) : s.Keeps (s.svFlag n i) := by
  unfold State.svFlag
  simp

@[simp ↓] theorem svCom_keeps (s : State) : s.Keeps s.svCom := by
  unfold State.svCom
  simp

@[simp ↓] theorem svStartPull_keeps (s : State) (n : Nat) : s.Keeps (s.svStartPull n) := by
  unfold State.svStartPull
  simp

@[simp ↓] theorem svPend_keeps (s : State) (n : Nat) : s.Keeps (s.svPend n) := by
  unfold State.svPend
  simp

@[simp ↓] theorem svStartAll_keeps (s : State) : s.Keeps s.svStartAll :=
  foldl_keeps _ _ _ fun s _ => by split <;> simp

@[simp ↓] theorem svAsk_keeps (s : State) (l : List Nat) : s.Keeps (s.svAsk l) := by
  unfold State.svAsk
  simp

@[simp ↓] theorem svPassed_keeps (s : State) (n : Nat) : s.Keeps (s.svPassed n) := by
  unfold State.svPassed
  simp

@[simp ↓] theorem svDrop_keeps (s : State) (n st : Nat) : s.Keeps (s.svDrop n st) := by
  unfold State.svDrop
  simp

theorem execPullInStart_answers (n : Nat) (s : State) : s.Answers (execPullInStart n s) := by
  unfold execPullInStart
  split <;> simp

@[simp ↓] theorem svUnlatch_keeps (s : State) (n : Nat) : s.Keeps (s.svUnlatch n) := by
  unfold State.svUnlatch
  simp

@[simp ↓] theorem svTurnOns_keeps (s : State) (l : List Nat) : s.Keeps (s.svTurnOns l) := by
  unfold State.svTurnOns
  simp

@[simp ↓] theorem svTurnOn_keeps (s : State) (n : Nat) : s.Keeps (s.svTurnOn n) := by
  unfold State.svTurnOn
  simp

@[simp ↓] theorem svOnCommand_keeps (s : State) (n : Nat) : s.Keeps (s.svOnCommand n) := by
  unfold State.svOnCommand
  simp

@[simp ↓] theorem svCommand_keeps (s : State) (n : Nat) (v : Word) : s.Keeps (s.svCommand n v) := by
  unfold State.svCommand
  simp

@[simp ↓] theorem svRelease_keeps (s : State) (n : Nat) : s.Keeps (s.svRelease n) := by
  unfold State.svRelease
  simp

theorem execSvHoldEnd_answers (n : Nat) (s : State) : s.Answers (execSvHoldEnd n s) := by
  unfold execSvHoldEnd
  split <;> simp

@[simp ↓] theorem svNoMove_keeps (s : State) (n : Nat) : s.Keeps (s.svNoMove n) := by
  unfold State.svNoMove
  simp

theorem execSvMovementDip_answers (n t i : Nat) (s : State) : s.Answers (execSvMovementDip n t i s) := by
  unfold execSvMovementDip
  dsimp only
  split
  · simp
  · split
    · split
      · simp
      · split
        · simp
        · split <;> simp
    · split
      · simp
      · split
        · simp
        · split <;> simp

theorem execPullInEnd_answers (n i : Nat) (s : State) : s.Answers (execPullInEnd n i s) := by
  unfold execPullInEnd
  dsimp only
  split <;> simp

theorem execSvShort_answers (m : Nat) (check : Bool) (s : State) : s.Answers (execSvShort m check s) := by
  unfold execSvShort
  extract_lets k s0 c fails d src s1 s2
  have h0 : s.Keeps s0 := .ite (.refl s) (svPassed_keeps ..)
  clear_value s0 fails
  have hd : s.Keeps d := h0.trans (svDrop_keeps ..)
  clear_value d
  have h1 : s.Keeps s1 := hd.trans ((setSvc_keeps ..).trans ((svFlag_keeps ..).trans (setRegF_keeps ..)))
  clear_value s1
  have h2 : s.Keeps s2 := h1.trans (emit_keeps ..)
  clear_value s2
  refine .ite (.next (.refl s)) (.ite (.next ?_) (.next (h2.trans (setSvc_keeps ..))))
  exact h2.trans ((setRegB_keeps ..).trans ((setSvc_keeps ..).trans (emit_keeps ..)))

theorem execSvShortRetry_answers (n : Nat) (s : State) : s.Answers (execSvShortRetry n s) := by
  unfold execSvShortRetry
  dsimp only
  split
  · simp
  · split <;> simp

@[simp ↓] theorem svClear_keeps (s : State) (n : Nat) : s.Keeps (s.svClear n) := by
  unfold State.svClear
  simp

theorem execSvClear_answers (w : Who) (n : Nat) (s : State) : s.Answers (execSvClear w n s) := by
  unfold execSvClear
  split <;> simp

theorem execCoilModelStep_answers (n : Nat) (i2 : Word) (s : State) : s.Answers (execCoilModelStep n i2 s) := by
  unfold execCoilModelStep
  extract_lets rth tb c tc0 t r p g dt tc s1 trip s2
  have h1 : s.Keeps s1 := (setSvc_keeps ..).trans (setReg_keeps ..)
  clear_value s1
  have h2 : s.Keeps s2 := h1.trans ((svDrop_keeps ..).trans ((svFlag_keeps ..).trans (setRegB_keeps ..)))
  clear_value s2
  exact .ite (.next (.refl s)) (.ite (.next h1) (.next (h2.trans ((setSvc_keeps ..).trans (emit_keeps ..)))))

theorem execSvOverload_answers (n : Nat) (ms : Word) (s : State) : s.Answers (execSvOverload n ms s) := by
  unfold execSvOverload
  dsimp only
  split
  · split <;> simp
  · split <;> simp

@[simp ↓] theorem svBankDark_keeps (s : State) (b : Nat) : s.Keeps (s.svBankDark b) := by
  unfold State.svBankDark
  simp

@[simp ↓] theorem svBack_keeps (s : State) (banks : List Nat) : s.Keeps (s.svBack banks) := by
  unfold State.svBack
  simp

@[simp ↓] theorem svBankFault_keeps (s : State) (b : Nat) (ground : Bool) (nextTry : Nat) :
    s.Keeps (s.svBankFault b ground nextTry) := by
  unfold State.svBankFault
  simp

@[simp ↓] theorem svTest_keeps (b : Nat) (low : List Nat) (leak : Bool) (s : State) (n : Nat) :
    s.Keeps (State.svTest b low leak s n) := by
  unfold State.svTest
  simp

@[simp ↓] theorem svTestBank_keeps (s : State) (b : Nat) (low : List Nat) (leak : Bool) :
    s.Keeps (s.svTestBank b low leak) := by
  unfold State.svTestBank
  simp

@[simp ↓] theorem svIcom_keeps (s : State) (b hs : Nat) : s.Keeps (s.svIcom b hs) := by
  unfold State.svIcom
  simp

theorem execBankTest_answers (b hs : Nat) (cur low : List Nat) (s : State) : s.Answers (execBankTest b hs cur low s) := by
  unfold execBankTest
  dsimp only
  split <;> simp

@[simp ↓] theorem svBankOk_keeps (s : State) (b : Nat) : s.Keeps (s.svBankOk b) :=
  (setRegB_keeps ..).trans ((setRegF_keeps ..).trans ((emit_keeps ..).trans (svBack_keeps ..)))

theorem execBankRetest_answers (b hs : Nat) (low : List Nat) (s : State) : s.Answers (execBankRetest b hs low s) := by
  unfold execBankRetest
  dsimp only
  split
  · simp
  · split <;> simp

@[simp ↓] theorem svBankTrip_keeps (s : State) (b hs fails : Nat) : s.Keeps (s.svBankTrip b hs fails) := by
  unfold State.svBankTrip
  simp

theorem execSvBankOff_answers (b hs : Nat) (s : State) : s.Answers (execSvBankOff b hs s) := by
  unfold execSvBankOff
  split <;> simp

theorem execBankRetry_answers (b hs : Nat) (ok : Bool) (s : State) : s.Answers (execBankRetry b hs ok s) := by
  unfold execBankRetry
  dsimp only
  split
  · simp
  · split <;> simp

@[simp ↓] theorem svBankClr_keeps (s : State) (v : Word) : s.Keeps (s.svBankClr v) := by
  unfold State.svBankClr
  simp

theorem execBankclr_answers (w : Who) (v : Word) (s : State) : s.Answers (execBankclr w v s) := by
  unfold execBankclr
  simp

@[simp ↓] theorem svToField_keeps (s : State) : s.Keeps s.svToField := by
  unfold State.svToField
  simp

@[simp ↓] theorem railTo_keeps (s : State) (st : Nat) : s.Keeps (s.railTo st) := by
  unfold State.railTo
  simp

@[simp ↓] theorem railVolt_keeps (s : State) (v : Nat) : s.Keeps (s.railVolt v) := by
  unfold State.railVolt
  simp

theorem execBoostSoftStart_answers (s : State) : s.Answers (execBoostSoftStart s) := by
  unfold execBoostSoftStart
  split <;> simp

theorem execBoostReady_answers (v : Nat) (s : State) : s.Answers (execBoostReady v s) := by
  unfold execBoostReady
  dsimp only
  split <;> simp

theorem execSvBoostShort_answers (v : Nat) (s : State) : s.Answers (execSvBoostShort v s) := by
  unfold execSvBoostShort
  dsimp only
  split <;> simp

theorem execBoostHiccupRestart_answers (s : State) : s.Answers (execBoostHiccupRestart s) := by
  unfold execBoostHiccupRestart
  split <;> simp

theorem execRailNotReady_answers (v : Nat) (s : State) : s.Answers (execRailNotReady v s) := by
  unfold execRailNotReady
  split <;> simp

@[simp ↓] theorem svShed_keeps (s : State) : s.Keeps s.svShed := by
  unfold State.svShed
  simp

@[simp ↓] theorem svRestore_keeps (s : State) : s.Keeps s.svRestore := by
  unfold State.svRestore
  simp

@[simp ↓] theorem svFieldLost_keeps (s : State) : s.Keeps s.svFieldLost := by
  unfold State.svFieldLost
  simp

@[simp ↓] theorem svFieldBack_keeps (s : State) : s.Keeps s.svFieldBack := by
  unfold State.svFieldBack
  simp

@[simp ↓] theorem svEnabled_keeps (old s : State) : s.Keeps (State.svEnabled old s) := by
  unfold State.svEnabled
  simp

@[simp ↓] theorem svApplied_keeps (old s : State) (n : Nat) : s.Keeps (State.svApplied old s n) := by
  unfold State.svApplied
  simp

@[simp ↓] theorem svCommonApplied_keeps (old s : State) : s.Keeps (State.svCommonApplied old s) := by
  unfold State.svCommonApplied
  simp

@[simp ↓] theorem svKeep_keeps (s : State) (held : List (Nat × Nat)) : s.Keeps (s.svKeep held) := by
  unfold State.svKeep
  simp

@[simp ↓] theorem svBankOffs_keeps (s : State) : s.Keeps s.svBankOffs := by
  unfold State.svBankOffs
  simp

@[simp ↓] theorem svStart_keeps (s : State) : s.Keeps s.svStart := by
  unfold State.svStart
  extract_lets held kept s1 s2 s3
  have h2 : s1.Keeps s2 := foldl_keeps _ _ _ fun _ _ => svGo_keeps ..
  have h3 : s2.Keeps s3 := by
    simp only [s3]
    split <;> simp
  exact State.Keeps.trans (t := s1) ⟨rfl, rfl⟩ (h2.trans (h3.trans (railTo_keeps ..)))

/-! ### Fans -/

@[simp ↓] theorem setFan_keeps (s : State) (n : Nat) (x : FanChan) : s.Keeps (s.setFan n x) := ⟨rfl, rfl⟩

@[simp ↓] theorem fanFlag_keeps (s : State) (n i : Nat) : s.Keeps (s.fanFlag n i) := by
  unfold State.fanFlag
  simp

@[simp ↓] theorem fanReach_keeps (s : State) (n : Nat) (v : Option Word) : s.Keeps (s.fanReach n v) := by
  unfold State.fanReach
  simp

@[simp ↓] theorem fanCommand_keeps (s : State) (n : Nat) (v : Word) : s.Keeps (s.fanCommand n v) := by
  unfold State.fanCommand
  simp

@[simp ↓] theorem fanRelease_keeps (s : State) (n : Nat) : s.Keeps (s.fanRelease n) := by
  unfold State.fanRelease
  simp

@[simp ↓] theorem fanWatch_keeps (s : State) (n : Nat) : s.Keeps (s.fanWatch n) := by
  unfold State.fanWatch
  simp

@[simp ↓] theorem fanReload_keeps (s : State) (n : Nat) : s.Keeps (s.fanReload n) := by
  unfold State.fanReload
  simp

@[simp ↓] theorem fanGroupCheck_keeps (s : State) (n g : Nat) : s.Keeps (s.fanGroupCheck n g) := by
  unfold State.fanGroupCheck
  simp

@[simp ↓] theorem fanApplied_keeps (old s : State) (n : Nat) : s.Keeps (State.fanApplied old s n) := by
  unfold State.fanApplied
  simp

theorem execFanReload_answers (n : Nat) (fb : Word) (s : State) : s.Answers (execFanReload n fb s) := by
  unfold execFanReload
  dsimp only
  split <;> simp

theorem execFanFail_answers (n : Nat) (s : State) : s.Answers (execFanFail n s) := by
  unfold execFanFail
  dsimp only
  split
  · simp
  · split <;> simp

@[simp ↓] theorem fanGood_keeps (s : State) (n : Nat) : s.Keeps (s.fanGood n) := by
  unfold State.fanGood
  simp

theorem execFanOk_answers (n : Nat) (s : State) : s.Answers (execFanOk n s) := by
  unfold execFanOk
  split <;> simp

theorem execFanFailKick_answers (n : Nat) (s : State) : s.Answers (execFanFailKick n s) := by
  unfold execFanFailKick
  dsimp only
  split <;> simp

@[simp ↓] theorem fanClear_keeps (s : State) (n : Nat) : s.Keeps (s.fanClear n) := by
  unfold State.fanClear
  simp

theorem execFanClear_answers (w : Who) (n : Nat) (s : State) : s.Answers (execFanClear w n s) := by
  unfold execFanClear
  split <;> simp

theorem execTachometerPulse_answers (n : Nat) (s : State) : s.Answers (execTachometerPulse n s) := by
  unfold execTachometerPulse
  dsimp only
  split <;> simp

theorem execFanTsSample_answers (n : Nat) (t : Word) (s : State) : s.Answers (execFanTsSample n t s) := by
  unfold execFanTsSample
  dsimp only
  split <;> simp

theorem execFanOutFault_answers (n : Nat) (s : State) : s.Answers (execFanOutFault n s) := by
  unfold execFanOutFault
  dsimp only
  split <;> simp

theorem execFanOutRetry_answers (n : Nat) (s : State) : s.Answers (execFanOutRetry n s) := by
  unfold execFanOutRetry
  dsimp only
  split <;> simp

theorem execFanSupFault_answers (n : Nat) (s : State) : s.Answers (execFanSupFault n s) := by
  unfold execFanSupFault
  split <;> simp

theorem execFanSupRetry_answers (n : Nat) (s : State) : s.Answers (execFanSupRetry n s) := by
  unfold execFanSupRetry
  dsimp only
  split <;> simp

theorem execFanHoldEnd_answers (n : Nat) (s : State) : s.Answers (execFanHoldEnd n s) := by
  unfold execFanHoldEnd
  dsimp only
  split <;> simp

@[simp ↓] theorem fanStart_keeps (s : State) : s.Keeps s.fanStart := by
  unfold State.fanStart
  simp

/-! ### The Key link -/

@[simp ↓] theorem setDio_keeps (s : State) (x : DioSt) : s.Keeps (s.setDio x) := ⟨rfl, rfl⟩

@[simp ↓] theorem setField_keeps (s : State) (x : FieldSide) : s.Keeps (s.setField x) := ⟨rfl, rfl⟩

@[simp ↓] theorem setFch_keeps (s : State) (n : Nat) (c : FieldChan) : s.Keeps (s.setFch n c) := ⟨rfl, rfl⟩

@[simp ↓] theorem ioCommand_keeps (s : State) (n : Nat) (u : Word) : s.Keeps (s.ioCommand n u) := by
  unfold State.ioCommand
  simp

@[simp ↓] theorem ioDisown_keeps (s : State) (n : Nat) : s.Keeps (s.ioDisown n) := by
  unfold State.ioDisown
  simp

@[simp ↓] theorem ioApplied_keeps (old s : State) (n : Nat) : s.Keeps (State.ioApplied old s n) := by
  unfold State.ioApplied
  simp

@[simp ↓] theorem ioCommonApplied_keeps (s : State) : s.Keeps s.ioCommonApplied := by
  unfold State.ioCommonApplied
  simp

@[simp ↓] theorem ioApplyPage_keeps (s : State) (page : Nat) : s.Keeps (s.ioApplyPage page) := by
  unfold State.ioApplyPage
  simp

@[simp ↓] theorem ioShow_keeps (s : State) : s.Keeps s.ioShow := by
  unfold State.ioShow
  simp

theorem execKeyDownstreamFrame_answers (s : State) : s.Answers (execKeyDownstreamFrame s) := by
  unfold execKeyDownstreamFrame
  dsimp only
  split <;> simp

@[simp ↓] theorem endPostures_keeps (s : State) : s.Keeps s.endPostures := by
  unfold State.endPostures
  simp

theorem execKeyFieldApply_answers (flips : List Nat) (s : State) : s.Answers (execKeyFieldApply flips s) := by
  unfold execKeyFieldApply
  split
  · simp
  · split
    · simp
    · dsimp only
      split <;> simp

theorem execKeyFieldLoss_answers (s : State) : s.Answers (execKeyFieldLoss s) := by
  unfold execKeyFieldLoss
  dsimp only
  split <;> simp

theorem execKeyReceiverSearch_answers (up : Bool) (s : State) : s.Answers (execKeyReceiverSearch up s) := by
  unfold execKeyReceiverSearch
  dsimp only
  split <;> simp

theorem execFieldSideStart_answers (v : Nat) (s : State) : s.Answers (execFieldSideStart v s) := by
  unfold execFieldSideStart
  split <;> simp

theorem execFieldSideStop_answers (v : Nat) (s : State) : s.Answers (execFieldSideStop v s) := by
  unfold execFieldSideStop
  split <;> simp

theorem execDioShort_answers (n : Nat) (check : Bool) (s : State) : s.Answers (execDioShort n check s) := by
  unfold execDioShort
  dsimp only
  split <;> simp

theorem execDioShortRetry_answers (n : Nat) (s : State) : s.Answers (execDioShortRetry n s) := by
  unfold execDioShortRetry
  dsimp only
  split
  · simp
  · split <;> simp

theorem execDioOpenLoadTest_answers (n r : Nat) (s : State) : s.Answers (execDioOpenLoadTest n r s) := by
  unfold execDioOpenLoadTest
  dsimp only
  split <;> simp

theorem execDioOt_answers (n : Nat) (s : State) : s.Answers (execDioOt n s) := by
  unfold execDioOt
  dsimp only
  split <;> simp

theorem execDioOtRestart_answers (n : Nat) (s : State) : s.Answers (execDioOtRestart n s) := by
  unfold execDioOtRestart
  dsimp only
  split <;> simp

theorem execDioHoldEnd_answers (n : Nat) (s : State) : s.Answers (execDioHoldEnd n s) := by
  unfold execDioHoldEnd
  dsimp only
  split
  · simp
  · split <;> simp

@[simp ↓] theorem ioClear_keeps (s : State) (n : Nat) : s.Keeps (s.ioClear n) := by
  unfold State.ioClear
  simp

theorem execDioClear_answers (w : Who) (n : Nat) (s : State) : s.Answers (execDioClear w n s) := by
  unfold execDioClear
  split <;> simp

theorem execFilteredEdge_answers (n : Nat) (runs : List (Bool × Nat)) (s : State) :
    s.Answers (execFilteredEdge n runs s) := by
  unfold execFilteredEdge
  dsimp only
  split <;> simp

theorem execCounterGateEnd_answers (n : Nat) (s : State) : s.Answers (execCounterGateEnd n s) := by
  unfold execCounterGateEnd
  dsimp only
  split <;> simp

@[simp ↓] theorem ioTake_keeps (u : UpFrame × UpValues) (at_ : Nat) (s : State) (n : Nat) :
    s.Keeps (State.ioTake u at_ s n) := by
  unfold State.ioTake
  extract_lets st new old rises s1 s2 s3 s4 g since valid
  have h3 : s.Keeps s3 := by simp [s3, s2, s1]
  have h4 : s3.Keeps s4 := foldl_keeps _ _ _ fun s e => by
    split
    · simp
    · split <;> simp
  split
  · exact h3.trans h4
  · exact (h3.trans h4).trans (by simp)

@[simp ↓] theorem setRegList_keeps (s : State) (l : List (Nat × Word)) : s.Keeps (s.setRegList l) := by
  unfold State.setRegList
  simp

@[simp ↓] theorem keyValid_keeps (s : State) (f : UpFrame × UpValues) : s.Keeps (s.keyValid f) := by
  unfold State.keyValid
  simp

@[simp ↓] theorem keyHeed_keeps (start : Nat) (s : State) (x : KeyGot) : s.Keeps (State.keyHeed start s x) := by
  unfold State.keyHeed
  split <;> simp

@[simp ↓] theorem keyHear_keeps (s : State) (start : Nat) (bits : List Bool) : s.Keeps (s.keyHear start bits) := by
  unfold State.keyHear
  simp

theorem execKeyUpstreamFrame_answers (flips : List Nat) (raws : List (Nat × List (Bool × Nat))) (outs neg : Nat)
    (now : FieldAt) (s : State) : s.Answers (execKeyUpstreamFrame flips raws outs neg now s) := by
  unfold execKeyUpstreamFrame
  split
  · simp
  · split
    · simp
    · dsimp only
      split <;> simp

theorem execDioLinkLoss_answers (s : State) : s.Answers (execDioLinkLoss s) := by
  unfold execDioLinkLoss
  dsimp only
  split <;> simp

@[simp ↓] theorem dioStart_keeps (s : State) : s.Keeps s.dioStart := by
  unfold State.dioStart
  simp

end Sys2Proof.Machine
end

section
/-! SUPPORT. The queue and the timebase kept (R23): placement, clock of day, stored sets and supplies. -/
namespace Sys2Proof.Machine

/-! ### Plans -/

@[simp ↓] theorem pairTo_keeps (s : State) (p code : Nat) : s.Keeps (s.pairTo p code) := by
  unfold State.pairTo
  simp

@[simp ↓] theorem pairSet_keeps (s : State) (p code : Nat) : s.Keeps (s.pairSet p code) := by
  unfold State.pairSet
  simp

@[simp ↓] theorem standbyFill_keeps (s : State) (n : Nat) : s.Keeps (s.standbyFill n) := by
  induction n generalizing s with
  | zero => exact .refl s
  | succ n ih =>
    unfold State.standbyFill
    dsimp only
    split_ifs
    · split
      · simp
      · exact (pairSet_keeps ..).trans (ih _)
    · split
      · simp
      · exact (pairSet_keeps ..).trans (ih _)
    · simp

@[simp ↓] theorem upkeep_keeps (s : State) : s.Keeps s.upkeep := by
  unfold State.upkeep
  simp

@[simp ↓] theorem onPair_keeps (s : State) (p : Nat) : s.Keeps (s.onPair p) := by
  unfold State.onPair
  simp

theorem placeLoop_keeps {s t : State} {n : Nat} {L : Loop} (h : s.placeLoop n L = some t) : s.Keeps t := by
  unfold State.placeLoop at h
  dsimp only at h
  split at h
  · cases h
  · split at h
    · cases h; simp
    · split at h <;> cases h
      simp

theorem placeLoops_keeps {s t : State} {ls : List (Nat × Loop)} (h : s.placeLoops ls = some t) : s.Keeps t := by
  induction ls generalizing s with
  | nil => cases h; simp
  | cons e ls ih =>
    unfold State.placeLoops at h
    split at h
    · cases h
    · next hp => exact (placeLoop_keeps hp).trans (ih h)

@[simp ↓] theorem planImage_keeps (s : State) (c : Nat) (i : Image) : s.Keeps (s.planImage c i).2 := by
  unfold State.planImage
  dsimp only
  split_ifs
  all_goals simp
  split
  · simp
  · next h => exact placeLoops_keeps h

/-! ### Boundaries and dispatch -/

@[simp ↓] theorem takeUp_keeps (s : State) (n : Nat) (v : Word) (rest : List SlotWrite) : s.Keeps (s.takeUp n v rest) := by
  unfold State.takeUp
  simp

@[simp ↓] theorem boundarySlot_keeps (l at' : Nat) (s : State) (n : Nat) : s.Keeps (State.boundarySlot l at' s n) := by
  unfold State.boundarySlot
  dsimp only
  split <;> simp

@[simp ↓] theorem atBoundary_keeps (s : State) (l : Nat) : s.Keeps (s.atBoundary l) := by
  unfold State.atBoundary
  simp

theorem execPeriodBoundary_answers (l : Nat) (s : State) : s.Answers (execPeriodBoundary l s) := by
  unfold execPeriodBoundary
  dsimp only
  split <;> simp

@[simp ↓] theorem slotPosture_keeps (s : State) (n : Nat) : s.Keeps (s.slotPosture n) := by
  unfold State.slotPosture
  dsimp only
  split <;> simp

theorem outSlot_keeps {s t : State} {l n : Nat} {v : Word} (h : s.outSlot l n v = .ok t) : s.Keeps t := by
  unfold State.outSlot at h
  dsimp only at h
  split_ifs at h
  cases h
  simp

theorem execOut_answers (l : Nat) (a b : Reg) (s : State) : s.Answers (execOut l a b s) :=
  .next (runInstr_keeps _ _ _ _ _ fun _ h => outSlot_keeps h)

theorem execTap_answers (l : Nat) (m : BitVec 5) (a b : Reg) (s : State) : s.Answers (execTap l m a b s) :=
  .next (runInstr_keeps _ _ _ _ _ fun _ h => Except.ok.inj h ▸
    (foldl_keeps _ _ _ fun s _ => trcTap_keeps _ _ _ _ s _).trans (stepLoop_keeps ..))

@[simp ↓] theorem runOn_keeps (l : Nat) (s : State) (p : Nat) : s.Keeps (State.runOn l s p) := by
  unfold State.runOn
  simp

@[simp ↓] theorem dispatch_keeps (s : State) (l : Nat) : s.Keeps (s.dispatch l) := by
  unfold State.dispatch
  simp

theorem execLoopDispatch_answers (l : Nat) (s : State) : s.Answers (execLoopDispatch l s) := by
  unfold execLoopDispatch
  dsimp only
  split <;> simp

@[simp ↓] theorem readyLoop_keeps (s : State) (l : Nat) : s.Keeps (s.readyLoop l) := by
  unfold State.readyLoop
  simp

@[simp ↓] theorem goOn_keeps (s : State) (l : Nat) (L : Loop) : s.Keeps (s.goOn l L) := by
  unfold State.goOn
  simp

@[simp ↓] theorem suspend_keeps (s : State) (byT4 : Bool) (l : Nat) : s.Keeps (s.suspend byT4 l) := by
  unfold State.suspend
  simp

@[simp ↓] theorem unsuspend_keeps (s : State) (byT4 : Bool) (l : Nat) : s.Keeps (s.unsuspend byT4 l) := by
  unfold State.unsuspend
  simp

@[simp ↓] theorem cutLoop_keeps (s : State) (l : Nat) : s.Keeps (s.cutLoop l) := by
  unfold State.cutLoop
  simp

/-! ### Placement -/

@[simp ↓] theorem setPlacer_keeps (s : State) (p : Placer) : s.Keeps (s.setPlacer p) := ⟨rfl, rfl⟩

@[simp ↓] theorem replan_keeps (s : State) (w : ReplanWhy) : s.Keeps (s.replan w) := by
  unfold State.replan
  simp

@[simp ↓] theorem acceptPosted_keeps (s : State) (p : Nat) : s.Keeps (s.acceptPosted p) := by
  unfold State.acceptPosted
  split <;> simp

@[simp ↓] theorem drainPosted_keeps (s : State) (p : Nat) : s.Keeps (s.drainPosted p) := by
  unfold State.drainPosted
  simp

@[simp ↓] theorem pinDegrade_keeps (s : State) (p : Nat) (e : Nat × Loop) : s.Keeps (s.pinDegrade p e) := by
  unfold State.pinDegrade
  simp

@[simp ↓] theorem carry_keeps (s : State) (q : Nat) (e : Nat × Loop) : s.Keeps (s.carry q e) := by
  unfold State.carry
  simp

@[simp ↓] theorem strand_keeps (s : State) (e : Nat × Loop) : s.Keeps (s.strand e) := by
  unfold State.strand
  simp

@[simp ↓] theorem migrate_keeps (s : State) (p : Nat) : s.Keeps (s.migrate p) := by
  unfold State.migrate
  split <;> simp

@[simp ↓] theorem mismatch_keeps (s0 : State) (p : Nat) : s0.Keeps (s0.mismatch p) := by
  unfold State.mismatch
  simp

theorem execLockstepMismatch_answers (p : PairFault) (s : State) : s.Answers (execLockstepMismatch p s) := by
  unfold execLockstepMismatch
  dsimp only
  split <;> simp

theorem execPinSecondaryRestored_answers (l : Nat) (s : State) : s.Answers (execPinSecondaryRestored l s) := by
  unfold execPinSecondaryRestored
  dsimp only
  split
  · split <;> simp
  · simp

@[simp ↓] theorem secondPair_keeps (s : State) (l p : Nat) : s.Keeps (s.secondPair l p) := by
  unfold State.secondPair
  dsimp only
  split
  · simp
  · split <;> simp

@[simp ↓] theorem replace_keeps (s : State) (l : Nat) : s.Keeps (s.replace l) := by
  unfold State.replace
  dsimp only
  split <;> simp

@[simp ↓] theorem checkFailed_keeps (s : State) (p : Nat) : s.Keeps (s.checkFailed p) := by
  unfold State.checkFailed
  simp

theorem execPairSelfTest_answers (p : Nat) (pass : Bool) (s : State) : s.Answers (execPairSelfTest p pass s) := by
  unfold execPairSelfTest
  dsimp only
  split
  · simp
  · split
    · simp
    · split <;> simp

theorem execStandbySelfTest_answers (p : Nat) (pass : Bool) (s : State) : s.Answers (execStandbySelfTest p pass s) := by
  unfold execStandbySelfTest
  dsimp only
  split
  · simp
  · split <;> simp

theorem planMoves_keeps {s : State} {p : Nat} {ls : List (Nat × Loop)} {acc : List (Nat × Nat × Nat)}
    {x : State × List (Nat × Nat × Nat)} (h : s.planMoves p ls acc = some x) : s.Keeps x.1 := by
  induction ls generalizing s acc with
  | nil => cases h; simp
  | cons e ls ih =>
    unfold State.planMoves at h
    dsimp only at h
    split at h
    · cases h
    · split at h
      · cases h
      · exact (setLoop_keeps ..).trans (ih h)

@[simp ↓] theorem consolidate_keeps (s : State) (ps : List Nat) (acc : List (Nat × Nat × Nat)) :
    s.Keeps (s.consolidate ps acc).1 := by
  induction ps generalizing s acc with
  | nil => exact .refl s
  | cons p ps ih =>
    unfold State.consolidate
    split
    · exact .refl s
    · split
      · exact ih ..
      · split
        · exact ih ..
        · next h => exact (planMoves_keeps h).trans ((pairSet_keeps ..).trans (ih ..))

@[simp ↓] theorem planTier3_keeps (s : State) : s.Keeps s.planTier3 := by
  unfold State.planTier3
  simp

@[simp ↓] theorem settleCell_keeps (s : State) (c : Nat) : s.Keeps (s.settleCell c) := by
  unfold State.settleCell
  simp

@[simp ↓] theorem t4Cell_keeps (s : State) (c : Nat) : s.Keeps (s.t4Cell c) := by
  unfold State.t4Cell
  simp

@[simp ↓] theorem t4Suspend_keeps (s : State) : s.Keeps s.t4Suspend := by
  unfold State.t4Suspend
  simp

@[simp ↓] theorem t4PowerUp_keeps (s : State) : s.Keeps s.t4PowerUp := by
  unfold State.t4PowerUp
  simp

@[simp ↓] theorem t4Release_keeps (s : State) (c : Nat) : s.Keeps (s.t4Release c) := by
  unfold State.t4Release
  simp

@[simp ↓] theorem t4Resume_keeps (s : State) : s.Keeps s.t4Resume := by
  unfold State.t4Resume
  simp

@[simp ↓] theorem planTier_keeps (s : State) (n : Nat) (shed : Bool) : s.Keeps (s.planTier n shed) := by
  unfold State.planTier
  split <;> simp

@[simp ↓] theorem showLoad_keeps (s : State) (c result : Nat) : s.Keeps (s.showLoad c result) := by
  unfold State.showLoad
  simp

@[simp ↓] theorem houseEnds_keeps (s : State) (result : Nat) : s.Keeps (s.houseEnds result) := by
  unfold State.houseEnds
  simp

@[simp ↓] theorem loadEnds_keeps (s : State) (c : Nat) (iid : Word) (hap : Bool) (result : Nat) :
    s.Keeps (s.loadEnds c iid hap result) := by
  unfold State.loadEnds
  simp

@[simp ↓] theorem takeSlots_keeps (s : State) (e : Nat × Loop) : s.Keeps (s.takeSlots e) := by
  unfold State.takeSlots
  simp

@[simp ↓] theorem takeLoop_keeps (s : State) (e : Nat × Loop) : s.Keeps (s.takeLoop e) := by
  unfold State.takeLoop
  simp

@[simp ↓] theorem allocate_keeps (s : State) (c : Nat) : s.Keeps (s.allocate c) := by
  unfold State.allocate
  simp

@[simp ↓] theorem resetCell_keeps (s : State) (c src : Nat) (unload : Bool) : s.Keeps (s.resetCell c src unload) := by
  unfold State.resetCell
  simp

@[simp ↓] theorem freeLoop_keeps (s : State) (l : Nat) : s.Keeps (s.freeLoop l) := by
  unfold State.freeLoop
  simp

@[simp ↓] theorem freeLoops_keeps (s : State) (c : Nat) : s.Keeps (s.freeLoops c) := by
  unfold State.freeLoops
  simp

@[simp ↓] theorem installImage_keeps (s planned : State) (c : Nat) (i : Image) : s.Keeps (s.installImage planned c i) := by
  unfold State.installImage
  simp

@[simp ↓] theorem queueLoad_keeps (s : State) (c : Nat) : s.Keeps (s.queueLoad c) := by
  unfold State.queueLoad
  dsimp only
  split <;> simp

@[simp ↓] theorem trcArises_keeps (old s : State) (n : Nat) : s.Keeps (State.trcArises old s n) := by
  unfold State.trcArises
  simp

@[simp ↓] theorem placeImage_keeps (s : State) (c : Nat) : s.Keeps (s.placeImage c) := by
  unfold State.placeImage
  dsimp only
  split <;> simp

theorem execImagePlace_answers (cell : Nat) (s : State) : s.Answers (execImagePlace cell s) := by
  unfold execImagePlace
  split
  · split <;> simp
  · simp

@[simp ↓] theorem replaceStranded_keeps (s : State) : s.Keeps s.replaceStranded := by
  unfold State.replaceStranded
  simp

@[simp ↓] theorem runReplan_keeps (s : State) (w : ReplanWhy) : s.Keeps (s.runReplan w) := by
  unfold State.runReplan
  split <;> simp

theorem execPlannedMove_answers (l : Nat) (s : State) : s.Answers (execPlannedMove l s) := by
  unfold execPlannedMove
  dsimp only
  split
  · simp
  · split
    · simp
    · split <;> simp

@[simp ↓] theorem checkKind_keeps (s : State) (k : Nat) : s.Keeps (s.checkKind k) := by
  unfold State.checkKind
  extract_lets m s1 past src s2
  have h1 : s.Keeps s1 := setReg_keeps ..
  clear_value s1
  have h2 : s.Keeps s2 := h1.trans (setPlacer_keeps ..)
  clear_value s2
  exact .ite (h2.trans ((setRegB_keeps ..).trans ((emit_keeps ..).trans (replan_keeps ..))))
    (.ite (h1.trans (setPlacer_keeps ..)) h1)

theorem execEngineLoadCheck_answers (s : State) : s.Answers (execEngineLoadCheck s) := by
  unfold execEngineLoadCheck
  extract_lets src s1
  have h1 : s.Keeps s1 := (setPlacer_keeps ..).trans (foldl_keeps _ _ _ checkKind_keeps)
  clear_value s1
  exact .ite (.next (.refl s)) (.next (h1.trans (keeps_with_hwk ..)))

@[simp ↓] theorem abandonLoad_keeps (s : State) (c : Nat) : s.Keeps (s.abandonLoad c) := by
  unfold State.abandonLoad
  dsimp only
  split <;> simp

@[simp ↓] theorem lowerSource_keeps (s : State) (src c : Nat) : s.Keeps (s.lowerSource src c) := by
  unfold State.lowerSource
  simp

@[simp ↓] theorem cmdReset_keeps (s : State) (src c : Nat) : s.Keeps (s.cmdReset src c).2 := by
  unfold State.cmdReset
  dsimp only
  split_ifs <;> simp

@[simp ↓] theorem cmdSuspend_keeps (s : State) (src c : Nat) : s.Keeps (s.cmdSuspend src c).2 := by
  unfold State.cmdSuspend
  dsimp only
  split_ifs <;> simp

@[simp ↓] theorem cmdResume_keeps (s : State) (src c : Nat) : s.Keeps (s.cmdResume src c).2 := by
  unfold State.cmdResume
  dsimp only
  split_ifs <;> simp

@[simp ↓] theorem cmdUnload_keeps (s : State) (src c : Nat) : s.Keeps (s.cmdUnload src c).2 := by
  unfold State.cmdUnload
  dsimp only
  split_ifs <;> simp

@[simp ↓] theorem cellCommand_keeps (s : State) (src c cmd : Nat) : s.Keeps (s.cellCommand src c cmd).2 := by
  unfold State.cellCommand
  split <;> simp

@[simp ↓] theorem writeCcmd_keeps (s : State) (w : Who) (cmd : Nat) : s.Keeps (s.writeCcmd w cmd) :=
  (cellCommand_keeps ..).trans (setReg_keeps ..)

theorem execCellReset_answers (w : Who) (s : State) : s.Answers (execCellReset w s) := by
  unfold execCellReset
  simp

theorem execCellSuspend_answers (w : Who) (s : State) : s.Answers (execCellSuspend w s) := by
  unfold execCellSuspend
  simp

theorem execCellResume_answers (w : Who) (s : State) : s.Answers (execCellResume w s) := by
  unfold execCellResume
  simp

theorem execCellUnload_answers (w : Who) (s : State) : s.Answers (execCellUnload w s) := by
  unfold execCellUnload
  simp

theorem execCellCmdBad_answers (w : Who) (cmd : Nat) (s : State) : s.Answers (execCellCmdBad w cmd s) := by
  unfold execCellCmdBad
  split <;> simp

@[simp ↓] theorem unloadEnds_keeps (s : State) (c : Nat) : s.Keeps (s.unloadEnds c) := by
  unfold State.unloadEnds
  simp

@[simp ↓] theorem zeroedCell_keeps (s : State) (c : Nat) : s.Keeps (s.zeroedCell c) := by
  unfold State.zeroedCell
  simp

theorem execCellResetZeroed_answers (cell : Nat) (s : State) : s.Answers (execCellResetZeroed cell s) := by
  unfold execCellResetZeroed
  dsimp only
  split
  · simp
  · split
    · split <;> simp
    · split <;> simp

@[simp ↓] theorem restartLoop_keeps (s : State) (l : Nat) : s.Keeps (s.restartLoop l).2 := by
  unfold State.restartLoop
  dsimp only
  split_ifs <;> simp

@[simp ↓] theorem stopLoop_keeps (s : State) (l : Nat) : s.Keeps (s.stopLoop l).2 := by
  unfold State.stopLoop
  dsimp only
  split_ifs <;> simp

@[simp ↓] theorem writeLcmd_keeps (s : State) (w : Who) (cmd : Nat) : s.Keeps (s.writeLcmd w cmd) := by
  unfold State.writeLcmd
  refine State.Keeps.trans ?_ (setReg_keeps ..)
  split_ifs <;> simp

theorem execLoopRestart_answers (w : Who) (s : State) : s.Answers (execLoopRestart w s) := by
  unfold execLoopRestart
  simp

theorem execLoopStop_answers (w : Who) (s : State) : s.Answers (execLoopStop w s) := by
  unfold execLoopStop
  simp

@[simp ↓] theorem writeGsel_keeps (s : State) (cell : Nat) : s.Keeps (s.writeGsel cell) := by
  unfold State.writeGsel
  simp

theorem execGrantSelectWrite_answers (w : Who) (cell : Nat) (s : State) : s.Answers (execGrantSelectWrite w cell s) := by
  unfold execGrantSelectWrite
  simp

@[simp ↓] theorem grantApplied_keeps (s : State) : s.Keeps s.grantApplied := by
  unfold State.grantApplied
  simp

/-! ### The clock of day -/

@[simp ↓] theorem rtcCount_keeps (s : State) (t : Nat) : s.Keeps (s.rtcCount t) := by
  unfold State.rtcCount
  simp

@[simp ↓] theorem rtcAdvance_keeps (s : State) : s.Keeps s.rtcAdvance := by
  unfold State.rtcAdvance
  simp

@[simp ↓] theorem rtcApply_keeps (s : State) : s.Keeps s.rtcApply := by
  unfold State.rtcApply
  extract_lets old trim0 op regs s1 s2 stage s3 v x src sh adv v' x' s4 s5
  have h1 : s.Keeps s1 := foldl_keeps _ _ _ fun _ _ => setReg_keeps ..
  have h2 : s.Keeps s2 := h1.trans (keeps_with_shd_pend ..)
  clear_value s2
  have h3 : s.Keeps s3 := h2.trans (setReg_keeps ..)
  clear_value s3
  have hx : s3.Keeps x := (rtcCount_keeps ..).trans (setReg_keeps ..)
  clear_value x
  have hx' : s3.Keeps x' := (rtcAdvance_keeps s3).trans ((rtcCount_keeps ..).trans (setRegB_keeps ..))
  clear_value x'
  have h4 : s.Keeps s4 :=
    h3.trans (.ite (hx.trans ((keeps_with_rtc ..).trans (emit_keeps ..)))
      (.ite (hx'.trans (emit_keeps ..)) (rtcAdvance_keeps s3)))
  clear_value s4
  have h5 : s.Keeps s5 := h4.trans (setRegF_keeps ..)
  exact .ite h5 (h5.trans (storeReq_keeps ..))

@[simp ↓] theorem rtcTick_keeps (s : State) : s.Keeps s.rtcTick := by
  unfold State.rtcTick
  simp

@[simp ↓] theorem rtcApplyOp_keeps (s : State) (op : Nat) : s.Keeps (s.rtcApplyOp op) := by
  unfold State.rtcApplyOp
  simp

theorem execRtcTick_answers (s : State) : s.Answers (execRtcTick s) := by
  unfold execRtcTick
  simp

theorem execRtcSet_answers (s : State) : s.Answers (execRtcSet s) := by
  unfold execRtcSet
  simp

theorem execRtcShift_answers (s : State) : s.Answers (execRtcShift s) := by
  unfold execRtcShift
  simp

theorem execTrimChange_answers (s : State) : s.Answers (execTrimChange s) := by
  unfold execTrimChange
  simp

theorem execRtcOscStop_answers (s : State) : s.Answers (execRtcOscStop s) := by
  unfold execRtcOscStop
  dsimp only
  split <;> simp

@[simp ↓] theorem backupSwitch_keeps (s : State) : s.Keeps s.backupSwitch := by
  unfold State.backupSwitch
  simp

theorem execRtcBackupSwitch_answers (s : State) : s.Answers (execRtcBackupSwitch s) := by
  unfold execRtcBackupSwitch
  simp

@[simp ↓] theorem bkParity_keeps (s : State) (i bad : Nat) : s.Keeps (s.bkParity i bad) := by
  unfold State.bkParity
  simp

@[simp ↓] theorem bkWrite_keeps (s : State) (i : Nat) (v : Word) : s.Keeps (s.bkWrite i v) := by
  unfold State.bkWrite
  simp

@[simp ↓] theorem rtcCmd_keeps (s : State) (v : Word) : s.Keeps (s.rtcCmd v) := by
  unfold State.rtcCmd
  simp

@[simp ↓] theorem rtcFracRead_keeps (s : State) (b : Nat) : s.Keeps (s.rtcFracRead b) := by
  unfold State.rtcFracRead
  simp

@[simp ↓] theorem backupLost_keeps (s : State) : s.Keeps s.backupLost := by
  unfold State.backupLost
  simp

/-! ### Stored sets -/

theorem execCursorOldest_answers (w : Who) (s : State) : s.Answers (execCursorOldest w s) := by
  unfold execCursorOldest
  simp

theorem execCursorAt_answers (w : Who) (s : State) : s.Answers (execCursorAt w s) := by
  unfold execCursorAt
  simp

theorem execCursorAfter_answers (w : Who) (s : State) : s.Answers (execCursorAfter w s) := by
  unfold execCursorAfter
  simp

theorem execCursorNewest_answers (w : Who) (s : State) : s.Answers (execCursorNewest w s) := by
  unfold execCursorNewest
  simp

@[simp ↓] theorem cmdFlush_keeps (s : State) : s.Keeps s.cmdFlush := by
  unfold State.cmdFlush
  simp

theorem execFlush_answers (w : Who) (s : State) : s.Answers (execFlush w s) := by
  unfold execFlush
  simp

@[simp ↓] theorem nvErase_keeps (s : State) (who cell : Nat) : s.Keeps (s.nvErase who cell) := by
  unfold State.nvErase
  simp

theorem execNverase_answers (w : Who) (cell : Nat) (s : State) : s.Answers (execNverase w cell s) := by
  unfold execNverase
  simp

theorem execNvsRead_answers (t : Nat) (bad : Bool) (s : State) : s.Answers (execNvsRead t bad s) := by
  unfold execNvsRead
  dsimp only
  split <;> simp

@[simp ↓] theorem wearPool_keeps (s : State) (lines : Nat) : s.Keeps (s.wearPool lines) := by
  unfold State.wearPool
  simp

@[simp ↓] theorem nvUndone_keeps (s : State) (head : Nat) : s.Keeps (s.nvUndone head) := by
  unfold State.nvUndone
  split <;> simp

theorem execNvsWrite_answers (t : TagReads) (s' : State) : s'.Answers (execNvsWrite t s') := by
  unfold execNvsWrite
  split
  · simp
  · dsimp only
    split <;> simp

theorem execNvsEmit_answers (t : TagReads) (s' : State) : s'.Answers (execNvsEmit t s') := by
  unfold execNvsEmit
  split
  · simp
  · dsimp only
    split <;> simp

@[simp ↓] theorem storeFailed_keeps (s : State) (n step : Nat) : s.Keeps (s.storeFailed n step) := by
  unfold State.storeFailed
  simp

@[simp ↓] theorem storeStepped_keeps (s : State) (n : Nat) : s.Keeps (s.storeStepped n) := by
  unfold State.storeStepped
  simp

@[simp ↓] theorem houseStepped_keeps (s : State) : s.Keeps s.houseStepped := by
  unfold State.houseStepped
  simp

@[simp ↓] theorem afterInternal_keeps (s : State) (op : Option InternalReq) (good : Bool) :
    s.Keeps (s.afterInternal op good) := by
  unfold State.afterInternal
  split <;> simp

@[simp ↓] theorem transactionEnds_keeps (s : State) (e t err : Nat) : s.Keeps (s.transactionEnds e t err) := by
  unfold State.transactionEnds
  simp

theorem execTransactionComplete_answers (t : Nat) (s : State) : s.Answers (execTransactionComplete t s) := by
  unfold execTransactionComplete
  dsimp only
  split
  · split <;> simp
  · simp

theorem execEngineWatchdog_answers (e : Nat) (s : State) : s.Answers (execEngineWatchdog e s) := by
  unfold execEngineWatchdog
  dsimp only
  split
  · simp
  · split <;> simp

@[simp ↓] theorem portFreed_keeps (s : State) : s.Keeps s.portFreed := by
  unfold State.portFreed
  split <;> simp

theorem portFor_keeps {s : State} {r : InternalReq} {x : State × Nat} (h : s.portFor r = some x) : s.Keeps x.1 := by
  unfold State.portFor at h
  dsimp only at h
  split at h
  · cases h; simp
  · split_ifs at h
    split at h
    · split_ifs at h
      cases h; simp
    · cases h

theorem execLogLineWrite_answers (s : State) : s.Answers (execLogLineWrite s) := by
  refine .ite (.next (.refl s)) ?_
  split
  · exact .next (.refl s)
  · next h => exact .next ((portFor_keeps h).trans ((keeps_with_recd ..).trans
      ((ranWith_keeps ..).trans ((recFill_keeps _).trans (overflow_keeps _)))))

/-- The program's internal transactions on a port keep what each operation keeps. -/
theorem runPort_keeps (r : InternalReq) (more : State → Bool) (op : State → State)
    (hop : ∀ s : State, s.Keeps (op s)) (n : Nat)
    (s : State) : s.Keeps (State.runPort r more op n s) := by
  induction n generalizing s with
  | zero => exact .refl s
  | succ n ih =>
    unfold State.runPort
    split
    · simp
    · split
      · simp
      · next s1 t h => exact (portFor_keeps h).trans ((hop s1).trans ((transactionEnds_keeps ..).trans (ih _)))

@[simp ↓] theorem writeLines_keeps (s : State) : s.Keeps s.writeLines := by
  unfold State.writeLines
  refine runPort_keeps _ _ _ ?_ _ s
  intro s
  exact ⟨rfl, rfl⟩

@[simp ↓] theorem ownLines_keeps (s : State) : s.Keeps s.ownLines := by
  unfold State.ownLines
  simp

@[simp ↓] theorem markerOn_keeps (clean : Bool) (s1 : State) (t : Nat) : s1.Keeps (State.markerOn clean s1 t) := by
  unfold State.markerOn
  simp

theorem flushEnds_keeps {s t : State} {why : FlushWhy} (h : s.flushEnds why = some t) : s.Keeps t := by
  unfold State.flushEnds at h
  dsimp only at h
  split at h
  · cases h
  · obtain ⟨x, hx, rfl⟩ := Option.map_eq_some_iff.mp h
    refine State.Keeps.trans ?_ ((portFor_keeps hx).trans ?_) <;> simp

theorem execMarkerWrite_answers (s : State) : s.Answers (execMarkerWrite s) := by
  refine .ite (.next (.refl s)) ?_
  split
  · exact .next (askInternal_keeps ..)
  · next h => exact .next ((portFor_keeps h).trans (markerOn_keeps ..))

theorem execNvsStoreStart_answers (set fail : Nat) (s : State) : s.Answers (execNvsStoreStart set fail s) := by
  unfold execNvsStoreStart
  split <;> simp

theorem execNvsStorePendingStart_answers (set fail : Nat) (s : State) : s.Answers (execNvsStorePendingStart set fail s) := by
  unfold execNvsStorePendingStart
  split <;> simp

theorem execStoreCommit_answers (set : Nat) (fail : Bool) (s : State) : s.Answers (execStoreCommit set fail s) := by
  unfold execStoreCommit
  extract_lets s0 s3
  have h0 : s.Keeps s0 := (portFreed_keeps s).trans (runPort_keeps _ _ _ (fun t => .refl t) _ _)
  clear_value s0
  have h3 : s.Keeps s3 := h0.trans (storeCommit_keeps ..)
  exact .ite (.next (.refl s)) (.ite (.next h0) (.ite (.next (h0.trans (storeFailed_keeps ..)))
    (.next (h3.trans (.ite (feStoreDone_keeps _) (.ite (colStoreDone_keeps _) (emit_keeps ..)))))))

theorem execRtcFracRead_answers (w : Who) (s : State) : s.Answers (execRtcFracRead w s) := by
  unfold execRtcFracRead
  simp

@[simp ↓] theorem bkRead_keeps (s : State) (i bad : Nat) : s.Keeps (s.bkRead i bad) := by
  unfold State.bkRead
  simp

theorem execBkramRead_answers (w : Who) (i bad : Nat) (s : State) : s.Answers (execBkramRead w i bad s) := by
  unfold execBkramRead
  split <;> simp

theorem execClrperr_answers (w : Who) (s : State) : s.Answers (execClrperr w s) := by
  unfold execClrperr
  simp

theorem execClrsw_answers (w : Who) (s : State) : s.Answers (execClrsw w s) := by
  unfold execClrsw
  simp

/-! ### Supplies -/

@[simp ↓] theorem setPwr_keeps (s : State) (x : PwrSt) : s.Keeps (s.setPwr x) := ⟨rfl, rfl⟩

@[simp ↓] theorem pwrEvt_keeps (s : State) (i : Nat) : s.Keeps (s.pwrEvt i) := by
  unfold State.pwrEvt
  simp

@[simp ↓] theorem demandsMoved_keeps (s : State) : s.Keeps s.demandsMoved := by
  unfold State.demandsMoved
  simp

@[simp ↓] theorem carries_keeps (s : State) : s.Keeps s.carries := by
  unfold State.carries
  simp

@[simp ↓] theorem showSample_keeps (s : State) (i : Nat) (vs : List Nat) : s.Keeps (s.showSample i vs) := by
  unfold State.showSample
  split <;> simp

@[simp ↓] theorem showSamples_keeps (s : State) (a b : List Nat) : s.Keeps (s.showSamples a b) := by
  unfold State.showSamples
  simp

@[simp ↓] theorem dipDemand_keeps (s0 : State) (a b : List Nat) : s0.Keeps (s0.dipDemand a b) := by
  unfold State.dipDemand
  extract_lets s p v low s1
  have h : s0.Keeps s := showSamples_keeps ..
  split
  · exact h
  · exact h.trans ((setPwr_keeps ..).trans ((setRegF_keeps ..).trans (demandsMoved_keeps _)))

theorem execDipBegin_answers (a b : List Nat) (s : State) : s.Answers (execDipBegin a b s) := by
  unfold execDipBegin
  dsimp only
  split <;> simp

theorem execPwrDip_answers (a b : List Nat) (s : State) : s.Answers (execPwrDip a b s) := by
  unfold execPwrDip
  split
  · simp
  · dsimp only
    split <;> simp

@[simp ↓] theorem writeForce_keeps (s : State) (v : Word) : s.Keeps (s.writeForce v) := by
  unfold State.writeForce
  simp

theorem execPwrForceWrite_answers (w : Who) (v : Word) (s : State) : s.Answers (execPwrForceWrite w v s) := by
  unfold execPwrForceWrite
  simp

theorem execPwrThermal_answers (tb tj : Int) (s : State) : s.Answers (execPwrThermal tb tj s) := by
  unfold execPwrThermal
  dsimp only
  split
  · split <;> simp
  · split
    · split <;> simp
    · simp

@[simp ↓] theorem inputSample_keeps (s : State) (i : Nat) (v : Int) (low : Nat) (start : Bool) :
    s.Keeps (s.inputSample i v low start) := by
  unfold State.inputSample
  simp

theorem execPwrInputRev_answers (i : Nat) (v : Int) (s : State) : s.Answers (execPwrInputRev i v s) := by
  unfold execPwrInputRev
  split <;> simp

theorem execPwrInputLost_answers (i : Nat) (v : Int) (s : State) : s.Answers (execPwrInputLost i v s) := by
  unfold execPwrInputLost
  split <;> simp

theorem execPwrInputOv_answers (i : Nat) (v : Int) (s : State) : s.Answers (execPwrInputOv i v s) := by
  unfold execPwrInputOv
  split <;> simp

theorem execPwrInputOk_answers (i : Nat) (v : VoltFor) (s : State) : s.Answers (execPwrInputOk i v s) := by
  unfold execPwrInputOk
  split <;> simp

@[simp ↓] theorem fieldVolt_keeps (s : State) (v : Int) : s.Keeps (s.fieldVolt v) := by
  unfold State.fieldVolt
  simp

@[simp ↓] theorem setFsw_keeps (s : State) (f : FieldSw) : s.Keeps (s.setFsw f) := by
  unfold State.setFsw
  simp

@[simp ↓] theorem fieldCase_keeps (s : State) (v : Int) (f : FieldSw) (flag code : Nat) :
    s.Keeps (s.fieldCase v f flag code) := by
  unfold State.fieldCase
  simp

theorem execPwrFieldUv_answers (r : VoltFor) (s : State) : s.Answers (execPwrFieldUv r s) := by
  unfold execPwrFieldUv
  dsimp only
  split <;> simp

theorem execPwrFieldOv_answers (v : Int) (s : State) : s.Answers (execPwrFieldOv v s) := by
  unfold execPwrFieldOv
  dsimp only
  split <;> simp

theorem execPwrFieldRev_answers (v : Int) (s : State) : s.Answers (execPwrFieldRev v s) := by
  unfold execPwrFieldRev
  dsimp only
  split <;> simp

theorem execPwrFieldTrip_answers (r : LoadFor) (s : State) : s.Answers (execPwrFieldTrip r s) := by
  unfold execPwrFieldTrip
  dsimp only
  split <;> simp

theorem execFieldSwitchRetry_answers (s : State) : s.Answers (execFieldSwitchRetry s) := by
  unfold execFieldSwitchRetry
  dsimp only
  split <;> simp

theorem execPwrFieldOk_answers (r : VoltFor) (s : State) : s.Answers (execPwrFieldOk r s) := by
  unfold execPwrFieldOk
  dsimp only
  split
  · simp
  · split
    · simp
    · split <;> simp

@[simp ↓] theorem fieldRelease_keeps (s : State) : s.Keeps s.fieldRelease := by
  unfold State.fieldRelease
  simp

theorem execFretry_answers (w : Who) (s : State) : s.Answers (execFretry w s) := by
  unfold execFretry
  simp

@[simp ↓] theorem startHuTest_keeps (s : State) : s.Keeps s.startHuTest := by
  unfold State.startHuTest
  simp

theorem execHutest_answers (w : Who) (s : State) : s.Answers (execHutest w s) := by
  unfold execHutest
  simp

theorem execHoldupTest_answers (t vst : Nat) (s : State) : s.Answers (execHoldupTest t vst s) := by
  unfold execHoldupTest
  dsimp only
  split
  · split <;> simp
  · split <;> simp

theorem execHoldupCharged_answers (vst : Nat) (s : State) : s.Answers (execHoldupCharged vst s) := by
  unfold execHoldupCharged
  split <;> simp

theorem execVbakTest_answers (v : Int) (s : State) : s.Answers (execVbakTest v s) := by
  unfold execVbakTest
  split
  · simp
  · dsimp only
    split <;> simp

@[simp ↓] theorem pwrApplied_keeps (s : State) : s.Keeps s.pwrApplied := by
  unfold State.pwrApplied
  simp

end Sys2Proof.Machine
end

section
/-! SUPPORT. The queue and the timebase kept (R23): host link, tag, resets, clocks and tiers. -/
namespace Sys2Proof.Machine

/-! ### The host link -/

@[simp ↓] theorem setPtp_keeps (s : State) (l : Nat) (x : Ptp) : s.Keeps (s.setPtp l x) := by
  unfold State.setPtp
  simp

@[simp ↓] theorem ptpShow_keeps (s : State) : s.Keeps s.ptpShow := by
  unfold State.ptpShow
  dsimp only
  split <;> simp

@[simp ↓] theorem choosePtp_keeps (s : State) (gm0 : Nat) : s.Keeps (s.choosePtp gm0) := by
  unfold State.choosePtp
  dsimp only
  split <;> simp

@[simp ↓] theorem ptpMoved_keeps (s : State) (l : Nat) (x : Ptp) : s.Keeps (s.ptpMoved l x) := by
  unfold State.ptpMoved
  simp

theorem execAnnounce_answers (l prio gm interval : Nat) (s : State) : s.Answers (execAnnounce l prio gm interval s) := by
  unfold execAnnounce
  split <;> simp

theorem execSyncTimeout_answers (l : Nat) (s : State) : s.Answers (execSyncTimeout l s) := by
  unfold execSyncTimeout
  dsimp only
  split <;> simp

theorem execPdelayReqSend_answers (l : Nat) (s : State) : s.Answers (execPdelayReqSend l s) := by
  unfold execPdelayReqSend
  dsimp only
  split <;> simp

theorem execPdelayResp_answers (l t2 t3 t4 : Nat) (cap : Bool) (s : State) :
    s.Answers (execPdelayResp l t2 t3 t4 cap s) := by
  unfold execPdelayResp
  dsimp only
  split
  · simp
  · split <;> simp

theorem execPdelayReq_answers (l t2 : Nat) (s : State) : s.Answers (execPdelayReq l t2 s) := by
  unfold execPdelayReq
  split <;> simp

@[simp ↓] theorem linkDown_keeps (s : State) (l st reason : Nat) : s.Keeps (s.linkDown l st reason) := by
  unfold State.linkDown
  simp

theorem execHstLinkUp_answers (l : Nat) (pol : Bool) (s : State) : s.Answers (execHstLinkUp l pol s) := by
  unfold execHstLinkUp
  dsimp only
  split <;> simp

theorem execHstLinkDown_answers (l : Nat) (s : State) : s.Answers (execHstLinkDown l s) := by
  unfold execHstLinkDown
  split <;> simp

theorem execCableDiagnostic_answers (l faults dist : Nat) (s : State) : s.Answers (execCableDiagnostic l faults dist s) := by
  unfold execCableDiagnostic
  dsimp only
  split <;> simp

@[simp ↓] theorem dropFrame_keeps (s : State) (l : Nat) : s.Keeps (s.dropFrame l) := by
  unfold State.dropFrame
  simp

theorem execArpRequest_answers (l : Nat) (frame : HostFrame) (target sender : Word) (s : State) :
    s.Answers (execArpRequest l frame target sender s) := by
  unfold execArpRequest
  split
  · simp
  · split
    · simp
    · split <;> simp

theorem execIcmpEcho_answers (l : Nat) (frame : HostFrame) (target sender : Word) (data : List Byte) (s : State) :
    s.Answers (execIcmpEcho l frame target sender data s) := by
  unfold execIcmpEcho
  split
  · simp
  · split
    · simp
    · split <;> simp

@[simp ↓] theorem hstShed_keeps (s : State) : s.Keeps s.hstShed := by
  unfold State.hstShed
  simp

@[simp ↓] theorem hstRestore_keeps (s : State) : s.Keeps s.hstRestore := by
  unfold State.hstRestore
  simp

@[simp ↓] theorem hstApplied_keeps (old s : State) : s.Keeps (State.hstApplied old s) := by
  unfold State.hstApplied
  simp

/-! ### Keys and alarms -/

@[simp ↓] theorem setFace_keeps (s : State) (x : FaceSt) : s.Keeps (s.setFace x) := ⟨rfl, rfl⟩

@[simp ↓] theorem unstick_keeps (s : State) (k : Nat) : s.Keeps (s.unstick k) := by
  unfold State.unstick
  simp

@[simp ↓] theorem press_keeps (s : State) (k : Nat) : s.Keeps (s.press k).1 := by
  unfold State.press
  dsimp only
  split <;> simp

@[simp ↓] theorem acknowledge_keeps (s : State) : s.Keeps s.acknowledge := by
  unfold State.acknowledge
  simp

theorem execAck_answers (s : State) : s.Answers (execAck s) := by
  unfold execAck
  dsimp only
  split <;> simp

theorem execSilence_answers (s : State) : s.Answers (execSilence s) := by
  unfold execSilence
  simp

theorem execLocalI_answers (s : State) : s.Answers (execLocalI s) := by
  unfold execLocalI
  dsimp only
  split <;> simp

theorem execTest_answers (s : State) : s.Answers (execTest s) := by
  unfold execTest
  dsimp only
  split <;> simp

@[simp ↓] theorem setLocal_keeps (s : State) (on : Bool) : s.Keeps (s.setLocal on) := by
  unfold State.setLocal
  simp

theorem execFaceLocal_answers (s : State) : s.Answers (execFaceLocal s) := by
  unfold execFaceLocal
  split <;> simp

theorem execFaceKeyStuck_answers (k : Nat) (s : State) : s.Answers (execFaceKeyStuck k s) := by
  unfold execFaceKeyStuck
  split <;> simp

theorem execKeyReleased_answers (k : Nat) (s : State) : s.Answers (execKeyReleased k s) := by
  unfold execKeyReleased
  split
  · simp
  · split <;> simp

theorem execLedTestEnd_answers (s : State) : s.Answers (execLedTestEnd s) := by
  unfold execLedTestEnd
  split <;> simp

theorem execLocalTimeout_answers (s : State) : s.Answers (execLocalTimeout s) := by
  unfold execLocalTimeout
  dsimp only
  split <;> simp

@[simp ↓] theorem writeAlarm_keeps (s : State) (v : Word) : s.Keeps (s.writeAlarm v) := by
  unfold State.writeAlarm
  simp

theorem execAlarmWrite_answers (w : Who) (v : Word) (s : State) : s.Answers (execAlarmWrite w v s) := by
  unfold execAlarmWrite
  simp

/-! ### The tag -/

@[simp ↓] theorem setTagSt_keeps (s : State) (x : TagSt) : s.Keeps (s.setTagSt x) := ⟨rfl, rfl⟩

@[simp ↓] theorem tagAnswer_keeps (s : State) (bytes : List Byte) : s.Keeps (s.tagAnswer bytes) := by
  unfold State.tagAnswer
  simp

@[simp ↓] theorem tagError_keeps (s : State) (code : Nat) : s.Keeps (s.tagError code) := by
  unfold State.tagError
  simp

theorem execInventory_answers (s : State) : s.Answers (execInventory s) := by
  unfold execInventory
  simp

theorem execGetSystemInformation_answers (s : State) : s.Answers (execGetSystemInformation s) := by
  unfold execGetSystemInformation
  simp

theorem execExtendedReadSingleBlock_answers (b : Nat) (s : State) : s.Answers (execExtendedReadSingleBlock b s) := by
  unfold execExtendedReadSingleBlock
  split <;> simp

theorem execExtendedReadMultipleBlocks_answers (b n : Nat) (s : State) :
    s.Answers (execExtendedReadMultipleBlocks b n s) := by
  unfold execExtendedReadMultipleBlocks
  split <;> simp

@[simp ↓] theorem showHold_keeps (s : State) : s.Keeps s.showHold := by
  unfold State.showHold
  simp

theorem execExtendedWriteSingleBlock_answers (b : Nat) (data : List Byte) (s : State) :
    s.Answers (execExtendedWriteSingleBlock b data s) := by
  unfold execExtendedWriteSingleBlock
  split
  · simp
  · split
    · simp
    · split <;> simp

theorem execFieldWriteCommit_answers (s : State) : s.Answers (execFieldWriteCommit s) := by
  unfold execFieldWriteCommit
  split
  · simp
  · split <;> simp

@[simp ↓] theorem wiredLost_keeps (s : State) : s.Keeps s.wiredLost := by
  unfold State.wiredLost
  split <;> simp

theorem execReaderField_answers (present : Bool) (s : State) : s.Answers (execReaderField present s) := by
  unfold execReaderField
  dsimp only
  split
  · simp
  · split <;> simp

@[simp ↓] theorem tagRes_keeps (s : State) (res fcast : Nat) : s.Keeps (s.tagRes res fcast) := by
  unfold State.tagRes
  simp

@[simp ↓] theorem writeTagCmd_keeps (s : State) (v : Word) : s.Keeps (s.writeTagCmd v) := by
  unfold State.writeTagCmd
  extract_lets b x held
  split_ifs
  · simp
  · simp
  · split <;> simp

theorem execTagWcmd_answers (w : Who) (v : Word) (s : State) : s.Answers (execTagWcmd w v s) := by
  unfold execTagWcmd
  simp

theorem execWiredCommitComplete_answers (s : State) : s.Answers (execWiredCommitComplete s) := by
  unfold execWiredCommitComplete
  split <;> simp

@[simp ↓] theorem writeTagStatus_keeps (s : State) : s.Keeps s.writeTagStatus := by
  unfold State.writeTagStatus
  simp

theorem execTagStatusWrite_answers (s : State) : s.Answers (execTagStatusWrite s) := by
  unfold execTagStatusWrite
  dsimp only
  split <;> simp

theorem execTagAntCheck_answers (bad : Bool) (s : State) : s.Answers (execTagAntCheck bad s) := by
  unfold execTagAntCheck
  dsimp only
  split <;> simp

@[simp ↓] theorem tagShed_keeps (s : State) : s.Keeps s.tagShed := by
  unfold State.tagShed
  simp

@[simp ↓] theorem tagRestore_keeps (s : State) : s.Keeps s.tagRestore := by
  unfold State.tagRestore
  simp

@[simp ↓] theorem tagStart_keeps (s : State) : s.Keeps s.tagStart := by
  unfold State.tagStart
  simp

@[simp ↓] theorem tagPowerUp_keeps (s : State) : s.Keeps s.tagPowerUp := by
  unfold State.tagPowerUp
  simp

/-! ### The island -/

@[simp ↓] theorem setCtl_keeps (s : State) (x : CtlSt) : s.Keeps (s.setCtl x) := ⟨rfl, rfl⟩

@[simp ↓] theorem islandState_keeps (s : State) (n : Nat) : s.Keeps (s.islandState n) := by
  unfold State.islandState
  simp

@[simp ↓] theorem resetPosture_keeps (s : State) (n : Nat) : s.Keeps (s.resetPosture n) := by
  unfold State.resetPosture
  simp

@[simp ↓] theorem blockPosture_keeps (s : State) (b : Nat) : s.Keeps (s.blockPosture b) := by
  unfold State.blockPosture
  simp

@[simp ↓] theorem recordIsland_keeps (s : State) (a : IslandAct) (ops : List Nat) (took : List (Nat × Nat)) :
    s.Keeps (s.recordIsland a ops took) := by
  unfold State.recordIsland
  simp

@[simp ↓] theorem islandTrigger_keeps (s : State) (trig : Nat) (ops blocks : List Nat) :
    s.Keeps (s.islandTrigger trig ops blocks) := by
  unfold State.islandTrigger
  split <;> simp

@[simp ↓] theorem islandEnd_keeps (s : State) (a : IslandAct) : s.Keeps (s.islandEnd a) := by
  unfold State.islandEnd
  simp

@[simp ↓] theorem handOver_keeps (s : State) (a : IslandAct) : s.Keeps (s.handOver a) := by
  unfold State.handOver
  simp

@[simp ↓] theorem islandAct_keeps (s : State) (a : IslandAct) : s.Keeps (s.islandAct a) := by
  unfold State.islandAct
  simp

theorem execIslandAct_answers (s : State) : s.Answers (execIslandAct s) := by
  unfold execIslandAct
  split <;> simp

theorem islandFlush_keeps {s t : State} {why : FlushWhy} (h : s.islandFlush why = some t) : s.Keeps t := by
  unfold State.islandFlush at h
  split at h
  · cases h
  · split at h
    · exact keeps_of_some h (by simp)
    · cases h

theorem execFlushComplete_answers (s : State) : s.Answers (execFlushComplete s) := by
  unfold execFlushComplete
  split
  · exact .next (.refl s)
  · split
    · exact .next (.refl s)
    · next s0 hs0 =>
      have h0 : s.Keeps s0 := by
        rcases Option.or_eq_some_iff.mp hs0 with h | ⟨-, h⟩
        · exact flushEnds_keeps h
        · exact islandFlush_keeps h
      extract_lets s1
      have h1 : s.Keeps s1 := h0.trans (.ite (writeTagStatus_keeps s0) (.refl s0))
      clear_value s1
      split
      · exact .next h1
      · exact .ite (.next h1) (.next (h1.trans ((setCtl_keeps ..).trans (.ite (islandEnd_keeps ..) (.refl _)))))

@[simp ↓] theorem amendReset_keeps (s : State) (r : ResetRun) : s.Keeps (s.amendReset r) := by
  unfold State.amendReset
  simp

@[simp ↓] theorem resetTrigger_keeps (s : State) (r : ResetRun) (trig : Nat) : s.Keeps (s.resetTrigger r trig) := by
  unfold State.resetTrigger
  simp

@[simp ↓] theorem requestReset_keeps (s : State) (scope cause blocks trig : Nat) (record : Bool) :
    s.Keeps (s.requestReset scope cause blocks trig record) := by
  unfold State.requestReset
  split <;> simp

@[simp ↓] theorem writeReset_keeps (s : State) (cell : Nat) (v : Word) : s.Keeps (s.writeReset cell v) := by
  unfold State.writeReset
  split
  · simp
  · split <;> simp

@[simp ↓] theorem writeBrst_keeps (s : State) (cell : Nat) (v : Word) : s.Keeps (s.writeBrst cell v) := by
  unfold State.writeBrst
  simp

theorem execSys_answers (w : Who) (s : State) : s.Answers (execSys w s) := by
  unfold execSys
  simp

theorem execFull_answers (w : Who) (s : State) : s.Answers (execFull w s) := by
  unfold execFull
  simp

theorem execCtlBrstWrite_answers (w : Who) (v : Word) (s : State) : s.Answers (execCtlBrstWrite w v s) := by
  unfold execCtlBrstWrite
  simp

@[simp ↓] theorem writeWdkick_keeps (s : State) (cell : Nat) (v : Word) : s.Keeps (s.writeWdkick cell v) := by
  unfold State.writeWdkick
  simp

theorem execCtlWdkickWrite_answers (w : Who) (v : Word) (s : State) : s.Answers (execCtlWdkickWrite w v s) := by
  unfold execCtlWdkickWrite
  simp

theorem execCtlWatchdog_answers (s : State) : s.Answers (execCtlWatchdog s) := by
  unfold execCtlWatchdog
  dsimp only
  split <;> simp

theorem execCtlWedge_answers (s : State) : s.Answers (execCtlWedge s) := by
  unfold execCtlWedge
  dsimp only
  split <;> simp

@[simp ↓] theorem placerEcc_keeps (s : State) : s.Keeps s.placerEcc := by
  unfold State.placerEcc
  simp

theorem execEngineGrant_answers (k : GrantCheck) (s : State) : s.Answers (execEngineGrant k s) := by
  unfold execEngineGrant
  split <;> simp

theorem execReplan_answers (e : Ecc) (s : State) : s.Answers (execReplan e s) := by
  unfold execReplan
  split
  · simp
  · split
    · simp
    · dsimp only
      split
      · split <;> simp
      · split <;> simp

@[simp ↓] theorem ctlApplied_keeps (old s : State) : s.Keeps (State.ctlApplied old s) := by
  unfold State.ctlApplied
  simp

/-! ### Resets -/

@[simp ↓] theorem clearRegs_keeps (s : State) (p : Nat → Bool) : s.Keeps (s.clearRegs p) := by
  unfold State.clearRegs
  simp

@[simp ↓] theorem loadRegs_keeps (s : State) (p : Nat → Bool) (n : Nat) : s.Keeps (s.loadRegs p n) := by
  unfold State.loadRegs
  simp

@[simp ↓] theorem closeSession_keeps (s : State) (sid reason : Nat) : s.Keeps (s.closeSession sid reason) := by
  unfold State.closeSession
  simp

@[simp ↓] theorem closeAll_keeps (s : State) : s.Keeps s.closeAll := by
  unfold State.closeAll
  simp

@[simp ↓] theorem endLocal_keeps (s : State) : s.Keeps s.endLocal := by
  unfold State.endLocal
  simp

@[simp ↓] theorem assertBlock_keeps (s : State) (b : Nat) : s.Keeps (s.assertBlock b) := by
  unfold State.assertBlock
  dsimp only
  split <;> simp

@[simp ↓] theorem hstStart_keeps (s : State) : s.Keeps s.hstStart := by
  unfold State.hstStart
  simp

@[simp ↓] theorem startBlock_keeps (s : State) (b : Nat) : s.Keeps (s.startBlock b) := by
  unfold State.startBlock
  split <;> simp

@[simp ↓] theorem leavePosture_keeps (s : State) (bs : List Nat) : s.Keeps (s.leavePosture bs) := by
  unfold State.leavePosture
  simp

@[simp ↓] theorem hwkFresh_keeps (s0 : State) : s0.Keeps s0.hwkFresh := by
  unfold State.hwkFresh
  split <;> simp

@[simp ↓] theorem assertSystem_keeps (s : State) : s.Keeps s.assertSystem := by
  unfold State.assertSystem
  simp

@[simp ↓] theorem setCause_keeps (s : State) (scope cause : Nat) (blocks : Option Nat) :
    s.Keeps (s.setCause scope cause blocks) := by
  unfold State.setCause
  split <;> simp

@[simp ↓] theorem porState_keeps (s : State) (cause : Nat) : s.Keeps (s.porState cause) := by
  unfold State.porState
  simp

@[simp ↓] theorem assertReset_keeps (s : State) (r : ResetRun) : s.Keeps (s.assertReset r) := by
  unfold State.assertReset
  split <;> simp

theorem execResetAssert_answers (s : State) : s.Answers (execResetAssert s) := by
  unfold execResetAssert
  split
  · simp
  · split <;> simp

@[simp ↓] theorem startPairs_keeps (s : State) (failed : List Nat) : s.Keeps (s.startPairs failed) := by
  unfold State.startPairs
  simp

@[simp ↓] theorem bootHouse_keeps (s : State) : s.Keeps s.bootHouse := by
  unfold State.bootHouse
  split
  · simp
  · split <;> simp

@[simp ↓] theorem startShed_keeps (s : State) : s.Keeps s.startShed := by
  unfold State.startShed
  simp

@[simp ↓] theorem startAll_keeps (s : State) (failed : List Nat) : s.Keeps (s.startAll failed) := by
  unfold State.startAll
  extract_lets s1
  have h1 : s.Keeps s1 := (foldl_keeps _ _ _ startBlock_keeps).trans (startShed_keeps _)
  exact h1.trans ((startPairs_keeps ..).trans (bootHouse_keeps _))

@[simp ↓] theorem releaseSystem_keeps (s : State) (failed : List Nat) : s.Keeps (s.releaseSystem failed) := by
  unfold State.releaseSystem
  extract_lets s1
  exact (setCtl_keeps ..).trans ((countReg_keeps ..).trans (startAll_keeps ..))

@[simp ↓] theorem releaseBlocks_keeps (s : State) (r : ResetRun) : s.Keeps (s.releaseBlocks r) := by
  unfold State.releaseBlocks
  simp

theorem execResetRelease_answers (failed : List Nat) (s : State) : s.Answers (execResetRelease failed s) := by
  unfold execResetRelease
  split
  · simp
  · split <;> simp

@[simp ↓] theorem startBackup_keeps (s : State) (lost : Bool) : s.Keeps (s.startBackup lost) := by
  unfold State.startBackup
  simp

@[simp ↓] theorem firstSample_keeps (s : State) (a b : Int) : s.Keeps (s.firstSample a b) := by
  unfold State.firstSample
  simp

theorem execCtlStart_answers (s : State) : s.Answers (execCtlStart s) := by
  unfold execCtlStart
  split
  · simp
  · split <;> simp

theorem execCtlCensusLate_answers (s : State) : s.Answers (execCtlCensusLate s) := by
  unfold execCtlCensusLate
  dsimp only
  split <;> simp

/-! ### Clocks -/

@[simp ↓] theorem changeCore_keeps (s : State) (new : Nat) : s.Keeps (s.changeCore new) := by
  unfold State.changeCore
  simp

@[simp ↓] theorem clkApplied_keeps (s : State) : s.Keeps s.clkApplied := by
  unfold State.clkApplied
  simp

@[simp ↓] theorem planhzApplied_keeps (s : State) : s.Keeps s.planhzApplied := by
  unfold State.planhzApplied
  simp

@[simp ↓] theorem startRelock_keeps (s : State) : s.Keeps s.startRelock := by
  unfold State.startRelock
  simp

@[simp ↓] theorem lockChecked_keeps (s : State) (checks : List Nat) : s.Keeps (s.lockChecked checks) := by
  unfold State.lockChecked
  split <;> simp

theorem execPllLockLoss_answers (checks : List Nat) (s : State) : s.Answers (execPllLockLoss checks s) := by
  unfold execPllLockLoss
  split
  · simp
  · split <;> simp

@[simp ↓] theorem cmdRelock_keeps (s : State) (cell : Nat) : s.Keeps (s.cmdRelock cell) := by
  unfold State.cmdRelock
  simp

theorem execRelock_answers (w : Who) (s : State) : s.Answers (execRelock w s) := by
  unfold execRelock
  simp

@[simp ↓] theorem repeatSlots_keeps (s : State) : s.Keeps s.repeatSlots := by
  unfold State.repeatSlots
  simp

@[simp ↓] theorem endRelock_keeps (s : State) (r : Relock) (count : Nat) : s.Keeps (s.endRelock r count) := by
  unfold State.endRelock
  simp

theorem execClkRelock_answers (checks : List Nat) (s : State) : s.Answers (execClkRelock checks s) := by
  unfold execClkRelock
  split
  · simp
  · split <;> simp

@[simp ↓] theorem clockFailed_keeps (s : State) (cause : Nat) : s.Keeps (s.clockFailed cause) := by
  unfold State.clockFailed
  simp

theorem execRelockAttemptTimeout_answers (s : State) : s.Answers (execRelockAttemptTimeout s) := by
  unfold execRelockAttemptTimeout
  split
  · simp
  · split
    · simp
    · split <;> simp

theorem execClkRootFail_answers (kind : Nat) (dev : Int) (s : State) : s.Answers (execClkRootFail kind dev s) := by
  unfold execClkRootFail
  dsimp only
  split <;> simp

theorem execIslandRetry_answers (rootOk pllOk : Bool) (s : State) : s.Answers (execIslandRetry rootOk pllOk s) := by
  unfold execIslandRetry
  split
  · simp
  · dsimp only
    split <;> simp

@[simp ↓] theorem dtblRead_keeps (s : State) (b : Nat) : s.Keeps (s.dtblRead b) := by
  unfold State.dtblRead
  simp

theorem execClkDtblRead_answers (w : Who) (s : State) : s.Answers (execClkDtblRead w s) := by
  unfold execClkDtblRead
  simp

/-! ### Floating-point instructions -/

theorem execFadd_answers (l : Nat) (d a b : Reg) (s : State) : s.Answers (execFadd l d a b s) := by
  unfold execFadd
  simp

theorem execFsub_answers (l : Nat) (d a b : Reg) (s : State) : s.Answers (execFsub l d a b s) := by
  unfold execFsub
  simp

theorem execFmul_answers (l : Nat) (d a b : Reg) (s : State) : s.Answers (execFmul l d a b s) := by
  unfold execFmul
  simp

theorem execFdiv_answers (l : Nat) (d a b : Reg) (s : State) : s.Answers (execFdiv l d a b s) := by
  unfold execFdiv
  simp

theorem execFma_answers (l : Nat) (d a b : Reg) (s : State) : s.Answers (execFma l d a b s) := by
  unfold execFma
  simp

theorem execFmin_answers (l : Nat) (d a b : Reg) (s : State) : s.Answers (execFmin l d a b s) := by
  unfold execFmin
  simp

theorem execFmax_answers (l : Nat) (d a b : Reg) (s : State) : s.Answers (execFmax l d a b s) := by
  unfold execFmax
  simp

theorem execFsqrt_answers (l : Nat) (d a : Reg) (s : State) : s.Answers (execFsqrt l d a s) := by
  unfold execFsqrt
  simp

theorem execFabs_answers (l : Nat) (d a : Reg) (s : State) : s.Answers (execFabs l d a s) := by
  unfold execFabs
  simp

theorem execFneg_answers (l : Nat) (d a : Reg) (s : State) : s.Answers (execFneg l d a s) := by
  unfold execFneg
  simp

theorem execFcvti_answers (l : Nat) (d a : Reg) (s : State) : s.Answers (execFcvti l d a s) := by
  unfold execFcvti
  simp

theorem execFcvtf_answers (l : Nat) (d a : Reg) (s : State) : s.Answers (execFcvtf l d a s) := by
  unfold execFcvtf
  simp

theorem execFcmp_answers (l : Nat) (a b : Reg) (s : State) : s.Answers (execFcmp l a b s) := by
  unfold execFcmp
  simp

/-! ### Tiers -/

@[simp ↓] theorem tierTo_keeps (s : State) (n : Nat) : s.Keeps (s.tierTo n) := by
  unfold State.tierTo
  simp

@[simp ↓] theorem downReset_keeps (s : State) (cause : Nat) : s.Keeps (s.downReset cause) := by
  unfold State.downReset
  simp

@[simp ↓] theorem powerDown_keeps (s : State) : s.Keeps s.powerDown := by
  unfold State.powerDown
  simp

@[simp ↓] theorem shedTier_keeps (s : State) (n : Nat) : s.Keeps (s.shedTier n) := by
  unfold State.shedTier
  split <;> simp

@[simp ↓] theorem returnTier_keeps (s : State) (n : Nat) : s.Keeps (s.returnTier n) := by
  unfold State.returnTier
  split <;> simp

@[simp ↓] theorem powerUpFor_keeps (s : State) (n : Nat) : s.Keeps (s.powerUpFor n) := by
  unfold State.powerUpFor
  simp

theorem execTierTakeEffect_answers (a b : List Nat) (s : State) : s.Answers (execTierTakeEffect a b s) := by
  unfold execTierTakeEffect
  split
  · simp
  · dsimp only
    split <;> simp

theorem execTierRestore_answers (s : State) : s.Answers (execTierRestore s) := by
  unfold execTierRestore
  dsimp only
  split <;> simp

theorem execThermalRestart_answers (tb : Int) (s : State) : s.Answers (execThermalRestart tb s) := by
  unfold execThermalRestart
  split <;> simp

end Sys2Proof.Machine
end

section
/-! SUPPORT. The queue and the timebase kept (R23): register accesses, sessions and instructions. -/
namespace Sys2Proof.Machine

/-! ### Register writes -/

@[simp ↓] theorem regRead_keeps (s : State) (w : Who) (a : Nat) : s.Keeps (s.regRead w a) := by
  unfold State.regRead
  simp

@[simp ↓] theorem recApplied_keeps (old s : State) : s.Keeps (State.recApplied old s) := by
  unfold State.recApplied
  simp

@[simp ↓] theorem pageApplied_keeps (old s : State) (page : Nat) : s.Keeps (State.pageApplied old s page) :=
  .ite (ctlApplied_keeps ..) <| .ite (pwrApplied_keeps ..) <| .ite (clkApplied_keeps ..) <|
  .ite ((planhzApplied_keeps s).trans (replan_keeps ..)) <| .ite (grantApplied_keeps ..) <|
  .ite (storeReq_keeps ..) <| .ite (.refl s) <| .ite (feChannelApplied_keeps ..) <| .ite (feCommonApplied_keeps ..) <|
  .ite (storeReq_keeps ..) <| .ite ((colApplied_keeps ..).trans (storeReq_keeps ..)) <| .ite (storeReq_keeps ..) <|
  .ite (latApplied_keeps ..) <| .ite (storeReq_keeps ..) <| .ite (canApplied_keeps ..) <|
  .ite (svCommonApplied_keeps ..) <| .ite (svApplied_keeps ..) <| .ite (fanApplied_keeps ..) <|
  .ite (ioCommonApplied_keeps ..) <| .ite (ioApplied_keeps ..) <| .ite (recApplied_keeps ..) <|
  .ite (hstApplied_keeps ..) <| .ite (trcApplied_keeps ..) (.refl s)

@[simp ↓] theorem beforeApply_keeps (s : State) (page : Nat) : s.Keeps (s.beforeApply page) := by
  unfold State.beforeApply
  simp

@[simp ↓] theorem applyPages_keeps (s : State) (pages : List Nat) : s.Keeps (s.applyPages pages) :=
  (foldl_keeps _ _ _ beforeApply_keeps).trans
    ((foldl_keeps _ _ _ commitPage_keeps).trans (foldl_keeps _ _ _ fun t p => pageApplied_keeps _ t p))

@[simp ↓] theorem acceptApply_keeps (s : State) (page cell : Nat) : s.Keeps (s.acceptApply page cell) := by
  unfold State.acceptApply
  simp

@[simp ↓] theorem writeApply_keeps (s : State) (page cell cmd : Nat) : s.Keeps (s.writeApply page cell cmd) := by
  unfold State.writeApply
  simp

@[simp ↓] theorem plainWrite_keeps (s : State) (k : Nat) (v : Word) (cell : Nat) : s.Keeps (s.plainWrite k v cell) := by
  unfold State.plainWrite
  dsimp only
  split
  · simp
  · split <;> simp

@[simp ↓] theorem descEcc_keeps (s : State) (c : Nat) (v : Word) (es : List (Nat × Ecc)) : s.Keeps (s.descEcc c v es) := by
  unfold State.descEcc
  simp

@[simp ↓] theorem writeSubmit_keeps (s : State) (w : Who) (v : Word) : s.Keeps (s.writeSubmit w v) := by
  unfold State.writeSubmit
  simp

@[simp ↓] theorem writeCancel_keeps (s : State) (w : Who) (v : Word) : s.Keeps (s.writeCancel w v) := by
  unfold State.writeCancel
  simp

theorem coreCmd_keeps (s : State) (w : Who) (a : Nat) (v : Word) : s.KeepsSome (s.coreCmd w a v) := by
  unfold State.coreCmd
  extract_lets c s1
  have h1 : s.Keeps s1 := .ite (fieldRelease_keeps s) (.refl s)
  have h2 : s.Keeps (if bitAt v 1 then s1.startHuTest else s1) := .ite (h1.trans (startHuTest_keeps s1)) h1
  clear_value s1
  repeat' refine State.KeepsSome.ite ?_ ?_
  any_goals exact State.KeepsSome.none s
  all_goals refine State.KeepsSome.some ?_
  any_goals exact h2
  all_goals simp

theorem linkCmd_keeps (s : State) (a : Nat) (v : Word) : s.KeepsSome (s.linkCmd a v) := by
  unfold State.linkCmd
  extract_lets n
  repeat' refine State.KeepsSome.ite ?_ ?_
  any_goals exact State.KeepsSome.none s
  all_goals refine State.KeepsSome.some ?_
  all_goals simp

theorem sideCmd_keeps (s : State) (w : Who) (a : Nat) (v : Word) : s.KeepsSome (s.sideCmd w a v) := by
  unfold State.sideCmd
  extract_lets clear s1
  have h1 : s.Keeps s1 := .ite (cmdFlush_keeps s) (.refl s)
  have h2 : s.Keeps (if bitAt v 1 then s1.nvErase (s.whoCell w) (fld v 25 16) else s1) := .ite (h1.trans (nvErase_keeps ..)) h1
  repeat' refine State.KeepsSome.ite ?_ ?_
  any_goals exact State.KeepsSome.none s
  all_goals refine State.KeepsSome.some ?_
  any_goals exact h2
  all_goals simp

@[simp ↓] theorem regWrite_keeps (s : State) (w : Who) (a : Nat) (v : Word) : s.Keeps (s.regWrite w a v) := by
  unfold State.regWrite
  dsimp only
  split_ifs
  · simp
  · simp
  · split
    · next h => exact coreCmd_keeps _ _ _ _ _ h
    · next h => exact linkCmd_keeps _ _ _ _ h
    · next h => exact sideCmd_keeps _ _ _ _ _ h
    · simp

theorem execRegisterWrite_answers (w : Who) (a : Nat) (v : Word) (s : State) : s.Answers (execRegisterWrite w a v s) := by
  unfold execRegisterWrite
  simp

theorem execApply_answers (w : Who) (page : Nat) (s : State) : s.Answers (execApply w page s) := by
  unfold execApply
  simp

theorem execDiscard_answers (w : Who) (page : Nat) (s : State) : s.Answers (execDiscard w page s) := by
  unfold execDiscard
  simp

theorem execApplyUnknownCmd_answers (w : Who) (page cmd : Nat) (s : State) :
    s.Answers (execApplyUnknownCmd w page cmd s) := by
  unfold execApplyUnknownCmd
  split <;> simp

theorem execApplyTakesEffect_answers (page : Nat) (s : State) : s.Answers (execApplyTakesEffect page s) := by
  unfold execApplyTakesEffect
  split
  · simp
  · split
    · simp
    · split <;> simp

theorem execFrameBoundary_answers (s : State) : s.Answers (execFrameBoundary s) := by
  unfold execFrameBoundary
  dsimp only
  split <;> simp

theorem execHwkSubmit_answers (w : Who) (addr : Submission) (s : State) : s.Answers (execHwkSubmit w addr s) := by
  unfold execHwkSubmit
  simp

theorem execHwkCancel_answers (w : Who) (v : Word) (s : State) : s.Answers (execHwkCancel w v s) := by
  unfold execHwkCancel
  simp

theorem execHwkFreezeWrite_answers (w : Who) (v : Word) (s : State) : s.Answers (execHwkFreezeWrite w v s) := by
  unfold execHwkFreezeWrite
  simp

theorem execTrcTrig_answers (w : Who) (n : Nat) (s : State) : s.Answers (execTrcTrig w n s) := by
  unfold execTrcTrig
  split <;> simp

theorem execTrcClear_answers (w : Who) (n : Nat) (s : State) : s.Answers (execTrcClear w n s) := by
  unfold execTrcClear
  split <;> simp

/-! ### Requests of a session -/

@[simp ↓] theorem hapUnheard_keeps (s : State) (m : HapMsg) : s.Keeps (s.hapUnheard m) := by
  unfold State.hapUnheard
  simp

@[simp ↓] theorem hapDiscard_keeps (s : State) (m : HapMsg) : s.Keeps (s.hapDiscard m) := by
  unfold State.hapDiscard
  simp

/-- A request keeps what its body keeps. -/
theorem hapServe_keeps (s : State) (m : HapMsg) (type : Nat) (f : State → HapRes) (hf : ∀ t, State.Keeps t (f t).2) :
    s.Keeps (s.hapServe m type f) := by
  unfold State.hapServe
  extract_lets seq x s1 s2 r
  have h1 : s.Keeps s1 := by simp [s1]
  have hr : s.Keeps r.2 := by
    simp only [r]
    split
    · exact h1.trans (by simp [s2])
    · exact (h1.trans (setSession_keeps ..)).trans (hf s2)
  split
  · exact h1.trans (by simp)
  · exact h1.trans (by simp)
  · split
    · exact h1
    · split
      · exact hr
      · exact hr.trans (by simp)

theorem hapRequest_keeps (s : State) (m : HapMsg) (type : Nat) (body : List Byte) (f : State → HapRes)
    (hf : ∀ t, State.Keeps t (f t).2) : s.Keeps (s.hapRequest m type body f) := by
  unfold State.hapRequest
  split_ifs
  · simp
  · simp
  · simp
  · exact hapServe_keeps _ _ _ _ hf

@[simp ↓] theorem hapAns_keeps (s : State) (code : Nat) : s.Keeps (s.hapAns code).2 := .refl s

@[simp ↓] theorem hapGuard_keeps (s : State) (m : HapMsg) (right writes : Bool) (f : HapRes) (hf : s.Keeps f.2) :
    s.Keeps (s.hapGuard m right writes f).2 := by
  unfold State.hapGuard
  split_ifs
  · simp
  · simp
  · simp
  · exact hf

@[simp ↓] theorem openFailed_keeps (s : State) (c : Nat) : s.Keeps (s.openFailed c) := by
  unfold State.openFailed
  simp

@[simp ↓] theorem openSession_keeps (s : State) (m : HapMsg) (c : Nat) (nonce : List Byte) :
    s.Keeps (s.openSession m c nonce) := by
  unfold State.openSession
  simp

@[simp ↓] theorem hapOpens_keeps (s : State) (m : HapMsg) (cred : Nat) (nonce : List Byte) :
    s.Keeps (s.hapOpens m cred nonce) := by
  unfold State.hapOpens
  simp

theorem execHapOpen_answers (m : HapMsg) (cred : Nat) (nonce : List Byte) (s : State) :
    s.Answers (execHapOpen m cred nonce s) := by
  unfold execHapOpen
  split
  · simp
  · split
    · simp
    · split
      · exact .next (hapRequest_keeps _ _ _ _ _ fun t => hapAns_keeps t _)
      · simp

theorem execCredBlockEnd_answers (cred : Nat) (s : State) : s.Answers (execCredBlockEnd cred s) := by
  unfold execCredBlockEnd
  split <;> simp

theorem execHapClose_answers (m : HapMsg) (s : State) : s.Answers (execHapClose m s) := by
  have h : s.Keeps (s.hapRequest m hapClose [] fun t => t.hapGuard m true false (t.hapAns hapOk)) :=
    hapRequest_keeps _ _ _ _ _ fun t => hapGuard_keeps _ _ _ _ _ (hapAns_keeps t _)
  exact .next (.ite (h.trans (closeSession_keeps ..)) h)

theorem execHapIdleTimeout_answers (sid : Nat) (s : State) : s.Answers (execHapIdleTimeout sid s) := by
  unfold execHapIdleTimeout
  dsimp only
  split <;> simp

theorem execPing_answers (m : HapMsg) (s : State) : s.Answers (execPing m s) :=
  .next (hapRequest_keeps _ _ _ _ _ fun t => hapGuard_keeps _ _ _ _ _ (.refl t))

@[simp ↓] theorem hapAccess_keeps (s : State) (w : Who) (a : Nat) (f : State → State) (hf : s.Keeps (f s)) :
    s.Keeps (s.hapAccess w a f).2 := by
  unfold State.hapAccess
  split_ifs
  · simp
  · simp
  · exact hf

@[simp ↓] theorem hapReads_keeps (w : Who) (as acc : List Word) (s : State) : s.Keeps (State.hapReads w as acc s).2.2 := by
  induction as generalizing s acc with
  | nil => exact .refl s
  | cons a as ih =>
    have hr : s.Keeps (s.hapAccess w a.toNat fun s => s.regRead w a.toNat).2 := hapAccess_keeps _ _ _ _ (by simp)
    unfold State.hapReads
    dsimp only
    split
    · exact hr.trans (ih ..)
    · exact hr

theorem execRd_answers (m : HapMsg) (addrs : List Word) (s : State) : s.Answers (execRd m addrs s) := by
  refine .next (hapRequest_keeps _ _ _ _ _ fun t => hapGuard_keeps _ _ _ _ _ ?_)
  split
  · exact hapAns_keeps t _
  · exact hapReads_keeps ..

@[simp ↓] theorem hapWrites_keeps (w : Who) (ps : List (Word × Word)) (n : Nat) (s : State) :
    s.Keeps (State.hapWrites w ps n s).2.2 := by
  induction ps generalizing s n with
  | nil => exact .refl s
  | cons p ps ih =>
    have hr : s.Keeps (s.hapAccess w p.1.toNat fun s => s.regWrite w p.1.toNat p.2).2 := hapAccess_keeps _ _ _ _ (by simp)
    unfold State.hapWrites
    dsimp only
    split
    · exact hr.trans (ih ..)
    · exact hr

theorem execWr_answers (m : HapMsg) (pairs : List (Word × Word)) (s : State) : s.Answers (execWr m pairs s) := by
  refine .next (hapRequest_keeps _ _ _ _ _ fun t => hapGuard_keeps _ _ _ _ _ ?_)
  split
  · exact hapAns_keeps t _
  · exact hapWrites_keeps ..

theorem execEvt_answers (m : HapMsg) (mode start : Nat) (s : State) : s.Answers (execEvt m mode start s) := by
  refine .next (hapRequest_keeps _ _ _ _ _ fun t => hapGuard_keeps _ _ _ _ _ ?_)
  split
  · exact hapAns_keeps t _
  · exact .refl t

theorem execHapTime_answers (m : HapMsg) (s : State) : s.Answers (execHapTime m s) :=
  .next (hapRequest_keeps _ _ _ _ _ fun t => hapGuard_keeps _ _ _ _ _ (.refl t))

theorem execHapCell_answers (m : HapMsg) (cell cmd : Nat) (s : State) : s.Answers (execHapCell m cell cmd s) := by
  refine .next (hapRequest_keeps _ _ _ _ _ fun t => hapGuard_keeps _ _ _ _ _ ?_)
  split
  · exact hapAns_keeps t _
  · dsimp only
    split
    · exact .refl t
    · exact cellCommand_keeps ..

@[simp ↓] theorem setLoad_keeps (s : State) (sid : Nat) (d : Option HapLoad) : s.Keeps (s.setLoad sid d) := by
  unfold State.setLoad
  simp

theorem execImgBegin_answers (m : HapMsg) (cell total : Nat) (s : State) : s.Answers (execImgBegin m cell total s) := by
  refine .next (hapRequest_keeps _ _ _ _ _ fun t => hapGuard_keeps _ _ _ _ _ ?_)
  split_ifs
  · exact hapAns_keeps t _
  · exact hapAns_keeps t _
  · exact hapAns_keeps t _
  · exact hapAns_keeps t _
  · exact hapAns_keeps t _
  · exact (setLoad_keeps ..).trans (hapAns_keeps ..)

theorem execImgData_answers (m : HapMsg) (off : Nat) (data : List Byte) (s : State) :
    s.Answers (execImgData m off data s) := by
  refine .next (hapRequest_keeps _ _ _ _ _ fun t => hapGuard_keeps _ _ _ _ _ ?_)
  split
  · exact hapAns_keeps t _
  · split
    · exact hapAns_keeps t _
    · exact (setLoad_keeps ..).trans ((askInternal_keeps ..).trans (hapAns_keeps ..))

@[simp ↓] theorem handImage_keeps (s : State) (sid : Nat) (d : HapLoad) : s.Keeps (s.handImage sid d) := by
  unfold State.handImage
  simp

theorem execImgEnd_answers (m : HapMsg) (s : State) : s.Answers (execImgEnd m s) := by
  refine .next (hapRequest_keeps _ _ _ _ _ fun t => hapGuard_keeps _ _ _ _ _ ?_)
  split
  · exact hapAns_keeps t _
  · split
    · exact hapAns_keeps t _
    · exact (handImage_keeps ..).trans (hapAns_keeps ..)

theorem execImgStatus_answers (m : HapMsg) (s : State) : s.Answers (execImgStatus m s) :=
  .next (hapRequest_keeps _ _ _ _ _ fun t => hapGuard_keeps _ _ _ _ _ (.refl t))

theorem execImgLoadTimeout_answers (sid : Nat) (s : State) : s.Answers (execImgLoadTimeout sid s) := by
  unfold execImgLoadTimeout
  split <;> simp

@[simp ↓] theorem awaitStore_keeps (s : State) (m : HapMsg) (set type code : Nat) (body : List Word)
    (vals : List (Nat × Word)) :
    s.Keeps (s.awaitStore m set type code body vals).2 := by
  unfold State.awaitStore
  simp

theorem execKeySet_answers (m : HapMsg) (slot : Nat) (key : List Word) (s : State) :
    s.Answers (execKeySet m slot key s) := by
  refine .next (hapRequest_keeps _ _ _ _ _ fun t => hapGuard_keeps _ _ _ _ _ ?_)
  split_ifs
  · exact hapAns_keeps t _
  · exact hapAns_keeps t _
  · exact awaitStore_keeps ..

theorem execCredSet_answers (m : HapMsg) (cred rights cell : Nat) (enc : List Byte) (s : State) :
    s.Answers (execCredSet m cred rights cell enc s) := by
  refine .next (hapRequest_keeps _ _ _ _ _ fun t => hapGuard_keeps _ _ _ _ _ ?_)
  split_ifs
  · exact hapAns_keeps t _
  · exact hapAns_keeps t _
  · exact awaitStore_keeps ..

@[simp ↓] theorem takeSecret_keeps (s : State) (secret : List Byte) : s.Keeps (s.takeSecret secret) := by
  unfold State.takeSecret
  simp

@[simp ↓] theorem takeAddresses_keeps (s : State) (box : List Byte) : s.Keeps (s.takeAddresses box).2 := by
  unfold State.takeAddresses
  dsimp only
  split <;> simp

theorem execTagCommission_answers (s : State) : s.Answers (execTagCommission s) := by
  unfold execTagCommission
  dsimp only
  split
  · simp
  · split
    · split
      · simp
      · split <;> simp
    · split
      · simp
      · split <;> simp

/-! ### Integer instructions -/

theorem execAdd_answers (l : Nat) (d a b : Reg) (s : State) : s.Answers (execAdd l d a b s) := by
  unfold execAdd
  simp

theorem execSub_answers (l : Nat) (d a b : Reg) (s : State) : s.Answers (execSub l d a b s) := by
  unfold execSub
  simp

theorem execAndI_answers (l : Nat) (d a b : Reg) (s : State) : s.Answers (execAndI l d a b s) := by
  unfold execAndI
  simp

theorem execOrI_answers (l : Nat) (d a b : Reg) (s : State) : s.Answers (execOrI l d a b s) := by
  unfold execOrI
  simp

theorem execXor_answers (l : Nat) (d a b : Reg) (s : State) : s.Answers (execXor l d a b s) := by
  unfold execXor
  simp

theorem execShl_answers (l : Nat) (d a b : Reg) (s : State) : s.Answers (execShl l d a b s) := by
  unfold execShl
  simp

theorem execShr_answers (l : Nat) (d a b : Reg) (s : State) : s.Answers (execShr l d a b s) := by
  unfold execShr
  simp

theorem execSar_answers (l : Nat) (d a b : Reg) (s : State) : s.Answers (execSar l d a b s) := by
  unfold execSar
  simp

theorem execSlt_answers (l : Nat) (d a b : Reg) (s : State) : s.Answers (execSlt l d a b s) := by
  unfold execSlt
  simp

theorem execSltu_answers (l : Nat) (d a b : Reg) (s : State) : s.Answers (execSltu l d a b s) := by
  unfold execSltu
  simp

theorem execMul_answers (l : Nat) (d a b : Reg) (s : State) : s.Answers (execMul l d a b s) := by
  unfold execMul
  simp

theorem execMulh_answers (l : Nat) (d a b : Reg) (s : State) : s.Answers (execMulh l d a b s) := by
  unfold execMulh
  simp

theorem execMulhu_answers (l : Nat) (d a b : Reg) (s : State) : s.Answers (execMulhu l d a b s) := by
  unfold execMulhu
  simp

theorem execDiv_answers (l : Nat) (d a b : Reg) (s : State) : s.Answers (execDiv l d a b s) := by
  unfold execDiv
  simp

theorem execDivu_answers (l : Nat) (d a b : Reg) (s : State) : s.Answers (execDivu l d a b s) := by
  unfold execDivu
  simp

theorem execRem_answers (l : Nat) (d a b : Reg) (s : State) : s.Answers (execRem l d a b s) := by
  unfold execRem
  simp

theorem execRemu_answers (l : Nat) (d a b : Reg) (s : State) : s.Answers (execRemu l d a b s) := by
  unfold execRemu
  simp

theorem execMin_answers (l : Nat) (d a b : Reg) (s : State) : s.Answers (execMin l d a b s) := by
  unfold execMin
  simp

theorem execMax_answers (l : Nat) (d a b : Reg) (s : State) : s.Answers (execMax l d a b s) := by
  unfold execMax
  simp

theorem execAddi_answers (l : Nat) (d a : Reg) (imm : BitVec 15) (s : State) : s.Answers (execAddi l d a imm s) := by
  unfold execAddi
  simp

theorem execAndi_answers (l : Nat) (d a : Reg) (imm : BitVec 15) (s : State) : s.Answers (execAndi l d a imm s) := by
  unfold execAndi
  simp

theorem execOri_answers (l : Nat) (d a : Reg) (imm : BitVec 15) (s : State) : s.Answers (execOri l d a imm s) := by
  unfold execOri
  simp

theorem execXori_answers (l : Nat) (d a : Reg) (imm : BitVec 15) (s : State) : s.Answers (execXori l d a imm s) := by
  unfold execXori
  simp

theorem execSlti_answers (l : Nat) (d a : Reg) (imm : BitVec 15) (s : State) : s.Answers (execSlti l d a imm s) := by
  unfold execSlti
  simp

theorem execShli_answers (l : Nat) (d a : Reg) (n : BitVec 5) (s : State) : s.Answers (execShli l d a n s) := by
  unfold execShli
  simp

theorem execShri_answers (l : Nat) (d a : Reg) (n : BitVec 5) (s : State) : s.Answers (execShri l d a n s) := by
  unfold execShri
  simp

theorem execSari_answers (l : Nat) (d a : Reg) (n : BitVec 5) (s : State) : s.Answers (execSari l d a n s) := by
  unfold execSari
  simp

theorem execLui_answers (l : Nat) (d : Reg) (imm : BitVec 20) (s : State) : s.Answers (execLui l d imm s) := by
  unfold execLui
  simp

/-! ### Loads and stores -/

/-- What a state an access of memory ends in keeps. -/
@[simp] def MemRes.Keeps (s : State) : MemRes → Prop
  | .done t => s.Keeps t
  | .trap t _ _ => s.Keeps t
  | .gone t => s.Keeps t

theorem runMem_keeps (s : State) (l : Nat) (word : Word) (act : State → MemRes) (hact : (act s).Keeps s) :
    s.Keeps (s.runMem l word act) := by
  unfold State.runMem
  dsimp only
  split_ifs
  · simp
  · simp
  · simp
  · split
    · next t h => rw [h] at hact; exact hact
    · next t x n h => rw [h] at hact; exact State.Keeps.trans hact (takeTrap_keeps ..)
    · next t h => rw [h] at hact; exact hact

@[simp ↓] theorem retire_keeps (s : State) (l cycles : Nat) (f : Loop → Loop) : s.Keeps (s.retire l cycles f) := by
  unfold State.retire
  simp

@[simp ↓] theorem settle_keeps (s : State) (l : Nat) : s.Keeps (s.settle l) := by
  unfold State.settle
  simp

@[simp ↓] theorem post_keeps (s : State) (l off : Nat) (bs : List Byte) : s.Keeps (s.post l off bs) := by
  unfold State.post
  simp

theorem execPostedStoreAccepted_answers (p : Nat) (s : State) : s.Answers (execPostedStoreAccepted p s) := by
  unfold execPostedStoreAccepted
  simp

theorem loadLocal_keeps (s : State) (l a : Nat) (e : Ecc) (v : Word)
    (put : Word → Loop → Loop) : (s.loadLocal l a e v put).Keeps s := by
  unfold State.loadLocal
  split <;> simp

@[simp ↓] theorem eccLoad_keeps (s : State) (c a : Nat) : s.Keeps (s.eccLoad c a) := by
  unfold State.eccLoad
  simp

theorem loadShared_keeps (s : State) (l a size : Nat) (e : Ecc)
    (put : Word → Loop → Loop) : (s.loadShared l a size e put).Keeps s := by
  unfold State.loadShared
  dsimp only
  split <;> simp

theorem loadView_keeps (s : State) (l a size : Nat) (e : Ecc)
    (put : Word → Loop → Loop) : (s.loadView l a size e put).Keeps s := by
  unfold State.loadView
  dsimp only
  split <;> simp

theorem regTrap_keeps {s : State} {l a size sub : Nat} {r : MemRes} (h : s.regTrap l a size sub = some r) : r.Keeps s := by
  unfold State.regTrap at h
  dsimp only at h
  split_ifs at h
  · exact Option.some.inj h ▸ State.Keeps.refl s
  · exact Option.some.inj h ▸ pageDenied_keeps ..

@[simp ↓] theorem load_keeps (s : State) (l : Nat) (word : Word) (a size : Nat) (e : Ecc) (put : Word → Loop → Loop) :
    s.Keeps (s.load l word a size e put) := by
  refine runMem_keeps _ _ _ _ ?_
  dsimp only
  split
  · split
    · next h => exact regTrap_keeps h
    · simp
  · split_ifs
    · simp
    · simp
    · split
      · exact loadLocal_keeps ..
      · exact loadLocal_keeps ..
      · exact loadShared_keeps ..
      · exact loadView_keeps ..

theorem execLdw_answers (l : Nat) (d a : Reg) (imm : BitVec 15) (ecc : Ecc) (s : State) :
    s.Answers (execLdw l d a imm ecc s) := by
  unfold execLdw
  simp

theorem execLdh_answers (l : Nat) (d a : Reg) (imm : BitVec 15) (ecc : Ecc) (s : State) :
    s.Answers (execLdh l d a imm ecc s) := by
  unfold execLdh
  simp

theorem execLdhu_answers (l : Nat) (d a : Reg) (imm : BitVec 15) (ecc : Ecc) (s : State) :
    s.Answers (execLdhu l d a imm ecc s) := by
  unfold execLdhu
  simp

theorem execLdb_answers (l : Nat) (d a : Reg) (imm : BitVec 15) (ecc : Ecc) (s : State) :
    s.Answers (execLdb l d a imm ecc s) := by
  unfold execLdb
  simp

theorem execLdbu_answers (l : Nat) (d a : Reg) (imm : BitVec 15) (ecc : Ecc) (s : State) :
    s.Answers (execLdbu l d a imm ecc s) := by
  unfold execLdbu
  simp

theorem storeLocal_keeps (s : State) (l a : Nat) (e : Ecc) (bs : List Byte) : (s.storeLocal l a e bs).Keeps s := by
  unfold State.storeLocal
  split <;> simp

theorem storeShared_keeps (s : State) (l a : Nat) (e : Ecc) (bs : List Byte) : (s.storeShared l a e bs).Keeps s := by
  unfold State.storeShared
  simp

@[simp ↓] theorem store_keeps (s : State) (l : Nat) (word : Word) (a size : Nat) (e : Ecc) (v : Word) :
    s.Keeps (s.store l word a size e v) := by
  refine runMem_keeps _ _ _ _ ?_
  dsimp only
  split
  · split
    · next h => exact regTrap_keeps h
    · simp
  · split_ifs
    · simp
    · simp
    · simp
    · exact storeLocal_keeps ..
    · exact storeShared_keeps ..

theorem execStw_answers (l : Nat) (d a : Reg) (imm : BitVec 15) (ecc : Ecc) (s : State) :
    s.Answers (execStw l d a imm ecc s) := by
  unfold execStw
  simp

theorem execSth_answers (l : Nat) (d a : Reg) (imm : BitVec 15) (ecc : Ecc) (s : State) :
    s.Answers (execSth l d a imm ecc s) := by
  unfold execSth
  simp

theorem execStb_answers (l : Nat) (d a : Reg) (imm : BitVec 15) (ecc : Ecc) (s : State) :
    s.Answers (execStb l d a imm ecc s) := by
  unfold execStb
  simp

theorem execRegisterAccessTimeout_answers (l : Nat) (word : Word) (addr : Nat) (s : State) :
    s.Answers (execRegisterAccessTimeout l word addr s) := by
  unfold execRegisterAccessTimeout
  dsimp only
  split
  · simp
  · split <;> simp

@[simp ↓] theorem skimPut_keeps (s : State) (l ma n i : Nat) (v : Word) : s.Keeps (s.skimPut l ma n i v) := by
  unfold State.skimPut
  simp

theorem skimEcc_keeps {s t : State} {l a : Nat} {loc : Bool} {e : Ecc} (h : s.skimEcc l a loc e = some t) : s.Keeps t := by
  unfold State.skimEcc at h
  dsimp only at h
  split at h
  · cases h; simp
  · split at h <;> cases h <;> simp

theorem skimReads_keeps {s : State} {l : Nat} {loc : Bool} {es : List (Nat × Ecc)} :
    (∀ t, s.skimReads l loc es = .ok t → s.Keeps t) ∧ ∀ t, s.skimReads l loc es = .error t → s.Keeps t := by
  induction es generalizing s with
  | nil => exact ⟨fun t h => Except.ok.inj h ▸ State.Keeps.refl s, fun t h => nomatch h⟩
  | cons e es ih =>
    cases h1 : s.skimEcc l e.1 loc e.2 with
    | none =>
      simp only [State.skimReads, h1]
      exact ⟨fun t h => (nomatch h), fun t h => Except.error.inj h ▸ State.Keeps.refl s⟩
    | some s1 =>
      simp only [State.skimReads, h1]
      exact ⟨fun t h => (skimEcc_keeps h1).trans (ih.1 t h), fun t h => (skimEcc_keeps h1).trans (ih.2 t h)⟩

theorem execSkim_answers (l : Nat) (d a b : Reg) (m : SkimOp) (s : State) : s.Answers (execSkim l d a b m s) := by
  refine .next (runMem_keeps _ _ _ _ ?_)
  extract_lets L at' e n pos lead kl fg ma st loc played learns cost
  split
  · exact .refl s
  · split
    · exact retire_keeps ..
    · split
      · exact .refl s
      · split
        · exact .refl s
        · split
          · next h => exact (skimReads_keeps.2 _ h).trans (mismatch_keeps ..)
          · next s0 h =>
            have h0 : s.Keeps s0 := skimReads_keeps.1 _ h
            split
            · exact h0.trans ((eccLoad_keeps ..).trans (draw_keeps _))
            · extract_lets c r s1 s2
              have h1 : s.Keeps s1 := h0.trans (.ite (skimPut_keeps ..) (.refl s0))
              have h2 : s.Keeps s2 := h1.trans (.ite (.refl s1) (draw_keeps s1))
              exact h2.trans (retire_keeps ..)

theorem execFir_answers (l : Nat) (d a b : Reg) (m : BitVec 5) (ecc : Ecc) (s : State) :
    s.Answers (execFir l d a b m ecc s) := by
  refine .next (runMem_keeps _ _ _ _ ?_)
  extract_lets L region ga gb k s1 ws gd
  have h1 : s.Keeps s1 := .ite (fiEcc_keeps ..) (.refl s)
  split_ifs
  · exact .refl s
  · exact .refl s
  · exact .refl s
  · exact .refl s
  · exact h1.trans ((draw_keeps _).trans (retire_keeps ..))

/-! ### Steps of the timebase -/

@[simp ↓] theorem moveInstants_keeps (s : State) (d : Int) : s.Keeps (s.moveInstants d) := by
  unfold State.moveInstants
  simp

@[simp ↓] theorem loopStepped_keeps (old : Nat) (s : State) (e : Nat × Loop) : s.Keeps (State.loopStepped old s e) := by
  unfold State.loopStepped
  simp

@[simp ↓] theorem multiplesStepped_keeps (s : State) : s.Keeps s.multiplesStepped := by
  unfold State.multiplesStepped
  simp

end Sys2Proof.Machine
end

section
/-! SUPPORT. The timebase a multiple of 8 ns (R23, R443, R500). -/
namespace Sys2Proof.Machine

/-! ### The commands that move the timebase -/

/-- A step of the timebase changes the queue and the timebase by the new value alone. -/
theorem stepDtb_keeps (s : State) (new : Nat) : State.Keeps { s with dtb := new } (s.stepDtb new) :=
  (moveInstants_keeps ..).trans <| (multiplesStepped_keeps _).trans <| (foldl_keeps _ _ _ (loopStepped_keeps _)).trans <|
    (latStepped_keeps _).trans <| (recDtbStep_keeps _).trans <| (countReg_keeps ..).trans (emit_keeps ..)

theorem restartTime_keeps (s : State) : State.Keeps { s with dtb := 0 } s.restartTime := ⟨rfl, rfl⟩

/-- The start after a power-on reset begins the timebase at 0 and keeps the queue. -/
theorem startUp_keeps (s : State) (cause : Nat) (a b : Int) (lost : Bool) (failed : List Nat) :
    State.Keeps { s with dtb := 0 } (s.startUp cause a b lost failed) := by
  unfold State.startUp
  extract_lets s0 s1 s2 s3 s4 s5 src s6 s7
  have h0 : State.Keeps { s with dtb := 0 } s0 :=
    State.Keeps.trans (t := { s.porState cause with dtb := 0 }) ⟨(porState_keeps s cause).1, rfl⟩ (restartTime_keeps _)
  clear_value s0
  have h1 : s0.Keeps s1 := startBackup_keeps s0 lost
  clear_value s1
  have h2 : s1.Keeps s2 := (keeps_with_recd ..).trans (foldl_keeps _ _ _ decideSet_keeps)
  clear_value s2
  have h3 : s2.Keeps s3 := foldl_keeps _ _ _ fun s n => loadSet_keeps s n
  clear_value s3
  have h4 : s3.Keeps s4 := recStart_keeps ..
  clear_value s4
  have h5 : s4.Keeps s5 :=
    State.Keeps.trans (.ite (emit_keeps ..) (.refl s4)) ((firstSample_keeps ..).trans (setCause_keeps ..))
  clear_value s5
  have h6 : s5.Keeps s6 := (hwkFresh_keeps s5).trans (setCtl_keeps ..)
  clear_value s6
  have h7 : s6.Keeps s7 := (tagPowerUp_keeps s6).trans (setRegB_keeps ..)
  clear_value s7
  exact h0.trans (h1.trans (h2.trans (h3.trans (h4.trans (h5.trans (h6.trans (h7.trans (startAll_keeps ..))))))))

/-! ### One step -/

/-- `t` has the queue of `s`, and its timebase is in order where that of `s` is. -/
def State.Settled (s t : State) : Prop := t.pending = s.pending ∧ (s.DtbOk → t.DtbOk)

/-- The answer is such a next state. -/
def State.Settles (s : State) (o : Out) : Prop := ∃ t, o = .next t ∧ s.Settled t

theorem State.Keeps.dtbOk {s t : State} (h : s.Keeps t) (hs : s.DtbOk) : t.DtbOk := by
  rw [State.DtbOk, h.2]
  exact hs

theorem State.Keeps.settled {s t : State} (h : s.Keeps t) : s.Settled t := ⟨h.1, h.dtbOk⟩

theorem State.Answers.settles {s : State} {o : Out} : s.Answers o → s.Settles o := fun ⟨t, ho, h⟩ => ⟨t, ho, h.settled⟩

theorem dtbOk_corrected (dtb : Nat) (o : Int) : corrected dtb o % 8 = 0 ∧ corrected dtb o < 0x10000000000000000 := by
  unfold corrected dtbMod
  omega

theorem offset_settled (s : State) (o : Int) : s.Settled (s.offset o) := by
  unfold State.offset
  extract_lets lim s1
  have h1 : s.Keeps s1 := setReg_keeps ..
  split
  · have h := stepDtb_keeps s1 (corrected s1.dtb o)
    exact ⟨h.1.trans h1.1, fun _ => h.dtbOk (dtbOk_corrected ..)⟩
  · exact (h1.trans ((setReg_keeps ..).trans (draw_keeps _))).settled

theorem execSyncMessage_settles (l ingress interval : Nat) (origin corr : Int) (s : State) :
    s.Settles (execSyncMessage l ingress interval origin corr s) := by
  unfold execSyncMessage
  split
  · exact (State.Answers.next (.refl s)).settles
  · extract_lets x run s1
    have h1 : s.Keeps s1 := ptpMoved_keeps ..
    clear_value s1
    split
    · obtain ⟨hp, hd⟩ := offset_settled s1 (↑ingress - (origin + corr + x.delay))
      exact ⟨_, rfl, hp.trans h1.1, fun h => hd (h1.dtbOk h)⟩
    · exact (State.Answers.next h1).settles

theorem execPowerOnResetRelease_settles (a b : Int) (stable : Nat) (lost : Bool) (failed : List Nat) (s : State) :
    s.Settles (execPowerOnResetRelease a b stable lost failed s) := by
  unfold execPowerOnResetRelease
  split
  · exact (State.Answers.next (.refl s)).settles
  · next cause _ =>
    split
    · exact (State.Answers.next (.refl s)).settles
    · have h := startUp_keeps s cause a b lost failed
      exact ⟨_, rfl, h.1, fun _ => h.dtbOk ⟨rfl, Nat.zero_lt_succ _⟩⟩

theorem upQuiet_keeps (s : State) (start : Nat) : s.Keeps (s.upQuiet start) := .ite (.refl s) (keyHear_keeps ..)

theorem downQuiet_keeps (s : State) : s.Keeps s.downQuiet := .ite (.refl s) (setField_keeps ..)

theorem keyInstant_keeps (s : State) (start : Nat) : s.Keeps (s.keyInstant start) :=
  .ite ((upQuiet_keeps ..).trans (downQuiet_keeps _)) (.ite (setDio_keeps ..) (upQuiet_keeps ..))

theorem trcDrain_keeps (s : State) (n : Nat) : s.Keeps (s.trcDrain n) :=
  foldl_keeps _ _ _ fun _ _ =>
    ((setTrace_keeps ..).trans (setRegF_keeps ..)).trans (.ite (setRegB_keeps ..) (.refl _))

theorem hoursTick_keeps (s : State) : s.Keeps s.hoursTick := .ite ((keeps_with_recd ..).trans (countReg_keeps ..)) (.refl s)

/-- Whatever the new value is: the kernel would else compute with it. -/
theorem keeps_with_dtb_host_ctl (s : State) (d : Nat) (h : HostSt) (c : CtlSt) :
    State.Keeps { s with dtb := d } { s with dtb := d, host := h, ctl := c } := ⟨rfl, rfl⟩

theorem tick_keeps (s : State) : State.Keeps { s with dtb := (s.dtb + s.tickOf.1) % dtbMod } s.tick := by
  -- `tick` is unfolded and `sampleIn` kept opaque under equations: the kernel would else compute the instant.
  obtain ⟨f, hf⟩ : ∃ f, f = State.tick := ⟨_, rfl⟩
  obtain ⟨sample, hsample⟩ : ∃ g, g = sampleIn := ⟨_, rfl⟩
  rw [← hf]
  delta State.tick at hf
  rw [hf, ← hsample]
  beta_reduce
  extract_lets t src src' s1 s2 s3
  have h1 : State.Keeps { s with dtb := (s.dtb + s.tickOf.1) % dtbMod } s1 := keeps_with_dtb_host_ctl ..
  have h2 : s1.Keeps s2 := foldl_keeps _ _ _ trcDrain_keeps
  have h3 : State.Keeps { s with dtb := (s.dtb + s.tickOf.1) % dtbMod } s3 := h1.trans (h2.trans (hoursTick_keeps s2))
  obtain ⟨o, ho⟩ : ∃ o, sample s.dtb s3.dtb = o := ⟨_, rfl⟩
  rw [ho]
  cases o with
  | none => exact h3
  | some start => exact h3.trans (keyInstant_keeps ..)

theorem tickOf_eq (s : State) : s.tickOf.1 = 40 ∨ s.tickOf.1 = 16 ∨ s.tickOf.1 = 0 ∨ s.tickOf.1 = 8 := by
  unfold State.tickOf
  dsimp only
  split_ifs <;> simp

theorem tick_settles (s : State) : s.Settles (.next s.tick) := by
  have h := tick_keeps s
  refine ⟨_, rfl, h.1, fun hs => h.dtbOk ?_⟩
  obtain ⟨h8, hlt⟩ := hs
  have ht := tickOf_eq s
  simp only [State.DtbOk, dtbMod]
  omega

/-- Every command answers a next state that keeps the queue and a timebase in order. -/
theorem exec_settles (c : Instr) (s : State) : s.Settles (exec c s) := match c with
  | .registerWrite .. => (execRegisterWrite_answers ..).settles
  | .apply .. => (execApply_answers ..).settles
  | .discard .. => (execDiscard_answers ..).settles
  | .applyUnknownCmd .. => (execApplyUnknownCmd_answers ..).settles
  | .applyTakesEffect .. => (execApplyTakesEffect_answers ..).settles
  | .frameBoundary => (execFrameBoundary_answers ..).settles
  | .periodBoundary .. => (execPeriodBoundary_answers ..).settles
  | .loopDispatch .. => (execLoopDispatch_answers ..).settles
  | .add .. => (execAdd_answers ..).settles
  | .sub .. => (execSub_answers ..).settles
  | .andI .. => (execAndI_answers ..).settles
  | .orI .. => (execOrI_answers ..).settles
  | .xor .. => (execXor_answers ..).settles
  | .shl .. => (execShl_answers ..).settles
  | .shr .. => (execShr_answers ..).settles
  | .sar .. => (execSar_answers ..).settles
  | .slt .. => (execSlt_answers ..).settles
  | .sltu .. => (execSltu_answers ..).settles
  | .mul .. => (execMul_answers ..).settles
  | .mulh .. => (execMulh_answers ..).settles
  | .mulhu .. => (execMulhu_answers ..).settles
  | .div .. => (execDiv_answers ..).settles
  | .divu .. => (execDivu_answers ..).settles
  | .rem .. => (execRem_answers ..).settles
  | .remu .. => (execRemu_answers ..).settles
  | .min .. => (execMin_answers ..).settles
  | .max .. => (execMax_answers ..).settles
  | .addi .. => (execAddi_answers ..).settles
  | .andi .. => (execAndi_answers ..).settles
  | .ori .. => (execOri_answers ..).settles
  | .xori .. => (execXori_answers ..).settles
  | .shli .. => (execShli_answers ..).settles
  | .shri .. => (execShri_answers ..).settles
  | .sari .. => (execSari_answers ..).settles
  | .lui .. => (execLui_answers ..).settles
  | .slti .. => (execSlti_answers ..).settles
  | .fadd .. => (execFadd_answers ..).settles
  | .fsub .. => (execFsub_answers ..).settles
  | .fmul .. => (execFmul_answers ..).settles
  | .fdiv .. => (execFdiv_answers ..).settles
  | .fsqrt .. => (execFsqrt_answers ..).settles
  | .fma .. => (execFma_answers ..).settles
  | .fmin .. => (execFmin_answers ..).settles
  | .fmax .. => (execFmax_answers ..).settles
  | .fabs .. => (execFabs_answers ..).settles
  | .fneg .. => (execFneg_answers ..).settles
  | .fcmp .. => (execFcmp_answers ..).settles
  | .fcvti .. => (execFcvti_answers ..).settles
  | .fcvtf .. => (execFcvtf_answers ..).settles
  | .ldw .. => (execLdw_answers ..).settles
  | .ldh .. => (execLdh_answers ..).settles
  | .ldhu .. => (execLdhu_answers ..).settles
  | .ldb .. => (execLdb_answers ..).settles
  | .ldbu .. => (execLdbu_answers ..).settles
  | .stw .. => (execStw_answers ..).settles
  | .sth .. => (execSth_answers ..).settles
  | .stb .. => (execStb_answers ..).settles
  | .postedStoreAccepted .. => (execPostedStoreAccepted_answers ..).settles
  | .registerAccessTimeout .. => (execRegisterAccessTimeout_answers ..).settles
  | .beq .. => (execBeq_answers ..).settles
  | .bne .. => (execBne_answers ..).settles
  | .blt .. => (execBlt_answers ..).settles
  | .bge .. => (execBge_answers ..).settles
  | .bltu .. => (execBltu_answers ..).settles
  | .bgeu .. => (execBgeu_answers ..).settles
  | .bfs .. => (execBfs_answers ..).settles
  | .bfc .. => (execBfc_answers ..).settles
  | .jal .. => (execJal_answers ..).settles
  | .jalr .. => (execJalr_answers ..).settles
  | .nop .. => (execNop_answers ..).settles
  | .wait .. => (execWait_answers ..).settles
  | .waitRetire .. => (execWaitRetire_answers ..).settles
  | .trap .. => (execTrap_answers ..).settles
  | .mfs .. => (execMfs_answers ..).settles
  | .mtf .. => (execMtf_answers ..).settles
  | .illegalInstruction .. => (execIllegalInstruction_answers ..).settles
  | .pids .. => (execPids_answers ..).settles
  | .mins .. => (execMins_answers ..).settles
  | .intf .. => (execIntf_answers ..).settles
  | .sched .. => (execSched_answers ..).settles
  | .skim .. => (execSkim_answers ..).settles
  | .slew .. => (execSlew_answers ..).settles
  | .clmp .. => (execClmp_answers ..).settles
  | .plaus .. => (execPlaus_answers ..).settles
  | .tap .. => (execTap_answers ..).settles
  | .fir .. => (execFir_answers ..).settles
  | .out .. => (execOut_answers ..).settles
  | .deadlineTrap .. => (execDeadlineTrap_answers ..).settles
  | .lockstepMismatch .. => (execLockstepMismatch_answers ..).settles
  | .pinSecondaryRestored .. => (execPinSecondaryRestored_answers ..).settles
  | .pairSelfTest .. => (execPairSelfTest_answers ..).settles
  | .standbySelfTest .. => (execStandbySelfTest_answers ..).settles
  | .replan .. => (execReplan_answers ..).settles
  | .plannedMove .. => (execPlannedMove_answers ..).settles
  | .imagePlace .. => (execImagePlace_answers ..).settles
  | .engineLoadCheck => (execEngineLoadCheck_answers ..).settles
  | .cellReset .. => (execCellReset_answers ..).settles
  | .cellResetZeroed .. => (execCellResetZeroed_answers ..).settles
  | .cellSuspend .. => (execCellSuspend_answers ..).settles
  | .cellResume .. => (execCellResume_answers ..).settles
  | .cellUnload .. => (execCellUnload_answers ..).settles
  | .cellCmdBad .. => (execCellCmdBad_answers ..).settles
  | .loopRestart .. => (execLoopRestart_answers ..).settles
  | .loopStop .. => (execLoopStop_answers ..).settles
  | .grantSelectWrite .. => (execGrantSelectWrite_answers ..).settles
  | .hwkSubmit .. => (execHwkSubmit_answers ..).settles
  | .hwkCancel .. => (execHwkCancel_answers ..).settles
  | .creditRefill => (execCreditRefill_answers ..).settles
  | .engineGrant .. => (execEngineGrant_answers ..).settles
  | .xferCopy .. => (execXferCopy_answers ..).settles
  | .xferFill .. => (execXferFill_answers ..).settles
  | .transactionComplete .. => (execTransactionComplete_answers ..).settles
  | .engineWatchdog .. => (execEngineWatchdog_answers ..).settles
  | .hwkFreezeWrite .. => (execHwkFreezeWrite_answers ..).settles
  | .engineDrained .. => (execEngineDrained_answers ..).settles
  | .inputSlotStart .. => (execInputSlotStart_answers ..).settles
  | .conversionBoundary .. => (execConversionBoundary_answers ..).settles
  | .dielOverload .. => (execDielOverload_answers ..).settles
  | .terminalOvervoltage .. => (execTerminalOvervoltage_answers ..).settles
  | .probeRemoved .. => (execProbeRemoved_answers ..).settles
  | .probeInserted .. => (execProbeInserted_answers ..).settles
  | .refAverage .. => (execRefAverage_answers ..).settles
  | .refFail .. => (execRefFail_answers ..).settles
  | .feCalselWrite .. => (execFeCalselWrite_answers ..).settles
  | .pointlo .. => (execPointlo_answers ..).settles
  | .pointhi .. => (execPointhi_answers ..).settles
  | .calPointDone => (execCalPointDone_answers ..).settles
  | .commit .. => (execCommit_answers ..).settles
  | .abortI .. => (execAbortI_answers ..).settles
  | .calBadCmd .. => (execCalBadCmd_answers ..).settles
  | .columnUpdate .. => (execColumnUpdate_answers ..).settles
  | .columnInputWrite .. => (execColumnInputWrite_answers ..).settles
  | .predict .. => (execPredict_answers ..).settles
  | .frameSelection .. => (execFrameSelection_answers ..).settles
  | .timeFrameDue .. => (execTimeFrameDue_answers ..).settles
  | .time .. => (execTime_answers ..).settles
  | .census .. => (execCensus_answers ..).settles
  | .sweepOpen .. => (execSweepOpen_answers ..).settles
  | .sweepClose .. => (execSweepClose_answers ..).settles
  | .sweepDrained .. => (execSweepDrained_answers ..).settles
  | .sweepTimeLimit .. => (execSweepTimeLimit_answers ..).settles
  | .rate .. => (execRate_answers ..).settles
  | .nodeCmd .. => (execNodeCmd_answers ..).settles
  | .privateI .. => (execPrivateI_answers ..).settles
  | .quietIntervalEnd .. => (execQuietIntervalEnd_answers ..).settles
  | .txEntryReturn .. => (execTxEntryReturn_answers ..).settles
  | .latTxqWrite .. => (execLatTxqWrite_answers ..).settles
  | .latTxcanWrite .. => (execLatTxcanWrite_answers ..).settles
  | .latRxackWrite .. => (execLatRxackWrite_answers ..).settles
  | .hot .. => (execHot_answers ..).settles
  | .wet .. => (execWet_answers ..).settles
  | .censusBatch .. => (execCensusBatch_answers ..).settles
  | .jstat .. => (execJstat_answers ..).settles
  | .reply .. => (execReply_answers ..).settles
  | .busError .. => (execBusError_answers ..).settles
  | .recover .. => (execRecover_answers ..).settles
  | .latBusoffEnd .. => (execLatBusoffEnd_answers ..).settles
  | .censusDue .. => (execCensusDue_answers ..).settles
  | .censusEnd .. => (execCensusEnd_answers ..).settles
  | .alarmSweepDue .. => (execAlarmSweepDue_answers ..).settles
  | .sweep .. => (execSweep_answers ..).settles
  | .censusRequest .. => (execCensusRequest_answers ..).settles
  | .line .. => (execLine_answers ..).settles
  | .latWireFault .. => (execLatWireFault_answers ..).settles
  | .latWireOk .. => (execLatWireOk_answers ..).settles
  | .canTxRequest .. => (execCanTxRequest_answers ..).settles
  | .canTxCancel .. => (execCanTxCancel_answers ..).settles
  | .canFrameSent .. => (execCanFrameSent_answers ..).settles
  | .canFrameReceived .. => (execCanFrameReceived_answers ..).settles
  | .canRxrel .. => (execCanRxrel_answers ..).settles
  | .canBusoff .. => (execCanBusoff_answers ..).settles
  | .canRecover .. => (execCanRecover_answers ..).settles
  | .canBusoffEnd .. => (execCanBusoffEnd_answers ..).settles
  | .canWireFault .. => (execCanWireFault_answers ..).settles
  | .pullInStart .. => (execPullInStart_answers ..).settles
  | .svMovementDip .. => (execSvMovementDip_answers ..).settles
  | .pullInEnd .. => (execPullInEnd_answers ..).settles
  | .svShort .. => (execSvShort_answers ..).settles
  | .svShortRetry .. => (execSvShortRetry_answers ..).settles
  | .coilModelStep .. => (execCoilModelStep_answers ..).settles
  | .svOverload .. => (execSvOverload_answers ..).settles
  | .bankTest .. => (execBankTest_answers ..).settles
  | .bankRetest .. => (execBankRetest_answers ..).settles
  | .svBankOff .. => (execSvBankOff_answers ..).settles
  | .bankRetry .. => (execBankRetry_answers ..).settles
  | .bankclr .. => (execBankclr_answers ..).settles
  | .svClear .. => (execSvClear_answers ..).settles
  | .boostSoftStart => (execBoostSoftStart_answers ..).settles
  | .boostReady .. => (execBoostReady_answers ..).settles
  | .svBoostShort .. => (execSvBoostShort_answers ..).settles
  | .boostHiccupRestart => (execBoostHiccupRestart_answers ..).settles
  | .svHoldEnd .. => (execSvHoldEnd_answers ..).settles
  | .fanReload .. => (execFanReload_answers ..).settles
  | .fanFail .. => (execFanFail_answers ..).settles
  | .fanOk .. => (execFanOk_answers ..).settles
  | .fanFailKick .. => (execFanFailKick_answers ..).settles
  | .fanTsSample .. => (execFanTsSample_answers ..).settles
  | .fanOutFault .. => (execFanOutFault_answers ..).settles
  | .fanOutRetry .. => (execFanOutRetry_answers ..).settles
  | .fanSupFault .. => (execFanSupFault_answers ..).settles
  | .fanSupRetry .. => (execFanSupRetry_answers ..).settles
  | .fanHoldEnd .. => (execFanHoldEnd_answers ..).settles
  | .fanClear .. => (execFanClear_answers ..).settles
  | .keyDownstreamFrame => (execKeyDownstreamFrame_answers ..).settles
  | .keyFieldApply .. => (execKeyFieldApply_answers ..).settles
  | .keyFieldLoss => (execKeyFieldLoss_answers ..).settles
  | .keyUpstreamFrame .. => (execKeyUpstreamFrame_answers ..).settles
  | .dioLinkLoss => (execDioLinkLoss_answers ..).settles
  | .counterGateEnd .. => (execCounterGateEnd_answers ..).settles
  | .dioShort .. => (execDioShort_answers ..).settles
  | .dioShortRetry .. => (execDioShortRetry_answers ..).settles
  | .dioOpenLoadTest .. => (execDioOpenLoadTest_answers ..).settles
  | .dioOt .. => (execDioOt_answers ..).settles
  | .dioHoldEnd .. => (execDioHoldEnd_answers ..).settles
  | .fieldSideStart .. => (execFieldSideStart_answers ..).settles
  | .fieldSideStop .. => (execFieldSideStop_answers ..).settles
  | .dioClear .. => (execDioClear_answers ..).settles
  | .eventAccept => (execEventAccept_answers ..).settles
  | .tokenBucketTick .. => (execTokenBucketTick_answers ..).settles
  | .recOverflow => (execRecOverflow_answers ..).settles
  | .logGroupRelease => (execLogGroupRelease_answers ..).settles
  | .logLineWrite => (execLogLineWrite_answers ..).settles
  | .flush .. => (execFlush_answers ..).settles
  | .flushComplete => (execFlushComplete_answers ..).settles
  | .markerWrite => (execMarkerWrite_answers ..).settles
  | .nverase .. => (execNverase_answers ..).settles
  | .cursorOldest .. => (execCursorOldest_answers ..).settles
  | .cursorAt .. => (execCursorAt_answers ..).settles
  | .cursorAfter .. => (execCursorAfter_answers ..).settles
  | .cursorNewest .. => (execCursorNewest_answers ..).settles
  | .windowFillComplete .. => (execWindowFillComplete_answers ..).settles
  | .nvsRead .. => (execNvsRead_answers ..).settles
  | .nvsWrite .. => (execNvsWrite_answers ..).settles
  | .nvsEmit .. => (execNvsEmit_answers ..).settles
  | .nvsStoreStart .. => (execNvsStoreStart_answers ..).settles
  | .nvsStorePendingStart .. => (execNvsStorePendingStart_answers ..).settles
  | .storeCommit .. => (execStoreCommit_answers ..).settles
  | .rtcSet => (execRtcSet_answers ..).settles
  | .rtcShift => (execRtcShift_answers ..).settles
  | .trimChange => (execTrimChange_answers ..).settles
  | .rtcFracRead .. => (execRtcFracRead_answers ..).settles
  | .rtcOscStop => (execRtcOscStop_answers ..).settles
  | .rtcBackupSwitch => (execRtcBackupSwitch_answers ..).settles
  | .bkramRead .. => (execBkramRead_answers ..).settles
  | .clrperr .. => (execClrperr_answers ..).settles
  | .clrsw .. => (execClrsw_answers ..).settles
  | .hstLinkUp .. => (execHstLinkUp_answers ..).settles
  | .hstLinkDown .. => (execHstLinkDown_answers ..).settles
  | .cableDiagnostic .. => (execCableDiagnostic_answers ..).settles
  | .arpRequest .. => (execArpRequest_answers ..).settles
  | .icmpEcho .. => (execIcmpEcho_answers ..).settles
  | .announce .. => (execAnnounce_answers ..).settles
  | .syncMessage .. => execSyncMessage_settles ..
  | .pdelayReqSend .. => (execPdelayReqSend_answers ..).settles
  | .pdelayResp .. => (execPdelayResp_answers ..).settles
  | .pdelayReq .. => (execPdelayReq_answers ..).settles
  | .syncTimeout .. => (execSyncTimeout_answers ..).settles
  | .hapOpen .. => (execHapOpen_answers ..).settles
  | .hapClose .. => (execHapClose_answers ..).settles
  | .ping .. => (execPing_answers ..).settles
  | .rd .. => (execRd_answers ..).settles
  | .wr .. => (execWr_answers ..).settles
  | .evt .. => (execEvt_answers ..).settles
  | .hapTime .. => (execHapTime_answers ..).settles
  | .hapCell .. => (execHapCell_answers ..).settles
  | .imgBegin .. => (execImgBegin_answers ..).settles
  | .imgData .. => (execImgData_answers ..).settles
  | .imgEnd .. => (execImgEnd_answers ..).settles
  | .imgStatus .. => (execImgStatus_answers ..).settles
  | .imgLoadTimeout .. => (execImgLoadTimeout_answers ..).settles
  | .keySet .. => (execKeySet_answers ..).settles
  | .credSet .. => (execCredSet_answers ..).settles
  | .hapIdleTimeout .. => (execHapIdleTimeout_answers ..).settles
  | .credBlockEnd .. => (execCredBlockEnd_answers ..).settles
  | .inventory => (execInventory_answers ..).settles
  | .getSystemInformation => (execGetSystemInformation_answers ..).settles
  | .extendedReadSingleBlock .. => (execExtendedReadSingleBlock_answers ..).settles
  | .extendedReadMultipleBlocks .. => (execExtendedReadMultipleBlocks_answers ..).settles
  | .extendedWriteSingleBlock .. => (execExtendedWriteSingleBlock_answers ..).settles
  | .fieldWriteCommit => (execFieldWriteCommit_answers ..).settles
  | .tagWcmd .. => (execTagWcmd_answers ..).settles
  | .wiredCommitComplete => (execWiredCommitComplete_answers ..).settles
  | .tagCommission => (execTagCommission_answers ..).settles
  | .tagStatusWrite => (execTagStatusWrite_answers ..).settles
  | .tagAntCheck .. => (execTagAntCheck_answers ..).settles
  | .ack => (execAck_answers ..).settles
  | .silence => (execSilence_answers ..).settles
  | .localI => (execLocalI_answers ..).settles
  | .test => (execTest_answers ..).settles
  | .faceLocal => (execFaceLocal_answers ..).settles
  | .faceKeyStuck .. => (execFaceKeyStuck_answers ..).settles
  | .ledTestEnd => (execLedTestEnd_answers ..).settles
  | .localTimeout => (execLocalTimeout_answers ..).settles
  | .alarmWrite .. => (execAlarmWrite_answers ..).settles
  | .trcTrig .. => (execTrcTrig_answers ..).settles
  | .trcClear .. => (execTrcClear_answers ..).settles
  | .dipBegin .. => (execDipBegin_answers ..).settles
  | .pwrDip .. => (execPwrDip_answers ..).settles
  | .tierTakeEffect .. => (execTierTakeEffect_answers ..).settles
  | .tierRestore => (execTierRestore_answers ..).settles
  | .pwrThermal .. => (execPwrThermal_answers ..).settles
  | .thermalRestart .. => (execThermalRestart_answers ..).settles
  | .pwrForceWrite .. => (execPwrForceWrite_answers ..).settles
  | .pwrInputRev .. => (execPwrInputRev_answers ..).settles
  | .pwrInputLost .. => (execPwrInputLost_answers ..).settles
  | .pwrInputOv .. => (execPwrInputOv_answers ..).settles
  | .pwrInputOk .. => (execPwrInputOk_answers ..).settles
  | .pwrFieldUv .. => (execPwrFieldUv_answers ..).settles
  | .pwrFieldOv .. => (execPwrFieldOv_answers ..).settles
  | .pwrFieldRev .. => (execPwrFieldRev_answers ..).settles
  | .pwrFieldTrip .. => (execPwrFieldTrip_answers ..).settles
  | .fieldSwitchRetry => (execFieldSwitchRetry_answers ..).settles
  | .pwrFieldOk .. => (execPwrFieldOk_answers ..).settles
  | .fretry .. => (execFretry_answers ..).settles
  | .hutest .. => (execHutest_answers ..).settles
  | .holdupTest .. => (execHoldupTest_answers ..).settles
  | .holdupCharged .. => (execHoldupCharged_answers ..).settles
  | .vbakTest .. => (execVbakTest_answers ..).settles
  | .pllLockLoss .. => (execPllLockLoss_answers ..).settles
  | .relock .. => (execRelock_answers ..).settles
  | .clkRelock .. => (execClkRelock_answers ..).settles
  | .relockAttemptTimeout => (execRelockAttemptTimeout_answers ..).settles
  | .clkRootFail .. => (execClkRootFail_answers ..).settles
  | .islandRetry .. => (execIslandRetry_answers ..).settles
  | .powerOnResetRelease .. => execPowerOnResetRelease_settles ..
  | .sys .. => (execSys_answers ..).settles
  | .full .. => (execFull_answers ..).settles
  | .ctlBrstWrite .. => (execCtlBrstWrite_answers ..).settles
  | .resetAssert => (execResetAssert_answers ..).settles
  | .resetRelease .. => (execResetRelease_answers ..).settles
  | .ctlWdkickWrite .. => (execCtlWdkickWrite_answers ..).settles
  | .ctlWatchdog => (execCtlWatchdog_answers ..).settles
  | .ctlWedge => (execCtlWedge_answers ..).settles
  | .islandAct => (execIslandAct_answers ..).settles
  | .ctlStart => (execCtlStart_answers ..).settles
  | .ctlCensusLate => (execCtlCensusLate_answers ..).settles
  | .rtcTick => (execRtcTick_answers ..).settles
  | .canWireOk .. => (execCanWireOk_answers ..).settles
  | .canPortError .. => (execCanPortError_answers ..).settles
  | .privateReceived .. => (execPrivateReceived_answers ..).settles
  | .filteredEdge .. => (execFilteredEdge_answers ..).settles
  | .tachometerPulse .. => (execTachometerPulse_answers ..).settles
  | .railNotReady .. => (execRailNotReady_answers ..).settles
  | .dioOtRestart .. => (execDioOtRestart_answers ..).settles
  | .readerField .. => (execReaderField_answers ..).settles
  | .keyReleased .. => (execKeyReleased_answers ..).settles
  | .clkDtblRead .. => (execClkDtblRead_answers ..).settles
  | .engineResetEnd .. => (execEngineResetEnd_answers ..).settles
  | .keyReceiverSearch .. => (execKeyReceiverSearch_answers ..).settles

/-- Settles O59: of all commands only a sync message and the start after a power-on reset move the timebase, the one to a multiple
of 8 ns modulo 2^64 and the other to 0; a tick adds 40, 16, 8 or 0 modulo 2^64. -/
theorem theDtbStaysAMultipleOfEight : Obligations.TheDtbStaysAMultipleOfEight := by
  unfold Obligations.TheDtbStaysAMultipleOfEight
  intro s t hs ht
  obtain ⟨u, hu, -, hok⟩ : ∃ u, step s = .next u ∧ u.pending = s.pending.tail ∧ (s.DtbOk → u.DtbOk) := by
    unfold step
    split
    · next h =>
      obtain ⟨u, hu, hp, hd⟩ := tick_settles s
      exact ⟨u, hu, by rw [hp, h]; rfl, hd⟩
    · next c rest h =>
      obtain ⟨u, hu, hp, hd⟩ := exec_settles c { s with pending := rest }
      exact ⟨u, hu, by rw [hp, h]; rfl, hd⟩
  rw [hu] at ht
  exact Host.Outcome.next.inj ht ▸ hok hs

end Sys2Proof.Machine
end

section
/-! SUPPORT. Accesses of memory by a loop that executes (R66, R79, R103). -/
namespace Sys2Proof.Machine

/-! ### A ready loop's access of memory -/

theorem runMem_ready {s : State} {l : Nat} (h : s.Ready l) (word : Word) (act : State → MemRes) :
    s.runMem l word act = match act s with
      | .done t => t
      | .trap t x n => t.takeTrap l x (s.late (s.loop l) n) word
      | .gone t => t := by
  obtain ⟨h1, h2, h3⟩ := h
  have h3' : ¬ (s.loop l).codeSize ≤ (s.loop l).pc := by omega
  simp only [State.runMem, h1, h2, if_neg h3']
  rfl

theorem runMem_done {s t : State} {l : Nat} (h : s.Ready l) (word : Word) {act : State → MemRes} (ha : act s = .done t) :
    s.runMem l word act = t := by
  rw [runMem_ready h, ha]

theorem runMem_trap {s t : State} {l n : Nat} {x : Trap} (h : s.Ready l) (word : Word) {act : State → MemRes}
    (ha : act s = .trap t x n) : s.runMem l word act = t.takeTrap l x (s.late (s.loop l) n) word := by
  rw [runMem_ready h, ha]

/-! ### Areas (Table 2.4) -/

theorem inData_iff (L : Loop) (a size : Nat) :
    L.inData a size = true ↔ 0x10000 ≤ a ∧ a + size ≤ 0x10000 + L.decl.dsize := by
  rw [Loop.inData, Bool.and_eq_true, decide_eq_true_eq, decide_eq_true_eq]
  rfl

theorem inShared_iff (c : Cell) (a size : Nat) :
    c.inShared a size = true ↔ 0x20000000 ≤ a ∧ a + size ≤ 0x20000000 + c.mem * 0x10000 := by
  rw [Cell.inShared, Bool.and_eq_true, decide_eq_true_eq, decide_eq_true_eq]
  rfl

section
variable (s : State) (L : Loop) {a size : Nat}

theorem areaOf_eq : s.areaOf L a size =
    if a + size ≤ L.codeSize then .code
    else if 0x10000 ≤ a ∧ a + size ≤ 0x10000 + L.decl.dsize then .data
    else if 0x10000000 ≤ a ∧ a + size ≤ 0x20000000 ∨ 0x30000000 ≤ a ∧ a + size ≤ 0x40000000 then .view
    else if 0x20000000 ≤ a ∧ a + size ≤ 0x20000000 + (s.cell L.cell).mem * 0x10000 then .shared
    else if 0x40000000 ≤ a then .regs else .nowhere := by
  simp only [State.areaOf, inData_iff, inShared_iff]

theorem areaOf_code (h : a + size ≤ L.codeSize) : s.areaOf L a size = .code := by
  rw [areaOf_eq, if_pos h]

theorem areaOf_data (hc : L.codeSize < a + size) (h : 0x10000 ≤ a) (h' : a + size ≤ 0x10000 + L.decl.dsize) :
    s.areaOf L a size = .data := by
  rw [areaOf_eq, if_neg (by omega), if_pos ⟨h, h'⟩]

theorem areaOf_view (hc : L.codeSize < a + size) (hd : 0x10000 + L.decl.dsize < a + size)
    (h : 0x10000000 ≤ a ∧ a + size ≤ 0x20000000 ∨ 0x30000000 ≤ a ∧ a + size ≤ 0x40000000) : s.areaOf L a size = .view := by
  rw [areaOf_eq, if_neg (by omega), if_neg (by omega), if_pos h]

theorem areaOf_shared (hc : L.codeSize < a + size) (hd : 0x10000 + L.decl.dsize < a + size) (h : 0x20000000 ≤ a)
    (hm : a + size ≤ 0x20000000 + (s.cell L.cell).mem * 0x10000) (h' : a + size ≤ 0x30000000) (hn : 0 < size) :
    s.areaOf L a size = .shared := by
  rw [areaOf_eq, if_neg (by omega), if_neg (by omega), if_neg (by omega), if_pos ⟨h, hm⟩]

theorem areaOf_regs (hn : 0 < size) (h : 0x40000000 ≤ a) (hc : L.codeSize ≤ a) (hd : 0x10000 + L.decl.dsize ≤ a)
    (hs : 0x20000000 + (s.cell L.cell).mem * 0x10000 ≤ a) : s.areaOf L a size = .regs := by
  rw [areaOf_eq, if_neg (by omega), if_neg (by omega), if_neg (by omega), if_neg (by omega), if_pos h]

theorem areaOf_ne_regs (h : a < 0x40000000) : s.areaOf L a size ≠ .regs := by
  rw [areaOf_eq, if_neg (show ¬ 0x40000000 ≤ a by omega)]
  split_ifs <;> simp

theorem readable_iff : s.readable L a size = true ↔
    ∀ i < size, s.areaOf L (a + i) 1 ≠ .nowhere ∧ s.areaOf L (a + i) 1 ≠ .regs := by
  simp [State.readable]

/-- A load all of whose bytes lie below the register area in one area reaches them. -/
theorem readable_code (h : a + size ≤ L.codeSize) : s.readable L a size = true := by
  rw [readable_iff]
  intro i hi
  rw [areaOf_code s L (by omega)]
  simp

theorem readable_of_byte (h : ∀ x, a ≤ x → x < a + size → 0x10000 ≤ x ∧ x < 0x10000 + L.decl.dsize ∨
      (0x10000000 ≤ x ∧ x < 0x20000000 ∨ 0x30000000 ≤ x ∧ x < 0x40000000) ∨
      0x20000000 ≤ x ∧ x < 0x20000000 + (s.cell L.cell).mem * 0x10000) : s.readable L a size = true := by
  rw [readable_iff]
  intro i hi
  have := h (a + i) (by omega) (by omega)
  rw [areaOf_eq]
  split_ifs
  · simp
  · simp
  · simp
  · simp
  · omega
  · omega
end

/-! ### Loads and stores that trap -/

section
variable {s : State} {l a size : Nat} (h : s.Ready l) (word : Word) (e : Ecc)
include h

theorem load_regs_refused (put : Word → Loop → Loop) (ha : s.areaOf (s.loop l) a size = .regs)
    (hr : size ≠ 4 ∨ a % 4 ≠ 0 ∨ inExtent a = false) :
    s.load l word a size e put = s.takeTrap l ⟨2, 2, a⟩ (s.late (s.loop l) 20) word := by
  refine runMem_trap h word ?_
  have hr' : size ≠ 4 ∨ a % 4 ≠ 0 ∨ (!inExtent a) = true := by simpa using hr
  dsimp only
  rw [if_pos ha, State.regTrap, if_pos hr']
  rfl

theorem load_regs_denied (put : Word → Loop → Loop) (ha : s.areaOf (s.loop l) a 4 = .regs) (h4 : a % 4 = 0)
    (hx : inExtent a = true) (hg : s.pageGranted (s.loop l).cell a = false) :
    s.load l word a 4 e put =
      (s.pageDenied (s.loop l).cell a).takeTrap l ⟨2, 4, a⟩ (s.late (s.loop l) 20) word := by
  refine runMem_trap h word ?_
  dsimp only
  rw [if_pos ha, State.regTrap, if_neg (by simp [h4, hx]), if_pos (by simp [hg])]
  rfl

theorem load_unreadable (put : Word → Loop → Loop) (ha : a < 0x40000000) (hr : s.readable (s.loop l) a size = false) :
    s.load l word a size e put = s.takeTrap l ⟨2, 2, a⟩ (s.late (s.loop l) 2) word := by
  refine runMem_trap h word ?_
  dsimp only
  rw [if_neg (areaOf_ne_regs _ _ ha), if_pos (by simp [hr])]
  rfl

theorem load_misaligned (put : Word → Loop → Loop) (ha : a < 0x40000000) (hr : s.readable (s.loop l) a size = true)
    (hm : a % size ≠ 0) : s.load l word a size e put = s.takeTrap l ⟨3, 0, a⟩ (s.late (s.loop l) 2) word := by
  refine runMem_trap h word ?_
  dsimp only
  rw [if_neg (areaOf_ne_regs _ _ ha), if_neg (by simp [hr]), if_pos hm]
  rfl

theorem store_regs_refused (v : Word) (ha : s.areaOf (s.loop l) a size = .regs)
    (hr : size ≠ 4 ∨ a % 4 ≠ 0 ∨ inExtent a = false) :
    s.store l word a size e v = s.takeTrap l ⟨2, 3, a⟩ (s.late (s.loop l) 20) word := by
  refine runMem_trap h word ?_
  have hr' : size ≠ 4 ∨ a % 4 ≠ 0 ∨ (!inExtent a) = true := by simpa using hr
  dsimp only
  rw [if_pos ha, State.regTrap, if_pos hr']
  rfl

theorem store_regs_denied (v : Word) (ha : s.areaOf (s.loop l) a 4 = .regs) (h4 : a % 4 = 0)
    (hx : inExtent a = true) (hg : s.pageGranted (s.loop l).cell a = false) :
    s.store l word a 4 e v =
      (s.pageDenied (s.loop l).cell a).takeTrap l ⟨2, 4, a⟩ (s.late (s.loop l) 20) word := by
  refine runMem_trap h word ?_
  dsimp only
  rw [if_pos ha, State.regTrap, if_neg (by simp [h4, hx]), if_pos (by simp [hg])]
  rfl

theorem store_view (v : Word) (ha : a < 0x40000000) (hv : ∃ i < size, s.areaOf (s.loop l) (a + i) 1 = .view) :
    s.store l word a size e v = s.takeTrap l ⟨2, 7, a⟩ (s.late (s.loop l) 1) word := by
  refine runMem_trap h word ?_
  dsimp only
  rw [if_neg (areaOf_ne_regs _ _ ha), if_pos (by simpa using hv)]
  rfl

theorem store_readOnly (v : Word) (ha : a < 0x40000000) (hv : ∀ i < size, s.areaOf (s.loop l) (a + i) 1 ≠ .view)
    (hw : ∃ i < size, s.areaOf (s.loop l) (a + i) 1 ≠ .data ∧ s.areaOf (s.loop l) (a + i) 1 ≠ .shared) :
    s.store l word a size e v = s.takeTrap l ⟨2, 3, a⟩ (s.late (s.loop l) 1) word := by
  refine runMem_trap h word ?_
  dsimp only
  obtain ⟨i, hi, hd, hs⟩ := hw
  have hany {x : Area} (hx : s.areaOf (s.loop l) (a + i) 1 = x) :
      ((List.range size).any fun i => s.areaOf (s.loop l) (a + i) 1 == x) = true :=
    List.any_eq_true.2 ⟨i, List.mem_range.2 hi, beq_iff_eq.2 hx⟩
  rw [if_neg (areaOf_ne_regs _ _ ha), if_neg (by simpa using hv), if_pos]
  · rfl
  · cases hx : s.areaOf (s.loop l) (a + i) 1 with
    | data => exact absurd hx hd
    | shared => exact absurd hx hs
    | view => exact absurd hx (hv i hi)
    | nowhere => simp only [hany hx, Bool.true_or]
    | code => simp only [hany hx, Bool.true_or, Bool.or_true]
    | regs => simp only [hany hx, Bool.or_true]

theorem store_misaligned (v : Word) (ha : a < 0x40000000)
    (hw : ∀ i < size, s.areaOf (s.loop l) (a + i) 1 = .data ∨ s.areaOf (s.loop l) (a + i) 1 = .shared) (hm : a % size ≠ 0) :
    s.store l word a size e v = s.takeTrap l ⟨3, 0, a⟩ (s.late (s.loop l) 1) word := by
  refine runMem_trap h word ?_
  have hne (x : Area) (hd : x ≠ .data) (hs : x ≠ .shared) :
      ((List.range size).any fun i => s.areaOf (s.loop l) (a + i) 1 == x) = false := by
    simp only [List.any_eq_false, List.mem_range, beq_iff_eq]
    intro i hi hx
    rcases hw i hi with hw | hw
    · exact hd (hx.symm.trans hw)
    · exact hs (hx.symm.trans hw)
  dsimp only
  rw [if_neg (areaOf_ne_regs _ _ ha), if_neg, if_neg, if_pos hm]
  · rfl
  · simp only [hne .nowhere (by decide) (by decide), hne .code (by decide) (by decide), hne .regs (by decide) (by decide)]
    decide
  · simp only [hne .view (by decide) (by decide)]
    decide
end

/-! ### The area of a byte -/

section
variable (s : State) (L : Loop) (x : Nat)

theorem areaOf_byte : s.areaOf L x 1 =
    if x < L.codeSize then .code
    else if 0x10000 ≤ x ∧ x < 0x10000 + L.decl.dsize then .data
    else if 0x10000000 ≤ x ∧ x < 0x20000000 ∨ 0x30000000 ≤ x ∧ x < 0x40000000 then .view
    else if 0x20000000 ≤ x ∧ x < 0x20000000 + (s.cell L.cell).mem * 0x10000 then .shared
    else if 0x40000000 ≤ x then .regs else .nowhere := areaOf_eq s L

theorem byte_code_iff : s.areaOf L x 1 = .code ↔ x < L.codeSize := by
  rw [areaOf_byte]
  split_ifs <;> simp_all

theorem byte_data_iff : s.areaOf L x 1 = .data ↔
    s.areaOf L x 1 ≠ .code ∧ 0x10000 ≤ x ∧ x < 0x10000 + L.decl.dsize := by
  rw [areaOf_byte]
  split_ifs <;> simp_all

theorem byte_view_iff : s.areaOf L x 1 = .view ↔ s.areaOf L x 1 ≠ .code ∧ s.areaOf L x 1 ≠ .data ∧
    (0x10000000 ≤ x ∧ x < 0x20000000 ∨ 0x30000000 ≤ x ∧ x < 0x40000000) := by
  rw [areaOf_byte]
  split_ifs <;> simp_all

theorem byte_shared_iff : s.areaOf L x 1 = .shared ↔
    s.areaOf L x 1 ≠ .code ∧ s.areaOf L x 1 ≠ .data ∧ s.areaOf L x 1 ≠ .view ∧
      0x20000000 ≤ x ∧ x < 0x20000000 + (s.cell L.cell).mem * 0x10000 := by
  rw [areaOf_byte]
  split_ifs <;> simp_all

theorem byte_readable_iff : s.areaOf L x 1 ≠ .nowhere ∧ s.areaOf L x 1 ≠ .regs ↔
    s.areaOf L x 1 = .code ∨ s.areaOf L x 1 = .data ∨ s.areaOf L x 1 = .view ∨ s.areaOf L x 1 = .shared := by
  cases s.areaOf L x 1 <;> simp
end

/-- Settles O11: the checks come in the order area, form, page, access, alignment, and each of them ends in its trap. -/
theorem badAccessesTrap : Obligations.BadAccessesTrap := by
  unfold Obligations.BadAccessesTrap
  intro s l d a imm e h L at' code data view shared all traps regs load store
  have hcode (x : Nat) : code x = true ↔ s.areaOf L x 1 = .code := by
    rw [byte_code_iff]
    exact decide_eq_true_iff
  have hdata (x : Nat) : data x = true ↔ s.areaOf L x 1 = .data := by
    rw [byte_data_iff]
    simp only [ne_eq, ← hcode]
    simp [data]
  have hview (x : Nat) : view x = true ↔ s.areaOf L x 1 = .view := by
    rw [byte_view_iff]
    simp only [ne_eq, ← hcode, ← hdata]
    simp [view, and_assoc]
  have hshared (x : Nat) : shared x = true ↔ s.areaOf L x 1 = .shared := by
    rw [byte_shared_iff]
    simp only [ne_eq, ← hcode, ← hdata, ← hview]
    simp [shared, and_assoc]
  have hreach (n : Nat) : (all n fun x => code x || data x || view x || shared x) = s.readable L at' n := by
    rw [Bool.eq_iff_iff, readable_iff]
    simp only [all, List.all_eq_true, List.mem_range, Bool.or_eq_true, hcode, hdata, hview, hshared, byte_readable_iff, or_assoc]
  have hload {n : Nat} {i : Instr} {put : Word → Loop → Loop} (hn : 0 < n)
      (hi : exec i s = .next (s.load l (encodeInstr i) at' n e put)) : load n i := by
    refine ⟨fun h0 h1 h2 h3 => ?_, fun ha => ⟨fun hr => ?_, fun hr hm => ?_⟩⟩
    · have harea := areaOf_regs s L hn h0 h1 h2 h3
      refine ⟨fun hf => hi.trans (congrArg _ (load_regs_refused h _ _ _ harea hf)), fun h4 hm hx hg => ?_⟩
      subst h4
      exact hi.trans (congrArg _ (load_regs_denied h _ _ _ harea hm hx hg))
    · exact hi.trans (congrArg _ (load_unreadable h _ _ _ ha ((hreach n).symm.trans hr)))
    · exact hi.trans (congrArg _ (load_misaligned h _ _ _ ha ((hreach n).symm.trans hr) hm))
  have hstore {n : Nat} {i : Instr} (hn : 0 < n)
      (hi : exec i s = .next (s.store l (encodeInstr i) at' n e (L.rg d))) : store n i := by
    refine ⟨fun h0 h1 h2 h3 => ?_, fun ha => ⟨fun hv => ?_, fun hv hw => ?_, fun hw hm => ?_⟩⟩
    · have harea := areaOf_regs s L hn h0 h1 h2 h3
      refine ⟨fun hf => hi.trans (congrArg _ (store_regs_refused h _ _ _ harea hf)), fun h4 hm hx hg => ?_⟩
      subst h4
      exact hi.trans (congrArg _ (store_regs_denied h _ _ _ harea hm hx hg))
    · obtain ⟨k, hk, hv⟩ : ∃ k < n, view (at' + k) = true := by simpa [all] using hv
      exact hi.trans (congrArg _ (store_view h _ _ _ ha ⟨k, hk, (hview _).1 hv⟩))
    · replace hv : ∀ k < n, view (at' + k) = false := by simpa [all] using hv
      obtain ⟨k, hk, hd, hs⟩ : ∃ k < n, data (at' + k) = false ∧ shared (at' + k) = false := by simpa [all] using hw
      exact hi.trans (congrArg _ (store_readOnly h _ _ _ ha (fun k hk hx => Bool.false_ne_true ((hv k hk).symm.trans ((hview _).2 hx)))
        ⟨k, hk, fun hx => Bool.false_ne_true (hd.symm.trans ((hdata _).2 hx)),
          fun hx => Bool.false_ne_true (hs.symm.trans ((hshared _).2 hx))⟩))
    · replace hw : ∀ k < n, data (at' + k) = true ∨ shared (at' + k) = true := by simpa [all] using hw
      exact hi.trans (congrArg _ (store_misaligned h _ _ _ ha
        (fun k hk => (hw k hk).imp (hdata _).1 (hshared _).1) hm))
  exact ⟨hload (by decide) rfl, hload (by decide) rfl, hload (by decide) rfl, hload (by decide) rfl, hload (by decide) rfl,
    hstore (by decide) rfl, hstore (by decide) rfl, hstore (by decide) rfl⟩

end Sys2Proof.Machine
end

section
/-! SUPPORT. Loads of a loop that executes (R37, R67, R79, R80). -/
namespace Sys2Proof.Machine

/-! ### A load that retires -/

theorem retire_wg (u : State) (l n : Nat) (d : Reg) (v : Word) :
    u.retire l n (fun L => L.wg d v) = u.setLoop l { u.loop l with
      g := ((u.loop l).wg d v).g, pc := ((u.loop l).pc + 4) % 0x100000000, cycles := (u.loop l).cycles + n } := by
  simp only [State.retire, State.stepLoop]
  rw [wg_frame]

theorem retire_wg_eq_setLoop (u : State) (l n : Nat) (d : Reg) (v : Word) :
    u.retire l n (fun L => L.wg d v) = u.setLoop l ((u.retire l n fun L => L.wg d v).loop l) := by
  rw [retire_wg, loop_setLoop_same]

/-- The loop of `L` went on to the next word with `v` in gd, counting from `lo` to `hi` cycles. -/
def Loop.Delivered (L M : Loop) (d : Reg) (v : Word) (lo hi : Nat) : Prop :=
  (∀ r : Reg, M.rg r = if r = 0 then 0 else if r = d then v else L.rg r) ∧
  ∃ k, lo ≤ k ∧ k ≤ hi ∧ M = { L with g := M.g, pc := (L.pc + 4) % 2 ^ 32, cycles := L.cycles + k }

theorem delivered_retire {u : State} {l n lo hi : Nat} (d : Reg) (v : Word) (hlo : lo ≤ n) (hhi : n ≤ hi) :
    (u.loop l).Delivered ((u.retire l n fun L => L.wg d v).loop l) d v lo hi := by
  rw [retire_wg, loop_setLoop_same]
  refine ⟨fun r => ?_, n, hlo, hhi, rfl⟩
  rw [← rg_wg]
  exact rg_congr rfl r

theorem retired_retire (s : State) (l n : Nat) (d : Reg) (v : Word) :
    State.Retired l d v (s.loop l).flg n s (s.retire l n fun L => L.wg d v) := by
  obtain ⟨hrg, k, hlo, hhi, hl⟩ := delivered_retire (u := s) (l := l) d v (le_refl n) (le_refl n)
  obtain rfl : k = n := by omega
  exact ⟨by rw [retire_wg, loop_setLoop_same], hrg, hl⟩

theorem count_bounds (s : State) {lo hi : Nat} (h : lo ≤ hi) : lo ≤ s.count lo hi ∧ s.count lo hi ≤ hi := by
  have := Nat.mod_lt s.free (show 0 < hi - lo + 1 by omega)
  unfold State.count
  omega

/-- A load that draws its count touches the loops and the draws alone. -/
theorem only_draw_retire (s : State) (l n : Nat) (f : Loop → Loop) : State.Only [.loops, .drawn] s (s.draw.retire l n f) := by
  intro p hp
  cases p
  case loops => simp at hp
  case drawn => simp at hp
  all_goals rfl

/-! ### The bytes read -/

theorem ofBytes_bytesOf (n v : Nat) : ofBytes (bytesOf n v) = v % 256 ^ n := by
  induction n generalizing v with
  | zero => simp [bytesOf, ofBytes, Nat.mod_one]
  | succ n ih =>
    rw [bytesOf, ofBytes, ih, BitVec.toNat_ofNat, pow_succ' 256 n, Nat.mod_mul]

theorem length_bytesOf (n v : Nat) : (bytesOf n v).length = n := by
  induction n generalizing v with
  | zero => rfl
  | succ n ih => rw [bytesOf, List.length_cons, ih]

theorem getD_bytesOf (n v k : Nat) (hk : k < n) : ((bytesOf n v).getD k 0).toNat = v / 256 ^ k % 256 := by
  induction n generalizing v k with
  | zero => omega
  | succ n ih =>
    cases k with
    | zero => simp [bytesOf]
    | succ k =>
      rw [bytesOf, List.getD_cons_succ, ih _ _ (by omega), pow_succ', Nat.div_div_eq_div_mul]

theorem length_mgetList (a n : Nat) (m : SMap Byte) : (mgetList 0 a n m).length = n := by
  induction n generalizing a with
  | zero => rfl
  | succ n ih => rw [mgetList, List.length_cons, ih]

theorem getD_mgetList (a n : Nat) (m : SMap Byte) (k : Nat) (hk : k < n) : (mgetList 0 a n m).getD k 0 = mget 0 (a + k) m := by
  induction n generalizing a k with
  | zero => omega
  | succ n ih =>
    cases k with
    | zero => rfl
    | succ k => rw [mgetList, List.getD_cons_succ, ih _ _ (by omega), Nat.add_assoc, Nat.add_comm 1 k]

theorem partOf_eq (w : Word) (a size : Nat) : partOf w a size = w32 (ofBytes (bytesOf size (w.toNat / 256 ^ (a % 4)))) := by
  rw [ofBytes_bytesOf, partOf, pow_mul, pow_mul]
  rfl

/-- Instruction `i` loads `n` bytes at address `a` into gd as the word `val` makes of them. -/
def State.LoadsAs (s : State) (l : Nat) (d : Reg) (a n : Nat) (i : Instr) (val : (Nat → Nat) → Word) : Prop :=
  0 < n ∧ ∃ ext : Word → Word, exec i s = .next (s.load l (encodeInstr i) a n .ok fun v L => L.wg d (ext v)) ∧
    ∀ (bs : List Byte) (b : Nat → Nat), bs.length = n → (∀ k < n, b k = (bs.getD k 0).toNat) → ext (w32 (ofBytes bs)) = val b

/-! ### The five loads -/

/-- A value below 2^n read as a signed one of `n` bits. -/
theorem sext_of_lt {n v : Nat} (hv : v < 2 ^ n) : sext n v = if v < 2 ^ (n - 1) then (v : Int) else v - 2 ^ n := by
  have hz : (v : Int) % 2 ^ n = v := by exact_mod_cast Nat.mod_eq_of_lt hv
  rw [sext, Nat.mod_eq_of_lt hv, hz]

theorem toNat_w32 {n : Nat} (hn : n < 0x100000000) : (w32 n).toNat = n := by
  rw [w32, BitVec.toNat_ofNat, Nat.mod_eq_of_lt hn]

section
variable (s : State) (l : Nat) (d a : Reg) (imm : BitVec 15)

theorem ldw_loads : s.LoadsAs l d (s.effAddr l a imm) 4 (.ldw l d a imm .ok)
    fun b => BitVec.ofNat 32 (b 0 + 256 * b 1 + 256 ^ 2 * b 2 + 256 ^ 3 * b 3) := by
  refine ⟨by decide, id, rfl, fun bs b hl hb => ?_⟩
  obtain ⟨x0, x1, x2, x3, rfl⟩ := List.length_eq_four.mp hl
  simp [ofBytes, hb, w32]
  ring_nf

theorem ldh_loads : s.LoadsAs l d (s.effAddr l a imm) 2 (.ldh l d a imm .ok) fun b =>
    BitVec.ofInt 32 (if b 0 + 256 * b 1 < 0x8000 then (b 0 + 256 * b 1 : Nat) else ((b 0 + 256 * b 1 : Nat) : Int) - 0x10000) := by
  refine ⟨by decide, fun v => wOfInt (sext 16 v.toNat), rfl, fun bs b hl hb => ?_⟩
  obtain ⟨x0, x1, rfl⟩ := List.length_eq_two.mp hl
  have h0 := x0.isLt
  have h1 := x1.isLt
  have hlt : ofBytes [x0, x1] < 2 ^ 16 := by simp only [ofBytes]; omega
  have heq : ofBytes [x0, x1] = b 0 + 256 * b 1 := by simp [ofBytes, hb]
  dsimp only
  rw [toNat_w32 (by omega), sext_of_lt hlt, heq]
  rfl

theorem ldhu_loads : s.LoadsAs l d (s.effAddr l a imm) 2 (.ldhu l d a imm .ok) fun b => BitVec.ofNat 32 (b 0 + 256 * b 1) := by
  refine ⟨by decide, id, rfl, fun bs b hl hb => ?_⟩
  obtain ⟨x0, x1, rfl⟩ := List.length_eq_two.mp hl
  simp [ofBytes, hb, w32]

theorem ldb_loads : s.LoadsAs l d (s.effAddr l a imm) 1 (.ldb l d a imm .ok) fun b =>
    BitVec.ofInt 32 (if b 0 < 0x80 then b 0 else (b 0 : Int) - 0x100) := by
  refine ⟨by decide, fun v => wOfInt (sext 8 v.toNat), rfl, fun bs b hl hb => ?_⟩
  obtain ⟨x0, rfl⟩ := List.length_eq_one_iff.mp hl
  have h0 := x0.isLt
  have heq : ofBytes [x0] = b 0 := by simp [ofBytes, hb]
  have hlt : b 0 < 2 ^ 8 := by simpa [hb] using h0
  dsimp only
  rw [heq, toNat_w32 (by omega), sext_of_lt hlt]
  rfl

theorem ldbu_loads : s.LoadsAs l d (s.effAddr l a imm) 1 (.ldbu l d a imm .ok) fun b => BitVec.ofNat 32 (b 0) := by
  refine ⟨by decide, id, rfl, fun bs b hl hb => ?_⟩
  obtain ⟨x0, rfl⟩ := List.length_eq_one_iff.mp hl
  simp [ofBytes, hb, w32]
end

/-! ### What a load comes to, by area -/

section
variable {s : State} {l a size : Nat} (h : s.Ready l) (word : Word) (put : Word → Loop → Loop)
include h

theorem load_code (ha : s.areaOf (s.loop l) a size = .code) (hr : s.readable (s.loop l) a size = true) (hm : a % size = 0) :
    s.load l word a size .ok put = s.retire l 2 (put (memBytes (s.loop l).code a size)) := by
  refine runMem_done h word ?_
  dsimp only
  rw [ha, if_neg (by decide), if_neg (by simp [hr]), if_neg (by simp [hm])]
  rfl

theorem load_data (ha : s.areaOf (s.loop l) a size = .data) (hr : s.readable (s.loop l) a size = true) (hm : a % size = 0) :
    s.load l word a size .ok put = s.retire l 2 (put (memBytes (s.loop l).data (a - 0x10000) size)) := by
  refine runMem_done h word ?_
  dsimp only
  rw [ha, if_neg (by decide), if_neg (by simp [hr]), if_neg (by simp [hm])]
  rfl

theorem load_view (ha : s.areaOf (s.loop l) a size = .view) (hr : s.readable (s.loop l) a size = true) (hm : a % size = 0) :
    s.load l word a size .ok put =
      s.draw.retire l (s.count 80 1200) (put (partOf (s.viewWord (s.loop l).cell a) a size)) := by
  refine runMem_done h word ?_
  dsimp only
  rw [ha, if_neg (by decide), if_neg (by simp [hr]), if_neg (by simp [hm])]
  dsimp only [State.loadView]
  cases s.viewKey (s.loop l).cell a <;> rfl

theorem load_shared (ha : s.areaOf (s.loop l) a size = .shared) (hr : s.readable (s.loop l) a size = true) (hm : a % size = 0)
    (hb : s.sharedBad l a = false) :
    s.load l word a size .ok put = s.draw.retire l (s.sharedCount (s.loop l).cell (a - 0x20000000))
      (put (memBytes (s.seen l).shared (a - 0x20000000) size)) := by
  refine runMem_done h word ?_
  dsimp only
  rw [ha, if_neg (by decide), if_neg (by simp [hr]), if_neg (by simp [hm])]
  simp only [State.loadShared, State.sharedEcc, hb]
  rfl

theorem load_shared_bad (ha : s.areaOf (s.loop l) a size = .shared) (hr : s.readable (s.loop l) a size = true)
    (hm : a % size = 0) (hb : s.sharedBad l a = true) :
    s.load l word a size .ok put = ((s.eccLoad (s.loop l).cell a).draw).takeTrap l ⟨4, 0, a⟩
      (s.late (s.loop l) (s.sharedCount (s.loop l).cell (a - 0x20000000))) word := by
  refine runMem_trap h word ?_
  dsimp only
  rw [ha, if_neg (by decide), if_neg (by simp [hr]), if_neg (by simp [hm])]
  simp only [State.loadShared, State.sharedEcc, hb]
  rfl

theorem load_register (ha : s.areaOf (s.loop l) a 4 = .regs) (hm : a % 4 = 0) (hx : inExtent a = true)
    (hg : s.pageGranted (s.loop l).cell a = true) :
    s.load l word a 4 .ok put =
      (s.draw.regRead (.loop l) a).retire l (s.count 20 400) (put (s.draw.regRead (.loop l) a).answer) := by
  refine runMem_done h word ?_
  dsimp only
  rw [if_pos ha, State.regTrap, if_neg (by simp [hm, hx]), if_neg (by simp [hg])]
end

/-! ### What a trap leaves of its loop -/

/-- `M` has the cause, the registers and the period mark of `L`. -/
def Loop.SameRun (L M : Loop) : Prop := M.cause = L.cause ∧ M.inPeriod = L.inPeriod ∧ M.g = L.g

theorem Loop.SameRun.trans {L M N : Loop} (h : L.SameRun M) (h' : M.SameRun N) : L.SameRun N :=
  ⟨h'.1.trans h.1, h'.2.1.trans h.2.1, h'.2.2.trans h.2.2⟩

theorem loops_foldl {α : Type} (f : State → α → State) (hf : ∀ s x, (f s x).loops = s.loops) (xs : List α) (s : State) :
    (xs.foldl f s).loops = s.loops := by
  induction xs generalizing s with
  | nil => rfl
  | cons x xs ih => exact (ih _).trans (hf s x)

theorem loop_congr {s t : State} (h : t.loops = s.loops) (l : Nat) : t.loop l = s.loop l := by
  rw [State.loop, State.loop, h]

theorem sameRun_of_loops {s t : State} (h : t.loops = s.loops) (l : Nat) : (s.loop l).SameRun (t.loop l) := by
  rw [loop_congr h]
  exact ⟨rfl, rfl, rfl⟩

theorem loops_withdrawOuts (s : State) (per : Nat) (outs : List Nat) : (s.withdrawOuts per outs).loops = s.loops := by
  unfold State.withdrawOuts
  refine loops_foldl _ (fun _ _ => ?_) _ _
  rfl

theorem loops_releaseSlots (s : State) (L : Loop) : (s.releaseSlots L).loops = s.loops := by
  unfold State.releaseSlots
  refine loops_foldl _ (fun _ _ => ?_) _ _
  rfl

theorem loops_trcTrigger (s : State) (n idx : Nat) : (s.trcTrigger n idx).loops = s.loops := by
  unfold State.trcTrigger
  extract_lets post s1 src s2
  have h2 : s2.loops = s.loops := (setTrace_loops ..).trans ((setRegF_loops ..).trans (setRegB_loops ..))
  split
  · rfl
  · split
    · exact (setRegB_loops ..).trans ((setRegB_loops ..).trans ((setRegB_loops ..).trans h2))
    · exact h2

theorem loops_trapTrigger (s : State) (l : Nat) : (s.trapTrigger l).loops = s.loops := by
  unfold State.trapTrigger
  refine loops_foldl _ (fun s n => ?_) _ _
  split
  · exact loops_trcTrigger ..
  · rfl

theorem loops_freePair (l : Nat) (s : State) (p : Nat) : (State.freePair l s p).loops = s.loops := by
  unfold State.freePair
  split_ifs <;> rfl

/-- A change of the states of loops keeps the run of each. -/
theorem sameRun_map (p : Nat × Loop → Prop) [DecidablePred p] (g : Loop → LoopState) (xs : SMap Loop) (d : Loop) (l : Nat) :
    (mget d l xs).SameRun (mget d l (xs.map fun e => if p e then (e.1, { e.2 with state := g e.2 }) else e)) := by
  induction xs with
  | nil => exact ⟨rfl, rfl, rfl⟩
  | cons e xs ih =>
    rw [List.map_cons]
    by_cases hp : p e
    · rw [if_pos hp]
      simp only [mget]
      split
      · exact ⟨rfl, rfl, rfl⟩
      · exact ih
    · rw [if_neg hp]
      simp only [mget]
      split
      · exact ⟨rfl, rfl, rfl⟩
      · exact ih

theorem sameRun_migDone (s : State) (m : Migration) (l : Nat) : (s.loop l).SameRun ((s.migDone m).loop l) :=
  (sameRun_of_loops (show (s.showMig m).loops = s.loops from setReg_loops ..) l).trans
    (sameRun_map (fun e => e.2.pair = m.dst ∧ e.2.state = .migrating) s.live (s.showMig m).loops Loop.free l)

theorem sameRun_foldl {α : Type} (f : State → α → State) {l : Nat} (hf : ∀ (s : State) (x : α), (s.loop l).SameRun ((f s x).loop l))
    (xs : List α) (s : State) : (s.loop l).SameRun ((xs.foldl f s).loop l) := by
  induction xs generalizing s with
  | nil => exact ⟨rfl, rfl, rfl⟩
  | cons x xs ih => exact (hf s x).trans (ih _)

theorem sameRun_migEnded (s : State) (k l : Nat) : (s.loop l).SameRun ((s.migEnded k).loop l) := by
  unfold State.migEnded
  extract_lets ms src s1
  exact sameRun_foldl _ (fun s m => sameRun_migDone s m l) _ s1

theorem sameRun_leavePair (s : State) (k : Nat) (L : Loop) (l : Nat) : (s.loop l).SameRun ((s.leavePair k L).loop l) := by
  have h := loops_foldl (State.freePair k) (loops_freePair k) L.onPairs s
  exact (sameRun_of_loops h l).trans (sameRun_migEnded ..)

theorem sameRun_periodEnd (s : State) (l : Nat) : (s.loop l).SameRun ((s.periodEnd l).loop l) := by
  unfold State.periodEnd
  dsimp only
  split_ifs
  · rw [loop_congr (loops_releaseSlots ..), loop_setLoop_same]
    exact ⟨rfl, rfl, rfl⟩
  · rw [loop_congr (loops_releaseSlots ..), loop_setLoop_same]
    exact ⟨rfl, rfl, rfl⟩
  · exact ⟨rfl, rfl, rfl⟩

theorem sameRun_placerTrap (s : State) (l : Nat) : (s.loop l).SameRun ((s.placerTrap l).loop l) := by
  unfold State.placerTrap
  dsimp only
  split_ifs
  · rw [loop_emit, loop_congr (loops_releaseSlots ..), loop_setLoop_same]
    exact ⟨rfl, rfl, rfl⟩
  · exact sameRun_periodEnd ..

/-- A trap leaves its cause in the loop, which is out of its period and keeps its registers. -/
theorem takeTrap_run (s : State) (l : Nat) (x : Trap) (dl : Bool) (word : Word) :
    ((s.takeTrap l x dl word).loop l).cause = x.cause ∧ ((s.takeTrap l x dl word).loop l).inPeriod = false ∧
      ((s.takeTrap l x dl word).loop l).g = (s.loop l).g := by
  unfold State.takeTrap
  extract_lets L L1 s1 body s2 s3
  have h1 : L1.SameRun (s1.loop l) := by
    have h := sameRun_leavePair ((s.withdrawOuts L.per L.outs).setLoop l L1) l L l
    rwa [loop_setLoop_same] at h
  have h2 : s2.loop l = s1.loop l := rfl
  have h3 : s3.loop l = s2.loop l := by
    simp only [s3]
    split <;> rfl
  have h4 : L1.SameRun ((s3.trapTrigger l).loop l) := by
    rw [loop_congr (loops_trapTrigger ..), h3, h2]
    exact h1
  obtain ⟨hc, hp, hg⟩ := h4.trans (sameRun_placerTrap ..)
  exact ⟨hc, hp, hg⟩

/-! ### A register read -/

/-- `t` has the loops of `s`: a name of its own, by which the kernel compares states and not their loops. -/
def State.SameLoops (s t : State) : Prop := t.loops = s.loops

theorem State.SameLoops.ite {s t u : State} {c : Prop} [Decidable c] (ht : s.SameLoops t) (hu : s.SameLoops u) :
    s.SameLoops (if c then t else u) := by
  split
  · exact ht
  · exact hu

theorem State.SameLoops.foldl {α : Type} {f : State → α → State} (hf : ∀ (s : State) (x : α), s.SameLoops (f s x))
    (xs : List α) (s : State) : s.SameLoops (xs.foldl f s) := loops_foldl f hf xs s

theorem sameLoops_bkParity (s : State) (i bad : Nat) : s.SameLoops (s.bkParity i bad) := by
  refine State.SameLoops.foldl (fun s b => ?_) _ s
  refine State.SameLoops.ite rfl (State.SameLoops.ite rfl ?_)
  exact (emit_loops ..).trans ((setRegB_loops ..).trans (setRegB_loops ..))

theorem State.SameLoops.withAnswer {s t : State} (h : s.SameLoops t) (w : Word) : s.SameLoops { t with answer := w } := h

theorem sameLoops_rtcFracRead (s : State) (b : Nat) : s.SameLoops (s.rtcFracRead b) := by
  unfold State.rtcFracRead
  extract_lets t s1
  exact State.SameLoops.withAnswer (t := s1) ((setReg_loops ..).trans (setReg_loops ..)) _

theorem sameLoops_dtblRead (s : State) (b : Nat) : s.SameLoops (s.dtblRead b) := by
  have h : s.SameLoops (s.setReg (bk b Reg.CLK_DTBH) (w32 (s.dtb / 0x100000000))) := setReg_loops ..
  exact h.withAnswer _

/-- A register read leaves the loops alone. -/
theorem sameLoops_regRead (s : State) (w : Who) (a : Nat) : s.SameLoops (s.regRead w a) := by
  unfold State.regRead
  refine .ite ?_ (.ite ?_ (.ite ?_ (.ite ?_ (.ite ?_ ?_))))
  · exact sameLoops_rtcFracRead ..
  · exact sameLoops_dtblRead ..
  · exact (sameLoops_bkParity ..).withAnswer _
  · exact .withAnswer rfl _
  · exact .withAnswer rfl _
  · exact .withAnswer rfl _

/-! ### Posted stores in place -/

theorem mget_msetList_mem {α : Type} [DecidableEq α] (d : α) (k : Nat) (vs : List α) (m : SMap α) (j : Nat) (h : k ≤ j)
    (h' : j < k + vs.length) : mget d j (msetList d k vs m) = vs.getD (j - k) d := by
  induction vs generalizing k m with
  | nil => simp at h'; omega
  | cons v vs ih =>
    rw [msetList]
    rcases eq_or_lt_of_le h with rfl | h
    · rw [mget_msetList_ne _ _ _ _ _ (by omega), mget_mset_same]
      simp
    · rw [ih _ _ (by omega) (by simp at h'; omega)]
      obtain ⟨i, rfl⟩ : ∃ i, j = k + 1 + i := ⟨j - (k + 1), by omega⟩
      rw [Nat.add_sub_cancel_left, show k + 1 + i - k = i + 1 by omega, List.getD_cons_succ]

theorem foldl_writeShared_ne (xs : List Posted) (c : Cell) (k : Nat)
    (h : ∀ x ∈ xs, k < x.offset ∨ x.offset + x.bytes.length ≤ k) :
    mget 0 k (xs.foldl (fun (c : Cell) x => c.writeShared x.offset x.bytes) c).shared = mget 0 k c.shared := by
  induction xs generalizing c with
  | nil => rfl
  | cons x xs ih =>
    rw [List.foldl_cons, ih _ fun y hy => h y (List.mem_cons_of_mem _ hy)]
    exact mget_msetList_ne _ _ _ _ _ (h x List.mem_cons_self)

theorem seen_ne (s : State) (l k : Nat) (h : ∀ x ∈ s.postedBy l, k < x.offset ∨ x.offset + x.bytes.length ≤ k) :
    mget 0 k (s.seen l).shared = mget 0 k (s.cell (s.loop l).cell).shared := foldl_writeShared_ne _ _ _ h

theorem seen_latest {s : State} {l k : Nat} {pre post : List Posted} {x : Posted} (hp : s.postedBy l = pre ++ x :: post)
    (hpost : ∀ y ∈ post, k < y.offset ∨ y.offset + y.bytes.length ≤ k) (h : x.offset ≤ k)
    (h' : k < x.offset + x.bytes.length) : mget 0 k (s.seen l).shared = x.bytes.getD (k - x.offset) 0 := by
  rw [State.seen, hp, List.foldl_append, List.foldl_cons, foldl_writeShared_ne _ _ _ hpost]
  exact mget_msetList_mem _ _ _ _ _ h h'

/-! ### What the views read (R37) -/

section
variable (s : State) (c : Nat) {x : Nat}

theorem viewWord_of_grant {g : Bool} {k : Nat} (hk : s.viewKey c x = if g then some k else none) :
    s.viewWord c x = if g then s.fiRead k else 0 := by
  rw [State.viewWord, hk]
  cases g <;> rfl

theorem viewWord_node (h' : x < 0x20000000) : s.viewWord c x =
    if s.nodeGranted c ((x - 0x10000000) / 0x100) then s.fiRead (fiNode ((x - 0x10000000) / 0x100) + x % 0x100 / 4) else 0 :=
  viewWord_of_grant s c (if_pos h')

theorem viewWord_fe (h : 0x30000000 ≤ x) (hv : x - 0x30000000 < 0x18000) : s.viewWord c x =
    if s.feGranted c ((x - 0x30000000) / 0x200) then
      s.fiRead (fiFe ((x - 0x30000000) / 0x200) + (x - 0x30000000) % 0x200 / 4) else 0 :=
  viewWord_of_grant s c ((if_neg (by omega)).trans (if_pos hv))

theorem viewWord_col (h : 0x30000000 ≤ x) (h1 : 0x100000 ≤ x - 0x30000000) (h2 : x - 0x30000000 < 0x140000) : s.viewWord c x =
    if s.colGranted c ((x - 0x30000000 - 0x100000) / 0x4000) then
      s.fiRead (fiCol ((x - 0x30000000 - 0x100000) / 0x4000) + (x - 0x30000000 - 0x100000) % 0x4000 / 4) else 0 :=
  viewWord_of_grant s c ((if_neg (by omega)).trans ((if_neg (by omega)).trans (if_pos (by simp; omega))))

theorem viewWord_none (h : 0x30000000 ≤ x) (h1 : 0x18000 ≤ x - 0x30000000)
    (h2 : x - 0x30000000 < 0x100000 ∨ 0x140000 ≤ x - 0x30000000) : s.viewWord c x = 0 :=
  viewWord_of_grant s c (g := false) (k := 0)
    ((if_neg (by omega)).trans ((if_neg (by omega)).trans (if_neg (by simp; omega))))
end

/-! ### A load that delivers -/

theorem sharedCount_bounds (s : State) (c off : Nat) :
    (if off < (s.cell c).fast * 0x10000 then 12 else 60) ≤ s.sharedCount c off ∧
      s.sharedCount c off ≤ if off < (s.cell c).fast * 0x10000 then 40 else 900 := by
  unfold State.sharedCount Cell.sharedMem
  split
  · rw [if_pos rfl]
    exact count_bounds s (by decide)
  · rw [if_neg (by decide)]
    exact count_bounds s (by decide)

section
variable {s : State} {l n x : Nat} {d : Reg} {i : Instr} {val : (Nat → Nat) → Word}
variable (h : s.Ready l) (hi : s.LoadsAs l d x n i val) (hm : x % n = 0)
include h hi hm

theorem loads_code (hc : x + n ≤ (s.loop l).codeSize) : ∃ t, exec i s = .next t ∧
    State.Retired l d (val fun k => (mget 0 (x + k) (s.loop l).code).toNat) (s.loop l).flg 2 s t := by
  obtain ⟨-, ext, hx, hv⟩ := hi
  refine ⟨_, hx.trans (congrArg _ (load_code h _ _ (areaOf_code _ _ hc) (readable_code _ _ hc) hm)), ?_⟩
  rw [memBytes, hv _ (fun k => (mget 0 (x + k) (s.loop l).code).toNat) (length_mgetList ..)
    fun k hk => by rw [getD_mgetList _ _ _ _ hk]]
  exact retired_retire ..

theorem loads_data (hc : (s.loop l).codeSize < x + n) (h0 : 0x10000 ≤ x) (h1 : x + n ≤ 0x10000 + (s.loop l).decl.dsize) :
    ∃ t, exec i s = .next t ∧
      State.Retired l d (val fun k => (mget 0 (x - 0x10000 + k) (s.loop l).data).toNat) (s.loop l).flg 2 s t := by
  obtain ⟨-, ext, hx, hv⟩ := hi
  have hr : s.readable (s.loop l) x n = true := readable_of_byte _ _ fun y _ _ => .inl (by omega)
  refine ⟨_, hx.trans (congrArg _ (load_data h _ _ (areaOf_data _ _ hc h0 h1) hr hm)), ?_⟩
  rw [memBytes, hv _ (fun k => (mget 0 (x - 0x10000 + k) (s.loop l).data).toNat) (length_mgetList ..)
    fun k hk => by rw [getD_mgetList _ _ _ _ hk]]
  exact retired_retire ..

theorem loads_shared (hc : (s.loop l).codeSize < x + n) (hd : 0x10000 + (s.loop l).decl.dsize < x + n) (h0 : 0x20000000 ≤ x)
    (h1 : x + n ≤ 0x20000000 + (s.cell (s.loop l).cell).mem * 0x10000) (h2 : x + n ≤ 0x30000000)
    (hb : s.sharedBad l x = false) : ∃ t, exec i s = .next t ∧ State.Only [.loops, .drawn] s t ∧
      (s.loop l).Delivered (t.loop l) d (val fun k => (mget 0 (x - 0x20000000 + k) (s.seen l).shared).toNat)
        (if x - 0x20000000 < (s.cell (s.loop l).cell).fast * 0x10000 then 12 else 60)
        (if x - 0x20000000 < (s.cell (s.loop l).cell).fast * 0x10000 then 40 else 900) := by
  obtain ⟨hn, ext, hx, hv⟩ := hi
  have hr : s.readable (s.loop l) x n = true := readable_of_byte _ _ fun y _ _ => .inr (.inr (by omega))
  refine ⟨_, hx.trans (congrArg _ (load_shared h _ _ (areaOf_shared _ _ hc hd h0 h1 h2 hn) hr hm hb)), only_draw_retire _ _ _ _, ?_⟩
  rw [memBytes, hv _ (fun k => (mget 0 (x - 0x20000000 + k) (s.seen l).shared).toNat) (length_mgetList ..)
    fun k hk => by rw [getD_mgetList _ _ _ _ hk]]
  obtain ⟨hlo, hhi⟩ := sharedCount_bounds s (s.loop l).cell (x - 0x20000000)
  exact delivered_retire (u := s.draw) d _ hlo hhi

theorem loads_shared_bad (hc : (s.loop l).codeSize < x + n) (hd : 0x10000 + (s.loop l).decl.dsize < x + n) (h0 : 0x20000000 ≤ x)
    (h1 : x + n ≤ 0x20000000 + (s.cell (s.loop l).cell).mem * 0x10000) (h2 : x + n ≤ 0x30000000)
    (hb : s.sharedBad l x = true) : ∃ t, exec i s = .next t ∧ (t.loop l).cause = 4 ∧ (t.loop l).inPeriod = false ∧
      (t.loop l).g = (s.loop l).g := by
  obtain ⟨hn, ext, hx, -⟩ := hi
  have hr : s.readable (s.loop l) x n = true := readable_of_byte _ _ fun y _ _ => .inr (.inr (by omega))
  exact ⟨_, hx.trans (congrArg _ (load_shared_bad h _ _ (areaOf_shared _ _ hc hd h0 h1 h2 hn) hr hm hb)), takeTrap_run ..⟩

theorem loads_view (hc : (s.loop l).codeSize < x + n) (hd : 0x10000 + (s.loop l).decl.dsize < x + n)
    (h0 : 0x10000000 ≤ x ∧ x + n ≤ 0x20000000 ∨ 0x30000000 ≤ x ∧ x + n ≤ 0x40000000) :
    ∃ t, exec i s = .next t ∧ State.Only [.loops, .drawn] s t ∧ (s.loop l).Delivered (t.loop l) d
      (val fun k => (s.viewWord (s.loop l).cell x).toNat / 256 ^ (x % 4 + k) % 256) 80 1200 := by
  obtain ⟨hn, ext, hx, hv⟩ := hi
  have hr : s.readable (s.loop l) x n = true := readable_of_byte _ _ fun y _ _ => .inr (.inl (by omega))
  refine ⟨_, hx.trans (congrArg _ (load_view h _ _ (areaOf_view _ _ hc hd h0) hr hm)), only_draw_retire _ _ _ _, ?_⟩
  rw [partOf_eq, hv _ (fun k => (s.viewWord (s.loop l).cell x).toNat / 256 ^ (x % 4 + k) % 256) (length_bytesOf ..)
    fun k hk => by rw [getD_bytesOf _ _ _ hk, Nat.div_div_eq_div_mul, pow_add]]
  obtain ⟨hlo, hhi⟩ := count_bounds s (show 80 ≤ 1200 by decide)
  exact delivered_retire (u := s.draw) d _ hlo hhi
end

/-- Settles O9: in each area the load is a retirement with the bytes of that area; what a view reads and what the loop sees of its
posted stores are facts of the state. -/
theorem loadsDeliverMemory : Obligations.LoadsDeliverMemory := by
  unfold Obligations.LoadsDeliverMemory
  intro s l d a imm h L at' half forms delivers c off seen w
  have hforms : ∀ f ∈ forms, s.LoadsAs l d at' f.1 f.2.1 f.2.2 := by
    simp only [forms, List.forall_mem_cons, List.not_mem_nil, false_imp_iff, implies_true, and_true]
    exact ⟨ldw_loads .., ldh_loads .., ldhu_loads .., ldb_loads .., ldbu_loads ..⟩
  refine ⟨fun f hf hm => ⟨fun hc => loads_code h (hforms f hf) hm hc, fun hc h0 h1 => loads_data h (hforms f hf) hm hc h0 h1,
      fun hc hd => ⟨fun h0 h1 h2 => ⟨fun hb => ?_, fun hb => ?_⟩, fun h0 => ?_⟩⟩,
    fun k hk => seen_ne s l k hk, fun pre post x k hp hpost hx hx' => seen_latest hp hpost hx hx', fun h0 h1 => ?_,
    fun h0 h1 => ⟨fun hv => ?_, fun hv hv' => ?_, fun hv hv' => ?_⟩, fun h0 hc hd hs hm hx hg => ?_⟩
  · exact loads_shared h (hforms f hf) hm hc hd h0 h1 h2 hb
  · exact loads_shared_bad h (hforms f hf) hm hc hd h0 h1 h2 hb
  · exact loads_view h (hforms f hf) hm hc hd h0
  · exact viewWord_node s c h1
  · exact viewWord_fe s c h0 hv
  · exact viewWord_col s c h0 hv hv'
  · exact viewWord_none s c h0 hv hv'
  · have hl : (s.draw.regRead (.loop l) at').loop l = L := loop_congr (sameLoops_regRead ..) l
    obtain ⟨hlo, hhi⟩ := count_bounds s (show 20 ≤ 400 by decide)
    refine ⟨_, congrArg Host.Outcome.next (load_register h _ _ (areaOf_regs s L (by decide) h0 hc hd hs) hm hx hg), ?_, ?_⟩
    · exact retire_wg_eq_setLoop ..
    · have hd := delivered_retire (u := s.draw.regRead (.loop l) at') (l := l) d (s.draw.regRead (.loop l) at').answer hlo hhi
      rw [hl] at hd
      exact hd

end Sys2Proof.Machine
end

section
/-! SUPPORT. Register writes and refused commands (R16, R40, R42, R44, R48, R517). -/
namespace Sys2Proof.Machine

/-! ### An access of an accessor -/

section
variable {s : State} {w : Who} {a : Nat}

/-- What an access to a page that is not granted does (R40). -/
def State.denied (s : State) (w : Who) (a : Nat) : State := (s.pageDenied (s.whoCell w) a).accessTrap w 4 a

theorem access_granted (hx : inExtent a = true) (ha : a % 4 = 0) (hg : s.pageGranted (s.whoCell w) a = true) (f : State → State) :
    s.access w a f = f s := by
  simp [State.access, hx, ha, hg]

theorem access_denied (hx : inExtent a = true) (ha : a % 4 = 0) (hg : s.granted w a = false) (f : State → State) :
    s.access w a f = s.denied w a := by
  rw [State.granted] at hg
  simp [State.access, hx, ha, hg, State.denied]

theorem denied_session (sid : Nat) :
    s.denied (.session sid) a = s.emit Ev.PAGE_DENIED (s.whoCell (.session sid)) [w32 (s.whoCell (.session sid)), w32 a] := rfl

theorem late_emit (L : Loop) (n code cell : Nat) (body : List Word) : (s.emit code cell body).late L n = s.late L n := rfl

theorem denied_loop (l : Nat) :
    s.denied (.loop l) a =
      let s1 := s.emit Ev.PAGE_DENIED (s.loop l).cell [w32 (s.loop l).cell, w32 a]
      if (s.loop l).executing then s1.takeTrap l ⟨2, 4, a⟩ (s.late (s.loop l) 20) ((s.loop l).wordAt (s.loop l).pc) else s1 := by
  rw [State.denied, State.pageDenied, State.accessTrap]
  simp only [loop_emit, late_emit]
  rfl
end

/-! ### Register keys -/

theorem lt_of_inExtent {a : Nat} (hx : inExtent a = true) : 0x40000000 ≤ a ∧ a < 0x41000000 := by
  simp [inExtent] at hx
  omega

theorem addrOf_regKey {s : State} {w : Who} {a : Nat} (hx : inExtent a = true) : addrOf (s.regKey w a) = a := by
  have ha := lt_of_inExtent hx
  have hb (b : Nat) : addrOf (bk b a) = a := by rw [addrOf, bk]; omega
  have h0 : addrOf a = a := by rw [addrOf]; omega
  unfold State.regKey
  split_ifs
  · exact hb _
  · exact hb _
  · exact hb _
  · exact h0

/-- A register that is not the last two words of its page is not its page's STAGE register. -/
theorem ne_stageOf {k : Nat} (h : addrOf k % 0x1000 < 0xFF8) : k ≠ stageOf (pageOf k) := by
  rintro hs
  have := congrArg addrOf hs
  simp only [stageOf, pageOf] at this
  generalize addrOf k = a at *
  rw [addrOf] at this
  omega

/-! ### Frames of register writes -/

theorem only_setReg (s : State) (ps : List Part) (h : .act ∈ ps) (k : Nat) (v : Word) : State.Only ps s (s.setReg k v) := by
  intro p hp
  cases p with
  | act => exact absurd h hp
  | _ => rfl

theorem only_trans {ps : List Part} {s t u : State} (h : State.Only ps s t) (h' : State.Only ps t u) : State.Only ps s u := by
  intro p hp
  have h1 := h p hp
  have h2 := h' p hp
  cases p <;> exact Eq.trans h2 h1

/-! ### A write by access codes (R16) -/

/-- The active value after a write: RW bits take it, W1C bits it has set clear. -/
def RegRow.written (r : RegRow) (old v : Word) : Word :=
  ((old &&& ~~~ w32 r.rw) ||| (v &&& w32 r.rw)) &&& ~~~ (v &&& w32 r.w1c)

/-- A write's effect on active values. -/
def State.writeActive (s : State) (r : RegRow) (k : Nat) (v : Word) : State :=
  if r.written (s.reg k) v = s.reg k then s else s.setReg k (r.written (s.reg k) v)

section
variable (s : State) (r : RegRow) (k : Nat) (v : Word)

theorem reg_writeActive_same : (s.writeActive r k v).reg k = r.written (s.reg k) v := by
  unfold State.writeActive
  split_ifs with h
  · exact h.symm
  · exact reg_setReg_same ..

theorem reg_writeActive_ne {j : Nat} (h : j ≠ k) : (s.writeActive r k v).reg j = s.reg j := by
  unfold State.writeActive
  split_ifs
  · rfl
  · exact reg_setReg_ne _ h _

theorem only_writeActive (ps : List Part) (h : .act ∈ ps) : State.Only ps s (s.writeActive r k v) := by
  unfold State.writeActive
  split_ifs
  · intro p _
    cases p <;> rfl
  · exact only_setReg _ _ h _ _
end

theorem plainWrite_row {s : State} {k : Nat} {r : RegRow} (h : addrOf k % 0x1000 < 0xFF8) (hr : regRow (addrOf k) = some r) (v : Word)
    (c : Nat) : s.plainWrite k v c =
      if r.staged = 0 then s.writeActive r k v else (s.writeActive r k v).writeStaged k r.staged v c := by
  have hn : ¬ (addrOf k % 0x1000 = 0xFFC ∧ stagedPage (addrOf k - 0xFFC) = true) := fun h' => by omega
  rw [State.plainWrite]
  simp only [if_neg hn, hr]
  rfl

theorem plainWrite_stage {s : State} {k : Nat} (h : addrOf k % 0x1000 = 0xFFC) (hs : stagedPage (addrOf k - 0xFFC) = true) (v : Word)
    (c : Nat) : s.plainWrite k v c = s.setReg k (s.reg k &&& ~~~ (v &&& w32 0xF0)) := by
  rw [State.plainWrite]
  exact if_pos ⟨h, hs⟩

/-! ### Staged bits (R42, R48) -/

/-- The shadow value after a write. -/
def mergeBits (m old v : Word) : Word := (old &&& ~~~ m) ||| (v &&& m)

theorem writeStaged_open {s : State} {k : Nat} (h : s.isPending (pageOf k) = false) (m : Nat) (v : Word) (c : Nat) :
    s.writeStaged k m v c = (s.setShadow k (mergeBits (w32 m) (s.shadow k) v)).setRegB (stageOf (pageOf k)) 2 true := by
  rw [State.writeStaged]
  simp only [h]
  rfl

theorem writeStaged_pending {s : State} {k : Nat} (h : s.isPending (pageOf k) = true) (m : Nat) (v : Word) (c : Nat) :
    s.writeStaged k m v c =
      (s.setRegB (stageOf (pageOf k)) 6 true).emit Ev.STAGE_LOCKED_WRITE c [w32 (addrOf k), w32 c] := by
  rw [State.writeStaged]
  simp only [h]
  rfl

theorem shadow_setShadow_same (s : State) (k : Nat) (v : Word) : (s.setShadow k v).shadow k = v := mget_mins_same ..

theorem shadow_setShadow_ne (s : State) {j k : Nat} (h : j ≠ k) (v : Word) : (s.setShadow k v).shadow j = s.shadow j := by
  rw [State.shadow, State.setShadow, mget_mins_ne _ h, mget_mdel_ne _ h]
  rfl

theorem shadow_setReg_ne (s : State) {j k : Nat} (h : j ≠ k) (v : Word) : (s.setReg k v).shadow j = s.shadow j := by
  rw [State.shadow, reg_setReg_ne _ h]
  rfl

theorem shadow_writeActive_ne (s : State) (r : RegRow) (v : Word) {j k : Nat} (h : j ≠ k) :
    (s.writeActive r k v).shadow j = s.shadow j := by
  unfold State.writeActive
  split_ifs
  · rfl
  · exact shadow_setReg_ne _ h _

theorem isPending_writeActive (s : State) (r : RegRow) (k : Nat) (v : Word) (p : Nat) :
    (s.writeActive r k v).isPending p = s.isPending p := by
  unfold State.writeActive
  split_ifs <;> rfl

theorem bitAt_w32 {n i : Nat} (hi : i < 32) : bitAt (w32 n) i = decide (n / 2 ^ i % 2 = 1) := by
  rw [bitAt_eq, BitVec.toNat_ofNat, Nat.testBit_mod_two_pow, Nat.testBit_eq_decide_div_mod_eq]
  simp [hi]

theorem bitAt_getLsb (w : Word) (i : Nat) : bitAt w i = w.getLsbD i := bitAt_eq w i

theorem bitAt_mergeBits {m : Nat} (old v : Word) {i : Nat} (hi : i < 32) (hm : m / 2 ^ i % 2 = 1) :
    bitAt (mergeBits (w32 m) old v) i = bitAt v i := by
  have h : (w32 m).getLsbD i = true := by rw [← bitAt_getLsb, bitAt_w32 hi, decide_eq_true hm]
  simp only [bitAt_getLsb, mergeBits, BitVec.getLsbD_or, BitVec.getLsbD_and, BitVec.getLsbD_not, h, hi]
  simp

/-- The write of a STAGE register clears those of bits 7 to 4 it writes 1 to (R48 to R50). -/
theorem bitAt_stage_write (old v : Word) {i : Nat} (hi : i < 32) :
    bitAt (old &&& ~~~ (v &&& w32 0xF0)) i = (bitAt old i && !(decide (4 ≤ i ∧ i < 8) && bitAt v i)) := by
  have h : ∀ i < 32, (w32 0xF0).getLsbD i = decide (4 ≤ i ∧ i < 8) := by decide
  simp only [bitAt_getLsb, BitVec.getLsbD_and, BitVec.getLsbD_not, h i hi, hi, decide_true, Bool.true_and, Bool.and_comm]

/-! ### REGISTER_WRITE of a register that is no command register -/

section
variable {s : State} {w : Who} {a : Nat} {v : Word} {r : RegRow} {k : Nat}

theorem regWrite_plain (hz : s.whoCell w = 0 ∨ cellZeroPage a = false)
    (hh : ¬ ((0x40680000 ≤ a ∧ a < 0x40700000) ∧ s.ctl.rtcHanded = true)) (h1 : s.coreCmd w a v = none) (h2 : s.linkCmd a v = none)
    (h3 : s.sideCmd w a v = none) (ha : a % 0x1000 ≠ 0xFF8) :
    s.regWrite w a v = s.plainWrite (s.regKey w a) v (s.whoCell w) := by
  have hn : ¬ ((s.whoCell w ≠ 0 ∧ cellZeroPage a = true) ∨ (0x40680000 ≤ a ∧ a < 0x40700000 ∧ s.ctl.rtcHanded = true)) := by
    rintro (⟨hc, hp⟩ | ⟨hlo, hhi, hr⟩)
    · obtain hc' | hp' := hz
      · exact hc hc'
      · rw [hp] at hp'
        exact Bool.noConfusion hp'
    · exact hh ⟨⟨hlo, hhi⟩, hr⟩
  rw [State.regWrite]
  simp only [if_neg hn, if_neg fun h : a % 0x1000 = 0xFF8 ∧ _ => ha h.1, h1, h2, h3]

theorem exec_plainWrite (hx : inExtent a = true) (ha : a % 4 = 0) (hg : s.pageGranted (s.whoCell w) a = true)
    (hz : s.whoCell w = 0 ∨ cellZeroPage a = false) (hh : ¬ ((0x40680000 ≤ a ∧ a < 0x40700000) ∧ s.ctl.rtcHanded = true))
    (h1 : s.coreCmd w a v = none) (h2 : s.linkCmd a v = none) (h3 : s.sideCmd w a v = none) (hp : a % 0x1000 ≠ 0xFF8) :
    exec (.registerWrite w a v) s = .next (s.plainWrite (s.regKey w a) v (s.whoCell w)) :=
  congrArg Host.Outcome.next ((access_granted hx ha hg _).trans (regWrite_plain hz hh h1 h2 h3 hp))

theorem regWrite_handed (ha : 0x40680000 ≤ a ∧ a < 0x40700000) (hr : s.ctl.rtcHanded = true) : s.regWrite w a v = s :=
  if_pos (.inr ⟨ha.1, ha.2, hr⟩)

/-- A write of active bits alone. -/
theorem writeActive_holds : State.Only [.act] s (s.writeActive r k v) ∧ (s.writeActive r k v).reg k = r.written (s.reg k) v ∧
    State.OnlyRegs [k] s (s.writeActive r k v) :=
  ⟨only_writeActive _ _ _ _ _ (by decide), reg_writeActive_same .., fun _ hj => reg_writeActive_ne _ _ _ _ (by simpa using hj)⟩

/-- A write to staged bits of a page that is not pending. -/
theorem writeStaged_open_holds (hk : k ≠ stageOf (pageOf k)) (hp : s.isPending (pageOf k) = false) (c : Nat) :
    let t := (s.writeActive r k v).writeStaged k r.staged v c
    State.Only [.act, .shd] s t ∧ State.OnlyRegs [k, stageOf (pageOf k)] s t ∧ t.reg k = r.written (s.reg k) v ∧
      t.regB (stageOf (pageOf k)) 2 = true ∧ (∀ i, i < 32 → r.staged / 2 ^ i % 2 = 1 → bitAt (t.shadow k) i = bitAt v i) ∧
      ∀ j, j ≠ k → j ≠ stageOf (pageOf k) → t.shadow j = s.shadow j := by
  intro t
  have ht : t = _ := writeStaged_open (by rw [isPending_writeActive, hp]) r.staged v c
  have hshd : ∀ x : Word, State.Only [.act, .shd] (s.writeActive r k v) ((s.writeActive r k v).setShadow k x) := by
    intro x p hp
    cases p with
    | shd => exact absurd (by decide) hp
    | _ => rfl
  rw [ht]
  refine ⟨only_trans (only_trans (only_writeActive _ _ _ _ _ (by decide)) (hshd _)) (only_setReg _ _ (by decide) _ _), fun j hj => ?_, ?_, ?_,
    fun i hi hm => ?_, fun j hj hs => ?_⟩
  · obtain ⟨hjk, hjs⟩ : j ≠ k ∧ j ≠ stageOf (pageOf k) := by simpa using hj
    rw [reg_setRegB_ne _ hjs]
    exact reg_writeActive_ne _ _ _ _ hjk
  · rw [reg_setRegB_ne _ hk]
    exact reg_writeActive_same ..
  · rw [State.regB, reg_setRegB_same, bitAt_setBit_same _ _ _ (by decide)]
  · rw [State.setRegB, shadow_setReg_ne _ hk, shadow_setShadow_same, bitAt_mergeBits _ _ hi hm]
  · rw [State.setRegB, shadow_setReg_ne _ hs, shadow_setShadow_ne _ hj, shadow_writeActive_ne _ _ _ hj]

/-- A write to staged bits of a pending page. -/
theorem writeStaged_pending_holds (hk : k ≠ stageOf (pageOf k)) (hp : s.isPending (pageOf k) = true) (c : Nat) :
    let t := (s.writeActive r k v).writeStaged k r.staged v c
    State.Only [.act, .recd] s t ∧ State.OnlyRegs [k, stageOf (pageOf k)] s t ∧ t.reg k = r.written (s.reg k) v ∧
      t.regB (stageOf (pageOf k)) 6 = true ∧ State.Logs [s.event Ev.STAGE_LOCKED_WRITE c [w32 (addrOf k), w32 c]] s t := by
  intro t
  have ht : t = _ := writeStaged_pending (by rw [isPending_writeActive, hp]) r.staged v c
  have ho : State.Only [.act] s ((s.writeActive r k v).setRegB (stageOf (pageOf k)) 6 true) :=
    only_trans (only_writeActive _ _ _ _ _ (by decide)) (only_setReg _ _ (by decide) _ _)
  have hd : _ = s.dtb := ho .dtb (by decide)
  have hr : _ = s.recd := ho .recd (by decide)
  rw [ht]
  generalize hu : (s.writeActive r k v).setRegB (stageOf (pageOf k)) 6 true = u at *
  refine ⟨fun p hp => ?_, fun j hj => ?_, ?_, ?_, ?_⟩
  · have := ho p
    cases p with
    | act => exact absurd (by decide) hp
    | recd => exact absurd (by decide) hp
    | _ => exact this (by decide)
  · obtain ⟨hjk, hjs⟩ : j ≠ k ∧ j ≠ stageOf (pageOf k) := by simpa using hj
    rw [reg_emit, ← hu, reg_setRegB_ne _ hjs]
    exact reg_writeActive_ne _ _ _ _ hjk
  · rw [reg_emit, ← hu, reg_setRegB_ne _ hk]
    exact reg_writeActive_same ..
  · rw [State.regB, reg_emit, ← hu, reg_setRegB_same, bitAt_setBit_same _ _ _ (by decide)]
  · rw [State.Logs, State.emit, State.emitAt, State.event, hd, hr]
end

/-! ### Refused commands (R36, R40) -/

/-- A command is recorded as denied, and traps a loop that executes, where the page of its register is not granted. -/
def State.Refuses (s : State) (w : Who) (i : Instr) (a : Nat) : Prop :=
  s.granted w a = false → exec i s = .next (match w with
    | .session _ => s.emit Ev.PAGE_DENIED (s.whoCell w) [w32 (s.whoCell w), w32 a]
    | .loop l =>
      let s1 := s.emit Ev.PAGE_DENIED (s.whoCell w) [w32 (s.whoCell w), w32 a]
      if (s.loop l).executing then s1.takeTrap l ⟨2, 4, a⟩ (s.late (s.loop l) 20) ((s.loop l).wordAt (s.loop l).pc) else s1)

section
variable {s : State} {w : Who} {i : Instr} {a : Nat} {f : State → State}

/-- A command that is one access to a register is refused where the page is not granted. -/
theorem refuses_of_access (hi : exec i s = .next (s.access w a f)) (hx : inExtent a = true) (ha : a % 4 = 0) : s.Refuses w i a := by
  intro hg
  rw [hi, access_denied hx ha hg]
  cases w with
  | session sid => rw [denied_session]
  | loop l => rw [denied_loop]; rfl

/-- The same for a register whose address is a numeral. -/
theorem refuses_at (hi : exec i s = .next (s.access w a f)) (h : (inExtent a && a % 4 == 0) = true) : s.Refuses w i a := by
  obtain ⟨hx, ha⟩ := Bool.and_eq_true_iff.1 h
  exact refuses_of_access hi hx (beq_iff_eq.1 ha)

/-- The same for a numbered register; these lie past the blocks of the core. -/
theorem refuses_numbered (hi : exec i s = .next (s.access w a f)) (h : 0x40100000 ≤ a ∧ a < 0x41000000 ∧ a % 4 = 0) :
    s.Refuses w i a := by
  obtain ⟨hlo, hhi, ha⟩ := h
  exact refuses_of_access hi (by simp [inExtent, hlo, hhi]) ha
end

/-- Settles O20: a register that is no command register takes the write by its access codes, active bits first and then staged
bits; a command is one access, which a page that is not granted refuses. -/
theorem registerWriteFollowsAccessCodes : Obligations.RegisterWriteFollowsAccessCodes := by
  unfold Obligations.RegisterWriteFollowsAccessCodes
  refine ⟨fun s w a v r => ?_, fun s w n k bad v => ?_⟩
  · intro c k old new hx ha rtc
    have hk : addrOf k = a := addrOf_regKey hx
    refine ⟨fun hg hr hh => ?_, fun hg hz hh h1 h2 h3 => ⟨fun hs hst => ?_, fun ho hrow => ?_⟩⟩
    · exact congrArg Host.Outcome.next ((access_granted hx ha hg _).trans (regWrite_handed hr hh))
    · have ht := exec_plainWrite hx ha hg hz hh h1 h2 h3 (by omega)
      rw [plainWrite_stage (by rw [hk, hs]) (by rw [hk, hst])] at ht
      refine ⟨_, ht, only_setReg _ _ (by decide) _ _, fun j hj => reg_setReg_ne _ (by simpa using hj) _, fun i hi => ?_⟩
      rw [reg_setReg_same, bitAt_stage_write _ _ hi]
    · have ht := exec_plainWrite hx ha hg hz hh h1 h2 h3 (by omega)
      rw [plainWrite_row (by rwa [hk]) (by rw [hk, hrow])] at ht
      have hne : k ≠ stageOf (pageOf k) := ne_stageOf (by rwa [hk])
      refine ⟨fun h0 => ?_, fun h0 hp => ?_, fun h0 hp => ?_⟩
      · rw [if_pos h0] at ht
        exact ⟨_, ht, writeActive_holds⟩
      · rw [if_neg h0] at ht
        exact ⟨_, ht, writeStaged_open_holds hne hp c⟩
      · rw [if_neg h0] at ht
        obtain ⟨hO, hR, hn, hb, hL⟩ := writeStaged_pending_holds (v := v) (r := r) hne hp c
        rw [hk] at hL
        exact ⟨_, ht, hO, hR, hn, hb, hL⟩
  · intro refused
    have one {i : Instr} {a : Nat} {f : State → State} (hi : exec i s = .next (s.access w a f))
        (h : (inExtent a && a % 4 == 0) = true) : refused i a := refuses_at hi h
    have many {i : Instr} {a : Nat} {f : State → State} (hi : exec i s = .next (s.access w a f))
        (h : 0x40100000 ≤ a ∧ a < 0x41000000 ∧ a % 4 = 0) : refused i a := refuses_numbered hi h
    simp only [List.forall_mem_cons, List.not_mem_nil, false_imp_iff, implies_true, and_true]
    refine ⟨fun a hx ha => refuses_of_access rfl hx ha, ⟨one rfl rfl, one rfl rfl, one rfl rfl, one rfl rfl⟩,
      ⟨one rfl rfl, one rfl rfl⟩, one rfl rfl, fun x => one rfl rfl, one rfl rfl, one rfl rfl, one rfl rfl,
      ⟨one rfl rfl, one rfl rfl, one rfl rfl, one rfl rfl⟩, fun hn hk => ?_, fun hn => ⟨?_, ?_, ?_, ?_, ?_⟩,
      fun hn => ⟨?_, ?_, ?_, ?_⟩, one rfl rfl, fun hn => ?_, fun hn => ⟨?_, ?_, ?_⟩, fun hn => ?_, ⟨one rfl rfl, one rfl rfl⟩,
      ⟨one rfl rfl, one rfl rfl, one rfl rfl, one rfl rfl⟩, one rfl rfl, ⟨one rfl rfl, one rfl rfl⟩, one rfl rfl, one rfl rfl,
      one rfl rfl, ⟨one rfl rfl, one rfl rfl⟩, one rfl rfl, ⟨one rfl rfl, one rfl rfl⟩, one rfl rfl, one rfl rfl, one rfl rfl⟩
    · exact many (if_neg (by omega)) (by unfold Reg.COL_IN; omega)
    · exact many (if_neg (by omega)) (by unfold Reg.LAT_TXQ; omega)
    · exact many (if_neg (by omega)) (by unfold Reg.LAT_TXCAN; omega)
    · exact many (if_neg (by omega)) (by unfold Reg.LAT_RXACK; omega)
    · exact many (if_neg (by omega)) (by unfold Reg.LAT_CMD; omega)
    · exact many (if_neg (by omega)) (by unfold Reg.RTC_BK; omega)
    · exact many (if_neg (by omega)) (by unfold Reg.CAN_TXCMD; omega)
    · exact many (if_neg (by omega)) (by unfold Reg.CAN_TXCMD; omega)
    · exact many (if_neg (by omega)) (by unfold Reg.CAN_RXREL; omega)
    · exact many (if_neg (by omega)) (by unfold Reg.CAN_CMD; omega)
    · exact many (if_neg (by omega)) (by unfold Reg.SV_CMD; omega)
    · exact many (if_neg (by omega)) (by unfold Reg.FAN_CMD; omega)
    · exact many (if_neg (by omega)) (by unfold Reg.TRC_CTL; omega)
    · exact many (if_neg (by omega)) (by unfold Reg.TRC_CTL; omega)
    · exact many (if_neg (by omega)) (by unfold Reg.DIO_CMD; omega)

end Sys2Proof.Machine
end

section
/-! SUPPORT. The order of the state kept (R44, R45, R485, R492, R509): registers, records, stores and the field image. -/
namespace Sys2Proof.Machine

/-! ### Maps -/

theorem mRising_mset {α : Type} [DecidableEq α] (d : α) (k : Nat) (v : α) (m : SMap α) (h : mRising 0 m = true) :
    mRising 0 (mset d k v m) = true := by
  unfold mset
  split
  · exact mRising_mdel 0 k m h
  · exact mRising_mins 0 k v _ (Nat.zero_le k) (mRising_mdel 0 k m h) (mdel_mdel k m)

theorem mset_keys {α : Type} [DecidableEq α] {d : α} {k : Nat} {v : α} {m : SMap α} {n : Nat} (h : ∀ e ∈ m, e.1 < n) (hk : k < n) :
    ∀ e ∈ mset d k v m, e.1 < n := by
  unfold mset
  intro e he
  split at he
  · exact h e (mem_mdel he)
  · rcases mem_mins he with rfl | he
    · exact hk
    · exact h e (mem_mdel he)

theorem mget_of_keys_lt {α : Type} (d : α) {k n : Nat} {m : SMap α} (h : ∀ e ∈ m, e.1 < n) (hk : n ≤ k) : mget d k m = d := by
  induction m with
  | nil => rfl
  | cons e t ih =>
    obtain ⟨j, v⟩ := e
    have hj : j < n := h (j, v) List.mem_cons_self
    rw [mget, if_neg (by omega), ih fun e he => h e (List.mem_cons_of_mem _ he)]

theorem mdel_of_not_mhas {α : Type} {k : Nat} {m : SMap α} (h : mhas k m = false) : mdel k m = m := by
  induction m with
  | nil => rfl
  | cons e t ih =>
    obtain ⟨j, v⟩ := e
    simp only [mhas, List.any_cons, Bool.or_eq_false_iff, beq_eq_false_iff_ne] at h
    obtain ⟨hj, ht⟩ := h
    rw [mdel, if_neg hj, ih ht]

theorem mRising_filter {α : Type} (lo : Nat) (p : Nat × α → Bool) (m : SMap α) (h : mRising lo m = true) :
    mRising lo (m.filter p) = true := by
  induction m generalizing lo with
  | nil => rfl
  | cons e t ih =>
    obtain ⟨k, v⟩ := e
    simp only [mRising, Bool.and_eq_true, decide_eq_true_eq] at h
    obtain ⟨hk, ht⟩ := h
    rw [List.filter_cons]
    split
    · simp only [mRising, Bool.and_eq_true, decide_eq_true_eq]
      exact ⟨hk, ih _ ht⟩
    · exact mRising_mono (by omega) _ (ih _ ht)

theorem mRising_map {α : Type} (lo : Nat) (f : Nat × α → Nat × α) (hf : ∀ e, (f e).1 = e.1) (m : SMap α) :
    mRising lo (m.map f) = mRising lo m := by
  induction m generalizing lo with
  | nil => rfl
  | cons e t ih =>
    obtain ⟨k, v⟩ := e
    obtain ⟨k', v', hkv⟩ : ∃ k' v', f (k, v) = (k', v') := ⟨_, _, rfl⟩
    obtain rfl : k' = k := by simpa [hkv] using hf (k, v)
    simp [mRising, hkv, ih]

/-! ### What the order depends on

An operation that leaves the maps, the depth of the tiers and the reset sequence alone is in order just where it was before: its lemma is
an equivalence, by which `simp` reads a state from the outermost operation inward. An operation that changes one of them keeps an order
that held. -/

/-- The order of a state that differs in other parts alone. -/
theorem State.InOrder.congr {s t : State} (h : s.InOrder) (hl : t.loops = s.loops := by rfl) (hs : t.shd = s.shd := by rfl)
    (hp : t.pend = s.pend := by rfl) (hv : t.sv.chans = s.sv.chans := by rfl) (ht : t.traces = s.traces := by rfl)
    (hd : t.pwr.deepest = s.pwr.deepest := by rfl) (hw : t.pwr.down = s.pwr.down := by rfl) (hr : t.ctl.run = s.ctl.run := by rfl) :
    t.InOrder := by
  unfold State.InOrder at h ⊢
  rw [hl, hs, hp, hv, ht, hd, hw, hr]
  exact h

/-- Where a command answers a next state, that state is in order. -/
def OutInOrder (o : Out) : Prop := ∀ t, o = .next t → t.InOrder

@[simp ↓] theorem next_inOrder {t : State} : OutInOrder (.next t) ↔ t.InOrder :=
  ⟨fun h => h t rfl, fun h _ ht => Host.Outcome.next.inj ht ▸ h⟩

/-- What a command that may find nothing to do answers is in order. -/
def SomeInOrder (o : Option State) : Prop := ∀ t, o = some t → t.InOrder

@[simp ↓] theorem some_inOrder {t : State} : SomeInOrder (some t) ↔ t.InOrder :=
  ⟨fun h => h t rfl, fun h _ ht => Option.some.inj ht ▸ h⟩

@[simp ↓] theorem none_inOrder : SomeInOrder none ↔ True := iff_true_intro fun _ h => nomatch h

theorem SomeInOrder.ite {o p : Option State} {c : Prop} [Decidable c] (ho : c → SomeInOrder o) (hp : SomeInOrder p) :
    SomeInOrder (if c then o else p) := by
  split
  · next h => exact ho h
  · exact hp

theorem State.InOrder.ite {s t : State} {c : Prop} [Decidable c] (hs : s.InOrder) (ht : t.InOrder) :
    (if c then s else t).InOrder := by
  split
  · exact hs
  · exact ht

@[simp ↓] theorem ite_inOrder (c : Prop) [Decidable c] (s t : State) :
    (if c then s else t).InOrder ↔ if c then s.InOrder else t.InOrder := by
  split <;> rfl

theorem OutInOrder.ite {o p : Out} {c : Prop} [Decidable c] (ho : OutInOrder o) (hp : OutInOrder p) :
    OutInOrder (if c then o else p) := by
  split
  · exact ho
  · exact hp

/-- A command that a guard on its channel or bank turns away answers the state as it is. -/
theorem OutInOrder.guard {s : State} (ho : s.InOrder) {k n : Nat} {c : Prop} [Decidable c] {o : Out} (h : n < k → OutInOrder o) :
    OutInOrder (if k ≤ n ∨ c then .next s else o) := by
  split
  · simp [ho]
  · next hc => exact h (Nat.lt_of_not_le fun hk => hc (.inl hk))

theorem foldl_inOrder {α : Type} {f : State → α → State} {l : List α} {s : State} (h : s.InOrder)
    (hf : ∀ s, ∀ x ∈ l, s.InOrder → (f s x).InOrder) : (l.foldl f s).InOrder := by
  induction l generalizing s with
  | nil => exact h
  | cons x l ih =>
    exact ih (hf s x List.mem_cons_self h) fun s y hy => hf s y (List.mem_cons_of_mem _ hy)

@[simp ↓] theorem foldl_inOrder_iff {α : Type} (f : State → α → State) (l : List α) (s : State)
    (h : ∀ (s : State) (x : α), (f s x).InOrder ↔ s.InOrder) : (l.foldl f s).InOrder ↔ s.InOrder := by
  induction l generalizing s with
  | nil => rfl
  | cons x l ih => exact (ih _).trans (h s x)

/-! ### Updates of one part of the state -/

/-- The order does not speak of these parts. -/
@[simp ↓] theorem with_inOrder (s : State) (pending : List Instr) (dtb nextFrame drawn : Nat) (act image : SMap Word) (answer : Word)
    (pairs : SMap Pair) (slots : SMap Slot) (cells : SMap Cell) (placer : Placer) (marked : SMap Bool) (hwk : HwkSt)
    (sessions : SMap Session) (fe : FeSt) (col : ColSt) (trunks : SMap Trunk) (nodeHist : SMap Nat) (ports : SMap CanPort)
    (fans : SMap FanChan) (dio : DioSt) (host : HostSt) (face : FaceSt) (svcTag : TagSt) (recd : RecSt) (rtc : RtcSt) :
    State.InOrder { s with
      pending := pending, dtb := dtb, act := act, nextFrame := nextFrame, answer := answer, drawn := drawn, pairs := pairs
      slots := slots, cells := cells, placer := placer, image := image, marked := marked, hwk := hwk, sessions := sessions
      fe := fe, col := col, trunks := trunks, nodeHist := nodeHist, ports := ports, fans := fans, dio := dio, host := host
      face := face, svcTag := svcTag, recd := recd, rtc := rtc } ↔ s.InOrder := Iff.rfl

/-! ### Updates of a part that the order speaks of -/

@[simp ↓] theorem setLoop_inOrder {s : State} (h : s.InOrder) (l : Nat) (x : Loop) : (s.setLoop l x).InOrder := by
  obtain ⟨hl, hrest⟩ := h
  refine ⟨?_, hrest⟩
  exact mRising_mset _ l x _ hl

@[simp ↓] theorem setTrace_inOrder {s : State} (h : s.InOrder) {n : Nat} (hn : n < 16) (x : Trace) : (s.setTrace n x).InOrder := by
  obtain ⟨hl, hs, hp, hpend, hshd, hsv, htr, hrest⟩ := h
  exact ⟨hl, hs, hp, hpend, hshd, hsv, mset_keys htr hn, hrest⟩

@[simp ↓] theorem setSvc_inOrder {s : State} (h : s.InOrder) {n : Nat} (hn : n < 24) (x : SvChan) : (s.setSvc n x).InOrder := by
  obtain ⟨hl, hs, hp, hpend, hshd, hsv, hrest⟩ := h
  exact ⟨hl, hs, hp, hpend, hshd, mset_keys hsv hn, hrest⟩

/-- Loops in order put in place of the loops. -/
theorem with_loops_inOrder {s : State} (ho : s.InOrder) {x : SMap Loop} (hx : mRising 0 x = true) :
    State.InOrder { s with loops := x } := by
  obtain ⟨-, hrest⟩ := ho
  exact ⟨hx, hrest⟩

/-- Shadow values and pending applies taken out of their maps. -/
theorem with_shd_pend_inOrder {s : State} (ho : s.InOrder) {x : SMap Word} {y : SMap Pend} (hx : mRising 0 x = true)
    (hxs : ∀ e ∈ x, e ∈ s.shd) (hy : mRising 0 y = true) (hys : ∀ e ∈ y, e ∈ s.pend) :
    State.InOrder { s with shd := x, pend := y } := by
  obtain ⟨hl, hs, hp, hpend, hshd, hrest⟩ := ho
  exact ⟨hl, hx, hy, fun e he => hpend e (hys e he), fun e he => hshd e (hxs e he), hrest⟩

theorem shd_rising {s : State} (ho : s.InOrder) : mRising 0 s.shd = true := ho.2.1

theorem pend_rising {s : State} (ho : s.InOrder) : mRising 0 s.pend = true := ho.2.2.1

/-- Shadow values filtered, and an apply ended. -/
theorem filter_shd_inOrder {s : State} (ho : s.InOrder) (f : Nat × Word → Bool) : State.InOrder { s with shd := s.shd.filter f } :=
  with_shd_pend_inOrder ho (mRising_filter 0 f _ (shd_rising ho)) (fun _ he => List.mem_of_mem_filter he) (pend_rising ho) fun _ he => he

theorem filter_shd_mdel_pend_inOrder {s : State} (ho : s.InOrder) (f : Nat × Word → Bool) (page : Nat) :
    State.InOrder { s with shd := s.shd.filter f, pend := mdel page s.pend } :=
  with_shd_pend_inOrder ho (mRising_filter 0 f _ (shd_rising ho)) (fun _ he => List.mem_of_mem_filter he)
    (mRising_mdel 0 page _ (pend_rising ho)) fun _ he => mem_mdel he

theorem filter_shd_pend_inOrder {s : State} (ho : s.InOrder) (f : Nat × Word → Bool) (g : Nat × Pend → Bool) :
    State.InOrder { s with shd := s.shd.filter f, pend := s.pend.filter g } :=
  with_shd_pend_inOrder ho (mRising_filter 0 f _ (shd_rising ho)) (fun _ he => List.mem_of_mem_filter he)
    (mRising_filter 0 g _ (pend_rising ho)) fun _ he => List.mem_of_mem_filter he

/-- The solenoid drive changed without its channels. -/
@[simp ↓] theorem with_sv_inOrder (s : State) {x : SvSt} (hx : x.chans = s.sv.chans) : State.InOrder { s with sv := x } ↔ s.InOrder := by
  unfold State.InOrder
  dsimp only
  rw [hx]

/-- The channels of SV changed, none added. -/
theorem with_chans_inOrder {s : State} (ho : s.InOrder) {x : SvSt} (hx : ∀ e ∈ x.chans, e.1 ∈ s.sv.chans.map Prod.fst) :
    State.InOrder { s with sv := x } := by
  obtain ⟨hl, hs, hp, hpend, hshd, hsv, hrest⟩ := ho
  refine ⟨hl, hs, hp, hpend, hshd, fun e he => ?_, hrest⟩
  obtain ⟨d, hd, hde⟩ := List.mem_map.mp (hx e he)
  exact hde ▸ hsv d hd


/-- The reset control changed without its sequence. -/
@[simp ↓] theorem with_ctl_inOrder (s : State) {x : CtlSt} (hx : x.run = s.ctl.run) : State.InOrder { s with ctl := x } ↔ s.InOrder := by
  unfold State.InOrder
  dsimp only
  rw [hx]

/-- The scope of a reset sequence, and whether one of scope 0 is asserted (R509, R510). -/
theorem run_inOrder {s : State} (ho : s.InOrder) {r : ResetRun} (hr : s.ctl.run = some r) :
    r.scope ≤ 2 ∧ (r.scope = 0 → r.asserted = false) := by
  obtain ⟨-, -, -, -, -, -, -, -, -, hrun⟩ := ho
  exact hrun r hr

/-- A reset sequence begun, changed or ended. -/
theorem setCtl_run_inOrder {s : State} (ho : s.InOrder) {x : CtlSt}
    (hx : ∀ r, x.run = some r → r.scope ≤ 2 ∧ (r.scope = 0 → r.asserted = false)) : (s.setCtl x).InOrder := by
  obtain ⟨hl, hs, hp, hpend, hshd, hsv, htr, hd, hw, -⟩ := ho
  exact ⟨hl, hs, hp, hpend, hshd, hsv, htr, hd, hw, hx⟩

/-- The pages with a pending apply are staged pages (R44). -/
theorem pend_staged {s : State} (ho : s.InOrder) {page : Nat} (h : page ∈ s.pend.map Prod.fst) : stagedPage page = true := by
  obtain ⟨-, -, -, hpend, -⟩ := ho
  obtain ⟨e, he, rfl⟩ := List.mem_map.mp h
  exact (hpend e he).2

/-- The depth of the tiers, and the power-down that T5 starts (R485, R492). -/
theorem depth_inOrder {s : State} (ho : s.InOrder) : s.pwr.deepest ≤ 5 ∧ (s.pwr.deepest = 5 → s.pwr.down ≠ none) := by
  obtain ⟨-, -, -, -, -, -, -, hd, hw, -⟩ := ho
  exact ⟨hd, hw⟩

/-- The power state changed with a depth of the tiers in bounds. -/
theorem setPwr_depth_inOrder {s : State} (ho : s.InOrder) {x : PwrSt} (hd : x.deepest ≤ 5) (hw : x.deepest = 5 → x.down ≠ none) :
    (s.setPwr x).InOrder := by
  obtain ⟨hl, hs, hp, hpend, hshd, hsv, htr, -, -, hrun⟩ := ho
  exact ⟨hl, hs, hp, hpend, hshd, hsv, htr, hd, hw, hrun⟩

/-! ### Registers -/

@[simp ↓] theorem freshBank_inOrder (s : State) (b : Nat) : (s.freshBank b).InOrder ↔ s.InOrder := by
  unfold State.freshBank
  simp

@[simp ↓] theorem setReg_inOrder (s : State) (k : Nat) (w : Word) : (s.setReg k w).InOrder ↔ s.InOrder := Iff.rfl

@[simp ↓] theorem setShadow_inOrder {s : State} (ho : s.InOrder) {k : Nat} (hk : addrOf k % 0x1000 < 0xFF8) (w : Word) :
    (s.setShadow k w).InOrder := by
  obtain ⟨hl, hs, hp, hpend, hshd, hrest⟩ := ho
  refine ⟨hl, mRising_mins 0 k w _ (Nat.zero_le k) (mRising_mdel 0 k _ hs) (mdel_mdel k _), hp, hpend, fun e he => ?_, hrest⟩
  rcases mem_mins he with rfl | he
  · exact hk
  · exact hshd e (mem_mdel he)

@[simp ↓] theorem setRegF_inOrder (s : State) (k hi lo v : Nat) : (s.setRegF k hi lo v).InOrder ↔ s.InOrder := Iff.rfl

@[simp ↓] theorem setRegB_inOrder (s : State) (k i : Nat) (b : Bool) : (s.setRegB k i b).InOrder ↔ s.InOrder := Iff.rfl

@[simp ↓] theorem countReg_inOrder (s : State) (k hi lo max n : Nat) : (s.countReg k hi lo max n).InOrder ↔ s.InOrder := Iff.rfl

@[simp ↓] theorem emitAt_inOrder (s : State) (stamp code cell : Nat) (body : List Word) :
    (s.emitAt stamp code cell body).InOrder ↔ s.InOrder :=
  Iff.rfl

@[simp ↓] theorem emit_inOrder (s : State) (code cell : Nat) (body : List Word) : (s.emit code cell body).InOrder ↔ s.InOrder := Iff.rfl

@[simp ↓] theorem setPair_inOrder (s : State) (p : Nat) (x : Pair) : (s.setPair p x).InOrder ↔ s.InOrder := Iff.rfl

@[simp ↓] theorem setSlot_inOrder (s : State) (n : Nat) (x : Slot) : (s.setSlot n x).InOrder ↔ s.InOrder := Iff.rfl

@[simp ↓] theorem setCell_inOrder (s : State) (c : Nat) (x : Cell) : (s.setCell c x).InOrder ↔ s.InOrder := Iff.rfl

@[simp ↓] theorem draw_inOrder (s : State) : s.draw.InOrder ↔ s.InOrder := Iff.rfl

/-! ### Traces -/

@[simp ↓] theorem trcRun_inOrder (s : State) (n : Nat) : (s.trcRun n).InOrder ↔ s.InOrder := by
  unfold State.trcRun
  simp

@[simp ↓] theorem trcFull_inOrder (s : State) (n : Nat) : (s.trcFull n).InOrder ↔ s.InOrder := by
  unfold State.trcFull
  simp

@[simp ↓] theorem trcTrigger_inOrder {s : State} (ho : s.InOrder) {n : Nat} (hn : n < 16) (idx : Nat) : (s.trcTrigger n idx).InOrder := by
  unfold State.trcTrigger
  simp [ho, hn]

@[simp ↓] theorem trcPut_inOrder {s : State} (ho : s.InOrder) {n : Nat} (hn : n < 16) (entry : List Word) : (s.trcPut n entry).InOrder := by
  unfold State.trcPut
  simp [ho, hn]

@[simp ↓] theorem trcTap_inOrder (l m : Nat) (a b : Word) {s : State} (ho : s.InOrder) {n : Nat} (hn : n < 16) :
    (State.trcTap l m a b s n).InOrder := by
  unfold State.trcTap
  simp [ho, hn]

@[simp ↓] theorem trapTrigger_inOrder {s : State} (ho : s.InOrder) (l : Nat) : (s.trapTrigger l).InOrder := by
  unfold State.trapTrigger
  refine foldl_inOrder ho fun s n hn ho => ?_
  simp [ho, List.mem_range.mp hn]

@[simp ↓] theorem trcClear_inOrder {s : State} (ho : s.InOrder) {n : Nat} (hn : n < 16)  : (s.trcClear n).InOrder := by
  unfold State.trcClear
  simp [ho, hn]

@[simp ↓] theorem trcXcell_inOrder (s : State) (n : Nat) : (s.trcXcell n).InOrder ↔ s.InOrder := by
  unfold State.trcXcell
  simp

@[simp ↓] theorem trcApplied_inOrder (old : State) {s : State} (ho : s.InOrder) {n : Nat} (hn : n < 16) :
    (State.trcApplied old s n).InOrder := by
  unfold State.trcApplied
  simp [ho, hn]

@[simp ↓] theorem trcCtl_inOrder {s : State} (ho : s.InOrder) {n : Nat} (hn : n < 16) (v : Word) : (s.trcCtl n v).InOrder := by
  unfold State.trcCtl
  simp [ho, hn]

@[simp ↓] theorem trcShed_inOrder {s : State} (ho : s.InOrder) (shed : Bool) : (s.trcShed shed).InOrder := by
  unfold State.trcShed
  refine foldl_inOrder ho fun s n hn ho => ?_
  simp [ho, List.mem_range.mp hn]

/-! ### Transactions of the program -/

@[simp ↓] theorem setTag_inOrder (s : State) (t : Nat) (x : Tag) : (s.setTag t x).InOrder ↔ s.InOrder := Iff.rfl

@[simp ↓] theorem setEngine_inOrder (s : State) (e : Nat) (x : Engine) : (s.setEngine e x).InOrder ↔ s.InOrder := Iff.rfl

@[simp ↓] theorem takeReserved_inOrder (s : State) (r : InternalReq) : (s.takeReserved r).InOrder ↔ s.InOrder := by
  unfold State.takeReserved
  split <;> simp

@[simp ↓] theorem askInternal_inOrder (s : State) (r : InternalReq) : (s.askInternal r).InOrder ↔ s.InOrder := by
  unfold State.askInternal
  simp

@[simp ↓] theorem payOwed_inOrder (s : State) : s.payOwed.InOrder ↔ s.InOrder := by
  unfold State.payOwed
  split <;> simp

@[simp ↓] theorem withdrawInternal_inOrder (s : State) (p : InternalReq → Bool) : (s.withdrawInternal p).InOrder ↔ s.InOrder := by
  unfold State.withdrawInternal
  simp

/-! ### The recorder -/

@[simp ↓] theorem askLine_inOrder (s : State) : s.askLine.InOrder ↔ s.InOrder := by
  unfold State.askLine
  simp

@[simp ↓] theorem recFill_inOrder (s : State) : s.recFill.InOrder ↔ s.InOrder := by
  unfold State.recFill
  simp

@[simp ↓] theorem acceptRecord_inOrder (s : State) (stamp code cell : Nat) (body : List Word) (named : List Nat) :
    (s.acceptRecord stamp code cell body named).InOrder ↔ s.InOrder := by
  unfold State.acceptRecord
  simp

@[simp ↓] theorem setBucket_inOrder (s : State) (key : Nat) (b : Bucket) : (s.setBucket key b).InOrder ↔ s.InOrder := Iff.rfl

@[simp ↓] theorem overflow_inOrder (s : State) : s.overflow.InOrder ↔ s.InOrder := by
  unfold State.overflow
  simp

@[simp ↓] theorem writeSystem_inOrder (s : State) (code : Nat) (body : List Word) (named : List Nat) :
    (s.writeSystem code body named).InOrder ↔ s.InOrder := by
  unfold State.writeSystem
  simp

@[simp ↓] theorem summarise_inOrder (s : State) (key : Nat) : (s.summarise key).InOrder ↔ s.InOrder := by
  unfold State.summarise
  simp

@[simp ↓] theorem suppress_inOrder (s : State) (e : Event) : (s.suppress e).InOrder ↔ s.InOrder := by
  unfold State.suppress
  simp

@[simp ↓] theorem dropEvent_inOrder (s : State) (e : Event) (size : Nat) : (s.dropEvent e size).InOrder ↔ s.InOrder := by
  unfold State.dropEvent
  simp

@[simp ↓] theorem stage_inOrder (s : State) (e : Event) : (s.stage e).InOrder ↔ s.InOrder := by
  unfold State.stage
  simp

@[simp ↓] theorem limit_inOrder (s : State) (e : Event) : (s.limit e).InOrder ↔ s.InOrder := by
  unfold State.limit
  simp

theorem execEventAccept_inOrder {s : State} (ho : s.InOrder) : OutInOrder (execEventAccept s) := by
  unfold execEventAccept
  split
  · simp [ho]
  · split <;> simp [ho]

theorem execTokenBucketTick_inOrder {s : State} (ho : s.InOrder) (key : Nat) : OutInOrder (execTokenBucketTick key s) := by
  unfold execTokenBucketTick
  dsimp only
  split <;> simp [ho]

@[simp ↓] theorem refillRange_inOrder (s : State) (range : Nat) : (s.refillRange range).InOrder ↔ s.InOrder := by
  unfold State.refillRange
  simp

theorem execRecOverflow_inOrder {s : State} (ho : s.InOrder) : OutInOrder (execRecOverflow s) := by
  unfold execRecOverflow
  simp [ho]

theorem execLogGroupRelease_inOrder {s : State} (ho : s.InOrder) : OutInOrder (execLogGroupRelease s) := by
  unfold execLogGroupRelease
  split
  · simp [ho]
  · split <;> simp [ho]

@[simp ↓] theorem writeMarker_inOrder (s : State) (clean : Bool) : (s.writeMarker clean).InOrder ↔ s.InOrder := by
  unfold State.writeMarker
  simp

@[simp ↓] theorem releaseStaged_inOrder (s : State) : s.releaseStaged.InOrder ↔ s.InOrder := by
  unfold State.releaseStaged
  simp

@[simp ↓] theorem startFlush_inOrder (s : State) (why : FlushWhy) : (s.startFlush why).InOrder ↔ s.InOrder := by
  unfold State.startFlush
  simp

@[simp ↓] theorem acceptAll_inOrder (n : Nat) (s : State) : (State.acceptAll n s).InOrder ↔ s.InOrder := by
  induction n generalizing s with
  | zero => rfl
  | succ n ih =>
    unfold State.acceptAll
    split
    · rfl
    · rw [ih]
      simp

@[simp ↓] theorem flushOn_inOrder (s : State) (why : FlushWhy) : (s.flushOn why).InOrder ↔ s.InOrder := by
  unfold State.flushOn
  dsimp only
  split <;> simp

@[simp ↓] theorem flushRecord_inOrder (s : State) : s.flushRecord.InOrder ↔ s.InOrder := by
  unfold State.flushRecord
  simp

@[simp ↓] theorem endFlush_inOrder (s : State) (why : FlushWhy) : (s.endFlush why).InOrder ↔ s.InOrder := by
  unfold State.endFlush
  simp

@[simp ↓] theorem showWear_inOrder (s : State) : s.showWear.InOrder ↔ s.InOrder := by
  unfold State.showWear
  simp

@[simp ↓] theorem holdLimit_inOrder (s : State) : s.holdLimit.InOrder ↔ s.InOrder := by
  unfold State.holdLimit
  simp

@[simp ↓] theorem recStart_inOrder (s : State) (ticks : Nat) : (s.recStart ticks).InOrder ↔ s.InOrder := by
  unfold State.recStart
  simp

@[simp ↓] theorem recDtbStep_inOrder (s : State) : s.recDtbStep.InOrder ↔ s.InOrder := by
  unfold State.recDtbStep
  simp

@[simp ↓] theorem clearWindow_inOrder (s : State) (cell : Nat) : (s.clearWindow cell).InOrder ↔ s.InOrder := by
  unfold State.clearWindow
  simp

@[simp ↓] theorem putWindow_inOrder (s : State) (cell i : Nat) (ws : List Word) : (State.putWindow cell i ws s).InOrder ↔ s.InOrder := by
  induction ws generalizing s i with
  | nil => rfl
  | cons w ws ih =>
    rw [State.putWindow.eq_def]
    exact (ih ..).trans (setReg_inOrder ..)

@[simp ↓] theorem finishFill_inOrder (s : State) (cell : Nat) (f : Fill) : (s.finishFill cell f).InOrder ↔ s.InOrder := by
  unfold State.finishFill
  simp

@[simp ↓] theorem startFill_inOrder (s : State) (cell mode : Nat) : (s.startFill cell mode).InOrder ↔ s.InOrder := by
  unfold State.startFill
  simp

theorem execWindowFillComplete_inOrder {s : State} (ho : s.InOrder) (cell : Nat) : OutInOrder (execWindowFillComplete cell s) := by
  unfold execWindowFillComplete
  split <;> simp [ho]

/-! ### Sessions -/

@[simp ↓] theorem setHost_inOrder (s : State) (x : HostSt) : (s.setHost x).InOrder ↔ s.InOrder := Iff.rfl

@[simp ↓] theorem send_inOrder (s : State) (port kind : Nat) (bytes : List Byte) : (s.send port kind bytes).InOrder ↔ s.InOrder := Iff.rfl

@[simp ↓] theorem setSession_inOrder (s : State) (sid : Nat) (x : Session) : (s.setSession sid x).InOrder ↔ s.InOrder := Iff.rfl

@[simp ↓] theorem hapSend_inOrder (s : State) (link : Nat) (bytes : List Byte) : (s.hapSend link bytes).InOrder ↔ s.InOrder := by
  unfold State.hapSend
  simp

@[simp ↓] theorem hapReply_inOrder (s : State) (links : List Nat) (sid seq type result : Nat) (body : List Byte) :
    (s.hapReply links sid seq type result body).InOrder ↔ s.InOrder := by
  unfold State.hapReply
  simp

@[simp ↓] theorem waitReply_inOrder (s : State) (w : HapWait) (result : Nat) : (s.waitReply w result).InOrder ↔ s.InOrder := by
  unfold State.waitReply
  simp

@[simp ↓] theorem hapJoin_inOrder (s : State) (link sid seq : Nat) : (s.hapJoin link sid seq).InOrder ↔ s.InOrder := by
  unfold State.hapJoin
  simp

@[simp ↓] theorem failWaits_inOrder (s : State) (set : Nat) (every : Bool) : (s.failWaits set every).InOrder ↔ s.InOrder := by
  unfold State.failWaits
  simp

@[simp ↓] theorem endWaits_inOrder (s : State) (set : Nat) : (s.endWaits set).InOrder ↔ s.InOrder := by
  unfold State.endWaits
  simp

/-! ### Cell stores -/

@[simp ↓] theorem setNvSet_inOrder (s : State) (n : Nat) (x : NvSet) : (s.setNvSet n x).InOrder ↔ s.InOrder := by
  unfold State.setNvSet
  simp

@[simp ↓] theorem storeReq_inOrder (s : State) (n : Nat) : (s.storeReq n).InOrder ↔ s.InOrder := by
  unfold State.storeReq
  simp

@[simp ↓] theorem dropNew_inOrder (s : State) (n : Nat) (m : SMap Word) : (s.dropNew n m).InOrder ↔ s.InOrder := by
  unfold State.dropNew
  simp

@[simp ↓] theorem dropCorr_inOrder (s : State) : s.dropCorr.InOrder ↔ s.InOrder := by
  unfold State.dropCorr
  simp

@[simp ↓] theorem storeFail_inOrder {s : State} (ho : s.InOrder) (n step : Nat) : (s.storeFail n step).InOrder := by
  unfold State.storeFail
  simp [ho]

@[simp ↓] theorem storeRefused_inOrder {s : State} (ho : s.InOrder) (n step : Nat) : (s.storeRefused n step).InOrder := by
  unfold State.storeRefused
  simp [ho]

@[simp ↓] theorem storeStart_inOrder {s : State} (ho : s.InOrder) (n fail : Nat) : (s.storeStart n fail).InOrder := by
  unfold State.storeStart
  simp [ho]

@[simp ↓] theorem takeNew_inOrder (s : State) (n : Nat) (m : SMap Word) : (s.takeNew n m).InOrder ↔ s.InOrder := by
  unfold State.takeNew
  simp

@[simp ↓] theorem storeDropped_inOrder {s : State} (ho : s.InOrder) (n : Nat) : (s.storeDropped n).InOrder := by
  unfold State.storeDropped
  simp [ho]

@[simp ↓] theorem storeUndone_inOrder {s : State} (ho : s.InOrder) (n : Nat) : (s.storeUndone n).InOrder := by
  unfold State.storeUndone
  simp [ho]

@[simp ↓] theorem storeCommit_inOrder (s : State) (n : Nat) : (s.storeCommit n).InOrder ↔ s.InOrder := by
  unfold State.storeCommit
  dsimp only
  split <;> simp

@[simp ↓] theorem decideSet_inOrder (s : State) (n : Nat) : (s.decideSet n).InOrder ↔ s.InOrder := by
  unfold State.decideSet
  dsimp only
  split <;> simp

@[simp ↓] theorem loadSet_inOrder {s : State} (ho : s.InOrder) (n : Nat) : (s.loadSet n).InOrder := by
  unfold State.loadSet
  exact filter_shd_inOrder (s := { s with act := _ }) ho _

@[simp ↓] theorem abandonStores_inOrder {s : State} (ho : s.InOrder) : s.abandonStores.InOrder := by
  unfold State.abandonStores
  refine foldl_inOrder ho fun s n _ ho => ?_
  simp [ho]

/-! ### Loops -/

@[simp ↓] theorem releaseSlot_inOrder (s : State) (n : Nat) : (s.releaseSlot n).InOrder ↔ s.InOrder := by
  unfold State.releaseSlot
  simp

@[simp ↓] theorem releaseSlots_inOrder (s : State) (L : Loop) : (s.releaseSlots L).InOrder ↔ s.InOrder := by
  unfold State.releaseSlots
  simp

@[simp ↓] theorem withdrawOuts_inOrder (s : State) (per : Nat) (outs : List Nat) : (s.withdrawOuts per outs).InOrder ↔ s.InOrder := by
  unfold State.withdrawOuts
  simp

@[simp ↓] theorem showMig_inOrder (s : State) (m : Migration) : (s.showMig m).InOrder ↔ s.InOrder := by
  unfold State.showMig
  simp

@[simp ↓] theorem migDone_inOrder {s : State} (ho : s.InOrder) (m : Migration) : (s.migDone m).InOrder := by
  unfold State.migDone
  extract_lets s1
  have h1 : s1.InOrder := by simp [s1, ho]
  clear_value s1
  refine with_loops_inOrder h1 ?_
  rw [mRising_map 0 _ fun e => by split <;> rfl]
  exact h1.1

@[simp ↓] theorem migEnded_inOrder {s : State} (ho : s.InOrder) (l : Nat) : (s.migEnded l).InOrder := by
  unfold State.migEnded
  refine foldl_inOrder ?_ fun s m _ ho => migDone_inOrder ho m
  simp [ho]

@[simp ↓] theorem freePair_inOrder (l : Nat) (s : State) (p : Nat) : (State.freePair l s p).InOrder ↔ s.InOrder := by
  unfold State.freePair
  simp

@[simp ↓] theorem leavePair_inOrder {s : State} (ho : s.InOrder) (l : Nat) (L : Loop) : (s.leavePair l L).InOrder := by
  unfold State.leavePair
  simp [ho]

@[simp ↓] theorem periodEnd_inOrder {s : State} (ho : s.InOrder) (l : Nat) : (s.periodEnd l).InOrder := by
  unfold State.periodEnd
  simp [ho]

@[simp ↓] theorem suspendLoop_inOrder {s : State} (ho : s.InOrder) (l : Nat) : (s.suspendLoop l).InOrder := by
  unfold State.suspendLoop
  simp [ho]

@[simp ↓] theorem placerTrap_inOrder {s : State} (ho : s.InOrder) (l : Nat) : (s.placerTrap l).InOrder := by
  unfold State.placerTrap
  simp [ho]

@[simp ↓] theorem takeTrap_inOrder {s : State} (ho : s.InOrder) (l : Nat) (t : Trap) (dl : Bool) (word : Word) :
    (s.takeTrap l t dl word).InOrder := by
  unfold State.takeTrap
  extract_lets L L1 s1 body s2 s3
  have h1 : s1.InOrder := by simp [s1, ho]
  have h3 : s3.InOrder := by simp [s3, s2, h1]
  simp [h3]

@[simp ↓] theorem takeDeadline_inOrder {s : State} (ho : s.InOrder) (l : Nat) : (s.takeDeadline l).InOrder := by
  unfold State.takeDeadline
  simp [ho]

/-- An instruction keeps the order where its action does where it retires. -/
theorem runInstr_inOrder {s : State} (ho : s.InOrder) (l : Nat) (word : Word) (cycles : Nat) {act : State → InstrRes}
    (hact : ∀ t, act s = .ok t → t.InOrder) : (s.runInstr l word cycles act).InOrder := by
  unfold State.runInstr
  dsimp only
  split_ifs
  · exact ho
  · simp [ho]
  · simp [ho]
  · split
    · next t h => simp [hact t h]
    · simp [ho]

@[simp ↓] theorem stepLoop_inOrder {s : State} (ho : s.InOrder) (l : Nat) (f : Loop → Loop) : (s.stepLoop l f).InOrder := by
  unfold State.stepLoop
  simp [ho]

@[simp ↓] theorem compute_inOrder {s : State} (ho : s.InOrder) (l : Nat) (word : Word) (cycles : Nat) (f : Loop → Loop) :
    (s.compute l word cycles f).InOrder :=
  runInstr_inOrder ho _ _ _ fun _ h => Except.ok.inj h ▸ stepLoop_inOrder ho ..

/-! ### The field image -/

@[simp ↓] theorem setFi_inOrder (s : State) (k : Nat) (w : Word) : (s.setFi k w).InOrder ↔ s.InOrder := Iff.rfl

@[simp ↓] theorem setFis_inOrder (s : State) (k : Nat) (ws : List Word) : (s.setFis k ws).InOrder ↔ s.InOrder := by
  induction ws generalizing s k with
  | nil => rfl
  | cons w ws ih =>
    rw [State.setFis, ih]
    simp

@[simp ↓] theorem writeLine_inOrder (s : State) (k : Nat) (ws : List Word) : (s.writeLine k ws).InOrder ↔ s.InOrder := by
  unfold State.writeLine
  simp

@[simp ↓] theorem markLine_inOrder (s : State) (k cell : Nat) : (s.markLine k cell).InOrder ↔ s.InOrder := by
  unfold State.markLine
  simp

@[simp ↓] theorem eccCorrected_inOrder (s : State) (mem addr : Nat) (pair : Option Nat) :
    (s.eccCorrected mem addr pair).InOrder ↔ s.InOrder := by
  unfold State.eccCorrected
  simp

@[simp ↓] theorem fiEcc_inOrder (s : State) (k cell : Nat) (pair : Option Nat) (e : Ecc) : (s.fiEcc k cell pair e).InOrder ↔ s.InOrder := by
  unfold State.fiEcc
  split <;> simp

@[simp ↓] theorem sharedEcc_inOrder (s : State) (c a : Nat) (e : Ecc) : (s.sharedEcc c a e).InOrder ↔ s.InOrder := by
  unfold State.sharedEcc
  split <;> simp

/-! ### Access rights -/

@[simp ↓] theorem pageDenied_inOrder (s : State) (cell a : Nat) : (s.pageDenied cell a).InOrder ↔ s.InOrder := by
  unfold State.pageDenied
  simp

@[simp ↓] theorem accessTrap_inOrder {s : State} (ho : s.InOrder) (w : Who) (sub a : Nat) : (s.accessTrap w sub a).InOrder := by
  unfold State.accessTrap
  split <;> simp [ho]

@[simp ↓] theorem access_inOrder {s : State} (ho : s.InOrder) (w : Who) (a : Nat) {f : State → State} (hf : (f s).InOrder) :
    (s.access w a f).InOrder := by
  unfold State.access
  split_ifs
  · simp [ho]
  · simp [ho]
  · exact hf

/-! ### Staged pages -/

@[simp ↓] theorem commitPage_inOrder {s : State} (ho : s.InOrder) (page : Nat) : (s.commitPage page).InOrder := by
  unfold State.commitPage
  extract_lets mine s1 s2 w
  have h1 : s1.InOrder := by simp [s1, ho]
  simp [s2, filter_shd_mdel_pend_inOrder h1]

@[simp ↓] theorem discard_inOrder {s : State} (ho : s.InOrder) (page : Nat) : (s.discard page).InOrder := by
  unfold State.discard
  split
  · simp [ho]
  · simp [filter_shd_inOrder ho]

@[simp ↓] theorem writeStaged_inOrder {s : State} (ho : s.InOrder) {k : Nat} (hk : addrOf k % 0x1000 < 0xFF8) (mask : Nat) (v : Word)
    (cell : Nat) :
    (s.writeStaged k mask v cell).InOrder := by
  unfold State.writeStaged
  simp [ho, hk]

end Sys2Proof.Machine
end

section
/-! SUPPORT. The order of the state kept (R44, R45, R485, R492, R509): front end, engines and field buses. -/
namespace Sys2Proof.Machine

/-! ### The front end -/

@[simp ↓] theorem setFeChan_inOrder (s : State) (c : Nat) (x : FeChan) : (s.setFeChan c x).InOrder ↔ s.InOrder := Iff.rfl

@[simp ↓] theorem setFeIn_inOrder (s : State) (i : Nat) (x : FeInput) : (s.setFeIn i x).InOrder ↔ s.InOrder := Iff.rfl

@[simp ↓] theorem setRefState_inOrder (s : State) (r v : Nat) : (s.setRefState r v).InOrder ↔ s.InOrder := by
  unfold State.setRefState
  simp

@[simp ↓] theorem writeEntry0_inOrder (s : State) (i : Nat) (ws : List Word) : (s.writeEntry0 i ws).InOrder ↔ s.InOrder := by
  unfold State.writeEntry0
  simp

@[simp ↓] theorem writeBlank_inOrder (s : State) (i : Nat) : (s.writeBlank i).InOrder ↔ s.InOrder := by
  unfold State.writeBlank
  simp

@[simp ↓] theorem remarkEntry_inOrder (s : State) (i : Nat) (f : Nat → Nat) (value : Option Word) :
    (s.remarkEntry i f value).InOrder ↔ s.InOrder := by
  unfold State.remarkEntry
  simp

@[simp ↓] theorem startSlot_inOrder {s : State} (ho : s.InOrder) (c i : Nat) (rest : List Nat) (scanStart : Nat) :
    (s.startSlot c i rest scanStart).InOrder := by
  unfold State.startSlot
  simp [ho]

theorem execInputSlotStart_inOrder {s : State} (ho : s.InOrder) (c : Nat) : OutInOrder (execInputSlotStart c s) := by
  unfold execInputSlotStart
  dsimp only
  split
  · simp [ho]
  · split
    · simp [ho]
    · split
      · split <;> simp [ho]
      · split <;> simp [ho]

theorem execDielOverload_inOrder {s : State} (ho : s.InOrder) (c spot : Nat) : OutInOrder (execDielOverload c spot s) := by
  unfold execDielOverload
  dsimp only
  split
  · simp [ho]
  · split
    · simp [ho]
    · split <;> simp [ho]

theorem execTerminalOvervoltage_inOrder {s : State} (ho : s.InOrder) (c : Nat) : OutInOrder (execTerminalOvervoltage c s) := by
  unfold execTerminalOvervoltage
  dsimp only
  split <;> simp [ho]

@[simp ↓] theorem writeConversion_inOrder (s : State) (i : Nat) (sl : FeSlot) (m : FeMeas) (r : FeResult) :
    (s.writeConversion i sl m r).InOrder ↔ s.InOrder := by
  unfold State.writeConversion
  simp

@[simp ↓] theorem setCal_inOrder (s : State) (st : Nat) (res : Option Nat) (c : FeCal) : (s.setCal st res c).InOrder ↔ s.InOrder := by
  unfold State.setCal
  simp

@[simp ↓] theorem calRes_inOrder (s : State) (r : Nat) : (s.calRes r).InOrder ↔ s.InOrder := by
  unfold State.calRes
  simp

@[simp ↓] theorem calUnmark_inOrder (s : State) : s.calUnmark.InOrder ↔ s.InOrder := by
  unfold State.calUnmark
  split <;> simp

@[simp ↓] theorem calEnd_inOrder (s : State) (res : Option Nat) : (s.calEnd res).InOrder ↔ s.InOrder := by
  unfold State.calEnd
  simp

@[simp ↓] theorem calUnstore_inOrder {s : State} (ho : s.InOrder) : s.calUnstore.InOrder := by
  unfold State.calUnstore
  simp [ho]

@[simp ↓] theorem calEvent_inOrder {s : State} (ho : s.InOrder) (applies : Nat → Bool) (res : Nat) : (s.calEvent applies res).InOrder := by
  unfold State.calEvent
  split <;> simp [ho]

@[simp ↓] theorem calAbort_inOrder (s : State) : s.calAbort.InOrder ↔ s.InOrder := by
  unfold State.calAbort
  simp

@[simp ↓] theorem calSelect_inOrder (s : State) (v : Word) : (s.calSelect v).InOrder ↔ s.InOrder := by
  unfold State.calSelect
  simp

@[simp ↓] theorem calRefWrite_inOrder (s : State) (k : Nat) (v : Word) : (s.calRefWrite k v).InOrder ↔ s.InOrder := by
  unfold State.calRefWrite
  simp

@[simp ↓] theorem calPoint_inOrder (s : State) (hi : Bool) : (s.calPoint hi).InOrder ↔ s.InOrder := by
  unfold State.calPoint
  simp

@[simp ↓] theorem calSample_inOrder (s : State) (i ref : Nat) (r : FeResult) : (s.calSample i ref r).InOrder ↔ s.InOrder := by
  unfold State.calSample
  simp

theorem execCalPointDone_inOrder {s : State} (ho : s.InOrder) : OutInOrder (execCalPointDone s) := by
  unfold execCalPointDone
  dsimp only
  split
  · split <;> simp [ho]
  · simp [ho]

@[simp ↓] theorem calCommit_inOrder (s : State) : s.calCommit.InOrder ↔ s.InOrder := by
  unfold State.calCommit
  dsimp only
  split
  · simp
  · split
    · split <;> simp
    · simp

@[simp ↓] theorem feStoreFailed_inOrder (s : State) : s.feStoreFailed.InOrder ↔ s.InOrder := by
  unfold State.feStoreFailed
  simp

@[simp ↓] theorem feStoreDone_inOrder (s : State) : s.feStoreDone.InOrder ↔ s.InOrder := by
  unfold State.feStoreDone
  simp

theorem execFeCalselWrite_inOrder {s : State} (ho : s.InOrder) (w : Who) (v : Word) : OutInOrder (execFeCalselWrite w v s) := by
  unfold execFeCalselWrite
  simp [ho]

@[simp ↓] theorem calCmd_inOrder (s : State) (v : Word) : (s.calCmd v).InOrder ↔ s.InOrder := by
  unfold State.calCmd
  split <;> simp

theorem execPointlo_inOrder {s : State} (ho : s.InOrder) (w : Who) : OutInOrder (execPointlo w s) := by
  unfold execPointlo
  simp [ho]

theorem execPointhi_inOrder {s : State} (ho : s.InOrder) (w : Who) : OutInOrder (execPointhi w s) := by
  unfold execPointhi
  simp [ho]

theorem execCommit_inOrder {s : State} (ho : s.InOrder) (w : Who) : OutInOrder (execCommit w s) := by
  unfold execCommit
  simp [ho]

theorem execAbortI_inOrder {s : State} (ho : s.InOrder) (w : Who) : OutInOrder (execAbortI w s) := by
  unfold execAbortI
  simp [ho]

theorem execCalBadCmd_inOrder {s : State} (ho : s.InOrder) (w : Who) (v : Word) : OutInOrder (execCalBadCmd w v s) := by
  unfold execCalBadCmd
  split <;> simp [ho]

@[simp ↓] theorem feChannelApplied_inOrder {s : State} (ho : s.InOrder) (old : State) (c : Nat) :
    (State.feChannelApplied old s c).InOrder := by
  unfold State.feChannelApplied
  simp [ho]

@[simp ↓] theorem keepProfiles_inOrder (s : State) (q : Nat) : (s.keepProfiles q).InOrder ↔ s.InOrder := by
  unfold State.keepProfiles
  simp

@[simp ↓] theorem refFitted_inOrder (s : State) : s.refFitted.InOrder ↔ s.InOrder := by
  unfold State.refFitted
  simp

@[simp ↓] theorem refRunEnd_inOrder (s : State) (r : Nat) : (s.refRunEnd r).InOrder ↔ s.InOrder := by
  unfold State.refRunEnd
  simp

@[simp ↓] theorem suspectSlots_inOrder (s : State) : s.suspectSlots.InOrder ↔ s.InOrder := by
  unfold State.suspectSlots
  simp

@[simp ↓] theorem feCommonApplied_inOrder {s : State} (ho : s.InOrder) (old : State) : (State.feCommonApplied old s).InOrder := by
  unfold State.feCommonApplied
  simp [ho]

@[simp ↓] theorem feApplyChannel_inOrder {s : State} (ho : s.InOrder) (c : Nat) : (s.feApplyChannel c).InOrder := by
  unfold State.feApplyChannel
  simp [ho]

theorem execConversionBoundary_inOrder {s : State} (ho : s.InOrder) (c : Nat) (m : FeMeas) : OutInOrder (execConversionBoundary c m s) := by
  unfold execConversionBoundary
  dsimp only
  split
  · simp [ho]
  · split <;> simp [ho]

@[simp ↓] theorem abandonSlot_inOrder (s : State) (c : Nat) (f : Nat → Bool) : (s.abandonSlot c f).InOrder ↔ s.InOrder := by
  unfold State.abandonSlot
  dsimp only
  split <;> simp

@[simp ↓] theorem dropTodo_inOrder (s : State) (f : Nat → Bool) : (s.dropTodo f).InOrder ↔ s.InOrder := by
  unfold State.dropTodo
  simp

theorem execProbeRemoved_inOrder {s : State} (ho : s.InOrder) (n : Nat) : OutInOrder (execProbeRemoved n s) := by
  unfold execProbeRemoved
  extract_lets src s0 s1 s2 s3
  have h0 : s0.InOrder := by simp [s0, ho]
  clear_value s0
  have h2 : s2.InOrder := by simp [s2, s1, h0]
  clear_value s2
  have h3 : s3.InOrder := by simp [s3, h2]
  clear_value s3
  exact .ite (by simp [ho]) (.ite (by simp [h0]) (by simp [h3]))

theorem execProbeInserted_inOrder {s : State} (ho : s.InOrder) (n : Nat) : OutInOrder (execProbeInserted n s) := by
  unfold execProbeInserted
  extract_lets s1 s2 s3 src s4
  have h2 : s2.InOrder := by simp [s2, s1, ho]
  clear_value s2
  have h3 : s3.InOrder := by simp [s3, h2]
  clear_value s3
  have h4 : s4.InOrder := by simp [s4, h3]
  exact .ite (by simp [ho]) (by simp [h4])

@[simp ↓] theorem feShed_inOrder {s : State} (ho : s.InOrder) : s.feShed.InOrder := by
  unfold State.feShed
  simp [ho]

@[simp ↓] theorem feRestore_inOrder (s : State) : s.feRestore.InOrder ↔ s.InOrder := by
  unfold State.feRestore
  simp

@[simp ↓] theorem refSwitch_inOrder {s : State} (ho : s.InOrder) (v : Nat → Nat) (old new : Nat) : (s.refSwitch v old new).InOrder := by
  unfold State.refSwitch
  simp [ho]

@[simp ↓] theorem refDisagree_inOrder (s : State) : s.refDisagree.InOrder ↔ s.InOrder := by
  unfold State.refDisagree
  simp

@[simp ↓] theorem refOff_inOrder {s : State} (ho : s.InOrder) (v : Nat → Nat) (r : Nat) : (s.refOff v r).InOrder := by
  unfold State.refOff
  extract_lets n s1 s2
  have h2 : s2.InOrder := by simp [s2, s1, ho]
  split
  · exact h2
  · split <;> simp [h2]

@[simp ↓] theorem refRecover_inOrder (s : State) (v : Nat → Nat) : (s.refRecover v).InOrder ↔ s.InOrder := by
  unfold State.refRecover
  simp

theorem execRefAverage_inOrder {s : State} (ho : s.InOrder) (va vb vx : Nat) : OutInOrder (execRefAverage va vb vx s) := by
  unfold execRefAverage
  dsimp only
  split <;> simp [ho]

theorem execRefFail_inOrder {s : State} (ho : s.InOrder) (r : Nat) (trip : Bool) (va vb vx : Nat) :
    OutInOrder (execRefFail r trip va vb vx s) := by
  unfold execRefFail
  dsimp only
  split
  · simp [ho]
  · split
    · split
      · simp [ho]
      · split <;> simp [ho]
    · split
      · simp [ho]
      · split <;> simp [ho]

@[simp ↓] theorem feStart_inOrder (s : State) : s.feStart.InOrder ↔ s.InOrder := by
  unfold State.feStart
  simp

/-! ### Engines and tags -/

@[simp ↓] theorem setCredit_inOrder (s : State) (c k : Nat) (v : Int) : (s.setCredit c k v).InOrder ↔ s.InOrder := Iff.rfl

@[simp ↓] theorem writeStatus_inOrder (s : State) (t code err : Nat) (fcast : Option Nat) (tdone : Nat) :
    (s.writeStatus t code err fcast tdone).InOrder ↔ s.InOrder := by
  unfold State.writeStatus
  simp

@[simp ↓] theorem startOn_inOrder (s : State) (e t : Nat) (rest : List Nat) : (s.startOn e t rest).InOrder ↔ s.InOrder := by
  unfold State.startOn
  simp

@[simp ↓] theorem startInternal_inOrder (s : State) (e k t : Nat) : (s.startInternal e k t).InOrder ↔ s.InOrder := by
  unfold State.startInternal
  simp

@[simp ↓] theorem grantKind_inOrder {s : State} (ho : s.InOrder) (k : Nat) : (s.grantKind k).InOrder := by
  unfold State.grantKind
  split
  · simp [ho]
  · split <;> simp [ho]

@[simp ↓] theorem writeForecasts_inOrder {s : State} (ho : s.InOrder) : s.writeForecasts.InOrder := by
  unfold State.writeForecasts
  simp [ho]

@[simp ↓] theorem refillCell_inOrder (s : State) (c : Nat) : (s.refillCell c).InOrder ↔ s.InOrder := by
  unfold State.refillCell
  simp

@[simp ↓] theorem arbitrate_inOrder {s : State} (ho : s.InOrder) : s.arbitrate.InOrder := by
  unfold State.arbitrate
  exact foldl_inOrder ho fun s k _ ho => foldl_inOrder ho fun s _ _ ho => grantKind_inOrder ho k

@[simp ↓] theorem refill_inOrder {s : State} (ho : s.InOrder) : s.refill.InOrder := by
  unfold State.refill
  extract_lets s1 src s2 w src' s3
  have h1 : s1.InOrder := foldl_inOrder ho fun s p _ ho => by
    split
    · exact .ite (commitPage_inOrder ho p) (by simp [ho])
    · exact ho
  clear_value s1
  have h2 : s2.InOrder := by simp [s2, h1]
  clear_value s2
  have h3 : s3.InOrder := by simp [s3, h2]
  simp [h3]

theorem execCreditRefill_inOrder {s : State} (ho : s.InOrder) : OutInOrder (execCreditRefill s) := by
  unfold execCreditRefill
  split <;> simp [ho]

@[simp ↓] theorem setSres_inOrder (s : State) (b res tag : Nat) : (s.setSres b res tag).InOrder ↔ s.InOrder := by
  unfold State.setSres
  simp

@[simp ↓] theorem acceptSeq_inOrder {s : State} (ho : s.InOrder) (c kind addr : Nat) (ds : List (List Word)) (ts : List Nat) :
    (s.acceptSeq c kind addr ds ts).InOrder := by
  unfold State.acceptSeq
  simp [ho]

@[simp ↓] theorem submit_inOrder {s : State} (ho : s.InOrder) (b c addr : Nat) (other : Cell → List Word → Nat) :
    (s.submit b c addr other).InOrder := by
  unfold State.submit
  simp [ho]

@[simp ↓] theorem freeTagList_inOrder (s : State) (ts : List Nat) : (s.freeTagList ts).InOrder ↔ s.InOrder := by
  unfold State.freeTagList
  simp

@[simp ↓] theorem endWaiting_inOrder (s : State) (head code : Nat) : (s.endWaiting head code).InOrder ↔ s.InOrder := by
  unfold State.endWaiting
  simp

@[simp ↓] theorem cancel_inOrder (s : State) (b c t : Nat) : (s.cancel b c t).InOrder ↔ s.InOrder := by
  unfold State.cancel
  simp

@[simp ↓] theorem undrain_inOrder (s : State) : s.undrain.InOrder ↔ s.InOrder := by
  unfold State.undrain
  simp

@[simp ↓] theorem writeFreeze_inOrder (s : State) (v : Word) : (s.writeFreeze v).InOrder ↔ s.InOrder := by
  unfold State.writeFreeze
  simp

@[simp ↓] theorem pmFreeze_inOrder (s : State) (e : Nat) (b : Bool) : (s.pmFreeze e b).InOrder ↔ s.InOrder := by
  unfold State.pmFreeze
  simp

@[simp ↓] theorem shedKind_inOrder (s : State) (k : Nat) : (s.shedKind k).InOrder ↔ s.InOrder := by
  unfold State.shedKind
  simp

@[simp ↓] theorem shedDrained_inOrder (s : State) : s.shedDrained.InOrder ↔ s.InOrder := by
  unfold State.shedDrained
  simp

theorem execEngineDrained_inOrder {s : State} (ho : s.InOrder) (e : Nat) : OutInOrder (execEngineDrained e s) := by
  unfold execEngineDrained
  dsimp only
  split <;> simp [ho]

@[simp ↓] theorem unshedKind_inOrder (s : State) (k : Nat) : (s.unshedKind k).InOrder ↔ s.InOrder := by
  unfold State.unshedKind
  simp

@[simp ↓] theorem withdraw_inOrder (s : State) (c : Nat) : (s.withdraw c).InOrder ↔ s.InOrder := by
  unfold State.withdraw
  simp

@[simp ↓] theorem zeroCredits_inOrder (s : State) (c : Nat) : (s.zeroCredits c).InOrder ↔ s.InOrder := by
  unfold State.zeroCredits
  simp

@[simp ↓] theorem ranWith_inOrder (s : State) (t err : Nat) : (s.ranWith t err).InOrder ↔ s.InOrder := by
  unfold State.ranWith
  simp

@[simp ↓] theorem dmaWrite_inOrder (s : State) (t addr : Nat) (ws : List (Word × Bool)) : (s.dmaWrite t addr ws).InOrder ↔ s.InOrder := by
  unfold State.dmaWrite
  simp

@[simp ↓] theorem sourceEcc_inOrder (s : State) (c lo n : Nat) (es : List (Nat × Ecc)) : (s.sourceEcc c lo n es).InOrder ↔ s.InOrder := by
  unfold State.sourceEcc
  refine foldl_inOrder_iff _ _ _ fun s e => ?_
  split
  · simp
  · split
    · rfl
    · split <;> simp

@[simp ↓] theorem dmaUncorrectable_inOrder (s : State) (c a : Nat) : (s.dmaUncorrectable c a).InOrder ↔ s.InOrder := by
  unfold State.dmaUncorrectable
  simp

theorem execXferCopy_inOrder {s : State} (ho : s.InOrder) (t : TagReads) : OutInOrder (execXferCopy t s) := by
  unfold execXferCopy
  split
  · simp [ho]
  · dsimp only
    split <;> simp [ho]

theorem execXferFill_inOrder {s : State} (ho : s.InOrder) (t : Nat) : OutInOrder (execXferFill t s) := by
  unfold execXferFill
  dsimp only
  split <;> simp [ho]

@[simp ↓] theorem addBusy_inOrder (s : State) (k ns : Nat) : (s.addBusy k ns).InOrder ↔ s.InOrder := by
  unfold State.addBusy
  simp

@[simp ↓] theorem drained_inOrder (s : State) (c inc before : Nat) : (s.drained c inc before).InOrder ↔ s.InOrder := by
  unfold State.drained
  simp

@[simp ↓] theorem endRunning_inOrder (s : State) (e t code err : Nat) : (s.endRunning e t code err).InOrder ↔ s.InOrder := by
  unfold State.endRunning
  extract_lets x eng before s1 s2 s3 s4 s' s5
  have h4 : s4.InOrder ↔ s.InOrder := by simp [s4, s3, s2, s1]
  have h5 : s5.InOrder ↔ s.InOrder := by
    simp only [s5]
    split
    · simp [s', h4]
    · split <;> simp [h4]
  split <;> simp [h5]

theorem execEngineResetEnd_inOrder {s : State} (ho : s.InOrder) (e : Nat) : OutInOrder (execEngineResetEnd e s) := by
  unfold execEngineResetEnd
  split <;> simp [ho]

/-! ### Trunks -/

@[simp ↓] theorem setTrunk_inOrder (s : State) (n : Nat) (x : Trunk) : (s.setTrunk n x).InOrder ↔ s.InOrder := Iff.rfl

@[simp ↓] theorem txReturn_inOrder (s : State) (n e st reason tsof : Nat) : (s.txReturn n e st reason tsof).InOrder ↔ s.InOrder := by
  unfold State.txReturn
  simp

@[simp ↓] theorem txQueue1_inOrder (n : Nat) (s : State) (e : Nat) : (State.txQueue1 n s e).InOrder ↔ s.InOrder := by
  unfold State.txQueue1
  simp

@[simp ↓] theorem latTxq_inOrder (s : State) (n : Nat) (v : Word) : (s.latTxq n v).InOrder ↔ s.InOrder := by
  unfold State.latTxq
  simp

@[simp ↓] theorem txCancel1_inOrder (n : Nat) (s : State) (e : Nat) : (State.txCancel1 n s e).InOrder ↔ s.InOrder := by
  unfold State.txCancel1
  simp

@[simp ↓] theorem latTxcan_inOrder (s : State) (n : Nat) (v : Word) : (s.latTxcan n v).InOrder ↔ s.InOrder := by
  unfold State.latTxcan
  simp

@[simp ↓] theorem latTxWrite_inOrder (s : State) (n i : Nat) (v : Word) : (s.latTxWrite n i v).InOrder ↔ s.InOrder := by
  unfold State.latTxWrite
  simp

theorem execLatTxqWrite_inOrder {s : State} (ho : s.InOrder) (w : Who) (n : Nat) (v : Word) : OutInOrder (execLatTxqWrite w n v s) := by
  unfold execLatTxqWrite
  split <;> simp [ho]

theorem execLatTxcanWrite_inOrder {s : State} (ho : s.InOrder) (w : Who) (n : Nat) (v : Word) : OutInOrder (execLatTxcanWrite w n v s) := by
  unfold execLatTxcanWrite
  split <;> simp [ho]

@[simp ↓] theorem setRegs_inOrder (s : State) (k : Nat) (ws : List Word) : (s.setRegs k ws).InOrder ↔ s.InOrder := by
  induction ws generalizing s k with
  | nil => rfl
  | cons w ws ih =>
    rw [State.setRegs, ih]
    simp

@[simp ↓] theorem latReceive_inOrder (s : State) (n : Nat) (f : LatFrame) (own : Bool) : (s.latReceive n f own).InOrder ↔ s.InOrder := by
  unfold State.latReceive
  split
  · simp
  · dsimp only
    split_ifs <;> simp

@[simp ↓] theorem latRxack_inOrder (s : State) (n : Nat) (v : Word) : (s.latRxack n v).InOrder ↔ s.InOrder := by
  unfold State.latRxack
  simp

theorem execLatRxackWrite_inOrder {s : State} (ho : s.InOrder) (w : Who) (n : Nat) (v : Word) : OutInOrder (execLatRxackWrite w n v s) := by
  unfold execLatRxackWrite
  split <;> simp [ho]

@[simp ↓] theorem latCounts_inOrder (s : State) (n tec rec : Nat) : (s.latCounts n tec rec).InOrder ↔ s.InOrder := by
  unfold State.latCounts
  simp

@[simp ↓] theorem latPick_inOrder (s : State) (n : Nat) : (s.latPick n).InOrder ↔ s.InOrder := by
  unfold State.latPick
  dsimp only
  split
  · simp
  · split
    · simp
    · split
      · simp
      · split <;> simp

@[simp ↓] theorem sweepClosed_inOrder (s : State) (n why : Nat) : (s.sweepClosed n why).InOrder ↔ s.InOrder := by
  unfold State.sweepClosed
  simp

@[simp ↓] theorem latAbandon_inOrder (s : State) (n : Nat) : (s.latAbandon n).InOrder ↔ s.InOrder := by
  unfold State.latAbandon
  simp

@[simp ↓] theorem latUnschedule_inOrder (s : State) (n : Nat) : (s.latUnschedule n).InOrder ↔ s.InOrder := by
  unfold State.latUnschedule
  simp

@[simp ↓] theorem latBusOff_inOrder (s : State) (n : Nat) : (s.latBusOff n).InOrder ↔ s.InOrder := by
  unfold State.latBusOff
  simp

theorem execFrameSelection_inOrder {s : State} (ho : s.InOrder) (n : Nat) : OutInOrder (execFrameSelection n s) := by
  unfold execFrameSelection
  dsimp only
  split
  · simp [ho]
  · split <;> simp [ho]

@[simp ↓] theorem latAttempt_inOrder (s : State) (n : Nat) : (s.latAttempt n).InOrder ↔ s.InOrder := by
  unfold State.latAttempt
  dsimp only
  split <;> simp

@[simp ↓] theorem latLost_inOrder (s : State) (n : Nat) : (s.latLost n).InOrder ↔ s.InOrder := by
  unfold State.latLost
  split <;> simp

theorem execTxEntryReturn_inOrder {s : State} (ho : s.InOrder) (n : Nat) : OutInOrder (execTxEntryReturn n s) := by
  unfold execTxEntryReturn
  simp [ho]

@[simp ↓] theorem latWire_inOrder (s : State) (n f : Nat) (on : Bool) : (s.latWire n f on).InOrder ↔ s.InOrder := by
  unfold State.latWire
  simp

@[simp ↓] theorem latAcked_inOrder (s : State) (n : Nat) (acked : Bool) : (s.latAcked n acked).InOrder ↔ s.InOrder := by
  unfold State.latAcked
  simp

@[simp ↓] theorem latSent_inOrder (s : State) (n : Nat) (f : LatFrame) : (s.latSent n f).InOrder ↔ s.InOrder := by
  unfold State.latSent
  simp

theorem execTimeFrameDue_inOrder {s : State} (ho : s.InOrder) (n : Nat) : OutInOrder (execTimeFrameDue n s) := by
  unfold execTimeFrameDue
  dsimp only
  split <;> simp [ho]

theorem execTime_inOrder {s : State} (ho : s.InOrder) (n sof : Nat) : OutInOrder (execTime n sof s) := by
  unfold execTime
  dsimp only
  split <;> simp [ho]

theorem execCensus_inOrder {s : State} (ho : s.InOrder) (n sof : Nat) : OutInOrder (execCensus n sof s) := by
  unfold execCensus
  dsimp only
  split <;> simp [ho]

theorem execSweepOpen_inOrder {s : State} (ho : s.InOrder) (n sof : Nat) : OutInOrder (execSweepOpen n sof s) := by
  unfold execSweepOpen
  extract_lets x num
  split
  · extract_lets s1 src s2 s3 s4
    have h2 : s2.InOrder := by simp [s2, s1, ho]
    clear_value s2
    have h3 : s3.InOrder := (setRegs_inOrder ..).mpr h2
    clear_value s3
    simp [s4, h3]
  · simp [ho]

@[simp ↓] theorem closeSweep_inOrder (s : State) (n why : Nat) : (s.closeSweep n why).InOrder ↔ s.InOrder := by
  unfold State.closeSweep
  dsimp only
  split <;> simp

theorem execSweepDrained_inOrder {s : State} (ho : s.InOrder) (n : Nat) : OutInOrder (execSweepDrained n s) := by
  unfold execSweepDrained
  simp [ho]

theorem execSweepTimeLimit_inOrder {s : State} (ho : s.InOrder) (n : Nat) : OutInOrder (execSweepTimeLimit n s) := by
  unfold execSweepTimeLimit
  split
  · split <;> simp [ho]
  · simp [ho]

theorem execSweepClose_inOrder {s : State} (ho : s.InOrder) (n sof : Nat) : OutInOrder (execSweepClose n sof s) := by
  unfold execSweepClose
  dsimp only
  split <;> simp [ho]

@[simp ↓] theorem txDone_inOrder (s : State) (n e sof : Nat) : (s.txDone n e sof).InOrder ↔ s.InOrder := by
  unfold State.txDone
  simp

theorem execRate_inOrder {s : State} (ho : s.InOrder) (n sof : Nat) : OutInOrder (execRate n sof s) := by
  unfold execRate
  dsimp only
  split <;> simp [ho]

theorem execNodeCmd_inOrder {s : State} (ho : s.InOrder) (n sof : Nat) : OutInOrder (execNodeCmd n sof s) := by
  unfold execNodeCmd
  split <;> simp [ho]

theorem execPrivateI_inOrder {s : State} (ho : s.InOrder) (n sof : Nat) : OutInOrder (execPrivateI n sof s) := by
  unfold execPrivateI
  split <;> simp [ho]

theorem execQuietIntervalEnd_inOrder {s : State} (ho : s.InOrder) (n : Nat) : OutInOrder (execQuietIntervalEnd n s) := by
  unfold execQuietIntervalEnd
  split <;> simp [ho]

@[simp ↓] theorem nodeHistory_inOrder (s : State) (a latch t64 moist : Nat) (tv mv : Bool) :
    (s.nodeHistory a latch t64 moist tv mv).InOrder ↔ s.InOrder := by
  unfold State.nodeHistory
  simp

@[simp ↓] theorem nodeMax_inOrder (s : State) (a latch : Nat) (temp moist : Option Word) (cen swp abs : Nat) :
    (s.nodeMax a latch temp moist cen swp abs).InOrder ↔ s.InOrder := by
  unfold State.nodeMax
  simp

@[simp ↓] theorem nodeWrite_inOrder {s : State} (ho : s.InOrder) (trunk node raw src latch m : Nat) (sweep unsync hist : Bool) :
    (s.nodeWrite trunk node raw src latch m sweep unsync hist).InOrder := by
  unfold State.nodeWrite
  simp [ho]

@[simp ↓] theorem nodeAbsent_inOrder {s : State} (ho : s.InOrder) (trunk node src latch : Nat) (hist : Bool) :
    (s.nodeAbsent trunk node src latch hist).InOrder := by
  unfold State.nodeAbsent
  simp [ho]

@[simp ↓] theorem latStray_inOrder (s : State) (n : Nat) : (s.latStray n).InOrder ↔ s.InOrder := by
  unfold State.latStray
  simp

@[simp ↓] theorem latGood_inOrder (s : State) (n : Nat) (f : LatFrame) : (s.latGood n f).InOrder ↔ s.InOrder := by
  unfold State.latGood
  simp

@[simp ↓] theorem sweepReport_inOrder {s : State} (ho : s.InOrder) (n : Nat) (f : LatFrame) (wet : Bool) :
    (s.sweepReport n f wet).InOrder := by
  unfold State.sweepReport
  dsimp only
  split
  · simp [ho]
  · split_ifs <;> simp [ho]

theorem execHot_inOrder {s : State} (ho : s.InOrder) (n : Nat) (w : RxBits) : OutInOrder (execHot n w s) := by
  unfold execHot
  split <;> simp [ho]

theorem execWet_inOrder {s : State} (ho : s.InOrder) (n : Nat) (w : RxBits) : OutInOrder (execWet n w s) := by
  unfold execWet
  split <;> simp [ho]

@[simp ↓] theorem censusRecord_inOrder {s : State} (ho : s.InOrder) (n latch num : Nat) (p : Nat × Nat) :
    (State.censusRecord n latch num s p).InOrder := by
  unfold State.censusRecord
  simp [ho]

theorem execCensusBatch_inOrder {s : State} (ho : s.InOrder) (n : Nat) (w : RxBits) : OutInOrder (execCensusBatch n w s) := by
  unfold execCensusBatch
  -- `latGood` is kept opaque under an equation: the kernel would else compute with it.
  obtain ⟨good, hgood⟩ : ∃ g, State.latGood = g := ⟨_, rfl⟩
  rw [hgood]
  split
  · simp [ho]
  · next f _ =>
    have h1 : (good s n f).InOrder := hgood ▸ (latGood_inOrder s n f).mpr ho
    extract_lets s1 x first
    replace h1 : s1.InOrder := h1
    clear_value s1 first
    split
    · simp [h1]
    · exact next_inOrder.mpr (foldl_inOrder (by simp [h1]) fun s i _ ho => censusRecord_inOrder ho ..)

theorem execJstat_inOrder {s : State} (ho : s.InOrder) (n : Nat) (w : RxBits) : OutInOrder (execJstat n w s) := by
  unfold execJstat
  -- `latGood` is kept opaque under an equation: the kernel would else compute with it.
  obtain ⟨good, hgood⟩ : ∃ g, State.latGood = g := ⟨_, rfl⟩
  rw [hgood]
  split
  · simp [ho]
  · next f _ =>
    have h1 : (good s n f).InOrder := hgood ▸ (latGood_inOrder s n f).mpr ho
    extract_lets s1 x j k stamp v s2
    replace h1 : s1.InOrder := h1
    clear_value s1
    have h2 : s2.InOrder := by simp [s2, h1]
    clear_value s2
    refine .ite ?_ (.ite (by simp [h1]) (by simp [h1]))
    split
    · simp [h1]
    · exact .ite (by simp [h1]) (by simp [h2])

theorem execReply_inOrder {s : State} (ho : s.InOrder) (n : Nat) (w : RxBits) : OutInOrder (execReply n w s) := by
  unfold execReply
  split <;> simp [ho]

theorem execPrivateReceived_inOrder {s : State} (ho : s.InOrder) (n : Nat) (w : RxBits) : OutInOrder (execPrivateReceived n w s) := by
  unfold execPrivateReceived
  split <;> simp [ho]

@[simp ↓] theorem nodeJmiss_inOrder (n : Nat) (s : State) (node : Nat) : (State.nodeJmiss n s node).InOrder ↔ s.InOrder := by
  unfold State.nodeJmiss
  simp

@[simp ↓] theorem junctionMiss_inOrder (n : Nat) (s : State) (j : Nat) : (State.junctionMiss n s j).InOrder ↔ s.InOrder := by
  unfold State.junctionMiss
  simp

@[simp ↓] theorem censusDone_inOrder (s : State) : s.censusDone.InOrder ↔ s.InOrder := by
  unfold State.censusDone
  simp

theorem execCensusEnd_inOrder {s : State} (ho : s.InOrder) (n : Nat) (idle : Bool) : OutInOrder (execCensusEnd n idle s) := by
  unfold execCensusEnd
  extract_lets x
  split
  · simp [ho]
  · extract_lets range missing quiet s1 w s2 src s3
    have h2 : s2.InOrder := by simp [s2, s1, ho]
    clear_value s2
    exact .ite (by simp [ho]) (by simp [s3, h2])

theorem execCensusDue_inOrder {s : State} (ho : s.InOrder) (n : Nat) : OutInOrder (execCensusDue n s) := by
  unfold execCensusDue
  dsimp only
  split <;> simp [ho]

theorem execAlarmSweepDue_inOrder {s : State} (ho : s.InOrder) (n : Nat) : OutInOrder (execAlarmSweepDue n s) := by
  unfold execAlarmSweepDue
  dsimp only
  split <;> simp [ho]

@[simp ↓] theorem latCollide_inOrder (s : State) (n : Nat) (head : Option (Nat × Nat)) : (s.latCollide n head).InOrder ↔ s.InOrder := by
  unfold State.latCollide
  split <;> simp

theorem execBusError_inOrder {s : State} (ho : s.InOrder) (n : Nat) (e : LatError) : OutInOrder (execBusError n e s) := by
  unfold execBusError
  dsimp only
  split <;> simp [ho]

@[simp ↓] theorem latRecover_inOrder (s : State) (n : Nat) : (s.latRecover n).InOrder ↔ s.InOrder := by
  unfold State.latRecover
  simp

theorem execRecover_inOrder {s : State} (ho : s.InOrder) (w : Who) (n : Nat) : OutInOrder (execRecover w n s) := by
  unfold execRecover
  split <;> simp [ho]

theorem execLatBusoffEnd_inOrder {s : State} (ho : s.InOrder) (n : Nat) : OutInOrder (execLatBusoffEnd n s) := by
  unfold execLatBusoffEnd
  dsimp only
  split <;> simp [ho]

theorem execLatWireFault_inOrder {s : State} (ho : s.InOrder) (n f : Nat) : OutInOrder (execLatWireFault n f s) := by
  unfold execLatWireFault
  dsimp only
  split <;> simp [ho]

theorem execLatWireOk_inOrder {s : State} (ho : s.InOrder) (n f : Nat) : OutInOrder (execLatWireOk n f s) := by
  unfold execLatWireOk
  split <;> simp [ho]

theorem execSweep_inOrder {s : State} (ho : s.InOrder) (t : Nat) : OutInOrder (execSweep t s) := by
  unfold execSweep
  split
  · simp [ho]
  · dsimp only
    split <;> simp [ho]

theorem execCensusRequest_inOrder {s : State} (ho : s.InOrder) (t : Nat) : OutInOrder (execCensusRequest t s) := by
  unfold execCensusRequest
  split
  · simp [ho]
  · dsimp only
    split <;> simp [ho]

theorem execLine_inOrder {s' : State} (ho : s'.InOrder) (t : TagReads) : OutInOrder (execLine t s') := by
  unfold execLine
  split
  · simp [ho]
  · dsimp only
    split <;> simp [ho]

@[simp ↓] theorem txCancelAll_inOrder (s : State) (n reason : Nat) : (s.txCancelAll n reason).InOrder ↔ s.InOrder := by
  unfold State.txCancelAll
  simp

@[simp ↓] theorem latApplied_inOrder (old s : State) (n : Nat) : (State.latApplied old s n).InOrder ↔ s.InOrder := by
  unfold State.latApplied
  extract_lets a1 a2 a3 src b1 b2 src' s1 x s2 per y
  have ha : a3.InOrder ↔ s.InOrder := by simp [a3, a2, a1]
  clear_value a3
  have hb : b2.InOrder ↔ s.InOrder := by simp [b2, b1]
  clear_value b2
  have h1 : s1.InOrder ↔ s.InOrder := by simp [s1, ha, hb]
  clear_value s1
  have h2 : s2.InOrder ↔ s.InOrder := by simp [s2, h1]
  clear_value s2
  simp [h2]

@[simp ↓] theorem latShed_inOrder (s : State) : s.latShed.InOrder ↔ s.InOrder := by
  unfold State.latShed
  simp

@[simp ↓] theorem latRestore_inOrder (s : State) : s.latRestore.InOrder ↔ s.InOrder := by
  unfold State.latRestore
  simp

@[simp ↓] theorem latStepped_inOrder (s : State) : s.latStepped.InOrder ↔ s.InOrder := by
  unfold State.latStepped
  simp

@[simp ↓] theorem latStart_inOrder (s : State) : s.latStart.InOrder ↔ s.InOrder := by
  unfold State.latStart
  simp

/-! ### CAN ports -/

@[simp ↓] theorem setPort_inOrder (s : State) (n : Nat) (x : CanPort) : (s.setPort n x).InOrder ↔ s.InOrder := Iff.rfl

@[simp ↓] theorem canResult_inOrder (s : State) (n b r : Nat) : (s.canResult n b r).InOrder ↔ s.InOrder := by
  unfold State.canResult
  simp

@[simp ↓] theorem canReturn_inOrder (s : State) (n b r : Nat) : (s.canReturn n b r).InOrder ↔ s.InOrder := by
  unfold State.canReturn
  simp

@[simp ↓] theorem canPick_inOrder (s : State) (n : Nat) : (s.canPick n).InOrder ↔ s.InOrder := by
  unfold State.canPick
  simp

@[simp ↓] theorem canRequest1_inOrder (n : Nat) (s : State) (b : Nat) : (State.canRequest1 n s b).InOrder ↔ s.InOrder := by
  unfold State.canRequest1
  simp

@[simp ↓] theorem canRequest_inOrder (s : State) (n : Nat) (v : Word) : (s.canRequest n v).InOrder ↔ s.InOrder := by
  unfold State.canRequest
  simp

@[simp ↓] theorem canCancel1_inOrder (n : Nat) (s : State) (b : Nat) : (State.canCancel1 n s b).InOrder ↔ s.InOrder := by
  unfold State.canCancel1
  simp

@[simp ↓] theorem canCancel_inOrder (s : State) (n : Nat) (v : Word) : (s.canCancel n v).InOrder ↔ s.InOrder := by
  unfold State.canCancel
  simp

@[simp ↓] theorem canTxcmd_inOrder (s : State) (n : Nat) (v : Word) : (s.canTxcmd n v).InOrder ↔ s.InOrder := by
  unfold State.canTxcmd
  simp

@[simp ↓] theorem canTxWrite_inOrder (s : State) (n b w : Nat) (v : Word) : (s.canTxWrite n b w v).InOrder ↔ s.InOrder := by
  unfold State.canTxWrite
  simp

theorem execCanTxRequest_inOrder {s : State} (ho : s.InOrder) (w : Who) (n : Nat) (v : Word) : OutInOrder (execCanTxRequest w n v s) := by
  unfold execCanTxRequest
  split <;> simp [ho]

theorem execCanTxCancel_inOrder {s : State} (ho : s.InOrder) (w : Who) (n : Nat) (v : Word) : OutInOrder (execCanTxCancel w n v s) := by
  unfold execCanTxCancel
  split <;> simp [ho]

@[simp ↓] theorem canAccept_inOrder (s : State) (n : Nat) (f : CanFrame) (own : Bool) : (s.canAccept n f own).InOrder ↔ s.InOrder := by
  unfold State.canAccept
  split
  · simp
  · dsimp only
    split_ifs <;> simp

@[simp ↓] theorem canRelease_inOrder (s : State) (n : Nat) : (s.canRelease n).InOrder ↔ s.InOrder := by
  unfold State.canRelease
  simp

theorem execCanRxrel_inOrder {s : State} (ho : s.InOrder) (w : Who) (n : Nat) : OutInOrder (execCanRxrel w n s) := by
  unfold execCanRxrel
  split <;> simp [ho]

@[simp ↓] theorem canCounts_inOrder (s : State) (n tec rec : Nat) : (s.canCounts n tec rec).InOrder ↔ s.InOrder := by
  unfold State.canCounts
  simp

@[simp ↓] theorem canLost_inOrder (s : State) (n : Nat) : (s.canLost n).InOrder ↔ s.InOrder := by
  unfold State.canLost
  split <;> simp

@[simp ↓] theorem canYield_inOrder (s : State) (n sof : Nat) : (s.canYield n sof).InOrder ↔ s.InOrder := by
  unfold State.canYield
  split
  · simp
  · dsimp only
    split
    · simp
    · split <;> simp

@[simp ↓] theorem canWire_inOrder (s : State) (n f : Nat) (on : Bool) : (s.canWire n f on).InOrder ↔ s.InOrder := by
  unfold State.canWire
  simp

@[simp ↓] theorem canAcked_inOrder (s : State) (n : Nat) (acked : Bool) : (s.canAcked n acked).InOrder ↔ s.InOrder := by
  unfold State.canAcked
  simp

theorem execCanFrameReceived_inOrder {s : State} (ho : s.InOrder) (n : Nat) (f : CanFrame) : OutInOrder (execCanFrameReceived n f s) := by
  unfold execCanFrameReceived
  dsimp only
  split <;> simp [ho]

theorem execCanFrameSent_inOrder {s : State} (ho : s.InOrder) (n sof : Nat) : OutInOrder (execCanFrameSent n sof s) := by
  unfold execCanFrameSent
  dsimp only
  split <;> simp [ho]

theorem execCanPortError_inOrder {s : State} (ho : s.InOrder) (n : Nat) (e : PortError) : OutInOrder (execCanPortError n e s) := by
  unfold execCanPortError
  dsimp only
  split <;> simp [ho]

theorem execCanBusoff_inOrder {s : State} (ho : s.InOrder) (n : Nat) : OutInOrder (execCanBusoff n s) := by
  unfold execCanBusoff
  dsimp only
  split <;> simp [ho]

@[simp ↓] theorem canRecover_inOrder (s : State) (n : Nat) : (s.canRecover n).InOrder ↔ s.InOrder := by
  unfold State.canRecover
  simp

theorem execCanRecover_inOrder {s : State} (ho : s.InOrder) (w : Who) (n : Nat) : OutInOrder (execCanRecover w n s) := by
  unfold execCanRecover
  split <;> simp [ho]

theorem execCanBusoffEnd_inOrder {s : State} (ho : s.InOrder) (n : Nat) : OutInOrder (execCanBusoffEnd n s) := by
  unfold execCanBusoffEnd
  dsimp only
  split <;> simp [ho]

theorem execCanWireFault_inOrder {s : State} (ho : s.InOrder) (n f : Nat) : OutInOrder (execCanWireFault n f s) := by
  unfold execCanWireFault
  split <;> simp [ho]

theorem execCanWireOk_inOrder {s : State} (ho : s.InOrder) (n f : Nat) : OutInOrder (execCanWireOk n f s) := by
  unfold execCanWireOk
  split <;> simp [ho]

@[simp ↓] theorem canApplied_inOrder (old s : State) (n : Nat) : (State.canApplied old s n).InOrder ↔ s.InOrder := by
  unfold State.canApplied
  simp

@[simp ↓] theorem canStart_inOrder (s : State) : s.canStart.InOrder ↔ s.InOrder := by
  unfold State.canStart
  simp

end Sys2Proof.Machine
end

section
/-! SUPPORT. The order of the state kept (R44, R45, R485, R492, R509): loops, laws and outputs. -/
namespace Sys2Proof.Machine

/-! ### Branches, traps and waits -/

theorem jump_inOrder {s t : State} (ho : s.InOrder) {l target : Nat} {link : Option Reg} (h : s.jump l target link = .ok t) :
    t.InOrder := by
  unfold State.jump at h
  dsimp only at h
  split_ifs at h
  cases h
  simp [ho]

@[simp ↓] theorem branch_inOrder {s : State} (ho : s.InOrder) (l : Nat) (word : Word) (off : BitVec 15) (cond : Loop → Bool) :
    (s.branch l word off cond).InOrder := runInstr_inOrder ho _ _ _ fun t h => by
    split at h
    · exact jump_inOrder ho h
    · exact Except.ok.inj h ▸ stepLoop_inOrder ho ..

theorem execBeq_inOrder {s : State} (ho : s.InOrder) (l : Nat) (a b : Reg) (off : BitVec 15) : OutInOrder (execBeq l a b off s) := by
  unfold execBeq
  simp [ho]

theorem execBne_inOrder {s : State} (ho : s.InOrder) (l : Nat) (a b : Reg) (off : BitVec 15) : OutInOrder (execBne l a b off s) := by
  unfold execBne
  simp [ho]

theorem execBlt_inOrder {s : State} (ho : s.InOrder) (l : Nat) (a b : Reg) (off : BitVec 15) : OutInOrder (execBlt l a b off s) := by
  unfold execBlt
  simp [ho]

theorem execBge_inOrder {s : State} (ho : s.InOrder) (l : Nat) (a b : Reg) (off : BitVec 15) : OutInOrder (execBge l a b off s) := by
  unfold execBge
  simp [ho]

theorem execBltu_inOrder {s : State} (ho : s.InOrder) (l : Nat) (a b : Reg) (off : BitVec 15) : OutInOrder (execBltu l a b off s) := by
  unfold execBltu
  simp [ho]

theorem execBgeu_inOrder {s : State} (ho : s.InOrder) (l : Nat) (a b : Reg) (off : BitVec 15) : OutInOrder (execBgeu l a b off s) := by
  unfold execBgeu
  simp [ho]

theorem execBfs_inOrder {s : State} (ho : s.InOrder) (l : Nat) (n : BitVec 5) (off : BitVec 15) : OutInOrder (execBfs l n off s) := by
  unfold execBfs
  simp [ho]

theorem execBfc_inOrder {s : State} (ho : s.InOrder) (l : Nat) (n : BitVec 5) (off : BitVec 15) : OutInOrder (execBfc l n off s) := by
  unfold execBfc
  simp [ho]

theorem execJal_inOrder {s : State} (ho : s.InOrder) (l : Nat) (d : Reg) (off : BitVec 20) : OutInOrder (execJal l d off s) :=
  next_inOrder.mpr (runInstr_inOrder ho _ _ _ fun _ h => jump_inOrder ho h)

theorem execJalr_inOrder {s : State} (ho : s.InOrder) (l : Nat) (d a : Reg) (imm : BitVec 15) : OutInOrder (execJalr l d a imm s) :=
  next_inOrder.mpr (runInstr_inOrder ho _ _ _ fun _ h => jump_inOrder ho h)

theorem execNop_inOrder {s : State} (ho : s.InOrder) (l : Nat) : OutInOrder (execNop l s) := by
  unfold execNop
  simp [ho]

theorem execTrap_inOrder {s : State} (ho : s.InOrder) (l : Nat) (n : BitVec 5) : OutInOrder (execTrap l n s) :=
  next_inOrder.mpr (runInstr_inOrder ho _ _ _ fun _ h => nomatch h)

theorem execMfs_inOrder {s : State} (ho : s.InOrder) (l : Nat) (d : Reg) (sel : BitVec 5) : OutInOrder (execMfs l d sel s) := by
  refine next_inOrder.mpr (runInstr_inOrder ho _ _ _ fun t h => ?_)
  split at h
  · cases h
  · exact Except.ok.inj h ▸ stepLoop_inOrder ho ..

theorem execMtf_inOrder {s : State} (ho : s.InOrder) (l : Nat) (a : Reg) : OutInOrder (execMtf l a s) := by
  unfold execMtf
  simp [ho]

theorem execIllegalInstruction_inOrder {s : State} (ho : s.InOrder) (l : Nat) (word : Word) :
    OutInOrder (execIllegalInstruction l word s) :=
  .ite (next_inOrder.mpr ho) (next_inOrder.mpr (runInstr_inOrder ho _ _ _ fun _ h => nomatch h))

theorem execDeadlineTrap_inOrder {s : State} (ho : s.InOrder) (l : Nat) : OutInOrder (execDeadlineTrap l s) := by
  unfold execDeadlineTrap
  split <;> simp [ho]

theorem execWait_inOrder {s : State} (ho : s.InOrder) (l : Nat) (d : Reg) : OutInOrder (execWait l d s) :=
  next_inOrder.mpr (runInstr_inOrder ho _ _ _ fun _ h => Except.ok.inj h ▸ setLoop_inOrder ho ..)

@[simp ↓] theorem retireWait_inOrder {s : State} (ho : s.InOrder) (l : Nat) : (s.retireWait l).InOrder := by
  unfold State.retireWait
  extract_lets L L1
  have h1 : (s.setLoop l L1).InOrder := setLoop_inOrder ho ..
  simp [h1]

theorem execWaitRetire_inOrder {s : State} (ho : s.InOrder) (l : Nat) : OutInOrder (execWaitRetire l s) := by
  unfold execWaitRetire
  dsimp only
  split
  · simp [ho]
  · split
    · simp [ho]
    · split <;> simp [ho]

/-! ### Law instructions -/

@[simp ↓] theorem law_inOrder {s : State} (ho : s.InOrder) (l : Nat) (word : Word) (cycles : Nat) (f : Loop → Except Trap Loop) :
    (s.law l word cycles f).InOrder := runInstr_inOrder ho _ _ _ fun t h => by
    split at h
    · cases h
    · exact Except.ok.inj h ▸ stepLoop_inOrder ho ..

theorem execClmp_inOrder {s : State} (ho : s.InOrder) (l : Nat) (d a b c : Reg) : OutInOrder (execClmp l d a b c s) := by
  unfold execClmp
  simp [ho]

theorem execPids_inOrder {s : State} (ho : s.InOrder) (l : Nat) (d a b c : Reg) (m : BitVec 5) : OutInOrder (execPids l d a b c m s) := by
  unfold execPids
  simp [ho]

theorem execMins_inOrder {s : State} (ho : s.InOrder) (l : Nat) (d a : Reg) : OutInOrder (execMins l d a s) := by
  unfold execMins
  dsimp only
  split <;> simp [ho]

theorem execIntf_inOrder {s : State} (ho : s.InOrder) (l : Nat) (d a b c : Reg) : OutInOrder (execIntf l d a b c s) := by
  unfold execIntf
  simp [ho]

theorem execSched_inOrder {s : State} (ho : s.InOrder) (l : Nat) (d a b c : Reg) : OutInOrder (execSched l d a b c s) := by
  unfold execSched
  dsimp only
  split <;> simp [ho]

theorem execSlew_inOrder {s : State} (ho : s.InOrder) (l : Nat) (d a b : Reg) (m : Bool) : OutInOrder (execSlew l d a b m s) := by
  unfold execSlew
  dsimp only
  split <;> simp [ho]

theorem execPlaus_inOrder {s : State} (ho : s.InOrder) (l : Nat) (d a b c : Reg) : OutInOrder (execPlaus l d a b c s) := by
  unfold execPlaus
  simp [ho]

/-! ### Columns -/

@[simp ↓] theorem setColumn_inOrder (s : State) (d : Nat) (x : Col) : (s.setColumn d x).InOrder ↔ s.InOrder := Iff.rfl

@[simp ↓] theorem writeLinesOf_inOrder (s : State) (d : Nat) (x : Col) (off : Bool) : (s.writeLinesOf d x off).InOrder ↔ s.InOrder := by
  unfold State.writeLinesOf
  simp

@[simp ↓] theorem writeColumn_inOrder (s : State) (d : Nat) (off : Bool) : (s.writeColumn d off).InOrder ↔ s.InOrder := by
  unfold State.writeColumn
  simp

@[simp ↓] theorem colStatus_inOrder (s : State) (d : Nat) : (s.colStatus d).InOrder ↔ s.InOrder := by
  unfold State.colStatus
  simp

@[simp ↓] theorem colState_inOrder (s : State) (d new : Nat) : (s.colState d new).InOrder ↔ s.InOrder := by
  unfold State.colState
  simp

@[simp ↓] theorem colVerdicts_inOrder (s : State) (d : Nat) (judge : Bool) (rs : List (Option Word)) :
    (s.colVerdicts d judge rs).InOrder ↔ s.InOrder := by
  unfold State.colVerdicts
  simp

@[simp ↓] theorem colInit_inOrder (s : State) (d : Nat) : (s.colInit d).InOrder ↔ s.InOrder := by
  unfold State.colInit
  simp

@[simp ↓] theorem colAdvance_inOrder {s : State} (ho : s.InOrder) (d upd : Nat) : (s.colAdvance d upd).InOrder := by
  unfold State.colAdvance
  simp [ho]

@[simp ↓] theorem colHoldUpdate_inOrder (s : State) (d upd : Nat) : (s.colHoldUpdate d upd).InOrder ↔ s.InOrder := by
  unfold State.colHoldUpdate
  simp

@[simp ↓] theorem colUpdate_inOrder {s : State} (ho : s.InOrder) (d upd : Nat) : (s.colUpdate d upd).InOrder := by
  unfold State.colUpdate
  simp [ho]

@[simp ↓] theorem colApplied_inOrder (old s : State) (d : Nat) : (State.colApplied old s d).InOrder ↔ s.InOrder := by
  unfold State.colApplied
  simp

@[simp ↓] theorem colApplyPage_inOrder {s : State} (ho : s.InOrder) (d page : Nat) : (s.colApplyPage d page).InOrder := by
  unfold State.colApplyPage
  simp [ho]

theorem execColumnUpdate_inOrder {s : State} (ho : s.InOrder) (us : Nat) : OutInOrder (execColumnUpdate us s) := by
  unfold execColumnUpdate
  extract_lets upd src s0 s1 s2
  refine .ite (next_inOrder.mpr ho) ?_
  have h0 : s0.InOrder := by simp [s0, ho]
  clear_value s0
  have h1 : s1.InOrder := foldl_inOrder h0 fun s d _ ho => by simp [ho]
  clear_value s1
  have h2 : s2.InOrder := foldl_inOrder h1 fun s d _ ho => by simp [ho]
  clear_value s2
  simp [h2]

@[simp ↓] theorem colInputWrite_inOrder (s : State) (d x : Nat) (v : Word) : (s.colInputWrite d x v).InOrder ↔ s.InOrder := by
  unfold State.colInputWrite
  simp

theorem execColumnInputWrite_inOrder {s : State} (ho : s.InOrder) (w : Who) (d x : Nat) (v : Word) :
    OutInOrder (execColumnInputWrite w d x v s) := by
  unfold execColumnInputWrite
  split <;> simp [ho]

@[simp ↓] theorem colShed_inOrder (s : State) : s.colShed.InOrder ↔ s.InOrder := by
  unfold State.colShed
  simp

@[simp ↓] theorem colRestore_inOrder (s : State) : s.colRestore.InOrder ↔ s.InOrder := by
  unfold State.colRestore
  simp

@[simp ↓] theorem colStart_inOrder (s : State) : s.colStart.InOrder ↔ s.InOrder := by
  unfold State.colStart
  simp

@[simp ↓] theorem colStoreDone_inOrder (s : State) : s.colStoreDone.InOrder ↔ s.InOrder := by
  unfold State.colStoreDone
  simp

theorem execPredict_inOrder {s : State} (ho : s.InOrder) (t : Nat) : OutInOrder (execPredict t s) := by
  unfold execPredict
  split
  · simp [ho]
  · dsimp only
    split <;> simp [ho]

/-! ### Solenoid drivers -/

@[simp ↓] theorem setSvk_inOrder (s : State) (b : Nat) (x : SvBank) : (s.setSvk b x).InOrder ↔ s.InOrder := Iff.rfl

@[simp ↓] theorem svGo_inOrder (s : State) (n st : Nat) : (s.svGo n st).InOrder ↔ s.InOrder := by
  unfold State.svGo
  simp

@[simp ↓] theorem svFlag_inOrder (s : State) (n i : Nat) : (s.svFlag n i).InOrder ↔ s.InOrder := by
  unfold State.svFlag
  simp

@[simp ↓] theorem svCom_inOrder (s : State) : s.svCom.InOrder ↔ s.InOrder := by
  unfold State.svCom
  simp

@[simp ↓] theorem svStartPull_inOrder {s : State} (ho : s.InOrder) {n : Nat} (hn : n < 24) : (s.svStartPull n).InOrder := by
  unfold State.svStartPull
  simp [ho, hn]

@[simp ↓] theorem svPend_inOrder (s : State) (n : Nat) : (s.svPend n).InOrder ↔ s.InOrder := by
  unfold State.svPend
  extract_lets s1 src
  have h1 : s1.InOrder ↔ s.InOrder := by simp [s1]
  clear_value s1
  simp [src, h1]

theorem foldl_pick {f : Option Nat → Nat → Option Nat} {p : Nat → Prop} {l : List Nat} (hf : ∀ b n, f b n = some n ∨ f b n = b)
    (hl : ∀ n ∈ l, p n) {b : Option Nat} (hb : ∀ n, b = some n → p n) {n : Nat} (h : l.foldl f b = some n) : p n := by
  induction l generalizing b with
  | nil => exact hb n h
  | cons m l ih =>
    refine ih (fun k hk => hl k (List.mem_cons_of_mem _ hk)) (fun k hk => ?_) h
    rcases hf b m with he | he
    · exact Option.some.inj (he.symm.trans hk) ▸ hl m List.mem_cons_self
    · exact hb k (he.symm.trans hk)

theorem svNext_lt {s : State} {n : Nat} (h : s.svNext = some n) : n < 24 := by
  refine foldl_pick (p := (· < 24)) (b := none) (fun b n => ?_) (fun n hn => ?_) (fun _ h => nomatch h) h
  · split
    · exact .inl rfl
    · split
      · exact .inl rfl
      · exact .inr rfl
  · exact List.mem_range.mp (List.mem_of_mem_filter hn)

@[simp ↓] theorem svStartAll_inOrder {s : State} (ho : s.InOrder) : s.svStartAll.InOrder := by
  unfold State.svStartAll
  refine foldl_inOrder ho fun s _ _ ho => ?_
  split
  · next n h => simp [ho, svNext_lt h]
  · exact ho

@[simp ↓] theorem svAsk_inOrder {s : State} (ho : s.InOrder) (l : List Nat) : (s.svAsk l).InOrder := by
  unfold State.svAsk
  simp [ho]

@[simp ↓] theorem svPassed_inOrder {s : State} (ho : s.InOrder) {n : Nat} (hn : n < 24) : (s.svPassed n).InOrder := by
  unfold State.svPassed
  simp [ho, hn]

@[simp ↓] theorem svDrop_inOrder {s : State} (ho : s.InOrder) {n : Nat} (hn : n < 24) (st : Nat) : (s.svDrop n st).InOrder := by
  unfold State.svDrop
  simp [ho, hn]

theorem execPullInStart_inOrder {s : State} (ho : s.InOrder) (n : Nat) : OutInOrder (execPullInStart n s) := by
  unfold execPullInStart
  refine next_inOrder.mpr ?_
  split
  · next h => simp [ho, svNext_lt h]
  · exact ho

@[simp ↓] theorem svUnlatch_inOrder (s : State) (n : Nat) : (s.svUnlatch n).InOrder ↔ s.InOrder := by
  unfold State.svUnlatch
  simp

@[simp ↓] theorem svTurnOns_inOrder {s : State} (ho : s.InOrder) (l : List Nat) : (s.svTurnOns l).InOrder := by
  unfold State.svTurnOns
  simp [ho]

@[simp ↓] theorem svTurnOn_inOrder {s : State} (ho : s.InOrder) (n : Nat) : (s.svTurnOn n).InOrder := by
  unfold State.svTurnOn
  simp [ho]

@[simp ↓] theorem svOnCommand_inOrder {s : State} (ho : s.InOrder) {n : Nat} (hn : n < 24) : (s.svOnCommand n).InOrder := by
  unfold State.svOnCommand
  extract_lets c shorted s1
  have h1 : s1.InOrder := by simp [s1, ho, hn]
  clear_value s1
  simp [ho, hn, h1]

@[simp ↓] theorem svCommand_inOrder {s : State} (ho : s.InOrder) {n : Nat} (hn : n < 24) (v : Word) : (s.svCommand n v).InOrder := by
  unfold State.svCommand
  simp [ho, hn]

@[simp ↓] theorem svRelease_inOrder {s : State} (ho : s.InOrder) {n : Nat} (hn : n < 24) : (s.svRelease n).InOrder := by
  unfold State.svRelease
  extract_lets c
  split_ifs <;> simp [ho, hn]

theorem execSvHoldEnd_inOrder {s : State} (ho : s.InOrder) (n : Nat) : OutInOrder (execSvHoldEnd n s) := by
  unfold execSvHoldEnd
  split
  · next h => simp [ho, h.1]
  · simp [ho]

@[simp ↓] theorem svNoMove_inOrder {s : State} (ho : s.InOrder) {n : Nat} (hn : n < 24) : (s.svNoMove n).InOrder := by
  unfold State.svNoMove
  simp [ho, hn]

theorem execSvMovementDip_inOrder {s : State} (ho : s.InOrder) (n t i : Nat) : OutInOrder (execSvMovementDip n t i s) := by
  unfold execSvMovementDip
  extract_lets c s0 c0 th s1 s2
  refine .guard ho fun hn => ?_
  have h0 : s0.InOrder := by simp [s0, ho, hn]
  clear_value s0
  have h2 : s2.InOrder := by simp [s2, s1, h0, hn]
  clear_value s2
  refine .ite (by simp [h0, hn]) (.ite (by simp [h0]) (.ite (by simp [h2]) (by simp [h0, hn])))

theorem execPullInEnd_inOrder {s : State} (ho : s.InOrder) (n i : Nat) : OutInOrder (execPullInEnd n i s) := by
  unfold execPullInEnd
  refine .guard ho fun hn => ?_
  extract_lets c s1 s2
  have h1 : s1.InOrder := by simp [s1, ho, hn]
  clear_value s1
  have h2 : s2.InOrder := by simp [s2, h1, hn]
  simp [h2]

theorem svLead_lt {s : State} {n : Nat} (hn : n < 24) : s.svLead n < 24 := by
  unfold State.svLead
  split <;> omega

theorem execSvShort_inOrder {s : State} (ho : s.InOrder) (m : Nat) (check : Bool) : OutInOrder (execSvShort m check s) := by
  unfold execSvShort
  extract_lets n s0 c fails d src s1 s2
  refine .guard ho fun hm => ?_
  have hn : n < 24 := svLead_lt hm
  have h0 : s0.InOrder := by simp [s0, ho, hn]
  clear_value s0 fails n
  have hd : d.InOrder := by simp [d, h0, hn]
  clear_value d
  have h2 : s2.InOrder := by simp [s2, s1, hd, hn]
  clear_value s2
  exact .ite (by simp [h2, hn]) (by simp [h2, hn])

/-- A channel that the module does not have waits for no retry. -/
theorem svc_waitTill_of_le {s : State} (ho : s.InOrder) {n : Nat} (hn : 24 ≤ n) : (s.svc n).waitTill = none := by
  obtain ⟨-, -, -, -, -, hsv, -⟩ := ho
  rw [State.svc, mget_of_keys_lt _ hsv hn]
  rfl

theorem execSvShortRetry_inOrder {s : State} (ho : s.InOrder) (n : Nat) : OutInOrder (execSvShortRetry n s) := by
  unfold execSvShortRetry
  extract_lets c s1
  split
  · simp [ho]
  · next t ht =>
    have hn : n < 24 := Nat.lt_of_not_le fun h => by simp [c, svc_waitTill_of_le ho h] at ht
    have h1 : s1.InOrder := by simp [s1, ho, hn]
    clear_value s1
    exact .ite (by simp [ho]) (by simp [h1])

@[simp ↓] theorem svClear_inOrder {s : State} (ho : s.InOrder) {n : Nat} (hn : n < 24) : (s.svClear n).InOrder := by
  unfold State.svClear
  simp [ho, hn]

theorem execSvClear_inOrder {s : State} (ho : s.InOrder) (w : Who) (n : Nat) : OutInOrder (execSvClear w n s) := by
  unfold execSvClear
  split
  · simp [ho]
  · next hn => exact next_inOrder.mpr (access_inOrder ho _ _ (svClear_inOrder ho (Nat.lt_of_not_le hn)))

theorem execCoilModelStep_inOrder {s : State} (ho : s.InOrder) (n : Nat) (i2 : Word) : OutInOrder (execCoilModelStep n i2 s) := by
  unfold execCoilModelStep
  extract_lets rth tb c tc0 t r p g dt tc s1 trip s2
  refine .guard ho fun hn => ?_
  have h1 : s1.InOrder := by simp [s1, ho, hn]
  clear_value s1
  have h2 : s2.InOrder := by simp [s2, h1, hn]
  clear_value s2
  exact .ite (by simp [h1]) (by simp [h2, hn])

theorem execSvOverload_inOrder {s : State} (ho : s.InOrder) (n : Nat) (ms : Word) : OutInOrder (execSvOverload n ms s) := by
  unfold execSvOverload
  extract_lets limit s1 src
  refine .guard ho fun hn => ?_
  have h1 : s1.InOrder := by simp [s1, ho, hn]
  clear_value s1
  simp [h1, hn]

theorem svOfBank_lt {b n : Nat} (hb : b < 4) (hn : n ∈ svOfBank b) : n < 24 := by
  simp only [svOfBank, List.mem_cons, List.not_mem_nil, or_false] at hn
  omega

@[simp ↓] theorem svBankDark_inOrder {s : State} (ho : s.InOrder) {b : Nat} (hb : b < 4) : (s.svBankDark b).InOrder := by
  unfold State.svBankDark
  refine (setRegB_inOrder ..).mpr (foldl_inOrder ho fun s n hn ho => ?_)
  simp [ho, svOfBank_lt hb hn]

@[simp ↓] theorem svBack_inOrder {s : State} (ho : s.InOrder) {banks : List Nat} (hb : ∀ b ∈ banks, b < 4) : (s.svBack banks).InOrder := by
  unfold State.svBack
  extract_lets all s1 again back
  have h1 : s1.InOrder := by simp [s1, ho]
  refine svAsk_inOrder (foldl_inOrder h1 fun s n hn ho => ?_) back
  obtain ⟨l, hl, hnl⟩ := List.mem_flatten.mp (List.mem_of_mem_filter hn)
  obtain ⟨b, hbs, rfl⟩ := List.mem_map.mp hl
  simp [ho, svOfBank_lt (hb b hbs) hnl]

@[simp ↓] theorem svBankFault_inOrder {s : State} (ho : s.InOrder) {b : Nat} (hb : b < 4) (ground : Bool) (nextTry : Nat) :
    (s.svBankFault b ground nextTry).InOrder := by
  unfold State.svBankFault
  simp [ho, hb]

@[simp ↓] theorem svTest_inOrder (b : Nat) (low : List Nat) (leak : Bool) {s : State} (ho : s.InOrder) {n : Nat} (hn : n < 24) :
    (State.svTest b low leak s n).InOrder := by
  unfold State.svTest
  extract_lets c s1 s2
  have h1 : s1.InOrder := by simp [s1, ho, hn]
  have h2 : s2.InOrder := by simp [s2, ho, hn]
  clear_value s1 s2
  simp [ho, hn, h1, h2]

theorem svTested_inOrder {s t : State} (ho : t.InOrder) {b : Nat} (hb : b < 4) (low : List Nat) (leak : Bool) :
    ((s.svTested b).foldl (State.svTest b low leak) t).InOrder :=
  foldl_inOrder ho fun _ _ hn ho => svTest_inOrder b low leak ho (svOfBank_lt hb (List.mem_of_mem_filter hn))

@[simp ↓] theorem svTestBank_inOrder {s : State} (ho : s.InOrder) {b : Nat} (hb : b < 4) (low : List Nat) (leak : Bool) :
    (s.svTestBank b low leak).InOrder := by
  unfold State.svTestBank
  extract_lets s1
  have h1 : s1.InOrder := svTested_inOrder ho hb low leak
  clear_value s1
  split <;> simp [h1, hb]

@[simp ↓] theorem svIcom_inOrder (s : State) (b hs : Nat) : (s.svIcom b hs).InOrder ↔ s.InOrder := by
  unfold State.svIcom
  simp

theorem execBankTest_inOrder {s : State} (ho : s.InOrder) (b hs : Nat) (cur low : List Nat) : OutInOrder (execBankTest b hs cur low s) := by
  unfold execBankTest
  split
  · simp [ho]
  · next hb =>
    extract_lets s1 s2
    have h2 : s2.InOrder := by simp [s2, s1, ho]
    clear_value s2
    simp [h2, Nat.lt_of_not_le hb]

@[simp ↓] theorem svBankOk_inOrder {s : State} (ho : s.InOrder) {b : Nat} (hb : b < 4) : (s.svBankOk b).InOrder := by
  unfold State.svBankOk
  refine svBack_inOrder (by simp [ho]) fun c hc => ?_
  rw [List.mem_singleton.mp hc]
  exact hb

theorem execBankRetest_inOrder {s : State} (ho : s.InOrder) (b hs : Nat) (low : List Nat) : OutInOrder (execBankRetest b hs low s) := by
  unfold execBankRetest
  extract_lets k leak s1
  refine .guard ho fun hb => ?_
  have h1 : s1.InOrder := svTested_inOrder (by simp [ho]) hb low leak
  clear_value s1
  refine .ite (next_inOrder.mpr (svBankOk_inOrder (foldl_inOrder h1 fun s n hn ho => ?_) hb)) (by simp [h1])
  simp [ho, svOfBank_lt hb hn]

@[simp ↓] theorem svBankTrip_inOrder {s : State} (ho : s.InOrder) {b : Nat} (hb : b < 4) (hs fails : Nat) :
    (s.svBankTrip b hs fails).InOrder := by
  unfold State.svBankTrip
  extract_lets k s1 s2
  have h2 : s2.InOrder := by simp [s2, s1, ho, hb]
  simp [h2]

theorem execSvBankOff_inOrder {s : State} (ho : s.InOrder) (b hs : Nat) : OutInOrder (execSvBankOff b hs s) := by
  unfold execSvBankOff
  refine next_inOrder.mpr ?_
  split
  · exact ho
  · next hb => simp [ho, Nat.lt_of_not_le fun h => hb (.inl h)]

theorem execBankRetry_inOrder {s : State} (ho : s.InOrder) (b hs : Nat) (ok : Bool) : OutInOrder (execBankRetry b hs ok s) := by
  unfold execBankRetry
  extract_lets k
  exact .guard ho fun hb => .ite (by simp [ho, hb]) (by simp [ho, hb])

@[simp ↓] theorem svBankClr_inOrder (s : State) (v : Word) : (s.svBankClr v).InOrder ↔ s.InOrder := by
  unfold State.svBankClr
  simp

theorem execBankclr_inOrder {s : State} (ho : s.InOrder) (w : Who) (v : Word) : OutInOrder (execBankclr w v s) := by
  unfold execBankclr
  simp [ho]

@[simp ↓] theorem svToField_inOrder {s : State} (ho : s.InOrder) : s.svToField.InOrder := by
  unfold State.svToField
  refine foldl_inOrder ho fun s n hn ho => ?_
  simp [ho, List.mem_range.mp hn]

@[simp ↓] theorem railTo_inOrder {s : State} (ho : s.InOrder) (st : Nat) : (s.railTo st).InOrder := by
  unfold State.railTo
  extract_lets nrdy was s1 src s2 src' s3 s4
  have h1 : s1.InOrder := by simp [s1, ho]
  clear_value s1
  have h2 : s2.InOrder := by simp [s2, src, h1]
  clear_value s2
  have h4 : s4.InOrder := by simp [s4, s3, src', h2]
  clear_value s4
  simp [h4]

@[simp ↓] theorem railVolt_inOrder (s : State) (v : Nat) : (s.railVolt v).InOrder ↔ s.InOrder := by
  unfold State.railVolt
  simp

theorem execBoostSoftStart_inOrder {s : State} (ho : s.InOrder) : OutInOrder (execBoostSoftStart s) := by
  unfold execBoostSoftStart
  split <;> simp [ho]

theorem execBoostReady_inOrder {s : State} (ho : s.InOrder) (v : Nat) : OutInOrder (execBoostReady v s) := by
  unfold execBoostReady
  split
  · simp [ho]
  · extract_lets s1 src
    have h1 : s1.InOrder := by simp [s1, ho]
    clear_value s1
    simp [src, h1]

theorem execSvBoostShort_inOrder {s : State} (ho : s.InOrder) (v : Nat) : OutInOrder (execSvBoostShort v s) := by
  unfold execSvBoostShort
  split
  · simp [ho]
  · extract_lets s1 src s2
    have h1 : s1.InOrder := by simp [s1, ho]
    clear_value s1
    have h2 : s2.InOrder := by simp [s2, src, h1]
    simp [h2]

theorem execBoostHiccupRestart_inOrder {s : State} (ho : s.InOrder) : OutInOrder (execBoostHiccupRestart s) := by
  unfold execBoostHiccupRestart
  split <;> simp [ho]

theorem execRailNotReady_inOrder {s : State} (ho : s.InOrder) (v : Nat) : OutInOrder (execRailNotReady v s) := by
  unfold execRailNotReady
  split <;> simp [ho]

@[simp ↓] theorem svShed_inOrder {s : State} (ho : s.InOrder) : s.svShed.InOrder := by
  unfold State.svShed
  simp [ho]

@[simp ↓] theorem svRestore_inOrder {s : State} (ho : s.InOrder) : s.svRestore.InOrder := by
  unfold State.svRestore
  simp [ho]

@[simp ↓] theorem svFieldLost_inOrder {s : State} (ho : s.InOrder) : s.svFieldLost.InOrder := by
  unfold State.svFieldLost
  refine railTo_inOrder (foldl_inOrder ho fun s b hb ho => svBankDark_inOrder ho ?_) _
  simp only [List.mem_cons, List.not_mem_nil, or_false] at hb
  omega

@[simp ↓] theorem svFieldBack_inOrder {s : State} (ho : s.InOrder) : s.svFieldBack.InOrder := by
  unfold State.svFieldBack
  refine svBack_inOrder ho fun b hb => ?_
  have hb := List.mem_of_mem_filter hb
  simp only [List.mem_cons, List.not_mem_nil, or_false] at hb
  omega

@[simp ↓] theorem svEnabled_inOrder {s : State} (ho : s.InOrder) (old : State) : (State.svEnabled old s).InOrder := by
  unfold State.svEnabled
  simp [ho]

@[simp ↓] theorem svApplied_inOrder (old : State) {s : State} (ho : s.InOrder) {n : Nat} (hn : n < 24) :
    (State.svApplied old s n).InOrder := by
  unfold State.svApplied
  extract_lets src s0 s1 c s2
  have h0 : s0.InOrder := by simp [s0, ho, hn]
  clear_value s0
  have h1 : s1.InOrder := by simp [s1, h0, hn]
  clear_value s1
  have h2 : s2.InOrder := by simp [s2, h0, h1, hn]
  simp [h2]

@[simp ↓] theorem svCommonApplied_inOrder {s : State} (ho : s.InOrder) (old : State) : (State.svCommonApplied old s).InOrder := by
  unfold State.svCommonApplied
  extract_lets s1 s2
  have h1 : s1.InOrder := by
    refine .ite (foldl_inOrder (foldl_inOrder ho fun s n hn ho => ?_) fun s n _ ho => by simp [ho]) ho
    simp only [List.mem_cons, List.not_mem_nil, or_false] at hn
    exact svDrop_inOrder ho (by omega) _
  clear_value s1
  have h2 : s2.InOrder := by simp [s2, h1]
  simp [h2]

@[simp ↓] theorem svKeep_inOrder (s : State) (held : List (Nat × Nat)) : (s.svKeep held).InOrder ↔ s.InOrder := by
  unfold State.svKeep
  simp

@[simp ↓] theorem svBankOffs_inOrder (s : State) : s.svBankOffs.InOrder ↔ s.InOrder := by
  unfold State.svBankOffs
  simp

@[simp ↓] theorem svStart_inOrder {s : State} (ho : s.InOrder) : s.svStart.InOrder := by
  unfold State.svStart
  extract_lets held kept s1 s2 s3
  have h1 : s1.InOrder := with_chans_inOrder ho (x := { SvSt.reset with chans := _ }) fun e he => by
    obtain ⟨d, hd, rfl⟩ := List.mem_map.mp he
    exact List.mem_map.mpr ⟨d, (List.mem_filter.mp hd).1, rfl⟩
  clear_value s1
  have h3 : s3.InOrder := by simp [s3, s2, h1]
  simp [h3]

/-! ### Fans -/

@[simp ↓] theorem setFan_inOrder (s : State) (n : Nat) (x : FanChan) : (s.setFan n x).InOrder ↔ s.InOrder := Iff.rfl

@[simp ↓] theorem fanFlag_inOrder (s : State) (n i : Nat) : (s.fanFlag n i).InOrder ↔ s.InOrder := by
  unfold State.fanFlag
  simp

@[simp ↓] theorem fanReach_inOrder (s : State) (n : Nat) (v : Option Word) : (s.fanReach n v).InOrder ↔ s.InOrder := by
  unfold State.fanReach
  simp

@[simp ↓] theorem fanCommand_inOrder (s : State) (n : Nat) (v : Word) : (s.fanCommand n v).InOrder ↔ s.InOrder := by
  unfold State.fanCommand
  simp

@[simp ↓] theorem fanRelease_inOrder (s : State) (n : Nat) : (s.fanRelease n).InOrder ↔ s.InOrder := by
  unfold State.fanRelease
  simp

@[simp ↓] theorem fanWatch_inOrder (s : State) (n : Nat) : (s.fanWatch n).InOrder ↔ s.InOrder := by
  unfold State.fanWatch
  simp

@[simp ↓] theorem fanReload_inOrder (s : State) (n : Nat) : (s.fanReload n).InOrder ↔ s.InOrder := by
  unfold State.fanReload
  simp

@[simp ↓] theorem fanGroupCheck_inOrder (s : State) (n g : Nat) : (s.fanGroupCheck n g).InOrder ↔ s.InOrder := by
  unfold State.fanGroupCheck
  simp

@[simp ↓] theorem fanApplied_inOrder (old s : State) (n : Nat) : (State.fanApplied old s n).InOrder ↔ s.InOrder := by
  unfold State.fanApplied
  simp

theorem execFanReload_inOrder {s : State} (ho : s.InOrder) (n : Nat) (fb : Word) : OutInOrder (execFanReload n fb s) := by
  unfold execFanReload
  dsimp only
  split <;> simp [ho]

theorem execFanFail_inOrder {s : State} (ho : s.InOrder) (n : Nat) : OutInOrder (execFanFail n s) := by
  unfold execFanFail
  dsimp only
  split
  · simp [ho]
  · split <;> simp [ho]

@[simp ↓] theorem fanGood_inOrder (s : State) (n : Nat) : (s.fanGood n).InOrder ↔ s.InOrder := by
  unfold State.fanGood
  simp

theorem execFanOk_inOrder {s : State} (ho : s.InOrder) (n : Nat) : OutInOrder (execFanOk n s) := by
  unfold execFanOk
  split <;> simp [ho]

theorem execFanFailKick_inOrder {s : State} (ho : s.InOrder) (n : Nat) : OutInOrder (execFanFailKick n s) := by
  unfold execFanFailKick
  dsimp only
  split <;> simp [ho]

@[simp ↓] theorem fanClear_inOrder (s : State) (n : Nat) : (s.fanClear n).InOrder ↔ s.InOrder := by
  unfold State.fanClear
  simp

theorem execFanClear_inOrder {s : State} (ho : s.InOrder) (w : Who) (n : Nat) : OutInOrder (execFanClear w n s) := by
  unfold execFanClear
  split <;> simp [ho]

theorem execTachometerPulse_inOrder {s : State} (ho : s.InOrder) (n : Nat) : OutInOrder (execTachometerPulse n s) := by
  unfold execTachometerPulse
  dsimp only
  split <;> simp [ho]

theorem execFanTsSample_inOrder {s : State} (ho : s.InOrder) (n : Nat) (t : Word) : OutInOrder (execFanTsSample n t s) := by
  unfold execFanTsSample
  dsimp only
  split <;> simp [ho]

theorem execFanOutFault_inOrder {s : State} (ho : s.InOrder) (n : Nat) : OutInOrder (execFanOutFault n s) := by
  unfold execFanOutFault
  dsimp only
  split <;> simp [ho]

theorem execFanOutRetry_inOrder {s : State} (ho : s.InOrder) (n : Nat) : OutInOrder (execFanOutRetry n s) := by
  unfold execFanOutRetry
  dsimp only
  split <;> simp [ho]

theorem execFanSupFault_inOrder {s : State} (ho : s.InOrder) (n : Nat) : OutInOrder (execFanSupFault n s) := by
  unfold execFanSupFault
  split <;> simp [ho]

theorem execFanSupRetry_inOrder {s : State} (ho : s.InOrder) (n : Nat) : OutInOrder (execFanSupRetry n s) := by
  unfold execFanSupRetry
  dsimp only
  split <;> simp [ho]

theorem execFanHoldEnd_inOrder {s : State} (ho : s.InOrder) (n : Nat) : OutInOrder (execFanHoldEnd n s) := by
  unfold execFanHoldEnd
  dsimp only
  split <;> simp [ho]

@[simp ↓] theorem fanStart_inOrder (s : State) : s.fanStart.InOrder ↔ s.InOrder := by
  unfold State.fanStart
  simp

/-! ### The Key link -/

@[simp ↓] theorem setDio_inOrder (s : State) (x : DioSt) : (s.setDio x).InOrder ↔ s.InOrder := Iff.rfl

@[simp ↓] theorem setField_inOrder (s : State) (x : FieldSide) : (s.setField x).InOrder ↔ s.InOrder := Iff.rfl

@[simp ↓] theorem setFch_inOrder (s : State) (n : Nat) (c : FieldChan) : (s.setFch n c).InOrder ↔ s.InOrder := Iff.rfl

@[simp ↓] theorem ioCommand_inOrder (s : State) (n : Nat) (u : Word) : (s.ioCommand n u).InOrder ↔ s.InOrder := by
  unfold State.ioCommand
  simp

@[simp ↓] theorem ioDisown_inOrder (s : State) (n : Nat) : (s.ioDisown n).InOrder ↔ s.InOrder := by
  unfold State.ioDisown
  simp

@[simp ↓] theorem ioApplied_inOrder (old s : State) (n : Nat) : (State.ioApplied old s n).InOrder ↔ s.InOrder := by
  unfold State.ioApplied
  simp

@[simp ↓] theorem ioCommonApplied_inOrder (s : State) : s.ioCommonApplied.InOrder ↔ s.InOrder := by
  unfold State.ioCommonApplied
  simp

@[simp ↓] theorem ioApplyPage_inOrder {s : State} (ho : s.InOrder) (page : Nat) : (s.ioApplyPage page).InOrder := by
  unfold State.ioApplyPage
  simp [ho]

@[simp ↓] theorem ioShow_inOrder (s : State) : s.ioShow.InOrder ↔ s.InOrder := by
  unfold State.ioShow
  simp

theorem execKeyDownstreamFrame_inOrder {s : State} (ho : s.InOrder) : OutInOrder (execKeyDownstreamFrame s) := by
  unfold execKeyDownstreamFrame
  extract_lets s1 f d s2
  refine .ite (next_inOrder.mpr ho) ?_
  have h1 : s1.InOrder := .ite ho (foldl_inOrder ho fun s p _ ho => ioApplyPage_inOrder ho p)
  clear_value s1
  have h2 : s2.InOrder := by simp [s2, h1]
  clear_value s2
  simp [h2]

@[simp ↓] theorem endPostures_inOrder (s : State) : s.endPostures.InOrder ↔ s.InOrder := by
  unfold State.endPostures
  split
  · rfl
  · exact (emit_inOrder ..).trans (with_ctl_inOrder s rfl)

theorem execKeyFieldApply_inOrder {s : State} (ho : s.InOrder) (flips : List Nat) : OutInOrder (execKeyFieldApply flips s) := by
  unfold execKeyFieldApply
  split
  · simp [ho]
  · split
    · simp [ho]
    · dsimp only
      split <;> simp [ho]

theorem execKeyFieldLoss_inOrder {s : State} (ho : s.InOrder) : OutInOrder (execKeyFieldLoss s) := by
  unfold execKeyFieldLoss
  dsimp only
  split <;> simp [ho]

theorem execKeyReceiverSearch_inOrder {s : State} (ho : s.InOrder) (up : Bool) : OutInOrder (execKeyReceiverSearch up s) := by
  unfold execKeyReceiverSearch
  dsimp only
  split <;> simp [ho]

theorem execFieldSideStart_inOrder {s : State} (ho : s.InOrder) (v : Nat) : OutInOrder (execFieldSideStart v s) := by
  unfold execFieldSideStart
  split <;> simp [ho]

theorem execFieldSideStop_inOrder {s : State} (ho : s.InOrder) (v : Nat) : OutInOrder (execFieldSideStop v s) := by
  unfold execFieldSideStop
  split <;> simp [ho]

theorem execDioShort_inOrder {s : State} (ho : s.InOrder) (n : Nat) (check : Bool) : OutInOrder (execDioShort n check s) := by
  unfold execDioShort
  dsimp only
  split <;> simp [ho]

theorem execDioShortRetry_inOrder {s : State} (ho : s.InOrder) (n : Nat) : OutInOrder (execDioShortRetry n s) := by
  unfold execDioShortRetry
  dsimp only
  split
  · simp [ho]
  · split <;> simp [ho]

theorem execDioOpenLoadTest_inOrder {s : State} (ho : s.InOrder) (n r : Nat) : OutInOrder (execDioOpenLoadTest n r s) := by
  unfold execDioOpenLoadTest
  dsimp only
  split <;> simp [ho]

theorem execDioOt_inOrder {s : State} (ho : s.InOrder) (n : Nat) : OutInOrder (execDioOt n s) := by
  unfold execDioOt
  dsimp only
  split <;> simp [ho]

theorem execDioOtRestart_inOrder {s : State} (ho : s.InOrder) (n : Nat) : OutInOrder (execDioOtRestart n s) := by
  unfold execDioOtRestart
  dsimp only
  split <;> simp [ho]

theorem execDioHoldEnd_inOrder {s : State} (ho : s.InOrder) (n : Nat) : OutInOrder (execDioHoldEnd n s) := by
  unfold execDioHoldEnd
  dsimp only
  split
  · simp [ho]
  · split <;> simp [ho]

@[simp ↓] theorem ioClear_inOrder (s : State) (n : Nat) : (s.ioClear n).InOrder ↔ s.InOrder := by
  unfold State.ioClear
  simp

theorem execDioClear_inOrder {s : State} (ho : s.InOrder) (w : Who) (n : Nat) : OutInOrder (execDioClear w n s) := by
  unfold execDioClear
  split <;> simp [ho]

theorem execFilteredEdge_inOrder {s : State} (ho : s.InOrder) (n : Nat) (runs : List (Bool × Nat)) :
    OutInOrder (execFilteredEdge n runs s) := by
  unfold execFilteredEdge
  dsimp only
  split <;> simp [ho]

theorem execCounterGateEnd_inOrder {s : State} (ho : s.InOrder) (n : Nat) : OutInOrder (execCounterGateEnd n s) := by
  unfold execCounterGateEnd
  dsimp only
  split <;> simp [ho]

@[simp ↓] theorem ioTake_inOrder (u : UpFrame × UpValues) (at_ : Nat) (s : State) (n : Nat) :
    (State.ioTake u at_ s n).InOrder ↔ s.InOrder := by
  unfold State.ioTake
  extract_lets st new old rises s1 s2 s3 s4 g since valid
  have h3 : s3.InOrder ↔ s.InOrder := by simp [s3, s2, s1]
  clear_value s3
  have h4 : s4.InOrder ↔ s3.InOrder := foldl_inOrder_iff _ _ _ fun s e => by
    split
    · rfl
    · split <;> simp
  clear_value s4
  simp [h3, h4]

@[simp ↓] theorem setRegList_inOrder (s : State) (l : List (Nat × Word)) : (s.setRegList l).InOrder ↔ s.InOrder := by
  unfold State.setRegList
  simp

@[simp ↓] theorem keyValid_inOrder (s : State) (f : UpFrame × UpValues) : (s.keyValid f).InOrder ↔ s.InOrder := by
  unfold State.keyValid
  simp

@[simp ↓] theorem keyHeed_inOrder (start : Nat) (s : State) (x : KeyGot) : (State.keyHeed start s x).InOrder ↔ s.InOrder := by
  unfold State.keyHeed
  split <;> simp

@[simp ↓] theorem keyHear_inOrder {s : State} (ho : s.InOrder) (start : Nat) (bits : List Bool) : (s.keyHear start bits).InOrder := by
  unfold State.keyHear
  simp [ho]

theorem execKeyUpstreamFrame_inOrder {s : State} (ho : s.InOrder) (flips : List Nat) (raws : List (Nat × List (Bool × Nat)))
    (outs neg : Nat) (now : FieldAt) :
    OutInOrder (execKeyUpstreamFrame flips raws outs neg now s) := by
  unfold execKeyUpstreamFrame
  split
  · simp [ho]
  · refine .ite (by simp [ho]) ?_
    extract_lets f src s0
    have h0 : s0.InOrder := by simp [s0, ho]
    clear_value s0
    exact .ite (by simp [h0]) (by simp [h0])

theorem execDioLinkLoss_inOrder {s : State} (ho : s.InOrder) : OutInOrder (execDioLinkLoss s) := by
  unfold execDioLinkLoss
  dsimp only
  split <;> simp [ho]

@[simp ↓] theorem dioStart_inOrder (s : State) : s.dioStart.InOrder ↔ s.InOrder := by
  unfold State.dioStart
  simp

end Sys2Proof.Machine
end

section
/-! SUPPORT. The order of the state kept (R44, R45, R485, R492, R509): placement, clock of day, stored sets and supplies. -/
namespace Sys2Proof.Machine

/-! ### Plans -/

@[simp ↓] theorem pairTo_inOrder (s : State) (p code : Nat) : (s.pairTo p code).InOrder ↔ s.InOrder := by
  unfold State.pairTo
  simp

@[simp ↓] theorem pairSet_inOrder (s : State) (p code : Nat) : (s.pairSet p code).InOrder ↔ s.InOrder := by
  unfold State.pairSet
  simp

@[simp ↓] theorem standbyFill_inOrder (s : State) (n : Nat) : (s.standbyFill n).InOrder ↔ s.InOrder := by
  induction n generalizing s with
  | zero => rfl
  | succ n ih =>
    unfold State.standbyFill
    dsimp only
    split_ifs
    · split
      · rfl
      · exact (ih _).trans (pairSet_inOrder ..)
    · split
      · rfl
      · exact (ih _).trans (pairSet_inOrder ..)
    · rfl

@[simp ↓] theorem upkeep_inOrder (s : State) : s.upkeep.InOrder ↔ s.InOrder := by
  unfold State.upkeep
  simp

@[simp ↓] theorem onPair_inOrder (s : State) (p : Nat) : (s.onPair p).InOrder ↔ s.InOrder := by
  unfold State.onPair
  simp

theorem placeLoop_inOrder {s t : State} (ho : s.InOrder) {n : Nat} {L : Loop} (h : s.placeLoop n L = some t) : t.InOrder := by
  unfold State.placeLoop at h
  dsimp only at h
  split at h
  · cases h
  · split at h
    · cases h; simp [ho]
    · split at h <;> cases h
      refine (onPair_inOrder ..).mpr (setLoop_inOrder ?_ ..)
      simp [ho]

theorem placeLoops_inOrder {s t : State} (ho : s.InOrder) {ls : List (Nat × Loop)} (h : s.placeLoops ls = some t) : t.InOrder := by
  induction ls generalizing s with
  | nil => exact Option.some.inj h ▸ ho
  | cons e ls ih =>
    unfold State.placeLoops at h
    split at h
    · cases h
    · next hp => exact ih (placeLoop_inOrder ho hp) h

@[simp ↓] theorem planImage_inOrder {s : State} (ho : s.InOrder) (c : Nat) (i : Image) : ((s.planImage c i).2).InOrder := by
  unfold State.planImage
  extract_lets r ls nums
  clear_value ls nums
  split_ifs
  · exact ho
  · exact ho
  · exact ho
  · exact ho
  · split
    · exact ho
    · next h => exact placeLoops_inOrder ho h

/-! ### Boundaries and dispatch -/

@[simp ↓] theorem takeUp_inOrder {s : State} (ho : s.InOrder) (n : Nat) (v : Word) (rest : List SlotWrite) :
    (s.takeUp n v rest).InOrder := by
  unfold State.takeUp
  extract_lets src s1
  have h1 : s1.InOrder := by simp [s1, ho]
  clear_value s1
  split_ifs with h24 <;> simp [*]

@[simp ↓] theorem boundarySlot_inOrder {s : State} (ho : s.InOrder) (l at' : Nat) (n : Nat) : (State.boundarySlot l at' s n).InOrder := by
  unfold State.boundarySlot
  dsimp only
  split <;> simp [ho]

@[simp ↓] theorem atBoundary_inOrder {s : State} (ho : s.InOrder) (l : Nat) : (s.atBoundary l).InOrder := by
  unfold State.atBoundary
  extract_lets L s1 src
  exact setLoop_inOrder (.ite (foldl_inOrder ho fun s n _ ho => boundarySlot_inOrder ho l _ n) ho) ..

theorem execPeriodBoundary_inOrder {s : State} (ho : s.InOrder) (l : Nat) : OutInOrder (execPeriodBoundary l s) := by
  unfold execPeriodBoundary
  dsimp only
  split <;> simp [ho]

@[simp ↓] theorem slotPosture_inOrder {s : State} (ho : s.InOrder) (n : Nat) : (s.slotPosture n).InOrder := by
  unfold State.slotPosture
  extract_lets x s1
  split
  · exact ho
  · have h1 : s1.InOrder := by simp [s1, ho]
    clear_value s1
    refine .ite ho ?_
    split_ifs with h24 <;> simp [*]

theorem outSlot_inOrder {s t : State} (ho : s.InOrder) {l n : Nat} {v : Word} (h : s.outSlot l n v = .ok t) : t.InOrder := by
  unfold State.outSlot at h
  dsimp only at h
  split_ifs at h
  cases h
  simp [ho]

theorem execOut_inOrder {s : State} (ho : s.InOrder) (l : Nat) (a b : Reg) : OutInOrder (execOut l a b s) :=
  next_inOrder.mpr (runInstr_inOrder ho _ _ _ fun _ h => outSlot_inOrder ho h)

theorem execTap_inOrder {s : State} (ho : s.InOrder) (l : Nat) (m : BitVec 5) (a b : Reg) :
    OutInOrder (execTap l m a b s) := next_inOrder.mpr (runInstr_inOrder ho _ _ _ fun _ h => Except.ok.inj h ▸
    stepLoop_inOrder (foldl_inOrder ho fun _ _ hn ho => trcTap_inOrder _ _ _ _ ho (List.mem_range.mp hn)) _ _)

@[simp ↓] theorem runOn_inOrder (l : Nat) (s : State) (p : Nat) : (State.runOn l s p).InOrder ↔ s.InOrder := by
  unfold State.runOn
  simp

@[simp ↓] theorem dispatch_inOrder {s : State} (ho : s.InOrder) (l : Nat) : (s.dispatch l).InOrder := by
  unfold State.dispatch
  simp [ho]

theorem execLoopDispatch_inOrder {s : State} (ho : s.InOrder) (l : Nat) : OutInOrder (execLoopDispatch l s) := by
  unfold execLoopDispatch
  dsimp only
  split <;> simp [ho]

@[simp ↓] theorem readyLoop_inOrder {s : State} (ho : s.InOrder) (l : Nat) : (s.readyLoop l).InOrder := by
  unfold State.readyLoop
  simp [ho]

@[simp ↓] theorem goOn_inOrder {s : State} (ho : s.InOrder) (l : Nat) (L : Loop) : (s.goOn l L).InOrder := by
  unfold State.goOn
  simp [ho]

@[simp ↓] theorem suspend_inOrder {s : State} (ho : s.InOrder) (byT4 : Bool) (l : Nat) : (s.suspend byT4 l).InOrder := by
  unfold State.suspend
  simp [ho]

@[simp ↓] theorem unsuspend_inOrder {s : State} (ho : s.InOrder) (byT4 : Bool) (l : Nat) : (s.unsuspend byT4 l).InOrder := by
  unfold State.unsuspend
  simp [ho]

@[simp ↓] theorem cutLoop_inOrder {s : State} (ho : s.InOrder) (l : Nat) : (s.cutLoop l).InOrder := by
  unfold State.cutLoop
  simp [ho]

/-! ### Placement -/

@[simp ↓] theorem setPlacer_inOrder (s : State) (p : Placer) : (s.setPlacer p).InOrder ↔ s.InOrder := Iff.rfl

@[simp ↓] theorem replan_inOrder {s : State} (ho : s.InOrder) (w : ReplanWhy) : (s.replan w).InOrder := by
  unfold State.replan
  simp [ho]

@[simp ↓] theorem acceptPosted_inOrder (s : State) (p : Nat) : (s.acceptPosted p).InOrder ↔ s.InOrder := by
  unfold State.acceptPosted
  split <;> simp

@[simp ↓] theorem drainPosted_inOrder (s : State) (p : Nat) : (s.drainPosted p).InOrder ↔ s.InOrder := by
  unfold State.drainPosted
  simp

@[simp ↓] theorem pinDegrade_inOrder {s : State} (ho : s.InOrder) (p : Nat) (e : Nat × Loop) : (s.pinDegrade p e).InOrder := by
  unfold State.pinDegrade
  simp [ho]

@[simp ↓] theorem carry_inOrder {s : State} (ho : s.InOrder) (q : Nat) (e : Nat × Loop) : (s.carry q e).InOrder := by
  unfold State.carry
  simp [ho]

@[simp ↓] theorem strand_inOrder {s : State} (ho : s.InOrder) (e : Nat × Loop) : (s.strand e).InOrder := by
  unfold State.strand
  simp [ho]

@[simp ↓] theorem migrate_inOrder {s : State} (ho : s.InOrder) (p : Nat) : (s.migrate p).InOrder := by
  unfold State.migrate
  split
  · extract_lets es todo s1 m src
    have h1 : s1.InOrder := (pairSet_inOrder ..).mpr (foldl_inOrder ho fun s e _ ho => carry_inOrder ho _ e)
    clear_value s1
    simp [ho, h1]
  · next hn =>
    have h1 : ((s.affected p).foldl State.strand s).InOrder := foldl_inOrder ho fun s e _ ho => strand_inOrder ho e
    simp [ho, h1]

@[simp ↓] theorem mismatch_inOrder {s0 : State} (ho : s0.InOrder) (p : Nat) : (s0.mismatch p).InOrder := by
  unfold State.mismatch
  extract_lets s x s1 s2 s3 s4 src s5
  have h2 : s2.InOrder := by simp [s2, s1, s, ho]
  clear_value s2
  have h3 : s3.InOrder := foldl_inOrder h2 fun s e _ ho => pinDegrade_inOrder ho p e
  clear_value s3
  have h4 : s4.InOrder := migrate_inOrder h3 p
  clear_value s4
  have h5 : s5.InOrder := by simp [s5, h4]
  clear_value s5
  simp [h5]

theorem execLockstepMismatch_inOrder {s : State} (ho : s.InOrder) (p : PairFault) : OutInOrder (execLockstepMismatch p s) := by
  unfold execLockstepMismatch
  dsimp only
  split <;> simp [ho]

theorem execPinSecondaryRestored_inOrder {s : State} (ho : s.InOrder) (l : Nat) : OutInOrder (execPinSecondaryRestored l s) := by
  unfold execPinSecondaryRestored
  dsimp only
  split
  · split <;> simp [ho]
  · simp [ho]

@[simp ↓] theorem secondPair_inOrder {s : State} (ho : s.InOrder) (l p : Nat) : (s.secondPair l p).InOrder := by
  unfold State.secondPair
  dsimp only
  split
  · simp [ho]
  · split <;> simp [ho]

@[simp ↓] theorem replace_inOrder {s : State} (ho : s.InOrder) (l : Nat) : (s.replace l).InOrder := by
  unfold State.replace
  dsimp only
  split <;> simp [ho]

@[simp ↓] theorem checkFailed_inOrder {s : State} (ho : s.InOrder) (p : Nat) : (s.checkFailed p).InOrder := by
  unfold State.checkFailed
  extract_lets es src s1
  have h1 : s1.InOrder := by simp [s1, ho]
  clear_value s1
  exact replan_inOrder (foldl_inOrder h1 fun s e _ ho => strand_inOrder ho e) _

theorem execPairSelfTest_inOrder {s : State} (ho : s.InOrder) (p : Nat) (pass : Bool) : OutInOrder (execPairSelfTest p pass s) := by
  unfold execPairSelfTest
  dsimp only
  split
  · simp [ho]
  · split
    · simp [ho]
    · split <;> simp [ho]

theorem execStandbySelfTest_inOrder {s : State} (ho : s.InOrder) (p : Nat) (pass : Bool) : OutInOrder (execStandbySelfTest p pass s) := by
  unfold execStandbySelfTest
  dsimp only
  split
  · simp [ho]
  · split <;> simp [ho]

@[simp ↓] theorem planTier3_inOrder {s : State} (ho : s.InOrder) : s.planTier3.InOrder := by
  unfold State.planTier3
  simp [ho]

@[simp ↓] theorem settleCell_inOrder (s : State) (c : Nat) : (s.settleCell c).InOrder ↔ s.InOrder := by
  unfold State.settleCell
  simp

@[simp ↓] theorem t4Cell_inOrder {s : State} (ho : s.InOrder) (c : Nat) : (s.t4Cell c).InOrder := by
  unfold State.t4Cell
  extract_lets x ls s1
  have h1 : s1.InOrder := foldl_inOrder (by simp [ho]) fun s e _ ho => suspend_inOrder ho true e.1
  clear_value s1
  exact .ite ho (by simp [h1])

@[simp ↓] theorem t4Suspend_inOrder {s : State} (ho : s.InOrder) : s.t4Suspend.InOrder :=
  foldl_inOrder ho fun _ c _ ho => t4Cell_inOrder ho c

@[simp ↓] theorem t4PowerUp_inOrder (s : State) : s.t4PowerUp.InOrder ↔ s.InOrder := by
  unfold State.t4PowerUp
  simp

@[simp ↓] theorem t4Release_inOrder {s : State} (ho : s.InOrder) (c : Nat) : (s.t4Release c).InOrder := by
  unfold State.t4Release
  extract_lets x s1
  have h1 : s1.InOrder := foldl_inOrder (by simp [ho]) fun s e _ ho => unsuspend_inOrder ho ..
  clear_value s1
  simp [ho, h1]

@[simp ↓] theorem t4Resume_inOrder {s : State} (ho : s.InOrder) : s.t4Resume.InOrder :=
  foldl_inOrder ho fun _ c _ ho => t4Release_inOrder ho c

@[simp ↓] theorem planTier_inOrder {s : State} (ho : s.InOrder) (n : Nat) (shed : Bool) : (s.planTier n shed).InOrder := by
  unfold State.planTier
  split <;> simp [ho]

@[simp ↓] theorem showLoad_inOrder {s : State} (ho : s.InOrder) (c result : Nat) : (s.showLoad c result).InOrder := by
  unfold State.showLoad
  simp [ho]

@[simp ↓] theorem houseEnds_inOrder (s : State) (result : Nat) : (s.houseEnds result).InOrder ↔ s.InOrder := by
  unfold State.houseEnds
  extract_lets src
  split
  · exact (setRegF_inOrder ..).trans (with_ctl_inOrder s rfl)
  · simp

@[simp ↓] theorem loadEnds_inOrder {s : State} (ho : s.InOrder) (c : Nat) (iid : Word) (hap : Bool) (result : Nat) :
    (s.loadEnds c iid hap result).InOrder := by
  unfold State.loadEnds
  simp [ho]

@[simp ↓] theorem takeSlots_inOrder (s : State) (e : Nat × Loop) : (s.takeSlots e).InOrder ↔ s.InOrder := by
  unfold State.takeSlots
  simp

@[simp ↓] theorem takeLoop_inOrder (s : State) (e : Nat × Loop) : (s.takeLoop e).InOrder ↔ s.InOrder := by
  unfold State.takeLoop
  simp

@[simp ↓] theorem allocate_inOrder (s : State) (c : Nat) : (s.allocate c).InOrder ↔ s.InOrder := by
  unfold State.allocate
  simp

@[simp ↓] theorem resetCell_inOrder {s : State} (ho : s.InOrder) (c src : Nat) (unload : Bool) : (s.resetCell c src unload).InOrder := by
  unfold State.resetCell
  extract_lets x inc s1 tags src s2 s3 s4
  have h1 : s1.InOrder := by simp [s1, ho]
  clear_value s1
  have h3 : s3.InOrder := by simp [s3, s2, h1]
  clear_value s3
  have h4 : s4.InOrder := foldl_inOrder h3 fun s e _ ho => cutLoop_inOrder ho e.1
  clear_value s4
  simp [h4]

@[simp ↓] theorem freeLoop_inOrder {s : State} (ho : s.InOrder) (l : Nat) : (s.freeLoop l).InOrder := by
  unfold State.freeLoop
  simp [ho]

@[simp ↓] theorem freeLoops_inOrder {s : State} (ho : s.InOrder) (c : Nat) : (s.freeLoops c).InOrder :=
  foldl_inOrder ho fun _ e _ ho => freeLoop_inOrder ho e.1

@[simp ↓] theorem installImage_inOrder {s planned : State} (ho : s.InOrder) (hp : planned.InOrder) (c : Nat) (i : Image) :
    (s.installImage planned c i).InOrder := by
  unfold State.installImage
  extract_lets olds fresh s0 s1 news src s2 src' s3
  have h0 : s0.InOrder := freeLoops_inOrder (by simp [ho]) c
  clear_value s0
  have h1 : s1.InOrder := (with_loops_inOrder h0 hp.1).congr
  clear_value s1
  have h2 : s2.InOrder := foldl_inOrder (by simp [h1]) fun s e _ ho => by simp [ho]
  clear_value s2
  have h3 : s3.InOrder := by simp [s3, h2]
  clear_value s3
  exact .ite ((zeroCredits_inOrder ..).mpr (foldl_inOrder h3 fun s e _ ho => readyLoop_inOrder ho e.1)) h2

@[simp ↓] theorem queueLoad_inOrder {s : State} (ho : s.InOrder) (c : Nat) : (s.queueLoad c).InOrder := by
  unfold State.queueLoad
  dsimp only
  split <;> simp [ho]

@[simp ↓] theorem trcArises_inOrder (old s : State) (n : Nat) : (State.trcArises old s n).InOrder ↔ s.InOrder := by
  unfold State.trcArises
  simp

@[simp ↓] theorem placeImage_inOrder {s : State} (ho : s.InOrder) (c : Nat) : (s.placeImage c).InOrder := by
  unfold State.placeImage
  extract_lets x back
  split
  · exact ho
  · next i _ =>
    have hb : back.InOrder := by simp [back, ho]
    clear_value back
    extract_lets r s0 s1
    have hr : r.2.InOrder := planImage_inOrder (freeLoops_inOrder hb c) c i
    clear_value r
    have h0 : s0.InOrder := loadEnds_inOrder ((upkeep_inOrder _).mpr (installImage_inOrder hb hr c i)) ..
    clear_value s0
    have h1 : s1.InOrder := (foldl_inOrder_iff _ _ _ (trcArises_inOrder back)).mpr h0
    clear_value s1
    refine .ite (by simp [hb]) (.ite (by simp [hb]) (.ite (by simp [hb]) (by simp [h1])))

theorem execImagePlace_inOrder {s : State} (ho : s.InOrder) (cell : Nat) : OutInOrder (execImagePlace cell s) := by
  unfold execImagePlace
  split
  · split <;> simp [ho]
  · simp [ho]

@[simp ↓] theorem replaceStranded_inOrder {s : State} (ho : s.InOrder) : s.replaceStranded.InOrder :=
  foldl_inOrder ho fun _ e _ ho => replace_inOrder ho e.1

@[simp ↓] theorem runReplan_inOrder {s : State} (ho : s.InOrder) (w : ReplanWhy) : (s.runReplan w).InOrder := by
  unfold State.runReplan
  split <;> simp [ho]

theorem execPlannedMove_inOrder {s : State} (ho : s.InOrder) (l : Nat) : OutInOrder (execPlannedMove l s) := by
  unfold execPlannedMove
  dsimp only
  split
  · simp [ho]
  · split
    · simp [ho]
    · split <;> simp [ho]

@[simp ↓] theorem checkKind_inOrder {s : State} (ho : s.InOrder) (k : Nat) : (s.checkKind k).InOrder := by
  unfold State.checkKind
  extract_lets m s1 past src s2
  have h1 : s1.InOrder := by simp [s1, ho]
  clear_value s1
  have h2 : s2.InOrder := by simp [s2, h1]
  clear_value s2
  simp [h1, h2]

theorem execEngineLoadCheck_inOrder {s : State} (ho : s.InOrder) : OutInOrder (execEngineLoadCheck s) := by
  unfold execEngineLoadCheck
  extract_lets src s1 src'
  have h1 : s1.InOrder := foldl_inOrder (by simp [ho]) fun s k _ ho => checkKind_inOrder ho k
  clear_value s1
  exact .ite (next_inOrder.mpr ho) (by simp [h1])

@[simp ↓] theorem abandonLoad_inOrder {s : State} (ho : s.InOrder) (c : Nat) : (s.abandonLoad c).InOrder := by
  unfold State.abandonLoad
  dsimp only
  split <;> simp [ho]

@[simp ↓] theorem lowerSource_inOrder (s : State) (src c : Nat) : (s.lowerSource src c).InOrder ↔ s.InOrder := by
  unfold State.lowerSource
  simp

@[simp ↓] theorem cmdReset_inOrder {s : State} (ho : s.InOrder) (src c : Nat) : ((s.cmdReset src c).2).InOrder := by
  unfold State.cmdReset
  dsimp only
  split_ifs <;> simp [ho]

@[simp ↓] theorem cmdSuspend_inOrder {s : State} (ho : s.InOrder) (src c : Nat) : ((s.cmdSuspend src c).2).InOrder := by
  unfold State.cmdSuspend
  extract_lets x s1
  split_ifs
  · exact ho
  · exact ho
  · exact foldl_inOrder (by simp [s1, ho]) fun s e _ ho => suspend_inOrder ho false e.1

@[simp ↓] theorem cmdResume_inOrder {s : State} (ho : s.InOrder) (src c : Nat) : ((s.cmdResume src c).2).InOrder := by
  unfold State.cmdResume
  extract_lets x s1 s2
  split_ifs
  · exact ho
  · exact ho
  · exact (settleCell_inOrder ..).mpr (foldl_inOrder (by simp [s1, ho]) fun s e _ ho => unsuspend_inOrder ho false e.1)

@[simp ↓] theorem cmdUnload_inOrder {s : State} (ho : s.InOrder) (src c : Nat) : ((s.cmdUnload src c).2).InOrder := by
  unfold State.cmdUnload
  dsimp only
  split_ifs <;> simp [ho]

@[simp ↓] theorem cellCommand_inOrder {s : State} (ho : s.InOrder) (src c cmd : Nat) : ((s.cellCommand src c cmd).2).InOrder := by
  unfold State.cellCommand
  split <;> simp [ho]

@[simp ↓] theorem writeCcmd_inOrder {s : State} (ho : s.InOrder) (w : Who) (cmd : Nat) : (s.writeCcmd w cmd).InOrder := by
  unfold State.writeCcmd
  simp [ho]

theorem execCellReset_inOrder {s : State} (ho : s.InOrder) (w : Who) : OutInOrder (execCellReset w s) := by
  unfold execCellReset
  simp [ho]

theorem execCellSuspend_inOrder {s : State} (ho : s.InOrder) (w : Who) : OutInOrder (execCellSuspend w s) := by
  unfold execCellSuspend
  simp [ho]

theorem execCellResume_inOrder {s : State} (ho : s.InOrder) (w : Who) : OutInOrder (execCellResume w s) := by
  unfold execCellResume
  simp [ho]

theorem execCellUnload_inOrder {s : State} (ho : s.InOrder) (w : Who) : OutInOrder (execCellUnload w s) := by
  unfold execCellUnload
  simp [ho]

theorem execCellCmdBad_inOrder {s : State} (ho : s.InOrder) (w : Who) (cmd : Nat) : OutInOrder (execCellCmdBad w cmd s) := by
  unfold execCellCmdBad
  split <;> simp [ho]

@[simp ↓] theorem unloadEnds_inOrder {s : State} (ho : s.InOrder) (c : Nat) : (s.unloadEnds c).InOrder := by
  unfold State.unloadEnds
  simp [ho]

@[simp ↓] theorem zeroedCell_inOrder {s : State} (ho : s.InOrder) (c : Nat) : (s.zeroedCell c).InOrder := by
  unfold State.zeroedCell
  extract_lets ls s1 x t4 x1 s2 s3 s4
  have h1 : s1.InOrder := by simp [s1, ho]
  clear_value s1
  have h2 : s2.InOrder := by simp [s2, h1]
  clear_value s2
  have h3 : s3.InOrder := foldl_inOrder h2 fun s e _ ho => readyLoop_inOrder ho e.1
  clear_value s3
  have h4 : s4.InOrder := foldl_inOrder h3 fun s e _ ho => by
    extract_lets s'
    have h' : s'.InOrder := by simp [s', ho]
    clear_value s'
    simp [h']
  clear_value s4
  simp [h4]

theorem execCellResetZeroed_inOrder {s : State} (ho : s.InOrder) (cell : Nat) : OutInOrder (execCellResetZeroed cell s) := by
  unfold execCellResetZeroed
  dsimp only
  split
  · simp [ho]
  · split
    · split <;> simp [ho]
    · split <;> simp [ho]

@[simp ↓] theorem restartLoop_inOrder {s : State} (ho : s.InOrder) (l : Nat) : ((s.restartLoop l).2).InOrder := by
  unfold State.restartLoop
  dsimp only
  split_ifs <;> simp [ho]

@[simp ↓] theorem stopLoop_inOrder {s : State} (ho : s.InOrder) (l : Nat) : ((s.stopLoop l).2).InOrder := by
  unfold State.stopLoop
  dsimp only
  split_ifs <;> simp [ho]

@[simp ↓] theorem writeLcmd_inOrder {s : State} (ho : s.InOrder) (w : Who) (cmd : Nat) : (s.writeLcmd w cmd).InOrder := by
  unfold State.writeLcmd
  refine (setReg_inOrder ..).mpr ?_
  split_ifs <;> simp [ho]

theorem execLoopRestart_inOrder {s : State} (ho : s.InOrder) (w : Who) : OutInOrder (execLoopRestart w s) := by
  unfold execLoopRestart
  simp [ho]

theorem execLoopStop_inOrder {s : State} (ho : s.InOrder) (w : Who) : OutInOrder (execLoopStop w s) := by
  unfold execLoopStop
  simp [ho]

@[simp ↓] theorem writeGsel_inOrder (s : State) (cell : Nat) : (s.writeGsel cell).InOrder ↔ s.InOrder := by
  unfold State.writeGsel
  simp

theorem execGrantSelectWrite_inOrder {s : State} (ho : s.InOrder) (w : Who) (cell : Nat) : OutInOrder (execGrantSelectWrite w cell s) := by
  unfold execGrantSelectWrite
  simp [ho]

@[simp ↓] theorem grantApplied_inOrder {s : State} (ho : s.InOrder) : s.grantApplied.InOrder := by
  unfold State.grantApplied
  simp [ho]

/-! ### The clock of day -/

@[simp ↓] theorem rtcCount_inOrder (s : State) (t : Nat) : (s.rtcCount t).InOrder ↔ s.InOrder := by
  unfold State.rtcCount
  simp

@[simp ↓] theorem rtcAdvance_inOrder (s : State) : s.rtcAdvance.InOrder ↔ s.InOrder := by
  unfold State.rtcAdvance
  simp

@[simp ↓] theorem rtcApply_inOrder {s : State} (ho : s.InOrder) : s.rtcApply.InOrder := by
  unfold State.rtcApply
  extract_lets old trim0 op regs s1 s2 stage s3 v x src sh adv v' x' s4 s5
  have h1 : s1.InOrder := (foldl_inOrder_iff _ _ _ fun _ _ => setReg_inOrder ..).mpr ho
  clear_value s1
  have h2 : s2.InOrder := filter_shd_mdel_pend_inOrder h1 _ _
  clear_value s2
  have h3 : s3.InOrder := by simp [s3, h2]
  clear_value s3
  have hx : x.InOrder := by simp [x, h3]
  clear_value x
  have ha : x'.InOrder := by simp [x', adv, h3]
  clear_value x'
  have h4 : s4.InOrder := by simp [s4, hx, ha, h3]
  clear_value s4
  have h5 : s5.InOrder := by simp [s5, h4]
  simp [h5]

@[simp ↓] theorem rtcTick_inOrder {s : State} (ho : s.InOrder) : s.rtcTick.InOrder := by
  unfold State.rtcTick
  simp [ho]

@[simp ↓] theorem rtcApplyOp_inOrder {s : State} (ho : s.InOrder) (op : Nat) : (s.rtcApplyOp op).InOrder := by
  unfold State.rtcApplyOp
  simp [ho]

theorem execRtcTick_inOrder {s : State} (ho : s.InOrder) : OutInOrder (execRtcTick s) := by
  unfold execRtcTick
  simp [ho]

theorem execRtcSet_inOrder {s : State} (ho : s.InOrder) : OutInOrder (execRtcSet s) := by
  unfold execRtcSet
  simp [ho]

theorem execRtcShift_inOrder {s : State} (ho : s.InOrder) : OutInOrder (execRtcShift s) := by
  unfold execRtcShift
  simp [ho]

theorem execTrimChange_inOrder {s : State} (ho : s.InOrder) : OutInOrder (execTrimChange s) := by
  unfold execTrimChange
  simp [ho]

theorem execRtcOscStop_inOrder {s : State} (ho : s.InOrder) : OutInOrder (execRtcOscStop s) := by
  unfold execRtcOscStop
  dsimp only
  split <;> simp [ho]

@[simp ↓] theorem backupSwitch_inOrder (s : State) : s.backupSwitch.InOrder ↔ s.InOrder := by
  unfold State.backupSwitch
  simp

theorem execRtcBackupSwitch_inOrder {s : State} (ho : s.InOrder) : OutInOrder (execRtcBackupSwitch s) := by
  unfold execRtcBackupSwitch
  simp [ho]

@[simp ↓] theorem bkParity_inOrder (s : State) (i bad : Nat) : (s.bkParity i bad).InOrder ↔ s.InOrder := by
  unfold State.bkParity
  simp

@[simp ↓] theorem bkWrite_inOrder (s : State) (i : Nat) (v : Word) : (s.bkWrite i v).InOrder ↔ s.InOrder := by
  unfold State.bkWrite
  simp

@[simp ↓] theorem rtcCmd_inOrder (s : State) (v : Word) : (s.rtcCmd v).InOrder ↔ s.InOrder := by
  unfold State.rtcCmd
  simp

@[simp ↓] theorem rtcFracRead_inOrder (s : State) (b : Nat) : (s.rtcFracRead b).InOrder ↔ s.InOrder := by
  unfold State.rtcFracRead
  simp

@[simp ↓] theorem backupLost_inOrder {s : State} (ho : s.InOrder) : s.backupLost.InOrder :=
  (emit_inOrder ..).mpr (filter_shd_pend_inOrder ho (fun e => !(0x40680000 ≤ addrOf e.1 && decide (addrOf e.1 < 0x40700000)))
    fun e => !(0x40680000 ≤ addrOf e.1 && decide (addrOf e.1 < 0x40700000))).congr

/-! ### Stored sets -/

theorem execCursorOldest_inOrder {s : State} (ho : s.InOrder) (w : Who) : OutInOrder (execCursorOldest w s) := by
  unfold execCursorOldest
  simp [ho]

theorem execCursorAt_inOrder {s : State} (ho : s.InOrder) (w : Who) : OutInOrder (execCursorAt w s) := by
  unfold execCursorAt
  simp [ho]

theorem execCursorAfter_inOrder {s : State} (ho : s.InOrder) (w : Who) : OutInOrder (execCursorAfter w s) := by
  unfold execCursorAfter
  simp [ho]

theorem execCursorNewest_inOrder {s : State} (ho : s.InOrder) (w : Who) : OutInOrder (execCursorNewest w s) := by
  unfold execCursorNewest
  simp [ho]

@[simp ↓] theorem cmdFlush_inOrder (s : State) : s.cmdFlush.InOrder ↔ s.InOrder := by
  unfold State.cmdFlush
  simp

theorem execFlush_inOrder {s : State} (ho : s.InOrder) (w : Who) : OutInOrder (execFlush w s) := by
  unfold execFlush
  simp [ho]

@[simp ↓] theorem nvErase_inOrder (s : State) (who cell : Nat) : (s.nvErase who cell).InOrder ↔ s.InOrder := by
  unfold State.nvErase
  simp

theorem execNverase_inOrder {s : State} (ho : s.InOrder) (w : Who) (cell : Nat) : OutInOrder (execNverase w cell s) := by
  unfold execNverase
  simp [ho]

theorem execNvsRead_inOrder {s : State} (ho : s.InOrder) (t : Nat) (bad : Bool) : OutInOrder (execNvsRead t bad s) := by
  unfold execNvsRead
  dsimp only
  split <;> simp [ho]

@[simp ↓] theorem wearPool_inOrder (s : State) (lines : Nat) : (s.wearPool lines).InOrder ↔ s.InOrder := by
  unfold State.wearPool
  simp

@[simp ↓] theorem nvUndone_inOrder (s : State) (head : Nat) : (s.nvUndone head).InOrder ↔ s.InOrder := by
  unfold State.nvUndone
  split <;> simp

theorem execNvsWrite_inOrder {s' : State} (ho : s'.InOrder) (t : TagReads) : OutInOrder (execNvsWrite t s') := by
  unfold execNvsWrite
  split
  · simp [ho]
  · dsimp only
    split <;> simp [ho]

theorem execNvsEmit_inOrder {s' : State} (ho : s'.InOrder) (t : TagReads) : OutInOrder (execNvsEmit t s') := by
  unfold execNvsEmit
  split
  · simp [ho]
  · dsimp only
    split <;> simp [ho]

@[simp ↓] theorem storeFailed_inOrder {s : State} (ho : s.InOrder) (n step : Nat) : (s.storeFailed n step).InOrder := by
  unfold State.storeFailed
  simp [ho]

@[simp ↓] theorem storeStepped_inOrder {s : State} (ho : s.InOrder) (n : Nat) : (s.storeStepped n).InOrder := by
  unfold State.storeStepped
  simp [ho]

@[simp ↓] theorem houseStepped_inOrder {s : State} (ho : s.InOrder) : s.houseStepped.InOrder := by
  unfold State.houseStepped
  simp [ho]

@[simp ↓] theorem afterInternal_inOrder {s : State} (ho : s.InOrder) (op : Option InternalReq) (good : Bool) :
    (s.afterInternal op good).InOrder := by
  unfold State.afterInternal
  split <;> simp [ho]

@[simp ↓] theorem transactionEnds_inOrder {s : State} (ho : s.InOrder) (e t err : Nat) : (s.transactionEnds e t err).InOrder := by
  unfold State.transactionEnds
  simp [ho]

theorem execTransactionComplete_inOrder {s : State} (ho : s.InOrder) (t : Nat) : OutInOrder (execTransactionComplete t s) := by
  unfold execTransactionComplete
  dsimp only
  split
  · split <;> simp [ho]
  · simp [ho]

theorem execEngineWatchdog_inOrder {s : State} (ho : s.InOrder) (e : Nat) : OutInOrder (execEngineWatchdog e s) := by
  unfold execEngineWatchdog
  dsimp only
  split
  · simp [ho]
  · split <;> simp [ho]

@[simp ↓] theorem portFreed_inOrder {s : State} (ho : s.InOrder) : s.portFreed.InOrder := by
  unfold State.portFreed
  split <;> simp [ho]

theorem portFor_inOrder {s : State} (ho : s.InOrder) {r : InternalReq} {x : State × Nat} (h : s.portFor r = some x) : x.1.InOrder := by
  unfold State.portFor at h
  dsimp only at h
  split at h
  · cases h; exact ho
  · split_ifs at h
    split at h
    · split_ifs at h
      cases h; simp [ho]
    · cases h

theorem execLogLineWrite_inOrder {s : State} (ho : s.InOrder) : OutInOrder (execLogLineWrite s) := by
  refine .ite (next_inOrder.mpr ho) ?_
  split
  · exact next_inOrder.mpr ho
  · next s1 t h =>
    have h1 : s1.InOrder := portFor_inOrder ho h
    simp [h1]

theorem runPort_inOrder {s : State} (ho : s.InOrder) (r : InternalReq) (more : State → Bool) {op : State → State}
    (hop : ∀ s : State, s.InOrder → (op s).InOrder) (n : Nat) : (State.runPort r more op n s).InOrder := by
  induction n generalizing s with
  | zero => exact ho
  | succ n ih =>
    unfold State.runPort
    split
    · exact ho
    · split
      · exact ho
      · next s1 t h => exact ih (transactionEnds_inOrder (hop s1 (portFor_inOrder ho h)) ..)

@[simp ↓] theorem writeLines_inOrder {s : State} (ho : s.InOrder) : s.writeLines.InOrder :=
  runPort_inOrder ho _ _ (fun s hs => (with_inOrder s ..).mpr hs) _

@[simp ↓] theorem ownLines_inOrder (s : State) : s.ownLines.InOrder ↔ s.InOrder := by
  unfold State.ownLines
  simp

@[simp ↓] theorem markerOn_inOrder {s1 : State} (ho : s1.InOrder) (clean : Bool) (t : Nat) : (State.markerOn clean s1 t).InOrder := by
  unfold State.markerOn
  simp [ho]

theorem flushEnds_inOrder {s t : State} (ho : s.InOrder) {why : FlushWhy} (h : s.flushEnds why = some t) : t.InOrder := by
  unfold State.flushEnds at h
  dsimp only at h
  split at h
  · cases h
  · obtain ⟨x, hx, rfl⟩ := Option.map_eq_some_iff.mp h
    have h1 : s.writeLines.flushRecord.InOrder := (flushRecord_inOrder _).mpr (writeLines_inOrder ho)
    have hx1 : x.1.InOrder := portFor_inOrder (portFreed_inOrder (writeLines_inOrder h1)) hx
    simp [hx1]

theorem execMarkerWrite_inOrder {s : State} (ho : s.InOrder) : OutInOrder (execMarkerWrite s) := by
  refine .ite (next_inOrder.mpr ho) ?_
  split
  · simp [ho]
  · next h => simp [portFor_inOrder ho h]

theorem execNvsStoreStart_inOrder {s : State} (ho : s.InOrder) (set fail : Nat) : OutInOrder (execNvsStoreStart set fail s) := by
  unfold execNvsStoreStart
  split <;> simp [ho]

theorem execNvsStorePendingStart_inOrder {s : State} (ho : s.InOrder) (set fail : Nat) :
    OutInOrder (execNvsStorePendingStart set fail s) := by
  unfold execNvsStorePendingStart
  split <;> simp [ho]

theorem execStoreCommit_inOrder {s : State} (ho : s.InOrder) (set : Nat) (fail : Bool) : OutInOrder (execStoreCommit set fail s) := by
  unfold execStoreCommit
  extract_lets s0 s3
  have h0 : s0.InOrder := runPort_inOrder (portFreed_inOrder ho) _ _ (fun t ht => ht) _
  clear_value s0
  have h3 : s3.InOrder := by simp [s3, h0]
  clear_value s3
  exact .ite (by simp [ho]) (.ite (by simp [h0]) (.ite (by simp [h0]) (by simp [h3])))

theorem execRtcFracRead_inOrder {s : State} (ho : s.InOrder) (w : Who) : OutInOrder (execRtcFracRead w s) := by
  unfold execRtcFracRead
  simp [ho]

@[simp ↓] theorem bkRead_inOrder (s : State) (i bad : Nat) : (s.bkRead i bad).InOrder ↔ s.InOrder := by
  unfold State.bkRead
  simp

theorem execBkramRead_inOrder {s : State} (ho : s.InOrder) (w : Who) (i bad : Nat) : OutInOrder (execBkramRead w i bad s) := by
  unfold execBkramRead
  split <;> simp [ho]

theorem execClrperr_inOrder {s : State} (ho : s.InOrder) (w : Who) : OutInOrder (execClrperr w s) := by
  unfold execClrperr
  simp [ho]

theorem execClrsw_inOrder {s : State} (ho : s.InOrder) (w : Who) : OutInOrder (execClrsw w s) := by
  unfold execClrsw
  simp [ho]

/-! ### Supplies -/

@[simp ↓] theorem setPwr_inOrder (s : State) {x : PwrSt} (hd : x.deepest = s.pwr.deepest) (hw : x.down = s.pwr.down) :
    (s.setPwr x).InOrder ↔ s.InOrder := by
  unfold State.InOrder State.setPwr
  dsimp only
  rw [hd, hw]

@[simp ↓] theorem pwrEvt_inOrder (s : State) (i : Nat) : (s.pwrEvt i).InOrder ↔ s.InOrder := by
  unfold State.pwrEvt
  simp

@[simp ↓] theorem demandsMoved_inOrder (s : State) : s.demandsMoved.InOrder ↔ s.InOrder := by
  unfold State.demandsMoved
  simp

@[simp ↓] theorem carries_inOrder (s : State) : s.carries.InOrder ↔ s.InOrder := by
  unfold State.carries
  simp

@[simp ↓] theorem showSample_inOrder (s : State) (i : Nat) (vs : List Nat) : (s.showSample i vs).InOrder ↔ s.InOrder := by
  unfold State.showSample
  split <;> simp

@[simp ↓] theorem showSamples_inOrder (s : State) (a b : List Nat) : (s.showSamples a b).InOrder ↔ s.InOrder := by
  unfold State.showSamples
  simp

@[simp ↓] theorem dipDemand_inOrder (s0 : State) (a b : List Nat) : (s0.dipDemand a b).InOrder ↔ s0.InOrder := by
  unfold State.dipDemand
  simp

theorem execDipBegin_inOrder {s : State} (ho : s.InOrder) (a b : List Nat) : OutInOrder (execDipBegin a b s) := by
  unfold execDipBegin
  extract_lets v src s1 s2
  obtain ⟨hd, hw⟩ := depth_inOrder ho
  have h1 : s1.InOrder := setPwr_depth_inOrder (by simp [ho]) hd hw
  clear_value s1
  have h2 : s2.InOrder := by simp [s2, h1]
  exact .ite (next_inOrder.mpr ho) (by simp [h2])

theorem execPwrDip_inOrder {s : State} (ho : s.InOrder) (a b : List Nat) : OutInOrder (execPwrDip a b s) := by
  unfold execPwrDip
  split
  · simp [ho]
  · dsimp only
    split <;> simp [ho]

@[simp ↓] theorem writeForce_inOrder (s : State) (v : Word) : (s.writeForce v).InOrder ↔ s.InOrder := by
  unfold State.writeForce
  simp

theorem execPwrForceWrite_inOrder {s : State} (ho : s.InOrder) (w : Who) (v : Word) : OutInOrder (execPwrForceWrite w v s) := by
  unfold execPwrForceWrite
  simp [ho]

theorem execPwrThermal_inOrder {s : State} (ho : s.InOrder) (tb tj : Int) : OutInOrder (execPwrThermal tb tj s) := by
  unfold execPwrThermal
  dsimp only
  split
  · split <;> simp [ho]
  · split
    · split <;> simp [ho]
    · simp [ho]

@[simp ↓] theorem inputSample_inOrder (s : State) (i : Nat) (v : Int) (low : Nat) (start : Bool) :
    (s.inputSample i v low start).InOrder ↔ s.InOrder := by
  unfold State.inputSample
  simp

theorem execPwrInputRev_inOrder {s : State} (ho : s.InOrder) (i : Nat) (v : Int) : OutInOrder (execPwrInputRev i v s) := by
  unfold execPwrInputRev
  split <;> simp [ho]

theorem execPwrInputLost_inOrder {s : State} (ho : s.InOrder) (i : Nat) (v : Int) : OutInOrder (execPwrInputLost i v s) := by
  unfold execPwrInputLost
  split <;> simp [ho]

theorem execPwrInputOv_inOrder {s : State} (ho : s.InOrder) (i : Nat) (v : Int) : OutInOrder (execPwrInputOv i v s) := by
  unfold execPwrInputOv
  split <;> simp [ho]

theorem execPwrInputOk_inOrder {s : State} (ho : s.InOrder) (i : Nat) (v : VoltFor) : OutInOrder (execPwrInputOk i v s) := by
  unfold execPwrInputOk
  split <;> simp [ho]

@[simp ↓] theorem fieldVolt_inOrder (s : State) (v : Int) : (s.fieldVolt v).InOrder ↔ s.InOrder := by
  unfold State.fieldVolt
  simp

@[simp ↓] theorem setFsw_inOrder {s : State} (ho : s.InOrder) (f : FieldSw) : (s.setFsw f).InOrder := by
  unfold State.setFsw
  extract_lets src s1 s2
  have h1 : s1.InOrder := by
    obtain ⟨hd, hw⟩ := depth_inOrder ho
    exact setPwr_depth_inOrder (by simp [ho]) hd hw
  clear_value s1
  have h2 : s2.InOrder := by simp [s2, h1]
  clear_value s2
  simp [h1, h2]

@[simp ↓] theorem fieldCase_inOrder {s : State} (ho : s.InOrder) (v : Int) (f : FieldSw) (flag code : Nat) :
    (s.fieldCase v f flag code).InOrder := by
  unfold State.fieldCase
  simp [ho]

theorem execPwrFieldUv_inOrder {s : State} (ho : s.InOrder) (r : VoltFor) : OutInOrder (execPwrFieldUv r s) := by
  unfold execPwrFieldUv
  dsimp only
  split <;> simp [ho]

theorem execPwrFieldOv_inOrder {s : State} (ho : s.InOrder) (v : Int) : OutInOrder (execPwrFieldOv v s) := by
  unfold execPwrFieldOv
  dsimp only
  split <;> simp [ho]

theorem execPwrFieldRev_inOrder {s : State} (ho : s.InOrder) (v : Int) : OutInOrder (execPwrFieldRev v s) := by
  unfold execPwrFieldRev
  dsimp only
  split <;> simp [ho]

theorem execPwrFieldTrip_inOrder {s : State} (ho : s.InOrder) (r : LoadFor) : OutInOrder (execPwrFieldTrip r s) := by
  unfold execPwrFieldTrip
  dsimp only
  split <;> simp [ho]

theorem execFieldSwitchRetry_inOrder {s : State} (ho : s.InOrder) : OutInOrder (execFieldSwitchRetry s) := by
  unfold execFieldSwitchRetry
  dsimp only
  split <;> simp [ho]

theorem execPwrFieldOk_inOrder {s : State} (ho : s.InOrder) (r : VoltFor) : OutInOrder (execPwrFieldOk r s) := by
  unfold execPwrFieldOk
  dsimp only
  split
  · simp [ho]
  · split
    · simp [ho]
    · split <;> simp [ho]

@[simp ↓] theorem fieldRelease_inOrder {s : State} (ho : s.InOrder) : s.fieldRelease.InOrder := by
  unfold State.fieldRelease
  simp [ho]

theorem execFretry_inOrder {s : State} (ho : s.InOrder) (w : Who) : OutInOrder (execFretry w s) := by
  unfold execFretry
  simp [ho]

@[simp ↓] theorem startHuTest_inOrder (s : State) : s.startHuTest.InOrder ↔ s.InOrder := by
  unfold State.startHuTest
  simp

theorem execHutest_inOrder {s : State} (ho : s.InOrder) (w : Who) : OutInOrder (execHutest w s) := by
  unfold execHutest
  simp [ho]

theorem execHoldupTest_inOrder {s : State} (ho : s.InOrder) (t vst : Nat) : OutInOrder (execHoldupTest t vst s) := by
  unfold execHoldupTest
  dsimp only
  split
  · split <;> simp [ho]
  · split <;> simp [ho]

theorem execHoldupCharged_inOrder {s : State} (ho : s.InOrder) (vst : Nat) : OutInOrder (execHoldupCharged vst s) := by
  unfold execHoldupCharged
  split <;> simp [ho]

theorem execVbakTest_inOrder {s : State} (ho : s.InOrder) (v : Int) : OutInOrder (execVbakTest v s) := by
  unfold execVbakTest
  extract_lets old new src s1
  refine .ite (next_inOrder.mpr ho) ?_
  have h1 : s1.InOrder := by
    obtain ⟨hd, hw⟩ := depth_inOrder ho
    exact setPwr_depth_inOrder (by simp [ho]) hd hw
  clear_value s1
  exact .ite (by simp [h1]) (by simp [h1])

@[simp ↓] theorem pwrApplied_inOrder (s : State) : s.pwrApplied.InOrder ↔ s.InOrder := by
  unfold State.pwrApplied
  simp

end Sys2Proof.Machine
end

section
/-! SUPPORT. The order of the state kept (R44, R45, R485, R492, R509): host link, tag, resets, clocks and tiers. -/
namespace Sys2Proof.Machine

/-! ### The host link -/

@[simp ↓] theorem setPtp_inOrder (s : State) (l : Nat) (x : Ptp) : (s.setPtp l x).InOrder ↔ s.InOrder := by
  unfold State.setPtp
  simp

@[simp ↓] theorem ptpShow_inOrder (s : State) : s.ptpShow.InOrder ↔ s.InOrder := by
  unfold State.ptpShow
  dsimp only
  split <;> simp

@[simp ↓] theorem choosePtp_inOrder (s : State) (gm0 : Nat) : (s.choosePtp gm0).InOrder ↔ s.InOrder := by
  unfold State.choosePtp
  dsimp only
  split <;> simp

@[simp ↓] theorem ptpMoved_inOrder (s : State) (l : Nat) (x : Ptp) : (s.ptpMoved l x).InOrder ↔ s.InOrder := by
  unfold State.ptpMoved
  simp

theorem execAnnounce_inOrder {s : State} (ho : s.InOrder) (l prio gm interval : Nat) : OutInOrder (execAnnounce l prio gm interval s) := by
  unfold execAnnounce
  split <;> simp [ho]

theorem execSyncTimeout_inOrder {s : State} (ho : s.InOrder) (l : Nat) : OutInOrder (execSyncTimeout l s) := by
  unfold execSyncTimeout
  dsimp only
  split <;> simp [ho]

theorem execPdelayReqSend_inOrder {s : State} (ho : s.InOrder) (l : Nat) : OutInOrder (execPdelayReqSend l s) := by
  unfold execPdelayReqSend
  dsimp only
  split <;> simp [ho]

theorem execPdelayResp_inOrder {s : State} (ho : s.InOrder) (l t2 t3 t4 : Nat) (cap : Bool) :
    OutInOrder (execPdelayResp l t2 t3 t4 cap s) := by
  unfold execPdelayResp
  dsimp only
  split
  · simp [ho]
  · split <;> simp [ho]

theorem execPdelayReq_inOrder {s : State} (ho : s.InOrder) (l t2 : Nat) : OutInOrder (execPdelayReq l t2 s) := by
  unfold execPdelayReq
  split <;> simp [ho]

@[simp ↓] theorem linkDown_inOrder (s : State) (l st reason : Nat) : (s.linkDown l st reason).InOrder ↔ s.InOrder := by
  unfold State.linkDown
  simp

theorem execHstLinkUp_inOrder {s : State} (ho : s.InOrder) (l : Nat) (pol : Bool) : OutInOrder (execHstLinkUp l pol s) := by
  unfold execHstLinkUp
  dsimp only
  split <;> simp [ho]

theorem execHstLinkDown_inOrder {s : State} (ho : s.InOrder) (l : Nat) : OutInOrder (execHstLinkDown l s) := by
  unfold execHstLinkDown
  split <;> simp [ho]

theorem execCableDiagnostic_inOrder {s : State} (ho : s.InOrder) (l faults dist : Nat) :
    OutInOrder (execCableDiagnostic l faults dist s) := by
  unfold execCableDiagnostic
  dsimp only
  split <;> simp [ho]

@[simp ↓] theorem dropFrame_inOrder (s : State) (l : Nat) : (s.dropFrame l).InOrder ↔ s.InOrder := by
  unfold State.dropFrame
  simp

theorem execArpRequest_inOrder {s : State} (ho : s.InOrder) (l : Nat) (frame : HostFrame) (target sender : Word) :
    OutInOrder (execArpRequest l frame target sender s) := by
  unfold execArpRequest
  split
  · simp [ho]
  · split
    · simp [ho]
    · split <;> simp [ho]

theorem execIcmpEcho_inOrder {s : State} (ho : s.InOrder) (l : Nat) (frame : HostFrame) (target sender : Word) (data : List Byte) :
    OutInOrder (execIcmpEcho l frame target sender data s) := by
  unfold execIcmpEcho
  split
  · simp [ho]
  · split
    · simp [ho]
    · split <;> simp [ho]

@[simp ↓] theorem hstShed_inOrder (s : State) : s.hstShed.InOrder ↔ s.InOrder := by
  unfold State.hstShed
  simp

@[simp ↓] theorem hstRestore_inOrder (s : State) : s.hstRestore.InOrder ↔ s.InOrder := by
  unfold State.hstRestore
  simp

@[simp ↓] theorem hstApplied_inOrder {s : State} (ho : s.InOrder) (old : State) : (State.hstApplied old s).InOrder := by
  unfold State.hstApplied
  simp [ho]

/-! ### Keys and alarms -/

@[simp ↓] theorem setFace_inOrder (s : State) (x : FaceSt) : (s.setFace x).InOrder ↔ s.InOrder := Iff.rfl

@[simp ↓] theorem unstick_inOrder (s : State) (k : Nat) : (s.unstick k).InOrder ↔ s.InOrder := by
  unfold State.unstick
  simp

@[simp ↓] theorem press_inOrder (s : State) (k : Nat) : ((s.press k).1).InOrder ↔ s.InOrder := by
  unfold State.press
  dsimp only
  split <;> simp

@[simp ↓] theorem acknowledge_inOrder (s : State) : s.acknowledge.InOrder ↔ s.InOrder := by
  unfold State.acknowledge
  simp

theorem execAck_inOrder {s : State} (ho : s.InOrder) : OutInOrder (execAck s) := by
  unfold execAck
  dsimp only
  split <;> simp [ho]

theorem execSilence_inOrder {s : State} (ho : s.InOrder) : OutInOrder (execSilence s) := by
  unfold execSilence
  simp [ho]

theorem execLocalI_inOrder {s : State} (ho : s.InOrder) : OutInOrder (execLocalI s) := by
  unfold execLocalI
  dsimp only
  split <;> simp [ho]

theorem execTest_inOrder {s : State} (ho : s.InOrder) : OutInOrder (execTest s) := by
  unfold execTest
  dsimp only
  split <;> simp [ho]

@[simp ↓] theorem setLocal_inOrder (s : State) (on : Bool) : (s.setLocal on).InOrder ↔ s.InOrder := by
  unfold State.setLocal
  simp

theorem execFaceLocal_inOrder {s : State} (ho : s.InOrder) : OutInOrder (execFaceLocal s) := by
  unfold execFaceLocal
  split <;> simp [ho]

theorem execFaceKeyStuck_inOrder {s : State} (ho : s.InOrder) (k : Nat) : OutInOrder (execFaceKeyStuck k s) := by
  unfold execFaceKeyStuck
  split <;> simp [ho]

theorem execKeyReleased_inOrder {s : State} (ho : s.InOrder) (k : Nat) : OutInOrder (execKeyReleased k s) := by
  unfold execKeyReleased
  split
  · simp [ho]
  · split <;> simp [ho]

theorem execLedTestEnd_inOrder {s : State} (ho : s.InOrder) : OutInOrder (execLedTestEnd s) := by
  unfold execLedTestEnd
  split <;> simp [ho]

theorem execLocalTimeout_inOrder {s : State} (ho : s.InOrder) : OutInOrder (execLocalTimeout s) := by
  unfold execLocalTimeout
  dsimp only
  split <;> simp [ho]

@[simp ↓] theorem writeAlarm_inOrder (s : State) (v : Word) : (s.writeAlarm v).InOrder ↔ s.InOrder := by
  unfold State.writeAlarm
  simp

theorem execAlarmWrite_inOrder {s : State} (ho : s.InOrder) (w : Who) (v : Word) : OutInOrder (execAlarmWrite w v s) := by
  unfold execAlarmWrite
  simp [ho]

/-! ### The tag -/

@[simp ↓] theorem setTagSt_inOrder (s : State) (x : TagSt) : (s.setTagSt x).InOrder ↔ s.InOrder := Iff.rfl

@[simp ↓] theorem tagAnswer_inOrder (s : State) (bytes : List Byte) : (s.tagAnswer bytes).InOrder ↔ s.InOrder := by
  unfold State.tagAnswer
  simp

@[simp ↓] theorem tagError_inOrder (s : State) (code : Nat) : (s.tagError code).InOrder ↔ s.InOrder := by
  unfold State.tagError
  simp

theorem execInventory_inOrder {s : State} (ho : s.InOrder) : OutInOrder (execInventory s) := by
  unfold execInventory
  simp [ho]

theorem execGetSystemInformation_inOrder {s : State} (ho : s.InOrder) : OutInOrder (execGetSystemInformation s) := by
  unfold execGetSystemInformation
  simp [ho]

theorem execExtendedReadSingleBlock_inOrder {s : State} (ho : s.InOrder) (b : Nat) : OutInOrder (execExtendedReadSingleBlock b s) := by
  unfold execExtendedReadSingleBlock
  split <;> simp [ho]

theorem execExtendedReadMultipleBlocks_inOrder {s : State} (ho : s.InOrder) (b n : Nat) :
    OutInOrder (execExtendedReadMultipleBlocks b n s) := by
  unfold execExtendedReadMultipleBlocks
  split <;> simp [ho]

@[simp ↓] theorem showHold_inOrder (s : State) : s.showHold.InOrder ↔ s.InOrder := by
  unfold State.showHold
  simp

theorem execExtendedWriteSingleBlock_inOrder {s : State} (ho : s.InOrder) (b : Nat) (data : List Byte) :
    OutInOrder (execExtendedWriteSingleBlock b data s) := by
  unfold execExtendedWriteSingleBlock
  split
  · simp [ho]
  · split
    · simp [ho]
    · split <;> simp [ho]

theorem execFieldWriteCommit_inOrder {s : State} (ho : s.InOrder) : OutInOrder (execFieldWriteCommit s) := by
  unfold execFieldWriteCommit
  split
  · simp [ho]
  · split <;> simp [ho]

@[simp ↓] theorem wiredLost_inOrder (s : State) : s.wiredLost.InOrder ↔ s.InOrder := by
  unfold State.wiredLost
  split <;> simp

theorem execReaderField_inOrder {s : State} (ho : s.InOrder) (present : Bool) : OutInOrder (execReaderField present s) := by
  unfold execReaderField
  dsimp only
  split
  · simp [ho]
  · split <;> simp [ho]

@[simp ↓] theorem tagRes_inOrder (s : State) (res fcast : Nat) : (s.tagRes res fcast).InOrder ↔ s.InOrder := by
  unfold State.tagRes
  simp

@[simp ↓] theorem writeTagCmd_inOrder (s : State) (v : Word) : (s.writeTagCmd v).InOrder ↔ s.InOrder := by
  unfold State.writeTagCmd
  extract_lets b x held
  clear_value held
  split_ifs
  · rfl
  · simp
  · split <;> simp

theorem execTagWcmd_inOrder {s : State} (ho : s.InOrder) (w : Who) (v : Word) : OutInOrder (execTagWcmd w v s) := by
  unfold execTagWcmd
  simp [ho]

theorem execWiredCommitComplete_inOrder {s : State} (ho : s.InOrder) : OutInOrder (execWiredCommitComplete s) := by
  unfold execWiredCommitComplete
  split <;> simp [ho]

@[simp ↓] theorem writeTagStatus_inOrder (s : State) : s.writeTagStatus.InOrder ↔ s.InOrder := by
  unfold State.writeTagStatus
  simp

theorem execTagStatusWrite_inOrder {s : State} (ho : s.InOrder) : OutInOrder (execTagStatusWrite s) := by
  unfold execTagStatusWrite
  dsimp only
  split <;> simp [ho]

theorem execTagAntCheck_inOrder {s : State} (ho : s.InOrder) (bad : Bool) : OutInOrder (execTagAntCheck bad s) := by
  unfold execTagAntCheck
  dsimp only
  split <;> simp [ho]

@[simp ↓] theorem tagShed_inOrder (s : State) : s.tagShed.InOrder ↔ s.InOrder := by
  unfold State.tagShed
  simp

@[simp ↓] theorem tagRestore_inOrder (s : State) : s.tagRestore.InOrder ↔ s.InOrder := by
  unfold State.tagRestore
  simp

@[simp ↓] theorem tagStart_inOrder (s : State) : s.tagStart.InOrder ↔ s.InOrder := by
  unfold State.tagStart
  simp

@[simp ↓] theorem tagPowerUp_inOrder (s : State) : s.tagPowerUp.InOrder ↔ s.InOrder := by
  unfold State.tagPowerUp
  simp

/-! ### The island -/

@[simp ↓] theorem setCtl_inOrder (s : State) {x : CtlSt} (hr : x.run = s.ctl.run) : (s.setCtl x).InOrder ↔ s.InOrder := by
  unfold State.InOrder State.setCtl
  dsimp only
  rw [hr]

@[simp ↓] theorem islandState_inOrder (s : State) (n : Nat) : (s.islandState n).InOrder ↔ s.InOrder := by
  unfold State.islandState
  simp

@[simp ↓] theorem resetPosture_inOrder {s : State} (ho : s.InOrder) (n : Nat) : (s.resetPosture n).InOrder := by
  unfold State.resetPosture
  extract_lets src s1
  have h1 : s1.InOrder := by simp [s1, ho]
  clear_value s1
  split_ifs with h24 <;> simp [*]

@[simp ↓] theorem blockPosture_inOrder {s : State} (ho : s.InOrder) (b : Nat) : (s.blockPosture b).InOrder := by
  unfold State.blockPosture
  extract_lets s1 src s2 src'
  have h1 : s1.InOrder := foldl_inOrder ho fun s n _ ho => resetPosture_inOrder ho n
  clear_value s1
  have h2 : s2.InOrder := by simp [s2, src, h1]
  clear_value s2
  simp [h2]

@[simp ↓] theorem recordIsland_inOrder (s : State) (a : IslandAct) (ops : List Nat) (took : List (Nat × Nat)) :
    (s.recordIsland a ops took).InOrder ↔ s.InOrder := by
  unfold State.recordIsland
  simp

@[simp ↓] theorem islandTrigger_inOrder (s : State) (trig : Nat) (ops blocks : List Nat) :
    (s.islandTrigger trig ops blocks).InOrder ↔ s.InOrder := by
  unfold State.islandTrigger
  split <;> simp

@[simp ↓] theorem islandEnd_inOrder (s : State) (a : IslandAct) : (s.islandEnd a).InOrder ↔ s.InOrder := by
  unfold State.islandEnd
  simp

@[simp ↓] theorem handOver_inOrder (s : State) (a : IslandAct) : (s.handOver a).InOrder ↔ s.InOrder := by
  unfold State.handOver
  simp

@[simp ↓] theorem islandAct_inOrder {s : State} (ho : s.InOrder) (a : IslandAct) : (s.islandAct a).InOrder := by
  unfold State.islandAct
  extract_lets us a1 src s1 s2 s3 s4
  have h1 : s1.InOrder := by simp [s1, src, ho]
  clear_value s1
  have h2 : s2.InOrder := .ite (foldl_inOrder h1 fun s b _ ho => blockPosture_inOrder ho b) h1
  clear_value s2
  have h3 : s3.InOrder := by simp [s3, h2]
  clear_value s3
  have h4 : s4.InOrder := by simp [s4, h3]
  clear_value s4
  simp [h3, h4]

theorem execIslandAct_inOrder {s : State} (ho : s.InOrder) : OutInOrder (execIslandAct s) := by
  unfold execIslandAct
  split <;> simp [ho]

theorem islandFlush_inOrder {s t : State} (ho : s.InOrder) {why : FlushWhy} (h : s.islandFlush why = some t) : t.InOrder := by
  unfold State.islandFlush at h
  split at h
  · cases h
  · split at h
    · exact Option.some.inj h ▸ by simp [ho]
    · cases h

theorem execFlushComplete_inOrder {s : State} (ho : s.InOrder) : OutInOrder (execFlushComplete s) := by
  unfold execFlushComplete
  split
  · simp [ho]
  · split
    · simp [ho]
    · next s0 hs0 =>
      have h0 : s0.InOrder := by
        rcases Option.or_eq_some_iff.mp hs0 with h | ⟨-, h⟩
        · exact flushEnds_inOrder ho h
        · exact islandFlush_inOrder ho h
      extract_lets s1 src s2
      have h1 : s1.InOrder := by simp [s1, h0]
      clear_value s1
      split
      · simp [h1]
      · refine .ite (by simp [h1]) (next_inOrder.mpr ?_)
        have h2 : s2.InOrder := setCtl_run_inOrder h1 fun r hr => by
          obtain ⟨r', hr0, rfl⟩ := Option.map_eq_some_iff.mp hr
          exact run_inOrder h1 (r := r') hr0
        clear_value s2
        exact .ite ((islandEnd_inOrder ..).mpr h2) h2

@[simp ↓] theorem amendReset_inOrder (s : State) (r : ResetRun) : (s.amendReset r).InOrder ↔ s.InOrder := by
  unfold State.amendReset
  simp

@[simp ↓] theorem resetTrigger_inOrder (s : State) (r : ResetRun) (trig : Nat) : (s.resetTrigger r trig).InOrder ↔ s.InOrder := by
  unfold State.resetTrigger
  simp

@[simp ↓] theorem requestReset_inOrder {s : State} (ho : s.InOrder) {scope : Nat} (hsc : scope ≤ 2) (cause blocks trig : Nat)
    (record : Bool) :
    (s.requestReset scope cause blocks trig record).InOrder := by
  unfold State.requestReset
  split
  · extract_lets r src s1
    have h1 : s1.InOrder := setCtl_run_inOrder ho fun r hr => Option.some.inj hr ▸ ⟨hsc, fun _ => rfl⟩
    clear_value s1
    simp [h1]
  · next r hr =>
    obtain ⟨hrs, hra⟩ := run_inOrder ho hr
    extract_lets deeper r1 src s1
    have h1 : s1.InOrder := by
      refine (amendReset_inOrder ..).mpr (setCtl_run_inOrder ho fun r' hr' => Option.some.inj hr' ▸ ⟨?_, fun h0 => ?_⟩)
      · exact (Nat.min_le_left ..).trans hrs
      · have h0 : min r.scope scope = 0 := h0
        by_cases hr0 : r.scope = 0
        · simp [r1, hra hr0]
        · simp [r1, deeper, show scope < r.scope by omega]
    clear_value s1
    simp [h1]

@[simp ↓] theorem writeReset_inOrder {s : State} (ho : s.InOrder) (cell : Nat) (v : Word) : (s.writeReset cell v).InOrder := by
  unfold State.writeReset
  split
  · simp [ho]
  · split <;> simp [ho]

@[simp ↓] theorem writeBrst_inOrder {s : State} (ho : s.InOrder) (cell : Nat) (v : Word) : (s.writeBrst cell v).InOrder := by
  unfold State.writeBrst
  simp [ho]

theorem execSys_inOrder {s : State} (ho : s.InOrder) (w : Who) : OutInOrder (execSys w s) := by
  unfold execSys
  simp [ho]

theorem execFull_inOrder {s : State} (ho : s.InOrder) (w : Who) : OutInOrder (execFull w s) := by
  unfold execFull
  simp [ho]

theorem execCtlBrstWrite_inOrder {s : State} (ho : s.InOrder) (w : Who) (v : Word) : OutInOrder (execCtlBrstWrite w v s) := by
  unfold execCtlBrstWrite
  simp [ho]

@[simp ↓] theorem writeWdkick_inOrder (s : State) (cell : Nat) (v : Word) : (s.writeWdkick cell v).InOrder ↔ s.InOrder := by
  unfold State.writeWdkick
  simp

theorem execCtlWdkickWrite_inOrder {s : State} (ho : s.InOrder) (w : Who) (v : Word) : OutInOrder (execCtlWdkickWrite w v s) := by
  unfold execCtlWdkickWrite
  simp [ho]

theorem execCtlWatchdog_inOrder {s : State} (ho : s.InOrder) : OutInOrder (execCtlWatchdog s) := by
  unfold execCtlWatchdog
  dsimp only
  split <;> simp [ho]

theorem execCtlWedge_inOrder {s : State} (ho : s.InOrder) : OutInOrder (execCtlWedge s) := by
  unfold execCtlWedge
  dsimp only
  split <;> simp [ho]

@[simp ↓] theorem placerEcc_inOrder {s : State} (ho : s.InOrder) : s.placerEcc.InOrder := by
  unfold State.placerEcc
  simp [ho]

theorem execEngineGrant_inOrder {s : State} (ho : s.InOrder) (k : GrantCheck) : OutInOrder (execEngineGrant k s) := by
  unfold execEngineGrant
  split <;> simp [ho]

theorem execReplan_inOrder {s : State} (ho : s.InOrder) (e : Ecc) : OutInOrder (execReplan e s) := by
  unfold execReplan
  split
  · simp [ho]
  · split
    · simp [ho]
    · dsimp only
      split
      · split <;> simp [ho]
      · split <;> simp [ho]

@[simp ↓] theorem ctlApplied_inOrder (old s : State) : (State.ctlApplied old s).InOrder ↔ s.InOrder := by
  unfold State.ctlApplied
  simp

/-! ### Resets -/

@[simp ↓] theorem clearRegs_inOrder {s : State} (ho : s.InOrder) (p : Nat → Bool) : (s.clearRegs p).InOrder :=
  (filter_shd_pend_inOrder ho (fun e => !p e.1) (fun e => !p e.1)).congr

@[simp ↓] theorem loadRegs_inOrder (s : State) (p : Nat → Bool) (n : Nat) : (s.loadRegs p n).InOrder ↔ s.InOrder := by
  unfold State.loadRegs
  simp

@[simp ↓] theorem closeSession_inOrder (s : State) (sid reason : Nat) : (s.closeSession sid reason).InOrder ↔ s.InOrder := by
  unfold State.closeSession
  simp

@[simp ↓] theorem closeAll_inOrder (s : State) : s.closeAll.InOrder ↔ s.InOrder := by
  unfold State.closeAll
  simp

@[simp ↓] theorem endLocal_inOrder (s : State) : s.endLocal.InOrder ↔ s.InOrder := by
  unfold State.endLocal
  simp

/-- No trace buffer is kept. -/
theorem with_traces_nil_inOrder {s : State} (ho : s.InOrder) : State.InOrder { s with traces := [] } := by
  obtain ⟨hl, hs, hp, hpend, hshd, hsv, -, hrest⟩ := ho
  exact ⟨hl, hs, hp, hpend, hshd, hsv, fun _ h => (nomatch h), hrest⟩

@[simp ↓] theorem assertBlock_inOrder {s : State} (ho : s.InOrder) (b : Nat) : (s.assertBlock b).InOrder := by
  unfold State.assertBlock
  extract_lets held links s00 s0 s1
  have h00 : s00.InOrder := foldl_inOrder ho fun s n _ ho => storeUndone_inOrder ho n
  clear_value s00
  have h0 : s0.InOrder := by simp [s0, h00]
  clear_value s0
  have h1 : s1.InOrder := by simp [s1, h0]
  clear_value s1
  split
  any_goals simp [h1]
  exact with_traces_nil_inOrder h1

@[simp ↓] theorem hstStart_inOrder (s : State) : s.hstStart.InOrder ↔ s.InOrder := by
  unfold State.hstStart
  simp

@[simp ↓] theorem startBlock_inOrder {s : State} (ho : s.InOrder) (b : Nat) : (s.startBlock b).InOrder := by
  unfold State.startBlock
  split <;> simp [ho]

@[simp ↓] theorem leavePosture_inOrder (s : State) (bs : List Nat) : (s.leavePosture bs).InOrder ↔ s.InOrder := by
  unfold State.leavePosture
  simp

@[simp ↓] theorem hwkFresh_inOrder (s0 : State) : s0.hwkFresh.InOrder ↔ s0.InOrder := by
  unfold State.hwkFresh
  split <;> simp

@[simp ↓] theorem assertSystem_inOrder {s : State} (ho : s.InOrder) : s.assertSystem.InOrder := by
  unfold State.assertSystem
  extract_lets s1 held links s2 s3 s4 s5 src
  have h1 : s1.InOrder := foldl_inOrder ho fun s b _ ho => assertBlock_inOrder ho b
  clear_value s1
  have h2 : s2.InOrder := clearRegs_inOrder h1 _
  clear_value s2
  have h3 : s3.InOrder := (foldl_inOrder_iff _ _ _ fun _ _ => loadRegs_inOrder ..).mpr h2
  clear_value s3
  have h4 : s4.InOrder := by simp [s4, h3]
  clear_value s4
  have h5 : s5.InOrder := (with_loops_inOrder h4 rfl).congr
  clear_value s5
  exact setCtl_run_inOrder ((hwkFresh_inOrder s5).mpr h5) fun r hr => run_inOrder h5 hr

@[simp ↓] theorem setCause_inOrder (s : State) (scope cause : Nat) (blocks : Option Nat) :
    (s.setCause scope cause blocks).InOrder ↔ s.InOrder := by
  unfold State.setCause
  split <;> simp

@[simp ↓] theorem porState_inOrder {s : State} (ho : s.InOrder) (cause : Nat) : (s.porState cause).InOrder := by
  unfold State.porState
  extract_lets rtcReg keep src1 src2 src3 src4 src5 t u
  have ht : t.InOrder := by
    unfold t
    obtain ⟨-, hs, hp, hpend, hshd, hsv, -⟩ := ho
    exact ⟨rfl, mRising_filter 0 _ _ hs, mRising_filter 0 _ _ hp, fun e he => hpend e (List.mem_of_mem_filter he),
      fun e he => hshd e (List.mem_of_mem_filter he), hsv, fun _ h => (nomatch h), Nat.zero_le 5, fun h => (nomatch h),
      fun _ h => nomatch h⟩
  clear_value t
  have hu : u.InOrder := by simp [u, ht]
  simp [hu]

@[simp ↓] theorem assertReset_inOrder {s : State} (ho : s.InOrder) {r : ResetRun} (hr : r.scope ≤ 2) : (s.assertReset r).InOrder := by
  have hrun : ∀ {s : State}, s.InOrder → r.scope ≠ 0 → (s.setCtl { s.ctl with run := some { r with asserted := true } }).InOrder :=
    fun hs h0 => setCtl_run_inOrder hs fun r' hr' => Option.some.inj hr' ▸ ⟨hr, fun h => absurd h h0⟩
  unfold State.assertReset
  split
  · simp [ho]
  · next h => exact (setCause_inOrder ..).mpr (hrun (assertSystem_inOrder ho) (by omega))
  · next h _ => exact (setCause_inOrder ..).mpr (hrun (foldl_inOrder ho fun s b _ ho => assertBlock_inOrder ho b) h)

theorem execResetAssert_inOrder {s : State} (ho : s.InOrder) : OutInOrder (execResetAssert s) := by
  unfold execResetAssert
  split
  · simp [ho]
  · next r hr => exact .ite (by simp [ho]) (next_inOrder.mpr (assertReset_inOrder ho (run_inOrder ho hr).1))

@[simp ↓] theorem startPairs_inOrder (s : State) (failed : List Nat) : (s.startPairs failed).InOrder ↔ s.InOrder := by
  unfold State.startPairs
  simp

@[simp ↓] theorem bootHouse_inOrder (s : State) : s.bootHouse.InOrder ↔ s.InOrder := by
  unfold State.bootHouse
  split
  · simp
  · split <;> simp

@[simp ↓] theorem startShed_inOrder (s : State) : s.startShed.InOrder ↔ s.InOrder := by
  unfold State.startShed
  simp

@[simp ↓] theorem startAll_inOrder {s : State} (ho : s.InOrder) (failed : List Nat) : (s.startAll failed).InOrder := by
  unfold State.startAll
  extract_lets s1
  have h1 : s1.InOrder := (startShed_inOrder _).mpr (foldl_inOrder ho fun s b _ ho => startBlock_inOrder ho b)
  clear_value s1
  simp [h1]

@[simp ↓] theorem releaseSystem_inOrder {s : State} (ho : s.InOrder) (failed : List Nat) : (s.releaseSystem failed).InOrder := by
  unfold State.releaseSystem
  extract_lets src s1
  have h1 : s1.InOrder := setCtl_run_inOrder ho fun _ h => nomatch h
  clear_value s1
  simp [h1]

@[simp ↓] theorem releaseBlocks_inOrder {s : State} (ho : s.InOrder) (r : ResetRun) : (s.releaseBlocks r).InOrder := by
  unfold State.releaseBlocks
  extract_lets bs src s1 s2
  have h1 : s1.InOrder := foldl_inOrder (setCtl_run_inOrder ho fun _ h => nomatch h) fun s b _ ho => startBlock_inOrder ho b
  clear_value s1
  have h2 : s2.InOrder := by simp [s2, h1]
  clear_value s2
  simp [h2]

theorem execResetRelease_inOrder {s : State} (ho : s.InOrder) (failed : List Nat) : OutInOrder (execResetRelease failed s) := by
  unfold execResetRelease
  split
  · simp [ho]
  · split <;> simp [ho]

@[simp ↓] theorem startBackup_inOrder {s : State} (ho : s.InOrder) (lost : Bool) : (s.startBackup lost).InOrder := by
  unfold State.startBackup
  simp [ho]

@[simp ↓] theorem firstSample_inOrder (s : State) (a b : Int) : (s.firstSample a b).InOrder ↔ s.InOrder := by
  unfold State.firstSample
  extract_lets v s2
  have h2 : s2.InOrder ↔ s.InOrder := by simp [s2]
  clear_value s2
  split
  · exact h2
  · exact ((setPwr_inOrder _ rfl rfl).trans (setRegB_inOrder ..)).trans h2

theorem execCtlStart_inOrder {s : State} (ho : s.InOrder) : OutInOrder (execCtlStart s) := by
  unfold execCtlStart
  split
  · simp [ho]
  · split <;> simp [ho]

theorem execCtlCensusLate_inOrder {s : State} (ho : s.InOrder) : OutInOrder (execCtlCensusLate s) := by
  unfold execCtlCensusLate
  dsimp only
  split <;> simp [ho]

/-! ### Clocks -/

@[simp ↓] theorem changeCore_inOrder (s : State) (new : Nat) : (s.changeCore new).InOrder ↔ s.InOrder := by
  unfold State.changeCore
  simp

@[simp ↓] theorem clkApplied_inOrder (s : State) : s.clkApplied.InOrder ↔ s.InOrder := by
  unfold State.clkApplied
  simp

@[simp ↓] theorem planhzApplied_inOrder (s : State) : s.planhzApplied.InOrder ↔ s.InOrder := by
  unfold State.planhzApplied
  simp

@[simp ↓] theorem startRelock_inOrder (s : State) : s.startRelock.InOrder ↔ s.InOrder := by
  unfold State.startRelock
  extract_lets s1 src s2 s3 s4 src'
  have h1 : s1.InOrder ↔ s.InOrder := by simp [s1]
  clear_value s1
  have h2 : s2.InOrder ↔ s1.InOrder := by simp [s2]
  clear_value s2
  have h3 : s3.InOrder ↔ s2.InOrder := by simp [s3]
  clear_value s3
  have h4 : s4.InOrder ↔ s3.InOrder := by simp [s4]
  clear_value s4
  simp [src', h1, h2, h3, h4]

@[simp ↓] theorem lockChecked_inOrder (s : State) (checks : List Nat) : (s.lockChecked checks).InOrder ↔ s.InOrder := by
  unfold State.lockChecked
  split <;> simp

theorem execPllLockLoss_inOrder {s : State} (ho : s.InOrder) (checks : List Nat) : OutInOrder (execPllLockLoss checks s) := by
  unfold execPllLockLoss
  split
  · simp [ho]
  · split <;> simp [ho]

@[simp ↓] theorem cmdRelock_inOrder (s : State) (cell : Nat) : (s.cmdRelock cell).InOrder ↔ s.InOrder := by
  unfold State.cmdRelock
  simp

theorem execRelock_inOrder {s : State} (ho : s.InOrder) (w : Who) : OutInOrder (execRelock w s) := by
  unfold execRelock
  simp [ho]

@[simp ↓] theorem repeatSlots_inOrder {s : State} (ho : s.InOrder) : s.repeatSlots.InOrder := by
  unfold State.repeatSlots
  simp [ho]

@[simp ↓] theorem endRelock_inOrder {s : State} (ho : s.InOrder) (r : Relock) (count : Nat) : (s.endRelock r count).InOrder := by
  unfold State.endRelock
  extract_lets us s1 s2 src s3 src' src'' s4
  have h2 : s2.InOrder := by simp [s2, s1, ho]
  clear_value s2
  have h3 : s3.InOrder := by simp [s3, src, h2]
  clear_value s3
  have h4 : s4.InOrder := by simp [s4, src', h3]
  clear_value s4
  simp [h4]

theorem execClkRelock_inOrder {s : State} (ho : s.InOrder) (checks : List Nat) : OutInOrder (execClkRelock checks s) := by
  unfold execClkRelock
  split
  · simp [ho]
  · split <;> simp [ho]

@[simp ↓] theorem clockFailed_inOrder {s : State} (ho : s.InOrder) (cause : Nat) : (s.clockFailed cause).InOrder := by
  unfold State.clockFailed
  extract_lets src s1 s2 src'
  have h1 : s1.InOrder := by simp [s1, src, ho]
  clear_value s1
  have h2 : s2.InOrder := by simp [s2, h1]
  clear_value s2
  refine .ite ((islandTrigger_inOrder ..).mpr (setCtl_run_inOrder h2 fun r hr => ?_)) h2
  obtain ⟨r', hr0, rfl⟩ := Option.map_eq_some_iff.mp hr
  exact run_inOrder h2 (r := r') hr0

theorem execRelockAttemptTimeout_inOrder {s : State} (ho : s.InOrder) : OutInOrder (execRelockAttemptTimeout s) := by
  unfold execRelockAttemptTimeout
  split
  · simp [ho]
  · split
    · simp [ho]
    · split <;> simp [ho]

theorem execClkRootFail_inOrder {s : State} (ho : s.InOrder) (kind : Nat) (dev : Int) : OutInOrder (execClkRootFail kind dev s) := by
  unfold execClkRootFail
  dsimp only
  split <;> simp [ho]

theorem execIslandRetry_inOrder {s : State} (ho : s.InOrder) (rootOk pllOk : Bool) : OutInOrder (execIslandRetry rootOk pllOk s) := by
  unfold execIslandRetry
  split
  · simp [ho]
  · dsimp only
    split <;> simp [ho]

@[simp ↓] theorem dtblRead_inOrder (s : State) (b : Nat) : (s.dtblRead b).InOrder ↔ s.InOrder := by
  unfold State.dtblRead
  simp

theorem execClkDtblRead_inOrder {s : State} (ho : s.InOrder) (w : Who) : OutInOrder (execClkDtblRead w s) := by
  unfold execClkDtblRead
  simp [ho]

/-! ### Floating-point instructions -/

theorem execFadd_inOrder {s : State} (ho : s.InOrder) (l : Nat) (d a b : Reg) : OutInOrder (execFadd l d a b s) := by
  unfold execFadd
  simp [ho]

theorem execFsub_inOrder {s : State} (ho : s.InOrder) (l : Nat) (d a b : Reg) : OutInOrder (execFsub l d a b s) := by
  unfold execFsub
  simp [ho]

theorem execFmul_inOrder {s : State} (ho : s.InOrder) (l : Nat) (d a b : Reg) : OutInOrder (execFmul l d a b s) := by
  unfold execFmul
  simp [ho]

theorem execFdiv_inOrder {s : State} (ho : s.InOrder) (l : Nat) (d a b : Reg) : OutInOrder (execFdiv l d a b s) := by
  unfold execFdiv
  simp [ho]

theorem execFma_inOrder {s : State} (ho : s.InOrder) (l : Nat) (d a b : Reg) : OutInOrder (execFma l d a b s) := by
  unfold execFma
  simp [ho]

theorem execFmin_inOrder {s : State} (ho : s.InOrder) (l : Nat) (d a b : Reg) : OutInOrder (execFmin l d a b s) := by
  unfold execFmin
  simp [ho]

theorem execFmax_inOrder {s : State} (ho : s.InOrder) (l : Nat) (d a b : Reg) : OutInOrder (execFmax l d a b s) := by
  unfold execFmax
  simp [ho]

theorem execFsqrt_inOrder {s : State} (ho : s.InOrder) (l : Nat) (d a : Reg) : OutInOrder (execFsqrt l d a s) := by
  unfold execFsqrt
  simp [ho]

theorem execFabs_inOrder {s : State} (ho : s.InOrder) (l : Nat) (d a : Reg) : OutInOrder (execFabs l d a s) := by
  unfold execFabs
  simp [ho]

theorem execFneg_inOrder {s : State} (ho : s.InOrder) (l : Nat) (d a : Reg) : OutInOrder (execFneg l d a s) := by
  unfold execFneg
  simp [ho]

theorem execFcvti_inOrder {s : State} (ho : s.InOrder) (l : Nat) (d a : Reg) : OutInOrder (execFcvti l d a s) := by
  unfold execFcvti
  simp [ho]

theorem execFcvtf_inOrder {s : State} (ho : s.InOrder) (l : Nat) (d a : Reg) : OutInOrder (execFcvtf l d a s) := by
  unfold execFcvtf
  simp [ho]

theorem execFcmp_inOrder {s : State} (ho : s.InOrder) (l : Nat) (a b : Reg) : OutInOrder (execFcmp l a b s) := by
  unfold execFcmp
  simp [ho]

/-! ### Tiers -/

@[simp ↓] theorem tierTo_inOrder {s : State} (ho : s.InOrder) {n : Nat} (hn : n ≤ 4) : (s.tierTo n).InOrder := by
  unfold State.tierTo
  extract_lets p s1 s2
  have h1 : s1.InOrder := setPwr_depth_inOrder ho (Nat.le_succ_of_le hn) fun h => absurd h (Nat.ne_of_lt (Nat.lt_succ_of_le hn))
  clear_value s1
  simp [s2, h1]

@[simp ↓] theorem downReset_inOrder {s : State} (ho : s.InOrder) (cause : Nat) : (s.downReset cause).InOrder := by
  unfold State.downReset
  extract_lets r
  have hr : r.scope = 0 ∧ r.asserted = false := by
    unfold r
    split <;> exact ⟨rfl, rfl⟩
  clear_value r
  obtain ⟨hr0, hra⟩ := hr
  refine (islandTrigger_inOrder ..).mpr ((amendReset_inOrder ..).mpr (setCtl_run_inOrder ho fun r' hr' => ?_))
  obtain rfl := Option.some.inj hr'
  exact ⟨by omega, fun _ => hra⟩

/-- T5 starts the power-down (R492): its state is in order though the depth stood at 5 without one. -/
theorem powerDown_inOrder_of {s t : State} (ho : s.InOrder) (hl : t.loops = s.loops) (hs : t.shd = s.shd) (hp : t.pend = s.pend)
    (hv : t.sv.chans = s.sv.chans) (ht : t.traces = s.traces) (hr : t.ctl.run = s.ctl.run) (hd : t.pwr.deepest ≤ 5) :
    t.powerDown.InOrder := by
  unfold State.powerDown
  extract_lets why p s0 low start s1
  refine downReset_inOrder ?_ _
  have h : (s.setPwr { p with down := some why, thermalHold := why == 1 }).InOrder := setPwr_depth_inOrder ho hd fun _ h => nomatch h
  have h0 : s0 = t ∨ s0 = t.draw.draw := by
    unfold s0
    split
    · exact .inl rfl
    · exact .inr rfl
  clear_value s0
  rcases h0 with rfl | rfl <;> exact h.congr (by simp [s1, hl]) (by simp [s1, hs]) (by simp [s1, hp]) (by simp [s1, hv]) (by simp [s1, ht])
      rfl rfl (by simp [s1, hr])

@[simp ↓] theorem powerDown_inOrder {s : State} (ho : s.InOrder) : s.powerDown.InOrder :=
  powerDown_inOrder_of ho rfl rfl rfl rfl rfl rfl (depth_inOrder ho).1

@[simp ↓] theorem shedTier_inOrder {s : State} (ho : s.InOrder) (n : Nat) : (s.shedTier n).InOrder := by
  unfold State.shedTier
  split
  · simp [ho]
  · simp [ho]
  · exact replan_inOrder ((shedDrained_inOrder _).mpr ((pmFreeze_inOrder ..).mpr (storeUndone_inOrder (by simp [ho]) 1))) _
  · simp [ho]
  · exact powerDown_inOrder ho

@[simp ↓] theorem returnTier_inOrder {s : State} (ho : s.InOrder) (n : Nat) : (s.returnTier n).InOrder := by
  unfold State.returnTier
  split <;> simp [ho]

@[simp ↓] theorem powerUpFor_inOrder (s : State) (n : Nat) : (s.powerUpFor n).InOrder ↔ s.InOrder := by
  unfold State.powerUpFor
  simp

theorem showSamples_pwr (s : State) (a b : List Nat) : (s.showSamples a b).pwr = s.pwr := by
  have h : ∀ (s : State) (i : Nat) (vs : List Nat), (s.showSample i vs).pwr = s.pwr := fun s i vs => by
    unfold State.showSample
    split
    · rfl
    · split <;> rfl
  exact (h _ 1 b).trans (h _ 0 a)

theorem demandsMoved_down (s : State) : s.demandsMoved.pwr.down = s.pwr.down := by
  unfold State.demandsMoved
  split_ifs <;> rfl

/-- What the samples of a dip show changes no power-down. -/
theorem dipDemand_down (s : State) (a b : List Nat) : (s.dipDemand a b).pwr.down = s.pwr.down := by
  unfold State.dipDemand
  extract_lets s0 p v low s1
  have h0 : s0.pwr = s.pwr := showSamples_pwr s a b
  clear_value s0
  split
  · rw [h0]
  · have h1 : s1.pwr.down = s0.pwr.down := rfl
    rw [demandsMoved_down, setRegF_pwr, h1, h0]

theorem tierTo_deepest (s : State) (n : Nat) : (s.tierTo n).pwr.deepest = n := by
  unfold State.tierTo
  rw [setRegF_pwr, setRegF_pwr]
  rfl

/-- What a deeper tier leaves alone. -/
theorem tierTo_frame (s : State) (n : Nat) : (s.tierTo n).loops = s.loops ∧ (s.tierTo n).shd = s.shd ∧ (s.tierTo n).pend = s.pend ∧
    (s.tierTo n).sv = s.sv ∧ (s.tierTo n).traces = s.traces ∧ (s.tierTo n).ctl = s.ctl := by
  unfold State.tierTo
  dsimp only
  exact ⟨by rw [setRegF_loops, setRegF_loops, setPwr_loops], by rw [setRegF_shd, setRegF_shd, setPwr_shd],
    by rw [setRegF_pend, setRegF_pend, setPwr_pend], by rw [setRegF_sv, setRegF_sv, setPwr_sv],
    by rw [setRegF_traces, setRegF_traces, setPwr_traces], by rw [setRegF_ctl, setRegF_ctl, setPwr_ctl]⟩

theorem shedTier_five (s : State) : s.shedTier 5 = s.powerDown := rfl

theorem execTierTakeEffect_inOrder {s : State} (ho : s.InOrder) (a b : List Nat) : OutInOrder (execTierTakeEffect a b s) := by
  unfold execTierTakeEffect
  split
  · simp [ho]
  · next hdown =>
    extract_lets s1 n src s2
    have h1 : s1.InOrder := by simp [s1, ho]
    have hnone : s1.pwr.down = none := by
      rw [dipDemand_down]
      exact Option.not_isSome_iff_eq_none.mp fun h => hdown (by simp [h])
    clear_value s1
    obtain ⟨hd, hw⟩ := depth_inOrder h1
    have h2 : s2.InOrder := by simp [s2, src, h1]
    refine .ite (by simp [h1]) (next_inOrder.mpr ?_)
    have hn : n ≤ 5 := by
      by_contra hn
      exact hw (by omega) hnone
    rcases Nat.lt_or_eq_of_le hn with hn4 | hn5
    · exact shedTier_inOrder ((setRegB_inOrder ..).mpr (tierTo_inOrder h2 (by omega))) n
    · clear_value s2
      obtain ⟨hl, hs, hp, hv, ht, hc⟩ := tierTo_frame s2 5
      rw [hn5, shedTier_five]
      exact powerDown_inOrder_of h2 (by rw [setRegB_loops, hl]) (by rw [setRegB_shd, hs]) (by rw [setRegB_pend, hp])
        (by rw [setRegB_sv, hv]) (by rw [setRegB_traces, ht]) (by rw [setRegB_ctl, hc]) (by rw [setRegB_pwr, tierTo_deepest])

theorem execTierRestore_inOrder {s : State} (ho : s.InOrder) : OutInOrder (execTierRestore s) := by
  unfold execTierRestore
  extract_lets n s0 src s1
  refine .ite (next_inOrder.mpr ho) ?_
  obtain ⟨hd, -⟩ := depth_inOrder ho
  have h0 : s0.InOrder := tierTo_inOrder (by simp [ho]) (by omega)
  clear_value s0
  have h1 : s1.InOrder := by simp [s1, src, h0]
  clear_value s1
  simp [h1]

theorem execThermalRestart_inOrder {s : State} (ho : s.InOrder) (tb : Int) : OutInOrder (execThermalRestart tb s) := by
  unfold execThermalRestart
  split <;> simp [ho]

end Sys2Proof.Machine
end

section
/-! SUPPORT. The order of the state kept (R44, R45, R485, R492, R509): register accesses, sessions and instructions. -/
namespace Sys2Proof.Machine

/-! ### Register writes -/

@[simp ↓] theorem regRead_inOrder (s : State) (w : Who) (a : Nat) : (s.regRead w a).InOrder ↔ s.InOrder := by
  unfold State.regRead
  simp

@[simp ↓] theorem recApplied_inOrder (old s : State) : (State.recApplied old s).InOrder ↔ s.InOrder := by
  unfold State.recApplied
  simp

/-- The staged pages of SV are those of its 24 channels and the page before them. -/
theorem svPage_lt {page : Nat} (hst : stagedPage page = true) (hhi : page < 0x40480000) : page < 0x40419000 := by
  by_cases hlo : page < 0x40400000
  · omega
  have hb : blockRegs page = regsSV := by
    unfold blockRegs
    repeat rw [if_neg (by omega)]
    rw [if_pos hhi]
  have hall :
      (regsSV.all fun r => (List.range r.n1).all fun i => r.staged == 0 || decide ((r.base + i * r.s1) / 0x1000 * 0x1000 < 0x40419000)) =
      true := by
    decide
  rw [stagedPage, hb] at hst
  obtain ⟨r, hr, h⟩ := List.any_eq_true.mp hst
  obtain ⟨hs, h⟩ := Bool.and_eq_true_iff.mp h
  obtain ⟨i, hi, h⟩ := List.any_eq_true.mp h
  have := List.all_eq_true.mp (List.all_eq_true.mp hall r hr) i hi
  simp_all

@[simp ↓] theorem pageApplied_inOrder (old : State) {s : State} (ho : s.InOrder) {page : Nat} (hst : stagedPage page = true) :
    (State.pageApplied old s page).InOrder := by
  unfold State.pageApplied
  refine .ite (by simp [ho]) <| .ite (by simp [ho]) <| .ite (by simp [ho]) <| .ite (by simp [ho]) <| .ite (by simp [ho]) <|
    .ite (by simp [ho]) <| .ite ho <| .ite (by simp [ho]) <| .ite (by simp [ho]) <| .ite (by simp [ho]) <| .ite (by simp [ho]) <|
    .ite (by simp [ho]) <| .ite (by simp [ho]) <| .ite (by simp [ho]) <| .ite (by simp [ho]) <| .ite (by simp [ho]) ?_
  split
  · next h =>
    have := svPage_lt hst h
    exact svApplied_inOrder old ho (by unfold pageNo; omega)
  · refine .ite (by simp [ho]) <| .ite (by simp [ho]) <| .ite (by simp [ho]) <| .ite (by simp [ho]) <| .ite (by simp [ho]) ?_
    split
    · exact trcApplied_inOrder old ho (by unfold pageNo; omega)
    · exact ho

@[simp ↓] theorem beforeApply_inOrder (s : State) (page : Nat) : (s.beforeApply page).InOrder ↔ s.InOrder := by
  unfold State.beforeApply
  simp

@[simp ↓] theorem applyPages_inOrder {s : State} (ho : s.InOrder) {pages : List Nat} (hp : ∀ p ∈ pages, stagedPage p = true) :
    (s.applyPages pages).InOrder := by
  unfold State.applyPages
  extract_lets s0 s1
  have h0 : s0.InOrder := foldl_inOrder ho fun s p _ ho => (beforeApply_inOrder s p).mpr ho
  clear_value s0
  have h1 : s1.InOrder := foldl_inOrder h0 fun s p _ ho => commitPage_inOrder ho p
  exact foldl_inOrder h1 fun s p hm ho => pageApplied_inOrder s0 ho (hp p hm)

@[simp ↓] theorem acceptApply_inOrder {s : State} (ho : s.InOrder) {page : Nat} (hp : page % 0x1000 = 0) (hst : stagedPage page = true)
    (cell : Nat) :
    (s.acceptApply page cell).InOrder := by
  unfold State.acceptApply
  extract_lets r
  split
  · exact ho
  · next hn =>
    refine .ite ((setRegB_inOrder ..).mpr ?_) (by simp [ho])
    obtain ⟨hl, hs, hpr, hpend, hrest⟩ := ho
    refine ⟨hl, hs, mRising_mins 0 page _ _ (Nat.zero_le page) hpr (mdel_of_not_mhas (Bool.eq_false_of_not_eq_true hn)), fun e he => ?_,
        hrest⟩
    rcases mem_mins he with rfl | he
    · exact ⟨hp, hst⟩
    · exact hpend e he

@[simp ↓] theorem writeApply_inOrder {s : State} (ho : s.InOrder) {page : Nat} (hp : page % 0x1000 = 0) (hst : stagedPage page = true)
    (cell cmd : Nat) :
    (s.writeApply page cell cmd).InOrder := by
  unfold State.writeApply
  simp [ho, hp, hst]

/-- Whether the addresses a line covers lie before the last two words of their page, where the line is of staged registers. -/
def RegRow.stagedLow (r : RegRow) : Bool :=
  r.staged == 0 || decide (r.base % 0x1000 + (if r.s1 % 0x1000 = 0 then 0 else (r.n1 - 1) * r.s1) + (r.n2 - 1) * r.s2 < 0xFF8)

theorem blockRegs_stagedLow {a : Nat} {r : RegRow} (h : r ∈ blockRegs a) : r.stagedLow = true := by
  have hall : [regsCTL, regsPWR, regsCLK, regsPLC, regsHWK, regsFE, regsCOL, regsLAT, regsCAN, regsSV, regsFAN, regsDIO, regsREC,
      regsRTC, regsHST, regsTAG, regsTRC, []].all (·.all RegRow.stagedLow) = true := by decide
  have hmem : blockRegs a ∈ [regsCTL, regsPWR, regsCLK, regsPLC, regsHWK, regsFE, regsCOL, regsLAT, regsCAN, regsSV, regsFAN, regsDIO,
      regsREC, regsRTC, regsHST, regsTAG, regsTRC, []] := by
    have hite : ∀ (c : Prop) [Decidable c] (x y : List RegRow) (l : List (List RegRow)), x ∈ l → y ∈ l → (if c then x else y) ∈ l :=
      fun c _ x y l hx hy => by split <;> assumption
    unfold blockRegs
    repeat' refine hite _ _ _ _ ?_ ?_
    all_goals simp only [List.mem_cons, true_or, or_true]
  exact List.all_eq_true.mp (List.all_eq_true.mp hall _ hmem) r h

/-- A staged register lies before BLOCK_APPLY and STAGE of its page (R44). -/
theorem staged_lt {a : Nat} {r : RegRow} (hr : regRow a = some r) (hst : r.staged ≠ 0) : a % 0x1000 < 0xFF8 := by
  have hlow := blockRegs_stagedLow (List.mem_of_find?_eq_some hr)
  have hc : r.covers a = true := by simpa using List.find?_some hr
  simp only [RegRow.stagedLow, beq_eq_false_iff_ne.mpr hst, Bool.false_or, decide_eq_true_eq] at hlow
  simp only [RegRow.covers, Bool.and_eq_true, decide_eq_true_eq, beq_iff_eq] at hc
  obtain ⟨⟨⟨hb, hn1⟩, he⟩, hn2⟩ := hc
  have h1 := Nat.div_add_mod (a - r.base) r.s1
  have h2 := Nat.div_add_mod ((a - r.base) % r.s1) r.s2
  have hj := Nat.mul_le_mul_right r.s2 (Nat.le_sub_one_of_lt hn2)
  rw [he, Nat.mul_comm] at h2
  rw [Nat.mul_comm] at h1
  split at hlow
  · next hs =>
    obtain ⟨k, hk⟩ := Nat.dvd_of_mod_eq_zero hs
    have hpage : (a - r.base) / r.s1 * r.s1 = 0x1000 * (k * ((a - r.base) / r.s1)) := by rw [hk]; ring
    omega
  · have hi := Nat.mul_le_mul_right r.s1 (Nat.le_sub_one_of_lt hn1)
    omega

@[simp ↓] theorem plainWrite_inOrder {s : State} (ho : s.InOrder) (k : Nat) (v : Word) (cell : Nat) : (s.plainWrite k v cell).InOrder := by
  unfold State.plainWrite
  extract_lets a
  refine .ite (by simp [ho]) ?_
  split
  · exact ho
  · next r hr =>
    extract_lets new s1
    have h1 : s1.InOrder := by simp [s1, ho]
    clear_value s1
    split
    · exact h1
    · next hst => exact writeStaged_inOrder h1 (staged_lt hr hst) ..

@[simp ↓] theorem descEcc_inOrder (s : State) (c : Nat) (v : Word) (es : List (Nat × Ecc)) : (s.descEcc c v es).InOrder ↔ s.InOrder := by
  unfold State.descEcc
  simp

@[simp ↓] theorem writeSubmit_inOrder {s : State} (ho : s.InOrder) (w : Who) (v : Word) : (s.writeSubmit w v).InOrder := by
  unfold State.writeSubmit
  simp [ho]

@[simp ↓] theorem writeCancel_inOrder (s : State) (w : Who) (v : Word) : (s.writeCancel w v).InOrder ↔ s.InOrder := by
  unfold State.writeCancel
  simp

@[simp ↓] theorem coreCmd_inOrder {s : State} (ho : s.InOrder) (w : Who) (a : Nat) (v : Word) : SomeInOrder (s.coreCmd w a v) := by
  unfold State.coreCmd
  extract_lets c s1
  have h1 : s1.InOrder := by simp [s1, ho]
  clear_value s1
  refine .ite (fun _ => by simp [ho]) <| .ite (fun _ => by simp [ho]) <| .ite (fun _ => by simp [ho]) <| .ite (fun _ => by simp [h1]) <|
    .ite (fun _ => by simp [ho]) <| .ite (fun _ => by simp [ho]) <| .ite (fun _ => by simp [ho]) <| .ite (fun _ => by simp [ho]) <|
    .ite (fun _ => by simp [ho]) <| .ite (fun _ => by simp [ho]) <| .ite (fun _ => by simp [ho]) <| .ite (fun _ => by simp [ho]) ?_
  simp

@[simp ↓] theorem linkCmd_inOrder {s : State} (ho : s.InOrder) (a : Nat) (v : Word) : SomeInOrder (s.linkCmd a v) := by
  unfold State.linkCmd
  extract_lets n
  refine .ite (fun _ => by simp [ho]) <| .ite (fun _ => by simp [ho]) <| .ite (fun _ => by simp [ho]) <| .ite (fun _ => by simp [ho]) <|
    .ite (fun _ => by simp [ho]) <| .ite (fun _ => by simp [ho]) <| .ite (fun _ => by simp [ho]) <| .ite (fun _ => by simp [ho]) <|
    .ite (fun _ => by simp [ho]) <| .ite (fun _ => by simp) <| .ite (fun _ => by simp [ho]) <| .ite (fun _ => by simp [ho]) <|
    .ite (fun _ => by simp [ho]) <| .ite (fun _ => by simp [ho]) ?_
  simp

@[simp ↓] theorem sideCmd_inOrder {s : State} (ho : s.InOrder) (w : Who) (a : Nat) (v : Word) : SomeInOrder (s.sideCmd w a v) := by
  unfold State.sideCmd
  extract_lets clear s1
  have h1 : s1.InOrder := by simp [s1, ho]
  clear_value s1 clear
  refine .ite (fun _ => by simp [ho]) <| .ite (fun h => ?_) <| .ite (fun _ => by simp [ho]) <| .ite (fun _ => by simp [ho]) <|
    .ite (fun _ => by simp [h1]) <| .ite (fun _ => by simp [ho]) <| .ite (fun _ => by simp [ho]) <| .ite (fun _ => by simp [ho]) <|
    .ite (fun _ => by simp [ho]) <| .ite (fun _ => by simp [ho]) <| .ite (fun h => ?_) ?_
  · obtain ⟨hlo, hhi, -⟩ := h
    exact some_inOrder.mpr (.ite (svClear_inOrder ho (by omega)) ho)
  · obtain ⟨hlo, hhi, -⟩ := h
    exact some_inOrder.mpr (trcCtl_inOrder ho (by omega) v)
  · simp

@[simp ↓] theorem regWrite_inOrder {s : State} (ho : s.InOrder) (w : Who) (a : Nat) (v : Word) : (s.regWrite w a v).InOrder := by
  unfold State.regWrite
  extract_lets c
  refine .ite ho ?_
  split
  · next h =>
    obtain ⟨hm, hst⟩ := h
    exact writeApply_inOrder ho (by omega) hst _ _
  · split
    · next h => exact coreCmd_inOrder ho _ _ _ _ h
    · next h => exact linkCmd_inOrder ho _ _ _ h
    · next h => exact sideCmd_inOrder ho _ _ _ _ h
    · simp [ho]

theorem execRegisterWrite_inOrder {s : State} (ho : s.InOrder) (w : Who) (a : Nat) (v : Word) : OutInOrder (execRegisterWrite w a v s) := by
  unfold execRegisterWrite
  simp [ho]

theorem execApply_inOrder {s : State} (ho : s.InOrder) (w : Who) (page : Nat) : OutInOrder (execApply w page s) := by
  unfold execApply
  simp [ho]

theorem execDiscard_inOrder {s : State} (ho : s.InOrder) (w : Who) (page : Nat) : OutInOrder (execDiscard w page s) := by
  unfold execDiscard
  simp [ho]

theorem execApplyUnknownCmd_inOrder {s : State} (ho : s.InOrder) (w : Who) (page cmd : Nat) :
    OutInOrder (execApplyUnknownCmd w page cmd s) := by
  unfold execApplyUnknownCmd
  split <;> simp [ho]

theorem execApplyTakesEffect_inOrder {s : State} (ho : s.InOrder) (page : Nat) : OutInOrder (execApplyTakesEffect page s) := by
  unfold execApplyTakesEffect
  refine .ite (by simp [ho]) (.ite (by simp [ho]) (.ite (next_inOrder.mpr (applyPages_inOrder ho fun p hp => ?_)) (by simp [ho])))
  exact pend_staged ho (List.mem_of_mem_filter hp)

theorem execFrameBoundary_inOrder {s : State} (ho : s.InOrder) : OutInOrder (execFrameBoundary s) := by
  unfold execFrameBoundary
  refine .ite (by simp [ho]) ?_
  extract_lets due s1 s2 src
  have h1 : s1.InOrder := applyPages_inOrder ho fun p hp => pend_staged ho (List.mem_of_mem_filter hp)
  clear_value s1
  have h2 : s2.InOrder := foldl_inOrder h1 fun s n _ ho => slotPosture_inOrder ho n
  clear_value s2
  exact next_inOrder.mpr h2.congr

theorem execHwkSubmit_inOrder {s : State} (ho : s.InOrder) (w : Who) (addr : Submission) : OutInOrder (execHwkSubmit w addr s) := by
  unfold execHwkSubmit
  simp [ho]

theorem execHwkCancel_inOrder {s : State} (ho : s.InOrder) (w : Who) (v : Word) : OutInOrder (execHwkCancel w v s) := by
  unfold execHwkCancel
  simp [ho]

theorem execHwkFreezeWrite_inOrder {s : State} (ho : s.InOrder) (w : Who) (v : Word) : OutInOrder (execHwkFreezeWrite w v s) := by
  unfold execHwkFreezeWrite
  simp [ho]

theorem execTrcTrig_inOrder {s : State} (ho : s.InOrder) (w : Who) (n : Nat) : OutInOrder (execTrcTrig w n s) := by
  unfold execTrcTrig
  split
  · simp [ho]
  · next hn => exact next_inOrder.mpr (access_inOrder ho _ _ (trcCtl_inOrder ho (Nat.lt_of_not_le hn) _))

theorem execTrcClear_inOrder {s : State} (ho : s.InOrder) (w : Who) (n : Nat) : OutInOrder (execTrcClear w n s) := by
  unfold execTrcClear
  split
  · simp [ho]
  · next hn => exact next_inOrder.mpr (access_inOrder ho _ _ (trcCtl_inOrder ho (Nat.lt_of_not_le hn) _))

/-! ### Requests of a session -/

@[simp ↓] theorem hapUnheard_inOrder (s : State) (m : HapMsg) : (s.hapUnheard m).InOrder ↔ s.InOrder := by
  unfold State.hapUnheard
  simp

@[simp ↓] theorem hapDiscard_inOrder (s : State) (m : HapMsg) : (s.hapDiscard m).InOrder ↔ s.InOrder := by
  unfold State.hapDiscard
  simp

theorem hapServe_inOrder {s : State} (ho : s.InOrder) (m : HapMsg) (type : Nat) {f : State → HapRes}
    (hf : ∀ t : State, t.InOrder → (f t).2.InOrder) : (s.hapServe m type f).InOrder := by
  unfold State.hapServe
  extract_lets seq x s1 s2 r
  have h1 : s1.InOrder := by simp [s1, ho]
  have h2 : s2.InOrder := by simp [s2, h1]
  clear_value s1 s2
  have hr : r.2.InOrder := by
    unfold r
    split
    · exact h2
    · exact hf s2 h2
  clear_value r
  split
  · simp [h1]
  · simp [h1]
  · refine .ite h1 ?_
    split <;> simp [hr]

theorem hapRequest_inOrder {s : State} (ho : s.InOrder) (m : HapMsg) (type : Nat) (body : List Byte) {f : State → HapRes}
    (hf : ∀ t : State, t.InOrder → (f t).2.InOrder) : (s.hapRequest m type body f).InOrder := by
  unfold State.hapRequest
  exact .ite (by simp [ho]) (.ite ho (.ite (by simp [ho]) (hapServe_inOrder ho _ _ hf)))

@[simp ↓] theorem hapAns_inOrder (s : State) (code : Nat) : ((s.hapAns code).2).InOrder ↔ s.InOrder := by
  unfold State.hapAns
  simp

theorem hapGuard_inOrder {s : State} (ho : s.InOrder) (m : HapMsg) (right writes : Bool) {f : HapRes} (hf : f.2.InOrder) :
    (s.hapGuard m right writes f).2.InOrder := by
  unfold State.hapGuard
  split_ifs
  · simp [ho]
  · simp [ho]
  · simp [ho]
  · exact hf

@[simp ↓] theorem openFailed_inOrder (s : State) (c : Nat) : (s.openFailed c).InOrder ↔ s.InOrder := by
  unfold State.openFailed
  simp

@[simp ↓] theorem openSession_inOrder (s : State) (m : HapMsg) (c : Nat) (nonce : List Byte) :
    (s.openSession m c nonce).InOrder ↔ s.InOrder := by
  unfold State.openSession
  simp

@[simp ↓] theorem hapOpens_inOrder (s : State) (m : HapMsg) (cred : Nat) (nonce : List Byte) :
    (s.hapOpens m cred nonce).InOrder ↔ s.InOrder := by
  unfold State.hapOpens
  simp

theorem execHapOpen_inOrder {s : State} (ho : s.InOrder) (m : HapMsg) (cred : Nat) (nonce : List Byte) :
    OutInOrder (execHapOpen m cred nonce s) := by
  unfold execHapOpen
  exact .ite (by simp [ho]) (.ite (by simp [ho]) (.ite
    (next_inOrder.mpr (hapRequest_inOrder ho _ _ _ fun t ht => (hapAns_inOrder ..).mpr ht)) (by simp [ho])))

theorem execCredBlockEnd_inOrder {s : State} (ho : s.InOrder) (cred : Nat) : OutInOrder (execCredBlockEnd cred s) := by
  unfold execCredBlockEnd
  split <;> simp [ho]

theorem execHapClose_inOrder {s : State} (ho : s.InOrder) (m : HapMsg) : OutInOrder (execHapClose m s) := by
  have h : (s.hapRequest m hapClose [] fun t => t.hapGuard m true false (t.hapAns hapOk)).InOrder :=
    hapRequest_inOrder ho _ _ _ fun t ht => hapGuard_inOrder ht _ _ _ ((hapAns_inOrder ..).mpr ht)
  exact next_inOrder.mpr (.ite ((closeSession_inOrder ..).mpr h) h)

theorem execHapIdleTimeout_inOrder {s : State} (ho : s.InOrder) (sid : Nat) : OutInOrder (execHapIdleTimeout sid s) := by
  unfold execHapIdleTimeout
  dsimp only
  split <;> simp [ho]

theorem execPing_inOrder {s : State} (ho : s.InOrder) (m : HapMsg) : OutInOrder (execPing m s) :=
  next_inOrder.mpr (hapRequest_inOrder ho _ _ _ fun _ ht => hapGuard_inOrder ht _ _ _ ht)

theorem hapAccess_inOrder {s : State} (ho : s.InOrder) (w : Who) (a : Nat) {f : State → State} (hf : (f s).InOrder) :
    (s.hapAccess w a f).2.InOrder := by
  unfold State.hapAccess
  split_ifs
  · exact ho
  · exact (pageDenied_inOrder ..).mpr ho
  · exact hf

theorem hapReads_inOrder {s : State} (ho : s.InOrder) (w : Who) (as acc : List Word) : (State.hapReads w as acc s).2.2.InOrder := by
  induction as generalizing s acc with
  | nil => exact ho
  | cons a as ih =>
    have hr : (s.hapAccess w a.toNat fun s => s.regRead w a.toNat).2.InOrder := hapAccess_inOrder ho _ _ (by simp [ho])
    unfold State.hapReads
    dsimp only
    split
    · exact ih hr _
    · exact hr

theorem execRd_inOrder {s : State} (ho : s.InOrder) (m : HapMsg) (addrs : List Word) : OutInOrder (execRd m addrs s) := by
  refine next_inOrder.mpr (hapRequest_inOrder ho _ _ _ fun t ht => hapGuard_inOrder ht _ _ _ ?_)
  split
  · simp [ht]
  · exact hapReads_inOrder ht ..

theorem hapWrites_inOrder {s : State} (ho : s.InOrder) (w : Who) (ps : List (Word × Word)) (n : Nat) :
    (State.hapWrites w ps n s).2.2.InOrder := by
  induction ps generalizing s n with
  | nil => exact ho
  | cons p ps ih =>
    have hr : (s.hapAccess w p.1.toNat fun s => s.regWrite w p.1.toNat p.2).2.InOrder := hapAccess_inOrder ho _ _ (by simp [ho])
    unfold State.hapWrites
    dsimp only
    split
    · exact ih hr _
    · exact hr

theorem execWr_inOrder {s : State} (ho : s.InOrder) (m : HapMsg) (pairs : List (Word × Word)) : OutInOrder (execWr m pairs s) := by
  refine next_inOrder.mpr (hapRequest_inOrder ho _ _ _ fun t ht => hapGuard_inOrder ht _ _ _ ?_)
  split
  · simp [ht]
  · exact hapWrites_inOrder ht ..

theorem execEvt_inOrder {s : State} (ho : s.InOrder) (m : HapMsg) (mode start : Nat) : OutInOrder (execEvt m mode start s) := by
  refine next_inOrder.mpr (hapRequest_inOrder ho _ _ _ fun t ht => hapGuard_inOrder ht _ _ _ ?_)
  split
  · simp [ht]
  · exact ht

theorem execHapTime_inOrder {s : State} (ho : s.InOrder) (m : HapMsg) : OutInOrder (execHapTime m s) :=
  next_inOrder.mpr (hapRequest_inOrder ho _ _ _ fun _ ht => hapGuard_inOrder ht _ _ _ ht)

theorem execHapCell_inOrder {s : State} (ho : s.InOrder) (m : HapMsg) (cell cmd : Nat) : OutInOrder (execHapCell m cell cmd s) := by
  refine next_inOrder.mpr (hapRequest_inOrder ho _ _ _ fun t ht => hapGuard_inOrder ht _ _ _ ?_)
  split
  · simp [ht]
  · dsimp only
    split
    · exact ht
    · exact cellCommand_inOrder ht ..

@[simp ↓] theorem setLoad_inOrder {s : State} (ho : s.InOrder) (sid : Nat) (d : Option HapLoad) : (s.setLoad sid d).InOrder := by
  unfold State.setLoad
  simp [ho]

theorem execImgBegin_inOrder {s : State} (ho : s.InOrder) (m : HapMsg) (cell total : Nat) : OutInOrder (execImgBegin m cell total s) := by
  refine next_inOrder.mpr (hapRequest_inOrder ho _ _ _ fun t ht => hapGuard_inOrder ht _ _ _ ?_)
  split_ifs <;> simp [ht]

theorem execImgData_inOrder {s : State} (ho : s.InOrder) (m : HapMsg) (off : Nat) (data : List Byte) :
    OutInOrder (execImgData m off data s) := by
  refine next_inOrder.mpr (hapRequest_inOrder ho _ _ _ fun t ht => hapGuard_inOrder ht _ _ _ ?_)
  split
  · simp [ht]
  · split
    · simp [ht]
    · simp [ht]

@[simp ↓] theorem handImage_inOrder {s : State} (ho : s.InOrder) (sid : Nat) (d : HapLoad) : (s.handImage sid d).InOrder := by
  unfold State.handImage
  simp [ho]

theorem execImgEnd_inOrder {s : State} (ho : s.InOrder) (m : HapMsg) : OutInOrder (execImgEnd m s) := by
  refine next_inOrder.mpr (hapRequest_inOrder ho _ _ _ fun t ht => hapGuard_inOrder ht _ _ _ ?_)
  split
  · simp [ht]
  · split
    · simp [ht]
    · simp [ht]

theorem execImgStatus_inOrder {s : State} (ho : s.InOrder) (m : HapMsg) : OutInOrder (execImgStatus m s) :=
  next_inOrder.mpr (hapRequest_inOrder ho _ _ _ fun _ ht => hapGuard_inOrder ht _ _ _ ht)

theorem execImgLoadTimeout_inOrder {s : State} (ho : s.InOrder) (sid : Nat) : OutInOrder (execImgLoadTimeout sid s) := by
  unfold execImgLoadTimeout
  split <;> simp [ho]

@[simp ↓] theorem awaitStore_inOrder (s : State) (m : HapMsg) (set type code : Nat) (body : List Word) (vals : List (Nat × Word)) :
    ((s.awaitStore m set type code body vals).2).InOrder ↔ s.InOrder := by
  unfold State.awaitStore
  simp

theorem execKeySet_inOrder {s : State} (ho : s.InOrder) (m : HapMsg) (slot : Nat) (key : List Word) :
    OutInOrder (execKeySet m slot key s) := by
  refine next_inOrder.mpr (hapRequest_inOrder ho _ _ _ fun t ht => hapGuard_inOrder ht _ _ _ ?_)
  split_ifs <;> simp [ht]

theorem execCredSet_inOrder {s : State} (ho : s.InOrder) (m : HapMsg) (cred rights cell : Nat) (enc : List Byte) :
    OutInOrder (execCredSet m cred rights cell enc s) := by
  refine next_inOrder.mpr (hapRequest_inOrder ho _ _ _ fun t ht => hapGuard_inOrder ht _ _ _ ?_)
  split_ifs <;> simp [ht]

@[simp ↓] theorem takeSecret_inOrder (s : State) (secret : List Byte) : (s.takeSecret secret).InOrder ↔ s.InOrder := by
  unfold State.takeSecret
  simp

@[simp ↓] theorem takeAddresses_inOrder {s : State} (ho : s.InOrder) (box : List Byte) : ((s.takeAddresses box).2).InOrder := by
  unfold State.takeAddresses
  extract_lets ws s1 ok
  split
  · exact ho
  · refine acceptApply_inOrder (foldl_inOrder ho fun s e he ho => writeStaged_inOrder ho ?_ ..) (by decide) (by decide) 0
    have hall : ∀ k ∈ mailboxRegs, addrOf k % 0x1000 < 0xFF8 := by decide
    exact hall e.1 (List.of_mem_zip (List.mem_of_mem_filter he)).1

theorem execTagCommission_inOrder {s : State} (ho : s.InOrder) : OutInOrder (execTagCommission s) := by
  unfold execTagCommission
  extract_lets held src s0 box secret wanted taken s1 r src' s2
  have h0 : s0.InOrder := by simp [s0, ho]
  clear_value s0
  have h1 : s1.InOrder := by simp [s1, h0]
  clear_value s1
  have hr : r.2.InOrder := takeAddresses_inOrder h1 box
  clear_value r
  have h2 : s2.InOrder := by simp [s2, hr]
  clear_value s2
  exact .ite (by simp [ho]) (.ite (by simp [h0]) (.ite (by simp [h0]) (by simp [h2])))

/-! ### Integer instructions -/

theorem execAdd_inOrder {s : State} (ho : s.InOrder) (l : Nat) (d a b : Reg) : OutInOrder (execAdd l d a b s) := by
  unfold execAdd
  simp [ho]

theorem execSub_inOrder {s : State} (ho : s.InOrder) (l : Nat) (d a b : Reg) : OutInOrder (execSub l d a b s) := by
  unfold execSub
  simp [ho]

theorem execAndI_inOrder {s : State} (ho : s.InOrder) (l : Nat) (d a b : Reg) : OutInOrder (execAndI l d a b s) := by
  unfold execAndI
  simp [ho]

theorem execOrI_inOrder {s : State} (ho : s.InOrder) (l : Nat) (d a b : Reg) : OutInOrder (execOrI l d a b s) := by
  unfold execOrI
  simp [ho]

theorem execXor_inOrder {s : State} (ho : s.InOrder) (l : Nat) (d a b : Reg) : OutInOrder (execXor l d a b s) := by
  unfold execXor
  simp [ho]

theorem execShl_inOrder {s : State} (ho : s.InOrder) (l : Nat) (d a b : Reg) : OutInOrder (execShl l d a b s) := by
  unfold execShl
  simp [ho]

theorem execShr_inOrder {s : State} (ho : s.InOrder) (l : Nat) (d a b : Reg) : OutInOrder (execShr l d a b s) := by
  unfold execShr
  simp [ho]

theorem execSar_inOrder {s : State} (ho : s.InOrder) (l : Nat) (d a b : Reg) : OutInOrder (execSar l d a b s) := by
  unfold execSar
  simp [ho]

theorem execSlt_inOrder {s : State} (ho : s.InOrder) (l : Nat) (d a b : Reg) : OutInOrder (execSlt l d a b s) := by
  unfold execSlt
  simp [ho]

theorem execSltu_inOrder {s : State} (ho : s.InOrder) (l : Nat) (d a b : Reg) : OutInOrder (execSltu l d a b s) := by
  unfold execSltu
  simp [ho]

theorem execMul_inOrder {s : State} (ho : s.InOrder) (l : Nat) (d a b : Reg) : OutInOrder (execMul l d a b s) := by
  unfold execMul
  simp [ho]

theorem execMulh_inOrder {s : State} (ho : s.InOrder) (l : Nat) (d a b : Reg) : OutInOrder (execMulh l d a b s) := by
  unfold execMulh
  simp [ho]

theorem execMulhu_inOrder {s : State} (ho : s.InOrder) (l : Nat) (d a b : Reg) : OutInOrder (execMulhu l d a b s) := by
  unfold execMulhu
  simp [ho]

theorem execDiv_inOrder {s : State} (ho : s.InOrder) (l : Nat) (d a b : Reg) : OutInOrder (execDiv l d a b s) := by
  unfold execDiv
  simp [ho]

theorem execDivu_inOrder {s : State} (ho : s.InOrder) (l : Nat) (d a b : Reg) : OutInOrder (execDivu l d a b s) := by
  unfold execDivu
  simp [ho]

theorem execRem_inOrder {s : State} (ho : s.InOrder) (l : Nat) (d a b : Reg) : OutInOrder (execRem l d a b s) := by
  unfold execRem
  simp [ho]

theorem execRemu_inOrder {s : State} (ho : s.InOrder) (l : Nat) (d a b : Reg) : OutInOrder (execRemu l d a b s) := by
  unfold execRemu
  simp [ho]

theorem execMin_inOrder {s : State} (ho : s.InOrder) (l : Nat) (d a b : Reg) : OutInOrder (execMin l d a b s) := by
  unfold execMin
  simp [ho]

theorem execMax_inOrder {s : State} (ho : s.InOrder) (l : Nat) (d a b : Reg) : OutInOrder (execMax l d a b s) := by
  unfold execMax
  simp [ho]

theorem execAddi_inOrder {s : State} (ho : s.InOrder) (l : Nat) (d a : Reg) (imm : BitVec 15) : OutInOrder (execAddi l d a imm s) := by
  unfold execAddi
  simp [ho]

theorem execAndi_inOrder {s : State} (ho : s.InOrder) (l : Nat) (d a : Reg) (imm : BitVec 15) : OutInOrder (execAndi l d a imm s) := by
  unfold execAndi
  simp [ho]

theorem execOri_inOrder {s : State} (ho : s.InOrder) (l : Nat) (d a : Reg) (imm : BitVec 15) : OutInOrder (execOri l d a imm s) := by
  unfold execOri
  simp [ho]

theorem execXori_inOrder {s : State} (ho : s.InOrder) (l : Nat) (d a : Reg) (imm : BitVec 15) : OutInOrder (execXori l d a imm s) := by
  unfold execXori
  simp [ho]

theorem execSlti_inOrder {s : State} (ho : s.InOrder) (l : Nat) (d a : Reg) (imm : BitVec 15) : OutInOrder (execSlti l d a imm s) := by
  unfold execSlti
  simp [ho]

theorem execShli_inOrder {s : State} (ho : s.InOrder) (l : Nat) (d a : Reg) (n : BitVec 5) : OutInOrder (execShli l d a n s) := by
  unfold execShli
  simp [ho]

theorem execShri_inOrder {s : State} (ho : s.InOrder) (l : Nat) (d a : Reg) (n : BitVec 5) : OutInOrder (execShri l d a n s) := by
  unfold execShri
  simp [ho]

theorem execSari_inOrder {s : State} (ho : s.InOrder) (l : Nat) (d a : Reg) (n : BitVec 5) : OutInOrder (execSari l d a n s) := by
  unfold execSari
  simp [ho]

theorem execLui_inOrder {s : State} (ho : s.InOrder) (l : Nat) (d : Reg) (imm : BitVec 20) : OutInOrder (execLui l d imm s) := by
  unfold execLui
  simp [ho]

/-! ### Loads and stores -/

/-- The state that a memory instruction's access leaves, whichever way it ends, is in order. -/
def MemRes.InOrder (r : MemRes) : Prop :=
  match r with
  | .done t => t.InOrder
  | .trap t _ _ => t.InOrder
  | .gone t => t.InOrder

@[simp ↓] theorem memDone_inOrder (t : State) : (MemRes.done t).InOrder ↔ t.InOrder := Iff.rfl

@[simp ↓] theorem memTrap_inOrder (t : State) (x : Trap) (n : Nat) : (MemRes.trap t x n).InOrder ↔ t.InOrder := Iff.rfl

@[simp ↓] theorem memGone_inOrder (t : State) : (MemRes.gone t).InOrder ↔ t.InOrder := Iff.rfl

theorem MemRes.InOrder.ite {r t : MemRes} {c : Prop} [Decidable c] (hr : r.InOrder) (ht : t.InOrder) : (if c then r else t).InOrder := by
  split
  · exact hr
  · exact ht

theorem runMem_inOrder {s : State} (ho : s.InOrder) (l : Nat) (word : Word) {act : State → MemRes} (hact : (act s).InOrder) :
    (s.runMem l word act).InOrder := by
  unfold State.runMem
  dsimp only
  split_ifs
  · exact ho
  · simp [ho]
  · simp [ho]
  · split
    · next t h => rw [h] at hact; exact hact
    · next t x n h => rw [h] at hact; exact takeTrap_inOrder hact ..
    · next t h => rw [h] at hact; exact hact

@[simp ↓] theorem retire_inOrder {s : State} (ho : s.InOrder) (l cycles : Nat) (f : Loop → Loop) : (s.retire l cycles f).InOrder := by
  unfold State.retire
  simp [ho]

@[simp ↓] theorem settle_inOrder (s : State) (l : Nat) : (s.settle l).InOrder ↔ s.InOrder := by
  unfold State.settle
  refine foldl_inOrder_iff _ _ _ fun s p => foldl_inOrder_iff _ _ _ fun s _ => ?_
  split
  · exact acceptPosted_inOrder s p
  · rfl

@[simp ↓] theorem post_inOrder {s : State} (ho : s.InOrder) (l off : Nat) (bs : List Byte) : (s.post l off bs).InOrder := by
  unfold State.post
  simp [ho]

theorem execPostedStoreAccepted_inOrder {s : State} (ho : s.InOrder) (p : Nat) : OutInOrder (execPostedStoreAccepted p s) := by
  unfold execPostedStoreAccepted
  simp [ho]

@[simp ↓] theorem eccLoad_inOrder (s : State) (c a : Nat) : (s.eccLoad c a).InOrder ↔ s.InOrder := by
  unfold State.eccLoad
  simp

theorem loadLocal_inOrder {s : State} (ho : s.InOrder) (l a : Nat) (e : Ecc) (v : Word) (put : Word → Loop → Loop) :
    (s.loadLocal l a e v put).InOrder := by
  unfold State.loadLocal
  split <;> simp [ho]

theorem loadShared_inOrder {s : State} (ho : s.InOrder) (l a size : Nat) (e : Ecc) (put : Word → Loop → Loop) :
    (s.loadShared l a size e put).InOrder := by
  unfold State.loadShared
  extract_lets c n s1
  have h1 : s1.InOrder := by simp [s1, ho]
  clear_value s1
  split <;> simp [h1]

theorem loadView_inOrder {s : State} (ho : s.InOrder) (l a size : Nat) (e : Ecc) (put : Word → Loop → Loop) :
    (s.loadView l a size e put).InOrder := by
  unfold State.loadView
  extract_lets c s1
  have h1 : s1.InOrder := by
    unfold s1
    split <;> simp [ho]
  clear_value s1
  simp [h1]

theorem regTrap_inOrder {s : State} (ho : s.InOrder) {l a size sub : Nat} {r : MemRes} (h : s.regTrap l a size sub = some r) :
    r.InOrder := by
  unfold State.regTrap at h
  dsimp only at h
  split_ifs at h
  · exact Option.some.inj h ▸ ho
  · exact Option.some.inj h ▸ (pageDenied_inOrder ..).mpr ho

@[simp ↓] theorem load_inOrder {s : State} (ho : s.InOrder) (l : Nat) (word : Word) (a size : Nat) (e : Ecc) (put : Word → Loop → Loop) :
    (s.load l word a size e put).InOrder := by
  refine runMem_inOrder ho _ _ ?_
  dsimp only
  split
  · split
    · next h => exact regTrap_inOrder ho h
    · simp [ho]
  · refine .ite (by simp [ho]) (.ite (by simp [ho]) ?_)
    split
    · exact loadLocal_inOrder ho ..
    · exact loadLocal_inOrder ho ..
    · exact loadShared_inOrder ho ..
    · exact loadView_inOrder ho ..

theorem execLdw_inOrder {s : State} (ho : s.InOrder) (l : Nat) (d a : Reg) (imm : BitVec 15) (ecc : Ecc) :
    OutInOrder (execLdw l d a imm ecc s) := by
  unfold execLdw
  simp [ho]

theorem execLdh_inOrder {s : State} (ho : s.InOrder) (l : Nat) (d a : Reg) (imm : BitVec 15) (ecc : Ecc) :
    OutInOrder (execLdh l d a imm ecc s) := by
  unfold execLdh
  simp [ho]

theorem execLdhu_inOrder {s : State} (ho : s.InOrder) (l : Nat) (d a : Reg) (imm : BitVec 15) (ecc : Ecc) :
    OutInOrder (execLdhu l d a imm ecc s) := by
  unfold execLdhu
  simp [ho]

theorem execLdb_inOrder {s : State} (ho : s.InOrder) (l : Nat) (d a : Reg) (imm : BitVec 15) (ecc : Ecc) :
    OutInOrder (execLdb l d a imm ecc s) := by
  unfold execLdb
  simp [ho]

theorem execLdbu_inOrder {s : State} (ho : s.InOrder) (l : Nat) (d a : Reg) (imm : BitVec 15) (ecc : Ecc) :
    OutInOrder (execLdbu l d a imm ecc s) := by
  unfold execLdbu
  simp [ho]

theorem storeLocal_inOrder {s : State} (ho : s.InOrder) (l a : Nat) (e : Ecc) (bs : List Byte) : (s.storeLocal l a e bs).InOrder := by
  unfold State.storeLocal
  split <;> simp [ho]

theorem storeShared_inOrder {s : State} (ho : s.InOrder) (l a : Nat) (e : Ecc) (bs : List Byte) : (s.storeShared l a e bs).InOrder := by
  unfold State.storeShared
  simp [ho]

@[simp ↓] theorem store_inOrder {s : State} (ho : s.InOrder) (l : Nat) (word : Word) (a size : Nat) (e : Ecc) (v : Word) :
    (s.store l word a size e v).InOrder := by
  refine runMem_inOrder ho _ _ ?_
  extract_lets L area meets bs s1
  have h1 : s1.InOrder := by simp [s1, ho]
  clear_value s1
  split
  · split
    · next h => exact regTrap_inOrder ho h
    · exact regWrite_inOrder (.ite (by simp [h1]) h1) ..
  · exact .ite ho (.ite ho (.ite ho (.ite (storeLocal_inOrder ho ..) (storeShared_inOrder ho ..))))

theorem execStw_inOrder {s : State} (ho : s.InOrder) (l : Nat) (d a : Reg) (imm : BitVec 15) (ecc : Ecc) :
    OutInOrder (execStw l d a imm ecc s) := by
  unfold execStw
  simp [ho]

theorem execSth_inOrder {s : State} (ho : s.InOrder) (l : Nat) (d a : Reg) (imm : BitVec 15) (ecc : Ecc) :
    OutInOrder (execSth l d a imm ecc s) := by
  unfold execSth
  simp [ho]

theorem execStb_inOrder {s : State} (ho : s.InOrder) (l : Nat) (d a : Reg) (imm : BitVec 15) (ecc : Ecc) :
    OutInOrder (execStb l d a imm ecc s) := by
  unfold execStb
  simp [ho]

theorem execRegisterAccessTimeout_inOrder {s : State} (ho : s.InOrder) (l : Nat) (word : Word) (addr : Nat) :
    OutInOrder (execRegisterAccessTimeout l word addr s) := by
  unfold execRegisterAccessTimeout
  dsimp only
  split
  · simp [ho]
  · split <;> simp [ho]

@[simp ↓] theorem skimPut_inOrder {s : State} (ho : s.InOrder) (l ma n i : Nat) (v : Word) : (s.skimPut l ma n i v).InOrder := by
  unfold State.skimPut
  simp [ho]

theorem skimEcc_inOrder {s t : State} (ho : s.InOrder) {l a : Nat} {loc : Bool} {e : Ecc} (h : s.skimEcc l a loc e = some t) :
    t.InOrder := by
  unfold State.skimEcc at h
  dsimp only at h
  split at h
  · cases h; simp [ho]
  · split at h <;> cases h <;> simp [ho]

theorem skimReads_inOrder {s : State} (ho : s.InOrder) (l : Nat) (loc : Bool) (es : List (Nat × Ecc)) :
    (∀ t, s.skimReads l loc es = .ok t → t.InOrder) ∧ ∀ t, s.skimReads l loc es = .error t → t.InOrder := by
  induction es generalizing s with
  | nil => exact ⟨fun t h => Except.ok.inj h ▸ ho, fun t h => nomatch h⟩
  | cons e es ih =>
    cases h1 : s.skimEcc l e.1 loc e.2 with
    | none =>
      simp only [State.skimReads, h1]
      exact ⟨fun t h => (nomatch h), fun t h => Except.error.inj h ▸ ho⟩
    | some s1 =>
      simp only [State.skimReads, h1]
      exact ih (skimEcc_inOrder ho h1)

theorem execSkim_inOrder {s : State} (ho : s.InOrder) (l : Nat) (d a b : Reg) (m : SkimOp) : OutInOrder (execSkim l d a b m s) := by
  refine next_inOrder.mpr (runMem_inOrder ho _ _ ?_)
  extract_lets L at' e n pos lead kl fg ma st loc played learns cost
  split
  · exact ho
  · refine .ite (by simp [ho]) (.ite ho (.ite ho ?_))
    split
    · next h => exact mismatch_inOrder ((skimReads_inOrder ho ..).2 _ h) _
    · next s0 h =>
      have h0 : s0.InOrder := (skimReads_inOrder ho ..).1 _ h
      split
      · simp [h0]
      · extract_lets c r s1 s2
        have h1 : s1.InOrder := by simp [s1, h0]
        clear_value s1
        have h2 : s2.InOrder := by simp [s2, h1]
        clear_value s2
        simp [h2]

theorem execFir_inOrder {s : State} (ho : s.InOrder) (l : Nat) (d a b : Reg) (m : BitVec 5) (ecc : Ecc) :
    OutInOrder (execFir l d a b m ecc s) := by
  refine next_inOrder.mpr (runMem_inOrder ho _ _ ?_)
  extract_lets L region ga gb k s1 ws gd
  have h1 : s1.InOrder := by simp [s1, ho]
  clear_value s1
  exact .ite ho (.ite ho (.ite ho (.ite ho (by simp [h1]))))

/-! ### Steps of the timebase -/

theorem mapVals_rising {α : Type} (f : α → α) (lo : Nat) (m : SMap α) : mRising lo (mapVals f m) = mRising lo m :=
  mRising_map lo (fun e : Nat × α => (e.1, f e.2)) (fun _ => rfl) m

@[simp ↓] theorem moveInstants_inOrder {s : State} (ho : s.InOrder) (d : Int) : (s.moveInstants d).InOrder := by
  obtain ⟨hl, hs, hp, hpend, hshd, hsv, htr, hd, hw, hrun⟩ := ho
  unfold State.moveInstants
  refine ⟨hl, hs, ?_, fun e he => ?_, hshd, fun e he => ?_, htr, hd, hw, hrun⟩
  · rw [mapVals_rising]
    exact hp
  · obtain ⟨x, hx, rfl⟩ := List.mem_map.mp he
    exact hpend x hx
  · obtain ⟨x, hx, rfl⟩ := List.mem_map.mp he
    exact hsv x hx

@[simp ↓] theorem loopStepped_inOrder {s : State} (ho : s.InOrder) (old : Nat) (e : Nat × Loop) : (State.loopStepped old s e).InOrder := by
  unfold State.loopStepped
  simp [ho]

@[simp ↓] theorem multiplesStepped_inOrder (s : State) : s.multiplesStepped.InOrder ↔ s.InOrder := by
  unfold State.multiplesStepped
  simp

@[simp ↓] theorem stepDtb_inOrder {s : State} (ho : s.InOrder) (new : Nat) : (s.stepDtb new).InOrder := by
  unfold State.stepDtb
  extract_lets s1 s2 s3 s4
  have h1 : s1.InOrder := moveInstants_inOrder (s := { s with dtb := new }) ho.congr _
  clear_value s1
  have h2 : s2.InOrder := by simp [s2, h1]
  clear_value s2
  have h3 : s3.InOrder := foldl_inOrder h2 fun s e _ ho => loopStepped_inOrder ho _ e
  clear_value s3
  have h4 : s4.InOrder := by simp [s4, h3]
  clear_value s4
  simp [h4]

@[simp ↓] theorem restartTime_inOrder {s : State} (ho : s.InOrder) : s.restartTime.InOrder := by
  obtain ⟨hl, hs, hp, hpend, hshd, hsv, hrest⟩ := ho
  refine ⟨hl, hs, hp, hpend, hshd, fun e he => ?_, hrest⟩
  obtain ⟨x, hx, rfl⟩ := List.mem_map.mp he
  exact hsv x hx

@[simp ↓] theorem startUp_inOrder {s : State} (ho : s.InOrder) (cause : Nat) (a b : Int) (lost : Bool) (failed : List Nat) :
    (s.startUp cause a b lost failed).InOrder := by
  unfold State.startUp
  extract_lets s0 s1 s2 s3 s4 s5 src s6 s7
  have h0 : s0.InOrder := restartTime_inOrder (porState_inOrder ho cause)
  clear_value s0
  have h1 : s1.InOrder := startBackup_inOrder h0 lost
  clear_value s1
  have h2 : s2.InOrder := (foldl_inOrder_iff _ _ _ decideSet_inOrder).mpr h1.congr
  clear_value s2
  have h3 : s3.InOrder := foldl_inOrder h2 fun s n _ ho => loadSet_inOrder ho n
  clear_value s3
  have h4 : s4.InOrder := by simp [s4, h3]
  clear_value s4
  have h5 : s5.InOrder := by simp [s5, h4]
  clear_value s5
  have h6 : s6.InOrder := setCtl_run_inOrder ((hwkFresh_inOrder s5).mpr h5) fun r hr => run_inOrder h5 hr
  clear_value s6
  have h7 : s7.InOrder := by simp [s7, h6]
  clear_value s7
  exact startAll_inOrder h7 failed

end Sys2Proof.Machine
end

section
/-! SUPPORT. The order of the state kept (R44, R45, R485, R492, R509) by the clock and by every command. -/
namespace Sys2Proof.Machine

theorem trcDrain_inOrder {s : State} (ho : s.InOrder) {n : Nat} (hn : n < 16) : (s.trcDrain n).InOrder :=
  foldl_inOrder ho fun s e _ ho => by
    extract_lets i y s1 s2
    have h1 : s1.InOrder := by simp [s1, ho, hn]
    clear_value s1
    have h2 : s2.InOrder := by simp [s2, h1]
    clear_value s2
    simp [h2]

theorem upQuiet_inOrder {s : State} (ho : s.InOrder) (start : Nat) : (s.upQuiet start).InOrder := .ite ho (keyHear_inOrder ho ..)

theorem downQuiet_inOrder {s : State} (ho : s.InOrder) : s.downQuiet.InOrder := .ite ho ((setField_inOrder ..).mpr ho)

theorem keyInstant_inOrder {s : State} (ho : s.InOrder) (start : Nat) : (s.keyInstant start).InOrder :=
  .ite (downQuiet_inOrder (upQuiet_inOrder ho start)) (.ite ((setDio_inOrder ..).mpr ho) (upQuiet_inOrder ho start))

theorem hoursTick_inOrder {s : State} (ho : s.InOrder) : s.hoursTick.InOrder := by
  unfold State.hoursTick
  simp [ho]

/-- Whatever the new value is: the kernel would else compute with it. -/
theorem with_dtb_host_ctl_inOrder {s : State} (ho : s.InOrder) (d : Nat) (h : HostSt) {c : CtlSt} (hc : c.run = s.ctl.run) :
    State.InOrder { s with dtb := d, host := h, ctl := c } :=
  ho.congr (hr := hc)

theorem tick_inOrder {s : State} (ho : s.InOrder) : s.tick.InOrder := by
  -- `tick` is unfolded and `sampleIn` kept opaque under equations: the kernel would else compute the instant.
  obtain ⟨f, hf⟩ : ∃ f, f = State.tick := ⟨_, rfl⟩
  obtain ⟨sample, hsample⟩ : ∃ g, g = sampleIn := ⟨_, rfl⟩
  rw [← hf]
  delta State.tick at hf
  rw [hf, ← hsample]
  beta_reduce
  extract_lets t src src' s1 s2 s3
  have h1 : s1.InOrder := with_dtb_host_ctl_inOrder ho _ _ rfl
  have h2 : s2.InOrder := foldl_inOrder h1 fun s n hn ho => by
    obtain ⟨-, -, -, -, -, -, htr, -⟩ := h1
    obtain ⟨e, he, rfl⟩ := List.mem_map.mp hn
    exact trcDrain_inOrder ho (htr e he)
  have h3 : s3.InOrder := hoursTick_inOrder h2
  obtain ⟨o, hs⟩ : ∃ o, sample s.dtb s3.dtb = o := ⟨_, rfl⟩
  rw [hs]
  cases o with
  | none => exact h3
  | some start => exact keyInstant_inOrder h3 start

theorem offset_inOrder {s : State} (ho : s.InOrder) (o : Int) : (s.offset o).InOrder := by
  unfold State.offset
  extract_lets lim s1
  have h1 : s1.InOrder := by simp [s1, ho]
  clear_value s1
  exact .ite (stepDtb_inOrder h1 _) (by simp [h1])

theorem execSyncMessage_inOrder {s : State} (ho : s.InOrder) (l ingress interval : Nat) (origin corr : Int) :
    OutInOrder (execSyncMessage l ingress interval origin corr s) := by
  unfold execSyncMessage
  refine .ite (next_inOrder.mpr ho) ?_
  extract_lets x run s1
  have h1 : s1.InOrder := by simp [s1, ho]
  clear_value s1
  exact next_inOrder.mpr (.ite (offset_inOrder h1 _) h1)

theorem execPowerOnResetRelease_inOrder {s : State} (ho : s.InOrder) (a b : Int) (stable : Nat) (lost : Bool) (failed : List Nat) :
    OutInOrder (execPowerOnResetRelease a b stable lost failed s) := by
  unfold execPowerOnResetRelease
  split
  · exact next_inOrder.mpr ho
  · exact .ite (next_inOrder.mpr ho) (next_inOrder.mpr (startUp_inOrder ho ..))

/-- Every command keeps the order. -/
theorem exec_inOrder (c : Instr) {s : State} (ho : s.InOrder) : OutInOrder (exec c s) := match c with
  | .registerWrite .. => execRegisterWrite_inOrder ho _ _ _
  | .apply .. => execApply_inOrder ho _ _
  | .discard .. => execDiscard_inOrder ho _ _
  | .applyUnknownCmd .. => execApplyUnknownCmd_inOrder ho _ _ _
  | .applyTakesEffect .. => execApplyTakesEffect_inOrder ho _
  | .frameBoundary => execFrameBoundary_inOrder ho
  | .periodBoundary .. => execPeriodBoundary_inOrder ho _
  | .loopDispatch .. => execLoopDispatch_inOrder ho _
  | .add .. => execAdd_inOrder ho _ _ _ _
  | .sub .. => execSub_inOrder ho _ _ _ _
  | .andI .. => execAndI_inOrder ho _ _ _ _
  | .orI .. => execOrI_inOrder ho _ _ _ _
  | .xor .. => execXor_inOrder ho _ _ _ _
  | .shl .. => execShl_inOrder ho _ _ _ _
  | .shr .. => execShr_inOrder ho _ _ _ _
  | .sar .. => execSar_inOrder ho _ _ _ _
  | .slt .. => execSlt_inOrder ho _ _ _ _
  | .sltu .. => execSltu_inOrder ho _ _ _ _
  | .mul .. => execMul_inOrder ho _ _ _ _
  | .mulh .. => execMulh_inOrder ho _ _ _ _
  | .mulhu .. => execMulhu_inOrder ho _ _ _ _
  | .div .. => execDiv_inOrder ho _ _ _ _
  | .divu .. => execDivu_inOrder ho _ _ _ _
  | .rem .. => execRem_inOrder ho _ _ _ _
  | .remu .. => execRemu_inOrder ho _ _ _ _
  | .min .. => execMin_inOrder ho _ _ _ _
  | .max .. => execMax_inOrder ho _ _ _ _
  | .addi .. => execAddi_inOrder ho _ _ _ _
  | .andi .. => execAndi_inOrder ho _ _ _ _
  | .ori .. => execOri_inOrder ho _ _ _ _
  | .xori .. => execXori_inOrder ho _ _ _ _
  | .shli .. => execShli_inOrder ho _ _ _ _
  | .shri .. => execShri_inOrder ho _ _ _ _
  | .sari .. => execSari_inOrder ho _ _ _ _
  | .lui .. => execLui_inOrder ho _ _ _
  | .slti .. => execSlti_inOrder ho _ _ _ _
  | .fadd .. => execFadd_inOrder ho _ _ _ _
  | .fsub .. => execFsub_inOrder ho _ _ _ _
  | .fmul .. => execFmul_inOrder ho _ _ _ _
  | .fdiv .. => execFdiv_inOrder ho _ _ _ _
  | .fsqrt .. => execFsqrt_inOrder ho _ _ _
  | .fma .. => execFma_inOrder ho _ _ _ _
  | .fmin .. => execFmin_inOrder ho _ _ _ _
  | .fmax .. => execFmax_inOrder ho _ _ _ _
  | .fabs .. => execFabs_inOrder ho _ _ _
  | .fneg .. => execFneg_inOrder ho _ _ _
  | .fcmp .. => execFcmp_inOrder ho _ _ _
  | .fcvti .. => execFcvti_inOrder ho _ _ _
  | .fcvtf .. => execFcvtf_inOrder ho _ _ _
  | .ldw .. => execLdw_inOrder ho _ _ _ _ _
  | .ldh .. => execLdh_inOrder ho _ _ _ _ _
  | .ldhu .. => execLdhu_inOrder ho _ _ _ _ _
  | .ldb .. => execLdb_inOrder ho _ _ _ _ _
  | .ldbu .. => execLdbu_inOrder ho _ _ _ _ _
  | .stw .. => execStw_inOrder ho _ _ _ _ _
  | .sth .. => execSth_inOrder ho _ _ _ _ _
  | .stb .. => execStb_inOrder ho _ _ _ _ _
  | .postedStoreAccepted .. => execPostedStoreAccepted_inOrder ho _
  | .registerAccessTimeout .. => execRegisterAccessTimeout_inOrder ho _ _ _
  | .beq .. => execBeq_inOrder ho _ _ _ _
  | .bne .. => execBne_inOrder ho _ _ _ _
  | .blt .. => execBlt_inOrder ho _ _ _ _
  | .bge .. => execBge_inOrder ho _ _ _ _
  | .bltu .. => execBltu_inOrder ho _ _ _ _
  | .bgeu .. => execBgeu_inOrder ho _ _ _ _
  | .bfs .. => execBfs_inOrder ho _ _ _
  | .bfc .. => execBfc_inOrder ho _ _ _
  | .jal .. => execJal_inOrder ho _ _ _
  | .jalr .. => execJalr_inOrder ho _ _ _ _
  | .nop .. => execNop_inOrder ho _
  | .wait .. => execWait_inOrder ho _ _
  | .waitRetire .. => execWaitRetire_inOrder ho _
  | .trap .. => execTrap_inOrder ho _ _
  | .mfs .. => execMfs_inOrder ho _ _ _
  | .mtf .. => execMtf_inOrder ho _ _
  | .illegalInstruction .. => execIllegalInstruction_inOrder ho _ _
  | .pids .. => execPids_inOrder ho _ _ _ _ _ _
  | .mins .. => execMins_inOrder ho _ _ _
  | .intf .. => execIntf_inOrder ho _ _ _ _ _
  | .sched .. => execSched_inOrder ho _ _ _ _ _
  | .skim .. => execSkim_inOrder ho _ _ _ _ _
  | .slew .. => execSlew_inOrder ho _ _ _ _ _
  | .clmp .. => execClmp_inOrder ho _ _ _ _ _
  | .plaus .. => execPlaus_inOrder ho _ _ _ _ _
  | .tap .. => execTap_inOrder ho _ _ _ _
  | .fir .. => execFir_inOrder ho _ _ _ _ _ _
  | .out .. => execOut_inOrder ho _ _ _
  | .deadlineTrap .. => execDeadlineTrap_inOrder ho _
  | .lockstepMismatch .. => execLockstepMismatch_inOrder ho _
  | .pinSecondaryRestored .. => execPinSecondaryRestored_inOrder ho _
  | .pairSelfTest .. => execPairSelfTest_inOrder ho _ _
  | .standbySelfTest .. => execStandbySelfTest_inOrder ho _ _
  | .replan .. => execReplan_inOrder ho _
  | .plannedMove .. => execPlannedMove_inOrder ho _
  | .imagePlace .. => execImagePlace_inOrder ho _
  | .engineLoadCheck => execEngineLoadCheck_inOrder ho
  | .cellReset .. => execCellReset_inOrder ho _
  | .cellResetZeroed .. => execCellResetZeroed_inOrder ho _
  | .cellSuspend .. => execCellSuspend_inOrder ho _
  | .cellResume .. => execCellResume_inOrder ho _
  | .cellUnload .. => execCellUnload_inOrder ho _
  | .cellCmdBad .. => execCellCmdBad_inOrder ho _ _
  | .loopRestart .. => execLoopRestart_inOrder ho _
  | .loopStop .. => execLoopStop_inOrder ho _
  | .grantSelectWrite .. => execGrantSelectWrite_inOrder ho _ _
  | .hwkSubmit .. => execHwkSubmit_inOrder ho _ _
  | .hwkCancel .. => execHwkCancel_inOrder ho _ _
  | .creditRefill => execCreditRefill_inOrder ho
  | .engineGrant .. => execEngineGrant_inOrder ho _
  | .xferCopy .. => execXferCopy_inOrder ho _
  | .xferFill .. => execXferFill_inOrder ho _
  | .transactionComplete .. => execTransactionComplete_inOrder ho _
  | .engineWatchdog .. => execEngineWatchdog_inOrder ho _
  | .hwkFreezeWrite .. => execHwkFreezeWrite_inOrder ho _ _
  | .engineDrained .. => execEngineDrained_inOrder ho _
  | .inputSlotStart .. => execInputSlotStart_inOrder ho _
  | .conversionBoundary .. => execConversionBoundary_inOrder ho _ _
  | .dielOverload .. => execDielOverload_inOrder ho _ _
  | .terminalOvervoltage .. => execTerminalOvervoltage_inOrder ho _
  | .probeRemoved .. => execProbeRemoved_inOrder ho _
  | .probeInserted .. => execProbeInserted_inOrder ho _
  | .refAverage .. => execRefAverage_inOrder ho _ _ _
  | .refFail .. => execRefFail_inOrder ho _ _ _ _ _
  | .feCalselWrite .. => execFeCalselWrite_inOrder ho _ _
  | .pointlo .. => execPointlo_inOrder ho _
  | .pointhi .. => execPointhi_inOrder ho _
  | .calPointDone => execCalPointDone_inOrder ho
  | .commit .. => execCommit_inOrder ho _
  | .abortI .. => execAbortI_inOrder ho _
  | .calBadCmd .. => execCalBadCmd_inOrder ho _ _
  | .columnUpdate .. => execColumnUpdate_inOrder ho _
  | .columnInputWrite .. => execColumnInputWrite_inOrder ho _ _ _ _
  | .predict .. => execPredict_inOrder ho _
  | .frameSelection .. => execFrameSelection_inOrder ho _
  | .timeFrameDue .. => execTimeFrameDue_inOrder ho _
  | .time .. => execTime_inOrder ho _ _
  | .census .. => execCensus_inOrder ho _ _
  | .sweepOpen .. => execSweepOpen_inOrder ho _ _
  | .sweepClose .. => execSweepClose_inOrder ho _ _
  | .sweepDrained .. => execSweepDrained_inOrder ho _
  | .sweepTimeLimit .. => execSweepTimeLimit_inOrder ho _
  | .rate .. => execRate_inOrder ho _ _
  | .nodeCmd .. => execNodeCmd_inOrder ho _ _
  | .privateI .. => execPrivateI_inOrder ho _ _
  | .quietIntervalEnd .. => execQuietIntervalEnd_inOrder ho _
  | .txEntryReturn .. => execTxEntryReturn_inOrder ho _
  | .latTxqWrite .. => execLatTxqWrite_inOrder ho _ _ _
  | .latTxcanWrite .. => execLatTxcanWrite_inOrder ho _ _ _
  | .latRxackWrite .. => execLatRxackWrite_inOrder ho _ _ _
  | .hot .. => execHot_inOrder ho _ _
  | .wet .. => execWet_inOrder ho _ _
  | .censusBatch .. => execCensusBatch_inOrder ho _ _
  | .jstat .. => execJstat_inOrder ho _ _
  | .reply .. => execReply_inOrder ho _ _
  | .busError .. => execBusError_inOrder ho _ _
  | .recover .. => execRecover_inOrder ho _ _
  | .latBusoffEnd .. => execLatBusoffEnd_inOrder ho _
  | .censusDue .. => execCensusDue_inOrder ho _
  | .censusEnd .. => execCensusEnd_inOrder ho _ _
  | .alarmSweepDue .. => execAlarmSweepDue_inOrder ho _
  | .sweep .. => execSweep_inOrder ho _
  | .censusRequest .. => execCensusRequest_inOrder ho _
  | .line .. => execLine_inOrder ho _
  | .latWireFault .. => execLatWireFault_inOrder ho _ _
  | .latWireOk .. => execLatWireOk_inOrder ho _ _
  | .canTxRequest .. => execCanTxRequest_inOrder ho _ _ _
  | .canTxCancel .. => execCanTxCancel_inOrder ho _ _ _
  | .canFrameSent .. => execCanFrameSent_inOrder ho _ _
  | .canFrameReceived .. => execCanFrameReceived_inOrder ho _ _
  | .canRxrel .. => execCanRxrel_inOrder ho _ _
  | .canBusoff .. => execCanBusoff_inOrder ho _
  | .canRecover .. => execCanRecover_inOrder ho _ _
  | .canBusoffEnd .. => execCanBusoffEnd_inOrder ho _
  | .canWireFault .. => execCanWireFault_inOrder ho _ _
  | .pullInStart .. => execPullInStart_inOrder ho _
  | .svMovementDip .. => execSvMovementDip_inOrder ho _ _ _
  | .pullInEnd .. => execPullInEnd_inOrder ho _ _
  | .svShort .. => execSvShort_inOrder ho _ _
  | .svShortRetry .. => execSvShortRetry_inOrder ho _
  | .coilModelStep .. => execCoilModelStep_inOrder ho _ _
  | .svOverload .. => execSvOverload_inOrder ho _ _
  | .bankTest .. => execBankTest_inOrder ho _ _ _ _
  | .bankRetest .. => execBankRetest_inOrder ho _ _ _
  | .svBankOff .. => execSvBankOff_inOrder ho _ _
  | .bankRetry .. => execBankRetry_inOrder ho _ _ _
  | .bankclr .. => execBankclr_inOrder ho _ _
  | .svClear .. => execSvClear_inOrder ho _ _
  | .boostSoftStart => execBoostSoftStart_inOrder ho
  | .boostReady .. => execBoostReady_inOrder ho _
  | .svBoostShort .. => execSvBoostShort_inOrder ho _
  | .boostHiccupRestart => execBoostHiccupRestart_inOrder ho
  | .svHoldEnd .. => execSvHoldEnd_inOrder ho _
  | .fanReload .. => execFanReload_inOrder ho _ _
  | .fanFail .. => execFanFail_inOrder ho _
  | .fanOk .. => execFanOk_inOrder ho _
  | .fanFailKick .. => execFanFailKick_inOrder ho _
  | .fanTsSample .. => execFanTsSample_inOrder ho _ _
  | .fanOutFault .. => execFanOutFault_inOrder ho _
  | .fanOutRetry .. => execFanOutRetry_inOrder ho _
  | .fanSupFault .. => execFanSupFault_inOrder ho _
  | .fanSupRetry .. => execFanSupRetry_inOrder ho _
  | .fanHoldEnd .. => execFanHoldEnd_inOrder ho _
  | .fanClear .. => execFanClear_inOrder ho _ _
  | .keyDownstreamFrame => execKeyDownstreamFrame_inOrder ho
  | .keyFieldApply .. => execKeyFieldApply_inOrder ho _
  | .keyFieldLoss => execKeyFieldLoss_inOrder ho
  | .keyUpstreamFrame .. => execKeyUpstreamFrame_inOrder ho _ _ _ _ _
  | .dioLinkLoss => execDioLinkLoss_inOrder ho
  | .counterGateEnd .. => execCounterGateEnd_inOrder ho _
  | .dioShort .. => execDioShort_inOrder ho _ _
  | .dioShortRetry .. => execDioShortRetry_inOrder ho _
  | .dioOpenLoadTest .. => execDioOpenLoadTest_inOrder ho _ _
  | .dioOt .. => execDioOt_inOrder ho _
  | .dioHoldEnd .. => execDioHoldEnd_inOrder ho _
  | .fieldSideStart .. => execFieldSideStart_inOrder ho _
  | .fieldSideStop .. => execFieldSideStop_inOrder ho _
  | .dioClear .. => execDioClear_inOrder ho _ _
  | .eventAccept => execEventAccept_inOrder ho
  | .tokenBucketTick .. => execTokenBucketTick_inOrder ho _
  | .recOverflow => execRecOverflow_inOrder ho
  | .logGroupRelease => execLogGroupRelease_inOrder ho
  | .logLineWrite => execLogLineWrite_inOrder ho
  | .flush .. => execFlush_inOrder ho _
  | .flushComplete => execFlushComplete_inOrder ho
  | .markerWrite => execMarkerWrite_inOrder ho
  | .nverase .. => execNverase_inOrder ho _ _
  | .cursorOldest .. => execCursorOldest_inOrder ho _
  | .cursorAt .. => execCursorAt_inOrder ho _
  | .cursorAfter .. => execCursorAfter_inOrder ho _
  | .cursorNewest .. => execCursorNewest_inOrder ho _
  | .windowFillComplete .. => execWindowFillComplete_inOrder ho _
  | .nvsRead .. => execNvsRead_inOrder ho _ _
  | .nvsWrite .. => execNvsWrite_inOrder ho _
  | .nvsEmit .. => execNvsEmit_inOrder ho _
  | .nvsStoreStart .. => execNvsStoreStart_inOrder ho _ _
  | .nvsStorePendingStart .. => execNvsStorePendingStart_inOrder ho _ _
  | .storeCommit .. => execStoreCommit_inOrder ho _ _
  | .rtcSet => execRtcSet_inOrder ho
  | .rtcShift => execRtcShift_inOrder ho
  | .trimChange => execTrimChange_inOrder ho
  | .rtcFracRead .. => execRtcFracRead_inOrder ho _
  | .rtcOscStop => execRtcOscStop_inOrder ho
  | .rtcBackupSwitch => execRtcBackupSwitch_inOrder ho
  | .bkramRead .. => execBkramRead_inOrder ho _ _ _
  | .clrperr .. => execClrperr_inOrder ho _
  | .clrsw .. => execClrsw_inOrder ho _
  | .hstLinkUp .. => execHstLinkUp_inOrder ho _ _
  | .hstLinkDown .. => execHstLinkDown_inOrder ho _
  | .cableDiagnostic .. => execCableDiagnostic_inOrder ho _ _ _
  | .arpRequest .. => execArpRequest_inOrder ho _ _ _ _
  | .icmpEcho .. => execIcmpEcho_inOrder ho _ _ _ _ _
  | .announce .. => execAnnounce_inOrder ho _ _ _ _
  | .syncMessage .. => execSyncMessage_inOrder ho _ _ _ _ _
  | .pdelayReqSend .. => execPdelayReqSend_inOrder ho _
  | .pdelayResp .. => execPdelayResp_inOrder ho _ _ _ _ _
  | .pdelayReq .. => execPdelayReq_inOrder ho _ _
  | .syncTimeout .. => execSyncTimeout_inOrder ho _
  | .hapOpen .. => execHapOpen_inOrder ho _ _ _
  | .hapClose .. => execHapClose_inOrder ho _
  | .ping .. => execPing_inOrder ho _
  | .rd .. => execRd_inOrder ho _ _
  | .wr .. => execWr_inOrder ho _ _
  | .evt .. => execEvt_inOrder ho _ _ _
  | .hapTime .. => execHapTime_inOrder ho _
  | .hapCell .. => execHapCell_inOrder ho _ _ _
  | .imgBegin .. => execImgBegin_inOrder ho _ _ _
  | .imgData .. => execImgData_inOrder ho _ _ _
  | .imgEnd .. => execImgEnd_inOrder ho _
  | .imgStatus .. => execImgStatus_inOrder ho _
  | .imgLoadTimeout .. => execImgLoadTimeout_inOrder ho _
  | .keySet .. => execKeySet_inOrder ho _ _ _
  | .credSet .. => execCredSet_inOrder ho _ _ _ _ _
  | .hapIdleTimeout .. => execHapIdleTimeout_inOrder ho _
  | .credBlockEnd .. => execCredBlockEnd_inOrder ho _
  | .inventory => execInventory_inOrder ho
  | .getSystemInformation => execGetSystemInformation_inOrder ho
  | .extendedReadSingleBlock .. => execExtendedReadSingleBlock_inOrder ho _
  | .extendedReadMultipleBlocks .. => execExtendedReadMultipleBlocks_inOrder ho _ _
  | .extendedWriteSingleBlock .. => execExtendedWriteSingleBlock_inOrder ho _ _
  | .fieldWriteCommit => execFieldWriteCommit_inOrder ho
  | .tagWcmd .. => execTagWcmd_inOrder ho _ _
  | .wiredCommitComplete => execWiredCommitComplete_inOrder ho
  | .tagCommission => execTagCommission_inOrder ho
  | .tagStatusWrite => execTagStatusWrite_inOrder ho
  | .tagAntCheck .. => execTagAntCheck_inOrder ho _
  | .ack => execAck_inOrder ho
  | .silence => execSilence_inOrder ho
  | .localI => execLocalI_inOrder ho
  | .test => execTest_inOrder ho
  | .faceLocal => execFaceLocal_inOrder ho
  | .faceKeyStuck .. => execFaceKeyStuck_inOrder ho _
  | .ledTestEnd => execLedTestEnd_inOrder ho
  | .localTimeout => execLocalTimeout_inOrder ho
  | .alarmWrite .. => execAlarmWrite_inOrder ho _ _
  | .trcTrig .. => execTrcTrig_inOrder ho _ _
  | .trcClear .. => execTrcClear_inOrder ho _ _
  | .dipBegin .. => execDipBegin_inOrder ho _ _
  | .pwrDip .. => execPwrDip_inOrder ho _ _
  | .tierTakeEffect .. => execTierTakeEffect_inOrder ho _ _
  | .tierRestore => execTierRestore_inOrder ho
  | .pwrThermal .. => execPwrThermal_inOrder ho _ _
  | .thermalRestart .. => execThermalRestart_inOrder ho _
  | .pwrForceWrite .. => execPwrForceWrite_inOrder ho _ _
  | .pwrInputRev .. => execPwrInputRev_inOrder ho _ _
  | .pwrInputLost .. => execPwrInputLost_inOrder ho _ _
  | .pwrInputOv .. => execPwrInputOv_inOrder ho _ _
  | .pwrInputOk .. => execPwrInputOk_inOrder ho _ _
  | .pwrFieldUv .. => execPwrFieldUv_inOrder ho _
  | .pwrFieldOv .. => execPwrFieldOv_inOrder ho _
  | .pwrFieldRev .. => execPwrFieldRev_inOrder ho _
  | .pwrFieldTrip .. => execPwrFieldTrip_inOrder ho _
  | .fieldSwitchRetry => execFieldSwitchRetry_inOrder ho
  | .pwrFieldOk .. => execPwrFieldOk_inOrder ho _
  | .fretry .. => execFretry_inOrder ho _
  | .hutest .. => execHutest_inOrder ho _
  | .holdupTest .. => execHoldupTest_inOrder ho _ _
  | .holdupCharged .. => execHoldupCharged_inOrder ho _
  | .vbakTest .. => execVbakTest_inOrder ho _
  | .pllLockLoss .. => execPllLockLoss_inOrder ho _
  | .relock .. => execRelock_inOrder ho _
  | .clkRelock .. => execClkRelock_inOrder ho _
  | .relockAttemptTimeout => execRelockAttemptTimeout_inOrder ho
  | .clkRootFail .. => execClkRootFail_inOrder ho _ _
  | .islandRetry .. => execIslandRetry_inOrder ho _ _
  | .powerOnResetRelease .. => execPowerOnResetRelease_inOrder ho _ _ _ _ _
  | .sys .. => execSys_inOrder ho _
  | .full .. => execFull_inOrder ho _
  | .ctlBrstWrite .. => execCtlBrstWrite_inOrder ho _ _
  | .resetAssert => execResetAssert_inOrder ho
  | .resetRelease .. => execResetRelease_inOrder ho _
  | .ctlWdkickWrite .. => execCtlWdkickWrite_inOrder ho _ _
  | .ctlWatchdog => execCtlWatchdog_inOrder ho
  | .ctlWedge => execCtlWedge_inOrder ho
  | .islandAct => execIslandAct_inOrder ho
  | .ctlStart => execCtlStart_inOrder ho
  | .ctlCensusLate => execCtlCensusLate_inOrder ho
  | .rtcTick => execRtcTick_inOrder ho
  | .canWireOk .. => execCanWireOk_inOrder ho _ _
  | .canPortError .. => execCanPortError_inOrder ho _ _
  | .privateReceived .. => execPrivateReceived_inOrder ho _ _
  | .filteredEdge .. => execFilteredEdge_inOrder ho _ _
  | .tachometerPulse .. => execTachometerPulse_inOrder ho _
  | .railNotReady .. => execRailNotReady_inOrder ho _
  | .dioOtRestart .. => execDioOtRestart_inOrder ho _
  | .readerField .. => execReaderField_inOrder ho _
  | .keyReleased .. => execKeyReleased_inOrder ho _
  | .clkDtblRead .. => execClkDtblRead_inOrder ho _
  | .engineResetEnd .. => execEngineResetEnd_inOrder ho _
  | .keyReceiverSearch .. => execKeyReceiverSearch_inOrder ho _

/-- Settles O60: `tick` and each command keep the order; of the operations they are made of, only those that write a map named there,
the depth of the tiers or the reset sequence need a fact about what they write. -/
theorem everyStepKeepsTheOrderOfTheState : Obligations.EveryStepKeepsTheOrderOfTheState := by
  unfold Obligations.EveryStepKeepsTheOrderOfTheState
  intro s t ho ht
  unfold step at ht
  split at ht
  · exact Host.Outcome.next.inj ht ▸ tick_inOrder ho
  · next c rest _ => exact exec_inOrder c ((with_inOrder s ..).mpr ho) t ht

end Sys2Proof.Machine
end

section
/-! SUPPORT. Applies and discards of a page (R44, R45, R49, R50). -/
namespace Sys2Proof.Machine

/-! ### Maps -/

theorem mhas_mins {α : Type} (j k : Nat) (v : α) (m : SMap α) : mhas j (mins k v m) = (k == j || mhas j m) := by
  induction m with
  | nil => rfl
  | cons e t ih =>
    obtain ⟨i, w⟩ := e
    unfold mins
    split
    · rfl
    · simp only [mhas, List.any_cons] at ih ⊢
      rw [ih, Bool.or_left_comm]

theorem mget_filter_keep {α : Type} (d : α) {k : Nat} {f : Nat × α → Bool} (h : ∀ v, f (k, v) = true) (m : SMap α) :
    mget d k (m.filter f) = mget d k m := by
  induction m with
  | nil => rfl
  | cons e t ih =>
    obtain ⟨j, v⟩ := e
    by_cases hj : j = k
    · subst hj
      rw [List.filter_cons_of_pos (h v), mget, if_pos rfl, mget, if_pos rfl]
    · rw [List.filter_cons]
      split
      · rw [mget, if_neg hj, mget, if_neg hj, ih]
      · rw [ih, mget, if_neg hj]

theorem mget_filter_drop {α : Type} (d : α) {k : Nat} {f : Nat × α → Bool} (h : ∀ v, f (k, v) = false) (m : SMap α) :
    mget d k (m.filter f) = d := by
  induction m with
  | nil => rfl
  | cons e t ih =>
    obtain ⟨j, v⟩ := e
    rw [List.filter_cons]
    split
    · next hf =>
      have hj : j ≠ k := fun hj => by rw [hj, h v] at hf; cases hf
      rw [mget, if_neg hj, ih]
    · exact ih

/-! ### Frames -/

theorem only_emit (s : State) (ps : List Part) (h : .recd ∈ ps) (code cell : Nat) (body : List Word) :
    State.Only ps s (s.emit code cell body) := by
  intro p hp
  cases p with
  | recd => exact absurd h hp
  | _ => rfl

/-- A record handed over where time and recorder stand as they did. -/
theorem logs_emit {s u : State} (hd : u.dtb = s.dtb) (hr : u.recd = s.recd) (code cell : Nat) (body : List Word) :
    State.Logs [s.event code cell body] s (u.emit code cell body) := by
  rw [State.Logs, State.emit, State.emitAt, State.event, hd, hr]

theorem only_mono {ps qs : List Part} {s t : State} (h : State.Only ps s t) (hs : ps ⊆ qs) : State.Only qs s t :=
  fun p hp => h p fun hm => hp (hs hm)

/-! ### The page of an apply -/

/-- The STAGE register of a page lies in it. -/
theorem pageOf_stageOf {page : Nat} (hp : page % 0x1000 = 0) (hlt : page < 0x100000000) : pageOf (stageOf page) = page := by
  unfold pageOf stageOf addrOf
  omega

section
variable {s : State} {w : Who} {page : Nat}

/-- A write of BLOCK_APPLY (R44). -/
theorem regWrite_blockApply (hp : page % 0x1000 = 0) (hst : stagedPage page = true)
    (hz : s.whoCell w = 0 ∨ cellZeroPage (page + 0xFF8) = false)
    (hh : ¬(0x40680000 ≤ page ∧ page < 0x40700000 ∧ s.ctl.rtcHanded = true)) (v : Word) :
    s.regWrite w (page + 0xFF8) v = s.writeApply page (s.whoCell w) (fld v 7 0) := by
  have hn : ¬ ((s.whoCell w ≠ 0 ∧ cellZeroPage (page + 0xFF8) = true) ∨
      (0x40680000 ≤ page + 0xFF8 ∧ page + 0xFF8 < 0x40700000 ∧ s.ctl.rtcHanded = true)) := by
    rintro (⟨hc, hcz⟩ | ⟨hlo, hhi, hr⟩)
    · exact hz.elim hc fun h => by simp [hcz] at h
    · exact hh ⟨by omega, by omega, hr⟩
  have ha : (page + 0xFF8) % 0x1000 = 0xFF8 ∧ stagedPage page = true := ⟨by omega, hst⟩
  rw [State.regWrite]
  simp only [if_neg hn, Nat.add_sub_cancel, if_pos ha]

theorem acceptApply_pending (h : s.isPending page = true) (c : Nat) : s.acceptApply page c = s := if_pos h

theorem acceptApply_agreed (h : s.isPending page = false) (ha : s.regB (stageOf page) 2 = true → s.agree page = 0) (c : Nat) :
    s.acceptApply page c = ({ s with pend := mins page ⟨s.dtb, c⟩ s.pend }).setRegB (stageOf page) 0 true := by
  have hr : (if s.regB (stageOf page) 2 = true then s.agree page else 0) = 0 := by
    split
    · next hd => exact ha hd
    · rfl
  rw [State.acceptApply]
  simp only [h, hr]
  rfl

theorem acceptApply_rejected (h : s.isPending page = false) (hd : s.regB (stageOf page) 2 = true) (ha : s.agree page ≠ 0) (c : Nat) :
    s.acceptApply page c = ((s.setRegB (stageOf page) 5 true).setRegF (stageOf page) 11 8 (s.agree page)).emit Ev.STAGE_REJECT c
      [w32 (stageOf page), w32 (s.agree page), w32 c] := by
  rw [State.acceptApply]
  simp only [h, hd, if_true, if_neg ha]
  rfl

theorem discard_pending (h : s.isPending page = true) : s.discard page = s.setRegB (stageOf page) 6 true := if_pos h

theorem discard_open (h : s.isPending page = false) :
    s.discard page = ({ s with shd := s.shd.filter fun e => pageOf e.1 != page }).setRegB (stageOf page) 2 false := by
  rw [State.discard]
  simp only [h]
  rfl

/-- A write of one register's bit changes that register alone. -/
theorem setRegB_holds (s : State) (k i : Nat) (b : Bool) :
    State.Only [.act] s (s.setRegB k i b) ∧ State.OnlyRegs [k] s (s.setRegB k i b) ∧ (s.setRegB k i b).reg k = setBit (s.reg k) i b :=
  ⟨only_setReg _ _ (by decide) _ _, fun _ hj => reg_setReg_ne _ (by simpa using hj) _, reg_setReg_same ..⟩

theorem applied_holds (s : State) (page : Nat) (x : Pend) :
    let t := ({ s with pend := mins page x s.pend }).setRegB (stageOf page) 0 true
    State.Only [.act, .pend] s t ∧ State.OnlyRegs [stageOf page] s t ∧ t.reg (stageOf page) = setBit (s.reg (stageOf page)) 0 true ∧
      t.isPending page = true ∧ ∀ p, p ≠ page → t.isPending p = s.isPending p := by
  intro t
  have hp : State.Only [.act, .pend] s { s with pend := mins page x s.pend } := fun p hp => by
    cases p with
    | pend => exact absurd (by decide) hp
    | _ => rfl
  obtain ⟨ho, hr, hst⟩ := setRegB_holds { s with pend := mins page x s.pend } (stageOf page) 0 true
  refine ⟨only_trans hp (only_mono ho (by decide)), hr, hst, ?_, fun p hne => ?_⟩
  · exact (mhas_mins ..).trans (by simp)
  · exact (mhas_mins ..).trans (by simp [Ne.symm hne, State.isPending])

theorem rejected_holds (s : State) (page c r : Nat) :
    let t := ((s.setRegB (stageOf page) 5 true).setRegF (stageOf page) 11 8 r).emit Ev.STAGE_REJECT c [w32 (stageOf page), w32 r, w32 c]
    State.Only [.act, .recd] s t ∧ State.OnlyRegs [stageOf page] s t ∧
      t.reg (stageOf page) = setFld (setBit (s.reg (stageOf page)) 5 true) 11 8 r ∧
      State.Logs [s.event Ev.STAGE_REJECT c [w32 (stageOf page), w32 r, w32 c]] s t := by
  intro t
  refine ⟨only_trans (only_trans (only_setReg _ _ (by decide) _ _) (only_setReg _ _ (by decide) _ _)) (only_emit _ _ (by decide) _ _ _),
    fun j hj => ?_, ?_, logs_emit ?_ ?_ _ _ _⟩
  · have hj : j ≠ stageOf page := by simpa using hj
    rw [reg_emit, reg_setRegF_ne _ hj, reg_setRegB_ne _ hj]
  · rw [reg_emit, reg_setRegF_same, reg_setRegB_same]
  · rw [setRegF_dtb, setRegB_dtb]
  · rw [setRegF_recd, setRegB_recd]

theorem discarded_holds (s : State) (hp : pageOf (stageOf page) = page) :
    let t := ({ s with shd := s.shd.filter fun e => pageOf e.1 != page }).setRegB (stageOf page) 2 false
    State.Only [.act, .shd] s t ∧ State.OnlyRegs [stageOf page] s t ∧ t.reg (stageOf page) = setBit (s.reg (stageOf page)) 2 false ∧
      (∀ k, pageOf k = page → t.shadow k = t.reg k) ∧ ∀ k, pageOf k ≠ page → t.shadow k = s.shadow k := by
  intro t
  have hshd : State.Only [.act, .shd] s { s with shd := s.shd.filter fun e => pageOf e.1 != page } := fun p hp => by
    cases p with
    | shd => exact absurd (by decide) hp
    | _ => rfl
  obtain ⟨ho, hr, hst⟩ := setRegB_holds { s with shd := s.shd.filter fun e => pageOf e.1 != page } (stageOf page) 2 false
  refine ⟨only_trans hshd (only_mono ho (by decide)), hr, hst, fun k hk => ?_, fun k hk => ?_⟩
  · exact mget_filter_drop _ (fun _ => by simp [hk]) _
  · have hne : k ≠ stageOf page := fun h => hk (h ▸ hp)
    refine (shadow_setReg_ne _ hne _).trans ?_
    exact mget_filter_keep _ (fun _ => by simpa using hk) _
end

/-- The low byte of a word is that of its number. -/
theorem fld_byte (n : Nat) : fld (w32 n) 7 0 = n % 256 := by
  rw [fld, BitVec.toNat_ofNat]
  omega

/-- Settles O21: an access of BLOCK_APPLY that is granted is one write of a command to the page. -/
theorem applyAndDiscard : Obligations.ApplyAndDiscard := by
  unfold Obligations.ApplyAndDiscard
  intro s w page c st hx hp hst hg hz hh
  have hacc (v : Word) : s.access w (page + 0xFF8) (fun s => s.regWrite w (page + 0xFF8) v) = s.writeApply page c (fld v 7 0) :=
    (access_granted hx (by omega) hg _).trans (regWrite_blockApply hp hst hz hh v)
  have happly : exec (.apply w page) s = .next (s.acceptApply page c) := congrArg Host.Outcome.next (hacc 0x5A)
  have hdiscard : exec (.discard w page) s = .next (s.discard page) := congrArg Host.Outcome.next (hacc 0xD1)
  have hpage : pageOf (stageOf page) = page := pageOf_stageOf hp (by have := lt_of_inExtent hx; omega)
  refine ⟨fun hpend => ?_, fun hpend => ⟨_, hdiscard, ?_⟩, fun hopen ha => ⟨_, happly, ?_⟩, fun hopen hd ha => ⟨_, happly, ?_⟩,
    fun hopen => ⟨_, hdiscard, ?_⟩, fun cmd h5 hD => ⟨_, ?_, setRegB_holds s st 7 true⟩⟩
  · rw [happly, acceptApply_pending hpend]
  · rw [discard_pending hpend]
    exact setRegB_holds ..
  · rw [acceptApply_agreed hopen ha]
    exact applied_holds ..
  · rw [acceptApply_rejected hopen hd ha]
    exact rejected_holds ..
  · rw [discard_open hopen]
    exact discarded_holds s hpage
  · have hcmd : s.access w (page + 0xFF8) (fun s => s.regWrite w (page + 0xFF8) (w32 cmd)) = s.setRegB st 7 true := by
      rw [hacc, fld_byte, State.writeApply, if_neg h5, if_neg hD]
      rfl
    have hno : ¬(cmd % 256 = 0x5A ∨ cmd % 256 = 0xD1) := by omega
    exact (if_neg hno).trans (congrArg Host.Outcome.next hcmd)

end Sys2Proof.Machine
end

section
/-! SUPPORT. An apply of the recorder's rate page while another page of its block is due (R43, R47). -/
namespace Sys2Proof.Machine

/-- Two pages of the recorder's block wait for a frame boundary that has come: the rate page and the page before it. That page holds no
staged register, so no run of the module accepts its apply; but the last clause on the rate page puts no hypothesis on the pending
applies. -/
def State.twoPagesDue : State := { State.reset with dtb := 20000, pend := [(0x40600000, ⟨0, 0⟩), (recRlPage, ⟨0, 0⟩)] }

/-- Whether a page is pending in the state that a command answers. -/
def pendingAfter (page : Nat) (o : Out) : Bool :=
  match o with
  | .next t => t.isPending page
  | _ => false

/-- The two pages commit together (log 20). -/
theorem twoPagesDue_commits_both : pendingAfter 0x40600000 (exec (.applyTakesEffect recRlPage) State.twoPagesDue) = false := by
  decide +kernel

/-- Refutes O22: its last clause says that the rate page's apply ends no other pending apply, but every due page of the block commits with
it, and where the recorder's first page is pending too that page's apply ends as well. -/
theorem not_appliesTakeEffectWhole : ¬ Obligations.AppliesTakeEffectWhole := by
  unfold Obligations.AppliesTakeEffectWhole
  intro h
  obtain ⟨-, -, -, hcommit⟩ := h State.twoPagesDue recRlPage
  obtain ⟨-, hrate⟩ := hcommit (by decide) rfl rfl
  obtain ⟨t, ht, ⟨-, -, -, hothers, -⟩, -⟩ := hrate rfl rfl (by decide) (by decide)
  have hkept : t.isPending 0x40600000 = true := hothers 0x40600000 (by decide)
  have hended := twoPagesDue_commits_both
  rw [ht] at hended
  exact absurd hkept (Bool.eq_false_iff.mp hended)

end Sys2Proof.Machine
end

section
/-! SUPPORT. Outputs driven and released (R336 to R352, R365, R390): the parts they change and the registers they leave. -/
namespace Sys2Proof.Machine

/-! ### Parts and registers left alone -/

/-- `t` differs from `s` in these parts alone, and in no register among the first four words of its page, where the CFG registers of the
outputs and the state of the clocks lie. -/
def State.Leaves (ps : List Part) (s t : State) : Prop := State.Only ps s t ∧ ∀ k, k % 0x1000 < 0x10 → t.reg k = s.reg k

theorem only_refl (ps : List Part) (s : State) : State.Only ps s s := fun p _ => by cases p <;> rfl

theorem only_symm {ps : List Part} {s t : State} (h : State.Only ps s t) : State.Only ps t s := fun p hp => by
  have h1 := h p hp
  cases p <;> exact Eq.symm h1

theorem leaves_refl (ps : List Part) (s : State) : State.Leaves ps s s := ⟨only_refl ps s, fun _ _ => rfl⟩

section
variable {ps : List Part} {u s t : State}

/-- What leaves these alone may be read through: the lemmas on the operations below are equivalences, by which `simp` reads a state from
the outermost operation inward. -/
theorem leaves_iff_of (h : State.Leaves ps s t) : State.Leaves ps u t ↔ State.Leaves ps u s :=
  ⟨fun hu => ⟨only_trans hu.1 (only_symm h.1), fun k hk => (h.2 k hk).symm.trans (hu.2 k hk)⟩,
    fun hu => ⟨only_trans hu.1 h.1, fun k hk => (h.2 k hk).trans (hu.2 k hk)⟩⟩

theorem leaves_ite (c : Prop) [Decidable c] :
    State.Leaves ps u (if c then s else t) ↔ if c then State.Leaves ps u s else State.Leaves ps u t := by
  split <;> rfl

theorem leaves_foldl {α : Type} {f : State → α → State} {l : List α}
    (h : ∀ s, ∀ x ∈ l, State.Leaves ps u (f s x) ↔ State.Leaves ps u s) (s : State) :
    State.Leaves ps u (l.foldl f s) ↔ State.Leaves ps u s := by
  induction l generalizing s with
  | nil => rfl
  | cons x l ih => exact (ih (fun s y hy => h s y (List.mem_cons_of_mem _ hy)) _).trans (h s x List.mem_cons_self)

theorem leaves_setReg (ha : .act ∈ ps) {k : Nat} (hk : 0x10 ≤ k % 0x1000) (v : Word) :
    State.Leaves ps u (s.setReg k v) ↔ State.Leaves ps u s :=
  leaves_iff_of ⟨only_setReg _ _ ha _ _, fun j hj => reg_setReg_ne _ (fun h => by rw [h] at hj; omega) _⟩

theorem leaves_setRegB (ha : .act ∈ ps) {k : Nat} (hk : 0x10 ≤ k % 0x1000) (i : Nat) (b : Bool) :
    State.Leaves ps u (s.setRegB k i b) ↔ State.Leaves ps u s := leaves_setReg ha hk _

theorem leaves_setRegF (ha : .act ∈ ps) {k : Nat} (hk : 0x10 ≤ k % 0x1000) (hi lo v : Nat) :
    State.Leaves ps u (s.setRegF k hi lo v) ↔ State.Leaves ps u s := leaves_setReg ha hk _

theorem leaves_with_sv (hs : .sv ∈ ps) (x : SvSt) : State.Leaves ps u { s with sv := x } ↔ State.Leaves ps u s :=
  leaves_iff_of ⟨fun p hp => by
    cases p with
    | sv => exact absurd hs hp
    | _ => rfl, fun _ _ => rfl⟩

theorem leaves_setSvc (hs : .sv ∈ ps) (n : Nat) (x : SvChan) : State.Leaves ps u (s.setSvc n x) ↔ State.Leaves ps u s := leaves_with_sv hs _

theorem leaves_setFan (hf : .fans ∈ ps) (n : Nat) (x : FanChan) : State.Leaves ps u (s.setFan n x) ↔ State.Leaves ps u s :=
  leaves_iff_of ⟨fun p hp => by
    cases p with
    | fans => exact absurd hf hp
    | _ => rfl, fun _ _ => rfl⟩

theorem leaves_setSlot (hs : .slots ∈ ps) (n : Nat) (x : Slot) : State.Leaves ps u (s.setSlot n x) ↔ State.Leaves ps u s :=
  leaves_iff_of ⟨fun p hp => by
    cases p with
    | slots => exact absurd hs hp
    | _ => rfl, fun _ _ => rfl⟩

theorem leaves_emit (hr : .recd ∈ ps) (code cell : Nat) (body : List Word) :
    State.Leaves ps u (s.emit code cell body) ↔ State.Leaves ps u s :=
  leaves_iff_of ⟨only_emit _ _ hr _ _ _, fun _ _ => rfl⟩

/-! ### The registers of outputs -/

@[simp] theorem svStat_word (n : Nat) : 16 ≤ Reg.SV_STAT n % 4096 := by unfold Reg.SV_STAT; omega

@[simp] theorem svMeas_word (n : Nat) : 16 ≤ Reg.SV_MEAS n % 4096 := by unfold Reg.SV_MEAS; omega

@[simp] theorem svPcnt_word (n : Nat) : 16 ≤ Reg.SV_PCNT n % 4096 := by unfold Reg.SV_PCNT; omega

theorem svBkstat_word {b : Nat} (hb : b < 4) : 16 ≤ Reg.SV_BKSTAT b % 4096 := by unfold Reg.SV_BKSTAT; omega

@[simp] theorem fanStat_word (n : Nat) : 16 ≤ Reg.FAN_STAT n % 4096 := by unfold Reg.FAN_STAT; omega

@[simp] theorem dioStat_word (n : Nat) : 16 ≤ Reg.DIO_STAT n % 4096 := by unfold Reg.DIO_STAT; omega

/-! ### Solenoid drivers -/

variable (ha : .act ∈ ps) (hs : .sv ∈ ps)
include ha

theorem leaves_svGo (n st : Nat) : State.Leaves ps u (s.svGo n st) ↔ State.Leaves ps u s := leaves_setRegF ha (svStat_word n) ..

theorem leaves_svFlag (n i : Nat) : State.Leaves ps u (s.svFlag n i) ↔ State.Leaves ps u s := leaves_setRegB ha (svStat_word n) ..

theorem leaves_svCom : State.Leaves ps u s.svCom ↔ State.Leaves ps u s :=
  leaves_foldl (fun s b hb => leaves_setRegB ha (svBkstat_word (by simp at hb; omega)) ..) s

theorem leaves_svUnlatch (n : Nat) : State.Leaves ps u (s.svUnlatch n) ↔ State.Leaves ps u s := by
  unfold State.svUnlatch
  simp [leaves_ite, leaves_setRegB ha, leaves_setRegF ha]

include hs

theorem leaves_svPassed (n : Nat) : State.Leaves ps u (s.svPassed n) ↔ State.Leaves ps u s := by
  unfold State.svPassed
  simp [leaves_setRegF ha, leaves_setSvc hs]

theorem leaves_svDrop (n st : Nat) : State.Leaves ps u (s.svDrop n st) ↔ State.Leaves ps u s := by
  unfold State.svDrop
  simp [leaves_svCom ha, leaves_setSvc hs, leaves_svGo ha, leaves_ite, leaves_svPassed ha hs]

theorem leaves_svRelease (n : Nat) : State.Leaves ps u (s.svRelease n) ↔ State.Leaves ps u s := by
  unfold State.svRelease
  simp [leaves_ite, leaves_svDrop ha hs, leaves_setSvc hs, leaves_svGo ha]

theorem leaves_svStartPull {n : Nat} (hn : n < 24) : State.Leaves ps u (s.svStartPull n) ↔ State.Leaves ps u s := by
  have hb : 16 ≤ Reg.SV_BKSTAT (svBankOf n) % 4096 := svBkstat_word (by unfold svBankOf; omega)
  unfold State.svStartPull
  simp [leaves_svCom ha, leaves_setRegF ha, leaves_setReg ha, leaves_setRegB ha, leaves_ite, leaves_svFlag ha, leaves_setSvc hs,
    leaves_svGo ha, hb]

theorem leaves_svStartAll : State.Leaves ps u s.svStartAll ↔ State.Leaves ps u s :=
  leaves_foldl (fun s _ _ => by
    split
    · next n h => exact leaves_svStartPull ha hs (svNext_lt h)
    · rfl) s

variable (hr : .recd ∈ ps)
include hr

theorem leaves_svPend (n : Nat) : State.Leaves ps u (s.svPend n) ↔ State.Leaves ps u s := by
  unfold State.svPend
  extract_lets s1 src
  have h1 : State.Leaves ps u s1 ↔ State.Leaves ps u s := leaves_svGo ha ..
  clear_value s1
  rw [leaves_ite]
  split
  · exact (leaves_emit hr ..).trans ((leaves_with_sv hs _).trans h1)
  · exact h1

theorem leaves_svTurnOn (n : Nat) : State.Leaves ps u (s.svTurnOn n) ↔ State.Leaves ps u s := by
  unfold State.svTurnOn State.svTurnOns State.svAsk
  exact (leaves_svStartAll ha hs).trans
    ((leaves_foldl (fun s n _ => leaves_svPend ha hs hr n) _).trans (leaves_foldl (fun s n _ => leaves_svGo ha n _) s))

theorem leaves_svOnCommand (n : Nat) : State.Leaves ps u (s.svOnCommand n) ↔ State.Leaves ps u s := by
  unfold State.svOnCommand
  simp [leaves_ite, leaves_setSvc hs, leaves_svTurnOn ha hs hr, leaves_svUnlatch ha]

theorem leaves_svCommand (n : Nat) (v : Word) : State.Leaves ps u (s.svCommand n v) ↔ State.Leaves ps u s := by
  unfold State.svCommand
  simp [leaves_ite, leaves_setSvc hs, leaves_svDrop ha hs, leaves_svGo ha, leaves_svOnCommand ha hs hr]
end

/-! ### Fans and digital outputs -/

section
variable {ps : List Part} {u s : State} (hf : .fans ∈ ps)
include hf

theorem leaves_fanReach (n : Nat) (v : Option Word) : State.Leaves ps u (s.fanReach n v) ↔ State.Leaves ps u s := leaves_setFan hf ..

theorem leaves_fanRelease (n : Nat) : State.Leaves ps u (s.fanRelease n) ↔ State.Leaves ps u s := leaves_fanReach hf ..

variable (ha : .act ∈ ps)
include ha

theorem leaves_fanCommand (n : Nat) (v : Word) : State.Leaves ps u (s.fanCommand n v) ↔ State.Leaves ps u s := by
  unfold State.fanCommand State.fanFlag
  simp [leaves_fanReach hf, leaves_ite, leaves_setRegB ha]

omit hf in
theorem leaves_ioCommand (n : Nat) (v : Word) : State.Leaves ps u (s.ioCommand n v) ↔ State.Leaves ps u s := by
  unfold State.ioCommand
  simp [leaves_ite, leaves_setRegB ha]
end

/-! ### Slots -/

/-- The parts an output command and a slot taken up change. -/
def outParts : List Part := [.act, .slots, .sv, .fans, .recd]

theorem slot_of_only {ps : List Part} {s t : State} (h : State.Only ps s t) (hs : .slots ∉ ps) (n : Nat) : t.slot n = s.slot n := by
  rw [State.slot, show t.slots = s.slots from h .slots hs]
  rfl

theorem loop_of_only {ps : List Part} {s t : State} (h : State.Only ps s t) (hs : .loops ∉ ps) (n : Nat) : t.loop n = s.loop n := by
  rw [State.loop, show t.loops = s.loops from h .loops hs]
  rfl

/-- A slot taken up: its value goes out and the writes that wait are those given. -/
theorem takeUp_holds (s : State) (n : Nat) (v : Word) (rest : List SlotWrite) :
    State.Leaves outParts s (s.takeUp n v rest) ∧ (s.takeUp n v rest).slot n = { s.slot n with value := some v, next := rest } ∧
      ∀ m, m ≠ n → (s.takeUp n v rest).slot m = s.slot m := by
  unfold State.takeUp
  extract_lets src s1
  have h1 : State.Leaves outParts s s1 := (leaves_setSlot (by decide) ..).mpr (leaves_refl ..)
  have hn : s1.slot n = { s.slot n with value := some v, next := rest } := slot_setSlot_same ..
  have hm : ∀ m, m ≠ n → s1.slot m = s.slot m := fun m h => slot_setSlot_ne _ h _
  clear_value s1
  -- The command to the output changes no slot.
  have hcmd : State.Leaves [.act, .sv, .fans, .recd] s1
      (if n < 24 then s1.svCommand n v else if n < 40 then s1.fanCommand (n - 24) v else s1.ioCommand (n - 40) v) := by
    rw [leaves_ite, leaves_ite, leaves_svCommand (by decide) (by decide) (by decide), leaves_fanCommand (by decide) (by decide),
      leaves_ioCommand (by decide), ite_self, ite_self]
    exact leaves_refl ..
  obtain ⟨ho, hr⟩ := hcmd
  have hslot := slot_of_only ho (by decide)
  refine ⟨(leaves_iff_of ⟨only_mono ho (by decide), hr⟩).mpr h1, ?_, fun m h => ?_⟩
  · rw [hslot, hn]
  · rw [hslot, hm m h]

/-! ### A loop's slots at its boundary (R31, R102, R104) -/

/-- A write to a slot that came before the boundary in a period that its loop has not ended by its deadline: its trap withdraws it. -/
def State.withheld (s : State) (l at' : Nat) (w : SlotWrite) : Bool := s.doomed l at' && w.per == (s.loop l).per

/-- A loop's boundary takes up this slot: it is the loop's or nobody's, an output, and its block in no reset posture. -/
def State.takesSlot (s : State) (l n : Nat) : Prop :=
  ((s.slot n).owner = none ∨ (s.slot n).owner = some l) ∧ s.slotIsOut n = true ∧ s.ctl.posts.contains (slotBlock n) = false

/-- What a boundary at `at'` makes of a slot of the loop. -/
def State.SlotAt (l at' n : Nat) (s t : State) : Prop :=
  let x := s.slot n
  let early := (x.early at').filter fun w => !s.withheld l at' w
  (∀ w, s.takesSlot l n → early.getLast? = some w → (t.slot n).value = some w.value ∧
    (t.slot n).next = (x.early at').filter (s.withheld l at') ++ x.lateOnes at') ∧
  (¬s.takesSlot l n ∨ early = [] → (t.slot n).value = x.value ∧ (t.slot n).next = x.next)

section
variable {s t : State} (h : State.Leaves outParts s t)
include h

theorem onSafe_of_leaves : t.onSafe = s.onSafe := by
  rw [State.onSafe, State.regF, h.2 _ (by decide)]
  rfl

theorem slotIsOut_of_leaves (n : Nat) : t.slotIsOut n = s.slotIsOut n := by
  rw [State.slotIsOut, State.ioIsOut, State.ioCfg, h.2 _ (by unfold Reg.DIO_CFG; omega)]
  rfl

theorem loop_of_leaves (l : Nat) : t.loop l = s.loop l := loop_of_only h.1 (by decide) l

theorem withheld_of_leaves (l at' : Nat) : t.withheld l at' = s.withheld l at' := by
  funext w
  simp only [State.withheld, State.doomed, State.overdueAt, loop_of_leaves h, onSafe_of_leaves h]

theorem takesSlot_of_leaves {l n : Nat} (hn : t.slot n = s.slot n) : t.takesSlot l n ↔ s.takesSlot l n := by
  rw [State.takesSlot, State.takesSlot, hn, slotIsOut_of_leaves h, show t.ctl = s.ctl from h.1 .ctl (by decide)]

/-- What a boundary reads of the state for a slot: nothing that output commands change. -/
theorem slotAt_of_leaves {l at' n : Nat} {v : State} (hn : t.slot n = s.slot n) (hv : State.SlotAt l at' n t v) :
    State.SlotAt l at' n s v := by
  unfold State.SlotAt at hv ⊢
  rw [withheld_of_leaves h, hn, takesSlot_of_leaves h hn] at hv
  exact hv
end

theorem slotAt_congr {l at' n : Nat} {s t v : State} (h : State.SlotAt l at' n s t) (hv : v.slot n = t.slot n) :
    State.SlotAt l at' n s v := by
  unfold State.SlotAt at h ⊢
  rw [hv]
  exact h

theorem boundarySlot_holds (l at' : Nat) (s : State) (n : Nat) :
    State.Leaves outParts s (State.boundarySlot l at' s n) ∧ State.SlotAt l at' n s (State.boundarySlot l at' s n) ∧
      ∀ m, m ≠ n → (State.boundarySlot l at' s n).slot m = s.slot m := by
  unfold State.boundarySlot
  extract_lets x s1 held
  have h1 : State.Leaves outParts s s1 := by
    unfold s1
    rw [leaves_ite, leaves_setSlot (by decide), ite_self]
    exact leaves_refl ..
  have hn : s1.slot n = { x with owner := if x.owner.isNone && s.slotIsOut n then some l else x.owner } := by
    unfold s1
    split
    · exact slot_setSlot_same ..
    · rfl
  have hm : ∀ m, m ≠ n → s1.slot m = s.slot m := fun m hne => by
    unfold s1
    split
    · exact slot_setSlot_ne _ hne _
    · rfl
  have htakes : (s1.ownsSlot l n && !s1.ctl.posts.contains (slotBlock n)) = true ↔ s.takesSlot l n := by
    rw [State.ownsSlot, hn, slotIsOut_of_leaves h1, show s1.ctl = s.ctl from h1.1 .ctl (by decide), State.takesSlot]
    unfold x
    cases s.slotIsOut n with
    | false => simp
    | true => cases (s.slot n).owner <;> simp
  clear_value s1
  split
  · next hnone =>
    refine ⟨h1, ⟨fun w _ hw => ?_, fun _ => ?_⟩, hm⟩
    · exact absurd (hnone.symm.trans hw) (Option.some_ne_none w).symm
    · rw [hn]
      exact ⟨rfl, rfl⟩
  · next w hw =>
    split
    · next hgo =>
      obtain ⟨hl, hv, hne⟩ := takeUp_holds s1 n w.value ((x.early at').filter held ++ x.lateOnes at')
      refine ⟨(leaves_iff_of hl).mpr h1, ⟨fun w' _ hw' => ?_, fun hno => ?_⟩, fun m h => (hne m h).trans (hm m h)⟩
      · obtain rfl : w' = w := Option.some.inj (hw'.symm.trans hw)
        rw [hv]
        exact ⟨rfl, rfl⟩
      · rcases hno with hno | hno
        · exact absurd (htakes.mp hgo) hno
        · rw [show ((x.early at').filter fun w => !held w) = [] from hno] at hw
          cases hw
    · next hgo =>
      refine ⟨h1, ⟨fun w' ht _ => absurd (htakes.mpr ht) hgo, fun _ => ?_⟩, hm⟩
      rw [hn]
      exact ⟨rfl, rfl⟩

/-- Each slot of the list, which has no repeats, is taken up as the state before the boundary says. -/
theorem boundarySlots_hold (l at' : Nat) {slots : List Nat} (hnd : slots.Nodup) (s : State) :
    let t := slots.foldl (State.boundarySlot l at') s
    State.Leaves outParts s t ∧ (∀ n ∈ slots, State.SlotAt l at' n s t) ∧ ∀ n, n ∉ slots → t.slot n = s.slot n := by
  induction slots generalizing s with
  | nil => exact ⟨leaves_refl .., fun _ h => (nomatch h), fun _ _ => rfl⟩
  | cons m slots ih =>
    intro t
    obtain ⟨hm, hnd⟩ := List.nodup_cons.mp hnd
    obtain ⟨hl, hat, hne⟩ := boundarySlot_holds l at' s m
    obtain ⟨hl', hat', hne'⟩ := ih hnd (State.boundarySlot l at' s m)
    refine ⟨(leaves_iff_of hl').mpr hl, fun n hn => ?_, fun n hn => ?_⟩
    · rcases List.mem_cons.mp hn with rfl | hn
      · exact slotAt_congr hat (hne' n hm)
      · exact slotAt_of_leaves hl (hne n fun h => hm (h ▸ hn)) (hat' n hn)
    · obtain ⟨hnm, hn⟩ : n ≠ m ∧ n ∉ slots := by simpa using hn
      exact (hne' n hn).trans (hne n hnm)

/-! ### The frame boundary (R46, R167) -/

/-- A slot released before a frame boundary that has come keeps no value and is released no longer. -/
def State.slotAfterFrame (s : State) (n : Nat) : Slot :=
  if (s.slot n).released.any s.boundaryPast then { s.slot n with value := none, released := none } else s.slot n

theorem slotPosture_holds (s : State) (n : Nat) :
    State.Leaves [.act, .slots, .sv, .fans] s (s.slotPosture n) ∧ (s.slotPosture n).slot n = s.slotAfterFrame n ∧
      ∀ m, m ≠ n → (s.slotPosture n).slot m = s.slot m := by
  unfold State.slotPosture State.slotAfterFrame
  extract_lets x s1
  have h1 : State.Leaves [.act, .slots, .sv, .fans] s s1 := (leaves_setSlot (by decide) ..).mpr (leaves_refl ..)
  have hn : s1.slot n = { x with value := none, released := none } := slot_setSlot_same ..
  have hm : ∀ m, m ≠ n → s1.slot m = s.slot m := fun m h => slot_setSlot_ne _ h _
  clear_value s1
  -- The release of the output changes no slot.
  have hrel : State.Leaves [.act, .sv, .fans] s1 (if n < 24 then s1.svRelease n else if n < 40 then s1.fanRelease (n - 24) else s1) := by
    rw [leaves_ite, leaves_ite, leaves_svRelease (by decide) (by decide), leaves_fanRelease (by decide), ite_self, ite_self]
    exact leaves_refl ..
  obtain ⟨ho, hr⟩ := hrel
  have hslot := slot_of_only ho (by decide)
  generalize (if n < 24 then s1.svRelease n else if n < 40 then s1.fanRelease (n - 24) else s1) = t at ho hr hslot ⊢
  split
  · next hnone =>
    exact ⟨leaves_refl .., (if_neg (by rw [hnone]; exact Bool.false_ne_true)).symm, fun _ _ => rfl⟩
  · next r hsome =>
    rw [hsome, Option.any_some]
    cases s.boundaryPast r with
    | false => exact ⟨leaves_refl .., rfl, fun _ _ => rfl⟩
    | true => exact ⟨(leaves_iff_of ⟨only_mono ho (by decide), hr⟩).mpr h1, (hslot n).trans hn, fun m h => (hslot m).trans (hm m h)⟩

theorem slotPostures_hold {slots : List Nat} (hnd : slots.Nodup) (s : State) :
    let t := slots.foldl State.slotPosture s
    State.Leaves [.act, .slots, .sv, .fans] s t ∧ ∀ n, t.slot n = if n ∈ slots then s.slotAfterFrame n else s.slot n := by
  induction slots generalizing s with
  | nil => exact ⟨leaves_refl .., fun _ => rfl⟩
  | cons m slots ih =>
    obtain ⟨hm, hnd⟩ := List.nodup_cons.mp hnd
    obtain ⟨hl, hat, hne⟩ := slotPosture_holds s m
    obtain ⟨hl', hat'⟩ := ih hnd (s.slotPosture m)
    refine ⟨(leaves_iff_of hl').mpr hl, fun n => (hat' n).trans ?_⟩
    by_cases hnm : n = m
    · subst hnm
      rw [if_neg hm, hat, if_pos List.mem_cons_self]
    · have hafter : (s.slotPosture m).slotAfterFrame n = s.slotAfterFrame n := by
        have hpast : (s.slotPosture m).boundaryPast = s.boundaryPast := by
          funext r
          rw [State.boundaryPast, show (s.slotPosture m).dtb = s.dtb from hl.1 .dtb (by decide)]
          rfl
        rw [State.slotAfterFrame, hne n hnm, hpast]
        rfl
      rw [hafter, hne n hnm]
      simp [hnm]

/-- The writes withheld, as the boundary's statement puts them. -/
theorem withheld_eq {s : State} (hsafe : s.onSafe = false) (l at' : Nat) : s.withheld l at' = fun w =>
    decide (((s.loop l).inPeriod ∧ (s.loop l).start < at' ∧ ((s.loop l).start + (s.loop l).decl.dl * 1000 ≤ at' ∨
      if (s.loop l).waiting.isSome then (s.loop l).decl.wcet < (s.loop l).cycles else (s.loop l).decl.wcet ≤ (s.loop l).cycles)) ∧
      w.per = (s.loop l).per) := by
  funext w
  rw [Bool.eq_iff_iff, State.withheld, State.doomed, State.overdueAt, hsafe]
  cases (s.loop l).waiting.isSome <;> simp [and_left_comm]

theorem atBoundary_goes {s : State} {l : Nat} (hgo : s.goes (s.loop l) = true) (hsafe : s.onSafe = false) :
    let t := (s.loop l).decl.slots.foldl (State.boundarySlot l (periodStart (s.loop l).period s.dtb)) s
    s.atBoundary l = t.setLoop l { t.loop l with boundary := nextBoundary (s.loop l).period s.dtb } := by
  rw [State.atBoundary]
  simp only [hgo, hsafe]
  rfl

theorem only_setLoop (s : State) (ps : List Part) (h : .loops ∈ ps) (l : Nat) (x : Loop) : State.Only ps s (s.setLoop l x) := by
  intro p hp
  cases p with
  | loops => exact absurd h hp
  | _ => rfl

/-- A frame boundary at which no apply is pending. -/
theorem frameBoundary_quiet {s : State} (h : s.nextFrame ≤ s.dtb) (hpend : s.pend = []) :
    execFrameBoundary s = .next { (List.range 104).foldl State.slotPosture s with
      nextFrame := frameAfter ((List.range 104).foldl State.slotPosture s).dtb
      ctl := { ((List.range 104).foldl State.slotPosture s).ctl with beat := ((List.range 104).foldl State.slotPosture s).dtb } } := by
  unfold execFrameBoundary
  simp only [if_neg (Nat.not_lt.mpr h), hpend, State.applyPages, List.map_nil, List.filter_nil, List.foldl_nil]

/-- Settles O19: a boundary reads of the state, for each slot of its list, nothing that the commands to the outputs before it changed. -/
theorem boundariesTakeUpSlots : Obligations.BoundariesTakeUpSlots := by
  unfold Obligations.BoundariesTakeUpSlots
  refine ⟨fun s l => ?_, fun s => ⟨fun h => if_pos h, fun h hpend => ?_⟩⟩
  · intro L
    refine ⟨fun h => if_pos (.inr h), fun h hfree hgo hsafe hnd => ?_⟩
    obtain ⟨hl, hat, hne⟩ := boundarySlots_hold l (periodStart L.period s.dtb) hnd s
    have ht : exec (.periodBoundary l) s = .next (s.atBoundary l) := if_neg (by rintro (h' | h'); exacts [hfree h', Nat.not_lt.mpr h h'])
    rw [atBoundary_goes hgo hsafe] at ht
    refine ⟨_, ht, only_trans (only_mono hl.1 (by decide)) (only_setLoop _ _ (by decide) _ _), ?_, fun n => ?_⟩
    · rw [loop_setLoop_same, loop_of_leaves hl]
      rfl
    · intro x takes at' doomed old early
      rw [slot_setLoop]
      by_cases hn : n ∈ L.decl.slots
      · have hx := hat n hn
        unfold State.SlotAt at hx
        rw [withheld_eq hsafe] at hx
        obtain ⟨htake, hkeep⟩ := hx
        refine ⟨fun w htk hw => htake w htk.2 hw, fun hno => hkeep (hno.imp (fun h ht => h ⟨hn, ht⟩) id)⟩
      · rw [hne n hn]
        exact ⟨fun w htk => absurd htk.1 hn, fun _ => ⟨rfl, rfl⟩⟩
  · obtain ⟨hl, hslot⟩ := slotPostures_hold (List.nodup_range (n := 104)) s
    have ht : exec .frameBoundary s = _ := frameBoundary_quiet h hpend
    generalize (List.range 104).foldl State.slotPosture s = u at hl hslot ht
    have hdtb : u.dtb = s.dtb := hl.1 .dtb (by decide)
    have hctl : u.ctl = s.ctl := hl.1 .ctl (by decide)
    rw [hdtb, hctl] at ht
    refine ⟨_, ht, only_trans (only_mono hl.1 (by decide)) fun p hp => ?_, rfl, rfl, fun n => (hslot n).trans ?_⟩
    · cases p with
      | nextFrame => exact absurd (by decide) hp
      | ctl => exact absurd (by decide) hp
      | _ => rfl
    · by_cases hn : n < 104
      · rw [if_pos (List.mem_range.mpr hn), State.slotAfterFrame]
        cases (s.slot n).released with
        | none => simp
        | some r => by_cases hr : (r / 10000 + 1) * 10000 ≤ s.dtb <;> simp [hn, hr, State.boundaryPast, frameAfter]
      · rw [if_neg fun hm => hn (List.mem_range.mp hm), if_neg fun hm => hn hm.1]

end Sys2Proof.Machine
end

section
/-! SUPPORT. Pairs (R53, R55, R161 to R170): what stopping a pair, carrying its loops and the upkeep of the others change. -/
namespace Sys2Proof.Machine

/-! ### Parts and registers changed, records added -/

/-- `t` differs from `s` in these parts and registers alone, and what was handed to the recorder stands first in what is. -/
def State.Adds (ps : List Part) (ks : List Nat) (s t : State) : Prop :=
  State.Only ps s t ∧ State.OnlyRegs ks s t ∧ ∃ es, t.recd.handed = s.recd.handed ++ es

section
variable {ps ps' : List Part} {ks ks' : List Nat} {s t u : State}

theorem State.Adds.step (h : State.Adds ps ks u s) (h' : State.Adds ps' ks' s t) : State.Adds (ps ++ ps') (ks ++ ks') u t := by
  obtain ⟨ho, hr, es, he⟩ := h
  obtain ⟨ho', hr', es', he'⟩ := h'
  refine ⟨only_trans (only_mono ho (List.subset_append_left ..)) (only_mono ho' (List.subset_append_right ..)), fun k hk => ?_,
    es ++ es', by rw [he', he, List.append_assoc]⟩
  obtain ⟨hk, hk'⟩ : k ∉ ks ∧ k ∉ ks' := by simpa using hk
  exact (hr' k hk').trans (hr k hk)

theorem State.Adds.within (h : State.Adds ps' ks' s t) (hp : ps' ⊆ ps) (hk : ks' ⊆ ks) : State.Adds ps ks s t :=
  ⟨only_mono h.1 hp, fun k hn => h.2.1 k fun hm => hn (hk hm), h.2.2⟩

theorem State.Adds.trans (h : State.Adds ps ks u s) (h' : State.Adds ps ks s t) : State.Adds ps ks u t :=
  (h.step h').within (List.append_subset.mpr ⟨List.Subset.refl _, List.Subset.refl _⟩)
    (List.append_subset.mpr ⟨List.Subset.refl _, List.Subset.refl _⟩)

theorem adds_refl (ps : List Part) (ks : List Nat) (s : State) : State.Adds ps ks s s :=
  ⟨only_refl ps s, fun _ _ => rfl, [], (List.append_nil _).symm⟩

theorem adds_of_only (ha : .act ∉ ps) (hr : .recd ∉ ps) (h : State.Only ps s t) : State.Adds ps [] s t := by
  refine ⟨h, fun k _ => ?_, [], ?_⟩
  · rw [State.reg, show t.act = s.act from h .act ha]
    rfl
  · rw [show t.recd = s.recd from h .recd hr, List.append_nil]

theorem adds_foldl {α : Type} {f : State → α → State} {l : List α} (h : ∀ s, ∀ x ∈ l, State.Adds ps ks s (f s x)) (s : State) :
    State.Adds ps ks s (l.foldl f s) :=
  List.foldlRecOn l f (adds_refl ps ks s) fun _ hb x hx => hb.trans (h _ x hx)

theorem adds_setReg (s : State) (k : Nat) (v : Word) : State.Adds [.act] [k] s (s.setReg k v) :=
  ⟨only_setReg _ _ (by decide) _ _, fun _ hj => reg_setReg_ne _ (by simpa using hj) _, [], (List.append_nil _).symm⟩

theorem adds_emit (s : State) (code cell : Nat) (body : List Word) : State.Adds [.recd] [] s (s.emit code cell body) :=
  ⟨only_emit _ _ (by decide) _ _ _, fun _ _ => rfl, [s.event code cell body], rfl⟩

theorem adds_with_loops (s : State) (m : SMap Loop) : State.Adds [.loops] [] s { s with loops := m } :=
  adds_of_only (by decide) (by decide) fun p hp => by
    cases p with
    | loops => exact absurd (by decide) hp
    | _ => rfl

theorem adds_setLoop (s : State) (l : Nat) (x : Loop) : State.Adds [.loops] [] s (s.setLoop l x) := adds_with_loops ..

theorem adds_setPair (s : State) (p : Nat) (x : Pair) : State.Adds [.pairs] [] s (s.setPair p x) :=
  adds_of_only (by decide) (by decide) fun p hp => by
    cases p with
    | pairs => exact absurd (by decide) hp
    | _ => rfl

theorem adds_setSlot (s : State) (n : Nat) (x : Slot) : State.Adds [.slots] [] s (s.setSlot n x) :=
  adds_of_only (by decide) (by decide) fun p hp => by
    cases p with
    | slots => exact absurd (by decide) hp
    | _ => rfl

theorem adds_setCell (s : State) (c : Nat) (x : Cell) : State.Adds [.cells] [] s (s.setCell c x) :=
  adds_of_only (by decide) (by decide) fun p hp => by
    cases p with
    | cells => exact absurd (by decide) hp
    | _ => rfl

theorem adds_setPlacer (s : State) (x : Placer) : State.Adds [.placer] [] s (s.setPlacer x) :=
  adds_of_only (by decide) (by decide) fun p hp => by
    cases p with
    | placer => exact absurd (by decide) hp
    | _ => rfl

theorem adds_draw (s : State) : State.Adds [.drawn] [] s s.draw :=
  adds_of_only (by decide) (by decide) fun p hp => by
    cases p with
    | drawn => exact absurd (by decide) hp
    | _ => rfl

theorem adds_pairTo (s : State) (p code : Nat) : State.Adds [.pairs, .recd] [] s (s.pairTo p code) :=
  ((adds_setPair ..).step (adds_emit ..)).within (by decide) (by decide)

theorem adds_replan (s : State) (w : ReplanWhy) : State.Adds [.placer] [] s (s.replan w) := adds_setPlacer ..

theorem pair_of_adds (h : State.Adds ps ks s t) (hp : .pairs ∉ ps) (p : Nat) : t.pair p = s.pair p := by
  rw [State.pair, show t.pairs = s.pairs from h.1 .pairs hp]
  rfl

theorem loop_of_adds (h : State.Adds ps ks s t) (hl : .loops ∉ ps) (l : Nat) : t.loop l = s.loop l :=
  loop_of_only h.1 hl l

theorem cell_of_adds (h : State.Adds ps ks s t) (hc : .cells ∉ ps) (c : Nat) : t.cell c = s.cell c := by
  rw [State.cell, show t.cells = s.cells from h.1 .cells hc]
  rfl

theorem dtb_of_adds (h : State.Adds ps ks s t) (hd : .dtb ∉ ps) : t.dtb = s.dtb := h.1 .dtb hd

theorem placer_of_adds (h : State.Adds ps ks s t) (hp : .placer ∉ ps) : t.placer = s.placer := h.1 .placer hp
end

/-! ### The upkeep of pairs (R161 to R163) -/

/-- What the upkeep makes of a pair: it leaves it alone, or it moves it from ACTIVE, SPARE or STANDBY to one of the last two. -/
def Pair.Refilled (x y : Pair) : Prop :=
  y = x ∨ (x.state ∈ [pairActive, pairSpare, pairStandby] ∧ y.state ∈ [pairSpare, pairStandby] ∧ y.check = x.check)

def State.Refills (s t : State) : Prop := State.Adds [.pairs] [] s t ∧ ∀ q, (s.pair q).Refilled (t.pair q)

theorem Pair.Refilled.trans {x y z : Pair} (h : x.Refilled y) (h' : y.Refilled z) : x.Refilled z := by
  rcases h with rfl | ⟨hx, _, hc⟩
  · exact h'
  · rcases h' with rfl | ⟨_, hz, hc'⟩
    · exact .inr ⟨hx, ‹_›, hc⟩
    · exact .inr ⟨hx, hz, hc'.trans hc⟩

/-- The three states that the upkeep moves pairs among stay so. -/
theorem Pair.Refilled.state_mem {x y : Pair} (h : x.Refilled y) (hx : x.state ∈ [pairActive, pairSpare, pairStandby]) :
    y.state ∈ [pairActive, pairSpare, pairStandby] := by
  rcases h with rfl | ⟨_, hy, _⟩
  · exact hx
  · exact List.mem_cons_of_mem _ hy

theorem Pair.Refilled.check {x y : Pair} (h : x.Refilled y) : y.check = x.check := by
  rcases h with rfl | ⟨_, _, hc⟩
  exacts [rfl, hc]

theorem Pair.Refilled.eq_of_stopped {x y : Pair} (h : x.Refilled y) (hx : x.state ∉ [pairActive, pairSpare, pairStandby]) : y = x :=
  h.resolve_right fun h => hx h.1

/-- A healthy pair without work stays one. -/
theorem Pair.Refilled.healthy {x y : Pair} (h : x.Refilled y) (hx : x.state ∈ [pairSpare, pairStandby]) :
    y.state = pairSpare ∨ y.state = pairStandby := by
  rcases h with rfl | ⟨_, hy, _⟩
  · simpa using hx
  · simpa using hy

section
variable {s t u : State}

theorem refills_refl (s : State) : State.Refills s s := ⟨adds_refl .., fun _ => .inl rfl⟩

theorem State.Refills.trans (h : State.Refills s t) (h' : State.Refills t u) : State.Refills s u :=
  ⟨h.1.trans h'.1, fun q => (h.2 q).trans (h'.2 q)⟩

theorem pairSet_refills {p code : Nat} (hp : (s.pair p).state ∈ [pairActive, pairSpare, pairStandby])
    (hc : code ∈ [pairSpare, pairStandby]) :
    State.Refills s (s.pairSet p code) := by
  refine ⟨adds_setPair .., fun q => ?_⟩
  by_cases hq : q = p
  · subst hq
    rw [State.pairSet, pair_setPair_same]
    exact .inr ⟨hp, hc, rfl⟩
  · exact .inl (pair_setPair_ne _ hq _)

theorem pairSets_refill {l : List Nat} (h : ∀ p ∈ l, (s.pair p).state ∈ [pairActive, pairSpare, pairStandby]) :
    State.Refills s (l.foldl (fun s p => s.pairSet p pairSpare) s) := by
  induction l generalizing s with
  | nil => exact refills_refl s
  | cons p l ih =>
    have hp : State.Refills s (s.pairSet p pairSpare) := pairSet_refills (h p List.mem_cons_self) (by decide)
    exact hp.trans (ih fun q hq => (hp.2 q).state_mem (h q (List.mem_cons_of_mem _ hq)))

theorem standbyFill_refills (n : Nat) (s : State) : State.Refills s (s.standbyFill n) := by
  induction n generalizing s with
  | zero => exact refills_refl s
  | succ n ih =>
    unfold State.standbyFill
    extract_lets have'
    split
    · split
      · exact refills_refl s
      · next p hp =>
        have hfree : (s.pair p).state = pairSpare := by
          have h := List.find?_some hp
          simp only [State.pairFree, Bool.and_eq_true, beq_iff_eq] at h
          exact h.1
        exact (pairSet_refills (by rw [hfree]; decide) (by decide)).trans (ih _)
    · split
      · split
        · exact refills_refl s
        · next p hp =>
          have hst : (s.pair p).state = pairStandby := by simpa using List.find?_some hp
          exact (pairSet_refills (by rw [hst]; decide) (by decide)).trans (ih _)
      · exact refills_refl s

theorem upkeep_holds (s : State) :
    State.Adds [.act, .recd, .pairs, .placer] [Reg.PLC_STAT] s s.upkeep ∧ (∀ q, (s.pair q).Refilled (s.upkeep.pair q)) ∧
      s.upkeep.placer.replans = s.placer.replans ∧ s.upkeep.placer.degraded = s.placer.degraded := by
  unfold State.upkeep
  extract_lets s1 s2 kept low src s3
  have h2 : State.Refills s s2 := by
    refine State.Refills.trans (t := s1) (pairSets_refill fun p hp => ?_) (standbyFill_refills 8 s1)
    simp only [List.mem_filter, Bool.and_eq_true, beq_iff_eq] at hp
    rw [hp.2.1]
    decide
  have hp2 : s2.placer = s.placer := placer_of_adds h2.1 (by decide)
  have h3 : State.Adds [.pairs, .placer] [] s s3 := (h2.1.step (adds_setPlacer s2 _)).within (by decide) (by decide)
  have hpair : ∀ q, s3.pair q = s2.pair q := pair_of_adds (adds_setPlacer s2 _) (by decide)
  have hplacer : s3.placer = { s.placer with low := low } := congrArg (fun x : Placer => { x with low := low }) hp2
  have h4 : State.Adds [.act, .recd] [Reg.PLC_STAT] s3 (if low && !s1.placer.low then
      (s3.setRegB Reg.PLC_STAT 1 true).emit Ev.STANDBY_LOW 0 [w32 kept, w32 s3.healthyFree, w32 s3.pairBudget] else s3) := by
    split
    · exact ((adds_setReg ..).step (adds_emit ..)).within (by decide) (by decide)
    · exact adds_refl ..
  clear_value s3
  have hlast := placer_of_adds h4 (by decide)
  refine ⟨(h3.step h4).within (by decide) (by decide), fun q => ?_, ?_, ?_⟩
  · rw [pair_of_adds h4 (by decide), hpair]
    exact h2.2 q
  all_goals rw [hlast, hplacer]
end

/-! ### Stopping a pair -/

section
variable {s : State}

theorem acceptPosted_holds (s : State) (p : Nat) :
    State.Adds [.pairs, .cells] [] s (s.acceptPosted p) ∧ (s.acceptPosted p).pair p = { s.pair p with queue := (s.pair p).queue.tail } ∧
      ∀ q, q ≠ p → (s.acceptPosted p).pair q = s.pair q := by
  unfold State.acceptPosted
  split
  · next h => exact ⟨adds_refl .., by rw [h, List.tail_nil, ← h], fun _ _ => rfl⟩
  · next x t h =>
    refine ⟨((adds_setPair ..).step (adds_setCell ..)).within (by decide) (by decide), ?_, fun q hq => ?_⟩
    · rw [pair_of_adds (adds_setCell ..) (by decide), pair_setPair_same, h, List.tail_cons]
    · rw [pair_of_adds (adds_setCell ..) (by decide), pair_setPair_ne _ hq]

theorem acceptPosteds_hold (p : Nat) (l : List Nat) (s : State) :
    let t := l.foldl (fun s _ => s.acceptPosted p) s
    State.Adds [.pairs, .cells] [] s t ∧ t.pair p = { s.pair p with queue := (s.pair p).queue.drop l.length } ∧
      ∀ q, q ≠ p → t.pair q = s.pair q := by
  induction l generalizing s with
  | nil => exact ⟨adds_refl .., rfl, fun _ _ => rfl⟩
  | cons _ l ih =>
    intro t
    obtain ⟨ha, hp, hq⟩ := acceptPosted_holds s p
    obtain ⟨ha', hp', hq'⟩ := ih (s.acceptPosted p)
    refine ⟨ha.trans ha', ?_, fun q h => (hq' q h).trans (hq q h)⟩
    rw [hp] at hp'
    refine hp'.trans ?_
    rw [List.length_cons, List.drop_tail]

theorem drainPosted_holds (s : State) (p : Nat) :
    State.Adds [.pairs, .cells] [] s (s.drainPosted p) ∧ (s.drainPosted p).pair p = { s.pair p with queue := [] } ∧
      ∀ q, q ≠ p → (s.drainPosted p).pair q = s.pair q := by
  obtain ⟨ha, hp, hq⟩ := acceptPosteds_hold p (List.range (s.pair p).queue.length) s
  rw [List.length_range, List.drop_length] at hp
  exact ⟨ha, hp, hq⟩

/-- A loop stranded: it has no pair and executes nothing. -/
def Loop.stranded (L : Loop) : Loop :=
  { L with pair := noPair, pair2 := none, inPeriod := false, waiting := none, state := .stopped,
           halted := L.halted || L.stopReq, stopReq := false }

theorem stranded_stranded (L : Loop) : L.stranded.stranded = L.stranded := by
  simp [Loop.stranded]

theorem strand_holds (s : State) (e : Nat × Loop) :
    State.Adds [.loops, .slots] [] s (s.strand e) ∧ (s.strand e).loop e.1 = (s.loop e.1).stranded ∧
      ∀ l, l ≠ e.1 → (s.strand e).loop l = s.loop l := by
  unfold State.strand State.releaseSlots
  extract_lets L
  have hs (t : State) : State.Adds [.slots] [] t (L.decl.slots.foldl State.releaseSlot t) := adds_foldl (fun _ _ _ => adds_setSlot ..) t
  refine ⟨((adds_setLoop ..).step (hs _)).within (by decide) (by decide), ?_, fun l hl => ?_⟩
  · exact (loop_of_adds (hs _) (by decide) _).trans (loop_setLoop_same ..)
  · rw [loop_of_adds (hs _) (by decide), loop_setLoop_ne _ hl]

theorem strands_hold (es : List (Nat × Loop)) (s : State) :
    State.Adds [.loops, .slots] [] s (es.foldl State.strand s) ∧
      ∀ l, (es.foldl State.strand s).loop l = if l ∈ es.map Prod.fst then (s.loop l).stranded else s.loop l := by
  induction es generalizing s with
  | nil => exact ⟨adds_refl .., fun _ => rfl⟩
  | cons e es ih =>
    obtain ⟨ha, he, hne⟩ := strand_holds s e
    obtain ⟨ha', hl'⟩ := ih (s.strand e)
    refine ⟨ha.trans ha', fun l => (hl' l).trans ?_⟩
    by_cases hl : l = e.1
    · subst hl
      rw [he, stranded_stranded, ite_self, List.map_cons, if_pos List.mem_cons_self]
    · rw [hne l hl, List.map_cons]
      simp only [List.mem_cons, hl, false_or]

theorem carry_holds (s : State) (q : Nat) (e : Nat × Loop) :
    State.Adds [.loops] [] s (s.carry q e) ∧ ((s.carry q e).loop e.1).pair = q ∧ ((s.carry q e).loop e.1).inPeriod = false ∧
      ((s.carry q e).loop e.1).ckpt = (s.loop e.1).ckpt ∧ ∀ l, l ≠ e.1 → (s.carry q e).loop l = s.loop l := by
  unfold State.carry
  refine ⟨adds_setLoop .., ?_, ?_, ?_, fun l hl => loop_setLoop_ne _ hl _⟩
  · rw [loop_setLoop_same]
  · rw [loop_setLoop_same]
  · rw [loop_setLoop_same]
    rfl

/-- A loop is on pair `q`, its period abandoned and its checkpoints those given. -/
def Loop.CarriedTo (q : Nat) (c : Ckpt) (L : Loop) : Prop := L.pair = q ∧ L.inPeriod = false ∧ L.ckpt = c

theorem carries_hold (q : Nat) (es : List (Nat × Loop)) (s : State) :
    State.Adds [.loops] [] s (es.foldl (fun s e => s.carry q e) s) ∧
      ∀ l, (l ∈ es.map Prod.fst ∨ (s.loop l).CarriedTo q (s.loop l).ckpt) →
        ((es.foldl (fun s e => s.carry q e) s).loop l).CarriedTo q (s.loop l).ckpt := by
  induction es generalizing s with
  | nil => exact ⟨adds_refl .., fun l h => h.resolve_left (by simp)⟩
  | cons e es ih =>
    obtain ⟨ha, hp, hi, hc, hne⟩ := carry_holds s q e
    obtain ⟨ha', hl'⟩ := ih (s.carry q e)
    refine ⟨ha.trans ha', fun l h => ?_⟩
    by_cases hl : l = e.1
    · subst hl
      have h' := hl' e.1 (.inr ⟨hp, hi, rfl⟩)
      rw [hc] at h'
      exact h'
    · have h' := hl' l
      rw [hne l hl] at h'
      exact h' (h.imp_left fun h => by simpa [hl] using h)

theorem pinDegrade_holds (s : State) (p : Nat) (e : Nat × Loop) :
    State.Adds [.act, .recd, .loops, .placer] [Reg.PLC_STAT] s (s.pinDegrade p e) ∧
      ∀ l, l ≠ e.1 → (s.pinDegrade p e).loop l = s.loop l := by
  unfold State.pinDegrade
  extract_lets L stay s1 src s3
  have h1 : State.Adds [.loops] [] s s1 := adds_setLoop ..
  have hl : ∀ l, l ≠ e.1 → s1.loop l = s.loop l := fun l hl => loop_setLoop_ne _ hl _
  have h3 : State.Adds [.placer] [] s1 s3 := adds_setPlacer ..
  clear_value s1 s3
  have h4 : State.Adds [.act, .recd] [Reg.PLC_STAT] s3
      ((s3.setRegB Reg.PLC_STAT 5 true).emit Ev.PIN_DEGRADED 0 [w32 e.1, w32 stay, w32 p]) :=
    ((adds_setReg ..).step (adds_emit ..)).within (by decide) (by decide)
  refine ⟨(h1.step h3 |>.step h4).within (by decide) (by decide), fun l hne => ?_⟩
  rw [loop_of_adds h4 (by decide), loop_of_adds h3 (by decide), hl l hne]

theorem pinDegrades_hold (p : Nat) (es : List (Nat × Loop)) (s : State) :
    State.Adds [.act, .recd, .loops, .placer] [Reg.PLC_STAT] s (es.foldl (fun s e => s.pinDegrade p e) s) ∧
      ∀ l, l ∉ es.map Prod.fst → (es.foldl (fun s e => s.pinDegrade p e) s).loop l = s.loop l := by
  induction es generalizing s with
  | nil => exact ⟨adds_refl .., fun _ _ => rfl⟩
  | cons e es ih =>
    obtain ⟨ha, hne⟩ := pinDegrade_holds s p e
    obtain ⟨ha', hl'⟩ := ih (s.pinDegrade p e)
    refine ⟨ha.trans ha', fun l hl => ?_⟩
    obtain ⟨h, hl⟩ : l ≠ e.1 ∧ l ∉ es.map Prod.fst := by simpa using hl
    exact (hl' l hl).trans (hne l h)
end

/-! ### Migration (R164 to R168) -/

/-- A map whose values change one by one relates each value to what it was. -/
theorem mget_map_rel {α : Type} {R : α → α → Prop} {d : α} (hd : R d d) {f : Nat × α → Nat × α} (hk : ∀ e, (f e).1 = e.1)
    (hv : ∀ e, R e.2 (f e).2) (k : Nat) (m : SMap α) : R (mget d k m) (mget d k (m.map f)) := by
  induction m with
  | nil => exact hd
  | cons e m ih =>
    obtain ⟨j, v⟩ := e
    rw [List.map_cons, mget, mget, show (f (j, v)).1 = j from hk _]
    split
    · exact hv (j, v)
    · exact ih

theorem mem_of_mget_ne {α : Type} {d : α} {k : Nat} {m : SMap α} (h : mget d k m ≠ d) : (k, mget d k m) ∈ m := by
  induction m with
  | nil => exact absurd rfl h
  | cons e m ih =>
    obtain ⟨j, v⟩ := e
    rw [mget] at h ⊢
    split
    · next hj => exact hj ▸ List.mem_cons_self
    · next hj => exact List.mem_cons_of_mem _ (ih (by rwa [if_neg hj] at h))

theorem mget_of_mem {α : Type} (d : α) {lo : Nat} {m : SMap α} (hm : mRising lo m = true) {e : Nat × α} (he : e ∈ m) :
    lo ≤ e.1 ∧ mget d e.1 m = e.2 := by
  induction m generalizing lo with
  | nil => cases he
  | cons x m ih =>
    obtain ⟨j, v⟩ := x
    obtain ⟨hlo, hm⟩ : lo ≤ j ∧ mRising (j + 1) m = true := by simpa [mRising] using hm
    rcases List.mem_cons.mp he with rfl | he
    · exact ⟨hlo, if_pos rfl⟩
    · obtain ⟨hj, hv⟩ := ih hm he
      exact ⟨by omega, (if_neg (by omega)).trans hv⟩

section
variable {s : State} {p l : Nat}

theorem migDone_holds (s : State) (m : Migration) :
    State.Adds [.act, .loops] [Reg.PLC_MIG] s (s.migDone m) ∧
      ∀ l q c, (s.loop l).CarriedTo q c → ((s.migDone m).loop l).CarriedTo q c := by
  unfold State.migDone
  extract_lets s1
  have h1 : State.Adds [.act] [Reg.PLC_MIG] s s1 := adds_setReg ..
  have hl : ∀ l, s1.loop l = s.loop l := loop_of_adds h1 (by decide)
  clear_value s1
  refine ⟨(h1.step (adds_with_loops s1 _)).within (by decide) (by decide), fun l q c h => ?_⟩
  rw [← hl] at h
  refine mget_map_rel (R := fun x y => x.CarriedTo q c → y.CarriedTo q c) id (fun e => ?_) (fun e => ?_) l s1.loops h
  · split <;> rfl
  · split
    · exact id
    · exact id

theorem standbyPair_iff {q : Nat} :
    s.standbyPair = some q ↔ q < 32 ∧ (s.pair q).state = pairStandby ∧ ∀ k, k < q → (s.pair k).state ≠ pairStandby := by
  rw [State.standbyPair, allPairs, List.find?_range_eq_some]
  simp only [beq_iff_eq, List.mem_range, Bool.not_eq_true', beq_eq_false_iff_ne]
  tauto

theorem standbyPair_eq_none : s.standbyPair = none ↔ ∀ q, q < 32 → (s.pair q).state ≠ pairStandby := by
  simp [State.standbyPair, allPairs]

theorem mem_pairLoops (hs : (s.loop l).state ≠ .free) (hp : (s.loop l).pair = p ∨ (s.loop l).pair2 = some p) :
    (l, s.loop l) ∈ s.pairLoops p := by
  have hmem : (l, s.loop l) ∈ s.loops := mem_of_mget_ne fun h => hs (by rw [State.loop, h]; rfl)
  simp [State.pairLoops, State.liveLoops, hmem, hs, hp]

theorem mem_affected (hs : (s.loop l).state ≠ .free) (hp : (s.loop l).pair = p) (h2 : (s.loop l).pair2 = none) :
    (l, s.loop l) ∈ s.affected p := by
  simp [State.affected, mem_pairLoops hs (.inl hp), h2]

theorem loop_of_mem_pairLoops (hrise : mRising 0 s.loops = true) {e : Nat × Loop} (he : e ∈ s.pairLoops p) : s.loop e.1 = e.2 := by
  simp only [State.pairLoops, State.liveLoops, List.mem_filter] at he
  exact (mget_of_mem _ hrise he.1.1).2

theorem queue_pairSet (s : State) (q code : Nat) (p : Nat) : ((s.pairSet q code).pair p).queue = (s.pair p).queue := by
  by_cases hp : p = q
  · subst hp
    rw [State.pairSet, pair_setPair_same]
  · rw [State.pairSet, pair_setPair_ne _ hp]

theorem migrate_holds (s : State) (p : Nat) :
    State.Adds [.act, .recd, .loops, .pairs, .slots, .placer, .drawn] [Reg.PLC_STAT, Reg.PLC_MIG] s (s.migrate p) ∧
      ((s.migrate p).pair p).queue = (s.pair p).queue ∧
      ∀ q l, s.standbyPair = some q → l ∈ (s.affected p).map Prod.fst → ((s.migrate p).loop l).CarriedTo q (s.loop l).ckpt := by
  unfold State.migrate
  extract_lets es todo stranded
  split
  · next hes =>
    refine ⟨adds_refl .., rfl, fun q l _ hl => ?_⟩
    rw [show s.affected p = [] from List.isEmpty_iff.mp hes] at hl
    cases hl
  split
  · next q hq =>
    extract_lets s1 m
    obtain ⟨hc, hl⟩ := carries_hold q es s
    have h1 : State.Adds [.loops, .pairs] [] s s1 := (hc.step (adds_setPair ..)).within (by decide) (by decide)
    have hqueue : (s1.pair p).queue = (s.pair p).queue := (queue_pairSet _ q pairActive p).trans (by rw [pair_of_adds hc (by decide)])
    have hcarry : ∀ r l, s.standbyPair = some r → l ∈ es.map Prod.fst → (s1.loop l).CarriedTo r (s.loop l).ckpt := by
      intro r l hr hm
      obtain rfl : q = r := Option.some.inj (hq.symm.trans hr)
      exact hl l (.inl hm)
    clear_value s1
    split
    · obtain ⟨hd, hlive⟩ := migDone_holds s1 { m with since := s.dtb - 1000 * (s.free % 301) }
      exact ⟨(h1.step hd |>.step (adds_draw _)).within (by decide) (by decide), by rw [pair_draw, pair_of_adds hd (by decide), hqueue],
        fun r l hr hm => hlive l _ _ (hcarry r l hr hm)⟩
    · exact ⟨(h1.step (adds_setPlacer ..)).within (by decide) (by decide), hqueue, hcarry⟩
  · next hnone =>
    obtain ⟨hs, -⟩ := strands_hold es s
    have h1 : State.Adds [.act, .loops, .slots] [Reg.PLC_STAT] s stranded := (hs.step (adds_setReg ..)).within (by decide) (by decide)
    clear_value stranded
    refine ⟨(h1.step (adds_emit ..)).within (by decide) (by decide), ?_, fun q l hq => ?_⟩
    · rw [pair_emit, pair_of_adds h1 (by decide)]
    · cases hnone.symm.trans hq
end

/-! ### A lockstep mismatch (R53, R55, R165) -/

section
variable {s : State} {p l : Nat}

theorem regF_countReg (s : State) {k hi lo : Nat} (h : lo ≤ hi) (h31 : hi ≤ 31) (n : Nat) :
    (s.countReg k hi lo (2 ^ (hi - lo + 1) - 1) n).regF k hi lo = min (2 ^ (hi - lo + 1) - 1) (s.regF k hi lo + n) := by
  have hpos : 0 < 2 ^ (hi - lo + 1) := Nat.two_pow_pos _
  rw [State.regF, State.countReg, reg_setRegF_same, fld_setFld_same _ _ _ _ h h31, sat]
  generalize 2 ^ (hi - lo + 1) = m at hpos ⊢
  split
  · rw [Nat.mod_eq_of_lt (by omega), Nat.min_eq_right ‹_›]
  · rw [Nat.mod_eq_of_lt (by omega), Nat.min_eq_left (by omega)]

/-- A pair set aside: its count of mismatches, the instant, and no instruction in it. -/
def Pair.stopped (x : Pair) (misses dtb code : Nat) : Pair :=
  { x with misses := misses, stoppedAt := dtb, running := none, check := false, state := code }

/-- The loops that a pair alone executed, none of which is pinned twice, do not change as the pinned ones lose it. -/
theorem not_mem_pinned (hrise : mRising 0 s.loops = true) (h2 : (s.loop l).pair2 = none) :
    l ∉ ((s.pairLoops p).filter fun e => e.2.pair2.isSome).map Prod.fst := by
  intro hl
  obtain ⟨e, he, rfl⟩ := List.mem_map.mp hl
  obtain ⟨he, hsome⟩ := List.mem_filter.mp he
  rw [loop_of_mem_pairLoops hrise he] at h2
  rw [h2] at hsome
  cases hsome

/-- The parts that a mismatch changes, beside the cells' memories that the posted stores reach. -/
def stopParts : List Part := [.act, .recd, .loops, .pairs, .slots, .placer, .drawn]

/-- What a mismatch does once it is counted: the pinned loops keep their other pair, the others migrate, the pair is set aside. -/
def State.setAside (s : State) (p misses code : Nat) : State :=
  let s3 := ((s.pairLoops p).filter fun e => e.2.pair2.isSome).foldl (fun s e => s.pinDegrade p e) s
  let s4 := s3.migrate p
  let s5 := s4.setPair p { s4.pair p with misses := misses, stoppedAt := s.dtb, running := none, check := false }
  ((s5.pairTo p code).replan (.mismatch p)).upkeep

theorem setAside_holds (s : State) (p misses : Nat) {code : Nat} (hcode : code ∉ [pairActive, pairSpare, pairStandby]) :
    let t := s.setAside p misses code
    State.Adds stopParts [Reg.PLC_STAT, Reg.PLC_MIG] s t ∧
      (∃ y : Pair, y.queue = (s.pair p).queue ∧ t.pair p = y.stopped misses s.dtb code) ∧
      (mRising 0 s.loops = true → ∀ q l, s.standbyPair = some q → (s.loop l).state ≠ .free → (s.loop l).pair = p →
        (s.loop l).pair2 = none → (t.loop l).CarriedTo q (s.loop l).ckpt) := by
  unfold State.setAside
  extract_lets s3 s4 src s5 t
  obtain ⟨h3, hl3⟩ : State.Adds [.act, .recd, .loops, .placer] [Reg.PLC_STAT] s s3 ∧ ∀ l, _ → s3.loop l = s.loop l :=
    pinDegrades_hold p ((s.pairLoops p).filter fun e => e.2.pair2.isSome) s
  obtain ⟨h4, hq4, hl4⟩ : State.Adds _ _ s3 s4 ∧ (s4.pair p).queue = _ ∧
      ∀ q l, _ → _ → (s4.loop l).CarriedTo q (s3.loop l).ckpt :=
    migrate_holds s3 p
  have h5 : State.Adds [.pairs] [] s4 s5 := adds_setPair ..
  have hp5 : s5.pair p = { s4.pair p with misses := misses, stoppedAt := s.dtb, running := none, check := false } :=
    pair_setPair_same ..
  clear_value s3 s4 src s5
  have h6 : State.Adds [.pairs, .recd] [] s5 (s5.pairTo p code) := adds_pairTo ..
  have hp6 : (s5.pairTo p code).pair p = { s5.pair p with state := code } := pair_setPair_same ..
  have h7 := adds_replan (s5.pairTo p code) (.mismatch p)
  obtain ⟨h8, hp8, -, -⟩ := upkeep_holds ((s5.pairTo p code).replan (.mismatch p))
  have hall : State.Adds stopParts [Reg.PLC_STAT, Reg.PLC_MIG] s t :=
    (h3.step h4 |>.step h5 |>.step h6 |>.step h7 |>.step h8).within (by decide) (by decide)
  have hp7 : ((s5.pairTo p code).replan (.mismatch p)).pair p = (s4.pair p).stopped misses s.dtb code := by
    rw [pair_of_adds h7 (by decide), hp6, hp5]
    rfl
  refine ⟨hall, ⟨s4.pair p, hq4.trans (by rw [pair_of_adds h3 (by decide)]), ?_⟩, fun hrise q l hq hf hp h2 => ?_⟩
  · rw [← hp7]
    exact (hp8 p).eq_of_stopped (by rw [hp7]; exact hcode)
  · have hl : s3.loop l = s.loop l := hl3 l (not_mem_pinned hrise h2)
    have hq3 : s3.standbyPair = some q := by
      rw [State.standbyPair] at hq ⊢
      simpa only [pair_of_adds h3 (by decide)] using hq
    have hlast : t.loop l = s4.loop l :=
      loop_of_adds (h5.step h6 |>.step h7 |>.step h8) (by decide) l
    rw [← hl] at hf hp h2
    have h := hl4 q l hq3 (List.mem_map_of_mem (f := Prod.fst) (mem_affected hf hp h2))
    rwa [hl, ← hlast] at h

/-- A mismatch fences the pair's posted stores, records and counts itself, and sets the pair aside. -/
theorem mismatch_eq (s : State) (p : Nat) :
    s.mismatch p = (((s.drainPosted p).emit Ev.PAIR_MISMATCH 0 (w32 p :: dtbWords (s.drainPosted p).dtb)).countReg Reg.PLC_MISCNT 15 0
      0xFFFF 1).setAside p (((s.drainPosted p).pair p).misses + 1)
      (if 3 ≤ ((s.drainPosted p).pair p).misses then pairRetired else pairTesting) :=
  rfl

theorem mismatch_holds (s : State) (p : Nat) :
    let x := s.pair p
    let t := s.mismatch p
    State.Only [.act, .recd, .loops, .pairs, .slots, .cells, .placer, .drawn] s t ∧ (∀ c, t.cell c = (s.drainPosted p).cell c) ∧
      (∃ y : Pair, y.queue = [] ∧ t.pair p = y.stopped (x.misses + 1) s.dtb (if 3 ≤ x.misses then pairRetired else pairTesting)) ∧
      t.regF Reg.PLC_MISCNT 15 0 = min 65535 (s.regF Reg.PLC_MISCNT 15 0 + 1) ∧
      (∃ more, t.recd.handed = s.recd.handed ++ s.event Ev.PAIR_MISMATCH 0 (w32 p :: dtbWords s.dtb) :: more) ∧
      (mRising 0 s.loops = true → ∀ q l, s.standbyPair = some q → (s.loop l).state ≠ .free → (s.loop l).pair = p →
        (s.loop l).pair2 = none → (t.loop l).CarriedTo q (s.loop l).ckpt) := by
  intro x
  rw [mismatch_eq]
  obtain ⟨hd, hp, hne⟩ := drainPosted_holds s p
  have hstate (k : Nat) : ((s.drainPosted p).pair k).state = (s.pair k).state := by
    by_cases hk : k = p
    · rw [hk, hp]
    · rw [hne k hk]
  have hdtb : (s.drainPosted p).dtb = s.dtb := dtb_of_adds hd (by decide)
  generalize s.drainPosted p = u at hd hp hstate hdtb ⊢
  have hrecd : u.recd = s.recd := hd.1 .recd (by decide)
  have hact : u.reg Reg.PLC_MISCNT = s.reg Reg.PLC_MISCNT := hd.2.1 _ (by decide)
  obtain ⟨v, hv⟩ : ∃ v, v = u.emit Ev.PAIR_MISMATCH 0 (w32 p :: dtbWords u.dtb) := ⟨_, rfl⟩
  have h1 : State.Adds [.recd] [] u v := hv ▸ adds_emit ..
  have hhand : v.recd.handed = s.recd.handed ++ [s.event Ev.PAIR_MISMATCH 0 (w32 p :: dtbWords s.dtb)] := by
    rw [hv, State.emit, State.emitAt, hrecd, hdtb]
    rfl
  have hcount : (v.countReg Reg.PLC_MISCNT 15 0 0xFFFF 1).regF Reg.PLC_MISCNT 15 0 = min 65535 (s.regF Reg.PLC_MISCNT 15 0 + 1) := by
    rw [State.regF, State.regF, ← hact, ← h1.2.1 _ (by decide)]
    exact regF_countReg v (by decide) (by decide) 1
  have h2 : State.Adds [.act] [Reg.PLC_MISCNT] v (v.countReg Reg.PLC_MISCNT 15 0 0xFFFF 1) := adds_setReg ..
  rw [← hv]
  have hw : (v.countReg Reg.PLC_MISCNT 15 0 0xFFFF 1).recd = v.recd := countReg_recd ..
  generalize v.countReg Reg.PLC_MISCNT 15 0 0xFFFF 1 = w at h2 hcount hw ⊢
  have hmiss : (u.pair p).misses = x.misses := by rw [hp]
  rw [hmiss]
  have hcode : (if 3 ≤ x.misses then pairRetired else pairTesting) ∉ [pairActive, pairSpare, pairStandby] := by split <;> decide
  have hpair (k : Nat) : w.pair k = u.pair k := pair_of_adds (h1.step h2) (by decide) k
  have hloop (l : Nat) : w.loop l = s.loop l := loop_of_adds (hd.step h1 |>.step h2) (by decide) l
  obtain ⟨h3, ⟨y, hyq, hy⟩, hcarry⟩ := setAside_holds w p (x.misses + 1) hcode
  generalize w.setAside p (x.misses + 1) (if 3 ≤ x.misses then pairRetired else pairTesting) = t at h3 hy hcarry ⊢
  have hwd : w.dtb = s.dtb := dtb_of_adds (hd.step h1 |>.step h2) (by decide)
  have hall : State.Adds [.act, .recd, .loops, .pairs, .slots, .cells, .placer, .drawn] [Reg.PLC_MISCNT, Reg.PLC_STAT, Reg.PLC_MIG] s t :=
    (hd.step h1 |>.step h2 |>.step h3).within (by decide) (by decide)
  refine ⟨hall.1, fun c => ?_, ⟨y, ?_, ?_⟩, ?_, ?_, fun hrise q l hq hf hlp hl2 => ?_⟩
  · exact cell_of_adds (h1.step h2 |>.step h3) (by decide) c
  · rw [hyq, hpair, hp]
  · rw [hy, hwd]
  · rw [State.regF, h3.2.1 _ (by decide)]
    exact hcount
  · obtain ⟨es, he⟩ := h3.2.2
    exact ⟨es, by rw [he, hw, hhand, List.append_assoc, List.singleton_append]⟩
  · have hq' : w.standbyPair = some q := by
      rw [State.standbyPair] at hq ⊢
      simpa only [hpair, hstate] using hq
    have hrise' : mRising 0 w.loops = true := by
      rw [show w.loops = s.loops from (hd.step h1 |>.step h2).1 .loops (by decide)]
      exact hrise
    rw [← hloop] at hf hlp hl2 ⊢
    exact hcarry hrise' q l hq' hf hlp hl2
end

/-! ### Checks of pairs (R161 to R163, R170) -/

section
variable {s : State} {p l : Nat}

theorem pair_pairTo (s : State) (p code : Nat) : (s.pairTo p code).pair p = { s.pair p with state := code } := pair_setPair_same ..

/-- A pair moved to a state that the upkeep leaves alone. -/
theorem pairTo_upkeep_holds (s : State) (p : Nat) {code : Nat} (hcode : code ∉ [pairActive, pairSpare, pairStandby]) :
    ((s.pairTo p code).upkeep.pair p).state = code ∧ State.Only [.act, .recd, .pairs, .placer] s (s.pairTo p code).upkeep := by
  have h := adds_pairTo s p code
  have hp := pair_pairTo s p code
  obtain ⟨hu, hr, -, -⟩ := upkeep_holds (s.pairTo p code)
  refine ⟨?_, only_mono (h.step hu).1 (by decide)⟩
  rw [(hr p).eq_of_stopped (by rw [hp]; exact hcode), hp]

/-- A pair that passes its check is SPARE or STANDBY. -/
theorem passed_holds (s : State) (p : Nat) {code : Nat} (hcode : code ∈ [pairSpare, pairStandby]) :
    let u := s.pairTo p code
    let t := (u.setPair p { u.pair p with stoppedAt := s.dtb }).upkeep
    State.Only [.act, .recd, .pairs, .placer] s t ∧ ((t.pair p).state = pairSpare ∨ (t.pair p).state = pairStandby) := by
  intro u t
  have h := adds_pairTo s p code
  have hp : u.pair p = { s.pair p with state := code } := pair_pairTo s p code
  have h' := adds_setPair u p { u.pair p with stoppedAt := s.dtb }
  have hp' : (u.setPair p { u.pair p with stoppedAt := s.dtb }).pair p = { u.pair p with stoppedAt := s.dtb } := pair_setPair_same ..
  obtain ⟨hu, hr, -, -⟩ := upkeep_holds (u.setPair p { u.pair p with stoppedAt := s.dtb })
  refine ⟨only_mono (h.step h' |>.step hu).1 (by decide), (hr p).healthy ?_⟩
  rw [hp', hp]
  exact hcode

theorem checkFailed_upkeep_holds (s : State) (p : Nat) :
    let t := (s.checkFailed p).upkeep
    (t.pair p).state = pairFailed ∧ (t.pair p).check = false ∧ .mismatch p ∈ t.placer.replans ∧
      ∀ l, (s.loop l).state ≠ .free → (s.loop l).pair = p ∨ (s.loop l).pair2 = some p → t.loop l = (s.loop l).stranded := by
  unfold State.checkFailed
  extract_lets es src s1 t
  have h1 : State.Adds [.pairs, .recd] [] s s1 := ((adds_setPair ..).step (adds_pairTo ..)).within (by decide) (by decide)
  have hp1 : s1.pair p = { s.pair p with check := false, state := pairFailed } :=
    (pair_pairTo ..).trans (by rw [pair_setPair_same])
  clear_value src s1
  obtain ⟨h2, hl2⟩ := strands_hold es s1
  have h3 := adds_replan (es.foldl State.strand s1) (.mismatch p)
  obtain ⟨h4, hr, hrep, -⟩ := upkeep_holds ((es.foldl State.strand s1).replan (.mismatch p))
  have hp3 : ((es.foldl State.strand s1).replan (.mismatch p)).pair p = { s.pair p with check := false, state := pairFailed } := by
    rw [pair_of_adds h3 (by decide), pair_of_adds h2 (by decide), hp1]
  have ht : t.pair p = { s.pair p with check := false, state := pairFailed } := by
    rw [← hp3]
    exact (hr p).eq_of_stopped (by rw [hp3]; exact (by decide : pairFailed ∉ [pairActive, pairSpare, pairStandby]))
  refine ⟨by rw [ht], by rw [ht], ?_, fun l hf hl => ?_⟩
  · rw [hrep]
    simp [State.replan, State.setPlacer]
  · have hlast := (loop_of_adds (h3.step h4) (by decide) l).trans (hl2 l)
    rw [if_pos (List.mem_map_of_mem (f := Prod.fst) (mem_pairLoops hf hl)), loop_of_adds h1 (by decide)] at hlast
    exact hlast

/-- A degraded loop gets a second pair, which is then ACTIVE, and is degraded no longer. -/
theorem secondary_upkeep_holds (s : State) (l q : Nat) :
    let s1 := (s.setLoop l { s.loop l with pair2 := some q }).onPair q
    let u := s1.setPlacer { s1.placer with degraded := s1.placer.degraded.filter fun e => e.1 != l }
    State.Only [.act, .recd, .loops, .pairs, .placer] s u.upkeep ∧ u.upkeep.loop l = { s.loop l with pair2 := some q } ∧
      (∀ k, k ≠ l → u.upkeep.loop k = s.loop k) ∧ ∀ e ∈ u.upkeep.placer.degraded, e.1 ≠ l := by
  intro s1 u
  have h1 : State.Adds [.loops, .pairs] [] s s1 := ((adds_setLoop ..).step (adds_setPair ..)).within (by decide) (by decide)
  have hl1 : s1.loop l = { s.loop l with pair2 := some q } :=
    (loop_of_adds (adds_setPair ..) (by decide) l).trans (loop_setLoop_same ..)
  have hne1 : ∀ k, k ≠ l → s1.loop k = s.loop k := fun k hk =>
    (loop_of_adds (adds_setPair ..) (by decide) k).trans (loop_setLoop_ne _ hk _)
  have h2 : State.Adds [.placer] [] s1 u := adds_setPlacer ..
  have hdeg : u.placer.degraded = s1.placer.degraded.filter fun e => e.1 != l := rfl
  clear_value s1 u
  obtain ⟨h3, -, -, hkept⟩ := upkeep_holds u
  have hlast (k : Nat) : u.upkeep.loop k = s1.loop k := loop_of_adds (h2.step h3) (by decide) k
  refine ⟨only_mono (h1.step h2 |>.step h3).1 (by decide), (hlast l).trans hl1,
    fun k hk => (hlast k).trans (hne1 k hk), fun e he => ?_⟩
  rw [hkept, hdeg] at he
  simpa using (List.mem_filter.mp he).2
end

section
variable {s : State} {p l : Nat}

/-- Without a second pair to give, without a STANDBY pair, or in its period or at the same checkpoint, a degraded loop stays one. -/
theorem pinSecondaryRestored_idle {t : Nat} (h : s.placer.degraded.find? (fun e => e.1 == l) = none ∨ s.standbyPair = none ∨
    (s.placer.degraded.find? (fun e => e.1 == l) = some (l, t) ∧ ((s.loop l).inPeriod = true ∨ (s.loop l).ckpt.start = t))) :
    execPinSecondaryRestored l s = .next s := by
  unfold execPinSecondaryRestored
  split
  · next x t' q hd hq =>
    rcases h with h | h | ⟨h, hstop⟩
    · cases hd.symm.trans h
    · cases hq.symm.trans h
    · obtain ⟨-, rfl⟩ : x = l ∧ t' = t := by simpa using hd.symm.trans h
      exact if_pos (by simpa using hstop)
  · rfl

theorem pinSecondaryRestored_restores {t q : Nat} (hd : s.placer.degraded.find? (fun e => e.1 == l) = some (l, t))
    (hq : s.standbyPair = some q) (hin : (s.loop l).inPeriod = false) (ht : (s.loop l).ckpt.start ≠ t) :
    execPinSecondaryRestored l s =
      let s1 := (s.setLoop l { s.loop l with pair2 := some q }).onPair q
      .next (s1.setPlacer { s1.placer with degraded := s1.placer.degraded.filter fun e => e.1 != l }).upkeep := by
  unfold execPinSecondaryRestored
  rw [hd, hq]
  exact if_neg (by simp [hin, ht])

/-- The self-test of a TESTING pair, due 10 ms after it stopped. -/
theorem pairSelfTest_due (hc : (s.pair p).check = false) (ht : (s.pair p).state = pairTesting)
    (hd : (s.pair p).stoppedAt + 10000000 ≤ s.dtb) :
    execPairSelfTest p false s = .next (s.pairTo p pairFailed).upkeep ∧ ∃ code ∈ [pairSpare, pairStandby],
      execPairSelfTest p true s = .next (((s.pairTo p code).setPair p { (s.pairTo p code).pair p with stoppedAt := s.dtb }).upkeep) := by
  have hc' : ¬(s.pair p).check = true := ne_true_of_eq_false hc
  have hd' : ¬((s.pair p).state ≠ pairTesting ∨ s.dtb < (s.pair p).stoppedAt + 10000000) := by
    rintro (h | h)
    exacts [h ht, Nat.not_lt.mpr hd h]
  refine ⟨(if_neg hc').trans ((if_neg hd').trans (if_pos rfl)), _, ?_,
    (if_neg hc').trans ((if_neg hd').trans (if_neg Bool.false_ne_true))⟩
  split <;> decide

theorem pairSelfTest_check (hc : (s.pair p).check = true) :
    execPairSelfTest p true s = .next (s.setPair p { s.pair p with check := false }).upkeep ∧
      execPairSelfTest p false s = .next (s.checkFailed p).upkeep :=
  ⟨if_pos hc, if_pos hc⟩

/-- A pair that passes its check after T4 waits for it no longer; no loop changes. -/
theorem checkPassed_holds (s : State) (p : Nat) :
    let t := (s.setPair p { s.pair p with check := false }).upkeep
    (t.pair p).check = false ∧ ∀ l, t.loop l = s.loop l := by
  obtain ⟨hu, hr, -, -⟩ := upkeep_holds (s.setPair p { s.pair p with check := false })
  refine ⟨?_, fun l => loop_of_adds ((adds_setPair ..).step hu) (by decide) l⟩
  rw [(hr p).check, pair_setPair_same]
end

/-- Settles O23: each command changes the pair it names, then the upkeep moves pairs among ACTIVE, SPARE and STANDBY alone. -/
theorem pairsStopAndReturn : Obligations.PairsStopAndReturn := by
  unfold Obligations.PairsStopAndReturn
  intro s p x runs hrise
  refine ⟨fun a => ⟨fun h e => if_neg h, fun h => ⟨_, if_pos h, rfl, rfl, rfl⟩⟩, fun h a e he => ?_, fun l t h => ?_,
    fun l q t0 hd hin ht hq hst hlow => ⟨_, pinSecondaryRestored_restores hd (standbyPair_iff.mpr ⟨hq, hst, hlow⟩) hin ht,
      secondary_upkeep_holds s l q⟩,
    fun hc h ok => ?_, fun hc ht hd => ?_, fun hc => ⟨_, (pairSelfTest_check hc).1, checkPassed_holds s p⟩,
    fun hc _ => ⟨_, (pairSelfTest_check hc).2, checkFailed_upkeep_holds s p⟩, fun h ok => if_pos h,
    fun hst hd => ?_⟩
  · -- A mismatch that is more than a single-bit error.
    obtain ⟨ho, hcell, ⟨y, hy, hp⟩, hcount, hhand, hcarry⟩ := mismatch_holds s p
    refine ⟨s.mismatch p, (if_pos h).trans (congrArg Host.Outcome.next (if_neg he)), ho, ?_, hcell, ?_, ?_, ?_, ?_, ?_, hcount, hhand,
      fun q hq _ hst hlow l hf hlp hl2 => hcarry hrise q l (standbyPair_iff.mpr ⟨hq, hst, hlow⟩) hf hlp hl2⟩
    · rw [hp]
      exact hy
    all_goals rw [hp]; rfl
  · exact pinSecondaryRestored_idle (h.imp_right (Or.imp_left standbyPair_eq_none.mpr))
  · exact (if_neg (ne_true_of_eq_false hc)).trans (if_pos h)
  · obtain ⟨hfail, code, hcode, hpass⟩ := pairSelfTest_due hc ht hd
    obtain ⟨hstate, ho⟩ := pairTo_upkeep_holds s p (code := pairFailed) (by decide)
    exact ⟨⟨_, hfail, hstate, ho⟩, _, hpass, passed_holds s p hcode⟩
  · -- The test of a STANDBY pair, one second after the last.
    have hdue : ¬(x.state ≠ pairStandby ∨ s.dtb < x.stoppedAt + 1000000000) := by
      rintro (h | h)
      exacts [h hst, Nat.not_lt.mpr hd h]
    exact ⟨if_neg hdue, _, if_neg hdue, pairTo_upkeep_holds s p (by decide)⟩

end Sys2Proof.Machine
end

section
/-! SUPPORT. The arbiter's requests (R181 to R184, R190, R193, R197, R198): tags taken, statuses written, requests ended. -/
namespace Sys2Proof.Machine

/-! ### Tags -/

section
variable {s t : State}

theorem adds_with_hwk (s : State) (x : HwkSt) : State.Adds [.hwk] [] s { s with hwk := x } :=
  adds_of_only (by decide) (by decide) fun p hp => by
    cases p with
    | hwk => exact absurd (by decide) hp
    | _ => rfl

theorem adds_setTag (s : State) (n : Nat) (x : Tag) : State.Adds [.hwk] [] s (s.setTag n x) := adds_with_hwk ..

theorem hwk_of_adds {ps : List Part} {ks : List Nat} (h : State.Adds ps ks s t) (hh : .hwk ∉ ps) : t.hwk = s.hwk :=
  h.1 .hwk hh

theorem tag_of_adds {ps : List Part} {ks : List Nat} (h : State.Adds ps ks s t) (hh : .hwk ∉ ps) (n : Nat) : t.tag n = s.tag n := by
  rw [State.tag, hwk_of_adds h hh]
  rfl

/-- Tags written one by one: each tag is as it was, or as one of the entries writes it; all else of the arbiter stays. -/
theorem setTags_hold {α : Type} (key : α → Nat) (val : α → Tag) (l : List α) (s : State) :
    let t := l.foldl (fun s p => s.setTag (key p) (val p)) s
    State.Adds [.hwk] [] s t ∧ (∃ tags, t.hwk = { s.hwk with tags := tags }) ∧
      ∀ n, (n ∉ l.map key ∧ t.tag n = s.tag n) ∨ ∃ p ∈ l, key p = n ∧ t.tag n = val p := by
  induction l generalizing s with
  | nil => exact ⟨adds_refl .., ⟨s.hwk.tags, rfl⟩, fun _ => .inl ⟨List.not_mem_nil, rfl⟩⟩
  | cons a l ih =>
    intro t
    obtain ⟨hadd, ⟨tags, htags⟩, htag⟩ := ih (s.setTag (key a) (val a))
    refine ⟨(adds_setTag ..).trans hadd, ⟨tags, htags⟩, fun n => ?_⟩
    rcases htag n with ⟨hn, ht⟩ | ⟨p, hp, hk, ht⟩
    · by_cases ha : n = key a
      · subst ha
        exact .inr ⟨a, List.mem_cons_self, rfl, ht.trans (tag_setTag_same ..)⟩
      · exact .inl ⟨by simpa [ha] using hn, ht.trans (tag_setTag_ne _ ha _)⟩
    · exact .inr ⟨p, List.mem_cons_of_mem _ hp, hk, ht⟩

/-- The free tags among `n` from `t`, in order. -/
def State.freeFrom (s : State) (t n : Nat) : List Nat := (List.range' t n).filter fun k => !(s.tag k).used

theorem nodup_freeFrom (s : State) (t n : Nat) : (s.freeFrom t n).Nodup := List.Nodup.filter _ List.nodup_range'

/-- The tags taken are the first of the free ones. -/
theorem freeTags_eq (s : State) (fuel t n : Nat) : s.freeTags fuel t n = (s.freeFrom t fuel).take n := by
  induction fuel generalizing t n with
  | zero => exact List.take_nil.symm
  | succ fuel ih =>
    rw [State.freeTags, State.freeFrom, List.range'_succ, List.filter_cons]
    cases n with
    | zero => rw [if_pos rfl, List.take_zero]
    | succ n =>
      rw [if_neg (Nat.succ_ne_zero n), ih, ih]
      cases (s.tag t).used <;> simp [State.freeFrom]

/-- A used tag has its entry. -/
theorem mem_tags_of_used {n : Nat} (h : (s.tag n).used = true) : (n, s.tag n) ∈ s.hwk.tags :=
  mem_of_mget_ne fun hd => by
    rw [State.tag, hd] at h
    cases h

/-- Of eight tags more than there are entries, eight are free. -/
theorem eight_free (s : State) : 8 ≤ (s.freeFrom 0 (s.hwk.tags.length + 8)).length := by
  have hsplit := List.length_eq_length_filter_add (l := List.range' 0 (s.hwk.tags.length + 8)) fun k => (s.tag k).used
  have hused : ((List.range' 0 (s.hwk.tags.length + 8)).filter fun k => (s.tag k).used).length ≤ (s.hwk.tags.map Prod.fst).length := by
    refine (List.subperm_of_subset (List.Nodup.filter _ List.nodup_range') fun k hk => ?_).length_le
    exact List.mem_map_of_mem (f := Prod.fst) (mem_tags_of_used (List.mem_filter.mp hk).2)
  rw [List.length_range'] at hsplit
  rw [List.length_map] at hused
  rw [State.freeFrom]
  omega

/-- The tags that a request of `n` descriptors takes: `n` of them, each once, the lowest free one first. -/
theorem freeTags_hold (s : State) {n m : Nat} (h0 : 0 < n) (h8 : n ≤ 8) (hm : (s.tag m).used = false)
    (hlow : ∀ k, k < m → (s.tag k).used = true) :
    ∃ ts, s.freeTags (s.hwk.tags.length + 8) 0 n = m :: ts ∧ (m :: ts).length = n ∧ (m :: ts).Nodup := by
  have hfree := eight_free s
  have hnodup := (nodup_freeFrom s 0 (s.hwk.tags.length + 8)).sublist (List.take_sublist n _)
  have hlen : ((s.freeFrom 0 (s.hwk.tags.length + 8)).take n).length = n := by
    rw [List.length_take]
    omega
  have hhead : ((s.freeFrom 0 (s.hwk.tags.length + 8)).take n).head? =
      (List.range (s.hwk.tags.length + 8)).find? fun k => !(s.tag k).used := by
    rw [List.head?_take, if_neg h0.ne', State.freeFrom, List.head?_filter, List.range_eq_range']
  rw [freeTags_eq]
  cases hts : (s.freeFrom 0 (s.hwk.tags.length + 8)).take n with
  | nil =>
    rw [hts] at hlen
    exact absurd hlen h0.ne
  | cons a ts =>
    rw [hts] at hlen hhead hnodup
    obtain ⟨ha, -, hbelow⟩ := List.find?_range_eq_some.mp hhead.symm
    obtain rfl : a = m := by
      rcases Nat.lt_trichotomy a m with h | h | h
      · simp [hlow a h] at ha
      · exact h
      · simpa [hm] using hbelow m h
    exact ⟨ts, rfl, hlen, hnodup⟩
end

/-! ### Words of shared data and the status of a request (R182) -/

theorem memWord_msetList_ne {a k : Nat} {vs : List Byte} (h : a + 4 ≤ k ∨ k + vs.length ≤ a) (m : SMap Byte) :
    memWord (msetList 0 k vs m) a = memWord m a := by
  unfold memWord
  rw [mget_msetList_ne _ _ _ _ a (by omega), mget_msetList_ne _ _ _ _ (a + 1) (by omega), mget_msetList_ne _ _ _ _ (a + 2) (by omega),
    mget_msetList_ne _ _ _ _ (a + 3) (by omega)]

theorem memWord_msetList_same (a w : Nat) (m : SMap Byte) : memWord (msetList 0 a (bytesOf 4 w) m) a = w32 w := by
  have hbyte (i : Nat) (hi : i < 4) : (mget 0 (a + i) (msetList 0 a (bytesOf 4 w) m)).toNat = w / 256 ^ i % 256 := by
    rw [mget_msetList_mem _ _ _ _ _ (by omega) (by rw [length_bytesOf]; omega), Nat.add_sub_cancel_left]
    exact getD_bytesOf 4 w i hi
  have h0 := hbyte 0 (by decide)
  rw [Nat.add_zero] at h0
  unfold memWord
  rw [h0, hbyte 1 (by decide), hbyte 2 (by decide), hbyte 3 (by decide)]
  apply BitVec.eq_of_toNat_eq
  simp only [BitVec.toNat_ofNat]
  omega

theorem sharedWord_writeShared_ne {a k : Nat} {bs : List Byte} (h : a + 4 ≤ k ∨ k + bs.length ≤ a) (c : Cell) :
    (c.writeShared k bs).sharedWord a = c.sharedWord a := memWord_msetList_ne h c.shared

theorem sharedWord_writeShared_same (c : Cell) (a w : Nat) : (c.writeShared a (bytesOf 4 w)).sharedWord a = w32 w :=
  memWord_msetList_same a w c.shared

/-- The words of a status at an offset, STATUS, FCAST where it is written and TDONE. -/
def Cell.withStatus (c : Cell) (off w : Nat) (fcast : Option Nat) (tdone : Nat) : Cell :=
  (match fcast with
    | some f => (c.writeShared off (bytesOf 4 w)).writeShared (off + 4) (bytesOf 4 f)
    | none => c.writeShared off (bytesOf 4 w)).writeShared (off + 8) (bytesOf 4 tdone)

theorem withStatus_word_ne {a off : Nat} (h : a + 4 ≤ off ∨ off + 12 ≤ a) (c : Cell) (w : Nat) (fcast : Option Nat) (tdone : Nat) :
    (c.withStatus off w fcast tdone).sharedWord a = c.sharedWord a := by
  unfold Cell.withStatus
  rw [sharedWord_writeShared_ne (by rw [length_bytesOf]; omega)]
  split
  · rw [sharedWord_writeShared_ne (by rw [length_bytesOf]; omega), sharedWord_writeShared_ne (by rw [length_bytesOf]; omega)]
  · rw [sharedWord_writeShared_ne (by rw [length_bytesOf]; omega)]

theorem withStatus_word (c : Cell) (off w : Nat) (fcast : Option Nat) (tdone : Nat) :
    (c.withStatus off w fcast tdone).sharedWord off = w32 w := by
  unfold Cell.withStatus
  rw [sharedWord_writeShared_ne (by omega)]
  split
  · rw [sharedWord_writeShared_ne (by omega), sharedWord_writeShared_same]
  · rw [sharedWord_writeShared_same]

section
variable {s : State}

/-- The offset of a tag's STATUS word in its cell's shared data. -/
def Tag.statusOff (x : Tag) : Nat := x.addr - sharedBase + 0x20

theorem writeStatus_eq (s : State) (t code err : Nat) (fcast : Option Nat) (tdone : Nat) :
    s.writeStatus t code err fcast tdone =
      let x := s.tag t
      let c := s.cell x.cell
      if x.internal || c.inc != x.inc || !c.inShared (x.addr + 0x20) 12 then s
      else s.setCell x.cell (c.withStatus x.statusOff (code * 0x10000000 + err * 0x1000000 + x.seq * 0x10000 + t) fcast tdone) := rfl

theorem writeStatus_holds (s : State) (t code err : Nat) (fcast : Option Nat) (tdone : Nat) :
    State.Adds [.cells] [] s (s.writeStatus t code err fcast tdone) ∧
      ∀ c a, a + 4 ≤ (s.tag t).statusOff ∨ (s.tag t).statusOff + 12 ≤ a →
        ((s.writeStatus t code err fcast tdone).cell c).sharedWord a = (s.cell c).sharedWord a := by
  rw [writeStatus_eq]
  extract_lets x y
  split
  · exact ⟨adds_refl .., fun _ _ _ => rfl⟩
  · refine ⟨adds_setCell .., fun c a ha => ?_⟩
    by_cases hc : c = x.cell
    · subst hc
      rw [cell_setCell_same, withStatus_word_ne ha]
    · rw [cell_setCell_ne _ hc]

theorem writeStatus_word {t : Nat} (hi : (s.tag t).internal = false) (hc : (s.cell (s.tag t).cell).inc = (s.tag t).inc)
    (hs : (s.cell (s.tag t).cell).inShared ((s.tag t).addr + 0x20) 12 = true) (code err : Nat) (fcast : Option Nat) (tdone : Nat) :
    ((s.writeStatus t code err fcast tdone).cell (s.tag t).cell).sharedWord (s.tag t).statusOff =
      w32 (code * 0x10000000 + err * 0x1000000 + (s.tag t).seq * 0x10000 + t) := by
  rw [writeStatus_eq]
  simp only [hi, hc, hs, bne_self_eq_false, Bool.not_true, Bool.or_false, Bool.false_eq_true, if_false]
  rw [cell_setCell_same, withStatus_word]

/-- The status of several tags written: cells' shared data alone changes, none of it before the first of their words. -/
theorem writeStatuses_hold (f : State → Option Nat) (code err tdone : Nat) (l : List Nat) (s : State) :
    let u := l.foldl (fun s t => s.writeStatus t code err (f s) tdone) s
    State.Adds [.cells] [] s u ∧
      ∀ c a, (∀ t ∈ l, a + 4 ≤ (s.tag t).statusOff) → (u.cell c).sharedWord a = (s.cell c).sharedWord a := by
  induction l generalizing s with
  | nil => exact ⟨adds_refl .., fun _ _ _ => rfl⟩
  | cons t l ih =>
    intro u
    obtain ⟨h1, hw1⟩ := writeStatus_holds s t code err (f s) tdone
    obtain ⟨h2, hw2⟩ := ih (s.writeStatus t code err (f s) tdone)
    refine ⟨h1.trans h2, fun c a ha => ?_⟩
    obtain ⟨ha, hal⟩ := List.forall_mem_cons.mp ha
    exact (hw2 c a fun n hn => by rw [tag_of_adds h1 (by decide)]; exact hal n hn).trans (hw1 c a (.inl ha))
end

/-! ### Submission (R182, R184, Table 5.4) -/

section
variable {s : State} {c addr : Nat}

/-- An accepted request lies in shared data and has one to eight descriptors. -/
theorem submitCheck_accepted {other : Cell → List Word → Nat} (h : (s.submitCheck c addr other).1 = resAccepted) :
    (s.cell c).inShared addr 64 = true ∧ 0 < (s.submitCheck c addr other).2.length ∧ (s.submitCheck c addr other).2.length ≤ 8 := by
  have hlockn (d : List Word) : descLockn d + 1 ≤ 8 := by
    unfold descLockn fld
    omega
  revert h
  unfold State.submitCheck
  extract_lets x d0 n ds k res
  split_ifs with hin
  iterate 6 exact (nomatch ·)
  have hlen : ds.length = n := (List.length_map _).trans List.length_range
  rw [hlen]
  exact fun _ => ⟨by simpa using hin, Nat.succ_pos _, hlockn d0⟩

/-- The tag of the descriptor at a place of an accepted sequence. -/
def seqTag (c inc kind addr head count : Nat) (p : (Nat × List Word) × Nat) : Tag :=
  ⟨true, false, c, inc, kind, none, p.1.2, addr + 64 * p.2, p.2, head, count, false, 0, none⟩

/-- The descriptors that tags are taken for, by tag and place. -/
theorem mem_seq {ts : List Nat} {ds : List (List Word)} {p : (Nat × List Word) × Nat} (hp : p ∈ (ts.zip ds).zipIdx) :
    ts[p.2]? = some p.1.1 ∧ ds[p.2]? = some p.1.2 :=
  List.getElem?_zip_eq_some.mp (List.mem_zipIdx_iff_getElem?.mp hp)

theorem seq_keys {ts : List Nat} {ds : List (List Word)} (h : ts.length = ds.length) :
    (ts.zip ds).zipIdx.map (fun p => p.1.1) = ts := by
  have hz : (ts.zip ds).zipIdx.map (fun p => p.1.1) = ((ts.zip ds).zipIdx.map Prod.fst).map Prod.fst := List.map_map.symm
  rw [hz, List.zipIdx_map_fst, List.map_fst_zip h.le]

theorem seqTags_hold (s : State) (c inc kind addr head : Nat) {n : Nat} {ts : List Nat} {ds : List (List Word)}
    (hlen : (n :: ts).length = ds.length) (hnd : (n :: ts).Nodup) :
    let u := ((n :: ts).zip ds).zipIdx.foldl
      (fun s p => s.setTag p.1.1 (seqTag c inc kind addr head (n :: ts).length p)) s
    State.Adds [.hwk] [] s u ∧ (∃ tags, u.hwk = { s.hwk with tags := tags }) ∧
      u.tag n = seqTag c inc kind addr head ds.length ((n, ds.headD []), 0) ∧ ∀ m ∈ ts, addr + 64 ≤ (u.tag m).addr := by
  obtain ⟨hadd, hhwk, htag⟩ := setTags_hold (fun p => p.1.1) (seqTag c inc kind addr head (n :: ts).length) ((n :: ts).zip ds).zipIdx s
  rw [seq_keys hlen] at htag
  refine ⟨hadd, hhwk, ?_, fun m hm => ?_⟩
  · obtain ⟨⟨⟨a, d⟩, i⟩, hp, rfl, ht⟩ := (htag n).resolve_left fun h => h.1 List.mem_cons_self
    obtain ⟨hi, hd⟩ := mem_seq hp
    obtain rfl : 0 = i := (List.getElem?_inj (Nat.succ_pos _) hnd).mp hi.symm
    cases ds with
    | nil => cases hd
    | cons d' ds =>
      obtain rfl : d' = d := by simpa using hd
      rw [ht, hlen]
      rfl
  · obtain ⟨⟨⟨a, d⟩, i⟩, hp, rfl, ht⟩ := (htag m).resolve_left fun h => h.1 (List.mem_cons_of_mem _ hm)
    obtain ⟨hi, -⟩ := mem_seq hp
    cases i with
    | zero =>
      obtain rfl : n = a := by simpa using hi
      exact absurd hm (List.nodup_cons.mp hnd).1
    | succ i =>
      rw [ht]
      exact Nat.add_le_add_left (by omega) addr

/-- A sequence accepted under these tags, the lowest first. -/
theorem acceptSeq_holds (s : State) (c kind addr : Nat) {n : Nat} {ts : List Nat} {ds : List (List Word)}
    (hlen : (n :: ts).length = ds.length) (hnd : (n :: ts).Nodup) (hin : (s.cell c).inShared addr 64 = true) :
    let t := s.acceptSeq c kind addr ds (n :: ts)
    State.Adds [.hwk, .cells] [] s t ∧ t.hwk.waiting = s.hwk.waiting ++ [n] ∧
      t.tag n = seqTag c (s.cell c).inc kind addr n ds.length ((n, ds.headD []), 0) ∧
      (t.cell c).sharedWord (addr - sharedBase + 0x20) = w32 (0x10000000 + n) := by
  unfold State.acceptSeq
  extract_lets head inc s1 src s2 t
  obtain ⟨h1, ⟨tags, hhwk⟩, htag, hrest⟩ : State.Adds [.hwk] [] s s1 ∧ (∃ tags, s1.hwk = { s.hwk with tags := tags }) ∧
    s1.tag n = _ ∧ ∀ m ∈ ts, addr + 64 ≤ (s1.tag m).addr := seqTags_hold s c inc kind addr n hlen hnd
  have h2 : State.Adds [.hwk] [] s s2 := h1.trans (adds_with_hwk s1 _)
  have hw2 : s2.hwk.waiting = s1.hwk.waiting ++ [n] := rfl
  have htag2 : ∀ m, s2.tag m = s1.tag m := fun _ => rfl
  clear_value s1 src s2
  rw [← htag2] at htag
  -- The head's status first, then those of the descriptors behind it.
  obtain ⟨h3, -⟩ := writeStatus_holds s2 n stQueued 0 (some (s2.forecast n)) 0
  obtain ⟨h4, hword⟩ := writeStatuses_hold (fun u => some (u.forecast n)) stQueued 0 0 ts
    (s2.writeStatus n stQueued 0 (some (s2.forecast n)) 0)
  have hcell : s2.cell (s2.tag n).cell = s.cell c := by
    rw [htag]
    exact cell_of_adds h2 (by decide) c
  have hshared : (s.cell c).inShared (addr + 0x20) 12 = true := by
    simp only [Cell.inShared, Bool.and_eq_true, decide_eq_true_eq] at hin ⊢
    omega
  have hfirst := writeStatus_word (s := s2) (t := n) (by rw [htag]; rfl) (by rw [hcell, htag]; rfl)
    (by rw [hcell, htag]; exact hshared) stQueued 0 (some (s2.forecast n)) 0
  rw [htag] at hfirst
  refine ⟨(h2.step h3 |>.step h4).within (by decide) (by decide), ?_, ?_, ?_⟩
  · rw [show t.hwk = s2.hwk from hwk_of_adds (h3.step h4) (by decide), hw2, hhwk]
  · exact (tag_of_adds (h3.step h4) (by decide) n).trans htag
  · refine (hword c _ fun m hm => ?_).trans (hfirst.trans ?_)
    · rw [tag_of_adds h3 (by decide), htag2, Tag.statusOff]
      have := hrest m hm
      simp only [Cell.inShared, Bool.and_eq_true, decide_eq_true_eq] at hin
      omega
    · simp [seqTag, stQueued]
end

section
variable {s : State} {w : Who} {v : Word} {c : Nat}

theorem sharedEcc_holds (s : State) (c a : Nat) (e : Ecc) :
    State.Adds [.cells, .recd] [] s (s.sharedEcc c a e) ∧
      (∀ n, n ∈ (s.cell c).badWords → n ∈ ((s.sharedEcc c a e).cell c).badWords) ∧
      (e = .double → (a - sharedBase) / 4 ∈ ((s.sharedEcc c a e).cell c).badWords) := by
  unfold State.sharedEcc
  cases e with
  | ok => exact ⟨adds_refl .., fun _ h => h, fun h => (nomatch h)⟩
  | single => exact ⟨(adds_emit ..).within (by decide) (by decide), fun _ h => h, fun h => (nomatch h)⟩
  | double =>
    refine ⟨(adds_setCell ..).within (by decide) (by decide), fun n hn => ?_, fun _ => ?_⟩
    · rw [cell_setCell_same]
      by_cases h : n = (a - sharedBase) / 4
      · exact h ▸ List.mem_cons_self
      · exact List.mem_cons_of_mem _ (List.mem_filter.mpr ⟨hn, by simpa using h⟩)
    · rw [cell_setCell_same]
      exact List.mem_cons_self

theorem sharedEccs_hold (c : Nat) (es : List (Nat × Ecc)) (s : State) :
    let t := es.foldl (fun s e => s.sharedEcc c e.1 e.2) s
    State.Adds [.cells, .recd] [] s t ∧ (∀ n, n ∈ (s.cell c).badWords → n ∈ (t.cell c).badWords) ∧
      ∀ e ∈ es, e.2 = .double → (e.1 - sharedBase) / 4 ∈ (t.cell c).badWords := by
  induction es generalizing s with
  | nil => exact ⟨adds_refl .., fun _ h => h, fun _ h => (nomatch h)⟩
  | cons e es ih =>
    obtain ⟨ha, hkeep, hbad⟩ := sharedEcc_holds s c e.1 e.2
    obtain ⟨ha', hkeep', hbad'⟩ := ih (s.sharedEcc c e.1 e.2)
    refine ⟨ha.trans ha', fun n hn => hkeep' n (hkeep n hn), fun x hx hd => ?_⟩
    rcases List.mem_cons.mp hx with rfl | hx
    · exact hkeep' _ (hbad hd)
    · exact hbad' x hx hd

/-- The words of the descriptors that are read with an uncorrectable error are known bad (log 103). -/
theorem descEcc_holds (s : State) (c : Nat) (v : Word) (es : List (Nat × Ecc)) :
    State.Adds [.cells, .recd] [] s (s.descEcc c v es) ∧
      ∀ e ∈ es, e.2 = .double → v.toNat / 64 * 64 ≤ e.1 → e.1 < v.toNat / 64 * 64 + 512 → (s.cell c).inShared e.1 4 = true →
        ((s.descEcc c v es).cell c).badWords.contains ((e.1 - 0x20000000) / 4) = true := by
  unfold State.descEcc
  extract_lets lo
  obtain ⟨ha, -, hbad⟩ := sharedEccs_hold c
    (es.filter fun e => decide (lo ≤ e.1) && decide (e.1 < lo + 512) && (s.cell c).inShared e.1 4) s
  refine ⟨ha, fun e he hd hlo hhi hin => List.contains_iff_mem.mpr (hbad e (List.mem_filter.mpr ⟨he, ?_⟩) hd)⟩
  simp [hlo, hhi, hin, lo]

theorem descEcc_nil (s : State) (c : Nat) (v : Word) : s.descEcc c v [] = s := rfl

/-! ### Accesses of the arbiter's registers -/

theorem hwkSubmit_granted (h : s.granted w Reg.HWK_SUBMIT = true) (es : List (Nat × Ecc)) :
    exec (.hwkSubmit w ⟨v, es⟩) s = .next ((s.descEcc (s.whoCell w) v es).writeSubmit w v) :=
  congrArg Host.Outcome.next (access_granted (by decide) (by decide) h _)

theorem hwkCancel_granted (h : s.granted w Reg.HWK_CANCEL = true) : exec (.hwkCancel w v) s = .next (s.writeCancel w v) :=
  congrArg Host.Outcome.next (access_granted (by decide) (by decide) h _)

theorem hwkFreezeWrite_granted (h : s.granted w Reg.HWK_FRZ = true) :
    exec (.hwkFreezeWrite w v) s = .next (if s.whoCell w = 0 then s.writeFreeze v else s) :=
  congrArg Host.Outcome.next (access_granted (by decide) (by decide) h _)

/-- The accessor's cell and the grants of pages are not in the cells' memories. -/
theorem whoCell_of_adds {t : State} {ks : List Nat} (h : State.Adds [.cells, .recd] ks s t) (w : Who) : t.whoCell w = s.whoCell w := by
  cases w with
  | loop l => exact congrArg Loop.cell (loop_of_adds h (by decide) l)
  | session sid =>
    rw [State.whoCell, State.session, show t.sessions = s.sessions from h.1 .sessions (by decide)]
    rfl

theorem granted_of_adds {t : State} (h : State.Adds [.cells, .recd] [] s t) (w : Who) (a : Nat) : t.granted w a = s.granted w a := by
  rw [State.granted, State.granted, whoCell_of_adds h, State.pageGranted, State.pageGranted, State.regB, State.regB,
    h.2.1 _ List.not_mem_nil]

/-- A submission whose reads meet errors is one without them of the state that the errors leave. -/
theorem hwkSubmit_ecc (hg : s.granted w Reg.HWK_SUBMIT = true) (es : List (Nat × Ecc)) :
    exec (.hwkSubmit w ⟨v, es⟩) s = exec (.hwkSubmit w ⟨v, []⟩) (s.descEcc (s.whoCell w) v es) := by
  obtain ⟨ha, -⟩ := descEcc_holds s (s.whoCell w) v es
  rw [hwkSubmit_granted hg, hwkSubmit_granted ((granted_of_adds ha w _).trans hg), descEcc_nil]

/-! ### What a submission answers (Table 5.4) -/

section
variable {b addr : Nat} {other : Cell → List Word → Nat}

theorem submit_reset (h : (s.cell c).state = 4) : s.submit b c addr other = s := if_pos h

theorem submit_refused (h : (s.cell c).state ≠ 4) (ha : (s.submitCheck c addr other).1 ≠ resAccepted)
    (hn : (s.submitCheck c addr other).1 ≠ resNotag ∨ s.cellTags + (s.submitCheck c addr other).2.length ≤ 0xFC00) :
    s.submit b c addr other = s.setSres b (s.submitCheck c addr other).1 0 := by
  unfold State.submit
  have hfull : ¬((s.submitCheck c addr other).1 = resNotag &&
      decide (cellTagCount < s.cellTags + (s.submitCheck c addr other).2.length)) = true := by
    rcases hn with hn | hn
    · simp [hn]
    · simp [cellTagCount, Nat.not_lt.mpr hn]
  exact (if_neg h).trans ((if_neg ha).trans (if_neg hfull))

/-- The answer NOTAG with TAGFULL set. -/
def State.tagsFull (s : State) (b : Nat) : State := (s.setSres b resNotag 0).setRegB Reg.HWK_STAT 31 true

theorem submit_full (h : (s.cell c).state ≠ 4) (hn : (s.submitCheck c addr other).1 = resNotag)
    (hf : 0xFC00 < s.cellTags + (s.submitCheck c addr other).2.length) :
    s.submit b c addr other = if s.hwk.tagfullDone then s.tagsFull b
      else ({ s.tagsFull b with hwk := { (s.tagsFull b).hwk with tagfullDone := true } }).emit Ev.HWK_TAGFULL c
        [w32 s.inUse, w32 c] := by
  unfold State.submit
  have ha : (s.submitCheck c addr other).1 ≠ resAccepted := by rw [hn]; decide
  have hfull : ((s.submitCheck c addr other).1 = resNotag &&
      decide (cellTagCount < s.cellTags + (s.submitCheck c addr other).2.length)) = true := by simp [hn, cellTagCount, hf]
  exact (if_neg h).trans ((if_neg ha).trans (if_pos hfull))

theorem submit_accepted {n : Nat} {ts : List Nat} (h : (s.cell c).state ≠ 4) (ha : (s.submitCheck c addr other).1 = resAccepted)
    (hts : s.freeTags (s.hwk.tags.length + 8) 0 (s.submitCheck c addr other).2.length = n :: ts) :
    s.submit b c addr other = (s.acceptSeq c (descKind ((s.submitCheck c addr other).2.headD [])) addr
      (s.submitCheck c addr other).2 (n :: ts)).setSres b resAccepted n := by
  rw [← hts]
  exact (if_neg h).trans ((if_pos ha).trans (by rw [hts]; rfl))

/-- An answer in an accessor's HWK_SRES. -/
theorem setSres_holds (s : State) (b res tag : Nat) :
    State.Only [.act] s (s.setSres b res tag) ∧ State.OnlyRegs [bk b Reg.HWK_SRES] s (s.setSres b res tag) ∧
      (s.setSres b res tag).reg (bk b Reg.HWK_SRES) = w32 (res * 0x10000 + tag) :=
  ⟨only_setReg _ _ (by decide) _ _, fun _ hj => reg_setReg_ne _ (by simpa using hj) _, reg_setReg_same ..⟩

theorem sres_ne_stat (b : Nat) : bk b Reg.HWK_SRES ≠ Reg.HWK_STAT := by
  unfold bk Reg.HWK_SRES Reg.HWK_STAT
  omega

theorem tagsFull_holds (s : State) (b : Nat) :
    State.Adds [.act] [bk b Reg.HWK_SRES, Reg.HWK_STAT] s (s.tagsFull b) ∧ (s.tagsFull b).reg (bk b Reg.HWK_SRES) = 0x20000 ∧
      (s.tagsFull b).regB Reg.HWK_STAT 31 = true := by
  unfold State.tagsFull
  refine ⟨((adds_setReg ..).step (adds_setReg ..)).within (by decide) (by simp),
    (reg_setRegB_ne _ (sres_ne_stat b) _ _).trans (reg_setReg_same ..), ?_⟩
  rw [State.regB, reg_setRegB_same, bitAt_setBit_same _ _ _ (by decide)]

/-- The tags of the cells used up: the answer, TAGFULL, and the record once in a window. -/
theorem submit_full_holds (h : (s.cell c).state ≠ 4) (hn : (s.submitCheck c addr other).1 = resNotag)
    (hf : 0xFC00 < s.cellTags + (s.submitCheck c addr other).2.length) :
    let t := s.submit b c addr other
    State.Only [.act, .hwk, .recd] s t ∧ State.OnlyRegs [bk b Reg.HWK_SRES, Reg.HWK_STAT] s t ∧ t.reg (bk b Reg.HWK_SRES) = 0x20000 ∧
      t.regB Reg.HWK_STAT 31 = true ∧ t.hwk = { s.hwk with tagfullDone := true } ∧
      State.Logs (if s.hwk.tagfullDone then [] else [s.event Ev.HWK_TAGFULL c [w32 s.inUse, w32 c]]) s t := by
  rw [submit_full h hn hf]
  obtain ⟨h1, hsres, hstat⟩ := tagsFull_holds s b
  generalize s.tagsFull b = u at h1 hsres hstat ⊢
  have hhwk : u.hwk = s.hwk := hwk_of_adds h1 (by decide)
  have hrecd : u.recd = s.recd := h1.1 .recd (by decide)
  have hdtb : u.dtb = s.dtb := dtb_of_adds h1 (by decide)
  cases hd : s.hwk.tagfullDone with
  | true =>
    refine ⟨only_mono h1.1 (by decide), h1.2.1, hsres, hstat, ?_, ?_⟩
    · rw [if_pos rfl, hhwk, ← hd]
    · rw [State.Logs, if_pos rfl, if_pos rfl, hrecd, List.append_nil]
  | false =>
    have h2 := adds_with_hwk u { u.hwk with tagfullDone := true }
    have hhwk2 : ({ u with hwk := { u.hwk with tagfullDone := true } } : State).hwk = { s.hwk with tagfullDone := true } :=
      congrArg (fun x : HwkSt => { x with tagfullDone := true }) hhwk
    generalize ({ u with hwk := { u.hwk with tagfullDone := true } } : State) = y at h2 hhwk2 ⊢
    have h3 : State.Adds [.act, .hwk] [bk b Reg.HWK_SRES, Reg.HWK_STAT] s y := (h1.step h2).within (by decide) (by simp)
    have h4 : State.Adds [.act, .hwk, .recd] [bk b Reg.HWK_SRES, Reg.HWK_STAT] s (y.emit Ev.HWK_TAGFULL c [w32 s.inUse, w32 c]) :=
      (h3.step (adds_emit ..)).within (by decide) (by simp)
    refine ⟨h4.1, h4.2.1, ?_, ?_, (emit_hwk ..).trans hhwk2, ?_⟩
    · rw [if_neg Bool.false_ne_true, reg_emit, h2.2.1 _ List.not_mem_nil, hsres]
    · rw [if_neg Bool.false_ne_true, State.regB, reg_emit, h2.2.1 _ List.not_mem_nil]
      exact hstat
    · exact logs_emit (dtb_of_adds h3 (by decide)) (h3.1 .recd (by decide)) _ _ _
end
end

section
variable {s : State} {w : Who} {v : Word} {c : Nat}

/-- An accepted request waits last, under the lowest free tag. -/
theorem submit_accepted_holds {b addr n : Nat} {other : Cell → List Word → Nat} (h : (s.cell c).state ≠ 4)
    (ha : (s.submitCheck c addr other).1 = resAccepted) (hn : (s.tag n).used = false) (hlow : ∀ k, k < n → (s.tag k).used = true) :
    let t := s.submit b c addr other
    let ds := (s.submitCheck c addr other).2
    State.Only [.hwk, .cells, .act] s t ∧ State.OnlyRegs [bk b Reg.HWK_SRES] s t ∧ t.reg (bk b Reg.HWK_SRES) = w32 (0x10000 + n) ∧
      t.hwk.waiting = s.hwk.waiting ++ [n] ∧
      t.tag n = seqTag c (s.cell c).inc (descKind (ds.headD [])) addr n ds.length ((n, ds.headD []), 0) ∧
      (t.cell c).sharedWord (addr - sharedBase + 0x20) = w32 (0x10000000 + n) := by
  obtain ⟨hin, hpos, hle⟩ := submitCheck_accepted ha
  obtain ⟨ts, hts, hlen, hnd⟩ := freeTags_hold s hpos hle hn hlow
  rw [submit_accepted h ha hts]
  generalize (s.submitCheck c addr other).2 = ds at hlen ⊢
  obtain ⟨h1, hw, htag, hword⟩ := acceptSeq_holds s c (descKind (ds.headD [])) addr hlen hnd hin
  generalize s.acceptSeq c (descKind (ds.headD [])) addr ds (n :: ts) = u at h1 hw htag hword ⊢
  obtain ⟨ho, hr, hres⟩ := setSres_holds u b resAccepted n
  have h2 : State.Adds [.act] [bk b Reg.HWK_SRES] u (u.setSres b resAccepted n) := adds_setReg ..
  have h3 : State.Adds [.hwk, .cells, .act] [bk b Reg.HWK_SRES] s (u.setSres b resAccepted n) :=
    (h1.step h2).within (by decide) (List.Subset.refl _)
  refine ⟨h3.1, h3.2.1, hres, ?_, (tag_of_adds h2 (by decide) n).trans htag, ?_⟩
  · exact (congrArg HwkSt.waiting (hwk_of_adds h2 (by decide))).trans hw
  · exact (congrArg (fun x : Cell => x.sharedWord (addr - sharedBase + 0x20)) (cell_of_adds h2 (by decide) c)).trans hword

/-! ### Requests ended (R193, R198) -/

/-- A used tag that no engine has and no internal request holds is one of its request's. -/
theorem mem_sequence {n : Nat} (hu : (s.tag n).used = true) (hi : (s.tag n).internal = false) (he : (s.tag n).engine = none) :
    n ∈ s.sequence (s.tag n).head :=
  List.mem_map_of_mem (f := Prod.fst) (List.mem_filter.mpr ⟨mem_tags_of_used hu, by simp [hu, hi, he]⟩)

/-- A waiting request ended: it waits no more, and its tags are free. -/
theorem endWaiting_holds (s : State) (head code : Nat) :
    let t := s.endWaiting head code
    State.Adds [.hwk, .cells] [] s t ∧ t.hwk.waiting = s.hwk.waiting.filter (fun u => u != head) ∧
      ∀ n ∈ s.sequence head, t.tag n = Tag.free := by
  unfold State.endWaiting State.freeTagList
  extract_lets ts s1 src
  obtain ⟨h1, -⟩ : State.Adds [.cells] [] s s1 ∧ _ := writeStatuses_hold (fun _ => some 0) code 0 0 ts s
  clear_value s1
  have h2 := adds_with_hwk s1 { s1.hwk with waiting := s1.hwk.waiting.filter fun u => u != head }
  obtain ⟨h3, ⟨tags, hhwk⟩, htag⟩ := setTags_hold (fun n => n) (fun _ => Tag.free) ts
    { s1 with hwk := { s1.hwk with waiting := s1.hwk.waiting.filter fun u => u != head } }
  refine ⟨(h1.step h2 |>.step h3).within (by decide) (by decide), ?_, fun n hn => ?_⟩
  · refine (congrArg HwkSt.waiting hhwk).trans ?_
    exact congrArg (fun x : HwkSt => x.waiting.filter fun u => u != head) (hwk_of_adds h1 (by decide))
  · obtain ⟨_, -, -, ht⟩ := (htag n).resolve_left fun h => h.1 (by simpa using hn)
    exact ht

theorem endWaitings_hold (code : Nat) (hs : List Nat) (s : State) :
    let t := hs.foldl (fun s head => s.endWaiting head code) s
    State.Adds [.hwk, .cells] [] s t ∧ t.hwk.waiting = s.hwk.waiting.filter (fun u => !hs.contains u) := by
  induction hs generalizing s with
  | nil => exact ⟨adds_refl .., (List.filter_eq_self.mpr fun _ _ => rfl).symm⟩
  | cons head hs ih =>
    intro t
    obtain ⟨h1, hw1, -⟩ := endWaiting_holds s head code
    obtain ⟨h2, hw2⟩ := ih (s.endWaiting head code)
    refine ⟨h1.trans h2, hw2.trans ?_⟩
    rw [hw1, List.filter_filter]
    congr 1
    funext u
    rw [Bool.eq_iff_iff]
    simp [and_comm]

/-- The requests of a kind shed: those that still wait are of other kinds. -/
theorem shedKind_holds (s : State) (k : Nat) :
    let t := s.shedKind k
    State.Adds [.hwk, .cells] [] s t ∧ k ∈ t.hwk.shedKinds ∧
      ∀ n ∈ t.hwk.waiting, n ∈ s.hwk.waiting ∧ (s.tag n).kind ≠ k := by
  unfold State.shedKind
  extract_lets s1 src
  obtain ⟨h1, hw⟩ : State.Adds [.hwk, .cells] [] s s1 ∧ s1.hwk.waiting = _ :=
    endWaitings_hold stShed (s.hwk.waiting.filter fun t => (s.tag t).kind == k) s
  clear_value s1
  have h2 := adds_with_hwk s1 { s1.hwk with shedKinds := k :: s1.hwk.shedKinds.filter fun j => j != k }
  refine ⟨(h1.step h2).within (by decide) (by decide), List.mem_cons_self, fun n hn => ?_⟩
  have hn' : n ∈ s1.hwk.waiting := hn
  rw [hw, List.mem_filter] at hn'
  obtain ⟨hmem, hnot⟩ := hn'
  exact ⟨hmem, by simpa [hmem] using hnot⟩

/-! ### Cancels, freezes and drained engines -/

theorem cancel_notYours {b n : Nat} (h : ¬((s.tag n).used = true ∧ (s.tag n).internal = false ∧ (s.tag n).cell = c ∧
    (s.tag n).inc = (s.cell c).inc)) : s.cancel b c n = s.setSres b resNotyours 0 := by
  unfold State.cancel
  refine if_pos ?_
  simp only [Bool.or_eq_true, Bool.not_eq_true', bne_iff_ne]
  revert h
  cases (s.tag n).used <;> cases (s.tag n).internal <;> simp
  exact fun h => (em _).elim (fun hc => .inr (h hc)) .inl

section
variable {b n : Nat} (hu : (s.tag n).used = true) (hi : (s.tag n).internal = false) (hc : (s.tag n).cell = c)
  (hinc : (s.tag n).inc = (s.cell c).inc)
include hu hi hc hinc

theorem cancel_mine :
    s.cancel b c n = if (s.tag n).engine.isNone && s.hwk.waiting.contains (s.tag n).head then
      (s.endWaiting (s.tag n).head stCancelled).setSres b resCancelled n else s.setSres b resRunning 0 := by
  unfold State.cancel
  exact if_neg (by simp [hu, hi, hc, hinc])

theorem cancel_running (h : (s.tag n).engine ≠ none ∨ s.hwk.waiting.contains (s.tag n).head = false) :
    s.cancel b c n = s.setSres b resRunning 0 := by
  rw [cancel_mine hu hi hc hinc]
  refine if_neg fun hand => ?_
  rw [Bool.and_eq_true, Option.isNone_iff_eq_none] at hand
  rcases h with h | h
  · exact h hand.1
  · exact Bool.false_ne_true (h.symm.trans hand.2)

theorem cancel_waiting_holds (he : (s.tag n).engine = none) (hw : s.hwk.waiting.contains (s.tag n).head = true) :
    let t := s.cancel b c n
    State.Only [.hwk, .cells, .act] s t ∧ State.OnlyRegs [bk b Reg.HWK_SRES] s t ∧ t.reg (bk b Reg.HWK_SRES) = w32 (0x60000 + n) ∧
      (s.tag n).head ∉ t.hwk.waiting ∧ (t.tag n).used = false := by
  rw [cancel_mine hu hi hc hinc, if_pos (by rw [he, hw]; rfl)]
  obtain ⟨h1, hwait, hfree⟩ := endWaiting_holds s (s.tag n).head stCancelled
  have hn := hfree n (mem_sequence hu hi he)
  generalize s.endWaiting (s.tag n).head stCancelled = y at h1 hwait hn ⊢
  have h2 : State.Adds [.act] [bk b Reg.HWK_SRES] y (y.setSres b resCancelled n) := adds_setReg ..
  have h3 : State.Adds [.hwk, .cells, .act] [bk b Reg.HWK_SRES] s (y.setSres b resCancelled n) :=
    (h1.step h2).within (by decide) (List.Subset.refl _)
  refine ⟨h3.1, h3.2.1, reg_setReg_same .., ?_, ?_⟩
  · rw [hwk_of_adds h2 (by decide), hwait]
    simp
  · rw [tag_of_adds h2 (by decide), hn]
    rfl
end

/-- DRAINED bits cleared change HWK_FSTAT alone. -/
theorem undrain_holds (s : State) : State.Adds [.act] [Reg.HWK_FSTAT] s s.undrain :=
  adds_foldl (fun s e _ => by
    split
    · exact adds_refl ..
    · exact adds_setReg ..) s

theorem writeFreeze_holds (h : s.reg Reg.HWK_FRZ ≠ v &&& 0x7FF) :
    let t := s.writeFreeze v
    State.Only [.act, .recd] s t ∧ State.OnlyRegs [Reg.HWK_FRZ, Reg.HWK_FSTAT] s t ∧ t.reg Reg.HWK_FRZ = v &&& 0x7FF ∧
      State.Logs [s.event Ev.ENGINE_FREEZE 0 [s.reg Reg.HWK_FRZ, v &&& 0x7FF]] s t := by
  rw [show s.writeFreeze v = _ from if_neg h]
  have h1 := adds_setReg s Reg.HWK_FRZ (v &&& 0x7FF)
  have h2 := undrain_holds (s.setReg Reg.HWK_FRZ (v &&& 0x7FF))
  have hreg : (s.setReg Reg.HWK_FRZ (v &&& 0x7FF)).undrain.reg Reg.HWK_FRZ = v &&& 0x7FF :=
    (h2.2.1 _ (by decide)).trans (reg_setReg_same ..)
  have h3 : State.Adds [.act] [Reg.HWK_FRZ, Reg.HWK_FSTAT] s (s.setReg Reg.HWK_FRZ (v &&& 0x7FF)).undrain :=
    (h1.step h2).within (by decide) (List.Subset.refl _)
  generalize (s.setReg Reg.HWK_FRZ (v &&& 0x7FF)).undrain = u at h3 hreg ⊢
  have h4 : State.Adds [.act, .recd] [Reg.HWK_FRZ, Reg.HWK_FSTAT] s (u.emit Ev.ENGINE_FREEZE 0 [s.reg Reg.HWK_FRZ, v &&& 0x7FF]) :=
    (h3.step (adds_emit ..)).within (by decide) (by decide)
  exact ⟨h4.1, h4.2.1, hreg, logs_emit (dtb_of_adds h3 (by decide)) (h3.1 .recd (by decide)) _ _ _⟩

theorem engineDrained_iff (s : State) (e : Nat) :
    s.engineDrained e = true ↔ s.engineFrozen e = true ∧ (s.engine e).running = none ∧ (s.engine e).rest = [] := by
  simp [State.engineDrained, and_assoc]

theorem exec_engineDrained {e : Nat} (h : s.engineDrained e = true) :
    exec (.engineDrained e) s = .next (if e = 8 then (s.setRegB Reg.HWK_FSTAT e true).shedDrained else s.setRegB Reg.HWK_FSTAT e true) :=
  if_neg (by rw [h]; exact Bool.false_ne_true)

theorem shedDrained_idle (h : s.shed 3 = false) : s.shedDrained = s := by
  unfold State.shedDrained
  exact if_neg (by simp [h])

/-- The column-model engine drained under T3 sheds the requests of its kind. -/
theorem shedDrained_sheds (h3 : s.shed 3 = true) (hf : s.regB Reg.HWK_FSTAT 24 = true) (hd : s.engineDrained 8 = true)
    (hk : s.hwk.shedKinds.contains 1 = false) : (s.setRegB Reg.HWK_FSTAT 8 true).shedDrained =
      (s.setRegB Reg.HWK_FSTAT 8 true).shedKind 1 := by
  have h1 := adds_setReg s Reg.HWK_FSTAT (setBit (s.reg Reg.HWK_FSTAT) 8 true)
  have hbit : (s.setRegB Reg.HWK_FSTAT 8 true).regB Reg.HWK_FSTAT 24 = true := by
    rw [State.regB, reg_setRegB_same, bitAt_setBit_ne _ _ _ _ (by decide) (by decide)]
    exact hf
  have hdrain : (s.setRegB Reg.HWK_FSTAT 8 true).engineDrained 8 = true := by
    obtain ⟨-, hrun, hrest⟩ := (engineDrained_iff s 8).mp hd
    refine (engineDrained_iff _ 8).mpr ⟨?_, hrun, hrest⟩
    rw [State.engineFrozen, Bool.or_eq_true]
    exact .inr hbit
  refine if_pos ?_
  rw [hbit, hdrain, show (s.setRegB Reg.HWK_FSTAT 8 true).shed 3 = true from h3,
    show (s.setRegB Reg.HWK_FSTAT 8 true).hwk = s.hwk from hwk_of_adds h1 (by decide), hk]
  rfl
end

/-- Settles O27: each command is one call of the arbiter on the state that its reads leave. -/
theorem requestsAreAcceptedOrRefused : Obligations.RequestsAreAcceptedOrRefused := by
  unfold Obligations.RequestsAreAcceptedOrRefused
  intro s w v c sres addr r answers
  have hsub (hg : s.granted w Reg.HWK_SUBMIT = true) : exec (.hwkSubmit w ⟨v, []⟩) s = .next (s.writeSubmit w v) :=
    hwkSubmit_granted hg []
  refine ⟨fun hg hc => (hsub hg).trans (congrArg Host.Outcome.next (submit_reset hc)), fun hg hc ha hn => ?_,
    fun hg hc hn => ⟨fun hle => ?_, fun hf => ⟨_, hsub hg, submit_full_holds hc hn hf⟩⟩, fun es hg => ?_,
    fun hg hc ha n hn hlow => ⟨_, hsub hg, submit_accepted_holds hc ha hn hlow⟩, ?_, fun hg hc => ?_, fun hg hc hv => ?_, fun e => ?_⟩
  · exact ⟨_, (hsub hg).trans (congrArg Host.Outcome.next (submit_refused hc ha (.inl hn))), setSres_holds ..⟩
  · have hr := submit_refused (b := whoBank w) hc (by rw [hn]; decide) (.inr hle)
    rw [hn] at hr
    exact ⟨_, (hsub hg).trans (congrArg Host.Outcome.next hr), setSres_holds ..⟩
  · obtain ⟨ha, hbad⟩ := descEcc_holds s c v es
    exact ⟨s.descEcc c v es, ha.1, hwkSubmit_ecc hg es, hbad⟩
  · -- HWK_CANCEL.
    intro n x mine hg
    have hn : fld v 15 0 = n := by simp [fld, n]
    have hcan : exec (.hwkCancel w v) s = .next (s.cancel (whoBank w) c n) := by
      rw [hwkCancel_granted hg, State.writeCancel, hn]
    refine ⟨fun hno => ?_, fun ⟨hu, hi, hc, hinc⟩ hrun => ?_, fun ⟨hu, hi, hc, hinc⟩ he hw => ?_⟩
    · exact ⟨_, hcan.trans (congrArg Host.Outcome.next (cancel_notYours hno)), setSres_holds ..⟩
    · exact ⟨_, hcan.trans (congrArg Host.Outcome.next (cancel_running hu hi hc hinc hrun)), setSres_holds ..⟩
    · exact ⟨_, hcan, cancel_waiting_holds hu hi hc hinc he hw⟩
  · exact (hwkFreezeWrite_granted hg).trans (congrArg Host.Outcome.next (if_neg hc))
  · exact ⟨_, (hwkFreezeWrite_granted hg).trans (congrArg Host.Outcome.next (if_pos hc)), writeFreeze_holds hv⟩
  · -- Engines drained and out of reset.
    intro y
    refine ⟨fun hf hrun hrest h8 => ?_, fun hf hrun hrest h3 h24 hk => ?_, fun hr => ?_⟩
    · rw [exec_engineDrained ((engineDrained_iff s e).mpr ⟨hf, hrun, hrest⟩)]
      split
      · next he => exact congrArg Host.Outcome.next (shedDrained_idle (s := s.setRegB Reg.HWK_FSTAT e true) (h8 he))
      · rfl
    · have hd := (engineDrained_iff s 8).mpr ⟨hf, hrun, hrest⟩
      have h1 : State.Adds [.act] [Reg.HWK_FSTAT] s (s.setRegB Reg.HWK_FSTAT 8 true) := adds_setReg ..
      obtain ⟨h2, hin, hwait⟩ := shedKind_holds (s.setRegB Reg.HWK_FSTAT 8 true) 1
      have h4 : State.Adds [.act, .hwk, .cells] [Reg.HWK_FSTAT] s _ := (h1.step h2).within (by decide) (by decide)
      refine ⟨_, (exec_engineDrained hd).trans (congrArg Host.Outcome.next ((if_pos rfl).trans (shedDrained_sheds h3 h24 hd hk))),
        h4.1, h4.2.1, hin, hwait⟩
    · exact if_neg (by simpa using hr)

end Sys2Proof.Machine
end

section
/-! SUPPORT. Instructions that compute on registers: the result in gd, the flags, the frame (R59, R61, R73 to R77). -/
namespace Sys2Proof.Machine

/-! ### Flags of an integer result -/

theorem FlagsAre.congr {old new : Word} {f g : Nat → Option Bool} (h : FlagsAre old new f) (hfg : ∀ k, f k = g k) :
    FlagsAre old new g := fun i hi => hfg i ▸ h i hi

/-- FLG after an integer result: Z and N follow from it (R74). -/
def flgZN (flg v : Word) : Word := setBit (setBit flg 0 (v == 0)) 1 (bitAt v 31)

theorem flags_flgZN (flg v : Word) : FlagsAre flg (flgZN flg v)
    fun k => if k = 0 then some (decide (v = 0)) else if k = 1 then some v.msb else none := by
  refine (flags_setBit flg _ 1 (bitAt v 31) _ (by decide)
    (flags_setBit flg flg 0 (v == 0) _ (by decide) (flags_refl flg))).congr fun k => ?_
  rw [bitAt_msb, beq_eq_decide]
  by_cases h0 : k = 0
  · simp [h0]
  · simp [h0]

theorem wg_flg (L : Loop) (d : Reg) (v : Word) : (L.wg d v).flg = L.flg := by
  rw [wg_frame]

theorem intRes_eq (L : Loop) (d : Reg) (v : Word) : L.intRes d v = { L.wg d v with flg := flgZN L.flg v } := by
  rw [← wg_flg L d v]
  rfl

theorem addOverflow_eq (x y : Word) : addOverflow x y = decide (x.toInt + y.toInt ≠ (x + y).toInt) := by
  rw [addOverflow, bne, beq_eq_decide, ← decide_not]

theorem subOverflow_eq (x y : Word) : subOverflow x y = decide (x.toInt - y.toInt ≠ (x - y).toInt) := by
  rw [subOverflow, bne, beq_eq_decide, ← decide_not]

theorem addRes_eq (L : Loop) (d : Reg) (x y : Word) : L.addRes d x y = { L.wg d (x + y) with
    flg := setBit (setBit (flgZN L.flg (x + y)) 2 (decide (0x100000000 ≤ x.toNat + y.toNat))) 3
      (decide (x.toInt + y.toInt ≠ (x + y).toInt)) } := by
  rw [Loop.addRes, intRes_eq, addOverflow_eq]
  rfl

theorem subRes_eq (L : Loop) (d : Reg) (x y : Word) : L.subRes d x y = { L.wg d (x - y) with
    flg := setBit (setBit (flgZN L.flg (x - y)) 2 (decide (y.toNat ≤ x.toNat))) 3 (decide (x.toInt - y.toInt ≠ (x - y).toInt)) } := by
  rw [Loop.subRes, intRes_eq, subOverflow_eq]
  rfl

theorem divRes_eq (L : Loop) (d : Reg) (r : Word × Bool) :
    L.divRes d r = { L.wg d r.1 with flg := setBit (flgZN L.flg r.1) 3 r.2 } := by
  rw [Loop.divRes, intRes_eq]
  rfl

/-! ### Retirement -/

/-- Instruction `i` retires with `v` in gd after `n` cycles, FLG as `f` says. -/
def State.Computes (s : State) (l : Nat) (d : Reg) (i : Instr) (v : Word) (n : Nat) (f : Nat → Option Bool) : Prop :=
  ∃ t, exec i s = .next t ∧ State.Retired l d v (t.loop l).flg n s t ∧ FlagsAre (s.loop l).flg (t.loop l).flg f

section
variable {s : State} {l n : Nat} {d : Reg} {i : Instr} {word v : Word} (h : s.Ready l)
include h

theorem computes_of_eq {f : Loop → Loop} {flg : Word} {g : Nat → Option Bool} (hi : exec i s = .next (s.compute l word n f))
    (hf : f (s.loop l) = { (s.loop l).wg d v with flg := flg }) (hg : FlagsAre (s.loop l).flg flg g) :
    s.Computes l d i v n g := by
  obtain ⟨hr, hflg⟩ := retired_compute h word n f d v flg hf
  exact ⟨_, hi, by rwa [hflg], by rwa [hflg]⟩

/-- An instruction whose integer result is `v`. -/
theorem computes_int {val : Loop → Word} (hi : exec i s = .next (s.compute l word n fun L => L.intRes d (val L)))
    (hv : val (s.loop l) = v) : s.Computes l d i v n
      fun k => if k = 0 then some (decide (v = 0)) else if k = 1 then some v.msb else none := by
  subst hv
  exact computes_of_eq h hi (intRes_eq ..) (flags_flgZN _ _)

/-- An instruction with carry and overflow. -/
theorem computes_carry {f : Loop → Loop} {c o : Bool} (hi : exec i s = .next (s.compute l word n f))
    (hf : f (s.loop l) = { (s.loop l).wg d v with flg := setBit (setBit (flgZN (s.loop l).flg v) 2 c) 3 o }) :
    s.Computes l d i v n fun k => if k = 0 then some (decide (v = 0)) else if k = 1 then some v.msb
        else if k = 2 then some c else if k = 3 then some o else none := by
  refine computes_of_eq h hi hf ((flags_setBit _ _ 3 o _ (by decide)
    (flags_setBit _ _ 2 c _ (by decide) (flags_flgZN _ _))).congr fun k => ?_)
  rcases k with _ | _ | _ | _ | k <;> simp

/-- A division: result and V (R74). -/
theorem computes_div {val : Loop → Word × Bool} {o : Bool}
    (hi : exec i s = .next (s.compute l word n fun L => L.divRes d (val L))) (hv : val (s.loop l) = (v, o)) :
    s.Computes l d i v n fun k => if k = 0 then some (decide (v = 0)) else if k = 1 then some v.msb
        else if k = 3 then some o else none := by
  refine computes_of_eq h hi (flg := setBit (flgZN (s.loop l).flg v) 3 o) ?_
    ((flags_setBit _ _ 3 o _ (by decide) (flags_flgZN _ _)).congr fun k => ?_)
  · dsimp only
    rw [hv, divRes_eq]
  · rcases k with _ | _ | _ | _ | k <;> simp
end

/-! ### Results (R73, R74) -/

theorem slt_ite {α : Sort*} (x y : Word) (p q : α) : (if x.slt y then p else q) = if x.toInt < y.toInt then p else q := by
  simp [BitVec.slt]

theorem ult_ite {α : Sort*} (x y : Word) (p q : α) : (if x.ult y then p else q) = if x.toNat < y.toNat then p else q := by
  simp [BitVec.ult]

theorem toInt_sxImm (imm : BitVec 15) : (sxImm imm).toInt = imm.toInt := BitVec.toInt_signExtend_of_le (by decide)

theorem mul_eq_ofNat (x y : Word) : x * y = BitVec.ofNat 32 (x.toNat * y.toNat) := BitVec.mul_def

theorem zxImm_eq (imm : BitVec 15) : zxImm imm = BitVec.ofNat 32 imm.toNat := by
  apply BitVec.eq_of_toNat_eq
  simp [zxImm]

theorem lui_eq (up : BitVec 20) : up.setWidth 32 <<< 12 = BitVec.ofNat 32 (up.toNat * 4096) := by
  apply BitVec.eq_of_toNat_eq
  simp [Nat.shiftLeft_eq]

theorem divOverflow_iff (x y : Word) : divOverflow x y = true ↔ x = 0x80000000 ∧ y = 0xFFFFFFFF := by
  simp [divOverflow]

/-- Settles O1: each instruction is a computation on the loop's registers; of a division, the three cases of R74. -/
theorem integerResults : Obligations.IntegerResults := by
  unfold Obligations.IntegerResults
  refine ⟨fun s l d a b h => ?_, fun s l d a imm n up h => ?_, fun s l d a b h => ?_⟩
  · exact ⟨computes_carry h rfl (addRes_eq ..), computes_carry h rfl (subRes_eq ..), computes_int h rfl rfl, computes_int h rfl rfl,
      computes_int h rfl rfl, computes_int h rfl rfl, computes_int h rfl rfl, computes_int h rfl rfl,
      computes_int h rfl (slt_ite ..), computes_int h rfl (ult_ite ..), computes_int h rfl (mul_eq_ofNat ..),
      computes_int h rfl rfl, computes_int h rfl rfl, computes_int h rfl (slt_ite ..), computes_int h rfl (slt_ite ..)⟩
  · refine ⟨?_, computes_int h rfl ?_, computes_int h rfl ?_, computes_int h rfl ?_, computes_int h rfl ?_, computes_int h rfl rfl,
      computes_int h rfl rfl, computes_int h rfl rfl, computes_int h rfl (lui_eq up)⟩
    · have hadd := computes_carry h (i := .addi l d a imm) rfl (addRes_eq (s.loop l) d ((s.loop l).rg a) (sxImm imm))
      rw [toInt_sxImm] at hadd
      exact hadd
    · rw [zxImm_eq]
    · rw [zxImm_eq]
    · rw [zxImm_eq]
    · rw [slt_ite, toInt_sxImm]
  · intro x y res ovf
    have hdiv (v : Word) (o : Bool) (hv : divS x y = (v, o)) : res (.div l d a b) v o := computes_div h rfl hv
    have hdivu (v : Word) (o : Bool) (hv : divU x y = (v, o)) : res (.divu l d a b) v o := computes_div h rfl hv
    have hrem (v : Word) (o : Bool) (hv : remS x y = (v, o)) : res (.rem l d a b) v o := computes_div h rfl hv
    have hremu (v : Word) (o : Bool) (hv : remU x y = (v, o)) : res (.remu l d a b) v o := computes_div h rfl hv
    refine ⟨fun hy => ⟨hdiv _ _ (if_pos hy), hdivu _ _ (if_pos hy), hrem _ _ (if_pos hy), hremu _ _ (if_pos hy)⟩, fun hov => ?_,
      fun hy hov => ?_, fun hy => ⟨hdivu _ _ (if_neg hy), hremu _ _ (if_neg hy)⟩⟩
    · have hy : y ≠ 0 := by
        rw [hov.2]
        decide
      have ho := (divOverflow_iff x y).2 hov
      exact ⟨hdiv _ _ ((if_neg hy).trans (if_pos ho)), hrem _ _ ((if_neg hy).trans (if_pos ho))⟩
    · have ho : ¬ divOverflow x y = true := fun ho => hov ((divOverflow_iff x y).1 ho)
      exact ⟨hdiv _ _ ((if_neg hy).trans (if_neg ho)), hrem _ _ ((if_neg hy).trans (if_neg ho))⟩

/-! ### FP32 results (R61, R75, R76) -/

theorem fpRes_eq (L : Loop) (d : Reg) (m : FpM Word) :
    L.fpRes d m = { L.wg d (fpRun m).1 with flg := L.flg ||| BitVec.ofNat 32 (fpRun m).2 } := by
  rw [← wg_flg L d (fpRun m).1]
  rfl

/-- Settles O2: the result of the operation in gd and its sticky flags added to FLG; FABS and FNEG are bit operations. -/
theorem fpResults : Obligations.FpResults := by
  unfold Obligations.FpResults
  intro s l d a b h x y res plain
  have hres {i : Instr} {word : Word} {n : Nat} {m : FpM Word} {f : Loop → FpM Word}
      (hi : exec i s = .next (s.compute l word n fun L => L.fpRes d (f L))) (hm : f (s.loop l) = m) : res i m n := by
    subst hm
    exact ⟨_, hi, (retired_compute h _ _ _ d _ _ (fpRes_eq (s.loop l) d (f (s.loop l)))).1⟩
  have hplain {i : Instr} {word v : Word} {f : Loop → Word}
      (hi : exec i s = .next (s.compute l word 1 fun L => L.wg d (f L))) (hv : f (s.loop l) = v) : plain i v := by
    subst hv
    refine ⟨_, hi, (retired_compute h _ _ _ d _ _ ?_).1⟩
    dsimp only
    rw [wg_frame]
  exact ⟨hres rfl rfl, hres rfl rfl, hres rfl rfl, hres rfl rfl, hres rfl rfl, hres rfl rfl, hres rfl rfl, hres rfl rfl,
    hres rfl rfl, hres rfl rfl, hplain rfl rfl, hplain rfl rfl⟩

end Sys2Proof.Machine
end

section
/-! SUPPORT. FP32: words and their fields, rounding to 24 bits, and what is delivered (R75). -/
namespace Sys2Proof.Machine

/-! ### Words and their fields -/

theorem toNat_fpPack {neg : Bool} {ex fr : Nat} (hex : ex < 256) (hfr : fr < 0x800000) :
    (fpPack neg ex fr).toNat = neg.toNat * 0x80000000 + ex * 0x800000 + fr := by
  have := Bool.toNat_le neg
  exact toNat_w32 (by omega)

section
variable {neg : Bool} {ex fr : Nat} (hex : ex < 256) (hfr : fr < 0x800000)
include hex hfr

theorem fpPack_exponent : fld (fpPack neg ex fr) 30 23 = ex := by
  rw [fld, toNat_fpPack hex hfr]
  norm_num
  omega

theorem fpPack_fraction : fld (fpPack neg ex fr) 22 0 = fr := by
  rw [fld, toNat_fpPack hex hfr]
  norm_num
  omega

theorem fpPack_magnitude : fld (fpPack neg ex fr) 30 0 = ex * 0x800000 + fr := by
  rw [fld, toNat_fpPack hex hfr]
  norm_num
  omega

theorem fpPack_sign : bitAt (fpPack neg ex fr) 31 = neg := by
  rw [bitAt, toNat_fpPack hex hfr]
  cases neg <;> norm_num <;> omega
end

/-! ### Rounding to 24 bits -/

theorem log2_bounds {m : Nat} (hm : 0 < m) : 2 ^ m.log2 ≤ m ∧ m < 2 ^ (m.log2 + 1) :=
  ⟨Nat.log2_self_le hm.ne', Nat.lt_log2_self⟩

/-- A magnitude of at most 24 bits is shifted to 24 bits. -/
theorem fpRound24_small {m : Nat} (hm : 0 < m) (h24 : m < 2 ^ 24) (e : Int) (st : Bool) :
    ∃ j : Nat, fpRound24 m e st = (m * 2 ^ j, e - j, st) ∧ 2 ^ 23 ≤ m * 2 ^ j ∧ m * 2 ^ j < 2 ^ 24 := by
  obtain ⟨hlo, hhi⟩ := log2_bounds hm
  have hb : m.log2 < 24 := (Nat.pow_lt_pow_iff_right (by decide)).1 (hlo.trans_lt h24)
  refine ⟨24 - (m.log2 + 1), if_pos (by omega), ?_, ?_⟩
  · calc 2 ^ 23 = 2 ^ m.log2 * 2 ^ (24 - (m.log2 + 1)) := by rw [← pow_add]; congr 1; omega
      _ ≤ _ := Nat.mul_le_mul_right _ hlo
  · calc m * 2 ^ (24 - (m.log2 + 1)) < 2 ^ (m.log2 + 1) * 2 ^ (24 - (m.log2 + 1)) :=
          Nat.mul_lt_mul_of_pos_right hhi (Nat.two_pow_pos _)
      _ = 2 ^ 24 := by rw [← pow_add]; congr 1; omega

/-- `q` times 2^j is `x` rounded to nearest, ties to even; below 2^23 the steps are half as wide. -/
structure Rounded (x : ℝ) (q j : Nat) (inexact : Bool) : Prop where
  low : 2 ^ 23 ≤ q
  high : q < 2 ^ 24
  near : 2 * |x - q * 2 ^ j| ≤ 2 ^ j
  tie : 2 * |x - q * 2 ^ j| = 2 ^ j → q % 2 = 0
  least : q = 2 ^ 23 → 4 * (q * 2 ^ j - x) ≤ 2 ^ j
  inexact_iff : inexact = true ↔ (q * 2 ^ j : ℝ) ≠ x

/-- Whether the quotient goes up: more than half is left, or half and either more below or an odd quotient. -/
def roundsUp (half q r : Nat) (st : Bool) : Bool := decide (half < r) || (r == half && (st || q % 2 == 1))

section
variable {x : ℝ} {m h q r : Nat} {st : Bool} (hm : m = q * (2 * h) + r) (hr : r < 2 * h) (hx : m ≤ x) (hx' : x < m + 1)
  (hst : st = true ↔ x ≠ m)
include hm hr hx hx' hst

/-- Where the next quotient is taken, `x` lies below it by at most half a step, and by less where that quotient is odd. -/
theorem roundsUp_next (hup : roundsUp h q r st = true) :
    0 < ((q + 1 : Nat) : ℝ) * (2 * h) - x ∧ ((q + 1 : Nat) : ℝ) * (2 * h) - x ≤ h ∧
      (((q + 1 : Nat) : ℝ) * (2 * h) - x = h → (q + 1) % 2 = 0) ∧ r ≠ 0 := by
  have hmr : (m : ℝ) = q * (2 * h) + r := by exact_mod_cast hm
  have hrr : (r : ℝ) + 1 ≤ 2 * h := by exact_mod_cast hr
  have hle : h ≤ r := by
    simp only [roundsUp, Bool.or_eq_true, decide_eq_true_eq, Bool.and_eq_true, beq_iff_eq] at hup
    omega
  have hler : (h : ℝ) ≤ r := by exact_mod_cast hle
  push_cast
  refine ⟨by linarith, by linarith, fun he => ?_, by omega⟩
  have hxm : x = m := by linarith
  have hrh : r = h := by exact_mod_cast (by linarith : (r : ℝ) = h)
  have hst' : st = false := by simpa [hxm] using hst
  simp [roundsUp, hrh, hst'] at hup
  omega

/-- Where the quotient stays, `x` lies at or above it by at most half a step, and by less where it is odd. -/
theorem roundsUp_stay (hup : roundsUp h q r st = false) :
    0 ≤ x - (q : ℝ) * (2 * h) ∧ x - (q : ℝ) * (2 * h) ≤ h ∧ (x - (q : ℝ) * (2 * h) = h → q % 2 = 0) ∧
      ((r != 0 || st) = true ↔ (q : ℝ) * (2 * h) ≠ x) := by
  have hmr : (m : ℝ) = q * (2 * h) + r := by exact_mod_cast hm
  have hr0 : (0 : ℝ) ≤ r := r.cast_nonneg
  simp only [roundsUp, Bool.or_eq_false_iff, decide_eq_false_iff_not, not_lt, Bool.and_eq_false_iff, beq_eq_false_iff_ne] at hup
  obtain ⟨hle, hne⟩ := hup
  have hexact : (r != 0 || st) = true ↔ (q : ℝ) * (2 * h) ≠ x := by
    rw [Bool.or_eq_true, bne_iff_ne, hst, ← not_iff_not]
    simp only [not_or, not_not]
    constructor
    · rintro ⟨rfl, rfl⟩
      simpa using hmr.symm
    · intro he
      have h0 : (r : ℝ) = 0 := by linarith
      exact ⟨by exact_mod_cast h0, by linarith⟩
  rcases lt_or_eq_of_le hle with hlt | rfl
  · have hltr : (r : ℝ) + 1 ≤ h := by exact_mod_cast hlt
    exact ⟨by linarith, by linarith, fun he => by linarith, hexact⟩
  · obtain ⟨hs, hq⟩ : st = false ∧ q % 2 ≠ 1 := by simpa using hne
    have hxm : x = m := by simpa [hs] using hst
    exact ⟨by linarith, by linarith, fun _ => by omega, hexact⟩
end

/-- A magnitude of 25 bits or more, and what lies below its last bit, is rounded. -/
theorem fpRound24_large {x : ℝ} {m : Nat} (h24 : 2 ^ 24 ≤ m) (e : Int) {st : Bool} (hx : m ≤ x) (hx' : x < m + 1)
    (hst : st = true ↔ x ≠ m) :
    ∃ j : Nat, 0 < j ∧ (fpRound24 m e st).2.1 = e + j ∧ Rounded x (fpRound24 m e st).1 j (fpRound24 m e st).2.2 := by
  have hm0 : 0 < m := by omega
  obtain ⟨hlo, hhi⟩ := log2_bounds hm0
  have hb : 24 ≤ m.log2 := by
    by_contra hlt
    have := hhi.trans_le (Nat.pow_le_pow_right (by decide : 0 < 2) (by omega : m.log2 + 1 ≤ 24))
    omega
  obtain ⟨k, hk⟩ : ∃ k, m.log2 + 1 - 24 = k + 1 := ⟨m.log2 - 24, by omega⟩
  have hpow : (2 : Nat) ^ (k + 1) = 2 * 2 ^ k := by rw [pow_succ, mul_comm]
  have hdm : m = m / 2 ^ (k + 1) * (2 * 2 ^ k) + m % 2 ^ (k + 1) := by
    rw [← hpow]
    exact (Nat.div_add_mod' m _).symm
  have hmod : m % 2 ^ (k + 1) < 2 * 2 ^ k := hpow ▸ Nat.mod_lt _ (Nat.two_pow_pos _)
  have hqlo : 2 ^ 23 ≤ m / 2 ^ (k + 1) := by
    rw [Nat.le_div_iff_mul_le (Nat.two_pow_pos _), ← pow_add]
    exact (Nat.pow_le_pow_right (by decide) (by omega)).trans hlo
  have hqhi : m / 2 ^ (k + 1) < 2 ^ 24 := by
    rw [Nat.div_lt_iff_lt_mul (Nat.two_pow_pos _), ← pow_add]
    exact hhi.trans_le (Nat.pow_le_pow_right (by decide) (by omega))
  have hr : fpRound24 m e st =
      let up := roundsUp (2 ^ k) (m / 2 ^ (k + 1)) (m % 2 ^ (k + 1)) st
      let q' := if up then m / 2 ^ (k + 1) + 1 else m / 2 ^ (k + 1)
      let inexact := m % 2 ^ (k + 1) != 0 || st
      if q' = 0x1000000 then (0x800000, e + ((k + 1 : Nat) : Int) + 1, inexact) else (q', e + ((k + 1 : Nat) : Int), inexact) := by
    rw [fpRound24]
    simp only [if_neg (show ¬ m.log2 + 1 ≤ 24 by omega), hk, Nat.add_sub_cancel]
    rfl
  rw [hr]
  generalize hq : m / 2 ^ (k + 1) = q at *
  generalize hrem : m % 2 ^ (k + 1) = r at *
  have hK : ((2 ^ k : Nat) : ℝ) = 2 ^ k := by push_cast; rfl
  have hKpos : (0 : ℝ) < 2 ^ k := by positivity
  cases hup : roundsUp (2 ^ k) q r st with
  | false =>
    obtain ⟨h1, h2, h3, h4⟩ := roundsUp_stay hdm hmod hx hx' hst hup
    rw [hK] at h1 h2 h3 h4
    have hp : (2 : ℝ) ^ (k + 1) = 2 * 2 ^ k := by rw [pow_succ, mul_comm]
    simp only [Bool.false_eq_true, if_false, if_neg (show ¬ q = 0x1000000 by omega)]
    refine ⟨k + 1, by omega, rfl, hqlo, hqhi, ?_, ?_, ?_, ?_⟩
    · rw [hp, abs_of_nonneg h1]
      linarith
    · rw [hp, abs_of_nonneg h1]
      exact fun he => h3 (by linarith)
    · intro _
      rw [hp]
      linarith
    · rw [hp]
      exact h4
  | true =>
    obtain ⟨h1, h2, h3, h4⟩ := roundsUp_next hdm hmod hx hx' hst hup
    rw [hK] at h1 h2 h3
    have hp : (2 : ℝ) ^ (k + 1) = 2 * 2 ^ k := by rw [pow_succ, mul_comm]
    have hin : (r != 0 || st) = true := by simp [h4]
    simp only [if_true, hin]
    split_ifs with hcarry
    · -- the next quotient is 2^24: the exponent goes up
      rw [hcarry] at h1 h2
      norm_num at h1 h2
      have hp2 : (2 : ℝ) ^ (k + 2) = 4 * 2 ^ k := by rw [pow_add]; ring
      have ha : |x - ((0x800000 : Nat) : ℝ) * 2 ^ (k + 2)| = 16777216 * (2 * 2 ^ k) - x := by
        rw [hp2, abs_sub_comm, abs_of_nonneg (by push_cast; linarith)]
        push_cast
        ring
      refine ⟨k + 2, by omega, by push_cast; ring, by norm_num, by norm_num, ?_, fun _ => by norm_num, fun _ => ?_, ?_⟩
      · rw [ha, hp2]
        linarith
      · rw [hp2]
        push_cast
        linarith
      · rw [hp2]
        push_cast
        simp only [true_iff]
        intro he
        linarith
    · refine ⟨k + 1, by omega, rfl, by omega, by omega, ?_, ?_, fun hq' => by omega, ?_⟩
      · rw [hp, abs_sub_comm, abs_of_pos h1]
        linarith
      · rw [hp, abs_sub_comm, abs_of_pos h1]
        exact fun he => h3 (by linarith)
      · rw [hp]
        simp only [true_iff]
        intro he
        linarith

/-! ### What is delivered -/

/-- A word that is a NaN only as the canonical NaN, and no subnormal number. -/
def Canonical (w : Word) : Prop := (fpIsNaN w = true → w = 0x7FC00000) ∧ (fld w 30 23 = 0 → fld w 22 0 = 0)

theorem isNaN_iff (w : Word) : fpIsNaN w = true ↔ fld w 30 23 = 255 ∧ fld w 22 0 ≠ 0 := by
  unfold fpIsNaN fpRead
  dsimp only
  split_ifs <;> simp_all

theorem canonical_nan : Canonical fpNaN := ⟨fun _ => rfl, by decide⟩

theorem canonical_zero (neg : Bool) : Canonical (fpZeroOf neg) := by
  cases neg <;> exact ⟨by decide, by decide⟩

theorem canonical_inf (neg : Bool) : Canonical (fpInfOf neg) := by
  cases neg <;> exact ⟨by decide, by decide⟩

theorem canonical_pack {neg : Bool} {ex fr : Nat} (h0 : 0 < ex) (hex : ex < 255) (hfr : fr < 0x800000) :
    Canonical (fpPack neg ex fr) := by
  refine ⟨fun h => ?_, fun h => ?_⟩
  · rw [isNaN_iff, fpPack_exponent (by omega) hfr] at h
    omega
  · rw [fpPack_exponent (by omega) hfr] at h
    omega

theorem fpRound24_lt (m : Nat) (e : Int) (st : Bool) : (fpRound24 m e st).1 < 2 ^ 24 := by
  rcases Nat.eq_zero_or_pos m with rfl | hm
  · simp [fpRound24]
  rcases lt_or_ge m (2 ^ 24) with h24 | h24
  · obtain ⟨j, hj, -, hlt⟩ := fpRound24_small hm h24 e st
    rw [hj]
    exact hlt
  · obtain ⟨j, -, -, hr⟩ := fpRound24_large (x := m + if st then 1 / 2 else 0) h24 e (st := st)
      (by split <;> norm_num) (by split <;> norm_num) (by cases st <;> simp)
    exact hr.high

/-- The three ways a magnitude is delivered, with the flags of each. -/
theorem fpRun_deliver (neg : Bool) (m : Nat) (e : Int) (st : Bool) : fpRun (fpDeliver neg m e st) =
    if 255 ≤ (fpRound24 m e st).2.1 + 150 then (fpInfOf neg, 0xA0)
    else if (fpRound24 m e st).2.1 + 150 ≤ 0 then (fpZeroOf neg, 0x60)
    else (fpPack neg ((fpRound24 m e st).2.1 + 150).toNat ((fpRound24 m e st).1 - 0x800000),
      if (fpRound24 m e st).2.2 then 0x20 else 0) := by
  unfold fpDeliver
  obtain ⟨q, e', inexact⟩ := fpRound24 m e st
  dsimp only
  split_ifs <;> rfl

theorem canonical_deliver (neg : Bool) (m : Nat) (e : Int) (st : Bool) : Canonical (fpRun (fpDeliver neg m e st)).1 := by
  have hlt := fpRound24_lt m e st
  rw [fpRun_deliver]
  split
  · exact canonical_inf neg
  · split
    · exact canonical_zero neg
    · exact canonical_pack (by omega) (by omega) (by omega)

theorem fpRun_nanOf (sig : Bool) : fpRun (fpNaNOf sig) = (0x7FC00000, if sig then 0x200 else 0) := by
  cases sig <;> rfl

theorem canonical_nanOf (sig : Bool) : Canonical (fpRun (fpNaNOf sig)).1 := by
  rw [fpRun_nanOf]
  exact canonical_nan

/-- The sum of two signed magnitudes, in units of the smaller exponent. -/
def sumUnits (n1 : Bool) (m1 : Nat) (e1 : Int) (n2 : Bool) (m2 : Nat) (e2 : Int) : Int :=
  (m1 : Int) * 2 ^ (e1 - min e1 e2).toNat * (if n1 then -1 else 1) + (m2 : Int) * 2 ^ (e2 - min e1 e2).toNat * (if n2 then -1 else 1)

theorem fpSum_eq (n1 : Bool) (m1 : Nat) (e1 : Int) (n2 : Bool) (m2 : Nat) (e2 : Int) :
    fpSum n1 m1 e1 n2 m2 e2 = if sumUnits n1 m1 e1 n2 m2 e2 = 0 then pure (fpZeroOf (n1 && n2))
      else fpDeliver (decide (sumUnits n1 m1 e1 n2 m2 e2 < 0)) (sumUnits n1 m1 e1 n2 m2 e2).natAbs (min e1 e2) false := rfl

theorem canonical_add (u w : FpVal) : Canonical (fpRun (fpAddVal u w)).1 := by
  unfold fpAddVal
  split
  · exact canonical_nanOf _
  · exact canonical_nanOf _
  · split
    · exact canonical_inf _
    · exact canonical_nan
  · exact canonical_inf _
  · exact canonical_inf _
  · exact canonical_zero _
  · exact canonical_deliver ..
  · exact canonical_deliver ..
  · rw [fpSum_eq]
    split
    · exact canonical_zero _
    · exact canonical_deliver ..

theorem canonical_mul (u w : FpVal) : Canonical (fpRun (fmul.mulVal u w)).1 := by
  unfold fmul.mulVal
  split
  · exact canonical_nanOf _
  · exact canonical_nanOf _
  · exact canonical_nan
  · exact canonical_nan
  · exact canonical_inf _
  · exact canonical_inf _
  · exact canonical_inf _
  · exact canonical_zero _
  · exact canonical_zero _
  · exact canonical_zero _
  · exact canonical_deliver ..

theorem canonical_div (u w : FpVal) : Canonical (fpRun (fdiv.divVal u w)).1 := by
  unfold fdiv.divVal
  split
  · exact canonical_nanOf _
  · exact canonical_nanOf _
  · exact canonical_nan
  · exact canonical_nan
  · exact canonical_inf _
  · exact canonical_inf _
  · exact canonical_zero _
  · exact canonical_zero _
  · exact canonical_zero _
  · exact canonical_inf _
  · exact canonical_deliver ..

/-- An operation of two operands of which one is a NaN. -/
theorem fpBinary_nan {x y : Word} (op : FpVal → FpVal → FpM Word) (h : (fpIsNaN x || fpIsNaN y) = true) :
    fpRun (fpBinary x y op) = (0x7FC00000, if (fpRead x).isSignalling || (fpRead y).isSignalling then 0x200 else 0) := by
  unfold fpBinary
  rw [← fpRun_nanOf]
  exact congrArg fpRun (if_pos h)

theorem canonical_binary (x y : Word) {op : FpVal → FpVal → FpM Word} (h : ∀ u w, Canonical (fpRun (op u w)).1) :
    Canonical (fpRun (fpBinary x y op)).1 := by
  unfold fpBinary
  dsimp only
  split
  · exact canonical_nanOf _
  · exact h ..

theorem abs_cast_sub_cast (a b : Nat) : |(b : ℝ) - a| = ((a - b + (b - a) : Nat) : ℝ) := by
  rcases le_total a b with h | h
  · rw [Nat.sub_eq_zero_of_le h, zero_add, Nat.cast_sub h, abs_of_nonneg (sub_nonneg.2 (Nat.cast_le.2 h))]
  · rw [Nat.sub_eq_zero_of_le h, add_zero, Nat.cast_sub h, abs_sub_comm, abs_of_nonneg (sub_nonneg.2 (Nat.cast_le.2 h))]

/-- The rounding of a number, in numbers. -/
theorem Rounded.nat {m q j : Nat} {inexact : Bool} (h : Rounded m q j inexact) :
    2 * (q * 2 ^ j - m) ≤ 2 ^ j ∧ 2 * (m - q * 2 ^ j) ≤ 2 ^ j ∧ (inexact = true ↔ q * 2 ^ j ≠ m) ∧
      (2 * (q * 2 ^ j - m) = 2 ^ j ∨ 2 * (m - q * 2 ^ j) = 2 ^ j → q % 2 = 0) := by
  obtain ⟨-, -, hnear, htie, -, hin⟩ := h
  have hcast : (q * 2 ^ j : ℝ) = ((q * 2 ^ j : Nat) : ℝ) := by push_cast; rfl
  have hpow : (2 ^ j : ℝ) = ((2 ^ j : Nat) : ℝ) := by push_cast; rfl
  rw [hcast, abs_cast_sub_cast, hpow] at hnear htie
  rw [hcast] at hin
  norm_cast at hnear htie hin
  exact ⟨by omega, by omega, hin, fun he => htie (by omega)⟩

/-- The rounding of an exact magnitude. -/
theorem fpRound24_exact {m : Nat} (hm : 0 < m) (e : Int) :
    let r := fpRound24 m e false
    2 ^ 23 ≤ r.1 ∧ r.1 < 2 ^ 24 ∧
    (r.2.1 ≤ e → r.1 = m * 2 ^ (e - r.2.1).toNat ∧ r.2.2 = false) ∧
    (e < r.2.1 → let p := 2 ^ (r.2.1 - e).toNat
      2 * (r.1 * p - m) ≤ p ∧ 2 * (m - r.1 * p) ≤ p ∧ (r.2.2 = true ↔ r.1 * p ≠ m) ∧
      (2 * (r.1 * p - m) = p ∨ 2 * (m - r.1 * p) = p → r.1 % 2 = 0)) := by
  intro r
  rcases lt_or_ge m (2 ^ 24) with h24 | h24
  · obtain ⟨j, hj, hlo, hhi⟩ := fpRound24_small hm h24 e false
    have hr : r = _ := hj
    rw [hr]
    refine ⟨hlo, hhi, fun _ => ⟨?_, rfl⟩, fun h => ?_⟩
    · dsimp only
      congr 2
      omega
    · dsimp only at h
      omega
  · obtain ⟨j, hj, he, hq⟩ := fpRound24_large (x := m) h24 e (st := false) le_rfl (by norm_num) (by simp)
    change r.2.1 = e + j at he
    refine ⟨hq.low, hq.high, fun h => by omega, fun _ => ?_⟩
    rw [show (r.2.1 - e).toNat = j by omega]
    exact hq.nat

/-- Settles O4: the rounding, and case by case what each operation delivers. -/
theorem roundingAndNaN : Obligations.RoundingAndNaN := by
  unfold Obligations.RoundingAndNaN
  refine ⟨fun m e hm => fpRound24_exact hm e, fun op hop x y => ?_⟩
  obtain ⟨f, hf, hc⟩ : ∃ f, op = (fpBinary · · f) ∧ ∀ u w, Canonical (fpRun (f u w)).1 := by
    simp only [List.mem_cons, List.not_mem_nil, or_false] at hop
    rcases hop with rfl | rfl | rfl | rfl
    · exact ⟨_, rfl, canonical_add⟩
    · exact ⟨fun u w => fpAddVal u (fsub.neg w), rfl, fun u w => canonical_add ..⟩
    · exact ⟨_, rfl, canonical_mul⟩
    · exact ⟨_, rfl, canonical_div⟩
  subst hf
  obtain ⟨hnan, hsub⟩ := canonical_binary x y hc
  refine ⟨fun h => ?_, hnan, hsub⟩
  rw [fpBinary_nan f h]
  exact ⟨rfl, rfl⟩

end Sys2Proof.Machine
end

section
/-! SUPPORT. FP32 operations deliver the exact result rounded once (R75, R76). -/
namespace Sys2Proof.Machine

/-! ### The values of finite operands -/

/-- The sign of a value. -/
noncomputable def signOf (neg : Bool) : ℝ := if neg then -1 else 1

/-- The value of a finite operand. -/
noncomputable def FpVal.real : FpVal → ℝ
  | .fin n m e => signOf n * m * (2 : ℝ) ^ e
  | _ => 0

/-- An operand that is 0 or finite, with a significand of 24 bits. -/
def FpVal.Finite : FpVal → Prop
  | .zero _ => True
  | .fin _ m _ => 2 ^ 23 ≤ m ∧ m < 2 ^ 24
  | _ => False

/-- The value of a finite word; a subnormal counts as 0. -/
noncomputable def wordReal (w : Word) : ℝ := if fld w 30 23 = 0 then 0
  else (if bitAt w 31 then -1 else 1) * ((2 ^ 23 + fld w 22 0 : ℕ) : ℝ) * (2 : ℝ) ^ ((fld w 30 23 : ℤ) - 150)

theorem fld_fraction_lt (w : Word) : fld w 22 0 < 2 ^ 23 := Nat.mod_lt _ (by decide)

section
variable {w : Word} (h : fld w 30 23 < 255)
include h

theorem fpRead_finite : fpRead w = if fld w 30 23 = 0 then .zero (bitAt w 31)
    else .fin (bitAt w 31) (0x800000 + fld w 22 0) ((fld w 30 23 : Int) - 150) := by
  rw [fpRead]
  exact if_neg h.ne

theorem finite_fpRead : (fpRead w).Finite := by
  rw [fpRead_finite h]
  have := fld_fraction_lt w
  split
  · trivial
  · exact ⟨by omega, by omega⟩

theorem real_fpRead : (fpRead w).real = wordReal w := by
  rw [fpRead_finite h, wordReal]
  split <;> rfl

theorem isNaN_finite : fpIsNaN w = false := by
  rw [Bool.eq_false_iff, ne_eq, isNaN_iff]
  exact fun hn => h.ne hn.1
end

theorem fpBinary_finite {x y : Word} (hx : fld x 30 23 < 255) (hy : fld y 30 23 < 255) (op : FpVal → FpVal → FpM Word) :
    fpBinary x y op = op (fpRead x) (fpRead y) := by
  unfold fpBinary
  exact if_neg (by rw [isNaN_finite hx, isNaN_finite hy]; decide)

/-! ### What is delivered of an exact value -/

/-- `q` times 2^e is a positive `v` rounded to 24 bits; below 2^23 times 2^e the steps are half as wide. -/
def NearTo (v : ℝ) (q : ℕ) (e : ℤ) : Prop := 2 ^ 23 ≤ q ∧ q < 2 ^ 24 ∧ 2 * |v - q * (2 : ℝ) ^ e| ≤ (2 : ℝ) ^ e ∧
  (2 * |v - q * (2 : ℝ) ^ e| = (2 : ℝ) ^ e → q % 2 = 0) ∧ (q = 2 ^ 23 → 4 * (q * (2 : ℝ) ^ e - v) ≤ (2 : ℝ) ^ e)

/-- A word and flags deliver the exact value `v`. -/
def DeliveredAs (v : ℝ) (r : Word × Nat) : Prop :=
  (v = 0 → fld r.1 30 0 = 0 ∧ r.2 = 0) ∧
  (v ≠ 0 → ∃ (q : ℕ) (e : ℤ), NearTo (|v|) q e ∧ (bitAt r.1 31 = true ↔ v < 0) ∧
    (255 ≤ e + 150 → fld r.1 30 0 = 0x7F800000 ∧ r.2 = 0xA0) ∧
    (e + 150 ≤ 0 → fld r.1 30 0 = 0 ∧ r.2 = 0x60) ∧
    (0 < e + 150 → e + 150 < 255 → (fld r.1 30 23 : ℤ) = e + 150 ∧ fld r.1 22 0 + 2 ^ 23 = q ∧
      (q * (2 : ℝ) ^ e = |v| → r.2 = 0) ∧ (q * (2 : ℝ) ^ e ≠ |v| → r.2 = 0x20)))

theorem deliveredAs_zero {v : ℝ} (hv : v = 0) (neg : Bool) : DeliveredAs v (fpZeroOf neg, 0) :=
  ⟨fun _ => ⟨fpPack_magnitude (by decide) (by decide), rfl⟩, fun h => absurd hv h⟩

/-- Scaling by a power of two keeps a rounding. -/
theorem Rounded.scale {x : ℝ} {q j : Nat} {inexact : Bool} (h : Rounded x q j inexact) (e : ℤ) :
    NearTo (x * 2 ^ e) q (e + j) ∧ (inexact = true ↔ q * (2 : ℝ) ^ (e + j) ≠ x * 2 ^ e) := by
  have he : (0 : ℝ) < 2 ^ e := by positivity
  have hp : (2 : ℝ) ^ (e + j) = 2 ^ j * 2 ^ e := by rw [zpow_add₀ two_ne_zero, zpow_natCast, mul_comm]
  have hd : x * 2 ^ e - q * (2 ^ j * 2 ^ e) = (x - q * 2 ^ j) * 2 ^ e := by ring
  have hd' : q * (2 ^ j * 2 ^ e) - x * 2 ^ e = (q * 2 ^ j - x) * 2 ^ e := by ring
  rw [NearTo, hp, hd, hd', abs_mul, abs_of_pos he]
  refine ⟨⟨h.low, h.high, ?_, fun ht => h.tie ?_, fun hq => ?_⟩, ?_⟩
  · rw [← mul_assoc]
    exact mul_le_mul_of_nonneg_right h.near he.le
  · rw [← mul_assoc] at ht
    exact mul_right_cancel₀ he.ne' ht
  · rw [← mul_assoc]
    exact mul_le_mul_of_nonneg_right (h.least hq) he.le
  · rw [h.inexact_iff, ← mul_assoc, ne_eq, ne_eq, mul_left_inj' he.ne']

/-- The rounding of a positive value of which `m` times 2^e is what lies at or above the last bit. -/
theorem nearTo_round {x : ℝ} {m : Nat} (hm : 0 < m) (e : Int) {st : Bool} (hx : m ≤ x) (hx' : x < m + 1)
    (hst : st = true ↔ x ≠ m) (h24 : st = true → 2 ^ 24 ≤ m) :
    let r := fpRound24 m e st
    NearTo (x * 2 ^ e) r.1 r.2.1 ∧ (r.2.2 = true ↔ r.1 * (2 : ℝ) ^ r.2.1 ≠ x * 2 ^ e) := by
  intro r
  rcases lt_or_ge m (2 ^ 24) with hlt | hge
  · obtain ⟨j, hj, hlo, hhi⟩ := fpRound24_small hm hlt e st
    have hr : r = _ := hj
    obtain rfl : st = false := Bool.eq_false_iff.2 fun h => absurd (h24 h) (by omega)
    have hxm : x = m := by simpa using hst
    have hv : ((m * 2 ^ j : Nat) : ℝ) * 2 ^ (e - j) = x * 2 ^ e := by
      rw [hxm, zpow_sub₀ two_ne_zero, zpow_natCast]
      push_cast
      field_simp
    rw [hr]
    dsimp only
    rw [NearTo, hv]
    simp only [sub_self, abs_zero, mul_zero]
    have hpos : (0 : ℝ) < 2 ^ (e - j) := by positivity
    exact ⟨⟨hlo, hhi, hpos.le, fun h0 => absurd h0 hpos.ne, fun _ => hpos.le⟩, by simp⟩
  · obtain ⟨j, -, he, hq⟩ := fpRound24_large hge e hx hx' hst
    change r.2.1 = e + j at he
    rw [he]
    exact hq.scale e

/-- A magnitude delivered: of the value `v`, `m` times 2^e is what lies at or above the last bit. -/
theorem deliveredAs_deliver {v x : ℝ} {neg : Bool} {m : Nat} (hm : 0 < m) {e : Int} {st : Bool} (hv : v = signOf neg * (x * 2 ^ e))
    (hx : m ≤ x) (hx' : x < m + 1) (hst : st = true ↔ x ≠ m) (h24 : st = true → 2 ^ 24 ≤ m) :
    DeliveredAs v (fpRun (fpDeliver neg m e st)) := by
  obtain ⟨hnear, hin⟩ := nearTo_round hm e hx hx' hst h24
  have hm' : (0 : ℝ) < m := Nat.cast_pos.2 hm
  have hpos : 0 < x * 2 ^ e := mul_pos (hm'.trans_le hx) (by positivity)
  have habs : |v| = x * 2 ^ e := by
    rw [hv, abs_mul, abs_of_pos hpos]
    cases neg <;> simp [signOf]
  have hneg : neg = true ↔ v < 0 := by
    rw [hv]
    cases neg
    · simpa [signOf] using hpos.le
    · simpa [signOf] using hpos
  have hlt := hnear.2.1
  refine ⟨fun h0 => ?_, fun _ => ⟨_, _, habs.symm ▸ hnear, ?_⟩⟩
  · rw [h0, abs_zero] at habs
    exact absurd habs hpos.ne
  · rw [fpRun_deliver, habs]
    generalize fpRound24 m e st = r at *
    obtain ⟨q, e', inexact⟩ := r
    dsimp only at *
    have hlo := hnear.1
    by_cases h1 : 255 ≤ e' + 150
    · rw [if_pos h1]
      exact ⟨by rw [fpInfOf, fpPack_sign (by decide) (by decide), hneg], fun _ => ⟨fpPack_magnitude (by decide) (by decide), rfl⟩,
        fun h => by omega, fun _ h => by omega⟩
    rw [if_neg h1]
    by_cases h2 : e' + 150 ≤ 0
    · rw [if_pos h2]
      exact ⟨by rw [fpZeroOf, fpPack_sign (by decide) (by decide), hneg], fun h => by omega,
        fun _ => ⟨fpPack_magnitude (by decide) (by decide), rfl⟩, fun h => by omega⟩
    · rw [if_neg h2]
      have hex : (e' + 150).toNat < 256 := by omega
      have hfr : q - 0x800000 < 0x800000 := by omega
      refine ⟨by rw [fpPack_sign hex hfr, hneg], fun h => by omega, fun h => by omega, fun _ _ => ⟨?_, ?_, fun h => ?_, fun h => ?_⟩⟩
      · rw [fpPack_exponent hex hfr]
        omega
      · rw [fpPack_fraction hex hfr]
        omega
      · exact if_neg fun hi => hin.1 hi h
      · exact if_pos (hin.2 h)

/-- An exact magnitude delivered. -/
theorem deliveredAs_exact {v : ℝ} {neg : Bool} {m : Nat} (hm : 0 < m) {e : Int} (hv : v = signOf neg * m * 2 ^ e) :
    DeliveredAs v (fpRun (fpDeliver neg m e false)) :=
  deliveredAs_deliver hm (hv.trans (mul_assoc ..)) le_rfl (by norm_num) (by simp) (by simp)

/-! ### The operations -/

theorem Finite.pos {n : Bool} {m : Nat} {e : Int} (h : (FpVal.fin n m e).Finite) : 0 < m :=
  lt_of_lt_of_le (by decide) h.1

theorem sumUnits_real (n1 : Bool) (m1 : Nat) (e1 : Int) (n2 : Bool) (m2 : Nat) (e2 : Int) :
    (sumUnits n1 m1 e1 n2 m2 e2 : ℝ) * 2 ^ min e1 e2 = signOf n1 * m1 * 2 ^ e1 + signOf n2 * m2 * 2 ^ e2 := by
  have hpow (e : Int) (he : min e1 e2 ≤ e) : (2 : ℝ) ^ e = 2 ^ (e - min e1 e2).toNat * 2 ^ min e1 e2 := by
    rw [← zpow_natCast, ← zpow_add₀ two_ne_zero]
    congr 1
    omega
  rw [hpow e1 (min_le_left ..), hpow e2 (min_le_right ..), sumUnits]
  cases n1 <;> cases n2 <;> simp [signOf] <;> ring

/-- The sum of two signed magnitudes. -/
theorem deliveredAs_sum (n1 : Bool) (m1 : Nat) (e1 : Int) (n2 : Bool) (m2 : Nat) (e2 : Int) :
    DeliveredAs (signOf n1 * m1 * 2 ^ e1 + signOf n2 * m2 * 2 ^ e2) (fpRun (fpSum n1 m1 e1 n2 m2 e2)) := by
  have hs := sumUnits_real n1 m1 e1 n2 m2 e2
  rw [fpSum_eq, ← hs]
  generalize sumUnits n1 m1 e1 n2 m2 e2 = k
  split_ifs with h0
  · exact deliveredAs_zero (by rw [h0]; simp) _
  · refine deliveredAs_exact (Int.natAbs_pos.2 h0) ?_
    have hk : (k : ℝ) = signOf (decide (k < 0)) * k.natAbs := by
      rw [Nat.cast_natAbs, Int.cast_abs]
      rcases lt_or_ge k 0 with h | h
      · rw [abs_of_neg (by exact_mod_cast h)]
        simp [signOf, h]
      · rw [abs_of_nonneg (by exact_mod_cast h)]
        simp [signOf, not_lt.2 h]
    rw [← hk]

theorem deliveredAs_add {u w : FpVal} (hu : u.Finite) (hw : w.Finite) : DeliveredAs (u.real + w.real) (fpRun (fpAddVal u w)) := by
  match u, w, hu, hw with
  | .zero _, .zero _, _, _ => exact deliveredAs_zero (by simp [FpVal.real]) _
  | .zero _, .fin _ _ _, _, hw => exact deliveredAs_exact (Finite.pos hw) (by simp [FpVal.real])
  | .fin _ _ _, .zero _, hu, _ => exact deliveredAs_exact (Finite.pos hu) (by simp [FpVal.real])
  | .fin _ _ _, .fin _ _ _, _, _ => exact deliveredAs_sum ..

theorem signOf_bne (a b : Bool) : signOf (a != b) = signOf a * signOf b := by
  cases a <;> cases b <;> simp [signOf]

theorem real_neg (u : FpVal) : (fsub.neg u).real = - u.real := by
  cases u with
  | fin n m e => cases n <;> simp [fsub.neg, FpVal.real, signOf]
  | _ => simp [fsub.neg, FpVal.real]

theorem finite_neg {u : FpVal} (h : u.Finite) : (fsub.neg u).Finite := by
  cases u <;> exact h

/-- The product of two finite magnitudes. -/
theorem real_mul (n1 : Bool) (m1 : Nat) (e1 : Int) (n2 : Bool) (m2 : Nat) (e2 : Int) :
    signOf n1 * m1 * (2 : ℝ) ^ e1 * (signOf n2 * m2 * 2 ^ e2) = signOf (n1 != n2) * (m1 * m2 : Nat) * 2 ^ (e1 + e2) := by
  rw [signOf_bne, zpow_add₀ two_ne_zero]
  push_cast
  ring

theorem deliveredAs_mul {u w : FpVal} (hu : u.Finite) (hw : w.Finite) :
    DeliveredAs (u.real * w.real) (fpRun (fmul.mulVal u w)) := by
  match u, w, hu, hw with
  | .zero _, .zero _, _, _ => exact deliveredAs_zero (by simp [FpVal.real]) _
  | .zero _, .fin _ _ _, _, _ => exact deliveredAs_zero (by simp [FpVal.real]) _
  | .fin _ _ _, .zero _, _, _ => exact deliveredAs_zero (by simp [FpVal.real]) _
  | .fin _ _ _, .fin _ _ _, hu, hw => exact deliveredAs_exact (Nat.mul_pos (Finite.pos hu) (Finite.pos hw)) (real_mul ..)

/-- A quotient with 50 more bits, and whether a remainder is left. -/
theorem deliveredAs_quotient {n1 n2 : Bool} {m1 m2 : Nat} {e1 e2 : Int} (h1 : (FpVal.fin n1 m1 e1).Finite)
    (h2 : (FpVal.fin n2 m2 e2).Finite) :
    DeliveredAs (signOf n1 * m1 * 2 ^ e1 / (signOf n2 * m2 * 2 ^ e2)) (fpRun (fpDeliver (n1 != n2) (m1 * 2 ^ 50 / m2) (e1 - e2 - 50)
      (m1 * 2 ^ 50 % m2 != 0))) := by
  obtain ⟨hlo1, -⟩ := h1
  have h2pos := Finite.pos h2
  have hm2 : (0 : ℝ) < m2 := Nat.cast_pos.2 h2pos
  obtain ⟨-, hhi2⟩ := h2
  have hbig : 2 ^ 24 ≤ m1 * 2 ^ 50 / m2 := (Nat.le_div_iff_mul_le h2pos).2 (by omega)
  have hv : signOf n1 * m1 * 2 ^ e1 / (signOf n2 * m2 * 2 ^ e2) =
      signOf (n1 != n2) * (((m1 * 2 ^ 50 : Nat) : ℝ) / m2 * 2 ^ (e1 - e2 - 50)) := by
    have hs : signOf n2 ≠ 0 := by cases n2 <;> simp [signOf]
    have hs2 : signOf n2 * signOf n2 = 1 := by cases n2 <;> simp [signOf]
    rw [signOf_bne, zpow_sub₀ two_ne_zero, zpow_sub₀ two_ne_zero]
    push_cast
    field_simp
    linear_combination (-(signOf n1 * 2 ^ 50)) * hs2
  generalize m1 * 2 ^ 50 = n at *
  have hdm : (n : ℝ) = (n / m2 : Nat) * m2 + (n % m2 : Nat) := by exact_mod_cast (Nat.div_add_mod' _ _).symm
  have hmod : ((n % m2 : Nat) : ℝ) < m2 := Nat.cast_lt.2 (Nat.mod_lt _ h2pos)
  have hmod0 : (0 : ℝ) ≤ (n % m2 : Nat) := Nat.cast_nonneg _
  refine deliveredAs_deliver (by omega) hv ?_ ?_ ?_ fun _ => hbig
  · rw [le_div_iff₀ hm2]
    linarith
  · rw [div_lt_iff₀ hm2]
    linarith
  · rw [bne_iff_ne, ne_eq, ne_eq, div_eq_iff hm2.ne', not_iff_not, hdm]
    simp

theorem deliveredAs_div {u w : FpVal} (hu : u.Finite) (hw : w.Finite) (h0 : w.real ≠ 0) :
    DeliveredAs (u.real / w.real) (fpRun (fdiv.divVal u w)) := by
  match u, w, hu, hw with
  | _, .zero _, _, _ => exact absurd rfl h0
  | .zero _, .fin _ _ _, _, _ => exact deliveredAs_zero (by simp [FpVal.real]) _
  | .fin _ _ _, .fin _ _ _, hu, hw => exact deliveredAs_quotient hu hw

/-- The bits found below a root that is not too large. -/
theorem isqrtBits_eq (n b r : Nat) (hlo : r * r ≤ n) (hhi : n < (r + 2 ^ b) * (r + 2 ^ b)) : isqrtBits n b r = n.sqrt := by
  induction b generalizing r with
  | zero =>
    rw [isqrtBits]
    exact Nat.eq_sqrt.2 ⟨hlo, by simpa using hhi⟩
  | succ b ih =>
    rw [isqrtBits]
    have hb : r + 2 ^ (b + 1) = r + 2 ^ b + 2 ^ b := by rw [pow_succ]; omega
    split_ifs with h
    · exact ih _ h (hb ▸ hhi)
    · exact ih _ hlo (not_le.1 h)

/-- The square root of a number of 75 to 80 bits at an even exponent. -/
theorem deliveredAs_root {x : Nat} (hlo : 2 ^ 75 ≤ x) (hhi : x < 2 ^ 80) (f : Int) :
    DeliveredAs (Real.sqrt (x * 2 ^ (2 * f))) (fpRun (fpDeliver false (isqrtBits x 40 0) f
      (isqrtBits x 40 0 * isqrtBits x 40 0 != x))) := by
  rw [isqrtBits_eq x 40 0 (by omega) (by norm_num; omega)]
  have hle := Nat.sqrt_le x
  have hlt := Nat.lt_succ_sqrt x
  have hbig : 2 ^ 24 ≤ x.sqrt := Nat.le_sqrt.2 (by omega)
  have hv : Real.sqrt (x * 2 ^ (2 * f)) = signOf false * (Real.sqrt x * 2 ^ f) := by
    have hf : (2 : ℝ) ^ (2 * f) = (2 ^ f) ^ 2 := by rw [mul_comm, zpow_mul]; norm_cast
    rw [hf, Real.sqrt_mul (Nat.cast_nonneg x), Real.sqrt_sq (by positivity), signOf]
    simp
  refine deliveredAs_deliver (by omega) hv ?_ ?_ ?_ fun _ => hbig
  · exact Real.le_sqrt_of_sq_le (by rw [sq]; exact_mod_cast hle)
  · rw [Real.sqrt_lt' (by positivity), sq]
    exact_mod_cast hlt
  · rw [bne_iff_ne, ne_eq, ne_eq, Real.sqrt_eq_iff_mul_self_eq (Nat.cast_nonneg x) (Nat.cast_nonneg _), not_iff_not, eq_comm]
    norm_cast

theorem deliveredAs_sqrt {w : Word} (hw : fld w 30 23 < 255) (h0 : 0 ≤ wordReal w) :
    DeliveredAs (Real.sqrt (wordReal w)) (fpRun (fsqrt w)) := by
  have hfin := finite_fpRead hw
  rw [← real_fpRead hw] at h0 ⊢
  unfold fsqrt
  generalize fpRead w = u at *
  match u, hfin with
  | .zero _, _ => exact deliveredAs_zero (by simp [FpVal.real]) _
  | .fin true m e, hfin =>
    have hm : (0 : ℝ) < m := Nat.cast_pos.2 (Finite.pos hfin)
    have : (FpVal.fin true m e).real < 0 := by
      simp only [FpVal.real, signOf, if_true, neg_mul, one_mul, Left.neg_neg_iff]
      positivity
    exact absurd h0 (not_le.2 this)
  | .fin false m e, ⟨hlo, hhi⟩ =>
    dsimp only
    rw [if_neg Bool.false_ne_true]
    by_cases he : e % 2 = 0
    · rw [if_pos he]
      dsimp only
      have hv : (FpVal.fin false m e).real = ((m * 2 ^ 52 : Nat) : ℝ) * 2 ^ (2 * ((e - 52) / 2)) := by
        rw [show 2 * ((e - 52) / 2) = e - 52 by omega, zpow_sub₀ two_ne_zero, FpVal.real, signOf]
        push_cast
        norm_num
        ring
      rw [hv]
      exact deliveredAs_root (by omega) (by omega) _
    · rw [if_neg he]
      dsimp only
      have hv : (FpVal.fin false m e).real = ((2 * m * 2 ^ 52 : Nat) : ℝ) * 2 ^ (2 * ((e - 1 - 52) / 2)) := by
        rw [show 2 * ((e - 1 - 52) / 2) = e - 53 by omega, zpow_sub₀ two_ne_zero, FpVal.real, signOf]
        push_cast
        norm_num
        ring
      rw [hv]
      exact deliveredAs_root (by omega) (by omega) _

theorem ffma_fin {a b c : Word} {n1 n2 : Bool} {m1 m2 : Nat} {e1 e2 : Int} (ha : fpRead a = .fin n1 m1 e1)
    (hb : fpRead b = .fin n2 m2 e2) (hc : fpIsNaN c = false) : ffma c a b = match fpRead c with
      | .fin n3 m3 e3 => fpSum (n1 != n2) (m1 * m2) (e1 + e2) n3 m3 e3
      | .zero _ => fpDeliver (n1 != n2) (m1 * m2) (e1 + e2) false
      | .inf s => pure (fpInfOf s)
      | .nan s => fpAddVal (.zero (n1 != n2)) (.nan s) := by
  cases hr : fpRead c with
  | nan s => simp [fpIsNaN, hr] at hc
  | _ => simp [ffma, fpIsNaN, ha, hb, hr]

/-- With one factor 0 the product is a zero. -/
theorem ffma_zero {a b c : Word} (hab : (∃ n, fpRead a = .zero n) ∧ (∃ n, fpRead b = .zero n) ∨
      (∃ n, fpRead a = .zero n) ∧ (∃ n m e, fpRead b = .fin n m e) ∨ (∃ n m e, fpRead a = .fin n m e) ∧ ∃ n, fpRead b = .zero n)
    (hc : fpIsNaN c = false) : ∃ n, ffma c a b = fpAddVal (.zero n) (fpRead c) := by
  refine ⟨ffma.sign (fpRead a) != ffma.sign (fpRead b), ?_⟩
  rcases hab with ⟨⟨n, ha⟩, k, hb⟩ | ⟨⟨n, ha⟩, k, m, e, hb⟩ | ⟨⟨k, m, e, ha⟩, n, hb⟩
  all_goals
    unfold ffma
    simp only [fpIsNaN, ha, hb] at hc ⊢
    simp [hc]

theorem deliveredAs_fma {x y z : Word} (hx : fld x 30 23 < 255) (hy : fld y 30 23 < 255) (hz : fld z 30 23 < 255) :
    DeliveredAs (wordReal z + wordReal x * wordReal y) (fpRun (ffma z x y)) := by
  have hfx := finite_fpRead hx
  have hfy := finite_fpRead hy
  have hfz := finite_fpRead hz
  have hn := isNaN_finite hz
  rw [← real_fpRead hx, ← real_fpRead hy, ← real_fpRead hz]
  have hzero (hv : (fpRead x).real * (fpRead y).real = 0) (hf : ∃ n, ffma z x y = fpAddVal (.zero n) (fpRead z)) :
      DeliveredAs ((fpRead z).real + (fpRead x).real * (fpRead y).real) (fpRun (ffma z x y)) := by
    obtain ⟨n, hf⟩ := hf
    rw [hv, hf, add_comm]
    exact deliveredAs_add (u := .zero n) trivial hfz
  match hu : fpRead x, hw : fpRead y, hfx, hfy with
  | .zero _, .zero _, _, _ =>
    rw [← hu, ← hw]
    exact hzero (by rw [hu]; simp [FpVal.real]) (ffma_zero (.inl ⟨⟨_, hu⟩, _, hw⟩) hn)
  | .zero _, .fin _ _ _, _, _ =>
    rw [← hu, ← hw]
    exact hzero (by rw [hu]; simp [FpVal.real]) (ffma_zero (.inr (.inl ⟨⟨_, hu⟩, _, _, _, hw⟩)) hn)
  | .fin _ _ _, .zero _, _, _ =>
    rw [← hu, ← hw]
    exact hzero (by rw [hw]; simp [FpVal.real]) (ffma_zero (.inr (.inr ⟨⟨_, _, _, hu⟩, _, hw⟩)) hn)
  | .fin _ _ _, .fin _ _ _, hfx, hfy =>
    rw [ffma_fin hu hw hn]
    match fpRead z, hfz with
    | .zero _, _ => exact deliveredAs_exact (Nat.mul_pos (Finite.pos hfx) (Finite.pos hfy)) ((zero_add _).trans (real_mul ..))
    | .fin _ _ _, _ =>
      rw [add_comm, FpVal.real, FpVal.real, FpVal.real, real_mul]
      exact deliveredAs_sum ..

/-- A finite operand other than 0 divided by 0. -/
theorem fdiv_by_zero {x y : Word} (hx : fld x 30 23 < 255) (hy : fld y 30 23 < 255) (hy0 : wordReal y = 0) (hx0 : wordReal x ≠ 0) :
    fld (fpRun (fdiv x y)).1 30 0 = 0x7F800000 ∧ (fpRun (fdiv x y)).2 = 0x100 := by
  have hfx := finite_fpRead hx
  have hfy := finite_fpRead hy
  rw [← real_fpRead hx] at hx0
  rw [← real_fpRead hy] at hy0
  unfold fdiv
  rw [fpBinary_finite hx hy]
  generalize fpRead x = u at *
  generalize fpRead y = w at *
  match u, w, hfx, hfy with
  | .zero _, _, _, _ => exact absurd rfl hx0
  | .fin _ _ _, .zero _, _, _ => exact ⟨fpPack_magnitude (by decide) (by decide), rfl⟩
  | .fin _ _ _, .fin n m e, _, hfy =>
    have hm : (m : ℝ) ≠ 0 := Nat.cast_ne_zero.2 (Finite.pos hfy).ne'
    have hs : signOf n ≠ 0 := by cases n <;> simp [signOf]
    exact absurd hy0 (mul_ne_zero (mul_ne_zero hs hm) (by positivity))

/-- Settles O5: of finite operands each operation delivers the exact result, rounded once. -/
theorem fpRoundsTheExactResult : Obligations.FpRoundsTheExactResult := by
  unfold Obligations.FpRoundsTheExactResult
  intro val near gives x y z hx hy hz
  have hfx := finite_fpRead hx
  have hfy := finite_fpRead hy
  have hvx : wordReal x = val x := rfl
  refine ⟨?_, ?_, ?_, fun hy0 => ?_, fun hy0 hx0 => fdiv_by_zero hx hy hy0 hx0, deliveredAs_fma hx hy hz, deliveredAs_sqrt hx⟩
  · change DeliveredAs (wordReal x + wordReal y) _
    rw [fadd, fpBinary_finite hx hy, ← real_fpRead hx, ← real_fpRead hy]
    exact deliveredAs_add hfx hfy
  · change DeliveredAs (wordReal x - wordReal y) _
    rw [fsub, fpBinary_finite hx hy, ← real_fpRead hx, ← real_fpRead hy, sub_eq_add_neg, ← real_neg]
    exact deliveredAs_add hfx (finite_neg hfy)
  · change DeliveredAs (wordReal x * wordReal y) _
    rw [fmul, fpBinary_finite hx hy, ← real_fpRead hx, ← real_fpRead hy]
    exact deliveredAs_mul hfx hfy
  · change DeliveredAs (wordReal x / wordReal y) _
    change wordReal y ≠ 0 at hy0
    rw [fdiv, fpBinary_finite hx hy, ← real_fpRead hx, ← real_fpRead hy]
    exact deliveredAs_div hfx hfy (by rwa [real_fpRead hy])

end Sys2Proof.Machine
end

section
/-! SUPPORT. The order of FP32 values (R77), and FCMP. -/
namespace Sys2Proof.Machine

/-! ### Comparisons as comparisons of integers -/

/-- The place of a value in the order of FP32: the exact value scaled by 2^149, the infinities beyond every finite value. -/
def fpKey (w : Word) : Int := match fpRead w with
  | .inf true => -2 ^ 300
  | .inf false => 2 ^ 300
  | v => fpScaled v

theorem fpScaled_lt (w : Word) : |fpScaled (fpRead w)| < 2 ^ 300 := by
  have hfr := fld_fraction_lt w
  have hex : fld w 30 23 < 256 := Nat.mod_lt _ (by decide)
  unfold fpRead
  dsimp only
  split_ifs with h255 h0
  · exact by norm_num [fpScaled]
  · exact by norm_num [fpScaled]
  · exact by norm_num [fpScaled]
  · have hsign (n : Bool) : |(if n then (-1 : Int) else 1)| = 1 := by cases n <;> rfl
    rw [fpScaled, abs_mul, abs_mul, hsign, mul_one, Nat.abs_cast, abs_of_pos (by positivity)]
    calc ((0x800000 + fld w 22 0 : Nat) : Int) * 2 ^ ((fld w 30 23 : Int) - 150 + 149).toNat
        < 2 ^ 24 * 2 ^ ((fld w 30 23 : Int) - 150 + 149).toNat := by
          refine mul_lt_mul_of_pos_right ?_ (by positivity)
          norm_cast
          omega
      _ ≤ 2 ^ 24 * 2 ^ 276 := by
          refine mul_le_mul_of_nonneg_left (pow_le_pow_right₀ (by decide) ?_) (by positivity)
          omega
      _ = 2 ^ 300 := by rw [← pow_add]

/-- The order of two integers as the outcome of a comparison. -/
def ordOf (i j : Int) : FpOrd := if i < j then .lt else if i = j then .eq else .gt

theorem ordOf_lt {i j : Int} (h : i < j) : ordOf i j = .lt := if_pos h

theorem ordOf_self (i : Int) : ordOf i i = .eq := (if_neg (lt_irrefl i)).trans (if_pos rfl)

theorem ordOf_gt {i j : Int} (h : j < i) : ordOf i j = .gt := (if_neg h.not_gt).trans (if_neg h.ne')

/-- The order of two values, the infinities at a bound of the finite ones. -/
theorem fpOrdVal_keys {u w : FpVal} {N : Int} (hN : 0 < N) (hu : -N < fpScaled u ∧ fpScaled u < N)
    (hw : -N < fpScaled w ∧ fpScaled w < N) (hun : ∀ s, u ≠ .nan s) (hwn : ∀ s, w ≠ .nan s) :
    let key (v : FpVal) : Int := match v with
      | .inf true => -N
      | .inf false => N
      | v => fpScaled v
    fpOrdVal u w = ordOf (key u) (key w) := by
  intro key
  match u, w with
  | .nan s, _ => exact absurd rfl (hun s)
  | _, .nan s => exact absurd rfl (hwn s)
  | .inf true, .inf true => exact (ordOf_self _).symm
  | .inf true, .inf false => exact (ordOf_lt (by simp only [key]; omega)).symm
  | .inf false, .inf true => exact (ordOf_gt (by simp only [key]; omega)).symm
  | .inf false, .inf false => exact (ordOf_self _).symm
  | .inf true, .zero _ => exact (ordOf_lt hw.1).symm
  | .inf true, .fin .. => exact (ordOf_lt hw.1).symm
  | .inf false, .zero _ => exact (ordOf_gt hw.2).symm
  | .inf false, .fin .. => exact (ordOf_gt hw.2).symm
  | .zero _, .inf true => exact (ordOf_gt hu.1).symm
  | .fin .., .inf true => exact (ordOf_gt hu.1).symm
  | .zero _, .inf false => exact (ordOf_lt hu.2).symm
  | .fin .., .inf false => exact (ordOf_lt hu.2).symm
  | .zero _, .zero _ => rfl
  | .zero _, .fin .. => rfl
  | .fin .., .zero _ => rfl
  | .fin .., .fin .. => rfl

theorem fpRead_ne_nan {a : Word} (h : fpIsNaN a = false) (s : Bool) : fpRead a ≠ .nan s := by
  intro hr
  simp [fpIsNaN, hr] at h

theorem fpOrdVal_nan {a b : Word} (h : (fpIsNaN a || fpIsNaN b) = true) : fpOrdVal (fpRead a) (fpRead b) = .unordered := by
  unfold fpIsNaN at h
  cases ha : fpRead a <;> cases hb : fpRead b <;> simp_all [fpOrdVal]

/-- What a comparison of two words comes to. -/
theorem fpOrdVal_read (a b : Word) : fpOrdVal (fpRead a) (fpRead b) =
    if fpIsNaN a || fpIsNaN b then .unordered else ordOf (fpKey a) (fpKey b) := by
  split_ifs with hn
  · exact fpOrdVal_nan hn
  · obtain ⟨ha, hb⟩ := Bool.or_eq_false_iff.1 (Bool.eq_false_iff.2 hn)
    exact fpOrdVal_keys (by positivity) (abs_lt.1 (fpScaled_lt a)) (abs_lt.1 (fpScaled_lt b)) (fpRead_ne_nan ha) (fpRead_ne_nan hb)

theorem ordOf_eq_lt {i j : Int} : ordOf i j = .lt ↔ i < j := by
  unfold ordOf
  split_ifs <;> simp_all

theorem ordOf_eq_eq {i j : Int} : ordOf i j = .eq ↔ i = j := by
  rcases lt_trichotomy i j with h | rfl | h
  · simp [ordOf_lt h, h.ne]
  · simp [ordOf_self]
  · simp [ordOf_gt h, h.ne']

theorem ordOf_ne_unordered {i j : Int} : ordOf i j ≠ .unordered := by
  unfold ordOf
  split_ifs <;> simp

section
variable (a b : Word)

theorem fpOrdVal_lt_iff : fpOrdVal (fpRead a) (fpRead b) = .lt ↔
    fpIsNaN a = false ∧ fpIsNaN b = false ∧ fpKey a < fpKey b := by
  rw [fpOrdVal_read]
  cases fpIsNaN a <;> cases fpIsNaN b <;> simp [ordOf_eq_lt]

theorem fpOrdVal_eq_iff : fpOrdVal (fpRead a) (fpRead b) = .eq ↔
    fpIsNaN a = false ∧ fpIsNaN b = false ∧ fpKey a = fpKey b := by
  rw [fpOrdVal_read]
  cases fpIsNaN a <;> cases fpIsNaN b <;> simp [ordOf_eq_eq]

theorem fpOrdVal_unordered_iff : fpOrdVal (fpRead a) (fpRead b) = .unordered ↔ (fpIsNaN a || fpIsNaN b) = true := by
  rw [fpOrdVal_read]
  cases fpIsNaN a <;> cases fpIsNaN b <;> simp [ordOf_ne_unordered]

theorem fpLt_iff : fpLt a b = true ↔ fpIsNaN a = false ∧ fpIsNaN b = false ∧ fpKey a < fpKey b := by
  rw [fpLt, beq_iff_eq, fpOrdVal_lt_iff]

theorem fpLe_iff : fpLe a b = true ↔ fpIsNaN a = false ∧ fpIsNaN b = false ∧ fpKey a ≤ fpKey b := by
  rw [fpLe, Bool.or_eq_true, beq_iff_eq, beq_iff_eq, fpOrdVal_lt_iff, fpOrdVal_eq_iff, le_iff_lt_or_eq]
  tauto

theorem fpGt_iff : fpGt a b = true ↔ fpIsNaN a = false ∧ fpIsNaN b = false ∧ fpKey b < fpKey a := by
  rw [fpGt, fpLt_iff, and_left_comm]

theorem fpGe_iff : fpGe a b = true ↔ fpIsNaN a = false ∧ fpIsNaN b = false ∧ fpKey b ≤ fpKey a := by
  rw [fpGe, fpLe_iff, and_left_comm]
end

/-! ### FCMP -/

theorem fpRun_fcmp (a b : Word) : fpRun (fcmp a b) =
    (fpOrdVal (fpRead a) (fpRead b), if (fpRead a).isSignalling || (fpRead b).isSignalling then 0x200 else 0) := by
  unfold fcmp
  split <;> rfl

theorem wg_zero (L : Loop) (v : Word) : L.wg 0 v = L := if_pos rfl

theorem cmpRes_eq (L : Loop) (m : FpM FpOrd) : L.cmpRes m = { L with
    flg := setBit (setBit (setBit L.flg 0 ((fpRun m).1 == .eq)) 1 ((fpRun m).1 == .lt)) 3 ((fpRun m).1 == .unordered) |||
      w32 (fpRun m).2 } := by
  unfold Loop.cmpRes Loop.stick Loop.setFlag flagZ flagN flagV
  dsimp only

theorem flags_or {old w v : Word} {f g : Nat → Option Bool} (h : FlagsAre old w f)
    (hg : ∀ i, i < 32 → (g i).getD (bitAt old i) = ((f i).getD (bitAt old i) || bitAt v i)) : FlagsAre old (w ||| v) g := by
  intro i hi
  rw [hg i hi, ← h i hi, bitAt_getLsb, BitVec.getLsbD_or, ← bitAt_getLsb, ← bitAt_getLsb]

/-- The word of NV, raised or not. -/
theorem bitAt_raisedNV (sig : Bool) : ∀ i < 32, bitAt (w32 (if sig then 0x200 else 0)) i = (sig && decide (i = 9)) := by
  cases sig <;> decide

/-- Settles O3: the flags are the comparison's, which the order of the exact values decides. -/
theorem compareFlags : Obligations.CompareFlags := by
  unfold Obligations.CompareFlags
  intro s l a b h x y nan order sig
  have hord : (fpRun (fcmp x y)).1 = fpOrdVal (fpRead x) (fpRead y) := congrArg Prod.fst (fpRun_fcmp x y)
  have hkey (w : Word) : order w = fpKey w := rfl
  have hnan : (!nan) = true ↔ fpIsNaN x = false ∧ fpIsNaN y = false := by simp [nan]
  have hZ : ((fpRun (fcmp x y)).1 == .eq) = (!nan && decide (order x = order y)) := by
    rw [Bool.eq_iff_iff, beq_iff_eq, hord, fpOrdVal_eq_iff, Bool.and_eq_true, hnan, decide_eq_true_iff, and_assoc, hkey, hkey]
  have hN : ((fpRun (fcmp x y)).1 == .lt) = (!nan && decide (order x < order y)) := by
    rw [Bool.eq_iff_iff, beq_iff_eq, hord, fpOrdVal_lt_iff, Bool.and_eq_true, hnan, decide_eq_true_iff, and_assoc, hkey, hkey]
  have hV : ((fpRun (fcmp x y)).1 == .unordered) = nan := by
    rw [Bool.eq_iff_iff, beq_iff_eq, hord, fpOrdVal_unordered_iff]
  have hflags := flags_setBit (s.loop l).flg _ 3 nan _ (by decide) (flags_setBit _ _ 1
    (!nan && decide (order x < order y)) _ (by decide) (flags_setBit _ _ 0 (!nan && decide (order x = order y)) _ (by decide)
      (flags_refl (s.loop l).flg)))
  refine computes_of_eq h (d := 0) rfl ?_ (flags_or hflags (v := w32 (if sig then 0x200 else 0)) fun i hi => ?_)
  · dsimp only
    rw [cmpRes_eq, hZ, hN, hV, fpRun_fcmp, wg_zero]
  · rw [bitAt_raisedNV sig i hi]
    rcases i with _ | _ | _ | _ | i
    · simp
    · simp
    · simp
    · simp
    · cases sig <;> by_cases h9 : i + 4 = 9 <;> simp [h9]

end Sys2Proof.Machine
end

section
/-! SUPPORT. Branches, jumps and system instructions of a loop that executes (R69, R72, R82, R83). -/
namespace Sys2Proof.Machine

/-! ### An instruction that retires or traps -/

section
variable {s : State} {l : Nat} (h : s.Ready l) (word : Word) (n : Nat) {act : State → InstrRes}
include h

theorem runInstr_trap {x : Trap} (ha : act s = .error x) : s.runInstr l word n act = s.takeTrap l x (s.late (s.loop l) n) word := by
  rw [runInstr_ready h, ha]

theorem runInstr_setLoop {M : Loop} (ha : act s = .ok (s.setLoop l M)) :
    s.runInstr l word n act = s.setLoop l { M with cycles := (s.loop l).cycles + n } := by
  rw [runInstr_ready h, ha]
  dsimp only
  rw [loop_setLoop_same, setLoop_setLoop]

theorem runInstr_stepLoop {f : Loop → Loop} (ha : act s = .ok (s.stepLoop l f)) : s.runInstr l word n act =
    s.setLoop l { f (s.loop l) with pc := ((f (s.loop l)).pc + 4) % 0x100000000, cycles := (s.loop l).cycles + n } :=
  runInstr_setLoop h word n ha
end

/-! ### Jumps and branches (R82, R83) -/

section
variable {s : State} {l target : Nat} (link : Option Reg)

/-- The loop with the link register of a jump written. -/
def Loop.linked (L : Loop) : Option Reg → Loop
  | none => L
  | some d => L.wg d (w32 (L.pc + 4))

theorem jump_outside (h : (s.loop l).codeSize ≤ target) : s.jump l target link = .error ⟨2, 1, target⟩ := if_pos h

theorem jump_misaligned (h : target < (s.loop l).codeSize) (h4 : target % 4 ≠ 0) : s.jump l target link = .error ⟨3, 0, target⟩ :=
  (if_neg (not_le.2 h)).trans (if_pos h4)

theorem jump_taken (h : target < (s.loop l).codeSize) (h4 : target % 4 = 0) :
    s.jump l target link = .ok (s.setLoop l { (s.loop l).linked link with pc := target }) := by
  cases link <;> exact (if_neg (not_le.2 h)).trans (if_neg (not_not.2 h4))
end

section
variable {s : State} {l : Nat} (h : s.Ready l) {i : Instr}
include h

/-- A branch, by its condition and its target. -/
theorem branch_holds {off : BitVec 15} {cond : Loop → Bool} {c : Prop} (hc : cond (s.loop l) = true ↔ c)
    (hi : exec i s = .next (s.branch l (encodeInstr i) off cond)) :
    let L := s.loop l
    let target := L.target off.toInt
    (¬c → exec i s = .next (s.setLoop l { L with pc := (L.pc + 4) % 2 ^ 32, cycles := L.cycles + 1 })) ∧
    (c → target < L.codeSize → target % 4 = 0 → exec i s = .next (s.setLoop l { L with pc := target, cycles := L.cycles + 2 })) ∧
    (c → L.codeSize ≤ target → exec i s = .next (s.takeTrap l ⟨2, 1, target⟩ (s.late L 2) (encodeInstr i))) := by
  intro L target
  refine ⟨fun hn => ?_, fun hp ht h4 => ?_, fun hp ht => ?_⟩
  · have hf : ¬ cond (s.loop l) = true := fun hp => hn (hc.1 hp)
    rw [hi, State.branch, runInstr_stepLoop h (f := id) _ _ (if_neg hf), if_neg hf]
    rfl
  · rw [hi, State.branch, runInstr_setLoop h _ _ ((if_pos (hc.2 hp)).trans (jump_taken none ht h4)), hc.2 hp]
    rfl
  · rw [hi, State.branch, runInstr_trap h _ _ ((if_pos (hc.2 hp)).trans (jump_outside none ht)), hc.2 hp]
    rfl

/-- A jump with a link register, by its target. -/
theorem jump_holds {d : Reg} {target : Nat} {act : State → InstrRes} (ha : act s = s.jump l target (some d))
    (hi : exec i s = .next (s.runInstr l (encodeInstr i) 2 act)) :
    let L := s.loop l
    (target < L.codeSize → target % 4 = 0 → ∃ t, exec i s = .next t ∧ t = s.setLoop l (t.loop l) ∧
      (∀ r : Reg, (t.loop l).rg r = if r = 0 then 0 else if r = d then BitVec.ofNat 32 (L.pc + 4) else L.rg r) ∧
      t.loop l = { L with g := (t.loop l).g, pc := target, cycles := L.cycles + 2 }) ∧
    (L.codeSize ≤ target → exec i s = .next (s.takeTrap l ⟨2, 1, target⟩ (s.late L 2) (encodeInstr i))) ∧
    (target < L.codeSize → target % 4 ≠ 0 → exec i s = .next (s.takeTrap l ⟨3, 0, target⟩ (s.late L 2) (encodeInstr i))) := by
  refine ⟨fun ht h4 => ⟨_, hi, ?_⟩, fun ht => ?_, fun ht h4 => ?_⟩
  · rw [runInstr_setLoop h _ _ (ha.trans (jump_taken _ ht h4)), loop_setLoop_same]
    refine ⟨rfl, fun r => ?_, ?_⟩
    · rw [← rg_wg]
      exact rg_congr rfl r
    · rw [Loop.linked, wg_frame]
  · rw [hi, runInstr_trap h _ _ (ha.trans (jump_outside _ ht))]
  · rw [hi, runInstr_trap h _ _ (ha.trans (jump_misaligned _ ht h4))]
end

/-! ### System instructions (Tables 2.3 and 2.11) -/

/-- A loop written back with a register, FLG, the PC and the cycles of a retirement. -/
theorem retired_setLoop (s : State) (l n : Nat) (d : Reg) (v flg : Word) :
    State.Retired l d v flg n s (s.setLoop l { (s.loop l).wg d v with
      flg := flg, pc := ((s.loop l).pc + 4) % 0x100000000, cycles := (s.loop l).cycles + n }) := by
  refine ⟨by rw [loop_setLoop_same], fun r => ?_, ?_⟩
  · rw [loop_setLoop_same, ← rg_wg]
    exact rg_congr rfl r
  · rw [loop_setLoop_same, wg_frame]

theorem wg_nowh (L : Loop) (d : Reg) (v w : Word) : { L with nowh := w }.wg d v = { L.wg d v with nowh := w } := by
  unfold Loop.wg
  split <;> rfl

theorem selector_eq (s : State) (l : Nat) (L : Loop) {n : Nat} (hn : n < 32) : s.selector l L n =
    [some (w32 L.pc), some L.flg, some (w32 L.per), some (w32 (L.cell % 1024)), some (w32 ((s.cell L.cell).inc % 65536)),
      none, none, none, some L.ts, some (w32 L.start), some (w32 (L.start / 2 ^ 32)), some (w32 s.dtb), some L.nowh,
      some (w32 l)].getD n none := by
  interval_cases n <;> rfl

section
variable {s : State} {l : Nat} (h : s.Ready l) (d : Reg) {n : BitVec 5} {v : Word}
include h

theorem mfs_retires (hv : s.selector l (s.loop l) n.toNat = some v) (hn : n.toNat ≠ 11) : ∃ t, exec (.mfs l d n) s = .next t ∧
    State.Retired l d v (s.loop l).flg (if n = 12 then 6 else 1) s t := by
  have hcost : (if n.toNat = 11 ∨ n.toNat = 12 then 6 else 1) = if n = 12 then 6 else 1 := by
    simp [hn, ← BitVec.toNat_inj]
  refine ⟨_, rfl, ?_⟩
  rw [runInstr_stepLoop h (f := fun L => L.wg d v) _ _ (by simp only [hv, if_neg hn]), hcost]
  have hr := retired_setLoop s l (if n = 12 then 6 else 1) d v (s.loop l).flg
  rw [wg_frame] at hr ⊢
  exact hr

/-- A read of NOWL latches NOWH. -/
theorem mfs_nowl : ∃ t, exec (.mfs l d 11) s = .next t ∧ (t.loop l).nowh = w32 (s.dtb / 2 ^ 32) ∧
    State.Retired l d (w32 s.dtb) (s.loop l).flg 6 (s.setLoop l { s.loop l with nowh := w32 (s.dtb / 2 ^ 32) }) t := by
  refine ⟨_, rfl, ?_⟩
  rw [runInstr_stepLoop h (f := fun L => { L.wg d (w32 s.dtb) with nowh := w32 (s.dtb / 2 ^ 32) }) _ _ rfl]
  refine ⟨by rw [loop_setLoop_same], ?_⟩
  have hr := retired_setLoop (s.setLoop l { s.loop l with nowh := w32 (s.dtb / 2 ^ 32) }) l 6 d (w32 s.dtb) (s.loop l).flg
  rw [setLoop_setLoop, loop_setLoop_same, wg_nowh] at hr
  rw [wg_frame] at hr ⊢
  exact hr

theorem mfs_reserved (hv : s.selector l (s.loop l) n.toNat = none) (hn : n.toNat ≠ 11 ∧ n.toNat ≠ 12) :
    exec (.mfs l d n) s = .next (s.takeTrap l ⟨1, 0, 0⟩ (s.late (s.loop l) 1) (encodeInstr (.mfs l d n))) := by
  have hcost : (if n.toNat = 11 ∨ n.toNat = 12 then 6 else 1) = 1 := if_neg (not_or.2 hn)
  refine congrArg Host.Outcome.next ?_
  rw [runInstr_trap h (x := ⟨1, 0, 0⟩) _ _ (by simp only [hv]; rfl), hcost]
end

/-! ### A register access without an answer (R72) -/

/-- A word of format B (Table 2.5), read by its fields. -/
theorem decode_fmtB (l op : Nat) (hop : op < 128) (h1 : op ≠ 0x01) (h2 : op ≠ 0x10) (h3 : op ≠ 0x3C) (d a : Reg) (imm : BitVec 15) :
    ∃ b c m imm20, decodeMbarov l (fmtB op d a imm) = decodeOther l op d a b c m imm imm20 := by
  have hd := d.isLt
  have ha := a.isLt
  have hi := imm.isLt
  have hn : (fmtB op d a imm).toNat = op * 0x2000000 + d.toNat * 0x100000 + a.toNat * 0x8000 + imm.toNat := toNat_w32 (by omega)
  have ho : (fmtB op d a imm).toNat / 0x2000000 = op := by omega
  have hd' : BitVec.ofNat 5 ((fmtB op d a imm).toNat / 0x100000) = d := BitVec.eq_of_toNat_eq (by rw [BitVec.toNat_ofNat]; omega)
  have ha' : BitVec.ofNat 5 ((fmtB op d a imm).toNat / 0x8000) = a := BitVec.eq_of_toNat_eq (by rw [BitVec.toNat_ofNat]; omega)
  have hi' : BitVec.ofNat 15 (fmtB op d a imm).toNat = imm := BitVec.eq_of_toNat_eq (by rw [BitVec.toNat_ofNat]; omega)
  have h : decodeMbarov l (fmtB op d a imm) = decodeOther l op d a (BitVec.ofNat 5 ((fmtB op d a imm).toNat / 0x400))
      (BitVec.ofNat 5 ((fmtB op d a imm).toNat / 0x20)) (BitVec.ofNat 5 (fmtB op d a imm).toNat) imm
      (BitVec.ofNat 20 (fmtB op d a imm).toNat) := by
    rw [decodeMbarov]
    rw [ho, hd', ha', hi', if_neg h1, if_neg h2, if_neg h3]
  exact ⟨_, _, _, _, h⟩

theorem decode_ldw (l : Nat) (d a : Reg) (imm : BitVec 15) :
    decodeMbarov l (encodeInstr (.ldw l d a imm .ok)) = some (.ldw l d a imm .ok) := by
  obtain ⟨b, c, m, i, h⟩ := decode_fmtB l 0x20 (by decide) (by decide) (by decide) (by decide) d a imm
  exact h

theorem decode_stw (l : Nat) (d a : Reg) (imm : BitVec 15) :
    decodeMbarov l (encodeInstr (.stw l d a imm .ok)) = some (.stw l d a imm .ok) := by
  obtain ⟨b, c, m, i, h⟩ := decode_fmtB l 0x28 (by decide) (by decide) (by decide) (by decide) d a imm
  exact h

/-- The address of a granted register access. -/
theorem regAccess_granted {s : State} {l : Nat} {d a : Reg} {imm : BitVec 15} {i : Instr}
    (hi : i ∈ [Instr.ldw l d a imm .ok, .stw l d a imm .ok]) (h : 0x40000000 ≤ s.effAddr l a imm) (h4 : s.effAddr l a imm % 4 = 0)
    (hx : inExtent (s.effAddr l a imm) = true) (hg : s.pageGranted (s.loop l).cell (s.effAddr l a imm) = true) :
    s.regAccess l (encodeInstr i) = some (s.effAddr l a imm) := by
  have hreg : 0x40000000 ≤ s.effAddr l a imm ∧ s.effAddr l a imm % 4 = 0 ∧ inExtent (s.effAddr l a imm) ∧
      s.pageGranted (s.loop l).cell (s.effAddr l a imm) := ⟨h, h4, hx, hg⟩
  rw [State.regAccess]
  simp only [List.mem_cons, List.not_mem_nil, or_false] at hi
  rcases hi with rfl | rfl
  · rw [decode_ldw]
    exact if_pos hreg
  · rw [decode_stw]
    exact if_pos hreg

theorem overdueAt_mono {s : State} {L : Loop} {t u : Nat} (htu : t ≤ u) (h : s.overdueAt L u = false) : s.overdueAt L t = false := by
  cases ht : s.overdueAt L t with
  | false => rfl
  | true =>
    rw [← h, ← ht]
    simp only [State.overdueAt, Bool.and_eq_true, Bool.or_eq_true, decide_eq_true_eq] at ht ⊢
    rw [Bool.eq_iff_iff]
    simp only [Bool.and_eq_true, Bool.or_eq_true, decide_eq_true_eq]
    refine ⟨fun h' => ⟨h'.1, h'.2.imp_left fun hd => by omega⟩, fun _ => ht⟩

theorem registerAccessTimeout_traps {s : State} {l : Nat} (h : s.Ready l) {word : Word} {addr : Nat}
    (ha : s.regAccess l word = some addr) : exec (.registerAccessTimeout l word addr) s =
      .next (s.takeTrap l ⟨4, 0, addr⟩ (decide ((s.loop l).decl.wcet ≤ (s.loop l).cycles + s.answerCycles)) word) := by
  obtain ⟨he, ho, hpc⟩ := h
  have hlate : s.overdueAt (s.loop l) (s.dtb - s.answerNs) = false := overdueAt_mono (Nat.sub_le ..) ho
  refine (if_neg ?_).trans ((if_neg (by simp [hlate])).trans ?_)
  · simp [he, ha, hpc]
  · rw [ho, Bool.false_or]
    rfl

theorem lt_answerCycles_iff (s : State) (w c : Nat) : w ≤ c + s.answerCycles ↔
    w ≤ c + (4096 * s.coreMHz + 749) / 750 ∨ s.onSafe = true ∧ w ≤ c + 4096 := by
  unfold State.answerCycles State.coreMHz
  cases s.onSafe
  · simp
  · simp
    omega

/-- Settles O6: the targets of branches and jumps decide how they end, the selector table what MFS reads, and the decoder that a
timeout is that of a register access. -/
theorem branchesJumpsAndSystem : Obligations.BranchesJumpsAndSystem := by
  unfold Obligations.BranchesJumpsAndSystem
  refine ⟨fun s l a b n off h => ?_, fun s l d a off imm h => ⟨jump_holds h rfl rfl, jump_holds h rfl rfl⟩,
    fun s l d a n word h => ?_⟩
  · exact ⟨branch_holds h (by simp) rfl, branch_holds h (by simp) rfl, branch_holds h (by simp [BitVec.slt]) rfl,
      branch_holds h (by simp [BitVec.slt]) rfl, branch_holds h (by simp [BitVec.ult]) rfl,
      branch_holds h (by simp [BitVec.ult]) rfl, branch_holds h Iff.rfl rfl, branch_holds h (by simp) rfl⟩
  · intro L late value
    have hsel : s.selector l L n.toNat = value n.toNat := selector_eq s l L n.isLt
    have hret {i : Instr} {f : Loop → Loop} {flg : Word} (hi : exec i s = .next (s.compute l (encodeInstr i) 1 f))
        (hf : f L = { L.wg 0 0 with flg := flg }) : ∃ t, exec i s = .next t ∧ State.Retired l 0 0 flg 1 s t :=
      ⟨_, hi, (retired_compute h _ _ f 0 0 flg hf).1⟩
    have htrap {i : Instr} {w : Word} {x : Trap} {act : State → InstrRes} (hi : exec i s = .next (s.runInstr l w 1 act))
        (ha : act s = .error x) : exec i s = .next (s.takeTrap l x (late 1) w) :=
      hi.trans (congrArg _ (runInstr_trap h w 1 ha))
    refine ⟨hret rfl (by rw [wg_zero]; rfl), hret rfl (by rw [wg_zero]), fun v hv hn => ?_, mfs_nowl h d, fun hv => ?_,
      htrap rfl rfl, fun hw => htrap (if_neg (by simp [hw])) rfl, ?_⟩
    · exact mfs_retires h d (hsel.trans hv) fun hn' => hn (BitVec.eq_of_toNat_eq hn')
    · refine mfs_reserved h d (hsel.trans hv) ⟨fun hn => ?_, fun hn => ?_⟩
      · simp [value, hn] at hv
      · simp [value, hn] at hv
    · intro imm i addr hi ha h4 hx hg
      refine (registerAccessTimeout_traps h (regAccess_granted hi ha h4 hx hg)).trans ?_
      simp only [lt_answerCycles_iff]
      rfl

end Sys2Proof.Machine
end

section
/-! SUPPORT. The end of a period (R99, R104, R166, R170): what leaving its pairs, a trap and a retired WAIT leave of a loop. -/
namespace Sys2Proof.Machine

/-- `M` differs from `L` only in what the placer makes of a loop: its state, its halt and a stop asked of it, which it may have
done. -/
def Loop.Placed (L M : Loop) : Prop :=
  ∃ st hl sr, (L.stopReq = false → sr = false) ∧ M = { L with state := st, halted := hl, stopReq := sr }

theorem Loop.Placed.refl (L : Loop) : L.Placed L := ⟨_, _, _, id, rfl⟩

theorem Loop.Placed.trans {L M N : Loop} (h : L.Placed M) (h' : M.Placed N) : L.Placed N := by
  obtain ⟨_, _, _, hs, rfl⟩ := h
  obtain ⟨_, _, _, hs', rfl⟩ := h'
  exact ⟨_, _, _, fun h => hs' (hs h), rfl⟩

section
variable {ps : List Part} {ks : List Nat} {s t : State}

theorem placed_of_adds (h : State.Adds ps ks s t) (hl : .loops ∉ ps) (l : Nat) : (s.loop l).Placed (t.loop l) :=
  loop_of_adds h hl l ▸ Loop.Placed.refl _

theorem placed_migDone (s : State) (m : Migration) (l : Nat) : (s.loop l).Placed ((s.migDone m).loop l) := by
  unfold State.migDone
  extract_lets s1
  have h1 : State.Adds [.act] [Reg.PLC_MIG] s s1 := adds_setReg ..
  refine (placed_of_adds h1 (by decide) l).trans ?_
  refine mget_map_rel (R := Loop.Placed) (Loop.Placed.refl _) (fun e => ?_) (fun e => ?_) l s1.loops
  · split <;> rfl
  · split
    · exact ⟨_, _, _, id, rfl⟩
    · exact Loop.Placed.refl _

theorem placed_foldl {α : Type} {f : State → α → State} {l : Nat} (hf : ∀ (s : State) x, (s.loop l).Placed ((f s x).loop l)) (xs : List α)
    (s : State) : (s.loop l).Placed ((xs.foldl f s).loop l) :=
  List.foldlRecOn xs f (motive := fun t => (s.loop l).Placed (t.loop l)) (Loop.Placed.refl _) fun _ hb x _ => hb.trans (hf _ x)

theorem adds_freePair (l : Nat) (s : State) (p : Nat) : State.Adds [.pairs] [] s (State.freePair l s p) := by
  unfold State.freePair
  split
  · exact adds_setPair ..
  · exact adds_refl ..

/-- A loop that leaves its pairs: what of the machine changes, and what of the loops. -/
theorem leavePair_holds (s : State) (k : Nat) (L : Loop) :
    State.Adds [.act, .loops, .pairs, .placer] [Reg.PLC_MIG] s (s.leavePair k L) ∧ ∀ l, (s.loop l).Placed ((s.leavePair k L).loop l) := by
  unfold State.leavePair State.migEnded
  extract_lets ms src s1
  have h1 : State.Adds [.pairs, .placer] [] s s1 :=
    ((adds_foldl (fun s p _ => adds_freePair k s p) s).step (adds_setPlacer ..)).within (by decide) (by decide)
  refine ⟨(h1.step (adds_foldl (fun s m _ => (migDone_holds s m).1) s1)).within (by decide) (by decide), fun l => ?_⟩
  exact (placed_of_adds h1 (by decide) l).trans (placed_foldl (fun s m => placed_migDone s m l) ..)

theorem adds_releaseSlots (s : State) (L : Loop) : State.Adds [.slots] [] s (s.releaseSlots L) :=
  adds_foldl (fun _ _ _ => adds_setSlot ..) s

/-- `t` holds at slot `n` no value for the next boundary that `s` does not hold there. -/
def State.Fewer (s t : State) (n : Nat) : Prop := ∀ w ∈ (t.slot n).next, w ∈ (s.slot n).next

theorem fewer_releaseSlots (s : State) (L : Loop) (n : Nat) : s.Fewer (s.releaseSlots L) n := by
  refine List.foldlRecOn L.decl.slots _ (motive := fun t => s.Fewer t n) (fun _ hw => hw) fun t ht m _ w hw => ht w ?_
  unfold State.releaseSlot at hw
  by_cases hn : n = m
  · subst hn
    rw [slot_setSlot_same] at hw
    cases hw
  · rwa [slot_setSlot_ne _ hn] at hw

theorem withdrawOuts_slot (s : State) (per : Nat) (outs : List Nat) (n : Nat) (hn : n ∈ outs) :
    ∀ w ∈ ((s.withdrawOuts per outs).slot n).next, w.per ≠ per ∧ w ∈ (s.slot n).next := by
  unfold State.withdrawOuts
  -- of a slot no value comes to be, and of one already reached none of the period is left
  have hkeep (outs : List Nat) (s : State) : s.Fewer (s.withdrawOuts per outs) n := by
    refine List.foldlRecOn outs _ (motive := fun t => s.Fewer t n) (fun _ hw => hw) fun t ht m _ w hw => ht w ?_
    by_cases hm : n = m
    · subst hm
      rw [slot_setSlot_same] at hw
      exact List.mem_of_mem_filter hw
    · rwa [slot_setSlot_ne _ hm] at hw
  induction outs generalizing s with
  | nil => cases hn
  | cons m outs ih =>
    intro w hw
    rw [List.foldl_cons] at hw
    by_cases hm : n = m
    · subst hm
      have := hkeep outs _ w hw
      rw [slot_setSlot_same, List.mem_filter] at this
      exact ⟨by simpa using this.2, this.1⟩
    · obtain ⟨hp, hs⟩ := ih _ (List.mem_of_ne_of_mem hm hn) w hw
      rw [slot_setSlot_ne _ hm] at hs
      exact ⟨hp, hs⟩

theorem periodEnd_holds (s : State) (l : Nat) :
    State.Adds [.loops, .slots] [] s (s.periodEnd l) ∧ (s.loop l).Placed ((s.periodEnd l).loop l) ∧
      ∀ n, s.Fewer (s.periodEnd l) n := by
  unfold State.periodEnd
  dsimp only
  -- a loop that stops or is suspended, its slots released
  have hend (M : Loop) (hM : (s.loop l).Placed M) :
      State.Adds [.loops, .slots] [] s ((s.setLoop l M).releaseSlots (s.loop l)) ∧
        (s.loop l).Placed (((s.setLoop l M).releaseSlots (s.loop l)).loop l) ∧
        ∀ n, s.Fewer ((s.setLoop l M).releaseSlots (s.loop l)) n := by
    refine ⟨((adds_setLoop ..).step (adds_releaseSlots ..)).within (by decide) (by decide), ?_, fewer_releaseSlots (s.setLoop l M) _⟩
    rw [loop_congr (loops_releaseSlots ..), loop_setLoop_same]
    exact hM
  split_ifs
  · exact hend _ ⟨_, _, _, fun _ => rfl, rfl⟩
  · exact hend _ ⟨_, _, _, id, rfl⟩
  · exact ⟨adds_refl .., Loop.Placed.refl _, fun _ _ hw => hw⟩

theorem placerTrap_holds (s : State) (l : Nat) :
    State.Adds [.loops, .slots, .recd] [] s (s.placerTrap l) ∧ (s.loop l).Placed ((s.placerTrap l).loop l) ∧
      ∀ n, s.Fewer (s.placerTrap l) n := by
  unfold State.placerTrap
  dsimp only
  split_ifs
  · refine ⟨((adds_setLoop ..).step (adds_releaseSlots ..) |>.step (adds_emit ..)).within (by decide) (by decide), ?_, fun n w hw =>
      fewer_releaseSlots (s.setLoop l _) (s.loop l) n w hw⟩
    rw [loop_emit, loop_congr (loops_releaseSlots ..), loop_setLoop_same]
    exact ⟨_, _, _, fun _ => rfl, rfl⟩
  · obtain ⟨ha, hp, hf⟩ := periodEnd_holds s l
    exact ⟨ha.within (by decide) (by decide), hp, hf⟩

/-- A trigger of a trace buffer concerns the buffer and its registers. -/
theorem only_trcTrigger (s : State) (n idx : Nat) : State.Only [.act, .traces] s (s.trcTrigger n idx) := by
  have hreg {u : State} (h : State.Only [.act, .traces] s u) (k : Nat) (v : Word) : State.Only [.act, .traces] s (u.setReg k v) :=
    only_trans h (only_setReg _ _ (by decide) k v)
  have htrace {u : State} (h : State.Only [.act, .traces] s u) (x : Trace) : State.Only [.act, .traces] s (u.setTrace n x) := by
    intro p hp
    cases p with
    | traces => exact absurd (by decide) hp
    | _ => exact h _ hp
  unfold State.trcTrigger
  extract_lets post s1 src s2
  have h2 : State.Only [.act, .traces] s s2 := htrace (hreg (hreg (only_refl _ _) _ _) _ _) _
  split
  · exact only_refl _ _
  · split
    · exact hreg (hreg (hreg h2 _ _) _ _) _ _
    · exact h2

theorem only_trapTrigger (s : State) (l : Nat) : State.Only [.act, .traces] s (s.trapTrigger l) := by
  refine List.foldlRecOn allTraces _ (motive := State.Only [.act, .traces] s) (only_refl _ _) fun t ht n _ => only_trans ht ?_
  split
  · exact only_trcTrigger _ _ _
  · exact only_refl _ _

end

/-- A loop as its trap leaves it (R104), but for what the placer makes of it. -/
def Loop.trapped (L : Loop) (x : Trap) : Loop :=
  { L with inPeriod := false, waiting := none, outs := [], cause := x.cause, consec := sat 255 (L.consec + 1),
           total := sat 0xFFFF (L.total + 1), maxCycles := max L.maxCycles L.cycles }

section
variable (s : State) (l : Nat) (x : Trap) (dl : Bool) (word : Word)

/-- What a trap comes to: the loop, its slots and the records handed over. -/
theorem takeTrap_holds :
    ((s.loop l).trapped x).Placed ((s.takeTrap l x dl word).loop l) ∧
    (∀ n ∈ (s.loop l).outs, ∀ w ∈ ((s.takeTrap l x dl word).slot n).next, w.per ≠ (s.loop l).per ∧ w ∈ (s.slot n).next) ∧
    ∃ rest, (s.takeTrap l x dl word).recd.handed =
      s.recd.handed ++ s.event Ev.LOOP_TRAP (s.loop l).cell (s.trapRecord l (s.loop l) x dl word) :: rest := by
  unfold State.takeTrap
  extract_lets L L1 s1 body s2 s3
  obtain ⟨ha1, hl1⟩ := leavePair_holds ((s.withdrawOuts L.per L.outs).setLoop l L1) l L
  have h0 : State.Adds [.slots, .loops] [] s ((s.withdrawOuts L.per L.outs).setLoop l L1) :=
    ((adds_foldl (fun _ _ _ => adds_setSlot ..) s).step (adds_setLoop ..)).within (by decide) (by decide)
  have h1 : State.Only [.act, .loops, .pairs, .placer, .slots] s s1 := (h0.step ha1 |>.within (by decide) (List.Subset.refl _)).1
  have hslot (n : Nat) : s1.slot n = (s.withdrawOuts L.per L.outs).slot n := slot_of_only ha1.1 (by decide) n
  have hloop : L1.Placed (s1.loop l) := by
    have h := hl1 l
    rwa [loop_setLoop_same] at h
  clear_value s1
  have h3 : State.Only [.recd] s1 s3 ∧ ∃ es, s3.recd.handed = s1.recd.handed ++ s1.event Ev.LOOP_TRAP L.cell body :: es := by
    simp only [s3]
    split
    · exact ⟨((adds_emit ..).trans (adds_emit ..)).1, [s1.event Ev.LOOP_TRAP L.cell body],
        by simp [s2, State.emit, State.emitAt, State.event]⟩
    · exact ⟨(adds_emit ..).1, [], rfl⟩
  clear_value s3
  obtain ⟨ho3, es, he3⟩ := h3
  have h4 := only_trapTrigger s3 l
  obtain ⟨⟨-, -, es', he5⟩, hl5, hs5⟩ := placerTrap_holds (s3.trapTrigger l) l
  refine ⟨?_, fun n hn w hw => ?_, es ++ es', ?_⟩
  · rw [loop_of_only h4 (by decide), loop_of_only ho3 (by decide)] at hl5
    exact hloop.trans hl5
  · have hw := hs5 n w hw
    rw [slot_of_only h4 (by decide), slot_of_only ho3 (by decide), hslot] at hw
    exact withdrawOuts_slot s L.per L.outs n hn w hw
  · rw [he5, show (s3.trapTrigger l).recd = s3.recd from h4 .recd (by decide), he3, show s1.recd = s.recd from h1 .recd (by decide),
      State.event, State.event, show s1.dtb = s.dtb from h1 .dtb (by decide), List.append_assoc, List.cons_append]
end

theorem sat_eq (m n : Nat) : sat m n = min m n := by
  unfold sat
  split <;> omega

/-- Settles O8: every step of a trap after the loop itself is changed leaves all of it but what the placer makes of it. -/
theorem trapTaking : Obligations.TrapTaking := by
  unfold Obligations.TrapTaking
  refine ⟨fun s l x dl word => ?_, fun s l => ?_⟩
  · obtain ⟨⟨_, _, _, _, hL⟩, hslots, hrec⟩ := takeTrap_holds s l x dl word
    simp only [hL]
    refine ⟨rfl, rfl, rfl, rfl, sat_eq .., sat_eq .., rfl, rfl, rfl, hslots, hrec⟩
  · rw [show exec (.deadlineTrap l) s = execDeadlineTrap l s from rfl, execDeadlineTrap]
    split
    · next h => exact congrArg _ (if_pos h).symm
    · next h => exact congrArg _ (if_neg h).symm


/-! ### WAIT (R99, R160) -/

theorem writeCkpt_ckpt (L : Loop) (c : Ckpt) : (L.writeCkpt c).ckpt = L.ckpt ∧
    (if L.useB then (L.writeCkpt c).ckptA else (L.writeCkpt c).ckptB) = c := by
  unfold Loop.writeCkpt Loop.ckpt
  cases h : L.useB <;> simp

theorem writeCkpt_run (L : Loop) (c : Ckpt) : (L.writeCkpt c).inPeriod = L.inPeriod ∧ (L.writeCkpt c).cycles = L.cycles := by
  unfold Loop.writeCkpt
  split <;> exact ⟨rfl, rfl⟩

/-- The checkpoint in force and the buffer not in force are those of the loop's checkpoint fields. -/
theorem ckpt_congr {L M : Loop} (hu : M.useB = L.useB) (ha : M.ckptA = L.ckptA) (hb : M.ckptB = L.ckptB) : M.ckpt = L.ckpt := by
  rw [Loop.ckpt, Loop.ckpt, hu, ha, hb]

theorem wait_eq {s : State} {l : Nat} (h : s.Ready l) (d : Reg) : exec (.wait l d) s =
    .next (s.setLoop l { (s.loop l).writeCkpt ((s.loop l).checkpoint d) with
      waiting := some d.toNat, cycles := (s.loop l).cycles + (49 + (s.loop l).decl.dsize / 32) }) :=
  congrArg Host.Outcome.next
    (runInstr_setLoop h (M := { (s.loop l).writeCkpt ((s.loop l).checkpoint d) with waiting := some d.toNat }) _ _ rfl)

theorem waitRetire_eq {s : State} {l : Nat} (hp : (s.loop l).inPeriod = true) (hw : (s.loop l).waiting.isSome = true)
    (ho : s.overdue (s.loop l) = false) (hq : s.storesPosted l = false) : exec (.waitRetire l) s = .next (s.retireWait l) := by
  have hn : ¬ (!(s.loop l).inPeriod || (s.loop l).waiting.isNone) = true := by simp [hp, Option.isSome_iff_ne_none.mp hw]
  exact (if_neg hn).trans ((if_neg (by simp [ho])).trans (if_neg (by simp [hq])))

theorem periodEnd_idle {s : State} {l : Nat} (hst : (s.loop l).stopReq = false) (hcs : (s.loop l).cmdSusp = false)
    (ht4 : (s.loop l).t4Susp = false) : s.periodEnd l = s := by
  unfold State.periodEnd
  simp [hst, hcs, ht4]

/-- Settles O7: a WAIT changes its loop alone, and what its retirement changes after the loop itself is what leaving the pairs does. -/
theorem waitEndsThePeriod : Obligations.WaitEndsThePeriod := by
  unfold Obligations.WaitEndsThePeriod
  intro s l d L
  refine ⟨fun h => ⟨_, wait_eq h d, ?_⟩, fun hp hw ho hq hst hcs ht4 => ⟨_, waitRetire_eq hp hw ho hq, ?_⟩⟩
  · obtain ⟨hck, hc⟩ := writeCkpt_ckpt L (L.checkpoint d)
    obtain ⟨hin, hcyc⟩ := writeCkpt_run L (L.checkpoint d)
    have hper : L.inPeriod = true := (Bool.and_eq_true .. ▸ h.1).1
    rw [loop_setLoop_same]
    refine ⟨rfl, (ckpt_congr rfl rfl rfl).trans hck, rfl, hin.trans hper, (Nat.add_assoc ..).symm, ?_⟩
    dsimp only
    rw [hc]
    exact ⟨rfl, rfl, rfl, rfl, rfl, rfl, rfl⟩
  · unfold State.retireWait
    extract_lets L1
    obtain ⟨ha, hl⟩ := leavePair_holds (s.setLoop l L1) l L
    obtain ⟨st, hh, sr, hsr, hM⟩ := hl l
    rw [loop_setLoop_same] at hM hsr
    rw [periodEnd_idle (by rw [hM]; exact hsr hst) (by rw [hM]; exact hcs) (by rw [hM]; exact ht4), hM]
    exact ⟨rfl, rfl, rfl, rfl, rfl, rfl, rfl, ((adds_setLoop ..).step ha |>.within (by decide) (List.Subset.refl _)).1⟩

end Sys2Proof.Machine
end

section
/-! SUPPORT. A store across the end of a code segment longer than the area before the data segment (Table 2.4). -/
namespace Sys2Proof.Machine

/-- A loop that executes, whose code segment of 0x10001 bytes takes the first byte of its data segment, with g1 at that byte. -/
def longCode : Loop :=
  { Loop.free with
    state := .running, inPeriod := true, waiting := none, codeSize := 0x10001, pc := 0, g := [(1, 0x10000)],
    decl := { Loop.free.decl with dsize := 64, dl := 100, wcet := 1000 } }

/-- The machine with that loop as loop 0. -/
def longCodeState : State := { State.reset with loops := [(0, longCode)] }

theorem longCode_ready : longCodeState.Ready 0 := ⟨rfl, by decide, by decide⟩

/-- Refutes O10: the first byte of the word lies in the code segment and the last behind it, so STW traps and ends the period. -/
theorem not_storesToTheDataSegment : ¬ Obligations.StoresToTheDataSegment := by
  unfold Obligations.StoresToTheDataSegment
  intro hall
  obtain ⟨t, hx, -, ht, -⟩ := (hall longCodeState 0 0 1 0 longCode_ready).1 (by decide) (by decide) (by decide) (by decide)
  have htrap : exec (.stw 0 0 1 0 .ok) longCodeState = .next (longCodeState.takeTrap 0 ⟨2, 3, 0x10000⟩ _ _) :=
    congrArg Host.Outcome.next (store_readOnly longCode_ready _ _ _ (by decide) (by decide) ⟨0, by decide, by decide, by decide⟩)
  have hp : (t.loop 0).inPeriod = false := by
    rw [Host.Outcome.next.inj (hx.symm.trans htrap)]
    exact (takeTrap_run ..).2.1
  rw [ht] at hp
  cases hp

end Sys2Proof.Machine
end

section
/-! SUPPORT. Computations that raise sticky flags (R61, R75, R107): the value each gives, whatever flags were raised before it. -/
namespace Sys2Proof.Machine

/-- A computation gives a value whatever flags were raised before it, and adds sticky flags alone. -/
def FpM.Gives {α : Type} (m : FpM α) (v : α) : Prop := ∃ fl, fl ||| 0x3E0 = 0x3E0 ∧ ∀ x, m.run x = (v, x ||| fl)

section
variable {α β : Type} {m n : FpM α} {u v : α} {w : β}

theorem FpM.Gives.val (h : m.Gives v) : (fpRun m).1 = v := by
  obtain ⟨f, -, hv⟩ := h
  exact congrArg Prod.fst (hv 0)

theorem FpM.Gives.flags (h : m.Gives v) : (fpRun m).2 ||| 0x3E0 = 0x3E0 := by
  obtain ⟨f, hf, hv⟩ := h
  rw [fpRun, hv, Nat.zero_or, hf]

theorem FpM.Gives.cast (h : m.Gives u) (he : u = v) : m.Gives v := he ▸ h

theorem gives_pure (v : α) : FpM.Gives (pure v) v := ⟨0, rfl, fun x => congrArg (Prod.mk v) (Nat.or_zero x).symm⟩

theorem gives_raise {f : Nat} (hf : f ||| 0x3E0 = 0x3E0) : FpM.Gives (raise f) () := ⟨f, hf, fun _ => rfl⟩

theorem gives_bind {k : α → FpM β} (hm : m.Gives v) (hk : (k v).Gives w) : FpM.Gives (m >>= k) w := by
  obtain ⟨f, hf, hv⟩ := hm
  obtain ⟨g, hg, hw⟩ := hk
  refine ⟨f ||| g, by rw [Nat.or_assoc, hg, hf], fun x => ?_⟩
  calc (k (m.run x).1).run (m.run x).2 = (k v).run (x ||| f) := by rw [hv]
    _ = (w, x ||| (f ||| g)) := by rw [hw, Nat.or_assoc]

theorem gives_ite {p : Prop} [Decidable p] (hm : m.Gives u) (hn : n.Gives v) :
    FpM.Gives (if p then m else n) (if p then u else v) := by
  split
  · exact hm
  · exact hn

/-- Two computations that go on as one. -/
theorem gives_ite_bind {p : Prop} [Decidable p] {k : α → FpM β} (hm : m.Gives u) (hn : n.Gives v)
    (hk : (k (if p then u else v)).Gives w) : FpM.Gives (if p then m >>= k else n >>= k) w := by
  split
  · next hp => exact gives_bind hm (by rwa [if_pos hp] at hk)
  · next hp => exact gives_bind hn (by rwa [if_neg hp] at hk)

theorem gives_either {p : Prop} [Decidable p] (hm : m.Gives v) (hn : n.Gives v) : FpM.Gives (if p then m else n) v := by
  split
  · exact hm
  · exact hn

theorem gives_pos {p : Prop} [Decidable p] (hp : p) (hm : m.Gives v) : FpM.Gives (if p then m else n) v := by rwa [if_pos hp]

theorem gives_neg {p : Prop} [Decidable p] (hp : ¬p) (hn : n.Gives v) : FpM.Gives (if p then m else n) v := by rwa [if_neg hp]

/-- A computation that gives some value gives the one it is run for. -/
theorem gives_fpVal (h : ∃ v, m.Gives v) : m.Gives (fpVal m) := by
  obtain ⟨v, hv⟩ := h
  exact (show fpVal m = v from hv.val) ▸ hv
end

/-! ### The operations -/

theorem gives_raised {α : Type} {f : Nat} (hf : f ||| 0x3E0 = 0x3E0) (v : α) : FpM.Gives (do raise f; pure v) v :=
  gives_bind (gives_raise hf) (gives_pure v)

theorem gives_nanOf (sig : Bool) : (fpNaNOf sig).Gives fpNaN := gives_either (gives_raised rfl _) (gives_pure _)

theorem gives_invalid : fpInvalid.Gives fpNaN := gives_raised rfl _

theorem gives_deliver (neg : Bool) (m : Nat) (e : Int) (st : Bool) : ∃ v, (fpDeliver neg m e st).Gives v :=
  ⟨_, gives_ite (gives_raised rfl _) (gives_ite (gives_raised rfl _) (gives_either (gives_raised rfl _) (gives_pure _)))⟩

theorem gives_binary (a b : Word) {op : FpVal → FpVal → FpM Word} (h : ∀ u w, ∃ v, (op u w).Gives v) :
    (fpBinary a b op).Gives (fpVal (fpBinary a b op)) := by
  obtain ⟨v, hv⟩ := h (fpRead a) (fpRead b)
  exact gives_fpVal ⟨_, gives_ite (gives_nanOf _) hv⟩

theorem gives_addVal (u w : FpVal) : ∃ v, (fpAddVal u w).Gives v := by
  have hnan := fun s => (⟨_, gives_nanOf s⟩ : ∃ v, (fpNaNOf s).Gives v)
  have hpure := fun v => (⟨v, gives_pure v⟩ : ∃ u, FpM.Gives (pure v : FpM Word) u)
  unfold fpAddVal
  split
  · exact hnan _
  · exact hnan _
  · exact ⟨_, gives_ite (gives_pure _) gives_invalid⟩
  · exact hpure _
  · exact hpure _
  · exact hpure _
  · exact gives_deliver ..
  · exact gives_deliver ..
  · obtain ⟨v, hv⟩ := gives_deliver ..
    exact ⟨_, gives_ite (gives_pure _) hv⟩

theorem gives_fadd (a b : Word) : (fadd a b).Gives (addF a b) := gives_binary a b gives_addVal
theorem gives_fsub (a b : Word) : (fsub a b).Gives (subF a b) := gives_binary a b fun _ _ => gives_addVal ..

theorem gives_fmul (a b : Word) : (fmul a b).Gives (mulF a b) := by
  refine gives_binary a b fun u w => ?_
  unfold fmul.mulVal
  split
  · exact ⟨_, gives_nanOf _⟩
  · exact ⟨_, gives_nanOf _⟩
  · exact ⟨_, gives_invalid⟩
  · exact ⟨_, gives_invalid⟩
  · exact ⟨_, gives_pure _⟩
  · exact ⟨_, gives_pure _⟩
  · exact ⟨_, gives_pure _⟩
  · exact ⟨_, gives_pure _⟩
  · exact ⟨_, gives_pure _⟩
  · exact ⟨_, gives_pure _⟩
  · exact gives_deliver ..

theorem gives_fdiv (a b : Word) : (fdiv a b).Gives (divF a b) := by
  refine gives_binary a b fun u w => ?_
  unfold fdiv.divVal
  split
  · exact ⟨_, gives_nanOf _⟩
  · exact ⟨_, gives_nanOf _⟩
  · exact ⟨_, gives_invalid⟩
  · exact ⟨_, gives_invalid⟩
  · exact ⟨_, gives_pure _⟩
  · exact ⟨_, gives_pure _⟩
  · exact ⟨_, gives_pure _⟩
  · exact ⟨_, gives_pure _⟩
  · exact ⟨_, gives_pure _⟩
  · exact ⟨_, gives_raised rfl _⟩
  · exact gives_deliver ..

/-- The minimum or maximum of two words (R76). -/
def minmaxOf (wantMin : Bool) (a b : Word) : Word :=
  if fpIsNaN a && fpIsNaN b then fpNaN
  else if fpIsNaN a then fpFlush b
  else if fpIsNaN b then fpFlush a
  else match fpOrdVal (fpRead a) (fpRead b) with
    | .lt => fpFlush (if wantMin then a else b)
    | .gt => fpFlush (if wantMin then b else a)
    | _ => if bitAt (fpFlush a) 31 == wantMin then fpFlush a else fpFlush b

theorem fminmax_gives (wantMin : Bool) (a b : Word) : (fminmax wantMin a b).Gives (minmaxOf wantMin a b) := by
  unfold fminmax minmaxOf
  refine gives_either (gives_bind (gives_raise rfl) (gives_ite (gives_pure _) (gives_ite (gives_pure _) (gives_ite (gives_pure _) ?_))))
    (gives_ite (gives_pure _) (gives_ite (gives_pure _) (gives_ite (gives_pure _) ?_)))
  · cases fpOrdVal (fpRead a) (fpRead b) <;> exact gives_pure _
  · cases fpOrdVal (fpRead a) (fpRead b) <;> exact gives_pure _

theorem gives_fmin (a b : Word) : (fmin a b).Gives (fpRun (fmin a b)).1 :=
  (fminmax_gives true a b).val.symm ▸ fminmax_gives true a b
theorem gives_fmax (a b : Word) : (fmax a b).Gives (fpRun (fmax a b)).1 :=
  (fminmax_gives false a b).val.symm ▸ fminmax_gives false a b

/-- A word with a subnormal flushed reads as it did. -/
theorem fpRead_flush (w : Word) : fpRead (fpFlush w) = fpRead w := by
  unfold fpFlush
  split
  · next n h =>
    rw [h]
    cases n <;> decide
  · rfl

/-- No word is above the maximum of it and another. -/
theorem fpGt_fmax {lo : Word} (hlo : fpIsNaN lo = false) (x : Word) : fpGt lo (fpRun (fmax lo x)).1 = false := by
  rw [show (fpRun (fmax lo x)).1 = _ from (fminmax_gives false lo x).val]
  have hself : fpLt lo lo = false := Bool.eq_false_iff.mpr fun h => absurd ((fpLt_iff _ _).mp h).2.2 (lt_irrefl _)
  have hflush (w : Word) : fpGt lo (fpFlush w) = fpGt lo w := by rw [fpGt, fpGt, fpLt, fpLt, fpRead_flush]
  have hgt (h : fpGt lo x = true) : fpOrdVal (fpRead lo) (fpRead x) = .gt := by
    obtain ⟨-, hx, hk⟩ := (fpGt_iff _ _).mp h
    rw [fpOrdVal_read, hlo, hx]
    exact ordOf_gt hk
  unfold minmaxOf
  simp only [hlo, Bool.false_and, if_neg Bool.false_ne_true]
  split
  · rw [hflush]
    exact hself
  · split
    · next h =>
      rw [hflush]
      exact Bool.eq_false_iff.mpr fun hg => by rw [hgt hg] at h; cases h
    · rw [hflush]
      exact hself
    · next h =>
      split
      · rw [hflush]
        exact hself
      · rw [hflush]
        exact Bool.eq_false_iff.mpr fun hg => h (hgt hg)

/-! ### Clamping (R89) -/

/-- The limited value of R88 and R89: a NaN takes the lower limit. -/
def clampF (x lo hi : Word) : Word := if fpIsNaN x then fpFlush lo else (fpRun (fmin (fpRun (fmax x lo)).1 hi)).1

theorem fclamp_nan {x : Word} (hx : fpIsNaN x = true) (lo hi : Word) :
    fpRun (fclamp x lo hi) = ((if fpIsNaN lo then fpNaN else fpFlush lo, true), 0x200) := by
  unfold fclamp
  simp only [hx, if_true]
  split <;> rfl

theorem fclamp_reversed {lo hi : Word} (h : fpGt lo hi = true) (x : Word) : (fclamp x lo hi).Gives (fpFlush lo, true) := by
  have hlo : fpIsNaN lo = false := ((fpGt_iff _ _).mp h).1
  unfold fclamp
  simp only [hlo, h, if_true, if_neg Bool.false_ne_true]
  refine gives_either (gives_bind (gives_raise rfl) ?_) ?_
  · exact gives_either (gives_raised rfl _) (gives_pure _)
  · exact gives_either (gives_raised rfl _) (gives_pure _)

theorem fclamp_limits {x lo hi : Word} (hx : fpIsNaN x = false) (h : fpGt lo hi = false) :
    (fclamp x lo hi).Gives (clampF x lo hi, fpLt x lo || fpGt x hi) := by
  unfold fclamp clampF
  simp only [hx, h, if_neg Bool.false_ne_true]
  have hlim : FpM.Gives (do let m ← fmax x lo; let r ← fmin m hi; pure (r, fpLt x lo || fpGt x hi)) _ :=
    gives_bind (gives_fmax ..) (gives_bind (gives_fmin ..) (gives_pure _))
  exact gives_either (gives_bind (gives_raise rfl) hlim) hlim

/-- Clamping between limits in order, of a NaN too. -/
theorem fclamp_ordered {lo hi : Word} (hlo : fpIsNaN lo = false) (h : fpGt lo hi = false) (x : Word) :
    (fclamp x lo hi).Gives (clampF x lo hi, fpIsNaN x || fpLt x lo || fpGt x hi) := by
  cases hx : fpIsNaN x with
  | false =>
    rw [Bool.false_or]
    exact fclamp_limits hx h
  | true =>
    unfold fclamp clampF
    simp only [hx, hlo, if_true, if_neg Bool.false_ne_true]
    exact gives_either (gives_bind (gives_raise rfl) (gives_raised rfl _)) (gives_raised rfl _)

end Sys2Proof.Machine
end

section
/-! SUPPORT. Law instructions (R85, R86): the words a law writes to its data segment, its flags and the checks of its blocks. -/
namespace Sys2Proof.Machine

/-! ### Words written to the data segment -/

/-- A data segment with words written one after the other at addresses of the loop's view. -/
def putWords (ws : List (Nat × Word)) (m : SMap Byte) : SMap Byte := ws.foldl (fun m e => memSetWord m (e.1 - dataBase) e.2) m

/-- Two words share no byte. -/
def Apart (x y : Nat × Word) : Prop := x.1 + 4 ≤ y.1 ∨ y.1 + 4 ≤ x.1

/-- Words from the start of the data segment on, no two of which share a byte. -/
def Spread (ws : List (Nat × Word)) : Prop := (∀ e ∈ ws, 0x10000 ≤ e.1) ∧ ws.Pairwise Apart

theorem spread_cons {e : Nat × Word} {ws : List (Nat × Word)} :
    Spread (e :: ws) ↔ (0x10000 ≤ e.1 ∧ ∀ x ∈ ws, Apart e x) ∧ Spread ws := by
  simp only [Spread, List.mem_cons, forall_eq_or_imp, List.pairwise_cons]
  tauto

theorem putWords_append (ws ws' : List (Nat × Word)) (m : SMap Byte) : putWords (ws ++ ws') m = putWords ws' (putWords ws m) :=
  List.foldl_append ..

section
variable {ws : List (Nat × Word)} {m : SMap Byte}

theorem mget_putWords_ne {k : Nat} (h : ∀ e ∈ ws, k < e.1 - dataBase ∨ e.1 - dataBase + 4 ≤ k) :
    mget 0 k (putWords ws m) = mget 0 k m := by
  induction ws generalizing m with
  | nil => rfl
  | cons e ws ih =>
    obtain ⟨he, hws⟩ := List.forall_mem_cons.mp h
    refine (ih hws).trans (mget_msetList_ne _ _ _ _ _ ?_)
    rwa [length_bytesOf]

theorem memWord_congr {m m' : SMap Byte} {a : Nat} (h : ∀ k, a ≤ k → k < a + 4 → mget 0 k m' = mget 0 k m) :
    memWord m' a = memWord m a := by
  unfold memWord
  rw [h a (by omega) (by omega), h (a + 1) (by omega) (by omega), h (a + 2) (by omega) (by omega), h (a + 3) (by omega) (by omega)]

theorem memWord_putWords_ne {a : Nat} (ha : 0x10000 ≤ a) (hlo : ∀ e ∈ ws, 0x10000 ≤ e.1) (h : ∀ e ∈ ws, a + 4 ≤ e.1 ∨ e.1 + 4 ≤ a) :
    memWord (putWords ws m) (a - dataBase) = memWord m (a - dataBase) := by
  refine memWord_congr fun k hk hk' => mget_putWords_ne fun e he => ?_
  have := hlo e he
  have := h e he
  unfold dataBase at hk hk' ⊢
  omega

theorem memWord_putWords_mem (hs : Spread ws) {e : Nat × Word} (he : e ∈ ws) :
    memWord (putWords ws m) (e.1 - dataBase) = e.2 := by
  induction ws generalizing m with
  | nil => cases he
  | cons x ws ih =>
    obtain ⟨⟨hx, hap⟩, hws⟩ := spread_cons.mp hs
    rcases List.mem_cons.mp he with rfl | he
    · have hrest : memWord (putWords (e :: ws) m) (e.1 - dataBase) = memWord (memSetWord m (e.1 - dataBase) e.2) (e.1 - dataBase) :=
        memWord_putWords_ne (ws := ws) hx hws.1 hap
      rw [hrest, memSetWord, memWord_msetList_same, w32, BitVec.ofNat_toNat, BitVec.setWidth_eq]
    · exact ih hws he

/-- The bytes of equal words are equal. -/
theorem mget_of_memWord {m' : SMap Byte} {a k : Nat} (h : memWord m' a = memWord m a) (hk : a ≤ k) (hk' : k < a + 4) :
    mget 0 k m' = mget 0 k m := by
  have hbytes := congrArg BitVec.toNat h
  unfold memWord at hbytes
  have hlt (x : Byte) := x.isLt
  have h0 := hlt (mget 0 a m); have h1 := hlt (mget 0 (a + 1) m); have h2 := hlt (mget 0 (a + 2) m); have h3 := hlt (mget 0 (a + 3) m)
  have h0' := hlt (mget 0 a m'); have h1' := hlt (mget 0 (a + 1) m')
  have h2' := hlt (mget 0 (a + 2) m'); have h3' := hlt (mget 0 (a + 3) m')
  rw [toNat_w32 (by omega), toNat_w32 (by omega)] at hbytes
  obtain rfl | rfl | rfl | rfl : k = a ∨ k = a + 1 ∨ k = a + 2 ∨ k = a + 3 := by omega
  · exact BitVec.eq_of_toNat_eq (by omega)
  · exact BitVec.eq_of_toNat_eq (by omega)
  · exact BitVec.eq_of_toNat_eq (by omega)
  · exact BitVec.eq_of_toNat_eq (by omega)

/-- Of the words put, those not counted as written stood there before. -/
theorem wordsWritten_put {ws' : List (Nat × Word)} (hs : Spread ws) (hsub : ∀ e ∈ ws', e ∈ ws)
    (hsame : ∀ e ∈ ws, e ∈ ws' ∨ e.2 = memWord m (e.1 - dataBase)) : WordsWritten ws' m (putWords ws m) := by
  refine ⟨fun e he => memWord_putWords_mem hs (hsub e he), fun k hk => ?_⟩
  by_cases hin : ∃ e ∈ ws, e.1 - dataBase ≤ k ∧ k < e.1 - dataBase + 4
  · obtain ⟨e, he, hlo, hhi⟩ := hin
    rcases hsame e he with hw | hw
    · have := hk e hw
      unfold dataBase at hlo hhi
      omega
    · exact mget_of_memWord ((memWord_putWords_mem hs he).trans hw) hlo hhi
  · push Not at hin
    refine mget_putWords_ne fun e he => ?_
    have := hin e he
    omega

theorem wordsWritten_self (hs : Spread ws) : WordsWritten ws m (putWords ws m) :=
  wordsWritten_put hs (fun _ h => h) fun _ h => .inl h
end

theorem wordsWritten_nil (m : SMap Byte) : WordsWritten [] m m := ⟨by simp, fun _ _ => rfl⟩

/-! ### Flags that stick (R61) -/

/-- The sticky flags are bits 5 to 9. -/
theorem bitAt_sticky {fl : Nat} (h : fl ||| 0x3E0 = 0x3E0) {i : Nat} (hi : i < 32) (hb : bitAt (w32 fl) i = true) : 5 ≤ i ∧ i ≤ 9 := by
  have hs : ∀ i < 32, Nat.testBit 0x3E0 i = true → 5 ≤ i ∧ i ≤ 9 := by decide
  refine hs i hi ?_
  rw [bitAt_w32 hi, ← Nat.testBit_eq_decide_div_mod_eq] at hb
  rw [← h, Nat.testBit_or, hb, Bool.true_or]

section
variable {old w : Word} {f g : Nat → Option Bool}

theorem flagsStick_refl (old : Word) : FlagsStick old old fun _ => none := by
  intro i _
  split
  · exact id
  · rfl

theorem FlagsStick.congr (h : FlagsStick old w f) (hf : ∀ i, g i = f i) : FlagsStick old w g := (funext hf : g = f) ▸ h

theorem FlagsStick.setBit (h : FlagsStick old w f) {j : Nat} (hj : 10 ≤ j ∧ j < 32) (b : Bool) :
    FlagsStick old (setBit w j b) fun i => if i = j then some b else f i := by
  intro i hi
  have := h i hi
  by_cases hij : i = j
  · subst hij
    rw [if_neg (by omega), bitAt_setBit_same _ _ _ (by omega)]
    dsimp only
    rw [if_pos rfl]
    rfl
  · rw [bitAt_setBit_ne _ _ _ _ (by omega) hij]
    dsimp only
    rwa [if_neg hij]

theorem FlagsStick.stick (h : FlagsStick old w f) {fl : Nat} (hfl : fl ||| 0x3E0 = 0x3E0) : FlagsStick old (w ||| w32 fl) f := by
  intro i hi
  have hor : bitAt (w ||| w32 fl) i = (bitAt w i || bitAt (w32 fl) i) := by
    rw [bitAt_getLsb, BitVec.getLsbD_or, ← bitAt_getLsb, ← bitAt_getLsb]
  have := h i hi
  rw [hor]
  split
  · next h59 =>
    rw [if_pos h59] at this
    intro hb
    rw [this hb, Bool.true_or]
  · next h59 =>
    rw [if_neg h59] at this
    cases hb : bitAt (w32 fl) i with
    | true => exact absurd (bitAt_sticky hfl hi hb) h59
    | false => rw [Bool.or_false, this]

/-- One flag of an instruction, and what its arithmetic raises. -/
theorem flagsStick_one (old : Word) {j : Nat} (hj : 10 ≤ j ∧ j < 32) (b : Bool) :
    FlagsStick old (Machine.setBit old j b) fun i => if i = j then some b else none := (flagsStick_refl old).setBit hj b

/-- FLG.SAT and FLG.FRZ. -/
theorem flagsStick_satFrz (old : Word) (sat frz : Bool) :
    FlagsStick old (Machine.setBit (Machine.setBit old flagSAT sat) flagFRZ frz) fun i =>
      if i = 10 then some sat else if i = 11 then some frz else none := by
  refine ((flagsStick_one old (by decide) sat).setBit (by decide) frz).congr fun i => ?_
  show _ = if i = 11 then _ else if i = 10 then _ else _
  split_ifs
  · omega
  · rfl
  · rfl
  · rfl

theorem bitAt_stickNV (w : Word) : bitAt (w ||| w32 flNV) 9 = true := by
  rw [bitAt_getLsb, BitVec.getLsbD_or]
  exact Bool.or_true _
end

/-! ### Blocks of a law (R85, R86) -/

section
variable {L : Loop} {bs : List (Nat × Nat × Nat)}

theorem checkBlocks_none (h : ∀ b ∈ bs, L.HasBlock b.1 b.2.1 b.2.2) : L.checkBlocks bs = none := by
  unfold Loop.checkBlocks
  have hin : bs.find? (fun b => !L.inData b.1 b.2.1) = none := by
    rw [List.find?_eq_none]
    intro b hb
    obtain ⟨h1, h2, -⟩ := h b hb
    simpa using (inData_iff L _ _).mpr ⟨h1, h2⟩
  have hal : bs.find? (fun b => b.1 % b.2.2 != 0) = none := by
    rw [List.find?_eq_none]
    intro b hb
    simp [(h b hb).2.2]
  rw [hin, hal]

variable {a size align : Nat}

theorem checkBlocks_one (h : L.HasBlock a size align) : L.checkBlocks [(a, size, align)] = none :=
  checkBlocks_none fun b hb => by
    obtain rfl := List.mem_singleton.mp hb
    exact h

theorem checkBlocks_outside (h : ¬(0x10000 ≤ a ∧ a + size ≤ 0x10000 + L.decl.dsize)) :
    L.checkBlocks [(a, size, align)] = some ⟨2, 8, a⟩ := by
  have hin : L.inData a size = false := by simpa using mt (inData_iff L a size).mp h
  simp [Loop.checkBlocks, hin, trapAccess]

theorem checkBlocks_misaligned (h : 0x10000 ≤ a ∧ a + size ≤ 0x10000 + L.decl.dsize) (hm : a % align ≠ 0) :
    L.checkBlocks [(a, size, align)] = some ⟨3, 0, a⟩ := by
  simp [Loop.checkBlocks, (inData_iff L a size).mpr h, hm, trapAlign]
end

/-! ### A law that retires -/

/-- A loop with the result of a law in gd, its words in the data segment, and FLG. -/
def Loop.lawRes (L : Loop) (d : Reg) (v : Word) (ws : List (Nat × Word)) (flg : Word) : Loop :=
  { L.wg d v with data := putWords ws L.data, flg := flg }

/-- A loop with words written to its data segment. -/
def Loop.put (L : Loop) (ws : List (Nat × Word)) : Loop := { L with data := putWords ws L.data }

theorem put_put (L : Loop) (ws ws' : List (Nat × Word)) : (L.put ws).put ws' = L.put (ws ++ ws') := by
  unfold Loop.put
  dsimp only
  rw [putWords_append]

theorem setDw_eq_put (L : Loop) (a : Nat) (w : Word) : L.setDw a w = L.put [(a, w)] := rfl

theorem put_dw_ne {L : Loop} {ws : List (Nat × Word)} {a : Nat} (ha : 0x10000 ≤ a) (hlo : ∀ e ∈ ws, 0x10000 ≤ e.1)
    (h : ∀ e ∈ ws, a + 4 ≤ e.1 ∨ e.1 + 4 ≤ a) : (L.put ws).dw a = L.dw a := memWord_putWords_ne ha hlo h

/-- A loop with FLG changed. -/
def Loop.flagged (L : Loop) (g : Word → Word) : Loop := { L with flg := g L.flg }

section
variable (L : Loop) (i j fl : Nat) (b c : Bool)

theorem setFlag_flagged : L.setFlag i b = L.flagged fun w => setBit w i b := rfl

theorem setFlag_stick_flagged : (L.setFlag i b).stick fl = L.flagged fun w => setBit w i b ||| w32 fl := rfl

theorem setFlags_flagged : (L.setFlag i b).setFlag j c = L.flagged fun w => setBit (setBit w i b) j c := rfl

theorem setFlags_stick_flagged : ((L.setFlag i b).setFlag j c).stick fl = L.flagged fun w => setBit (setBit w i b) j c ||| w32 fl := rfl
end

section
variable {s : State} {l : Nat} {d : Reg} {v flg : Word} {ws ws' : List (Nat × Word)} {f : Nat → Option Bool} {n : Nat}

theorem flagged_wg {L M : Loop} (g : Word → Word) (hM : M = L.put ws) :
    (M.wg d v).flagged g = L.lawRes d v ws (g L.flg) := by
  subst hM
  unfold Loop.lawRes Loop.flagged Loop.put Loop.wg
  split <;> rfl

/-- The loop written back, its PC moved on and its cycles counted. -/
theorem lawDone_setLoop (hw : WordsWritten ws' (s.loop l).data (putWords ws (s.loop l).data)) (hf : FlagsStick (s.loop l).flg flg f) :
    State.LawDone l d v ws' f n s (s.setLoop l { (s.loop l).lawRes d v ws flg with
      pc := ((s.loop l).pc + 4) % 0x100000000, cycles := (s.loop l).cycles + n }) := by
  unfold State.LawDone
  rw [loop_setLoop_same]
  refine ⟨rfl, fun r => (rg_congr rfl r).trans (rg_wg (s.loop l) d r v), hf, hw, ?_⟩
  unfold Loop.lawRes
  dsimp only
  rw [wg_frame]

/-- A law that completes: the words put, gd, and FLG. -/
theorem law_done {i : Instr} {word : Word} {act : Loop → Except Trap Loop} (h : s.Ready l)
    (hi : exec i s = .next (s.law l word n act)) {M : Loop} (g : Word → Word)
    (ha : act (s.loop l) = .ok ((M.wg d v).flagged g)) (hM : M = (s.loop l).put ws)
    (hw : WordsWritten ws' (s.loop l).data (putWords ws (s.loop l).data)) (hf : FlagsStick (s.loop l).flg (g (s.loop l).flg) f) :
    ∃ t, exec i s = .next t ∧ (t.loop l).flg = g (s.loop l).flg ∧ State.LawDone l d v ws' f n s t := by
  rw [flagged_wg g hM] at ha
  refine ⟨_, hi.trans (congrArg _ ?_), ?_, lawDone_setLoop (ws := ws) hw hf⟩
  · unfold State.law
    rw [runInstr_stepLoop (f := fun _ => (s.loop l).lawRes d v ws (g (s.loop l).flg)) h _ _ (by rw [ha])]
    congr 1
    unfold Loop.lawRes
    dsimp only
    rw [wg_frame]
  · rw [loop_setLoop_same]
    rfl

theorem law_trap {word : Word} {act : Loop → Except Trap Loop} {x : Trap} (h : s.Ready l) (ha : act (s.loop l) = .error x) :
    s.law l word n act = s.takeTrap l x (s.late (s.loop l) n) word :=
  runInstr_trap h _ _ (by rw [ha])
end

end Sys2Proof.Machine
end

section
/-! SUPPORT. INTF, SLEW and CLMP (R89, R119, R127, R128, R130). -/
namespace Sys2Proof.Machine

/-! ### The laws -/

theorem intLaw_gives {lo hi : Word} (hlo : fpIsNaN lo = false) (h : fpGt lo hi = false) (k x u : Word) (held : Bool) (ts : Word) :
    let dx := mulF (mulF k u) ts
    let lim := !held && ((fpGe x hi && fpGt dx fpZero) || (fpLe x lo && fpLt dx fpZero))
    let x1 := if held || lim then x else addF x dx
    (intLaw k lo hi x u held ts).Gives
      (clampF x1 lo hi, held || lim, (fpIsNaN x1 || fpLt x1 lo || fpGt x1 hi) || lim) :=
  gives_bind (gives_fmul ..) (gives_bind (gives_fmul ..) (gives_ite_bind (gives_pure _) (gives_fadd ..)
    (gives_bind (fclamp_ordered hlo h _) (gives_pure _))))

theorem slewLaw_gives (rr fr last g ts : Word) :
    (slewLaw rr fr last g ts).Gives
      (if fpGt (subF g last) (mulF rr ts) then (addF last (mulF rr ts), true, false)
      else if fpLt (subF g last) (fpNegate (mulF fr ts)) then (subF last (mulF fr ts), false, true) else (g, false, false)) :=
  gives_bind (gives_fmul ..) (gives_bind (gives_fmul ..) (gives_bind (gives_fsub ..)
    (gives_ite (gives_bind (gives_fadd ..) (gives_pure _)) (gives_ite (gives_bind (gives_fsub ..) (gives_pure _)) (gives_pure _)))))

section
variable {rr fr last g ts : Word}

theorem slewLaw_rises (h : fpGt (subF g last) (mulF rr ts) = true) :
    (slewLaw rr fr last g ts).Gives (addF last (mulF rr ts), true, false) := by
  have hg := slewLaw_gives rr fr last g ts
  rwa [if_pos h] at hg

theorem slewLaw_falls (hup : fpGt (subF g last) (mulF rr ts) = false) (h : fpLt (subF g last) (fpNegate (mulF fr ts)) = true) :
    (slewLaw rr fr last g ts).Gives (subF last (mulF fr ts), false, true) := by
  have hg := slewLaw_gives rr fr last g ts
  rwa [if_neg (by simp [hup]), if_pos h] at hg

theorem slewLaw_arrives (hup : fpGt (subF g last) (mulF rr ts) = false) (h : fpLt (subF g last) (fpNegate (mulF fr ts)) = false) :
    (slewLaw rr fr last g ts).Gives (g, false, false) := by
  have hg := slewLaw_gives rr fr last g ts
  rwa [if_neg (by simp [hup]), if_neg (by simp [h])] at hg
end

/-! ### Finite and ordered words -/

theorem isNaN_of_isFinite {w : Word} (h : fpIsFinite w = true) : fpIsNaN w = false := by
  simp only [fpIsFinite, Bool.and_eq_true, Bool.not_eq_true'] at h
  exact h.1

theorem all_range_iff (n : Nat) (f : Nat → Word) (p : Word → Bool) :
    ((List.range n).map f).all p = true ↔ ∀ k, k < n → p (f k) = true := by simp

/-- A word above another is one that is no NaN and not at most the other. -/
theorem fpGt_eq_not_le {w z : Word} (hz : fpIsNaN z = false) : fpGt w z = true ↔ ¬(fpIsNaN w || fpLe w z) = true := by
  rw [fpGt_iff, Bool.or_eq_true, fpLe_iff]
  cases hw : fpIsNaN w with
  | true => simp
  | false => simp [hz]

/-! ### CLMP -/

section
variable {s : State} {l : Nat} (h : s.Ready l) (d a b c : Reg)
include h

theorem clmp_done {v : Word} {sat : Bool}
    (hr : (fpRun (fclamp ((s.loop l).rg a) ((s.loop l).rg b) ((s.loop l).rg c))).1 = (v, sat))
    (hfl : (fpRun (fclamp ((s.loop l).rg a) ((s.loop l).rg b) ((s.loop l).rg c))).2 ||| 0x3E0 = 0x3E0) :
    ∃ t, exec (.clmp l d a b c) s = .next t ∧
      (t.loop l).flg = setBit (s.loop l).flg 10 sat ||| w32 (fpRun (fclamp ((s.loop l).rg a) ((s.loop l).rg b) ((s.loop l).rg c))).2 ∧
      State.LawDone l d v [] (fun k => if k = 10 then some sat else none) 2 s t := by
  have hi : exec (.clmp l d a b c) s = .next (s.law l (encodeInstr (.clmp l d a b c)) 2 fun L =>
      .ok (((L.wg d (fpRun (fclamp (L.rg a) (L.rg b) (L.rg c))).1.1).setFlag flagSAT
        (fpRun (fclamp (L.rg a) (L.rg b) (L.rg c))).1.2).stick (fpRun (fclamp (L.rg a) (L.rg b) (L.rg c))).2)) := rfl
  refine law_done h hi (M := s.loop l) (ws := []) (fun w => setBit w 10 sat ||| w32 _) ?_ rfl (wordsWritten_nil _)
    ((flagsStick_one _ (by decide) sat).stick hfl)
  rw [hr]
  rfl
end

/-! ### INTF -/

/-- The integrator block at an address has every field in range (R119). -/
def Loop.IntOk (L : Loop) (A : Nat) : Prop :=
  (∀ k, k < 4 → fpIsFinite (L.dw (A + 4 * k)) = true) ∧ fpGt (L.dw (A + 4)) (L.dw (A + 8)) = false

theorem intOk_iff (L : Loop) (A : Nat) : ¬L.IntOk A ↔
    (!([L.dw A, L.dw (A + 4), L.dw (A + 8), L.dw (A + 12)].all fpIsFinite) || fpGt (L.dw (A + 4)) (L.dw (A + 8))) = true := by
  have hall := all_range_iff 4 (fun k => L.dw (A + 4 * k)) fpIsFinite
  rw [Loop.IntOk, ← hall, not_and_or, Bool.or_eq_true, Bool.not_eq_true', Bool.not_eq_false, Bool.not_eq_true]
  exact Iff.rfl

section
variable {s : State} {l : Nat} (h : s.Ready l) (d a b c : Reg) {A : Nat} (hA : ((s.loop l).rg a).toNat = A) (hb : (s.loop l).HasBlock A 16 16)
include h hA hb

theorem intf_outOfRange (hr : ¬(s.loop l).IntOk A) : ∃ t, exec (.intf l d a b c) s = .next t ∧ bitAt (t.loop l).flg 9 = true ∧
    State.LawDone l d 0x7FC00000 [] (fun k => if k = 10 then some false else if k = 11 then some true else none) 8 s t := by
  obtain ⟨t, hx, hflg, hd⟩ := law_done (i := .intf l d a b c) (d := d) (v := fpNaN) h rfl (M := s.loop l) (ws := [])
    (fun w => setBit (setBit w flagSAT false) flagFRZ true ||| w32 flNV) (by
      dsimp only
      rw [hA, checkBlocks_one hb]
      exact (if_pos ((intOk_iff ..).mp hr)).trans (congrArg Except.ok (setFlags_stick_flagged ..)))
    rfl (wordsWritten_nil _) (FlagsStick.stick (flagsStick_satFrz _ _ _) rfl)
  exact ⟨t, hx, hflg ▸ bitAt_stickNV _, hd⟩

theorem intf_nan (hr : (s.loop l).IntOk A) (hu : fpIsNaN ((s.loop l).rg b) = true) :
    ∃ t, exec (.intf l d a b c) s = .next t ∧ State.LawDone l d ((s.loop l).dw (A + 12)) []
      (fun k => if k = 10 then some false else if k = 11 then some true else none) 8 s t := by
  obtain ⟨t, hx, -, hd⟩ := law_done (i := .intf l d a b c) (d := d) (v := (s.loop l).dw (A + 12)) h rfl (M := s.loop l) (ws := [])
    (fun w => setBit (setBit w flagSAT false) flagFRZ true) (by
      dsimp only
      rw [hA, checkBlocks_one hb]
      exact (if_neg fun hn => (intOk_iff ..).mpr hn hr).trans ((if_pos hu).trans (congrArg Except.ok (setFlags_flagged ..))))
    rfl (wordsWritten_nil _) (flagsStick_satFrz _ _ _)
  exact ⟨t, hx, hd⟩

theorem intf_step (hr : (s.loop l).IntOk A) (hu : fpIsNaN ((s.loop l).rg b) = false) {y : Word} {frz sat : Bool}
    (hg : (intLaw ((s.loop l).dw A) ((s.loop l).dw (A + 4)) ((s.loop l).dw (A + 8)) ((s.loop l).dw (A + 12)) ((s.loop l).rg b)
      ((s.loop l).rg c != 0) (s.loop l).ts).Gives (y, frz, sat)) :
    ∃ t, exec (.intf l d a b c) s = .next t ∧ State.LawDone l d y [(A + 12, y)]
      (fun k => if k = 10 then some sat else if k = 11 then some frz else none) 8 s t := by
  have hspread : Spread [(A + 12, y)] := by
    have := hb.1
    simp [Spread]
    omega
  obtain ⟨t, hx, -, hd⟩ := law_done (i := .intf l d a b c) (d := d) (v := y) h rfl (M := (s.loop l).setDw (A + 12) y) (ws := [(A + 12, y)])
    (fun w => setBit (setBit w flagSAT sat) flagFRZ frz ||| w32 _) (by
      dsimp only
      rw [hA, checkBlocks_one hb]
      refine (if_neg fun hn => (intOk_iff ..).mpr hn hr).trans ((if_neg (by simp [hu])).trans ?_)
      rw [hg.val]
      exact congrArg Except.ok (setFlags_stick_flagged ..))
    rfl (wordsWritten_self hspread) (FlagsStick.stick (flagsStick_satFrz _ _ _) hg.flags)
  exact ⟨t, hx, hd⟩
end

/-! ### SLEW -/

/-- The slew block at an address has every field in range (R127). -/
def Loop.SlewOk (L : Loop) (A : Nat) : Prop :=
  fpGt (L.dw A) 0 = true ∧ fpGt (L.dw (A + 4)) 0 = true ∧ fpIsFinite (L.dw (A + 8)) = true

theorem slewOk_iff (L : Loop) (A : Nat) : ¬L.SlewOk A ↔ (fpIsNaN (L.dw A) || fpLe (L.dw A) fpZero || fpIsNaN (L.dw (A + 4)) ||
    fpLe (L.dw (A + 4)) fpZero || !fpIsFinite (L.dw (A + 8))) = true := by
  have hz : fpIsNaN 0 = false := by decide
  rw [Loop.SlewOk, fpGt_eq_not_le hz, fpGt_eq_not_le hz]
  generalize fpIsFinite (L.dw (A + 8)) = last
  unfold fpZero
  generalize fpIsNaN (L.dw A) = n, fpLe (L.dw A) 0 = z, fpIsNaN (L.dw (A + 4)) = n', fpLe (L.dw (A + 4)) 0 = z'
  revert n z n' z' last
  decide

theorem setFlag_then_flagged (L : Loop) (i : Nat) (b : Bool) (g : Word → Word) :
    (L.setFlag i b).flagged g = L.flagged fun w => g (setBit w i b) := rfl

section
variable {s : State} {l : Nat} (h : s.Ready l) (d a b : Reg) {A : Nat} (hA : ((s.loop l).rg a).toNat = A) (hb : (s.loop l).HasBlock A 16 16)
include h hA hb

/-- A slew step, by what it makes of the loop. -/
theorem slew_done (m : Bool) {last st gd : Word} {sat : Bool} (g : Word → Word) {ws : List (Nat × Word)}
    {act : Loop → Except Trap Loop} (hi : exec (.slew l d a b m) s = .next (s.law l (encodeInstr (.slew l d a b m)) 6 act))
    (ha : act (s.loop l) = .ok (((s.loop l).slewOut d A last st gd sat).flagged g))
    (hw : ws = [(A + 8, last), (A + 12, st)] ∨ ws = [(A + 12, st)] ∧ last = (s.loop l).dw (A + 8))
    (hf : FlagsStick (s.loop l).flg (g (setBit (s.loop l).flg flagSAT sat)) fun k => if k = 10 then some sat else none) :
    ∃ t, exec (.slew l d a b m) s = .next t ∧ (t.loop l).flg = g (setBit (s.loop l).flg flagSAT sat) ∧
      State.LawDone l d gd ws (fun k => if k = 10 then some sat else none) 6 s t := by
  have hspread : Spread [(A + 8, last), (A + 12, st)] := by
    have := hb.1
    simp [Spread, Apart]
    omega
  refine law_done h hi (M := ((s.loop l).setDw (A + 8) last).setDw (A + 12) st) (fun w => g (setBit w flagSAT sat))
    (ha.trans (congrArg Except.ok (setFlag_then_flagged ..))) rfl (wordsWritten_put hspread ?_ ?_) hf
  · rcases hw with rfl | ⟨rfl, -⟩
    · exact fun _ he => he
    · exact fun _ he => List.mem_cons_of_mem _ he
  · rcases hw with rfl | ⟨rfl, hl⟩
    · exact fun _ he => .inl he
    · intro e he
      rcases List.mem_cons.mp he with rfl | he
      · exact .inr hl
      · exact .inl he

theorem slew_reset : ∃ t, exec (.slew l d a b true) s = .next t ∧ State.LawDone l d ((s.loop l).rg b)
    [(A + 8, (s.loop l).rg b), (A + 12, 0)] (fun k => if k = 10 then some false else none) 6 s t := by
  obtain ⟨t, hx, -, hd⟩ := slew_done h d a b hA hb true id rfl (by
    dsimp only
    rw [hA, checkBlocks_one hb]
    rfl) (.inl rfl) (flagsStick_one _ (by decide) _)
  exact ⟨t, hx, hd⟩

theorem slew_outOfRange (hr : ¬(s.loop l).SlewOk A) : ∃ t, exec (.slew l d a b false) s = .next t ∧ bitAt (t.loop l).flg 9 = true ∧
    State.LawDone l d (if fpIsNaN ((s.loop l).rg b) then 0x7FC00000 else (s.loop l).rg b)
      [(A + 8, (s.loop l).rg b), (A + 12, 8)] (fun k => if k = 10 then some false else none) 6 s t := by
  obtain ⟨t, hx, hflg, hd⟩ := slew_done h d a b hA hb false (fun w => w ||| w32 flNV) rfl (by
    dsimp only
    rw [hA, checkBlocks_one hb]
    exact (if_neg Bool.false_ne_true).trans (if_pos ((slewOk_iff ..).mp hr))) (.inl rfl)
    (FlagsStick.stick (flagsStick_one _ (by decide) _) rfl)
  exact ⟨t, hx, hflg ▸ bitAt_stickNV _, hd⟩

theorem slew_nan (hr : (s.loop l).SlewOk A) (hg : fpIsNaN ((s.loop l).rg b) = true) : ∃ t, exec (.slew l d a b false) s = .next t ∧
    State.LawDone l d ((s.loop l).dw (A + 8)) [(A + 12, 4)] (fun k => if k = 10 then some false else none) 6 s t := by
  obtain ⟨t, hx, -, hd⟩ := slew_done h d a b hA hb false id rfl (by
    dsimp only
    rw [hA, checkBlocks_one hb]
    exact (if_neg Bool.false_ne_true).trans ((if_neg fun hn => (slewOk_iff ..).mpr hn hr).trans (if_pos hg))) (.inr ⟨rfl, rfl⟩)
    (flagsStick_one _ (by decide) _)
  exact ⟨t, hx, hd⟩

theorem slew_step (hr : (s.loop l).SlewOk A) (hg : fpIsNaN ((s.loop l).rg b) = false) {y : Word} {up down : Bool}
    (hgive : (slewLaw ((s.loop l).dw A) ((s.loop l).dw (A + 4)) ((s.loop l).dw (A + 8)) ((s.loop l).rg b) (s.loop l).ts).Gives
      (y, up, down)) :
    ∃ t, exec (.slew l d a b false) s = .next t ∧ State.LawDone l d y
      [(A + 8, y), (A + 12, BitVec.ofNat 32 (up.toNat + 2 * down.toNat))] (fun k => if k = 10 then some (up || down) else none) 6 s t := by
  obtain ⟨t, hx, -, hd⟩ := slew_done h d a b hA hb false (fun w => w ||| w32 _) rfl (by
    dsimp only
    rw [hA, checkBlocks_one hb]
    refine (if_neg Bool.false_ne_true).trans ((if_neg fun hn => (slewOk_iff ..).mpr hn hr).trans ((if_neg (by simp [hg])).trans ?_))
    rw [hgive.val]
    rfl) (.inl rfl)
    (FlagsStick.stick (flagsStick_one _ (by decide) _) hgive.flags)
  exact ⟨t, hx, hd⟩
end

/-- Settles O14: each instruction is its law on words in range, and answers a block out of range without it. -/
theorem integratorSlewAndClamp : Obligations.IntegratorSlewAndClamp := by
  unfold Obligations.IntegratorSlewAndClamp
  intro s l d a b c h L at' f clamp flag
  refine ⟨fun hx hgt => ?_, fun hx hlo => ?_, fun hgt => ?_, fun hb => ?_, fun hb hfin hgt hu => ?_, fun hb => ?_⟩
  · obtain ⟨t, hx, -, hd⟩ := clmp_done h d a b c (fclamp_limits hx hgt).val (fclamp_limits hx hgt).flags
    exact ⟨t, hx, hd⟩
  · have hn := fclamp_nan hx (L.rg b) (L.rg c)
    rw [hlo, if_neg Bool.false_ne_true] at hn
    have hfl : (fpRun (fclamp (L.rg a) (L.rg b) (L.rg c))).2 = flNV := congrArg Prod.snd hn
    obtain ⟨t, hx, hflg, hd⟩ := clmp_done h d a b c (congrArg Prod.fst hn) (by rw [hfl]; rfl)
    refine ⟨t, hx, ?_, hd⟩
    rw [hflg, hfl]
    exact bitAt_stickNV _
  · obtain ⟨t, hx, -, hd⟩ := clmp_done h d a b c (fclamp_reversed hgt _).val (fclamp_reversed hgt _).flags
    exact ⟨t, hx, hd⟩
  · exact ⟨intf_nan h d a b c rfl hb, intf_outOfRange h d a b c rfl hb⟩
  · intro dx held limit x hheld hstep
    have hlo : fpIsNaN (f 1) = false := isNaN_of_isFinite (hfin 1 (by decide))
    have hgive := intLaw_gives hlo hgt (f 0) (f 3) (L.rg b) (L.rg c != 0) L.ts
    dsimp only at hgive
    generalize hb' : (L.rg c != 0) = held' at hgive
    have hheld' : held' = true ↔ held := by simp [← hb', held]
    generalize hl : (!held' && ((fpGe (f 3) (f 2) && fpGt (mulF (mulF (f 0) (L.rg b)) L.ts) fpZero) ||
      (fpLe (f 3) (f 1) && fpLt (mulF (mulF (f 0) (L.rg b)) L.ts) fpZero))) = lim at hgive
    have hlim : lim = true ↔ limit := by
      rw [← hl, Bool.and_eq_true, Bool.or_eq_true, Bool.and_eq_true, Bool.and_eq_true, Bool.not_eq_true', ← Bool.not_eq_true, hheld']
      exact Iff.rfl
    have hx : x = if held' || lim then f 3 else addF (f 3) dx := by
      split
      · next hc => exact hheld (by rwa [Bool.or_eq_true, hheld', hlim] at hc)
      · next hc => exact hstep (by rwa [Bool.or_eq_true, hheld', hlim] at hc)
    rw [← hx] at hgive
    obtain ⟨t, hx, hd⟩ := intf_step h d a b c rfl hb ⟨hfin, hgt⟩ hu (by rw [hb']; exact hgive)
    exact ⟨t, _, _, hx, by simp only [Bool.or_eq_true, hlim, or_assoc], by rw [Bool.or_eq_true, hheld', hlim], hd⟩
  · intro g up dn diff
    refine ⟨slew_reset h d a b rfl hb, fun hr => slew_outOfRange h d a b rfl hb hr, fun h0 h1 h2 hg => ?_, fun h0 h1 h2 hg => ?_⟩
    · exact slew_nan h d a b rfl hb ⟨h0, h1, h2⟩ hg
    · have hstep {y : Word} {up down : Bool} := slew_step h d a b rfl hb ⟨h0, h1, h2⟩ hg (y := y) (up := up) (down := down)
      exact ⟨fun hup => hstep (slewLaw_rises hup), fun hup hdn => hstep (slewLaw_falls hup hdn),
        fun hup hdn => hstep (slewLaw_arrives hup hdn)⟩

end Sys2Proof.Machine
end

section
/-! SUPPORT. PIDS (R109 to R112) and the checks of every law's block (R85, R86). -/
namespace Sys2Proof.Machine

/-! ### The law in its parts -/

/-- The slope of the derivative before its filter (R111). -/
def PidBlk.slope (b : PidBlk) (y e h : Word) (der : Nat) : Word :=
  divF (mulF b.kd (if der = 0 then subF b.xp y else subF e b.xp)) h

/-- DF after a step (R111). -/
def PidBlk.nextDf (b : PidBlk) (y e h : Word) (der : Nat) (init resumed : Bool) : Word :=
  if der = 2 ∨ init = true then 0 else if resumed then b.df
  else addF (b.slope y e h der) (mulF b.af (subF b.df (b.slope y e h der)))

theorem pidDerivative_gives (b : PidBlk) (y e h : Word) (der : Nat) (init resumed : Bool) :
    (pidDerivative b y e h der init resumed).Gives
      { b with df := b.nextDf y e h der init resumed, xp := if der = 2 then b.xp else if der = 0 then y else e } := by
  unfold pidDerivative PidBlk.nextDf
  by_cases hd : der = 2 ∨ init = true
  · rw [if_pos hd]
    refine gives_pos (by tauto) (gives_bind (gives_pure _) ?_)
    rw [if_pos hd]
    exact gives_pure _
  · rw [if_neg hd]
    cases resumed with
    | true =>
      refine gives_pos (by tauto) (gives_bind (gives_pure _) ?_)
      rw [if_neg hd]
      exact gives_pure _
    | false =>
      refine gives_neg (by tauto) ?_
      have hslope : b.slope y e h der = divF (mulF b.kd (if der = 0 then subF b.xp (if der = 0 then y else e)
          else subF (if der = 0 then y else e) b.xp)) h := by
        unfold PidBlk.slope
        split <;> rfl
      rw [hslope]
      refine FpM.Gives.cast (gives_ite_bind (gives_fsub ..) (gives_fsub ..) (gives_bind (gives_fmul ..) (gives_bind (gives_fdiv ..)
        (gives_bind (gives_fsub ..) (gives_bind (gives_fmul ..) (gives_bind (gives_fadd ..) (gives_pure _))))))) ?_
      rw [if_neg hd, if_neg Bool.false_ne_true]

/-- Whether a region change takes over the integrator (R111). -/
def PidBlk.bumps (b : PidBlk) (track init : Bool) : Bool := !track && !(init && !track) && b.rcq != 0

/-- The increment of the integrator (R111). -/
def PidBlk.increment (b : PidBlk) (e h : Word) : Word := mulF (mulF b.ki e) h

/-- Whether a step does not integrate (R111). -/
def PidBlk.frozen (b : PidBlk) (p e h lo hi : Word) (freeze track init : Bool) : Bool :=
  track || (init && !track) || b.bumps track init || freeze ||
    (fpGe (addF (addF p b.i) b.df) hi && fpGt (b.increment e h) fpZero) ||
      (fpLe (addF (addF p b.i) b.df) lo && fpLt (b.increment e h) fpZero)

/-- I after a step (R111). -/
def PidBlk.nextI (b : PidBlk) (p e h lo hi : Word) (freeze track init : Bool) : Word :=
  if track then subF (subF (clampF (if fpIsNaN b.tr then b.up else b.tr) lo hi) p) b.df
  else if init && !track then subF (if fpIsNaN b.tr then b.up else b.tr) p
  else if b.bumps track init then subF (subF b.up p) b.df
  else if b.frozen p e h lo hi freeze track init then b.i else addF b.i (b.increment e h)

theorem pidIntegrate_gives {lo hi : Word} (hlo : fpIsNaN lo = false) (hlim : fpGt lo hi = false) (b : PidBlk) (p e h : Word)
    (freeze track init : Bool) : (pidIntegrate b p e h lo hi freeze track init).Gives
      ({ b with i := b.nextI p e h lo hi freeze track init, rcq := if b.bumps track init then 0 else b.rcq },
        !b.frozen p e h lo hi freeze track init, init && !track, b.bumps track init) := by
  unfold pidIntegrate
  cases track with
  | true => exact gives_bind (fclamp_ordered hlo hlim _) (gives_bind (gives_fsub ..) (gives_bind (gives_fsub ..)
      (FpM.Gives.cast (gives_pure _) (by simp [PidBlk.bumps, PidBlk.frozen, PidBlk.nextI]))))
  | false =>
    cases init with
    | true => exact gives_bind (gives_fsub ..) (FpM.Gives.cast (gives_pure _) (by simp [PidBlk.bumps, PidBlk.frozen, PidBlk.nextI]))
    | false =>
      refine gives_neg Bool.false_ne_true (gives_neg Bool.false_ne_true ?_)
      have hb : b.bumps false false = (b.rcq != 0) := rfl
      by_cases hq : b.rcq = 0
      · replace hb : b.bumps false false = false := by rw [hb, hq]; rfl
        refine gives_neg (not_not.mpr hq) (FpM.Gives.cast (gives_bind (gives_fmul ..) (gives_bind (gives_fmul ..)
          (gives_bind (gives_fadd ..) (gives_bind (gives_fadd ..) (gives_ite (gives_pure _) (gives_bind (gives_fadd ..) (gives_pure _))))))) ?_)
        simp only [PidBlk.nextI, PidBlk.frozen, hb, PidBlk.increment, Bool.false_or, Bool.false_and, if_neg Bool.false_ne_true]
        generalize (freeze || (fpGe (addF (addF p b.i) b.df) hi && fpGt (mulF (mulF b.ki e) h) fpZero) ||
          (fpLe (addF (addF p b.i) b.df) lo && fpLt (mulF (mulF b.ki e) h) fpZero)) = held
        cases held <;> rfl
      · replace hb : b.bumps false false = true := by rw [hb, bne_iff_ne]; exact hq
        exact gives_pos hq (gives_bind (gives_fsub ..) (gives_bind (gives_fsub ..)
          (FpM.Gives.cast (gives_pure _) (by simp [PidBlk.frozen, PidBlk.nextI, hb]))))

/-! ### The step -/

/-- The upper limit in force: brought to TR where MINS has not selected the block (R111). -/
def PidBlk.upper (b : PidBlk) : Word := if bitAt b.st 5 then (fpRun (fmax b.umin (fpRun (fmin b.umax b.tr)).1)).1 else b.umax

/-- The block after the derivative, and after the integrator. -/
def PidBlk.derived (b : PidBlk) (y r h : Word) (m : BitVec 5) : PidBlk :=
  { b with
    df := b.nextDf y (subF r y) h (m.toNat / 8) (m.getLsbD 2) (bitAt b.st 6)
    xp := if m.toNat / 8 = 2 then b.xp else if m.toNat / 8 = 0 then y else subF r y }

/-- What PIDS gives on a block in range with operands that are no NaN (R110, R111). -/
def PidBlk.stepped (b : PidBlk) (y r h : Word) (m : BitVec 5) : PidRes :=
  let e := subF r y
  let p := mulF b.kp e
  let b1 := b.derived y r h m
  let held := b1.frozen p e h b.umin b.upper (m.getLsbD 0) (m.getLsbD 1) (m.getLsbD 2)
  let bump := b1.bumps (m.getLsbD 1) (m.getLsbD 2)
  let i := b1.nextI p e h b.umin b.upper (m.getLsbD 0) (m.getLsbD 1) (m.getLsbD 2)
  let v := addF (addF p i) b1.df
  let u := clampF v b.umin b.upper
  let sath := fpGt v b.upper
  let satl := fpLt v b.umin
  ⟨{ b1 with
      i := i, rcq := if bump then 0 else b1.rcq, up := u
      st := pidSt (bitAt b.st 0 || (m.getLsbD 2 && !m.getLsbD 1)) sath satl held (m.getLsbD 1) (bitAt b.st 5) false bump false },
    u, sath || satl, held⟩

/-- The fields of a block in range (Table 3.10). -/
def PidBlk.InRange (b : PidBlk) : Prop :=
  [b.kp, b.ki, b.kd, b.af, b.umin, b.umax, b.i, b.df, b.xp, b.up].all fpIsFinite = true ∧ fpLt b.af 0 = false ∧
    fpLt b.af 0x3F800000 = true ∧ fpGt b.umin b.umax = false

theorem fpGe_eq_not_lt {w z : Word} (hw : fpIsNaN w = false) (hz : fpIsNaN z = false) : fpGe w z = !fpLt w z := by
  rw [Bool.eq_iff_iff, Bool.not_eq_true', ← Bool.not_eq_true, fpGe_iff, fpLt_iff]
  simp [hw, hz]

theorem inRange_iff (b : PidBlk) : b.InRange ↔ b.outOfRange = false := by
  unfold PidBlk.InRange PidBlk.outOfRange
  by_cases hall : [b.kp, b.ki, b.kd, b.af, b.umin, b.umax, b.i, b.df, b.xp, b.up].all fpIsFinite = true
  · have haf : fpIsNaN b.af = false := isNaN_of_isFinite (List.all_eq_true.mp hall _ (by simp))
    rw [fpGe_eq_not_lt haf (by decide : fpIsNaN fpOne = false), hall]
    simp [fpZero, fpOne, and_assoc]
  · simp [hall]

theorem PidBlk.InRange.umin {b : PidBlk} (h : b.InRange) : fpIsNaN b.umin = false :=
  isNaN_of_isFinite (List.all_eq_true.mp h.1 _ (by simp))

theorem pidLaw_steps {b : PidBlk} {y r : Word} (hb : b.InRange) (hy : fpIsNaN y = false) (hr : fpIsNaN r = false) (h : Word)
    (m : BitVec 5) : (pidLaw b y r h m).Gives (b.stepped y r h m) := by
  have hlo : fpIsNaN b.umin = false := hb.umin
  have hord : fpGt b.umin b.umax = false := hb.2.2.2
  unfold pidLaw PidBlk.stepped
  refine gives_neg (by simp [(inRange_iff b).mp hb]) (gives_neg (by simp [hy, hr]) (gives_bind (gives_fsub ..) (gives_bind (gives_fmul ..)
    (gives_bind (pidDerivative_gives ..) ?_))))
  unfold PidBlk.upper
  cases hn : bitAt b.st 5 with
  | true =>
    refine gives_pos rfl (gives_bind (gives_fmin ..) (gives_bind (gives_fmax ..) (gives_bind (pidIntegrate_gives hlo (fpGt_fmax hlo _) ..)
      (gives_bind (gives_fadd ..) (gives_bind (gives_fadd ..) (gives_bind (fclamp_ordered hlo (fpGt_fmax hlo _) _) ?_))))))
    exact FpM.Gives.cast (gives_pure _) (by simp [PidBlk.derived])
  | false =>
    refine gives_neg Bool.false_ne_true (gives_bind (gives_pure _) (gives_bind (pidIntegrate_gives hlo hord ..)
      (gives_bind (gives_fadd ..) (gives_bind (gives_fadd ..) (gives_bind (fclamp_ordered hlo hord _) ?_)))))
    exact FpM.Gives.cast (gives_pure _) (by simp [PidBlk.derived])

theorem pidLaw_holds {b : PidBlk} {y r : Word} (hb : b.InRange) (hn : fpIsNaN y = true ∨ fpIsNaN r = true) (h : Word) (m : BitVec 5) :
    (pidLaw b y r h m).Gives
      ⟨{ b with st := pidSt (bitAt b.st 0 || (m.getLsbD 2 && !m.getLsbD 1)) false false true false (bitAt b.st 5) true false false },
        b.up, false, true⟩ :=
  gives_neg (by simp [(inRange_iff b).mp hb]) (gives_pos (by simpa using hn) (gives_pure _))

theorem pidLaw_bad {b : PidBlk} (hb : ¬b.InRange) (y r h : Word) (m : BitVec 5) : fpRun (pidLaw b y r h m) =
    (⟨{ b with up := fpNaN, st := pidSt (bitAt b.st 0) false false true false (bitAt b.st 5) false false true }, fpNaN, false, true⟩,
      flNV) := by
  have ho : b.outOfRange = true := by rwa [inRange_iff, Bool.not_eq_false] at hb
  unfold pidLaw
  simp only [ho, if_true]
  rfl

/-! ### PIDS -/

/-- The words PIDS writes to its block (R109). -/
def PidBlk.words (b : PidBlk) (A : Nat) : List (Nat × Word) :=
  [(A + 24, b.i), (A + 28, b.df), (A + 32, b.xp), (A + 36, b.up), (A + 44, b.rcq), (A + 48, b.st)]

theorem writePid_eq (L : Loop) (A : Nat) (b : PidBlk) : L.writePid A b = L.put (b.words A) := by
  simp only [Loop.writePid, setDw_eq_put, put_put]
  rfl

theorem spread_pidWords {A : Nat} (hA : 0x10000 ≤ A) (b : PidBlk) : Spread (b.words A) := by
  simp [Spread, Apart, PidBlk.words]
  omega

section
variable {s : State} {l : Nat} (h : s.Ready l) (d a b c : Reg) (m : BitVec 5) {A : Nat} (hA : ((s.loop l).rg a).toNat = A)
  (hb : (s.loop l).HasBlock A 64 64)
include h hA hb

theorem pids_done {r : PidRes} {fl : Nat} (hfl : fl ||| 0x3E0 = 0x3E0) {ws : List (Nat × Word)}
    (hr : fpRun (pidLaw ((s.loop l).readPid A) ((s.loop l).rg b) ((s.loop l).rg c) (s.loop l).ts m) = (r, fl))
    (hsub : ∀ e ∈ ws, e ∈ r.blk.words A) (hsame : ∀ e ∈ r.blk.words A, e ∈ ws ∨ e.2 = (s.loop l).dw e.1) :
    ∃ t, exec (.pids l d a b c m) s = .next t ∧
      (t.loop l).flg = setBit (setBit (s.loop l).flg flagSAT r.sat) flagFRZ r.frz ||| w32 fl ∧
      State.LawDone l d r.u ws (fun k => if k = 10 then some r.sat else if k = 11 then some r.frz else none) 22 s t := by
  refine law_done (i := .pids l d a b c m) (v := r.u) h rfl (fun w => setBit (setBit w flagSAT r.sat) flagFRZ r.frz ||| w32 fl) ?_
    (writePid_eq (s.loop l) A r.blk) (wordsWritten_put (spread_pidWords hb.1 r.blk) hsub hsame)
    (FlagsStick.stick (flagsStick_satFrz _ _ _) hfl)
  dsimp only
  rw [hA, checkBlocks_one hb]
  dsimp only
  rw [hr]
  exact congrArg Except.ok (setFlags_stick_flagged ..)
end

/-! ### The checks of a law's block -/

section
variable {s : State} {l : Nat} (h : s.Ready l) (a : Reg) {i : Instr} {A n : Nat} (size align : Nat)

/-- What the check of a law's block comes to (R85, R86). -/
def State.Checked (s : State) (l : Nat) (i : Instr) (A size align n : Nat) : Prop :=
  (¬(0x10000 ≤ A ∧ A + size ≤ 0x10000 + (s.loop l).decl.dsize) →
    exec i s = .next (s.takeTrap l ⟨2, 8, A⟩ (s.late (s.loop l) n) (encodeInstr i))) ∧
  (0x10000 ≤ A ∧ A + size ≤ 0x10000 + (s.loop l).decl.dsize → A % align ≠ 0 →
    exec i s = .next (s.takeTrap l ⟨3, 0, A⟩ (s.late (s.loop l) n) (encodeInstr i)))

theorem checked_of_trap (hx : ∀ x, (s.loop l).checkBlocks [(A, size, align)] = some x →
    exec i s = .next (s.takeTrap l x (s.late (s.loop l) n) (encodeInstr i))) : s.Checked l i A size align n :=
  ⟨fun ho => hx _ (checkBlocks_outside ho), fun hin hm => hx _ (checkBlocks_misaligned hin hm)⟩

include h in
theorem law_checked {act : Loop → Except Trap Loop} (hi : exec i s = .next (s.law l (encodeInstr i) n act))
    (ha : ∀ x, (s.loop l).checkBlocks [(A, size, align)] = some x → act (s.loop l) = .error x) : s.Checked l i A size align n :=
  checked_of_trap size align fun x hx => hi.trans (congrArg _ (law_trap h (ha x hx)))
end

theorem sched_trap {s : State} {l : Nat} (h : s.Ready l) (d a b c : Reg) {x : Trap}
    (hx : (s.loop l).checkBlocks [(((s.loop l).rg a).toNat, 128, 64)] = some x) : exec (.sched l d a b c) s =
      .next (s.takeTrap l x (s.late (s.loop l) 12) (encodeInstr (.sched l d a b c))) := by
  have hs : (s.loop l).sched d ((s.loop l).rg a).toNat ((s.loop l).rg b) ((s.loop l).rg c) = .error x := by
    unfold Loop.sched
    rw [hx]
  rw [show exec (.sched l d a b c) s = execSched l d a b c s from rfl, execSched, hs]
  exact congrArg _ (law_trap h (by rw [hs]))

/-- Settles O13: PIDS is the law in its parts on a block in range, and every law checks its block first. -/
theorem pidStep : Obligations.PidStep := by
  unfold Obligations.PidStep
  refine ⟨fun s l d a b c m h hm => ?_, fun s l d a b c m k h => ?_⟩
  · intro L at' f y r ts st inRange freeze track init der e p xd slope df lo hi clamp aim bump di v0 frozen integ v sath satl stWord flags hb
    have hin : (L.readPid at').InRange ↔ inRange := and_congr (all_range_iff 10 f fpIsFinite) Iff.rfl
    refine ⟨fun hr hy hz => ?_, fun hr hn => ?_, fun hr => ?_⟩
    · have hg := pidLaw_steps (hin.mpr hr) hy hz ts m
      obtain ⟨t, hx, -, hd⟩ := pids_done h d a b c m rfl hb hg.flags (Prod.ext hg.val rfl) (fun _ he => he) fun _ he => .inl he
      exact ⟨t, hx, hd⟩
    · have hg := pidLaw_holds (hin.mpr hr) hn ts m
      obtain ⟨t, hx, -, hd⟩ := pids_done h d a b c m rfl hb hg.flags (Prod.ext hg.val rfl)
        (ws := [(at' + 48, stWord (bitAt st 0 || init) false false true false true false false)])
        (fun e he => List.mem_singleton.mp he ▸ .tail _ (.tail _ (.tail _ (.tail _ (.tail _ (.head _)))))) (by
          simp only [PidBlk.words, List.forall_mem_cons]
          exact ⟨.inr rfl, .inr rfl, .inr rfl, .inr rfl, .inr rfl, .inl (.head _), fun _ he => nomatch he⟩)
      exact ⟨t, hx, hd⟩
    · obtain ⟨t, hx, hflg, hd⟩ := pids_done h d a b c m rfl hb (fl := flNV) rfl (pidLaw_bad (mt hin.mp hr) y r ts m)
        (ws := [(at' + 36, 0x7FC00000), (at' + 48, stWord (bitAt st 0) false false true false false false true)])
        (by
          simp only [PidBlk.words, List.forall_mem_cons]
          exact ⟨.tail _ (.tail _ (.tail _ (.head _))), .tail _ (.tail _ (.tail _ (.tail _ (.tail _ (.head _))))), fun _ he => nomatch he⟩) (by
          simp only [PidBlk.words, List.forall_mem_cons]
          exact ⟨.inr rfl, .inr rfl, .inr rfl, .inl (.head _), .inr rfl, .inl (.tail _ (.head _)), fun _ he => nomatch he⟩)
      exact ⟨t, hx, hflg ▸ bitAt_stickNV _, hd⟩
  · intro L at' inside traps checked n
    exact ⟨law_checked h 64 64 rfl fun x hx => by dsimp only; rw [hx],
      law_checked h 64 64 rfl fun x hx => by dsimp only; rw [hx],
      law_checked h 16 16 rfl fun x hx => by dsimp only; rw [hx],
      checked_of_trap 128 64 fun x hx => sched_trap h d a b c hx,
      checked_of_trap 32 32 fun x hx => congrArg _ (runMem_trap h _ (by dsimp only; rw [hx])),
      law_checked h 16 16 rfl fun x hx => by dsimp only; rw [hx],
      law_checked h 16 16 rfl fun x hx => by dsimp only; rw [hx],
      law_checked h 32 32 rfl fun x hx => by dsimp only; rw [hx]⟩

end Sys2Proof.Machine
end

section
/-! SUPPORT. SKIM and PLAUS (R124, R125, R129, R130). -/
namespace Sys2Proof.Machine

/-! ### A law that reads memory -/

section
variable {s u : State} {l n : Nat} {d : Reg} {v : Word} {ws ws' : List (Nat × Word)} {fl : Nat → Option Bool}

theorem retire_eq {f : Loop → Loop} {M : Loop} (g : Word → Word) (ha : f (u.loop l) = (M.wg d v).flagged g) (hM : M = (u.loop l).put ws) :
    u.retire l n f = u.setLoop l { (u.loop l).lawRes d v ws (g (u.loop l).flg) with
      pc := ((u.loop l).pc + 4) % 0x100000000, cycles := (u.loop l).cycles + n } := by
  unfold State.retire State.stepLoop
  dsimp only
  rw [ha, flagged_wg g hM]
  unfold Loop.lawRes
  dsimp only
  rw [wg_frame]

/-- A law that retires: the words put, gd, and FLG. -/
theorem retire_done {i : Instr} {f : Loop → Loop} (hx : exec i s = .next (u.retire l n f)) {M : Loop} (g : Word → Word)
    (ha : f (u.loop l) = (M.wg d v).flagged g) (hM : M = (u.loop l).put ws)
    (hw : WordsWritten ws' (u.loop l).data (putWords ws (u.loop l).data)) (hf : FlagsStick (u.loop l).flg (g (u.loop l).flg) fl) :
    ∃ t, exec i s = .next t ∧ (t.loop l).flg = g (u.loop l).flg ∧ State.LawDone l d v ws' fl n u t := by
  rw [retire_eq g ha hM] at hx
  refine ⟨_, hx, ?_, lawDone_setLoop hw hf⟩
  rw [loop_setLoop_same]
  rfl

/-- A write to the data segment and a retirement after it are one retirement. -/
theorem retire_put (f : Loop → Loop) : (s.setLoop l ((s.loop l).put ws)).retire l n f = s.retire l n fun L => f (L.put ws) := by
  unfold State.retire State.stepLoop
  rw [loop_setLoop_same, setLoop_setLoop]
  rfl
end

/-! ### SKIM -/

theorem skimLearn_gives (fg kl m e : Word) : (skimLearn fg kl m e).Gives (addF (mulF fg m) (mulF kl e)) :=
  gives_bind (gives_fmul ..) (gives_bind (gives_fmul ..) (gives_fadd ..))

/-- The Skim block's fields are in range (R125). -/
def SkimOk (n pos lead : Nat) (kl fg : Word) : Prop :=
  4 ≤ n ∧ n ≤ 65536 ∧ pos < n ∧ lead < n ∧ fpIsFinite kl = true ∧ fpGt fg 0 = true ∧ fpGt fg 0x3F800000 = false

theorem skimOk_iff (n pos lead : Nat) (kl fg : Word) : SkimOk n pos lead kl fg ↔ skimBad n pos lead kl fg = false := by
  unfold SkimOk skimBad
  rw [fpGt_eq_not_le (by decide : fpIsNaN 0 = false)]
  simp only [Bool.or_eq_false_iff, decide_eq_false_iff_not, Bool.not_eq_false', fpZero, fpOne, Bool.not_eq_true, not_lt, not_le]
  tauto

section
variable {s : State} {l : Nat} (h : s.Ready l) (d a b : Reg) (k : SkimOp) {A : Nat} (hA : ((s.loop l).rg a).toNat = A)
  (hb : (s.loop l).HasBlock A 32 32)
include h hA hb

theorem skim_outOfRange (hr : ¬SkimOk ((s.loop l).dw A).toNat ((s.loop l).dw (A + 4)).toNat ((s.loop l).dw (A + 8)).toNat
      ((s.loop l).dw (A + 12)) ((s.loop l).dw (A + 16))) :
    ∃ t, exec (.skim l d a b k) s = .next t ∧ bitAt (t.loop l).flg 9 = true ∧
      State.LawDone l d 0 [(A + 24, setBit ((s.loop l).dw (A + 24) &&& 7) 2 true)] (fun _ => none) 16 s t := by
  have hx : exec (.skim l d a b k) s = .next (s.retire l 16 fun L =>
      ((L.setDw (A + 24) (setBit ((s.loop l).dw (A + 24) &&& 7) 2 true)).wg d 0).stick flNV) := by
    refine congrArg _ (runMem_done h _ ?_)
    dsimp only
    rw [hA, checkBlocks_one hb]
    exact if_pos (by rwa [skimOk_iff, Bool.not_eq_false] at hr)
  have hspread : Spread [(A + 24, setBit ((s.loop l).dw (A + 24) &&& 7) 2 true)] := by
    have := hb.1
    simp [Spread]
    omega
  obtain ⟨t, hx, hflg, hd⟩ := retire_done hx (fun w => w ||| w32 flNV) rfl rfl (wordsWritten_self hspread)
    (FlagsStick.stick (flagsStick_refl _) rfl)
  exact ⟨t, hx, hflg ▸ bitAt_stickNV _, hd⟩
end

theorem skimReads_ok (s : State) (l : Nat) (local' : Bool) {es : List (Nat × Ecc)} (he : ∀ e ∈ es, e.2 = .ok) :
    s.skimReads l local' es = .ok s := by
  induction es with
  | nil => rfl
  | cons e es ih =>
    obtain ⟨a, x⟩ := e
    obtain ⟨rfl, hes⟩ : x = .ok ∧ ∀ e ∈ es, e.2 = .ok := List.forall_mem_cons.mp he
    have hx : s.skimEcc l a local' .ok = some s := by
      cases local' <;> rfl
    rw [State.skimReads, hx]
    exact ih hes

/-- What a step of SKIM does to its loop (R125). -/
def skimStep (A n pos : Nat) (d : Reg) (read : Word) (learn nan : Bool) (fl : Nat) (L : Loop) : Loop :=
  (((L.setDw (A + 4) (w32 ((pos + 1) % n))).setDw (A + 24) (w32 ((learn && !nan).toNat + 2 * (learn && nan).toNat))).wg d read).stick
    (if learn && !nan then fl else 0)

section
variable {s : State} {l : Nat} (h : s.Ready l) (d a b : Reg) (learn : Bool) {A n pos lead ma : Nat} (hA : ((s.loop l).rg a).toNat = A)
  (hb : (s.loop l).HasBlock A 32 32) (hn : ((s.loop l).dw A).toNat = n) (hpos : ((s.loop l).dw (A + 4)).toNat = pos)
  (hlead : ((s.loop l).dw (A + 8)).toNat = lead) (hma : ((s.loop l).dw (A + 20)).toNat = ma)
  (hr : SkimOk n pos lead ((s.loop l).dw (A + 12)) ((s.loop l).dw (A + 16))) (h4 : ma % 4 = 0)
include h hA hb hn hpos hlead hma hr h4

/-- SKIM on an array in the data segment. -/
theorem skim_local (hl : (s.loop l).inData ma (4 * n) = true) {r : Word × Nat}
    (hlearn : fpRun (skimLearn ((s.loop l).dw (A + 16)) ((s.loop l).dw (A + 12)) ((s.loop l).dw (ma + 4 * pos)) ((s.loop l).rg b)) = r) :
    exec (.skim l d a b ⟨learn, .ok, .ok⟩) s = .next ((if learn && !fpIsNaN ((s.loop l).rg b) then
        s.setLoop l ((s.loop l).setDw (ma + 4 * pos) r.1) else s).retire l 16
      (skimStep A n pos d ((s.loop l).dw (ma + 4 * ((pos + lead) % n))) learn (fpIsNaN ((s.loop l).rg b)) r.2)) := by
  refine congrArg _ (runMem_done h _ ?_)
  dsimp only
  rw [hA, checkBlocks_one hb]
  dsimp only
  rw [hn, hpos, hlead, hma, if_neg (by simp [(skimOk_iff ..).mp hr]), hl, if_neg (by simp), if_neg (by simp [h4]), skimReads_ok]
  · simp only [if_true, List.find?_nil, State.skimWord, State.skimPut, hl, hlearn]
    rfl
  · exact List.forall_mem_cons.mpr ⟨rfl, fun e he => by split at he <;> simp_all⟩

/-- SKIM on an array in cell shared data whose words are good. -/
theorem skim_shared (hl : (s.loop l).inData ma (4 * n) = false) (hin : (s.cell (s.loop l).cell).inShared ma (4 * n) = true)
    (hplayed : s.sharedBad l (ma + 4 * ((pos + lead) % n)) = false)
    (hgood : (learn && !fpIsNaN ((s.loop l).rg b)) = true → s.sharedBad l (ma + 4 * pos) = false) {r : Word × Nat}
    (hlearn : fpRun (skimLearn ((s.loop l).dw (A + 16)) ((s.loop l).dw (A + 12))
      ((s.seen l).sharedWord (ma + 4 * pos - sharedBase)) ((s.loop l).rg b)) = r) :
    exec (.skim l d a b ⟨learn, .ok, .ok⟩) s = .next ((if learn && !fpIsNaN ((s.loop l).rg b) then
        s.post l (ma + 4 * pos - sharedBase) (bytesOf 4 r.1.toNat) else s).draw.retire l
          (16 + s.sharedCount (s.loop l).cell (ma + 4 * ((pos + lead) % n) - sharedBase))
      (skimStep A n pos d ((s.seen l).sharedWord (ma + 4 * ((pos + lead) % n) - sharedBase)) learn
        (fpIsNaN ((s.loop l).rg b)) r.2)) := by
  have hfind : ((ma + 4 * ((pos + lead) % n)) :: (if learn && !fpIsNaN ((s.loop l).rg b) then [ma + 4 * pos] else [])).find?
      (s.sharedBad l) = none := by
    rw [List.find?_cons_of_neg (by simp [hplayed])]
    split
    · next hlr => rw [List.find?_cons_of_neg (by simp [hgood hlr]), List.find?_nil]
    · rfl
  refine congrArg _ (runMem_done h _ ?_)
  dsimp only
  rw [hA, checkBlocks_one hb]
  dsimp only
  rw [hn, hpos, hlead, hma, if_neg (by simp [(skimOk_iff ..).mp hr]), hl, if_neg (by simp [hin]), if_neg (by simp [h4]), skimReads_ok]
  · simp only [if_neg Bool.false_ne_true, hfind, State.skimWord, State.skimPut, hl, hlearn]
    rfl
  · exact List.forall_mem_cons.mpr ⟨rfl, fun e he => by split at he <;> simp_all⟩
end

/-- The words SKIM writes to its block. -/
def skimHead (A n pos : Nat) (st : Word) : List (Nat × Word) := [(A + 4, BitVec.ofNat 32 ((pos + 1) % n)), (A + 24, st)]

section
variable {s u : State} {l : Nat} {d : Reg} {i : Instr} {A n pos c : Nat} {read : Word} {learn nan : Bool} {fl : Nat}
  (hx : exec i s = .next (u.retire l c (skimStep A n pos d read learn nan fl))) (hlo : 0x10000 ≤ A) (hfl : fl ||| 0x3E0 = 0x3E0)
include hx hlo hfl

theorem skim_done : ∃ t, exec i s = .next t ∧ State.LawDone l d read
    (skimHead A n pos (w32 ((learn && !nan).toNat + 2 * (learn && nan).toNat))) (fun _ => none) c u t := by
  have hspread : Spread (skimHead A n pos (w32 ((learn && !nan).toNat + 2 * (learn && nan).toNat))) := by
    simp [Spread, Apart, skimHead]
    omega
  obtain ⟨t, ht, -, hd⟩ := retire_done hx (fun w => w ||| w32 (if learn && !nan then fl else 0)) rfl rfl (wordsWritten_self hspread)
    (FlagsStick.stick (flagsStick_refl _) (by split; exact hfl; rfl))
  exact ⟨t, ht, hd⟩
end

/-- A step of SKIM that learns in the data segment. -/
theorem skim_learned {s : State} {l : Nat} {d : Reg} {i : Instr} {A n pos c x : Nat} {read v : Word} {learn nan : Bool} {fl : Nat}
    (hx : exec i s = .next ((s.setLoop l ((s.loop l).setDw x v)).retire l c (skimStep A n pos d read learn nan fl)))
    (hlo : 0x10000 ≤ A) (hxlo : 0x10000 ≤ x) (hap : x + 4 ≤ A ∨ A + 32 ≤ x) (hfl : fl ||| 0x3E0 = 0x3E0) :
    ∃ t, exec i s = .next t ∧ State.LawDone l d read
      (skimHead A n pos (w32 ((learn && !nan).toNat + 2 * (learn && nan).toNat)) ++ [(x, v)]) (fun _ => none) c s t := by
  have hspread : Spread ((x, v) :: skimHead A n pos (w32 ((learn && !nan).toNat + 2 * (learn && nan).toNat))) := by
    simp [Spread, Apart, skimHead]
    omega
  have hw : WordsWritten (skimHead A n pos (w32 ((learn && !nan).toNat + 2 * (learn && nan).toNat)) ++ [(x, v)]) (s.loop l).data
      (putWords ((x, v) :: skimHead A n pos (w32 ((learn && !nan).toNat + 2 * (learn && nan).toNat))) (s.loop l).data) := by
    refine wordsWritten_put hspread (fun e he => ?_) fun e he => .inl ?_
    · simpa [or_comm] using he
    · simpa [or_comm] using he
  rw [setDw_eq_put, retire_put] at hx
  obtain ⟨t, ht, -, hd⟩ := retire_done hx (fun w => w ||| w32 (if learn && !nan then fl else 0)) rfl rfl hw
    (FlagsStick.stick (flagsStick_refl _) (by split; exact hfl; rfl))
  exact ⟨t, ht, hd⟩

/-! ### PLAUS -/

/-- The plausibility block's fields are in range (R129). -/
def PlausOk (band : Word) (nf nr ver : Nat) : Prop :=
  fpIsFinite band = true ∧ fpGt band 0 = true ∧ 1 ≤ nf ∧ nf ≤ 65535 ∧ 1 ≤ nr ∧ nr ≤ 65535 ∧ ver ≤ 2

theorem plausOk_iff (band : Word) (nf nr ver : Nat) : ¬PlausOk band nf nr ver ↔ (!fpIsFinite band || fpLe band fpZero || nf == 0 ||
    decide (65535 < nf) || nr == 0 || decide (65535 < nr) || decide (2 < ver)) = true := by
  unfold PlausOk fpZero
  rw [fpGt_eq_not_le (by decide : fpIsNaN 0 = false)]
  have hnan (hf : fpIsFinite band = true) : fpIsNaN band = false := isNaN_of_isFinite hf
  simp only [Bool.or_eq_true, Bool.not_eq_true', decide_eq_true_eq, beq_iff_eq]
  generalize fpLe band 0 = low
  by_cases hf : fpIsFinite band = true
  · rw [hnan hf]
    cases low with
    | true => simp
    | false =>
      simp only [hf, Bool.false_eq_true, Bool.true_eq_false, false_or, true_and, not_false_eq_true, not_and, not_le]
      omega
  · simp [hf]

/-- Table 3.9 as two cases: an implausible value recovers, another fails. -/
theorem plausNext_eq {ver nf nr : Nat} (cnt : Nat) (dev : Bool) (hnf : 1 ≤ nf) (hver : ver ≤ 2) : plausNext ver cnt dev nf nr =
    if ver = 2 then (if dev then (2, 0) else if nr ≤ cnt + 1 then (0, 0) else (2, cnt + 1))
    else if dev then (if nf ≤ (if ver = 0 then 0 else cnt) + 1 then (2, 0) else (1, (if ver = 0 then 0 else cnt) + 1))
    else (0, 0) := by
  obtain rfl | rfl | rfl : ver = 0 ∨ ver = 1 ∨ ver = 2 := by omega
  · cases dev with
    | true =>
      have hiff : nf = 1 ↔ nf ≤ 1 := by omega
      simp [plausNext, hiff]
    | false => rfl
  · cases dev <;> simp [plausNext]
  · cases dev <;> simp [plausNext]

section
variable {s : State} {l : Nat} (h : s.Ready l) (d a b c : Reg) {A : Nat} (hA : ((s.loop l).rg a).toNat = A)
  (hb : (s.loop l).HasBlock A 32 32)
include h hA hb

theorem plaus_outOfRange (hr : ¬PlausOk ((s.loop l).dw A) ((s.loop l).dw (A + 4)).toNat ((s.loop l).dw (A + 8)).toNat
      ((s.loop l).dw (A + 16)).toNat) : ∃ t, exec (.plaus l d a b c) s = .next t ∧ bitAt (t.loop l).flg 9 = true ∧
    State.LawDone l d 2 [(A + 20, setBit ((s.loop l).dw (A + 20) &&& 7) 2 true)] (fun k => if k = 15 then some true else none) 10 s t := by
  have hspread : Spread [(A + 20, setBit ((s.loop l).dw (A + 20) &&& 7) 2 true)] := by
    have := hb.1
    simp [Spread]
    omega
  obtain ⟨t, hx, hflg, hd⟩ := law_done (i := .plaus l d a b c) (d := d) (v := 2) h rfl (ws := [(A + 20, _)])
    (M := (s.loop l).setDw (A + 20) (setBit ((s.loop l).dw (A + 20) &&& 7) 2 true))
    (fun w => setBit w flagPLF true ||| w32 flNV) (by
      dsimp only
      rw [hA, checkBlocks_one hb]
      exact (if_pos ((plausOk_iff ..).mp hr)).trans (congrArg Except.ok (setFlag_stick_flagged ..)))
    (setDw_eq_put ..) (wordsWritten_self hspread) (FlagsStick.stick (flagsStick_one _ (by decide) _) rfl)
  exact ⟨t, hx, hflg ▸ bitAt_stickNV _, hd⟩

theorem plaus_nan (hr : PlausOk ((s.loop l).dw A) ((s.loop l).dw (A + 4)).toNat ((s.loop l).dw (A + 8)).toNat
      ((s.loop l).dw (A + 16)).toNat) (hn : fpIsNaN ((s.loop l).rg b) = true ∨ fpIsNaN ((s.loop l).rg c) = true) :
    ∃ t, exec (.plaus l d a b c) s = .next t ∧ State.LawDone l d ((s.loop l).dw (A + 16)) [(A + 20, 2)]
      (fun k => if k = 15 then some (decide (((s.loop l).dw (A + 16)).toNat = 2)) else none) 10 s t := by
  have hspread : Spread [(A + 20, (2 : Word))] := by
    have := hb.1
    simp [Spread]
    omega
  obtain ⟨t, hx, -, hd⟩ := law_done (i := .plaus l d a b c) (d := d) (v := w32 ((s.loop l).dw (A + 16)).toNat) h rfl
    (ws := [(A + 20, 2)])
    (M := (s.loop l).setDw (A + 20) 2) (fun w => setBit w flagPLF (((s.loop l).dw (A + 16)).toNat == 2)) (by
      dsimp only
      rw [hA, checkBlocks_one hb]
      exact (if_neg fun hb => (plausOk_iff ..).mpr hb hr).trans (if_pos (by simpa using hn)))
    (setDw_eq_put ..) (wordsWritten_self hspread) (flagsStick_one _ (by decide) _)
  rw [w32, BitVec.ofNat_toNat, BitVec.setWidth_eq] at hd
  exact ⟨t, hx, hd⟩

theorem plaus_decided (hr : PlausOk ((s.loop l).dw A) ((s.loop l).dw (A + 4)).toNat ((s.loop l).dw (A + 8)).toNat
      ((s.loop l).dw (A + 16)).toNat) (hn : ¬(fpIsNaN ((s.loop l).rg b) = true ∨ fpIsNaN ((s.loop l).rg c) = true)) {dev : Bool}
    (hdev : fpGt (fpAbs (subF ((s.loop l).rg b) ((s.loop l).rg c))) ((s.loop l).dw A) = dev) {x : Nat × Nat}
    (hnext : plausNext ((s.loop l).dw (A + 16)).toNat ((s.loop l).dw (A + 12)).toNat dev ((s.loop l).dw (A + 4)).toNat
      ((s.loop l).dw (A + 8)).toNat = x) :
    ∃ t, exec (.plaus l d a b c) s = .next t ∧ State.LawDone l d (BitVec.ofNat 32 x.1)
      [(A + 12, BitVec.ofNat 32 x.2), (A + 16, BitVec.ofNat 32 x.1), (A + 20, if dev then 1 else 0)]
      (fun k => if k = 15 then some (decide (x.1 = 2)) else none) 10 s t := by
  have hspread : Spread [(A + 12, BitVec.ofNat 32 x.2), (A + 16, BitVec.ofNat 32 x.1), (A + 20, w32 dev.toNat)] := by
    have := hb.1
    simp [Spread, Apart]
    omega
  have hg := gives_fsub ((s.loop l).rg b) ((s.loop l).rg c)
  obtain ⟨t, hx, -, hd⟩ := law_done (i := .plaus l d a b c) (d := d) (v := w32 x.1) h rfl
    (M := (((s.loop l).setDw (A + 12) (w32 x.2)).setDw (A + 16) (w32 x.1)).setDw (A + 20) (w32 dev.toNat))
    (fun w => setBit w flagPLF (x.1 == 2) ||| w32 (fpRun (fsub ((s.loop l).rg b) ((s.loop l).rg c))).2) (by
      dsimp only
      rw [hA, checkBlocks_one hb]
      refine (if_neg fun hb => (plausOk_iff ..).mpr hb hr).trans ((if_neg (by simpa using hn)).trans ?_)
      rw [hg.val, hdev, hnext]
      exact congrArg Except.ok (setFlag_stick_flagged ..))
    rfl (wordsWritten_self hspread) (FlagsStick.stick (flagsStick_one _ (by decide) _) hg.flags)
  rw [show w32 dev.toNat = if dev then 1 else 0 by cases dev <;> rfl] at hd
  exact ⟨t, hx, hd⟩
end

/-- Settles O16: SKIM's array lies in the data segment or in shared data, PLAUS moves by its table, and each answers a block out of
range. -/
theorem skimAndPlausibility : Obligations.SkimAndPlausibility := by
  unfold Obligations.SkimAndPlausibility
  intro s l d a b c h L at' f
  refine ⟨?_, ?_⟩
  · intro n pos lead ma e inRange learned head plain hb
    refine ⟨fun k hr => skim_outOfRange h d a b k rfl hb hr, fun hr hblk hap => ?_, fun hr hlo hhi h4 hout => ?_⟩
    · intro w
      have hin : L.inData ma (4 * n) = true := (inData_iff ..).mpr ⟨hblk.1, hblk.2.1⟩
      have hg : (skimLearn (f 4) (f 3) (w pos) e).Gives (learned w) := skimLearn_gives ..
      have hx (learn : Bool) := skim_local h d a b learn rfl hb rfl rfl rfl rfl hr hblk.2.2 hin
        (r := (learned w, (fpRun (skimLearn (f 4) (f 3) (w pos) e)).2)) (Prod.ext hg.val rfl)
      refine ⟨skim_done (learn := false) (hx false) hb.1 hg.flags, ?_⟩
      have hx := hx true
      cases hnan : fpIsNaN e with
      | true =>
        rw [hnan] at hx
        exact skim_done (learn := true) hx hb.1 hg.flags
      | false =>
        rw [hnan] at hx
        have hpos : pos < n := hr.2.2.1
        have hxlo : 0x10000 ≤ ma + 4 * pos := le_trans hblk.1 (Nat.le_add_right ..)
        have hap' : ma + 4 * pos + 4 ≤ at' ∨ at' + 32 ≤ ma + 4 * pos := by omega
        exact skim_learned (learn := true) (nan := false) hx hb.1 hxlo hap' hg.flags
    · intro seen off w good near cost hgood
      have hmem : (s.cell L.cell).inShared ma (4 * n) = true := (inShared_iff ..).mpr ⟨hlo, hhi⟩
      have hdata : L.inData ma (4 * n) = false := Bool.eq_false_iff.mpr fun hd => by
        have := ((inData_iff ..).mp hd).2
        omega
      have hcost : cost (16 + s.sharedCount L.cell (off ((pos + lead) % n))) := by
        obtain ⟨h1, h2⟩ := sharedCount_bounds s L.cell (off ((pos + lead) % n))
        exact ⟨Nat.add_le_add_left h1 16, Nat.add_le_add_left h2 16⟩
      have hg : (skimLearn (f 4) (f 3) (w pos) e).Gives (learned w) := skimLearn_gives ..
      have hx (learn : Bool) (hl : (learn && !fpIsNaN e) = true → good pos) :=
        skim_shared h d a b learn rfl hb rfl rfl rfl rfl hr h4 hdata hmem hgood hl
          (r := (learned w, (fpRun (skimLearn (f 4) (f 3) (w pos) e)).2)) (Prod.ext hg.val rfl)
      refine ⟨?_, fun hnan => ?_, fun hnan hpos => ?_⟩
      · obtain ⟨t, ht, hd⟩ := skim_done (learn := false) (hx false nofun) hb.1 hg.flags
        exact ⟨t, _, hcost, ht, hd⟩
      · have hx := hx true (by simp [hnan])
        rw [hnan] at hx
        obtain ⟨t, ht, hd⟩ := skim_done (learn := true) hx hb.1 hg.flags
        exact ⟨t, _, hcost, ht, hd⟩
      · have hx := hx true fun _ => hpos
        rw [hnan] at hx
        obtain ⟨t, ht, hd⟩ := skim_done (learn := true) (nan := false) hx hb.1 hg.flags
        exact ⟨t, _, hcost, ht, hd⟩
  · intro nf nr cnt ver dev next inRange plf nanIn hb
    refine ⟨fun hr hn => ?_, plaus_nan h d a b c rfl hb, plaus_outOfRange h d a b c rfl hb⟩
    obtain ⟨t, hx, hd⟩ := plaus_decided h d a b c rfl hb hr hn (dev := dev) rfl (plausNext_eq cnt dev hr.2.2.1 hr.2.2.2.2.2.2)
    exact ⟨t, hx, hd⟩

end Sys2Proof.Machine
end

section
/-! SUPPORT. MINS (R90, R115, R116): the lowest of the smallest candidates, the choice with hysteresis and the words written. -/
namespace Sys2Proof.Machine

/-! ### The smallest candidate -/

/-- The best candidate after one more. -/
def betterOf (best : Option (Nat × Word)) (i : Nat) (x : Word) : Option (Nat × Word) :=
  if fpIsNaN x then best else match best with
    | none => some (i, x)
    | some b => if fpLt x b.2 then some (i, x) else best

theorem lowestIdx_cons (x : Word) (xs : List Word) (i : Nat) (best : Option (Nat × Word)) :
    lowestIdx (x :: xs) i best = lowestIdx xs (i + 1) (betterOf best i x) := rfl

section
variable {best : Option (Nat × Word)} {i : Nat} {x v : Word}

theorem betterOf_nan (h : fpIsNaN x = true) : betterOf best i x = best := if_pos h

theorem betterOf_kept {b : Nat × Word} (h : fpLt x b.2 = false) : betterOf (some b) i x = some b := by
  unfold betterOf
  simp [h]

theorem betterOf_lower (hx : fpIsNaN x = false) (h : ∀ b ∈ best, fpLt x b.2 = true) : betterOf best i x = some (i, x) := by
  unfold betterOf
  rw [hx, if_neg Bool.false_ne_true]
  cases best with
  | none => rfl
  | some b => exact if_pos (h b rfl)

theorem mem_betterOf {b : Nat × Word} (h : b ∈ betterOf best i x) : b ∈ best ∨ fpIsNaN x = false ∧ b = (i, x) := by
  unfold betterOf at h
  split at h
  · exact .inl h
  · next hn =>
    have hx : fpIsNaN x = false := by simpa using hn
    cases best with
    | none => exact .inr ⟨hx, (Option.some.inj h).symm⟩
    | some w =>
      dsimp only at h
      split at h
      · exact .inr ⟨hx, (Option.some.inj h).symm⟩
      · exact .inl h
end

section
variable {c : Nat → Word}

theorem lowestIdx_nan (k i : Nat) (h : ∀ j, i ≤ j → j < i + k → fpIsNaN (c j) = true) :
    lowestIdx ((List.range' i k).map c) i none = none := by
  induction k generalizing i with
  | zero => rfl
  | succ k ih =>
    rw [List.range'_succ, List.map_cons, lowestIdx_cons, betterOf_nan (h i le_rfl (by omega))]
    exact ih (i + 1) fun j hj hj' => h j (by omega) (by omega)

/-- Candidates none of which lies below the best so far change nothing. -/
theorem lowestIdx_kept {b : Nat × Word} (k i : Nat) (h : ∀ j, i ≤ j → j < i + k → fpLt (c j) b.2 = false) :
    lowestIdx ((List.range' i k).map c) i (some b) = some b := by
  induction k generalizing i with
  | zero => rfl
  | succ k ih =>
    rw [List.range'_succ, List.map_cons, lowestIdx_cons, betterOf_kept (h i le_rfl (by omega))]
    exact ih (i + 1) fun j hj hj' => h j (by omega) (by omega)

/-- The scan finds the candidate that no other lies below and none before it equals. -/
theorem lowestIdx_eq {m : Nat} (hm : fpIsNaN (c m) = false) (k i : Nat) (hi : i ≤ m) (hk : m < i + k)
    (hbefore : ∀ j, i ≤ j → j < m → fpIsNaN (c j) = false → fpLt (c m) (c j) = true)
    (hafter : ∀ j, m < j → j < i + k → fpLt (c j) (c m) = false) {best : Option (Nat × Word)}
    (hbest : ∀ b ∈ best, fpLt (c m) b.2 = true) : lowestIdx ((List.range' i k).map c) i best = some (m, c m) := by
  induction k generalizing i best with
  | zero => omega
  | succ k ih =>
    rw [List.range'_succ, List.map_cons, lowestIdx_cons]
    rcases hi.eq_or_lt with rfl | hlt
    · rw [betterOf_lower hm hbest]
      exact lowestIdx_kept k (i + 1) fun j hj hj' => hafter j (by omega) (by omega)
    · refine ih (i + 1) (by omega) (by omega) (fun j hj => hbefore j (by omega)) (fun j hj hj' => hafter j hj (by omega)) fun b hb => ?_
      rcases mem_betterOf hb with hb | ⟨hn, rfl⟩
      · exact hbest b hb
      · exact hbefore i le_rfl hlt hn
end

/-! ### The choice -/

/-- A computation that gives a value and raises NV. -/
def FpM.RaisesNV {α : Type} (m : FpM α) (v : α) : Prop := ∃ fl, fl ||| 0x3E0 = 0x3E0 ∧ fpRun m = (v, flNV ||| fl)

theorem raisesNV_first {α : Type} {k : Unit → FpM α} {v : α} (hk : (k ()).Gives v) : FpM.RaisesNV (raise flNV >>= k) v := by
  obtain ⟨fl, hfl, hv⟩ := hk
  refine ⟨fl, hfl, ?_⟩
  calc (k ()).run (0 ||| flNV) = (v, flNV ||| fl) := by rw [hv, Nat.zero_or]

/-- What MINS selects: the best candidate, or the one selected before where it is within the hysteresis of it. -/
def minsPick (c : Nat → Word) (m sel : Nat) (h : Word) (bad : Bool) : Nat :=
  if bad || fpIsNaN (c sel) || fpLt (c m) (subF (c sel) h) then m else sel

section
variable {c : Nat → Word} {n m sel : Nat} {h : Word} (hm : m < n)
include hm

theorem minSelect_bad (hbad : (decide (n ≤ sel) || fpIsNaN h || fpLt h 0) = true) :
    FpM.RaisesNV (minSelect ((List.range n).map c) m sel h) (m, c m, addF (c m) h, true) := by
  have hlen : ((List.range n).map c).length = n := by simp
  have hpick : ((List.range n).map c).getD m fpNaN = c m := by simp [hm]
  unfold minSelect
  rw [hlen, show fpZero = 0 from rfl, hbad]
  exact raisesNV_first (gives_bind (gives_pure _) (gives_bind (gives_fadd ..) (FpM.Gives.cast (gives_pure _) (by dsimp only; rw [hpick]))))

theorem minSelect_good (hbad : (decide (n ≤ sel) || fpIsNaN h || fpLt h 0) = false) :
    (minSelect ((List.range n).map c) m sel h).Gives
      (minsPick c m sel h false, c (minsPick c m sel h false), addF (c (minsPick c m sel h false)) h, false) := by
  have hlen : ((List.range n).map c).length = n := by simp
  have hsel : sel < n := by
    simp only [Bool.or_eq_false_iff, decide_eq_false_iff_not] at hbad
    omega
  have hpick (i : Nat) (hi : i < n) : ((List.range n).map c).getD i fpNaN = c i := by simp [hi]
  unfold minSelect minsPick
  rw [hlen, show fpZero = 0 from rfl, hbad]
  refine gives_neg Bool.false_ne_true (gives_neg Bool.false_ne_true ?_)
  cases hn : fpIsNaN (c sel) with
  | true =>
    refine gives_pos ((congrArg fpIsNaN (hpick sel hsel)).trans hn) (gives_bind (gives_pure _) (gives_bind (gives_fadd ..)
      (FpM.Gives.cast (gives_pure _) ?_)))
    dsimp only
    rw [hpick m hm]
    rfl
  | false =>
    refine gives_neg (by dsimp only; rw [hpick sel hsel, hn]; exact Bool.false_ne_true) (gives_bind (gives_fsub ..) (gives_bind (gives_pure _)
      (gives_bind (gives_fadd ..) (FpM.Gives.cast (gives_pure _) ?_))))
    simp only [hpick m hm, hpick sel hsel, Bool.false_or]
    split
    · rw [hpick m hm]
    · rw [hpick sel hsel]
end

/-! ### The words written -/

/-- What MINS writes to a candidate (R116). -/
def trackWords (L : Loop) (pb : Nat → Nat) (k : Nat) (tr : Word) (j : Nat) : List (Nat × Word) :=
  if j = k then [(pb j + 48, setBit (L.dw (pb j + 48)) 5 false)]
  else [(pb j + 48, setBit (L.dw (pb j + 48)) 5 true), (pb j + 40, tr)]

section
variable {L : Loop} {pb : Nat → Nat} {k : Nat} {tr : Word} {j : Nat}

theorem trackWords_within {e : Nat × Word} (he : e ∈ trackWords L pb k tr j) : e.1 = pb j + 48 ∨ e.1 = pb j + 40 := by
  unfold trackWords at he
  split at he
  · simp only [List.mem_singleton] at he
    exact .inl (congrArg Prod.fst he)
  · simp only [List.mem_cons, List.not_mem_nil, or_false] at he
    exact he.imp (congrArg Prod.fst) (congrArg Prod.fst)

theorem put_trackWords_dw {i : Nat} (hlo : 0x10000 ≤ pb i) (hlo' : 0x10000 ≤ pb j) (hap : pb i + 64 ≤ pb j ∨ pb j + 64 ≤ pb i) :
    (L.put (trackWords L pb k tr i)).dw (pb j + 48) = L.dw (pb j + 48) := by
  refine put_dw_ne (by omega) (fun e he => ?_) fun e he => ?_
  · have := trackWords_within he
    omega
  · have := trackWords_within he
    omega

theorem minsTrack_step {i : Nat} (p : Nat) (hp : p = pb i) (ps : List Nat) :
    L.minsTrack k tr i (p :: ps) = (L.put (trackWords L pb k tr i)).minsTrack k tr (i + 1) ps := by
  subst hp
  rw [Loop.minsTrack]
  unfold trackWords
  split <;> rfl

theorem minsTrack_eq (len i : Nat) (hlo : ∀ j, i ≤ j → j < i + len → 0x10000 ≤ pb j)
    (hap : ∀ j j', i ≤ j → j < j' → j' < i + len → pb j + 64 ≤ pb j' ∨ pb j' + 64 ≤ pb j) :
    L.minsTrack k tr i ((List.range' i len).map pb) = L.put ((List.range' i len).flatMap (trackWords L pb k tr)) := by
  induction len generalizing i L with
  | zero => rfl
  | succ len ih =>
    rw [List.range'_succ, List.map_cons, minsTrack_step _ rfl, List.flatMap_cons, ← put_put]
    rw [ih (i + 1) (fun j hj hj' => hlo j (by omega) (by omega)) fun j j' hj hj' hl => hap j j' (by omega) hj' (by omega)]
    congr 1
    refine List.flatMap_congr fun j hj => ?_
    have hj := List.mem_range'_1.mp hj
    have hd := put_trackWords_dw (L := L) (k := k) (tr := tr) (hlo i le_rfl (by omega)) (hlo j (by omega) (by omega))
      (hap i j le_rfl (by omega) (by omega))
    unfold trackWords at hd ⊢
    rw [hd]
end

/-! ### MINS -/

theorem mem_trackWords_flatMap {L : Loop} {pb : Nat → Nat} {n k : Nat} (hk : k < n) {tr : Word} {e : Nat × Word} :
    e ∈ (List.range n).flatMap (trackWords L pb k tr) ↔ e = (pb k + 48, setBit (L.dw (pb k + 48)) 5 false) ∨
      e ∈ ((List.range n).filter (· ≠ k)).flatMap fun j => [(pb j + 48, setBit (L.dw (pb j + 48)) 5 true), (pb j + 40, tr)] := by
  simp only [List.mem_flatMap, List.mem_filter, List.mem_range, decide_eq_true_eq, trackWords]
  constructor
  · rintro ⟨j, hj, he⟩
    split at he
    · next hjk => exact .inl (hjk ▸ List.mem_singleton.mp he)
    · next hjk => exact .inr ⟨j, ⟨hj, hjk⟩, he⟩
  · rintro (rfl | ⟨j, ⟨hj, hjk⟩, he⟩)
    · exact ⟨k, hk, by rw [if_pos rfl]; exact .head _⟩
    · exact ⟨j, hj, by rwa [if_neg hjk]⟩

section
variable {L : Loop} {A n : Nat} {pb : Nat → Nat}

theorem mins_candidates (hpb : ∀ i, (L.dw (A + 16 + 4 * i)).toNat = pb i) :
    ((List.range n).map fun i => (L.dw (A + 16 + 4 * i)).toNat) = (List.range n).map pb := List.map_congr_left fun i _ => hpb i

theorem checkBlocks_candidates (hblk : ∀ i, i < n → L.HasBlock (pb i) 64 64) :
    L.checkBlocks (((List.range n).map pb).map fun p => (p, 64, 64)) = none := by
  refine checkBlocks_none fun b hb => ?_
  simp only [List.map_map, List.mem_map, List.mem_range, Function.comp] at hb
  obtain ⟨i, hi, rfl⟩ := hb
  exact hblk i hi
end

/-- Two blocks of 64 bytes at multiples of 64 that are not the same lie apart. -/
theorem blocks_apart {L : Loop} {x y : Nat} (hx : L.HasBlock x 64 64) (hy : L.HasBlock y 64 64) (h : x ≠ y) :
    x + 64 ≤ y ∨ y + 64 ≤ x := by
  have := hx.2.2
  have := hy.2.2
  omega

theorem spread_append {ws ws' : List (Nat × Word)} :
    Spread (ws ++ ws') ↔ Spread ws ∧ Spread ws' ∧ ∀ x ∈ ws, ∀ y ∈ ws', Apart x y := by
  simp only [Spread, List.mem_append, List.pairwise_append]
  constructor
  · rintro ⟨hlo, hp, hp', hc⟩
    exact ⟨⟨fun e he => hlo e (.inl he), hp⟩, ⟨fun e he => hlo e (.inr he), hp'⟩, hc⟩
  · rintro ⟨⟨hlo, hp⟩, ⟨hlo', hp'⟩, hc⟩
    exact ⟨fun e he => he.elim (hlo e) (hlo' e), hp, hp', hc⟩

section
variable {L : Loop} {A n : Nat} {pb : Nat → Nat} (hb : L.HasBlock A 64 64) (hblk : ∀ i, i < n → L.HasBlock (pb i) 64 64)
  (hother : ∀ i, i < n → pb i ≠ A) (hinj : ∀ i j, i < n → j < n → pb i = pb j → i = j)
include hblk hinj

theorem spread_trackWords {k : Nat} {tr : Word} : Spread ((List.range n).flatMap (trackWords L pb k tr)) := by
  refine ⟨fun e he => ?_, List.pairwise_flatMap.mpr ⟨fun j hj => ?_, ?_⟩⟩
  · obtain ⟨j, hj, he⟩ := List.mem_flatMap.mp he
    have := (hblk j (List.mem_range.mp hj)).1
    have := trackWords_within he
    omega
  · unfold trackWords
    split
    · exact List.pairwise_singleton ..
    · refine List.pairwise_pair.mpr (.inr ?_)
      dsimp only
      omega
  · refine (List.pairwise_lt_range (n := n)).imp_of_mem fun {i j} hi hj hlt x hx y hy => ?_
    have hap := blocks_apart (hblk i (List.mem_range.mp hi)) (hblk j (List.mem_range.mp hj))
      fun he => hlt.ne (hinj i j (List.mem_range.mp hi) (List.mem_range.mp hj) he)
    have := trackWords_within hx
    have := trackWords_within hy
    unfold Apart
    omega

include hb hother in
theorem spread_mins {k : Nat} {tr : Word} (w w' : Word) :
    Spread ((List.range n).flatMap (trackWords L pb k tr) ++ [(A + 8, w), (A + 12, w')]) := by
  have hhead : Spread [(A + 8, w), (A + 12, w')] := by
    have := hb.1
    simp [Spread, Apart]
    omega
  refine spread_append.mpr ⟨spread_trackWords hblk hinj, hhead, fun x hx y hy => ?_⟩
  obtain ⟨j, hj, hx⟩ := List.mem_flatMap.mp hx
  have hap := blocks_apart (hblk j (List.mem_range.mp hj)) hb (hother j (List.mem_range.mp hj))
  have hx := trackWords_within hx
  have hy : y.1 = A + 8 ∨ y.1 = A + 12 := by
    simp only [List.mem_cons, List.not_mem_nil, or_false] at hy
    exact hy.imp (congrArg Prod.fst) (congrArg Prod.fst)
  unfold Apart
  omega
end

/-- Of the words of a law only the set matters. -/
theorem State.LawDone.words {s t : State} {l cycles : Nat} {d : Reg} {v : Word} {ws ws' : List (Nat × Word)}
    {f : Nat → Option Bool} (h : State.LawDone l d v ws f cycles s t) (hw : ∀ e, e ∈ ws' ↔ e ∈ ws) :
    State.LawDone l d v ws' f cycles s t := by
  obtain ⟨hpc, hreg, hflg, ⟨hin, hout⟩, hrest⟩ := h
  exact ⟨hpc, hreg, hflg, ⟨fun e he => hin e ((hw e).mp he), fun k hk => hout k fun e he => hk e ((hw e).mpr he)⟩, hrest⟩

section
variable {s : State} {l : Nat} (h : s.Ready l) (d a : Reg) {A n : Nat} (hA : ((s.loop l).rg a).toNat = A)
  (hb : (s.loop l).HasBlock A 64 64) (hn : ((s.loop l).dw A).toNat = n)
include h hA hb hn

omit hn in
/-- The answer of MINS that selects nothing. -/
theorem mins_none {st : Word} {act : Loop → Except Trap Loop} {cost cycles : Nat}
    (hi : exec (.mins l d a) s = .next (s.law l (encodeInstr (.mins l d a)) cost act))
    (ha : act (s.loop l) = .ok (((((s.loop l).setDw (A + 12) st).wg d fpNaN).setFlag flagSEL false).stick flNV))
    (hc : cost = cycles) :
    ∃ t, exec (.mins l d a) s = .next t ∧ bitAt (t.loop l).flg 9 = true ∧
      State.LawDone l d 0x7FC00000 [(A + 12, st)] (fun i => if i = 12 then some false else none) cycles s t := by
  have hspread : Spread [(A + 12, st)] := by
    have := hb.1
    simp [Spread]
    omega
  subst hc
  obtain ⟨t, hx, hflg, hd⟩ := law_done (d := d) (v := fpNaN) h hi (fun w => setBit w flagSEL false ||| w32 flNV)
    (ha.trans (congrArg Except.ok (setFlag_stick_flagged ..))) (setDw_eq_put ..) (wordsWritten_self hspread)
    (FlagsStick.stick (flagsStick_one _ (by decide) _) rfl)
  exact ⟨t, hx, hflg ▸ bitAt_stickNV _, hd⟩

theorem mins_badCount (hbad : n < 2 ∨ 8 < n) : ∃ t, exec (.mins l d a) s = .next t ∧ bitAt (t.loop l).flg 9 = true ∧
    State.LawDone l d 0x7FC00000 [(A + 12, 4)] (fun i => if i = 12 then some false else none) 6 s t := by
  refine mins_none h d a hA hb rfl ?_ (by rw [hA, hn]; exact if_neg (by omega))
  dsimp only
  rw [hA, checkBlocks_one hb]
  dsimp only
  rw [hn, if_pos hbad]

variable (h2 : 2 ≤ n) (h8 : n ≤ 8) {pb : Nat → Nat} (hpb : ∀ i, ((s.loop l).dw (A + 16 + 4 * i)).toNat = pb i)
  (hblk : ∀ i, i < n → (s.loop l).HasBlock (pb i) 64 64)
include h2 h8 hpb hblk

theorem mins_allNaN (hnan : ∀ i, i < n → fpIsNaN ((s.loop l).dw (pb i + 36)) = true) :
    ∃ t, exec (.mins l d a) s = .next t ∧ bitAt (t.loop l).flg 9 = true ∧
      State.LawDone l d 0x7FC00000 [(A + 12, 2)] (fun i => if i = 12 then some false else none) (6 + 4 * n) s t := by
  have hlow : lowestIdx ((List.range n).map fun i => (s.loop l).dw (pb i + 36)) 0 none = none := by
    rw [List.range_eq_range']
    exact lowestIdx_nan n 0 fun j _ hj => hnan j (by omega)
  refine mins_none h d a hA hb rfl ?_ (by rw [hA, hn]; exact if_pos ⟨h2, h8⟩)
  dsimp only
  rw [hA, checkBlocks_one hb]
  dsimp only
  rw [hn, if_neg (by omega), mins_candidates hpb, checkBlocks_candidates hblk]
  dsimp only
  rw [List.map_map, Function.comp_def, hlow]

variable (hother : ∀ i, i < n → pb i ≠ A) (hinj : ∀ i j, i < n → j < n → pb i = pb j → i = j)
include hother hinj

theorem mins_selects {m : Nat} (hm : m < n) (hnum : fpIsNaN ((s.loop l).dw (pb m + 36)) = false)
    (hmin : ∀ j, j < n → fpLt ((s.loop l).dw (pb j + 36)) ((s.loop l).dw (pb m + 36)) = false)
    (hfirst : ∀ j, j < m → fpIsNaN ((s.loop l).dw (pb j + 36)) = false →
      fpLt ((s.loop l).dw (pb m + 36)) ((s.loop l).dw (pb j + 36)) = true)
    {k : Nat} {v tr : Word} {bad : Bool} {fl : Nat} (hfl : fl ||| 0x3E0 = 0x3E0)
    (hrun : fpRun (minSelect ((List.range n).map fun i => (s.loop l).dw (pb i + 36)) m ((s.loop l).dw (A + 8)).toNat
      ((s.loop l).dw (A + 4))) = ((k, v, tr, bad), fl)) :
    ∃ t, exec (.mins l d a) s = .next t ∧
      (t.loop l).flg = setBit (s.loop l).flg flagSEL (k != ((s.loop l).dw (A + 8)).toNat) ||| w32 fl ∧
      State.LawDone l d v ((List.range n).flatMap (trackWords (s.loop l) pb k tr) ++
          [(A + 8, w32 k), (A + 12, w32 ((k != ((s.loop l).dw (A + 8)).toNat).toNat + 4 * bad.toNat))])
        (fun i => if i = 12 then some (k != ((s.loop l).dw (A + 8)).toNat) else none) (6 + 4 * n) s t := by
  have hlow : lowestIdx ((List.range n).map fun i => (s.loop l).dw (pb i + 36)) 0 none = some (m, (s.loop l).dw (pb m + 36)) := by
    rw [List.range_eq_range']
    exact lowestIdx_eq (c := fun i => (s.loop l).dw (pb i + 36)) hnum n 0 (Nat.zero_le m) (by omega) (fun j _ hj => hfirst j hj)
      (fun j _ hj => hmin j (by omega)) nofun
  have htrack : (s.loop l).minsTrack k tr 0 ((List.range n).map pb) =
      (s.loop l).put ((List.range n).flatMap (trackWords (s.loop l) pb k tr)) := by
    rw [List.range_eq_range']
    refine minsTrack_eq n 0 (fun j _ hj => (hblk j (by omega)).1) fun j j' _ hlt hj' =>
      blocks_apart (hblk j (by omega)) (hblk j' (by omega)) fun he => hlt.ne (hinj j j' (by omega) (by omega) he)
  have hc : (if 2 ≤ ((s.loop l).dw ((s.loop l).rg a).toNat).toNat ∧ ((s.loop l).dw ((s.loop l).rg a).toNat).toNat ≤ 8 then
      6 + 4 * ((s.loop l).dw ((s.loop l).rg a).toNat).toNat else 6) = 6 + 4 * n := by
    rw [hA, hn]
    exact if_pos ⟨h2, h8⟩
  have hi : exec (.mins l d a) s = .next (s.law l (encodeInstr (.mins l d a)) _ _) := rfl
  rw [hc] at hi
  refine law_done (d := d) (v := v)
    (M := (((s.loop l).minsTrack k tr 0 ((List.range n).map pb)).setDw (A + 8) (w32 k)).setDw (A + 12)
      (w32 ((k != ((s.loop l).dw (A + 8)).toNat).toNat + 4 * bad.toNat)))
    h hi (fun w => setBit w flagSEL (k != ((s.loop l).dw (A + 8)).toNat) ||| w32 fl) ?_ ?_
    (wordsWritten_self (spread_mins hb hblk hother hinj _ _)) (FlagsStick.stick (flagsStick_one _ (by decide) _) hfl)
  · dsimp only
    rw [hA, checkBlocks_one hb]
    dsimp only
    rw [hn, if_neg (by omega), mins_candidates hpb, checkBlocks_candidates hblk]
    dsimp only
    rw [List.map_map, Function.comp_def, hlow]
    dsimp only
    rw [hrun]
    exact congrArg Except.ok (setFlag_stick_flagged ..)
  · rw [htrack, setDw_eq_put, setDw_eq_put, put_put, put_put]
    rfl

theorem mins_chooses {m : Nat} (hm : m < n) (hnum : fpIsNaN ((s.loop l).dw (pb m + 36)) = false)
    (hmin : ∀ j, j < n → fpLt ((s.loop l).dw (pb j + 36)) ((s.loop l).dw (pb m + 36)) = false)
    (hfirst : ∀ j, j < m → fpIsNaN ((s.loop l).dw (pb j + 36)) = false →
      fpLt ((s.loop l).dw (pb m + 36)) ((s.loop l).dw (pb j + 36)) = true)
    {sel k : Nat} (hsel : ((s.loop l).dw (A + 8)).toNat = sel) {g : Word} (hg : (s.loop l).dw (A + 4) = g) {bad : Bool}
    (hbad : (decide (n ≤ sel) || fpIsNaN g || fpLt g 0) = bad)
    (hk : minsPick (fun i => (s.loop l).dw (pb i + 36)) m sel g bad = k) :
    ∃ t, exec (.mins l d a) s = .next t ∧ (bad = true → bitAt (t.loop l).flg 9 = true) ∧
      State.LawDone l d ((s.loop l).dw (pb k + 36))
        ([(A + 8, w32 k), (A + 12, w32 ((decide (k ≠ sel)).toNat + 4 * bad.toNat)),
            (pb k + 48, setBit ((s.loop l).dw (pb k + 48)) 5 false)] ++
          ((List.range n).filter (· ≠ k)).flatMap fun j => [(pb j + 48, setBit ((s.loop l).dw (pb j + 48)) 5 true),
            (pb j + 40, addF ((s.loop l).dw (pb k + 36)) g)])
        (fun i => if i = 12 then some (decide (k ≠ sel)) else none) (6 + 4 * n) s t := by
  have hkn : k < n := by
    subst hk
    unfold minsPick
    split
    · exact hm
    · next hc =>
      simp only [Bool.not_eq_true, Bool.or_eq_false_iff] at hc
      subst hbad
      simp only [Bool.or_eq_false_iff, decide_eq_false_iff_not] at hc
      omega
  have hrun : ∃ fl, fl ||| 0x3E0 = 0x3E0 ∧ (bad = true → bitAt ((setBit (s.loop l).flg flagSEL (k != sel)) ||| w32 fl) 9 = true) ∧
      fpRun (minSelect ((List.range n).map fun i => (s.loop l).dw (pb i + 36)) m ((s.loop l).dw (A + 8)).toNat ((s.loop l).dw (A + 4))) =
        ((k, (s.loop l).dw (pb k + 36), addF ((s.loop l).dw (pb k + 36)) g, bad), fl) := by
    rw [hsel, hg]
    cases bad with
    | true =>
      obtain ⟨fl, hfl, hr⟩ := minSelect_bad (c := fun i => (s.loop l).dw (pb i + 36)) hm hbad
      obtain rfl : m = k := hk
      refine ⟨flNV ||| fl, by rw [Nat.or_assoc, hfl]; rfl, fun _ => ?_, hr⟩
      rw [show w32 (flNV ||| fl) = w32 fl ||| w32 flNV by rw [Nat.or_comm]; exact BitVec.ofNat_or .., ← BitVec.or_assoc]
      exact bitAt_stickNV _
    | false =>
      obtain ⟨fl, hfl, hr⟩ := minSelect_good (c := fun i => (s.loop l).dw (pb i + 36)) hm hbad
      exact ⟨fl, hfl, nofun, by rw [← hk]; exact (hr 0).trans (by rw [Nat.zero_or])⟩
  obtain ⟨fl, hfl, hnv, hrun⟩ := hrun
  obtain ⟨t, hx, hflg, hd⟩ := mins_selects h d a hA hb hn h2 h8 hpb hblk hother hinj hm hnum hmin hfirst hfl hrun
  rw [hsel] at hflg hd
  have hne : (k != sel) = decide (k ≠ sel) := by by_cases hks : k = sel <;> simp [hks]
  rw [hne] at hd
  refine ⟨t, hx, fun hbt => hflg ▸ hnv hbt, hd.words fun e => ?_⟩
  simp only [List.mem_append, mem_trackWords_flatMap hkn, List.mem_cons, List.not_mem_nil, or_false]
  tauto
end

end Sys2Proof.Machine
end

section
/-! SUPPORT. SCHED (R120 to R123): the grid, the cell of an input and the gains copied. -/
namespace Sys2Proof.Machine

/-! ### The order of finite words -/

theorem fpKey_of_isFinite {w : Word} (h : fpIsFinite w = true) : fpKey w = fpExact w := by
  unfold fpIsFinite fpIsNaN fpIsInf at h
  unfold fpKey fpExact
  cases hr : fpRead w <;> simp_all

theorem fpKey_bounds (w : Word) : -2 ^ 300 ≤ fpKey w ∧ fpKey w ≤ 2 ^ 300 := by
  have hs := abs_lt.mp (fpScaled_lt w)
  unfold fpKey
  split
  · exact ⟨le_rfl, by norm_num⟩
  · exact ⟨by norm_num, le_rfl⟩
  · exact ⟨hs.1.le, hs.2.le⟩

theorem fpKey_inf : fpKey fpInf = 2 ^ 300 := rfl

theorem fpKey_negInf : fpKey fpNegInf = -2 ^ 300 := rfl

theorem fpLt_of_isFinite {a b : Word} (ha : fpIsFinite a = true) (hb : fpIsFinite b = true) :
    fpLt a b = true ↔ fpExact a < fpExact b := by
  rw [fpLt_iff, fpKey_of_isFinite ha, fpKey_of_isFinite hb]
  exact ⟨fun h => h.2.2, fun h => ⟨isNaN_of_isFinite ha, isNaN_of_isFinite hb, h⟩⟩

theorem fpGe_negInf {a : Word} (ha : fpIsNaN a = false) : fpGe a fpNegInf = true := by
  rw [fpGe_iff, fpKey_negInf]
  exact ⟨ha, rfl, (fpKey_bounds a).1⟩

/-- What is not below infinity is infinity, at or above every number. -/
theorem fpGe_of_not_lt_inf {a e : Word} (ha : fpIsNaN a = false) (h : fpLt a fpInf = false) (he : fpIsFinite e = true) :
    fpGe a e = true := by
  have hinf : ¬fpKey a < 2 ^ 300 := fun hlt => Bool.eq_false_iff.mp h ((fpLt_iff _ _).mpr ⟨ha, rfl, by rwa [fpKey_inf]⟩)
  rw [fpGe_iff]
  exact ⟨ha, isNaN_of_isFinite he, (fpKey_bounds e).2.trans (not_lt.mp hinf)⟩

/-! ### The grid -/

/-- An axis in range (Table 3.10). -/
def AxisFits (e : Nat → Word) (h : Word) : Prop :=
  (∀ i, i < 9 → fpIsFinite (e i) = true) ∧ fpIsFinite h = true ∧ fpLt h 0 = false ∧
    ∀ i, i < 8 → fpLt (e i) (e (i + 1)) = true ∧ 2 * fpExact h < fpExact (e (i + 1)) - fpExact (e i)

section
variable {e : Nat → Word} {h : Word}

theorem axisBad_go (len i : Nat) : axisBad.go h ((List.range' i (len + 1)).map e) = false ↔
    ∀ j, i ≤ j → j < i + len → fpExact (e j) < fpExact (e (j + 1)) ∧ 2 * fpExact h < fpExact (e (j + 1)) - fpExact (e j) := by
  induction len generalizing i with
  | zero => exact ⟨fun _ j _ _ => by omega, fun _ => rfl⟩
  | succ len ih =>
    have hgo : axisBad.go h ((List.range' i (len + 1 + 1)).map e) = (decide (fpExact (e (i + 1)) - fpExact (e i) ≤ 0) ||
        decide (fpExact (e (i + 1)) - fpExact (e i) ≤ 2 * fpExact h) ||
        axisBad.go h ((List.range' (i + 1) (len + 1)).map e)) := rfl
    rw [hgo, Bool.or_eq_false_iff, Bool.or_eq_false_iff, ih, decide_eq_false_iff_not, decide_eq_false_iff_not, not_le, not_le, sub_pos]
    constructor
    · rintro ⟨hi, hrest⟩ j hj hj'
      rcases hj.eq_or_lt with rfl | hlt
      · exact hi
      · exact hrest j hlt (by omega)
    · exact fun hall => ⟨hall i le_rfl (by omega), fun j hj hj' => hall j (by omega) (by omega)⟩

theorem axisBad_iff : axisBad ((List.range 9).map e) h = false ↔ AxisFits e h := by
  unfold axisBad AxisFits
  rw [Bool.or_eq_false_iff, Bool.or_eq_false_iff, Bool.or_eq_false_iff, Bool.or_eq_false_iff, Bool.not_eq_false', Bool.not_eq_false',
    all_range_iff, List.range_eq_range', axisBad_go 8 0]
  constructor
  · rintro ⟨⟨⟨⟨hfin, -⟩, hpos⟩, hh⟩, hw⟩
    refine ⟨hfin, hh, hpos, fun i hi => ?_⟩
    obtain ⟨hlt, hhyst⟩ := hw i (Nat.zero_le i) (by omega)
    exact ⟨(fpLt_of_isFinite (hfin i (by omega)) (hfin (i + 1) (by omega))).mpr hlt, hhyst⟩
  · rintro ⟨hfin, hh, hpos, hw⟩
    refine ⟨⟨⟨⟨hfin, isNaN_of_isFinite hh⟩, hpos⟩, hh⟩, fun j _ hj => ?_⟩
    obtain ⟨hlt, hhyst⟩ := hw j (by omega)
    exact ⟨(fpLt_of_isFinite (hfin j (by omega)) (hfin (j + 1) (by omega))).mp hlt, hhyst⟩

/-! ### The cell of an input (R121) -/

/-- A scan for the last number that meets `p`, 0 where none does. -/
theorem foldl_last {p : Nat → Bool} {k : Nat} (hk : k = 0 ∨ p k = true) (n : Nat) (hn : k < n)
    (habove : ∀ j, k < j → j < n → p j = false) : (List.range n).foldl (fun best i => if p i then i else best) 0 = k := by
  induction n with
  | zero => omega
  | succ n ih =>
    rw [List.range_succ, List.foldl_append, List.foldl_cons, List.foldl_nil]
    rcases (Nat.lt_succ_iff.mp hn).eq_or_lt with rfl | hlt
    · split
      · rfl
      · next hp =>
        obtain rfl := hk.resolve_right hp
        rfl
    · rw [habove n hlt (Nat.lt_succ_self n), if_neg Bool.false_ne_true]
      exact ih hlt fun j hj hj' => habove j hj (by omega)

theorem getD_edges {i : Nat} (hi : i < 9) : ((List.range 9).map e).getD i fpZero = e i := by simp [hi]

theorem axisCell_eq {a : Word} {k : Nat} (hk : k < 8) (hreach : k = 0 ∨ fpGe a (e k) = true)
    (habove : ∀ j, k < j → j < 8 → fpGe a (e j) = false) : axisCell ((List.range 9).map e) a = k := by
  unfold axisCell
  refine foldl_last (p := fun i => fpGe a (((List.range 9).map e).getD i fpZero)) ?_ 8 hk fun j hj hj' => ?_
  · rwa [getD_edges (by omega)]
  · rw [getD_edges (by omega)]
    exact habove j hj hj'

theorem axisExt_eq (a : Word) : axisExt ((List.range 9).map e) a = (fpIsNaN a || (fpLt a (e 0) || fpGe a (e 8))) := by
  unfold axisExt
  rw [getD_edges (by decide), getD_edges (by decide), Bool.or_assoc]

/-- An input stays in its cell as the hysteresis widens it. -/
def StaysIn (e : Nat → Word) (h a : Word) (c : Nat) : Prop :=
  (c = 0 ∨ fpGe a (subF (e c) h) = true) ∧ (c = 7 ∨ fpLt a (addF (e (c + 1)) h) = true)

/-- The highest cell whose lower edge an input reaches, or cell 0. -/
def ReachesCell (e : Nat → Word) (a : Word) (k : Nat) : Prop :=
  k < 8 ∧ (k = 0 ∨ fpGe a (e k) = true) ∧ ∀ j, k < j → j < 8 → fpGe a (e j) = false

theorem axisIdx_none {a : Word} {k : Nat} (hk : ReachesCell e a k) : (axisIdx ((List.range 9).map e) h a none).Gives k := by
  obtain ⟨hk8, hreach, habove⟩ := hk
  exact FpM.Gives.cast (gives_pure _) (axisCell_eq hk8 hreach habove)

theorem axisIdx_some {a : Word} {c k : Nat} (hc : c < 8) (ha : fpIsNaN a = false) (hfin : fpIsFinite (e 7) = true)
    (hstay : StaysIn e h a c → k = c) (hmove : ¬StaysIn e h a c → ReachesCell e a k) :
    (axisIdx ((List.range 9).map e) h a (some c)).Gives k := by
  have hlow : fpGe a (if c = 0 then fpNegInf else subF (e c) h) = true ↔ c = 0 ∨ fpGe a (subF (e c) h) = true := by
    split
    · next h0 => simp [h0, fpGe_negInf ha]
    · next h0 => simp [h0]
  have h7 : c = 7 → (if c = 7 then fpInf else addF (e (c + 1)) h) = fpInf := fun h => if_pos h
  have hn7 : c ≠ 7 → (if c = 7 then fpInf else addF (e (c + 1)) h) = addF (e (c + 1)) h := fun h => if_neg h
  unfold axisIdx
  dsimp only
  rw [getD_edges (by omega), getD_edges (by omega)]
  refine gives_ite_bind (gives_pure _) (gives_fsub ..) (gives_ite_bind (gives_pure _) (gives_fadd ..) (FpM.Gives.cast (gives_pure _) ?_))
  generalize (if c = 0 then fpNegInf else subF (e c) h) = lo at *
  generalize (if c = 7 then fpInf else addF (e (c + 1)) h) = hi at *
  by_cases hs : StaysIn e h a c
  · obtain rfl := hstay hs
    cases hhi : fpLt a hi with
    | true => rw [hlow.mpr hs.1, Bool.and_self, if_pos rfl]
    | false =>
      have hk : k = 7 := by
        by_contra hne
        rw [hn7 hne, hs.2.resolve_left hne] at hhi
        exact Bool.noConfusion hhi
      rw [h7 hk] at hhi
      subst hk
      rw [Bool.and_false, if_neg Bool.false_ne_true]
      exact axisCell_eq (by decide) (.inr (fpGe_of_not_lt_inf ha hhi hfin)) fun j hj hj' => by omega
  · obtain ⟨hk8, hreach, habove⟩ := hmove hs
    rw [if_neg, axisCell_eq hk8 hreach habove]
    rw [Bool.and_eq_true, hlow]
    rintro ⟨hl, hh⟩
    exact hs ⟨hl, or_iff_not_imp_left.mpr fun hne => hn7 hne ▸ hh⟩
end

/-- The region of two inputs. -/
theorem schedRegion_gives {ea et : Nat → Word} {ha ht a t reg : Word} (hna : fpIsNaN a = false) (hnt : fpIsNaN t = false)
    (hfa : AxisFits ea ha) (hft : AxisFits et ht) (hreg : reg.toNat ≤ 63 ∨ reg = 0xFFFFFFFF) {ka kt : Nat}
    (hsa : reg ≠ 0xFFFFFFFF ∧ StaysIn ea ha a (reg.toNat / 8) → ka = reg.toNat / 8)
    (hma : ¬(reg ≠ 0xFFFFFFFF ∧ StaysIn ea ha a (reg.toNat / 8)) → ReachesCell ea a ka)
    (hst : reg ≠ 0xFFFFFFFF ∧ StaysIn et ht t (reg.toNat % 8) → kt = reg.toNat % 8)
    (hmt : ¬(reg ≠ 0xFFFFFFFF ∧ StaysIn et ht t (reg.toNat % 8)) → ReachesCell et t kt) :
    (schedRegion ((List.range 9).map ea) ((List.range 9).map et) ha ht a t reg).Gives (8 * ka + kt) := by
  unfold schedRegion
  by_cases hr : reg = 0xFFFFFFFF
  · rw [show (reg == regionNone) = true from beq_iff_eq.mpr hr]
    exact gives_bind (axisIdx_none (hma fun h => h.1 hr)) (gives_bind (axisIdx_none (hmt fun h => h.1 hr)) (gives_pure _))
  · have h63 := hreg.resolve_right hr
    rw [show (reg == regionNone) = false from beq_eq_false_iff_ne.mpr hr]
    refine gives_bind (axisIdx_some (by omega) hna (hfa.1 7 (by decide)) (fun h => hsa ⟨hr, h⟩) fun h => hma fun h' => h h'.2)
      (gives_bind (axisIdx_some (by omega) hnt (hft.1 7 (by decide)) (fun h => hst ⟨hr, h⟩) fun h => hmt fun h' => h h'.2) (gives_pure _))

end Sys2Proof.Machine
end

section
/-! SUPPORT. SCHED as an instruction, and O15. -/
namespace Sys2Proof.Machine

/-- An edge of the grid. -/
def Loop.edge (L : Loop) (A axis i : Nat) : Word := L.dw (A + 36 * axis + 4 * i)

/-- The hysteresis width of an axis. -/
def Loop.gridWidth (L : Loop) (A axis : Nat) : Word := L.dw (A + 72 + 4 * axis)

/-- A schedule block in range (Table 3.10). -/
def Loop.SchedOk (L : Loop) (A : Nat) : Prop :=
  (∀ axis, axis < 2 → AxisFits (L.edge A axis) (L.gridWidth A axis)) ∧ ((L.dw (A + 80)).toNat ≤ 63 ∨ L.dw (A + 80) = 0xFFFFFFFF)

section
variable {L : Loop} {A : Nat}

theorem axes_fit_iff : L.SchedOk A ↔ (AxisFits (L.edge A 0) (L.gridWidth A 0) ∧ AxisFits (L.edge A 1) (L.gridWidth A 1)) ∧
    ((L.dw (A + 80)).toNat ≤ 63 ∨ L.dw (A + 80) = 0xFFFFFFFF) := by
  unfold Loop.SchedOk
  constructor
  · exact fun h => ⟨⟨h.1 0 (by decide), h.1 1 (by decide)⟩, h.2⟩
  · rintro ⟨⟨h0, h1⟩, hr⟩
    refine ⟨fun axis ha => ?_, hr⟩
    obtain rfl | rfl : axis = 0 ∨ axis = 1 := by omega
    · exact h0
    · exact h1

theorem schedBad_iff : (axisBad ((List.range 9).map (L.edge A 0)) (L.gridWidth A 0) ||
    axisBad ((List.range 9).map (L.edge A 1)) (L.gridWidth A 1) ||
    !(decide ((L.dw (A + 80)).toNat ≤ 63) || L.dw (A + 80) == regionNone)) = false ↔ L.SchedOk A := by
  rw [Bool.or_eq_false_iff, Bool.or_eq_false_iff, axisBad_iff, axisBad_iff, Bool.not_eq_false', Bool.or_eq_true, decide_eq_true_eq,
    beq_iff_eq, axes_fit_iff]
  exact Iff.rfl

/-- The words of a gain table's region copied to the first fields of a PID block. -/
theorem copied_eq {g p : Nat} (hg : 0x10000 ≤ g) (hp : 0x10000 ≤ p) (hap : g + 16 ≤ p ∨ p + 16 ≤ g) (n : Nat) (hn : n ≤ 4) :
    (List.range n).foldl (fun M k => M.setDw (p + 4 * k) (M.dw (g + 4 * k))) L =
      L.put ((List.range n).map fun k => (p + 4 * k, L.dw (g + 4 * k))) := by
  induction n with
  | zero => rfl
  | succ n ih =>
    have hdw : (L.put ((List.range n).map fun k => (p + 4 * k, L.dw (g + 4 * k)))).dw (g + 4 * n) = L.dw (g + 4 * n) := by
      refine put_dw_ne (by omega) ?_ ?_
      · simp only [List.mem_map, List.mem_range]
        rintro _ ⟨k, _, rfl⟩
        exact hp.trans (Nat.le_add_right ..)
      · simp only [List.mem_map, List.mem_range]
        rintro _ ⟨k, _, rfl⟩
        dsimp only
        omega
    rw [List.range_succ, List.foldl_append, ih (by omega), List.foldl_cons, List.foldl_nil, hdw, setDw_eq_put, put_put,
      List.map_append]
    rfl
end

section
variable {s : State} {l : Nat} (h : s.Ready l) (d a b c : Reg) {A : Nat} (hA : ((s.loop l).rg a).toNat = A)
include h hA

/-- A SCHED that completes. -/
theorem sched_done {M : Loop} {v : Word} {ws ws' : List (Nat × Word)} {f : Nat → Option Bool} {chg : Bool} (g : Word → Word)
    (hs : (s.loop l).sched d A ((s.loop l).rg b) ((s.loop l).rg c) = .ok ((M.wg d v).flagged g, chg)) (hM : M = (s.loop l).put ws)
    (hw : WordsWritten ws' (s.loop l).data (putWords ws (s.loop l).data)) (hf : FlagsStick (s.loop l).flg (g (s.loop l).flg) f) :
    ∃ t, exec (.sched l d a b c) s = .next t ∧ (t.loop l).flg = g (s.loop l).flg ∧
      State.LawDone l d v ws' f (if chg then 22 else 12) s t := by
  subst hA
  refine law_done (i := .sched l d a b c) (M := M) h ?_ g ?_ hM hw hf
    (word := encodeInstr (.sched l d a b c))
    (act := fun L => match L.sched d (L.rg a).toNat (L.rg b) (L.rg c) with
      | .error t => .error t
      | .ok r => .ok r.1)
  · rw [show exec (.sched l d a b c) s = execSched l d a b c s from rfl, execSched, hs]
    cases chg <;> rfl
  · rw [hs]

variable (hb : (s.loop l).HasBlock A 128 64)
include hb

theorem sched_outOfRange (hr : ¬(s.loop l).SchedOk A) : ∃ t, exec (.sched l d a b c) s = .next t ∧ bitAt (t.loop l).flg 9 = true ∧
    State.LawDone l d 0xFFFFFFFF [(A + 92, setBit ((s.loop l).dw (A + 92) &&& 0x1F) 3 true)]
      (fun i => if i = 13 then some true else none) 12 s t := by
  have hspread : Spread [(A + 92, setBit ((s.loop l).dw (A + 92) &&& 0x1F) 3 true)] := by
    have := hb.1
    simp [Spread]
    omega
  have hs : (s.loop l).sched d A ((s.loop l).rg b) ((s.loop l).rg c) =
      .ok ((((((s.loop l).setDw (A + 92) (setBit ((s.loop l).dw (A + 92) &&& 0x1F) 3 true)).wg d regionNone).setFlag flagEXT true).stick
        flNV), false) := by
    unfold Loop.sched
    rw [checkBlocks_one hb]
    exact if_pos (Bool.not_eq_false _ ▸ mt schedBad_iff.mp hr)
  obtain ⟨t, hx, hflg, hd⟩ := sched_done h d a b c hA (fun w => setBit w flagEXT true ||| w32 flNV)
    (hs.trans (by rw [setFlag_stick_flagged])) (setDw_eq_put ..) (wordsWritten_self hspread)
    (FlagsStick.stick (flagsStick_one _ (by decide) _) rfl)
  exact ⟨t, hx, hflg ▸ bitAt_stickNV _, hd⟩

variable (hr : (s.loop l).SchedOk A) {gt pb : Nat} (hgt : ((s.loop l).dw (A + 84)).toNat = gt)
  (hpb : ((s.loop l).dw (A + 88)).toNat = pb) (hbg : (s.loop l).HasBlock gt 1024 16) (hbp : (s.loop l).HasBlock pb 64 64)
include hr hgt hpb hbg hbp

/-- An input outside the grid on its axis. -/
def Loop.outside (L : Loop) (A axis : Nat) (x : Word) : Bool := fpLt x (L.edge A axis 0) || fpGe x (L.edge A axis 8)

omit h hA in
/-- SCHED on a block in range, past its checks. -/
theorem sched_inRange (air thr : Word) : (s.loop l).sched d A air thr =
    (let exta := fpIsNaN air || (s.loop l).outside A 0 air
     let extt := fpIsNaN thr || (s.loop l).outside A 1 thr
     if fpIsNaN air || fpIsNaN thr then
       .ok ((((s.loop l).setDw (A + 92) (w32 (exta.toNat + 2 * extt.toNat + 16))).wg d ((s.loop l).dw (A + 80))).setFlag flagEXT
         (exta || extt), false)
     else
       let r := fpRun (schedRegion ((List.range 9).map ((s.loop l).edge A 0)) ((List.range 9).map ((s.loop l).edge A 1))
         ((s.loop l).gridWidth A 0) ((s.loop l).gridWidth A 1) air thr ((s.loop l).dw (A + 80)))
       let chg := r.1 != ((s.loop l).dw (A + 80)).toNat
       let M := if chg then ((((List.range 4).foldl (fun M k => M.setDw (pb + 4 * k) (M.dw (gt + 16 * r.1 + 4 * k))) (s.loop l)).setDw
         (pb + 44) 1).setDw (A + 80) (w32 r.1)) else s.loop l
       .ok ((((M.setDw (A + 92) (w32 (exta.toNat + 2 * extt.toNat + 4 * chg.toNat))).wg d (w32 r.1)).setFlag flagEXT
         (exta || extt)).stick r.2, chg)) := by
  have hblocks : (s.loop l).checkBlocks [(gt, 1024, 16), (pb, 64, 64)] = none := checkBlocks_none fun x hx => by
    simp only [List.mem_cons, List.not_mem_nil, or_false] at hx
    rcases hx with rfl | rfl
    · exact hbg
    · exact hbp
  have hext0 := axisExt_eq (e := (s.loop l).edge A 0) air
  have hext1 := axisExt_eq (e := (s.loop l).edge A 1) thr
  unfold Loop.sched
  rw [checkBlocks_one hb]
  refine (if_neg (Bool.eq_false_iff.mp (schedBad_iff.mpr hr))).trans ?_
  rw [hgt, hpb, hblocks]
  unfold Loop.outside
  rw [← hext0, ← hext1]
  rfl

theorem sched_nan (hnan : (fpIsNaN ((s.loop l).rg b) || fpIsNaN ((s.loop l).rg c)) = true) :
    ∃ t, exec (.sched l d a b c) s = .next t ∧ State.LawDone l d ((s.loop l).dw (A + 80))
      [(A + 92, w32 ((fpIsNaN ((s.loop l).rg b) || (s.loop l).outside A 0 ((s.loop l).rg b)).toNat +
        2 * (fpIsNaN ((s.loop l).rg c) || (s.loop l).outside A 1 ((s.loop l).rg c)).toNat + 16))]
      (fun i => if i = 13 then some true else none) 12 s t := by
  have hspread (w : Word) : Spread [(A + 92, w)] := by
    have := hb.1
    simp [Spread]
    omega
  have hext (p q x y : Bool) (hpq : (p || q) = true) : ((p || x) || (q || y)) = true := by revert p q x y; decide
  have hs := (sched_inRange d hb hr hgt hpb hbg hbp ((s.loop l).rg b) ((s.loop l).rg c)).trans (if_pos hnan)
  rw [hext _ _ _ _ hnan, setFlag_flagged] at hs
  obtain ⟨t, hx, -, hd⟩ := sched_done h d a b c hA _ hs (setDw_eq_put ..) (wordsWritten_self (hspread _)) (flagsStick_one _ (by decide) _)
  exact ⟨t, hx, hd⟩

theorem sched_region (hnb : fpIsNaN ((s.loop l).rg b) = false) (hnc : fpIsNaN ((s.loop l).rg c) = false)
    (hap : A + 128 ≤ gt ∨ gt + 1024 ≤ A) (hap' : A + 128 ≤ pb ∨ pb + 64 ≤ A) (hap'' : gt + 1024 ≤ pb ∨ pb + 64 ≤ gt)
    {r : Nat} (hr63 : r ≤ 63)
    (hreg : (schedRegion ((List.range 9).map ((s.loop l).edge A 0)) ((List.range 9).map ((s.loop l).edge A 1))
         ((s.loop l).gridWidth A 0) ((s.loop l).gridWidth A 1) ((s.loop l).rg b) ((s.loop l).rg c) ((s.loop l).dw (A + 80))).Gives r)
    {changed : Bool} (hchg : decide (r ≠ ((s.loop l).dw (A + 80)).toNat) = changed) :
    ∃ t, exec (.sched l d a b c) s = .next t ∧ State.LawDone l d (w32 r)
      ((A + 92, w32 (((s.loop l).outside A 0 ((s.loop l).rg b)).toNat +
          2 * ((s.loop l).outside A 1 ((s.loop l).rg c)).toNat + 4 * changed.toNat)) ::
        if changed then [(A + 80, w32 r), (pb + 44, 1)] ++
          (List.range 4).map fun k => (pb + 4 * k, (s.loop l).dw (gt + 16 * r + 4 * k)) else [])
      (fun i => if i = 13 then some ((s.loop l).outside A 0 ((s.loop l).rg b) || (s.loop l).outside A 1 ((s.loop l).rg c)) else none)
      (if changed then 22 else 12) s t := by
  have hA0 := hb.1
  have hg0 := hbg.1
  have hp0 := hbp.1
  have hne : (r != ((s.loop l).dw (A + 80)).toNat) = changed := by
    rw [← hchg]
    by_cases hrk : r = ((s.loop l).dw (A + 80)).toNat <;> simp [hrk]
  have hs := (sched_inRange d hb hr hgt hpb hbg hbp ((s.loop l).rg b) ((s.loop l).rg c)).trans
    (if_neg (by rw [hnb, hnc]; exact Bool.false_ne_true))
  have hfl := hreg.flags
  dsimp only at hs
  rw [hreg.val, hne, hnb, hnc, Bool.false_or, Bool.false_or, setFlag_stick_flagged] at hs
  have hflag := FlagsStick.stick (flagsStick_one (s.loop l).flg (j := flagEXT) (by decide)
    ((s.loop l).outside A 0 ((s.loop l).rg b) || (s.loop l).outside A 1 ((s.loop l).rg c))) hfl
  generalize (s.loop l).outside A 0 ((s.loop l).rg b) = oa at *
  generalize (s.loop l).outside A 1 ((s.loop l).rg c) = ot at *
  cases changed with
  | false =>
    have hspread (w : Word) : Spread [(A + 92, w)] := by
      simp [Spread]
      omega
    obtain ⟨t, hx, -, hd⟩ := sched_done h d a b c hA _ hs (setDw_eq_put ..) (wordsWritten_self (hspread _)) hflag
    exact ⟨t, hx, hd⟩
  | true =>
    rw [if_pos rfl, copied_eq (g := gt + 16 * r) (by omega) hp0 (by omega) 4 le_rfl, setDw_eq_put, setDw_eq_put, setDw_eq_put,
      put_put, put_put, put_put] at hs
    have hspread (x : Nat → Word) (w w' : Word) :
        Spread ((List.range 4).map (fun k => (pb + 4 * k, x k)) ++ [(pb + 44, 1)] ++ [(A + 80, w)] ++
        [(A + 92, w')]) := by
      simp [Spread, Apart, List.range_succ]
      omega
    obtain ⟨t, hx, -, hd⟩ := sched_done h d a b c hA _ hs rfl 
      (wordsWritten_self (hspread (fun k => (s.loop l).dw (gt + 16 * r + 4 * k)) _ _)) hflag
    refine ⟨t, hx, hd.words fun e => ?_⟩
    simp only [List.mem_append, List.mem_cons, List.not_mem_nil, or_false, if_true]
    tauto
end

theorem cell_lt {e : Nat → Word} {a : Word} {p : Prop} {c k : Nat} (hc : p → c < 8) (hstay : p → k = c) (hmove : ¬p → ReachesCell e a k) :
    k < 8 := by
  by_cases hp : p
  · exact hstay hp ▸ hc hp
  · exact (hmove hp).1

/-- Settles O15: MINS scans for the lowest smallest candidate and chooses with hysteresis; SCHED finds the cell of each input and copies
the gains of a new region. -/
theorem selectionAndSchedule : Obligations.SelectionAndSchedule := by
  unfold Obligations.SelectionAndSchedule
  refine ⟨fun s l d a h => ?_, fun s l d a b c h => ?_⟩
  · intro L at' n hw sel pb cand flag none' hb
    refine ⟨fun hbad => mins_badCount h d a rfl hb rfl hbad,
      fun h2 h8 hblk hnan => mins_allNaN h d a rfl hb rfl h2 h8 (fun _ => rfl) hblk hnan, ?_⟩
    intro h2 h8 hblk hinj m hm hnum hmin hfirst bad k
    exact mins_chooses h d a rfl hb rfl h2 h8 (fun _ => rfl) (fun i hi => (hblk i hi).1) (fun i hi => (hblk i hi).2) hinj hm hnum hmin hfirst
      rfl rfl rfl rfl
  · intro L at' edge hyst input reg gt pb apart out old ext inRange nanIn hb
    refine ⟨fun hr => sched_outOfRange h d a b c rfl hb hr, fun hr hbg hbp hnan => ?_, ?_⟩
    · exact sched_nan h d a b c rfl hb hr rfl rfl hbg hbp ((Bool.or_eq_true _ _).mpr hnan)
    · intro hr hbg hbp hap hap' hap'' hnb hnc idx hidx r changed
      obtain ⟨hfit, hreg⟩ := hr
      obtain ⟨hstay0, hmove0⟩ := hidx 0 (by decide)
      obtain ⟨hstay1, hmove1⟩ := hidx 1 (by decide)
      have hgive := schedRegion_gives hnb hnc (hfit 0 (by decide)) (hfit 1 (by decide)) hreg hstay0 hmove0 hstay1 hmove1
      have h0 : idx 0 < 8 := cell_lt (fun hs => Nat.div_lt_of_lt_mul (Nat.lt_succ_of_le (hreg.resolve_right hs.1))) hstay0 hmove0
      have h1 : idx 1 < 8 := cell_lt (fun _ => Nat.mod_lt _ (by decide)) hstay1 hmove1
      have h63 : 8 * idx 0 + idx 1 ≤ 63 := by omega
      exact sched_region h d a b c rfl hb ⟨hfit, hreg⟩ rfl rfl hbg hbp hnb hnc hap hap' hap'' h63 hgive rfl

end Sys2Proof.Machine
end

section
/-! SUPPORT. Trace buffers that a TAP is offered to (R140 to R142). -/
namespace Sys2Proof.Machine

/-! ### What one buffer concerns -/

/-- The registers that capture in a buffer writes. -/
def ownTrace (n : Nat) : List Nat := [Reg.TRC_STAT n, Reg.TRC_LOST n, Reg.TRC_TIDX n, Reg.TRC_GSTAT]

/-- `t` differs from `s` in a buffer and the registers of its capture alone. -/
def State.Traces (n : Nat) (s t : State) : Prop :=
  State.Adds [.act, .traces] (ownTrace n) s t ∧ ∀ k, k ≠ n → t.trace k = s.trace k

section
variable {s t u : State} {n : Nat}

theorem traces_refl (n : Nat) (s : State) : s.Traces n s := ⟨adds_refl .., fun _ _ => rfl⟩

theorem State.Traces.trans (h : u.Traces n s) (h' : s.Traces n t) : u.Traces n t :=
  ⟨h.1.trans h'.1, fun k hk => (h'.2 k hk).trans (h.2 k hk)⟩

theorem traces_setReg (s : State) {k : Nat} (hk : k ∈ ownTrace n) (v : Word) : s.Traces n (s.setReg k v) :=
  ⟨(adds_setReg s k v).within (by decide) (by simpa using hk), fun _ _ => rfl⟩

theorem traces_setTrace (s : State) (n : Nat) (x : Trace) : s.Traces n (s.setTrace n x) := by
  refine ⟨⟨fun p hp => ?_, fun _ _ => rfl, [], (List.append_nil _).symm⟩, fun k hk => trace_setTrace_ne s hk x⟩
  cases p with
  | traces => exact absurd (by decide) hp
  | _ => rfl

theorem traces_trcRun (s : State) (n : Nat) : s.Traces n (s.trcRun n) :=
  (traces_setReg s (by simp [ownTrace]) _).trans (traces_setReg _ (by simp [ownTrace]) _)

theorem traces_trcFull (s : State) (n : Nat) : s.Traces n (s.trcFull n) :=
  (traces_setReg s (by simp [ownTrace]) _).trans (traces_trcRun ..)

theorem traces_trcTrigger (s : State) (n idx : Nat) : s.Traces n (s.trcTrigger n idx) := by
  unfold State.trcTrigger
  extract_lets post s1 src s2
  have h2 : s.Traces n s2 := ((traces_setReg s (by simp [ownTrace]) _).trans (traces_setReg _ (by simp [ownTrace]) _)).trans (traces_setTrace ..)
  split
  · exact traces_refl ..
  · split
    · exact h2.trans (traces_trcFull ..)
    · exact h2

theorem traces_trcPut (s : State) (n : Nat) (entry : List Word) : s.Traces n (s.trcPut n entry) := by
  unfold State.trcPut
  extract_lets x e post s1
  split
  · exact ((traces_setTrace ..).trans (traces_setReg _ (by simp [ownTrace]) _)).trans (traces_setReg _ (by simp [ownTrace]) _)
  · split
    · exact (traces_setTrace ..).trans (traces_trcFull ..)
    · exact traces_setTrace ..

theorem traces_trcTap (l m : Nat) (a b : Word) (s : State) (n : Nat) : s.Traces n (State.trcTap l m a b s n) := by
  unfold State.trcTap
  extract_lets sel s1
  have h1 : s.Traces n s1 := by
    unfold s1
    split
    · exact traces_trcTrigger ..
    · exact traces_refl ..
  split
  · exact traces_refl ..
  · split
    · exact h1.trans (traces_trcPut ..)
    · exact h1
end

/-! ### A buffer that capture elsewhere leaves alone -/

/-- A buffer, its registers, and all that is neither a buffer nor a register agree. -/
structure State.SameTrace (s : State) (k : Nat) (t : State) : Prop where
  parts : State.Only [.act, .traces] s t
  buffer : t.trace k = s.trace k
  regs : ∀ r, r < 0x1000 → t.reg (Reg.TRC_CFG k + r) = s.reg (Reg.TRC_CFG k + r)

section
variable {s t u : State} {k : Nat}

theorem sameTrace_refl (s : State) (k : Nat) : s.SameTrace k s := ⟨only_refl _ _, rfl, fun _ _ => rfl⟩

theorem State.SameTrace.trans (h : u.SameTrace k s) (h' : s.SameTrace k t) : u.SameTrace k t :=
  ⟨only_trans h.parts h'.parts, h'.buffer.trans h.buffer, fun r hr => (h'.regs r hr).trans (h.regs r hr)⟩

theorem sameTrace_of_traces {n : Nat} (h : s.Traces n t) (hk : k < 16) (hne : k ≠ n) : s.SameTrace k t := by
  obtain ⟨⟨hp, hr, -⟩, ht⟩ := h
  refine ⟨hp, ht k hne, fun r hr' => hr _ ?_⟩
  simp only [ownTrace, Reg.TRC_CFG, Reg.TRC_STAT, Reg.TRC_LOST, Reg.TRC_TIDX, Reg.TRC_GSTAT, List.mem_cons, List.not_mem_nil, or_false]
  omega

theorem State.SameTrace.shed (h : s.SameTrace k t) (n : Nat) : t.shed n = s.shed n := by
  unfold State.shed
  rw [show t.pwr = s.pwr from h.parts .pwr (by decide)]

theorem State.SameTrace.dtb (h : s.SameTrace k t) : t.dtb = s.dtb := h.parts .dtb (by decide)

theorem State.SameTrace.cfg (h : s.SameTrace k t) : t.reg (Reg.TRC_CFG k) = s.reg (Reg.TRC_CFG k) := h.regs 0 (by decide)

theorem State.SameTrace.stat (h : s.SameTrace k t) : t.reg (Reg.TRC_STAT k) = s.reg (Reg.TRC_STAT k) := by
  rw [show Reg.TRC_STAT k = Reg.TRC_CFG k + 8 by unfold Reg.TRC_STAT Reg.TRC_CFG; omega]
  exact h.regs 8 (by decide)

theorem State.SameTrace.lost (h : s.SameTrace k t) : t.reg (Reg.TRC_LOST k) = s.reg (Reg.TRC_LOST k) := by
  rw [show Reg.TRC_LOST k = Reg.TRC_CFG k + 12 by unfold Reg.TRC_LOST Reg.TRC_CFG; omega]
  exact h.regs 12 (by decide)

theorem State.SameTrace.sloop (h : s.SameTrace k t) {j : Nat} (hj : j < 8) : t.reg (Reg.TRC_SLOOP k j) = s.reg (Reg.TRC_SLOOP k j) := by
  rw [show Reg.TRC_SLOOP k j = Reg.TRC_CFG k + (0x100 + 8 * j) by unfold Reg.TRC_SLOOP Reg.TRC_CFG; omega]
  exact h.regs _ (by omega)

theorem State.SameTrace.smask (h : s.SameTrace k t) {j : Nat} (hj : j < 8) : t.reg (Reg.TRC_SMASK k j) = s.reg (Reg.TRC_SMASK k j) := by
  rw [show Reg.TRC_SMASK k j = Reg.TRC_CFG k + (0x104 + 8 * j) by unfold Reg.TRC_SMASK Reg.TRC_CFG; omega]
  exact h.regs _ (by omega)
end

/-! ### Selectors armed (R140) -/

/-- A selector of a buffer is armed for a tap point of a loop. -/
def State.Armed (s : State) (k l m j : Nat) : Prop :=
  s.shed 1 = false ∧ fld (s.reg (Reg.TRC_CFG k)) 31 30 ≠ 0 ∧ bitAt (s.reg (Reg.TRC_STAT k)) 20 = false ∧
    bitAt (s.reg (Reg.TRC_STAT k)) 21 = false ∧ fld (s.reg (Reg.TRC_CFG k)) 28 19 = (s.loop l).cell ∧
    bitAt (s.reg (Reg.TRC_SLOOP k j)) 31 = true ∧ fld (s.reg (Reg.TRC_SLOOP k j)) 12 0 = l ∧ bitAt (s.reg (Reg.TRC_SMASK k j)) m = true

section
variable {s t : State} {k l m : Nat}

theorem mem_trcArmed {j : Nat} : j ∈ s.trcArmed k l m ↔ j < 8 ∧ s.Armed k l m j := by
  unfold State.trcArmed State.Armed State.trcCapturing State.trcMode State.trcNaming State.regF State.regB allSelectors
  split
  · next hc =>
    simp only [Bool.and_eq_true, Bool.not_eq_true', bne_iff_ne, beq_iff_eq] at hc
    simp only [List.mem_filter, List.mem_range, Bool.and_eq_true, beq_iff_eq]
    tauto
  · next hc =>
    simp only [Bool.and_eq_true, Bool.not_eq_true', bne_iff_ne, beq_iff_eq] at hc
    simp only [List.not_mem_nil, false_iff]
    rintro ⟨-, hs, hm, h20, h21, hcell, -⟩
    exact hc ⟨⟨hs, ⟨hm, h20⟩, h21⟩, hcell.symm⟩

theorem State.SameTrace.armed (h : s.SameTrace k t) {j : Nat} (hj : j < 8) : t.Armed k l m j ↔ s.Armed k l m j := by
  unfold State.Armed
  rw [h.shed, h.cfg, h.stat, h.sloop hj, h.smask hj, loop_of_only h.parts (by decide)]

theorem trcArmed_isEmpty : (s.trcArmed k l m).isEmpty = true ↔ ∀ j, j < 8 → ¬s.Armed k l m j := by
  rw [List.isEmpty_iff, List.eq_nil_iff_forall_not_mem]
  exact ⟨fun h j hj ha => h j (mem_trcArmed.mpr ⟨hj, ha⟩), fun h j hj => h j (mem_trcArmed.mp hj).1 (mem_trcArmed.mp hj).2⟩

theorem tapArmed_eq_false : s.tapArmed l m = false ↔ ∀ k, k < 16 → (s.trcArmed k l m).isEmpty = true := by
  simp [State.tapArmed, allTraces]

theorem capturing_of_armed {j : Nat} (h : s.Armed k l m j) : s.trcCapturing k = true := by
  obtain ⟨-, hm, h20, h21, -⟩ := h
  simp [State.trcCapturing, State.trcMode, State.regF, State.regB, hm, h20, h21]
end

/-! ### An entry (R141, Table 3.12) -/

theorem setBit_gap {w : Nat} (hw : w < 2 ^ 18) (g : Bool) : setBit (w32 w) 18 g = w32 (g.toNat * 2 ^ 18 + w) := by
  have hw32 : (w32 w).toNat = w := toNat_w32 (by omega)
  apply BitVec.eq_of_toNat_eq
  rw [setBit, setFld_nat _ _ _ _ le_rfl (by decide), hw32, Nat.div_eq_of_lt (by omega), toNat_w32 (by cases g <;> simp <;> omega)]
  cases g <;> simp <;> omega

theorem fld_word (w : Word) : fld w 31 0 = w.toNat := by
  have := w.isLt
  rw [fld]
  omega

section
variable (s : State) (k : Nat)

theorem trace_trcFull : (s.trcFull k).trace k = s.trace k := by
  rw [State.trcFull, State.trcRun, trace_setRegB, trace_setRegB, trace_setRegB]

theorem trcPut_room {a b c d : Word} (h : (s.trace k).waiting.length ≤ 64) :
    ((s.trcPut k [a, b, c, d]).trace k).gap = false ∧
      ((s.trcPut k [a, b, c, d]).trace k).waiting = (s.trace k).waiting ++ [[a, b, setBit c 18 (s.trace k).gap, d]] := by
  unfold State.trcPut
  extract_lets x e post s1
  have h1 : s1.trace k = { x with waiting := x.waiting ++ [e], gap := false, post := post, captured := x.captured + 1 } :=
    trace_setTrace_same ..
  rw [if_neg (not_lt.mpr h)]
  split
  · rw [trace_trcFull, h1]
    exact ⟨rfl, rfl⟩
  · rw [h1]
    exact ⟨rfl, rfl⟩

theorem trcPut_full (entry : List Word) (h : 64 < (s.trace k).waiting.length) :
    (s.trcPut k entry).trace k = { s.trace k with gap := true } ∧ bitAt ((s.trcPut k entry).reg (Reg.TRC_STAT k)) 22 = true ∧
      ((s.trcPut k entry).reg (Reg.TRC_LOST k)).toNat = min 0xFFFFFFFF ((s.reg (Reg.TRC_LOST k)).toNat + 1) := by
  have hne : Reg.TRC_LOST k ≠ Reg.TRC_STAT k := by
    unfold Reg.TRC_LOST Reg.TRC_STAT
    omega
  have hput : s.trcPut k entry = ((s.setTrace k { s.trace k with gap := true }).countReg (Reg.TRC_LOST k) 31 0 0xFFFFFFFF 1).setRegB
      (Reg.TRC_STAT k) 22 true := if_pos h
  rw [hput]
  refine ⟨?_, ?_, ?_⟩
  · rw [trace_setRegB, trace_countReg, trace_setTrace_same]
  · rw [reg_setRegB_same, bitAt_setBit_same _ _ _ (by decide)]
  · have hcount := regF_countReg (s.setTrace k { s.trace k with gap := true }) (k := Reg.TRC_LOST k) (hi := 31) (lo := 0) (by decide)
      (by decide) 1
    rw [State.regF, State.regF, fld_word, fld_word, reg_setTrace] at hcount
    rw [reg_setRegB_ne _ hne]
    exact hcount

variable {s} {k}

/-- A TAP offered to a buffer that has its point armed by selectors without TRIG. -/
theorem trcTap_armed {l m j : Nat} {a b : Word} (hj : j < 8) (ha : s.Armed k l m j)
    (htrig : ∀ j, j < 8 → s.Armed k l m j → bitAt (s.reg (Reg.TRC_SLOOP k j)) 30 = false) :
    State.trcTap l m a b s k = s.trcPut k (traceEntry a b m l s.dtb) := by
  have hne : ¬(s.trcArmed k l m).isEmpty = true := fun he => trcArmed_isEmpty.mp he j hj ha
  have hany : ¬((s.trcArmed k l m).any fun j => s.regB (Reg.TRC_SLOOP k j) 30) = true := by
    rw [List.any_eq_true]
    rintro ⟨i, hi, hb⟩
    obtain ⟨hi8, hai⟩ := mem_trcArmed.mp hi
    exact Bool.noConfusion ((htrig i hi8 hai).symm.trans hb)
  unfold State.trcTap
  dsimp only
  rw [if_neg hne, if_neg hany, if_pos (capturing_of_armed ha)]

theorem trcTap_unarmed {l m : Nat} {a b : Word} (h : ∀ j, j < 8 → ¬s.Armed k l m j) : State.trcTap l m a b s k = s :=
  if_pos (trcArmed_isEmpty.mpr h)
end

/-! ### All buffers -/

/-- Of a TAP offered to every buffer, one buffer sees its own offer, in a state that agrees with the one before. -/
theorem taps_visit (s : State) (l m : Nat) (a b : Word) {k : Nat} (hk : k < 16) : ∃ u, s.SameTrace k u ∧
    (State.trcTap l m a b u k).SameTrace k (allTraces.foldl (State.trcTap l m a b) s) := by
  have hsame (ns : List Nat) (hns : ∀ n ∈ ns, k ≠ n) (v : State) : v.SameTrace k (ns.foldl (State.trcTap l m a b) v) :=
    List.foldlRecOn ns _ (sameTrace_refl v k) fun t ht n hn =>
      ht.trans (sameTrace_of_traces (traces_trcTap ..) hk (hns n hn))
  obtain ⟨before, after, hsplit⟩ := List.append_of_mem (show k ∈ allTraces from List.mem_range.mpr hk)
  have hnodup : (before ++ k :: after).Nodup := hsplit ▸ List.nodup_range
  obtain ⟨hk', -⟩ := List.nodup_cons.mp (List.nodup_middle.mp hnodup)
  rw [hsplit, List.foldl_append, List.foldl_cons]
  exact ⟨_, hsame _ (fun n hn => ne_of_mem_of_not_mem (List.mem_append_left _ hn) hk' |>.symm) s,
    hsame _ (fun n hn => ne_of_mem_of_not_mem (List.mem_append_right _ hn) hk' |>.symm) _⟩

end Sys2Proof.Machine
end

section
/-! SUPPORT. OUT, TAP and FIR (R91 to R98, R139 to R141). -/
namespace Sys2Proof.Machine

/-! ### OUT (R94 to R97) -/

section
variable {s : State} {l n : Nat} {v : Word}

theorem outSlot_unknown (h : 104 ≤ n) : s.outSlot l n v = .error ⟨2, 6, n⟩ := if_pos h

theorem outSlot_foreign (h : n < 104) (ho : s.ownsSlot l n = false) : s.outSlot l n v = .error ⟨2, 5, n⟩ :=
  (if_neg (not_le.mpr h)).trans (if_pos (by rw [ho]; rfl))

theorem outSlot_notFinite (h : n < 104) (ho : s.ownsSlot l n = true) (hv : fpIsFinite v = false) : s.outSlot l n v = .error ⟨5, 0, n⟩ := by
  have hbad : (fpIsNaN v || fpIsInf v) = true := by simpa [fpIsFinite, or_iff_not_imp_left] using hv
  exact (if_neg (not_le.mpr h)).trans ((if_neg (by rw [ho]; exact Bool.false_ne_true)).trans (if_pos hbad))

/-- A slot that takes a value for the next boundary. -/
def State.slotTakes (s : State) (l n : Nat) (v : Word) : State :=
  s.setSlot n { s.slot n with next := (s.slot n).early (periodStart (s.loop l).period s.dtb) ++ [⟨s.dtb, (s.loop l).per, v⟩] }

/-- The loop after an OUT: the slot stands among those of its period. -/
def Loop.outDone (L : Loop) (n : Nat) : Loop :=
  { L with pc := (L.pc + 4) % 0x100000000, outs := n :: L.outs.filter fun m => m != n }

theorem outSlot_taken (h : n < 104) (ho : s.ownsSlot l n = true) (hv : fpIsFinite v = true) :
    s.outSlot l n v = .ok ((s.slotTakes l n v).setLoop l ((s.loop l).outDone n)) := by
  have hgood : ¬(fpIsNaN v || fpIsInf v) = true := by simpa [fpIsFinite] using hv
  refine (if_neg (not_le.mpr h)).trans ((if_neg (by rw [ho]; exact Bool.false_ne_true)).trans ((if_neg hgood).trans (congrArg _ ?_)))
  unfold State.stepLoop
  dsimp only
  rw [loop_setLoop_same, setLoop_setLoop]
  rfl

theorem out_takes (hr : s.Ready l) (a b : Reg) (hn : ((s.loop l).rg a).toNat = n) (hv : (s.loop l).rg b = v) (h : n < 104)
    (ho : s.ownsSlot l n = true) (hf : fpIsFinite v = true) : exec (.out l a b) s =
      .next ((s.slotTakes l n v).setLoop l { (s.loop l).outDone n with cycles := (s.loop l).cycles + 4 }) := by
  refine congrArg Host.Outcome.next ?_
  rw [runInstr_ready hr, hn, hv, outSlot_taken h ho hf]
  dsimp only
  rw [loop_setLoop_same, setLoop_setLoop]

theorem out_holds (hr : s.Ready l) (a b : Reg) (hn : ((s.loop l).rg a).toNat = n) (hv : (s.loop l).rg b = v) (h : n < 104)
    (ho : s.ownsSlot l n = true) (hf : fpIsFinite v = true) : ∃ t, exec (.out l a b) s = .next t ∧ State.Only [.slots, .loops] s t ∧
      t.slot n = { s.slot n with next := (s.slot n).early (periodStart (s.loop l).period s.dtb) ++ [⟨s.dtb, (s.loop l).per, v⟩] } ∧
      (∀ k, k ≠ n → t.slot k = s.slot k) ∧ (∀ k, k ≠ l → t.loop k = s.loop k) ∧ n ∈ (t.loop l).outs ∧
      t.loop l = { s.loop l with
        outs := (t.loop l).outs, pc := ((s.loop l).pc + 4) % 2 ^ 32, cycles := (s.loop l).cycles + 4 } := by
  refine ⟨_, out_takes hr a b hn hv h ho hf, ?_, ?_, fun k hk => ?_, fun k hk => ?_, ?_, ?_⟩
  · exact ((adds_setSlot ..).step (adds_setLoop ..)).1
  · rw [slot_setLoop]
    exact slot_setSlot_same ..
  · rw [slot_setLoop]
    exact slot_setSlot_ne _ hk _
  · rw [loop_setLoop_ne _ hk]
    rfl
  · rw [loop_setLoop_same]
    exact .head _
  · rw [loop_setLoop_same]
    rfl
end

/-! ### TAP (R98, R140, R141) -/

section
variable {s : State} {l : Nat} (h : s.Ready l) (m : BitVec 5) (a b : Reg)
include h

theorem tap_unarmed (hm : s.tapArmed l m.toNat = false) : ∃ t, exec (.tap l m a b) s = .next t ∧ State.Retired l 0 0 (s.loop l).flg 1 s t := by
  have hfold : allTraces.foldl (State.trcTap l m.toNat ((s.loop l).rg a) ((s.loop l).rg b)) s = s :=
    List.foldlRecOn allTraces _ (motive := fun t => t = s) rfl fun t ht n hn => by
      rw [ht]
      exact if_pos (tapArmed_eq_false.mp hm n (List.mem_range.mp hn))
  refine ⟨_, rfl, ?_⟩
  rw [hm, runInstr_stepLoop h (f := id) _ _ (by dsimp only; rw [hfold])]
  exact retired_setLoop s l 1 0 0 (s.loop l).flg

/-- The state after a TAP that some buffer has armed. -/
def State.tapped (s : State) (l m : Nat) (a b : Word) : State :=
  (allTraces.foldl (State.trcTap l m a b) s).setLoop l
    { s.loop l with pc := ((s.loop l).pc + 4) % 0x100000000, cycles := (s.loop l).cycles + 3 }

omit h in
theorem only_taps (s : State) (l m : Nat) (a b : Word) : State.Only [.act, .traces] s (allTraces.foldl (State.trcTap l m a b) s) :=
  List.foldlRecOn allTraces _ (only_refl _ s) fun _ ht n _ => only_trans ht (traces_trcTap l m a b _ n).1.1

theorem tap_armed (hm : s.tapArmed l m.toNat = true) :
    exec (.tap l m a b) s = .next (s.tapped l m.toNat ((s.loop l).rg a) ((s.loop l).rg b)) := by
  refine congrArg Host.Outcome.next ?_
  have hl := loop_of_only (only_taps s l m.toNat ((s.loop l).rg a) ((s.loop l).rg b)) (by decide) l
  rw [runInstr_ready h, hm]
  unfold State.stepLoop
  dsimp only
  rw [loop_setLoop_same, setLoop_setLoop, hl]
  rfl
end

section
variable (s : State) (l m : Nat) (a b : Word)

theorem tapped_frame : State.Only [.act, .traces, .loops] s (s.tapped l m a b) ∧ (s.tapped l m a b).loop l =
    { s.loop l with pc := ((s.loop l).pc + 4) % 2 ^ 32, cycles := (s.loop l).cycles + 3 } := by
  unfold State.tapped
  rw [loop_setLoop_same]
  exact ⟨only_trans (only_mono (only_taps s l m a b) (by decide)) (only_setLoop _ _ (by decide) _ _), rfl⟩

theorem trace_tapped (k : Nat) : (s.tapped l m a b).trace k = (allTraces.foldl (State.trcTap l m a b) s).trace k := by
  unfold State.tapped
  generalize allTraces.foldl (State.trcTap l m a b) s = u
  rfl

theorem reg_tapped (k : Nat) : (s.tapped l m a b).reg k = (allTraces.foldl (State.trcTap l m a b) s).reg k := by
  unfold State.tapped
  rw [reg_setLoop]

variable {s l m} {k : Nat} (hk : k < 16)
include hk

theorem tapped_unarmed (h : ∀ j, j < 8 → ¬s.Armed k l m j) : (s.tapped l m a b).trace k = s.trace k := by
  obtain ⟨u, hu, ht⟩ := taps_visit s l m a b hk
  rw [trcTap_unarmed fun j hj ha => h j hj ((hu.armed hj).mp ha)] at ht
  rw [trace_tapped, ht.buffer, hu.buffer]

/-- A buffer that has the point armed by selectors without TRIG takes the entry, or owes a GAP where 64 wait. -/
theorem tapped_armed (hm : m < 32) (h : ∃ j, j < 8 ∧ s.Armed k l m j)
    (htrig : ∀ j, j < 8 → s.Armed k l m j → bitAt (s.reg (Reg.TRC_SLOOP k j)) 30 = false) :
    ((s.trace k).waiting.length ≤ 64 → ((s.tapped l m a b).trace k).gap = false ∧ ((s.tapped l m a b).trace k).waiting =
      (s.trace k).waiting ++ [[a, b, w32 ((s.trace k).gap.toNat * 2 ^ 18 + m * 2 ^ 13 + l % 2 ^ 13), w32 s.dtb]]) ∧
    (64 < (s.trace k).waiting.length → (s.tapped l m a b).trace k = { s.trace k with gap := true } ∧
      bitAt ((s.tapped l m a b).reg (Reg.TRC_STAT k)) 22 = true ∧
      ((s.tapped l m a b).reg (Reg.TRC_LOST k)).toNat = min 0xFFFFFFFF ((s.reg (Reg.TRC_LOST k)).toNat + 1)) := by
  obtain ⟨u, hu, ht⟩ := taps_visit s l m a b hk
  obtain ⟨j, hj, ha⟩ := h
  rw [trcTap_armed hj ((hu.armed hj).mpr ha) fun i hi hi' => by rw [hu.sloop hi]; exact htrig i hi ((hu.armed hi).mp hi'), hu.dtb] at ht
  refine ⟨fun hroom => ?_, fun hfull => ?_⟩
  · obtain ⟨hg, hw⟩ := trcPut_room u k (a := a) (b := b) (c := w32 (m * 0x2000 + l % 0x2000)) (d := w32 s.dtb) (by rwa [hu.buffer])
    rw [setBit_gap (by omega), hu.buffer, ← Nat.add_assoc] at hw
    rw [trace_tapped, ht.buffer]
    exact ⟨hg, hw⟩
  · obtain ⟨hx, hs, hlost⟩ := trcPut_full u k (traceEntry a b m l s.dtb) (by rwa [hu.buffer])
    rw [hu.buffer] at hx
    rw [hu.lost] at hlost
    rw [trace_tapped, reg_tapped, reg_tapped, ht.buffer, ht.stat, ht.lost]
    exact ⟨hx, hs, hlost⟩
end

/-! ### FIR (R91 to R93) -/

theorem setDws_eq_put (a : Nat) (f : Nat → Word) (n i : Nat) (L : Loop) :
    L.setDws (a + 4 * i) ((List.range' i n).map f) = L.put ((List.range' i n).map fun k => (a + 4 * k, f k)) := by
  induction n generalizing i L with
  | zero => rfl
  | succ n ih =>
    rw [List.range'_succ, List.map_cons, List.map_cons, Loop.setDws, Nat.add_assoc, ← Nat.mul_succ, ih, setDw_eq_put, put_put]
    rfl

theorem spread_words {a : Nat} (ha : 0x10000 ≤ a) (f : Nat → Word) (n : Nat) : Spread ((List.range n).map fun k => (a + 4 * k, f k)) := by
  refine ⟨fun e he => ?_, List.pairwise_map.mpr (List.pairwise_lt_range.imp fun hlt => .inl ?_)⟩
  · obtain ⟨k, -, rfl⟩ := List.mem_map.mp he
    exact ha.trans (Nat.le_add_right ..)
  · dsimp only
    omega

section
variable {s : State} {l : Nat} (h : s.Ready l) (d a b : Reg) (m : BitVec 5)

section
variable {ga gb : Nat} (hA : ((s.loop l).rg a).toNat = ga) (hB : ((s.loop l).rg b).toNat = gb) (hm : m.toNat / 8 < 3)
include h hA hB hm

omit hB in
theorem fir_beyond (ecc : Ecc) (ho : firRange (m.toNat / 8) ≤ ga) : exec (.fir l d a b m ecc) s =
    .next (s.takeTrap l ⟨2, 8, ga⟩ (s.late (s.loop l) 40) (encodeInstr (.fir l d a b m ecc))) := by
  refine congrArg _ (runMem_trap h _ ?_)
  dsimp only
  rw [hA, if_neg (by omega), if_pos ho]
  rfl

variable (hin : ga < firRange (m.toNat / 8))
include hin

theorem fir_outside (ecc : Ecc) (ho : ¬(0x10000 ≤ gb ∧ gb + 64 ≤ 0x10000 + (s.loop l).decl.dsize)) : exec (.fir l d a b m ecc) s =
    .next (s.takeTrap l ⟨2, 8, gb⟩ (s.late (s.loop l) 40) (encodeInstr (.fir l d a b m ecc))) := by
  have hno : (!(s.loop l).inData gb 64) = true := by simpa using mt (inData_iff (s.loop l) gb 64).mp ho
  refine congrArg _ (runMem_trap h _ ?_)
  dsimp only
  rw [hA, hB, if_neg (by omega), if_neg (by omega), if_pos hno]
  rfl

variable (hd : 0x10000 ≤ gb ∧ gb + 64 ≤ 0x10000 + (s.loop l).decl.dsize)
include hd

theorem fir_misaligned (ecc : Ecc) (hmis : gb % 64 ≠ 0) : exec (.fir l d a b m ecc) s =
    .next (s.takeTrap l ⟨3, 0, gb⟩ (s.late (s.loop l) 40) (encodeInstr (.fir l d a b m ecc))) := by
  have hyes : ¬(!(s.loop l).inData gb 64) = true := by simpa using (inData_iff (s.loop l) gb 64).mpr hd
  refine congrArg _ (runMem_trap h _ ?_)
  dsimp only
  rw [hA, hB, if_neg (by omega), if_neg (by omega), if_neg hyes, if_pos hmis]
  rfl

theorem fir_reads (hal : gb % 64 = 0) {key : Nat × Bool} (hkey : s.firLine (s.loop l).cell (m.toNat / 8) ga (m.toNat % 8) = key) :
    ∃ (t : State) (k : Nat), exec (.fir l d a b m .ok) s = .next t ∧ 120 ≤ k ∧ k ≤ 1240 ∧
      State.LawDone l d (if key.2 then (if s.isMarked key.1 then 3 else 1) else 0)
        ((List.range 16).map fun i => (gb + 4 * i, if key.2 then s.fiRead (key.1 + i) else 0))
        (fun i => if i = 14 then some (!key.2 || s.isMarked key.1) else none) k s.draw t := by
  have hyes : ¬(!(s.loop l).inData gb 64) = true := by simpa using (inData_iff (s.loop l) gb 64).mpr hd
  have hcost := count_bounds s (show 80 ≤ 1200 by decide)
  have hecc : (if key.2 then s.fiEcc key.1 (s.loop l).cell none .ok else s) = s := ite_self _
  have hgd : (if !key.2 then (0 : Word) else if s.isMarked key.1 then 3 else 1) = if key.2 then (if s.isMarked key.1 then 3 else 1) else 0 := by
    cases key.2 <;> rfl
  have hstl : ((if key.2 then (if s.isMarked key.1 then (3 : Word) else 1) else 0) != 1) = (!key.2 || s.isMarked key.1) := by
    cases key.2 <;> cases s.isMarked key.1 <;> rfl
  have hx : exec (.fir l d a b m .ok) s = .next (s.draw.retire l (40 + s.count 80 1200) fun L =>
      ((L.setDws gb ((List.range 16).map fun i => if key.2 then s.fiRead (key.1 + i) else 0)).wg d
        (if key.2 then (if s.isMarked key.1 then 3 else 1) else 0)).setFlag flagSTL (!key.2 || s.isMarked key.1)) := by
    refine congrArg _ (runMem_done h _ ?_)
    dsimp only
    rw [hA, hB, if_neg (by omega), if_neg (by omega), if_neg hyes, if_neg (not_not.mpr hal), hkey, hecc, hgd, hstl]
  have hput : (s.loop l).setDws gb ((List.range 16).map fun i => if key.2 then s.fiRead (key.1 + i) else 0) =
      (s.loop l).put ((List.range 16).map fun i => (gb + 4 * i, if key.2 then s.fiRead (key.1 + i) else 0)) := by
    rw [List.range_eq_range']
    exact setDws_eq_put gb _ 16 0 _
  obtain ⟨t, ht, -, hdone⟩ := retire_done (d := d) hx _ (setFlag_flagged ..) hput
    (wordsWritten_self (spread_words hd.1 _ 16)) (flagsStick_one _ (by decide) _)
  exact ⟨t, _, ht, by omega, by omega, hdone⟩
end
end

/-- Settles O17: an OUT is one slot's value, a TAP is offered to each buffer on its own, a FIR is one line of the field image. -/
theorem outTapAndFir : Obligations.OutTapAndFir := by
  unfold Obligations.OutTapAndFir
  intro s l d a b m h L n v word traps
  refine ⟨⟨fun hn => ?_, fun hn ho => ?_, fun hn ho hf => ?_, fun hn ho hf => ?_⟩, ⟨tap_unarmed h m a b, fun hm => ?_⟩, ?_⟩
  · exact congrArg _ (runInstr_trap h _ _ (outSlot_unknown hn))
  · exact congrArg _ (runInstr_trap h _ _ (outSlot_foreign hn ho))
  · exact congrArg _ (runInstr_trap h _ _ (outSlot_notFinite hn ho hf))
  · exact out_holds h a b rfl rfl hn ho hf
  · obtain ⟨hparts, hloop⟩ := tapped_frame s l m.toNat (L.rg a) v
    exact ⟨_, tap_armed h m a b hm, hparts, hloop, fun k hk =>
      ⟨tapped_unarmed _ _ hk, fun harm htrig => tapped_armed _ _ hk m.isLt harm htrig⟩⟩
  · intro gb region count key stale traps inside hr
    exact ⟨fun hn e => fir_beyond h d a b m rfl hr e hn, fun hn hi e => fir_outside h d a b m rfl rfl hr hn e hi,
      fun hn hi hm e => fir_misaligned h d a b m rfl rfl hr hn hi e hm, fun hn hi hm => fir_reads h d a b m rfl rfl hr hn hi hm rfl⟩

end Sys2Proof.Machine
end

section
/-! SUPPORT. LOOP_DISPATCH (R56, R57, R100, R101). -/
namespace Sys2Proof.Machine

/-! ### The pairs that execute a loop -/

theorem pair_runOn (l p q : Nat) (s : State) :
    (State.runOn l s q).pair p = if p = q then { s.pair p with running := some l } else s.pair p := by
  unfold State.runOn
  split
  · next h =>
    subst h
    exact pair_setPair_same ..
  · next h => exact pair_setPair_ne _ h _

theorem pair_runOns (l p : Nat) (qs : List Nat) (s : State) :
    (qs.foldl (State.runOn l) s).pair p = if p ∈ qs then { s.pair p with running := some l } else s.pair p := by
  induction qs generalizing s with
  | nil => rfl
  | cons q qs ih =>
    rw [List.foldl_cons, ih, pair_runOn]
    by_cases hq : p = q <;> by_cases hqs : p ∈ qs <;> simp [hq, hqs]

theorem adds_runOns (l : Nat) (qs : List Nat) (s : State) : State.Adds [.pairs] [] s (qs.foldl (State.runOn l) s) :=
  adds_foldl (fun _ _ _ => adds_setPair ..) s

/-! ### The checkpoint resumed (R100, R101) -/

/-- The periods that have passed since the period of the checkpoint in force. -/
def Loop.passed (L : Loop) (now : Nat) : Nat :=
  (periodStart L.period now - if L.ckpt.initial then L.period0 else L.ckpt.start) / L.period

/-- The index of the period that a dispatch begins. -/
def Loop.nextPer (L : Loop) (now : Nat) : Nat := (L.ckpt.per + L.passed now) % 0x100000000

/-- The loop as its checkpoint in force leaves it, its period begun. -/
def Loop.begun (L : Loop) (now : Nat) : Loop :=
  { L with
    g := L.ckpt.g, pc := L.ckpt.pc, flg := L.ckpt.flg, per := L.nextPer now, data := L.ckpt.data, nowh := 0, inPeriod := true,
    waiting := none, start := periodStart L.period now, due := nextBoundary L.period now, cycles := 0,
    outs := if L.nextPer now = L.per then L.outs else [], state := .running }

section
variable (L : Loop) (now : Nat)

theorem resume_eq : L.resume now =
    if L.ckpt.initial then L.begun now else (L.begun now).wg (BitVec.ofNat 5 L.ckpt.gd) (w32 (sat 0xFFFFFFFF (L.passed now))) := rfl

theorem resume_frame : L.resume now = { L.begun now with g := (L.resume now).g } := by
  rw [resume_eq]
  split
  · rfl
  · exact wg_frame ..

theorem rg_resume (r : Reg) : (L.resume now).rg r = if r = 0 then 0
    else if L.ckpt.initial = false ∧ r = BitVec.ofNat 5 L.ckpt.gd then w32 (min (L.passed now) 0xFFFFFFFF) else mget 0 r.toNat L.ckpt.g := by
  rw [resume_eq]
  cases hi : L.ckpt.initial with
  | true => rw [if_pos rfl, if_neg (fun h : true = false ∧ _ => Bool.noConfusion h.1), Loop.rg]; rfl
  | false =>
    rw [if_neg Bool.false_ne_true, rg_wg, sat_eq, Nat.min_comm]
    simp only [true_and]
    split
    · rfl
    · split
      · rfl
      · next h _ => exact if_neg h

theorem nextBoundary_eq (period t : Nat) : nextBoundary period t = t / period * period + period := Nat.succ_mul ..
end

/-! ### Who takes up a due loop -/

section
variable {s : State} {l p : Nat}

/-- A pair takes up a loop that no due loop of the pair goes before. -/
theorem pairTakes_of_first (hrise : mRising 0 s.loops = true)
    (hp : (s.pair p).state = pairActive ∧ (s.pair p).check = false ∧ (s.pair p).running = none)
    (hfirst : ∀ m, (s.loop m).state ≠ .free → (s.loop m).pair = p ∨ (s.loop m).pair2 = some p → s.dueNow (s.loop m) = true →
      s.first l m = true) : s.pairTakes l p = true := by
  obtain ⟨hstate, hcheck, hrun⟩ := hp
  unfold State.pairTakes
  dsimp only
  rw [hstate, hcheck, hrun]
  simp only [beq_self_eq_true, Bool.not_false, Option.isNone_none, Bool.true_and, List.all_eq_true, List.mem_filter, and_imp]
  intro e he hdue
  have hl := loop_of_mem_pairLoops hrise he
  simp only [State.pairLoops, State.liveLoops, List.mem_filter, bne_iff_ne, Bool.or_eq_true, beq_iff_eq] at he
  rw [← hl] at he hdue
  exact hfirst _ he.1.2 he.2 hdue

theorem dispatch_frame (s : State) (l : Nat) : State.Only [.loops, .pairs, .act] s (s.dispatch l) ∧
    State.OnlyRegs [bk l Reg.RTC_SECL, bk l Reg.RTC_SECH] s (s.dispatch l) := by
  have h := (((adds_setLoop s l ((s.loop l).resume s.dtb)).step (adds_runOns l (s.loop l).onPairs _)).step
    (adds_setReg _ (bk l Reg.RTC_SECL) 0)).step (adds_setReg _ (bk l Reg.RTC_SECH) 0)
  have h' := h.within (ps := [.loops, .pairs, .act]) (ks := [bk l Reg.RTC_SECL, bk l Reg.RTC_SECH]) (by decide) (List.Subset.refl _)
  exact ⟨h'.1, h'.2.1⟩

theorem loop_dispatch (s : State) (l k : Nat) : (s.dispatch l).loop k = (s.setLoop l ((s.loop l).resume s.dtb)).loop k := by
  unfold State.dispatch
  rw [loop_setReg, loop_setReg]
  exact loop_of_adds (adds_runOns ..) (by decide) k

theorem pair_dispatch (s : State) (l p : Nat) :
    (s.dispatch l).pair p = if p ∈ (s.loop l).onPairs then { s.pair p with running := some l } else s.pair p := by
  unfold State.dispatch
  rw [pair_setReg, pair_setReg, pair_runOns, pair_setLoop]
end

/-- Settles O18: a dispatch resumes the loop on its pairs and clears its latches of the RTC. -/
theorem loopDispatchResumesTheCheckpoint : Obligations.LoopDispatchResumesTheCheckpoint := by
  unfold Obligations.LoopDispatchResumesTheCheckpoint
  intro s l L c start j
  refine ⟨fun hdue => if_neg (by simp [show s.dueNow (s.loop l) = false from hdue]), fun hdue hsafe hpairs hfirst hrise => ?_⟩
  have htakes : L.onPairs.all (s.pairTakes l) = true :=
    List.all_eq_true.mpr fun p hp => pairTakes_of_first hrise (hpairs p hp) (hfirst p hp)
  have hx : exec (.loopDispatch l) s = .next (s.dispatch l) :=
    if_pos (by rw [show s.dueNow (s.loop l) = true from hdue, hsafe]; exact htakes)
  obtain ⟨hparts, hregs⟩ := dispatch_frame s l
  refine ⟨_, hx, hparts, hregs, pair_dispatch s l, fun k hk => ?_, ?_, fun r => ?_⟩
  · rw [loop_dispatch, loop_setLoop_ne _ hk]
  · rw [loop_dispatch, loop_setLoop_same, ← nextBoundary_eq]
    exact resume_frame L s.dtb
  · rw [loop_dispatch, loop_setLoop_same]
    exact rg_resume L s.dtb r

end Sys2Proof.Machine
end

section
/-! SUPPORT. The end of a cell reset (R57, R173, R174): loops at their initial state, loops freed, the cell's memory. -/
namespace Sys2Proof.Machine

/-- A fold brings about `P` at one of its items, where `Q` holds until then and `P` from then on. -/
theorem foldl_establishes {α : Type} {f : State → α → State} {P Q : State → Prop} {x : α} (hQ : ∀ s y, Q s → Q (f s y))
    (hx : ∀ s, Q s → P (f s x)) (hP : ∀ s y, P s → P (f s y)) {xs : List α} (hmem : x ∈ xs)
    {s : State} (hs : Q s) : P (xs.foldl f s) := by
  obtain ⟨before, after, rfl⟩ := List.append_of_mem hmem
  rw [List.foldl_append, List.foldl_cons]
  exact List.foldlRecOn after f (hx _ (List.foldlRecOn before f hs fun t ht y _ => hQ t y ht)) fun t ht y _ => hP t y ht

/-! ### Loops at their initial state (R57) -/

/-- A loop with a declaration at its initial state. -/
def Loop.Initial (d : Decl) (M : Loop) : Prop :=
  M.g = [] ∧ M.flg = 0 ∧ M.per = 0 ∧ M.pc = d.entry ∧ M.data = d.init ∧ M.inPeriod = false

section
variable (s : State) (l k : Nat)

theorem adds_readyLoop : State.Adds [.loops] [] s (s.readyLoop l) := adds_setLoop ..

theorem decl_readyLoop : ((s.readyLoop l).loop k).decl = (s.loop k).decl := by
  by_cases hk : k = l
  · subst hk
    unfold State.readyLoop
    dsimp only
    rw [loop_setLoop_same]
  · exact congrArg Loop.decl (loop_setLoop_ne _ hk _)

theorem readyLoop_initial : ((s.readyLoop l).loop l).Initial (s.loop l).decl := by
  unfold State.readyLoop
  dsimp only
  rw [loop_setLoop_same]
  exact ⟨rfl, rfl, rfl, rfl, rfl, rfl⟩

theorem readyLoop_keeps_initial {d : Decl} (hd : (s.loop k).decl = d) (hi : (s.loop k).Initial d) : ((s.readyLoop l).loop k).Initial d := by
  by_cases hk : k = l
  · subst hk
    exact hd ▸ readyLoop_initial s k
  · rw [State.readyLoop, loop_setLoop_ne _ hk]
    exact hi

theorem loop_periodEnd_ne (hk : k ≠ l) : (s.periodEnd l).loop k = s.loop k := by
  unfold State.periodEnd
  dsimp only
  split_ifs
  · rw [loop_congr (loops_releaseSlots ..), loop_setLoop_ne _ hk]
  · rw [loop_congr (loops_releaseSlots ..), loop_setLoop_ne _ hk]
  · rfl

/-- A suspension concerns its loop and the loop's slots. -/
theorem adds_suspendLoop : State.Adds [.loops, .slots] [] s (s.suspendLoop l) := by
  unfold State.suspendLoop
  split
  · exact adds_refl ..
  · exact (periodEnd_holds s l).1

theorem loop_suspendLoop_ne (hk : k ≠ l) : (s.suspendLoop l).loop k = s.loop k := by
  unfold State.suspendLoop
  split
  · rfl
  · exact loop_periodEnd_ne s l k hk

theorem placed_suspendLoop : (s.loop l).Placed ((s.suspendLoop l).loop l) := by
  unfold State.suspendLoop
  split
  · exact Loop.Placed.refl _
  · exact (periodEnd_holds s l).2.1

theorem adds_suspend (b : Bool) : State.Adds [.loops, .slots] [] s (s.suspend b l) := by
  unfold State.suspend
  extract_lets L L1 s1
  have h1 : State.Adds [.loops, .slots] [] s s1 := (adds_setLoop ..).within (by decide) (by decide)
  split
  · exact h1.trans (adds_suspendLoop ..)
  · exact h1

theorem initial_of_placed {d : Decl} {L M : Loop} (h : L.Placed M) (hi : L.Initial d) : M.Initial d := by
  obtain ⟨_, _, _, -, rfl⟩ := h
  exact hi

theorem suspend_keeps_initial {d : Decl} (b : Bool) (hi : (s.loop k).Initial d) : ((s.suspend b l).loop k).Initial d := by
  have h1 (M : Loop) (hM : (s.loop l).Initial d → M.Initial d) : ((s.setLoop l M).loop k).Initial d := by
    by_cases hk : k = l
    · subst hk
      rw [loop_setLoop_same]
      exact hM hi
    · rwa [loop_setLoop_ne _ hk]
  unfold State.suspend
  extract_lets L L1 s1
  have hs1 : (s1.loop k).Initial d := h1 L1 fun h => by
    unfold L1
    cases b <;> exact h
  split
  · by_cases hk : k = l
    · subst hk
      exact initial_of_placed (placed_suspendLoop ..) hs1
    · rwa [loop_suspendLoop_ne _ _ _ hk]
  · exact hs1
end

/-! ### Step 7 of a cell reset -/

theorem adds_setCredit (s : State) (c k : Nat) (v : Int) : State.Adds [.hwk] [] s (s.setCredit c k v) :=
  adds_of_only (by decide) (by decide) fun p hp => by
    cases p with
    | hwk => exact absurd (by decide) hp
    | _ => rfl

theorem adds_zeroCredits (s : State) (c : Nat) : State.Adds [.hwk] [] s (s.zeroCredits c) := adds_foldl (fun _ _ _ => adds_setCredit ..) s

theorem credit_setCredit (s : State) (c j k : Nat) (v : Int) : (s.setCredit c j v).credit c k = if k = j then v else s.credit c k := by
  unfold State.credit State.setCredit
  split
  · next h => rw [h, mget_mset_same]
  · next h => exact mget_mset_ne _ _ (by omega) ..

theorem credit_zeroCredits (s : State) (c : Nat) {k : Nat} (hk : k < 4) : (s.zeroCredits c).credit c k = 0 := by
  have hmem : k ∈ allKinds := by
    simp only [allKinds, List.mem_cons, List.not_mem_nil, or_false]
    omega
  refine foldl_establishes (f := fun t j => t.setCredit c j 0) (P := fun t => State.credit t c k = 0) (Q := fun _ => True)
    (fun _ _ _ => trivial) (fun t _ => ?_) (fun t j ht => ?_) hmem trivial
  · rw [credit_setCredit, if_pos rfl]
  · rw [credit_setCredit, ht, ite_self]

theorem mem_loopsOf {s : State} {c k : Nat} (hs : (s.loop k).state ≠ .free) (hc : (s.loop k).cell = c) : (k, s.loop k) ∈ s.loopsOf c := by
  have hmem : (k, s.loop k) ∈ s.loops := mem_of_mget_ne fun h => hs (by rw [State.loop, h]; rfl)
  simp [State.loopsOf, State.liveLoops, hmem, hs, hc]

/-- What the last steps of a cell reset do. -/
theorem zeroedCell_holds (s : State) (c : Nat) : State.Only [.cells, .loops, .slots, .hwk] s (s.zeroedCell c) ∧
    ((s.zeroedCell c).cell c).shared = [] ∧ ((s.zeroedCell c).cell c).badWords = [] ∧
    ((s.zeroedCell c).cell c).inc = (s.cell c).inc ∧ ((s.zeroedCell c).cell c).mem = s.regF (bk c Reg.PLC_GMEM) 12 0 ∧
    (∀ k, k < 4 → (s.zeroedCell c).credit c k = 0) ∧
    ∀ k, (s.loop k).state ≠ .free ∧ (s.loop k).cell = c → ((s.zeroedCell c).loop k).Initial (s.loop k).decl := by
  unfold State.zeroedCell
  extract_lets ls s1 x t4 x1 s2 s3 s4
  have hx : x = { s.cell c with mem := fld (s.reg (bk c Reg.PLC_GMEM)) 12 0, fast := fld (s.reg (bk c Reg.PLC_GMEM)) 28 16 } :=
    cell_setCell_same ..
  have h2 : State.Adds [.cells] [] s s2 := (adds_setCell s c _).trans (adds_setCell s1 c _)
  have h3 : State.Adds [.loops] [] s2 s3 := adds_foldl (fun t e _ => adds_readyLoop t e.1) s2
  have hstep (t : State) (e : Nat × Loop) : State.Adds [.loops, .slots] [] t
      (if t4 && !e.2.pinned then (if x1.csusp then t.suspend false e.1 else t).suspend true e.1
        else if x1.csusp then t.suspend false e.1 else t) := by
    split_ifs
    · exact (adds_suspend ..).trans (adds_suspend ..)
    · exact adds_suspend ..
    · exact adds_suspend ..
    · exact adds_refl ..
  have h4 : State.Adds [.loops, .slots] [] s3 s4 := adds_foldl (fun t e _ => hstep t e) s3
  have h5 := adds_zeroCredits s4 c
  have hcell : (s4.zeroCredits c).cell c = { x1 with state := x1.settled } := by
    rw [cell_of_adds h5 (by decide), cell_of_adds h4 (by decide), cell_of_adds h3 (by decide)]
    exact cell_setCell_same ..
  refine ⟨((((h2.step h3).step h4).step h5).within (by decide) (List.Subset.refl _)).1, ?_, ?_, ?_, ?_,
    fun k hk => credit_zeroCredits s4 c hk, fun k hk => ?_⟩
  · rw [hcell]
  · rw [hcell]
  · rw [hcell]
    show x.inc = _
    rw [hx]
  · rw [hcell]
    show x.mem = _
    rw [hx]
    rfl
  · have hmem : (k, s.loop k) ∈ ls := mem_loopsOf hk.1 hk.2
    have hready : (s3.loop k).decl = (s.loop k).decl ∧ (s3.loop k).Initial (s.loop k).decl := by
      refine foldl_establishes (f := fun t (e : Nat × Loop) => State.readyLoop t e.1) (Q := fun t => (State.loop t k).decl = (s.loop k).decl)
        (P := fun t => (State.loop t k).decl = (s.loop k).decl ∧ (State.loop t k).Initial (s.loop k).decl)
        (fun t e ht => (decl_readyLoop ..).trans ht) (fun t ht => ⟨(decl_readyLoop ..).trans ht, ht ▸ readyLoop_initial t k⟩)
        (fun t e ht => ⟨(decl_readyLoop ..).trans ht.1, readyLoop_keeps_initial _ _ _ ht.1 ht.2⟩) hmem ?_
      exact congrArg Loop.decl (loop_of_adds h2 (by decide) k)
    rw [loop_of_adds h5 (by decide)]
    refine List.foldlRecOn ls _ (motive := fun t => (State.loop t k).Initial (s.loop k).decl) hready.2 fun t ht e _ => ?_
    dsimp only
    split_ifs
    · exact suspend_keeps_initial _ _ _ _ (suspend_keeps_initial _ _ _ _ ht)
    · exact suspend_keeps_initial _ _ _ _ ht
    · exact suspend_keeps_initial _ _ _ _ ht
    · exact ht

/-! ### The end of an unload -/

theorem migDone_free (s : State) (m : Migration) (k : Nat) (hk : s.loop k = Loop.free) : (s.migDone m).loop k = Loop.free := by
  unfold State.migDone
  extract_lets s1
  have h1 : s1.loop k = s.loop k := loop_of_adds (adds_setReg ..) (by decide) k
  refine mget_map_rel (R := fun x y => x = Loop.free → y = Loop.free) id (fun e => ?_) (fun e => ?_) k s1.loops (h1.trans hk)
  · split <;> rfl
  · rintro he
    split
    · next h =>
      rw [he] at h
      exact absurd h.2 (by decide)
    · exact he

theorem migEnded_holds (s : State) (l : Nat) : State.Adds [.placer, .act, .loops] [Reg.PLC_MIG] s (s.migEnded l) ∧
    ∀ k, s.loop k = Loop.free → (s.migEnded l).loop k = Loop.free := by
  unfold State.migEnded
  extract_lets ms src s1
  refine ⟨((adds_setPlacer ..).step (adds_foldl (fun t m _ => (migDone_holds t m).1) s1)).within (by decide) (by decide), fun k hk => ?_⟩
  exact List.foldlRecOn _ _ (motive := fun t => State.loop t k = Loop.free) hk fun t ht m _ => migDone_free t m k ht

theorem freeLoop_holds (s : State) (l : Nat) : State.Adds [.placer, .act, .loops] [Reg.PLC_MIG] s (s.freeLoop l) ∧
    (s.freeLoop l).loop l = Loop.free ∧ ∀ k, s.loop k = Loop.free → (s.freeLoop l).loop k = Loop.free := by
  obtain ⟨hm, hf⟩ := migEnded_holds (s.setLoop l Loop.free) l
  unfold State.freeLoop
  refine ⟨(((adds_setLoop ..).step hm).step (adds_setPlacer ..)).within (by decide) (by decide), hf l (loop_setLoop_same ..),
    fun k hk => hf k ?_⟩
  by_cases hkl : k = l
  · subst hkl
    exact loop_setLoop_same ..
  · exact (loop_setLoop_ne _ hkl _).trans hk

/-- What the end of an unload does. -/
theorem unloadEnds_holds (s : State) (c : Nat) : State.Only [.cells, .loops, .pairs, .placer, .act, .recd] s (s.unloadEnds c) ∧
    (s.unloadEnds c).cell c = { Cell.empty with inc := (s.cell c).inc, staleSeen := (s.cell c).staleSeen } ∧
    ∀ k, (s.loop k).state ≠ .free ∧ (s.loop k).cell = c → (s.unloadEnds c).loop k = Loop.free := by
  have hfree : State.Adds [.placer, .act, .loops] [Reg.PLC_MIG] s (s.freeLoops c) := adds_foldl (fun t e _ => (freeLoop_holds t e.1).1) s
  unfold State.unloadEnds
  refine ⟨(((hfree.step (adds_setCell ..)).step (adds_replan ..)).within (by decide) (List.Subset.refl _)).1, ?_, fun k hk => ?_⟩
  · rw [cell_of_adds (adds_replan ..) (by decide)]
    exact cell_setCell_same ..
  · rw [loop_of_adds (adds_replan ..) (by decide), loop_setCell]
    exact foldl_establishes (f := fun t (e : Nat × Loop) => State.freeLoop t e.1) (P := fun t => State.loop t k = Loop.free)
      (Q := fun _ => True) (fun _ _ _ => trivial)
      (fun t _ => (freeLoop_holds t k).2.1) (fun t e ht => (freeLoop_holds t e.1).2.2 k ht) (mem_loopsOf hk.1 hk.2) trivial

end Sys2Proof.Machine
end

section
/-! SUPPORT. Loop commands and the grant window (R164, R166, R170, R176), and O26. -/
namespace Sys2Proof.Machine

/-! ### The loops of a pair -/

section
variable {α : Type} {k : Nat} {m : SMap α} {p : Nat × α → Bool}

theorem filter_mdel (h : ∀ e ∈ m, e.1 = k → p e = false) : (mdel k m).filter p = m.filter p := by
  induction m with
  | nil => rfl
  | cons e m ih =>
    obtain ⟨j, v⟩ := e
    have ih := ih fun e he => h e (.tail _ he)
    rw [mdel]
    split
    · next hj => rw [ih, List.filter_cons_of_neg (by rw [h _ (.head _) hj]; exact Bool.false_ne_true)]
    · rw [List.filter_cons, List.filter_cons, ih]

theorem filter_mins {v : α} (h : p (k, v) = false) : (mins k v m).filter p = m.filter p := by
  have hdrop (xs : SMap α) : ((k, v) :: xs).filter p = xs.filter p :=
    List.filter_cons_of_neg (by rw [h]; exact Bool.false_ne_true)
  induction m with
  | nil => exact hdrop []
  | cons e m ih =>
    obtain ⟨j, w⟩ := e
    rw [mins]
    split
    · exact hdrop _
    · rw [List.filter_cons, List.filter_cons, ih]

/-- A key whose old and new values a filter drops. -/
theorem filter_mset [DecidableEq α] {d v : α} (h : ∀ e ∈ m, e.1 = k → p e = false) (hv : p (k, v) = false) :
    (mset d k v m).filter p = m.filter p := by
  unfold mset
  split
  · exact filter_mdel h
  · exact (filter_mins hv).trans (filter_mdel h)
end

section
variable {s t : State}

/-- A loop that is on a pair neither before nor after a change of it. -/
theorem pairLoops_setLoop {l p : Nat} {M : Loop} (hrise : mRising 0 s.loops = true)
    (hold : (s.loop l).pair ≠ p ∧ (s.loop l).pair2 ≠ some p) (hnew : M.pair ≠ p ∧ M.pair2 ≠ some p) : (s.setLoop l M).pairLoops p = s.pairLoops p := by
  unfold State.pairLoops State.liveLoops
  rw [List.filter_filter, List.filter_filter]
  refine filter_mset (fun e he hl => ?_) ?_
  · have hv : s.loop l = e.2 := hl ▸ (mget_of_mem _ hrise he).2
    rw [← hv]
    simp [hold.1, hold.2]
  · simp [hnew.1, hnew.2]

/-! ### Fit of a loop on a pair (R152, R153) -/

/-- A pair on which a loop may be placed anew. -/
def State.takes (s : State) (L : Loop) (q : Nat) : Prop := q < 32 ∧ s.pairCode q = pairActive ∧ s.fitsOn q L = true

section
variable (h : State.Only [.loops] s t) (hp : ∀ q, q < 32 → t.pairLoops q = s.pairLoops q)
include h hp

theorem pairCode_congr {q : Nat} (hq : q < 32) : t.pairCode q = s.pairCode q := by
  unfold State.pairCode State.pair State.shed
  rw [show t.pairs = s.pairs from h .pairs (by decide), show t.pwr = s.pwr from h .pwr (by decide), hp q hq]

theorem countPairs_congr (code : Nat) : t.countPairs code = s.countPairs code := by
  unfold State.countPairs
  rw [List.filter_congr fun q hq => by rw [pairCode_congr h hp (List.mem_range.mp hq)]]

theorem pairBudget_congr : t.pairBudget = s.pairBudget := by
  unfold State.pairBudget
  rw [show t.pwr = s.pwr from h .pwr (by decide), List.filter_congr fun q hq => by rw [hp q (List.mem_range.mp hq)]]

theorem fitsOn_congr {q : Nat} (hq : q < 32) (L : Loop) : t.fitsOn q L = s.fitsOn q L := by
  unfold State.fitsOn State.roomOn State.pairFree State.pair State.poweredPairs State.planHz State.regF State.reg
  rw [countPairs_congr h hp, countPairs_congr h hp, pairBudget_congr h hp, pairCode_congr h hp hq, hp q hq,
    show t.pairs = s.pairs from h .pairs (by decide), show t.act = s.act from h .act (by decide)]

theorem takes_congr {q : Nat} (L : Loop) : t.takes L q ↔ s.takes L q :=
  and_congr_right fun hq => by rw [pairCode_congr h hp hq, fitsOn_congr h hp hq]
end

/-- What fits is a matter of a loop's declaration, cell and code. -/
theorem takes_halted (s : State) (L : Loop) (b : Bool) (q : Nat) : s.takes { L with halted := b } q ↔ s.takes L q := Iff.rfl

theorem mem_insertByBurst (s : State) (x p : Nat) (qs : List Nat) : x ∈ insertByBurst s p qs ↔ x = p ∨ x ∈ qs := by
  induction qs with
  | nil => simp [insertByBurst]
  | cons q qs ih =>
    rw [insertByBurst]
    split
    · rw [List.mem_cons, ih, List.mem_cons]
      tauto
    · rw [List.mem_cons]

theorem mem_byBurst (s : State) (x : Nat) (ps : List Nat) : x ∈ s.byBurst ps ↔ x ∈ ps := by
  have hfold (acc : List Nat) : x ∈ ps.foldl (fun acc p => insertByBurst s p acc) acc ↔ x ∈ ps ∨ x ∈ acc := by
    induction ps generalizing acc with
    | nil => simp
    | cons p ps ih =>
      rw [List.foldl_cons, ih, mem_insertByBurst, List.mem_cons]
      tauto
  exact (hfold []).trans (by simp)

theorem mem_active (s : State) (x : Nat) :
    x ∈ s.byBurst (allPairs.filter fun p => s.pairCode p == pairActive) ↔ x < 32 ∧ s.pairCode x = pairActive := by
  rw [mem_byBurst, List.mem_filter, allPairs, List.mem_range, beq_iff_eq]

/-! ### A loop placed anew (R164) -/

section
variable (s : State) (l p : Nat)

theorem secondPair_holds : State.Adds [.loops, .placer] [] s (s.secondPair l p) ∧ ∀ k, k ≠ l → (s.secondPair l p).loop k = s.loop k := by
  unfold State.secondPair
  extract_lets L rest
  split
  · exact ⟨adds_refl .., fun _ _ => rfl⟩
  · split
    · exact ⟨(adds_setLoop ..).step (adds_setPlacer ..), fun k hk => (loop_setPlacer ..).trans (loop_setLoop_ne _ hk _)⟩
    · exact ⟨(adds_setPlacer ..).within (by decide) (by decide), fun k _ => loop_setPlacer ..⟩

/-- A loop put on a pair and made to go on, where nothing holds it. -/
def State.placedOn : State :=
  let L := s.loop l
  let s1 := s.secondPair l p
  let L1 := { L with pair := p, pair2 := (s1.loop l).pair2 }
  if L.cmdSusp || L.t4Susp then s1.setLoop l { L1 with state := .suspended } else s1.goOn l L1

theorem placedOn_holds : State.Adds [.loops, .placer] [] s (s.placedOn l p) ∧ ((s.placedOn l p).loop l).pair = p ∧
    ((s.placedOn l p).loop l).halted = (s.loop l).halted ∧ ((s.placedOn l p).loop l).ckpt = (s.loop l).ckpt ∧
    ∀ k, k ≠ l → (s.placedOn l p).loop k = s.loop k := by
  obtain ⟨hadds, hother⟩ := secondPair_holds s l p
  have hput (M : Loop) (hM : M.pair = p ∧ M.halted = (s.loop l).halted ∧ M.ckpt = (s.loop l).ckpt) :
      State.Adds [.loops, .placer] [] s ((s.secondPair l p).setLoop l M) ∧ (((s.secondPair l p).setLoop l M).loop l).pair = p ∧
        (((s.secondPair l p).setLoop l M).loop l).halted = (s.loop l).halted ∧
        (((s.secondPair l p).setLoop l M).loop l).ckpt = (s.loop l).ckpt ∧
        ∀ k, k ≠ l → ((s.secondPair l p).setLoop l M).loop k = s.loop k := by
    rw [loop_setLoop_same]
    exact ⟨(hadds.step (adds_setLoop ..)).within (by decide) (by decide), hM.1, hM.2.1, hM.2.2,
      fun k hk => (loop_setLoop_ne _ hk _).trans (hother k hk)⟩
  unfold State.placedOn
  extract_lets L s1 L1
  split
  · exact hput _ ⟨rfl, rfl, rfl⟩
  · exact hput _ ⟨rfl, rfl, rfl⟩

variable {s l}

theorem replace_none (h : ∀ q, ¬s.takes (s.loop l) q) : s.replace l = s := by
  have hnone : (s.byBurst (allPairs.filter fun p => s.pairCode p == pairActive)).find? (fun p => s.fitsOn p (s.loop l)) = none :=
    List.find?_eq_none.mpr fun q hq hf => h q ⟨((mem_active s q).mp hq).1, ((mem_active s q).mp hq).2, hf⟩
  unfold State.replace
  dsimp only
  rw [hnone]

theorem replace_some {q : Nat} (h : s.takes (s.loop l) q) (hh : (s.loop l).halted = false) :
    ∃ p, s.takes (s.loop l) p ∧ s.replace l = s.placedOn l p := by
  obtain ⟨hq, hact, hfit⟩ := h
  have hsome := (List.find?_isSome (p := fun p => s.fitsOn p (s.loop l))).mpr ⟨q, (mem_active s q).mpr ⟨hq, hact⟩, hfit⟩
  obtain ⟨p, hp⟩ := Option.isSome_iff_exists.mp hsome
  obtain ⟨hp32, hpact⟩ := (mem_active s p).mp (List.mem_of_find?_eq_some hp)
  refine ⟨p, ⟨hp32, hpact, List.find?_some (p := fun p => s.fitsOn p (s.loop l)) hp⟩, ?_⟩
  unfold State.replace
  dsimp only
  rw [hp]
  dsimp only
  exact if_neg (by rw [hh]; exact Bool.false_ne_true)
end
end

/-! ### The answer to a loop command -/

section
variable {s : State} {w : Who} (hg : s.granted w Reg.PLC_LCMD = true)
include hg

theorem restart_access : exec (.loopRestart w) s = .next (s.writeLcmd w 1) :=
  congrArg _ (access_granted (by decide) (by decide) hg _)

theorem stop_access : exec (.loopStop w) s = .next (s.writeLcmd w 2) :=
  congrArg _ (access_granted (by decide) (by decide) hg _)
end

/-- The answer to a command, in PLC_LRES of the accessor. -/
def State.lres (s : State) (w : Who) (r : Nat × State) : State := r.2.setReg (bk (s.whoCell w) Reg.PLC_LRES) (w32 r.1)

/-- The loop that the accessor's PLC_LSEL names. -/
def State.lsel (s : State) (w : Who) : Nat := s.regF (bk (s.whoCell w) Reg.PLC_LSEL) 12 0

section
variable {s : State} {w : Who} {cmd : Nat} (hc : cmd = 1 ∨ cmd = 2)
include hc

theorem writeLcmd_foreign (h0 : s.whoCell w ≠ 0) (hL : (s.loop (s.lsel w)).state = .free ∨ (s.loop (s.lsel w)).cell ≠ s.whoCell w) :
    s.writeLcmd w cmd = s.lres w (2, s) := by
  unfold State.lsel at hL
  unfold State.writeLcmd
  dsimp only
  rw [if_neg (by omega), if_pos ⟨h0, hL⟩]
  rfl

theorem writeLcmd_free (h0 : s.whoCell w = 0) (hL : (s.loop (s.lsel w)).state = .free) : s.writeLcmd w cmd = s.lres w (3, s) := by
  unfold State.lsel at hL
  unfold State.writeLcmd
  dsimp only
  rw [if_neg (by omega), if_neg (fun h => h.1 h0), if_pos hL]
  rfl

theorem writeLcmd_own (hL : (s.loop (s.lsel w)).state ≠ .free) (h0 : s.whoCell w = 0 ∨ (s.loop (s.lsel w)).cell = s.whoCell w) :
    s.writeLcmd w cmd = s.lres w (if cmd = 1 then s.restartLoop (s.lsel w) else s.stopLoop (s.lsel w)) := by
  have hno : ¬(s.whoCell w ≠ 0 ∧ ((s.loop (s.lsel w)).state = .free ∨ (s.loop (s.lsel w)).cell ≠ s.whoCell w)) := by tauto
  unfold State.lsel at hL hno
  unfold State.writeLcmd
  dsimp only
  rw [if_neg (by omega), if_neg hno, if_neg hL]
  rfl
end

section
variable (s : State) (w : Who)

theorem lres_answers (r : Nat) : State.Only [.act] s (s.lres w (r, s)) ∧ State.OnlyRegs [bk (s.whoCell w) Reg.PLC_LRES] s (s.lres w (r, s)) ∧
    (s.lres w (r, s)).reg (bk (s.whoCell w) Reg.PLC_LRES) = w32 r := by
  obtain ⟨hp, hr, -⟩ := adds_setReg s (bk (s.whoCell w) Reg.PLC_LRES) (w32 r)
  exact ⟨hp, hr, reg_setReg_same ..⟩

variable {s w} {u : State}

/-- A command that acts beside its answer. -/
theorem lres_acts {ps : List Part} (h : State.Adds ps [] s u) : State.Adds (.act :: ps) [bk (s.whoCell w) Reg.PLC_LRES] s (s.lres w (1, u)) ∧
    (s.lres w (1, u)).reg (bk (s.whoCell w) Reg.PLC_LRES) = 1 ∧ ∀ k, (s.lres w (1, u)).loop k = u.loop k := by
  refine ⟨(h.step (adds_setReg u _ _)).within ?_ (List.Subset.refl _), reg_setReg_same .., fun _ => loop_setReg ..⟩
  intro p hp
  simp only [List.mem_append, List.mem_cons, List.not_mem_nil, or_false] at hp ⊢
  exact hp.symm
end

end Sys2Proof.Machine
end

section
/-! SUPPORT. RESTART and STOP of a loop, the grant window (R164, R166, R170, R176), and O26. -/
namespace Sys2Proof.Machine

/-! ### RESTART (R164, R166) -/

/-- A loop that a RESTART makes go on, or that a suspension holds. -/
def State.restarted (s : State) (l : Nat) : Loop :=
  let L := s.loop l
  if L.cmdSusp || L.t4Susp then { L with halted := false, state := .suspended }
  else { L with
    halted := false, state := if s.dtb < L.period0 then .awaiting else .running
    due := max L.period0 (nextBoundary L.period s.dtb), boundary := max L.period0 (nextBoundary L.period s.dtb) }

section
variable {s : State} {l : Nat}

theorem restartLoop_running (h : (s.loop l).state ≠ .stopped) : s.restartLoop l = (3, s) := if_pos h

theorem restartLoop_placed (h : (s.loop l).state = .stopped) (hp : (s.loop l).pair ≠ noPair) :
    s.restartLoop l = (1, s.setLoop l (s.restarted l)) := by
  unfold State.restartLoop State.restarted
  dsimp only
  rw [if_neg (not_not.mpr h), if_neg hp]
  split
  · rfl
  · rfl

variable (hrise : mRising 0 s.loops = true) (h : (s.loop l).state = .stopped) (hp : (s.loop l).pair = noPair)
  (h2 : (s.loop l).pair2 = none)
include hrise hp h2

/-- A loop that no pair holds fits where it fitted before it was let go on. -/
theorem takes_unhalted (q : Nat) : (s.setLoop l { s.loop l with halted := false }).takes (s.loop l) q ↔ s.takes (s.loop l) q := by
  refine takes_congr (adds_setLoop ..).1 (fun p hp32 => ?_) _
  have hoff : (s.loop l).pair ≠ p ∧ (s.loop l).pair2 ≠ some p := by
    rw [hp, h2]
    exact ⟨hp32.ne', nofun⟩
  exact pairLoops_setLoop hrise hoff hoff

include h

theorem restartLoop_nowhere (hnone : ∀ q, ¬s.takes (s.loop l) q) : s.restartLoop l = (3, s) := by
  have hrep : (s.setLoop l { s.loop l with halted := false }).replace l = s.setLoop l { s.loop l with halted := false } := by
    refine replace_none fun q hq => hnone q ((takes_unhalted hrise hp h2 q).mp ?_)
    rwa [loop_setLoop_same, takes_halted] at hq
  unfold State.restartLoop
  dsimp only
  rw [if_neg (not_not.mpr h), if_pos hp, hrep, loop_setLoop_same, if_pos hp]
  rfl

/-- A RESTART that places the loop anew. -/
theorem restartLoop_anew {q : Nat} (hq : s.takes (s.loop l) q) : ∃ u, s.restartLoop l = (1, u) ∧ State.Adds [.loops, .placer] [] s u ∧
    s.takes (s.loop l) (u.loop l).pair ∧ (u.loop l).halted = false ∧ (u.loop l).ckpt = (s.loop l).ckpt ∧
    ∀ k, k ≠ l → u.loop k = s.loop k := by
  have hl : (s.setLoop l { s.loop l with halted := false }).loop l = { s.loop l with halted := false } := loop_setLoop_same ..
  obtain ⟨p, hfit, hrep⟩ := replace_some (s := s.setLoop l { s.loop l with halted := false }) (l := l) (q := q)
    (by rwa [hl, takes_halted, takes_unhalted hrise hp h2]) (by rw [hl])
  rw [hl, takes_halted, takes_unhalted hrise hp h2] at hfit
  obtain ⟨hadds, hpair, hhalt, hckpt, hother⟩ := placedOn_holds (s.setLoop l { s.loop l with halted := false }) l p
  rw [hl] at hhalt hckpt
  refine ⟨_, ?_, ((adds_setLoop ..).step hadds).within (by decide) (by decide), hpair.symm ▸ hfit, hhalt, hckpt,
    fun k hk => (hother k hk).trans (loop_setLoop_ne _ hk _)⟩
  have hne : p ≠ noPair := hfit.1.ne
  unfold State.restartLoop
  dsimp only
  rw [if_neg (not_not.mpr h), if_pos hp, hrep, hpair, if_neg hne]
  rfl
end

/-! ### STOP (R170) -/

section
variable {s : State} {l : Nat}

theorem stopLoop_idle (h : (s.loop l).runs = false) : s.stopLoop l = (3, s) := if_pos (by rw [h]; rfl)

theorem stopLoop_runs (h : (s.loop l).runs = true) : ∃ u, s.stopLoop l = (1, u) ∧ State.Adds [.loops, .slots] [] s u ∧
    (∀ k, k ≠ l → u.loop k = s.loop k) ∧ u.loop l = if (s.loop l).inPeriod then { s.loop l with stopReq := true }
      else { s.loop l with state := .stopped, halted := true, stopReq := false } := by
  refine ⟨_, if_neg (by rw [h]; exact Bool.false_ne_true), ((adds_setLoop ..).step (adds_suspendLoop ..)).within (by decide) (by decide),
    fun k hk => (loop_suspendLoop_ne _ _ _ hk).trans (loop_setLoop_ne _ hk _), ?_⟩
  unfold State.suspendLoop State.periodEnd
  dsimp only
  rw [loop_setLoop_same]
  dsimp only
  cases (s.loop l).inPeriod with
  | true =>
    rw [if_pos rfl, if_pos rfl, loop_setLoop_same]
  | false =>
    rw [if_neg Bool.false_ne_true, if_neg Bool.false_ne_true, if_pos rfl, loop_congr (loops_releaseSlots ..), loop_setLoop_same]
end

/-! ### Events and commands as instructions -/

section
variable {s : State} {w : Who} {c : Nat}

theorem zeroed_reset (h4 : (s.cell c).state = 4) (hp : s.cellPosted c = false) (hu : (s.cell c).unloading = false)
    (hi : s.sameIncTag c = false) :
    exec (.cellResetZeroed c) s = .next (s.zeroedCell c) := by
  rw [show exec (.cellResetZeroed c) s = execCellResetZeroed c s from rfl, execCellResetZeroed, hp, hu, hi,
    if_neg (fun h => h.elim (absurd h4) Bool.false_ne_true), if_neg Bool.false_ne_true, if_neg Bool.false_ne_true]

theorem zeroed_unload (h4 : (s.cell c).state = 4) (hp : s.cellPosted c = false) (hu : (s.cell c).unloading = true)
    (ht : frameAfter (s.cell c).resetAt ≤ s.dtb) : exec (.cellResetZeroed c) s = .next (s.unloadEnds c) := by
  rw [show exec (.cellResetZeroed c) s = execCellResetZeroed c s from rfl, execCellResetZeroed, hp, hu,
    if_neg (fun h => h.elim (absurd h4) Bool.false_ne_true), if_pos rfl, if_neg (not_lt.mpr ht)]

variable (hg : s.granted w Reg.PLC_LCMD = true) (hL : (s.loop (s.lsel w)).state ≠ .free)
  (h0 : s.whoCell w = 0 ∨ (s.loop (s.lsel w)).cell = s.whoCell w)
include hg hL h0

theorem restart_own : exec (.loopRestart w) s = .next (s.lres w (s.restartLoop (s.lsel w))) := by
  rw [restart_access hg, writeLcmd_own (.inl rfl) hL h0, if_pos rfl]

theorem stop_own : exec (.loopStop w) s = .next (s.lres w (s.stopLoop (s.lsel w))) := by
  rw [stop_access hg, writeLcmd_own (.inr rfl) hL h0, if_neg (by decide)]
end

/-- Settles O26: the end of a reset makes every loop initial, that of an unload frees them; a loop command acts on one loop, and the
placing anew looks at pairs that the loop is not on. -/
theorem cellResetsEndAndLoopCommands : Obligations.CellResetsEndAndLoopCommands := by
  unfold Obligations.CellResetsEndAndLoopCommands
  intro s c w x src l L res answers mine hrise
  have hans {i : Instr} {r : Nat} (hi : exec i s = .next (s.lres w (r, s))) : answers i r := ⟨_, hi, lres_answers s w r⟩
  refine ⟨fun h => ?_, fun h4 hp hu hi => ?_, fun h4 hp hu ht => ?_, fun hg h0 hL => ?_, fun hg h0 hL => ?_, fun hg hL h0 => ?_,
    fun hg h0 => ?_, fun hg h0 hd => ?_, fun hg h0 hd hp => ?_⟩
  · exact if_pos h
  · obtain ⟨hparts, hsh, hbad, hinc, hmem, hcred, hinit⟩ := zeroedCell_holds s c
    exact ⟨_, zeroed_reset h4 hp hu hi, hparts, hsh, hbad, hinc, hmem, hcred, hinit⟩
  · exact ⟨_, zeroed_unload h4 hp hu ht, unloadEnds_holds s c⟩
  · exact ⟨hans ((restart_access hg).trans (congrArg _ (writeLcmd_foreign (.inl rfl) h0 hL))),
      hans ((stop_access hg).trans (congrArg _ (writeLcmd_foreign (.inr rfl) h0 hL)))⟩
  · exact ⟨hans ((restart_access hg).trans (congrArg _ (writeLcmd_free (.inl rfl) h0 hL))),
      hans ((stop_access hg).trans (congrArg _ (writeLcmd_free (.inr rfl) h0 hL)))⟩
  · have hrestart {r : Nat × State} (hr : s.restartLoop l = r) : exec (.loopRestart w) s = .next (s.lres w r) :=
      hr ▸ restart_own hg hL h0
    have hstop {r : Nat × State} (hr : s.stopLoop l = r) : exec (.loopStop w) s = .next (s.lres w r) := hr ▸ stop_own hg hL h0
    refine ⟨fun hs => hans (hrestart (restartLoop_running hs)), fun hs hp => ?_, fun hs hp h2 => ?_,
      fun hr => hans (hstop (stopLoop_idle hr)), fun hr => ?_⟩
    · obtain ⟨hadds, hres, hloop⟩ := lres_acts (w := w) (adds_setLoop s l (s.restarted l))
      refine ⟨_, hrestart (restartLoop_placed hs hp), hadds.1, hres, hadds.2.1, fun k hk => ?_, ?_⟩
      · rw [hloop, loop_setLoop_ne _ hk]
      · rw [hloop, loop_setLoop_same]
        rfl
    · refine ⟨fun hnone => hans (hrestart (restartLoop_nowhere hrise hs hp h2 hnone)), fun q hq => ?_⟩
      obtain ⟨u, hu, hadds, hpair, hhalt, hckpt, hother⟩ := restartLoop_anew hrise hs hp h2 hq
      obtain ⟨hparts, hres, hloop⟩ := lres_acts (w := w) hadds
      refine ⟨_, hrestart hu, hparts.1, hres, ?_⟩
      rw [hloop]
      exact ⟨hpair, hhalt, hckpt, fun k hk => (hloop k).trans (hother k hk)⟩
    · obtain ⟨u, hu, hadds, hother, hl⟩ := stopLoop_runs hr
      obtain ⟨hparts, hres, hloop⟩ := lres_acts (w := w) hadds
      exact ⟨_, hstop hu, hparts.1, hres, fun k hk => (hloop k).trans (hother k hk), (hloop l).trans hl⟩
  · exact congrArg _ ((access_granted (by decide) (by decide) hg _).trans (if_neg h0))
  · exact congrArg _ ((access_granted (by decide) (by decide) hg _).trans ((if_pos h0).trans (if_pos ((Bool.or_eq_true _ _).mpr hd))))
  · exact congrArg _ ((access_granted (by decide) (by decide) hg _).trans ((if_pos h0).trans
      (if_neg (by rw [hd, hp]; exact Bool.false_ne_true))))

end Sys2Proof.Machine
end
